-- ==== Sys2Proof/Word.lean ====
section
/-! DEFINITION. The word and byte types. A register is a Word (R6), a memory cell holds a Byte. -/

namespace Sys2Proof

/-- A 32-bit register value (R6). -/
abbrev Word := BitVec 32

/-- A byte of memory or of a frame. -/
abbrev Byte := BitVec 8

end Sys2Proof
end

