-- ==== Sys2Proof/Syntax.lean ====
section
/-! DEFINITION. The syntax of the block: the operand types and the commands, one constructor for each row of
spec/opcode_table.json, in the order of the table. The docstring of a constructor names its row and the rule of the spec. -/

namespace Sys2Proof

/-- The requesters of register accesses (R19, R44). -/
inductive Requester where
  | pcie | ac (core : Fin 4) | trusted | jtag
  deriving DecidableEq, Repr

/-- The REQ code of a requester in GLB_ACC_ERR_INFO (Table 18 of 01_planes_and_datapath.md). -/
def Requester.code : Requester → Nat
  | .pcie => 0
  | .ac c => c.val + 1
  | .trusted => 5
  | .jtag => 6

/-- A line port: A, served by block LNA, or B, served by block LNB. -/
abbrev Port := Fin 2

/-- An access to the register space (R7): its address, its width in bytes, its byte enables, and the data of a write;
no data stands for a read. -/
structure RegAccess where
  addr : Nat
  width : Nat
  be : BitVec 4
  data : Option Word
  deriving DecidableEq, Repr

/-- What a shadow boundary belongs to (Table 3 of 01_planes_and_datapath.md): the unit whose end the block has reached. -/
inductive ShadowUnit where
  | dsp (x : Port) | fec (x : Port) | frm (x : Port) | cry (flow : Fin 1280) | mrg (flow : Fin 1280)
  | hst (lane : Fin 48) | rms (queue : Fin 65536) | rmsGlobal | capTap (tap : Fin 96)
  | clpTx (x : Port) | clpRx (x : Port) | tim | chn
  deriving DecidableEq, Repr

/-- The four corrections of a converter slice (R96, R100): offset in 1/1000 LSB, gain in 1/1000 %, timing skew in fs and
bandwidth mismatch in 1/1000 %. -/
structure SliceCorr where
  offset : Int := 0
  gain : Int := 0
  skew : Int := 0
  bandwidth : Int := 0
  deriving DecidableEq, Repr

/-- What the low-entropy guard counts in one window of one polarisation (R129): different points, the most frequent point,
and the repeats at lags 1 to 64. -/
structure GuardObs where
  distinct : Nat
  maxCount : Nat
  same : List Nat
  deriving DecidableEq, Repr

/-- What the DSP measures over a monitor interval (R141), in the units of the monitor registers. -/
structure LineMeas where
  snrX : BitVec 16
  snrY : BitVec 16
  fo : Int
  cd : Int
  dgd : BitVec 16
  pdl : BitVec 16
  sop : BitVec 16
  deriving DecidableEq, Repr

/-- What has a frame alignment of its own (R180, R186): a port's OTUCn framer, or a flow as a port carries it. -/
inductive AlignUnit where
  | port (x : Port)
  | flow (f : Fin 1280) (x : Port)
  deriving DecidableEq, Repr

/-- The bit errors that SM and PM BIP-8 find in each slice of a received frame, and those that SM and PM BEI report (Tables 17 and 20 of
06_otn_framing_and_tsi.md). -/
structure FrameErrs where
  smBip : List Nat := []
  smBei : Nat := 0
  pmBip : List Nat := []
  pmBei : Nat := 0
  deriving DecidableEq, Repr

/-- What is received at a bit offset where a frame was expected: its first bytes, one word of 16 bytes for each slice as the line carries
them (R176), of a flow the bytes of its one frame; and its errors. -/
structure FrameSeen where
  offset : Nat
  head : List Byte := []
  errs : FrameErrs := {}
  deriving DecidableEq, Repr

/-- The four APS/PCC bytes of a flow's frame, first byte most significant, with the frame's MFAS (Table 5). -/
structure ApsBytes where
  mfas : BitVec 8
  value : BitVec 32
  deriving DecidableEq, Repr

/-- A received overhead value with a persistence filter (Table 5 of 06_otn_framing_and_tsi.md). The MSI is given as the flow
of each slot, none for a slot it marks unallocated. -/
inductive OhItem where
  | smTti (x : Port) (bytes : List Byte)
  | smBdi (x : Port) (on : Bool)
  | smIae (x : Port) (on : Bool)
  | smBiae (x : Port) (on : Bool)
  | pmBdi (x : Port) (on : Bool)
  | pmStat (x : Port) (v : BitVec 3)
  | opuPt (x : Port) (v : BitVec 8)
  | opuMsi (x : Port) (slots : List (Option Nat))
  | flowBdi (f : Fin 1280) (on : Bool)
  | flowStat (f : Fin 1280) (v : BitVec 3)
  | flowPt (f : Fin 1280) (v : BitVec 8)
  deriving DecidableEq, Repr

/-- A frame of a flow: PM STAT, the 48 bytes of device overhead (R193, R212), its payload bytes, and its 42 ODU overhead bytes (rows 2 to 4,
columns 1 to 14), of which PM's are those of whoever sends it. -/
structure OduFrame where
  stat : BitVec 3
  overhead : List Byte
  payload : List Byte
  oh : List Byte := []
  deriving DecidableEq, Repr

/-- The two paths of a protected flow: W by port A, P by port B or Horug (Joins, 08_hitless_merge.md). -/
inductive MergePath where
  | pathW | pathP
  deriving DecidableEq, Repr

/-- Where a path's heartbeats come from: a line port, or Horug link k (R249, R466). -/
inductive HbSource where
  | port (x : Port)
  | link (k : Fin 2)
  deriving DecidableEq, Repr

/-- What a lane's receiver and training give (R259, R260, R262): the precoding training chose (bit 1 receive, bit 0 transmit),
the TX FIR it set (taps c(-3) to c(2)), and the CTLE code. -/
structure LaneEq where
  precode : BitVec 2 := 0
  fir : List Int := [0, 0, 0, 64, 0, 0]
  ctle : Nat := 16
  deriving DecidableEq, Repr

/-- The bits a lane's PRBS checker has received since it began to seed itself (R274). -/
structure PrbsBits where
  lane : Fin 48
  bits : List Bool
  deriving DecidableEq, Repr

/-- Bit errors of a PRBS checker in lock: in its last 4,096 bits, and since it locked or its counters were cleared (R274). -/
structure PrbsErrs where
  window : Nat
  total : Nat
  deriving DecidableEq, Repr

/-- The writes of R263 that return lanes to LISTEN: of a lane's control register or of a client's. -/
inductive LaneWrite where
  | lane (l : Fin 48) (value : Word)
  | client (c : Fin 48) (value : Word)
  deriving DecidableEq, Repr

/-- Where a queue command comes from: software through RMS_Q_CMD, or a probe engine (R340). -/
inductive CmdSource where
  | sw (req : Requester)
  | probe
  deriving DecidableEq, Repr

/-- An operation that waits for a pseudo-channel (R303): of a queue, or of window r served in a class. -/
inductive HbmSource where
  | queue (q : Fin 65536)
  | window (r : Fin 5)
  deriving DecidableEq, Repr

/-- A waiting HBM operation: its source, its byte address, and whether it writes. -/
structure HbmWait where
  src : HbmSource
  addr : Nat
  write : Bool
  deriving DecidableEq, Repr

/-- What the ECC found in an operation (R322). -/
inductive EccResult where
  | clean | corrected | uncorrectable
  deriving DecidableEq, Repr

/-- The filtered input pins (R346, R444). -/
inductive InputPin where
  | trigIn (i : Fin 4) | syncIn | ppsIn
  deriving DecidableEq, Repr

/-- A sample or symbol of both polarisations (Table 2 of 12_capture_and_pattern.md). -/
structure Sample4 where
  xi : Int
  xq : Int
  yi : Int
  yq : Int
  deriving DecidableEq, Repr

/-- The content of a window by the tap's format (Table 2 of 12_capture_and_pattern.md): samples (S8) or symbols in LSB (Y8), LLRs (L5), bits
(BIT), the bits of eight lanes (LANE) or bytes (BYTE), in stream order. -/
inductive WindowData where
  | samples (l : List Sample4)
  | llrs (l : List (BitVec 5))
  | bits (l : List Bool)
  | lanes (l : List (List Bool))
  | octets (l : List Byte)
  deriving DecidableEq, Repr

/-- What reaches a tap (R358, R359): a 512-bit window's content, with its unit, its index in the unit and its tap time
in 2^-40 ns; a client or management frame; input samples that form outputs of the tap's decimation chain from output first
on (R383); or the next entry of an event or Calliope tap, which the device holds itself. -/
inductive TapItem where
  | window (unit uoff time : Nat) (data : WindowData)
  | frame (unit time : Nat) (fcsErr : Bool) (bytes : List Byte)
  | outputs (unit uoff first time : Nat) (inputs : List Sample4)
  | entry
  deriving DecidableEq, Repr

/-- The transports of PTP event messages (R446). -/
inductive PtpTransport where
  | l2 | udp4 | udp6
  deriving DecidableEq, Repr

/-- A PTP message on the management lane: transport, messageType, domainNumber, sequenceId and correctionField (R446, R448). -/
structure PtpMsg where
  transport : PtpTransport
  msgType : BitVec 4
  domain : BitVec 8
  seqId : BitVec 16
  correction : BitVec 64
  deriving DecidableEq, Repr

/-- The timed output pins (R441, R445). -/
inductive OutputPin where
  | ppsOut | frameOut | syncOut
  deriving DecidableEq, Repr

/-- Bytes of an ODU flow for a Horug link (R454): up to 512 consecutive bytes of its ODUflex frames, and whether they begin a
frame. -/
structure OduCell where
  flow : Fin 1280
  first : Bool
  data : List Byte
  deriving DecidableEq, Repr

/-- An error of position (R456). -/
inductive ChainError where
  | headConflict | cable | size
  deriving DecidableEq, Repr


/-- A command of the block: a row of the table of operations and events with its operands. -/
inductive Instr where
  /-- REGISTER_WRITE (R12): A write to a register field that has no row of its own stores the value as its access code gives, subject to shadowing. -/
  | registerWrite (req : Requester) (acc : RegAccess)
  /-- RC_READ (R15): A read of an RC field returns its value and clears it. -/
  | rcRead (req : Requester) (addr : Nat)
  /-- LO_READ_SNAPSHOT (R18): A read of a _LO register snapshots the higher parts of the value for that requester. -/
  | loReadSnapshot (req : Requester) (addr : Nat)
  /-- HI_WRITE_APPLY (R21): A write to a _HI register applies all held parts of a wide value in one step. -/
  | hiWriteApply (req : Requester) (addr : Nat) (value : Word)
  /-- GLB_FENCE (R46): A write to GLB_FENCE records TOKEN and clears DONE for the writing requester. -/
  | glbFence (req : Requester) (token : BitVec 16)
  /-- FENCE_DONE (R46): DONE sets once every earlier write by that requester has been applied. -/
  | fenceDone (req : Requester)
  /-- SHADOW_COPY (R35): At a block's boundary, pending shadow values are copied to the active copies together. -/
  | shadowCopy (unit : ShadowUnit)
  /-- SHADOW_HOLD_CLEAR (R37): Clearing a GLB_SHADOW_HOLD bit releases the block's pending fields at its next boundary. -/
  | shadowHoldClear (req : Requester) (block : Fin 18)
  /-- BLOCK_RESET (R51): Writing a GLB_BLK_RESET bit, or a fault reaction, resets one block. -/
  | blockReset (req : Requester) (block : Fin 18)
  /-- BLOCK_RESET_DONE (R51): A block reset completes and the block's fields hold their presets or reset values. -/
  | blockResetDone (block : Fin 18)
  /-- CHIP_RESET (R52): A write of GLB_RESET_CTL with the key resets the chip. -/
  | chipReset (req : Requester) (key : BitVec 16) (chip : Bool)
  /-- POWER_ON (R520): VIN becomes valid for 1 ms with PWR_EN asserted and the module powers on. -/
  | powerOn (straps : BitVec 5)
  /-- VIN_LOSS (R520): VIN falls below 8.4 V or PWR_EN deasserts, and conversion stops. -/
  | vinLoss
  /-- PCIE_FUNCTION_RESET (R471): PERST_N, hot reset or FLR resets the PCIe function state. -/
  | pcieFunctionReset
  /-- PCIE_DOWN (R518): The PCIe link leaves L0 after being up. -/
  | pcieDown
  /-- LOAD_START (R69): Writing START in STR_LOAD_CTL begins fetching an image. -/
  | loadStart (req : Requester) (src : BitVec 2)
  /-- LOAD_FETCH_DONE (R69): The image fetch completes and STAGE goes to VERIFYING. -/
  | loadFetchDone (data : Option (List Byte))
  /-- LOAD_VERIFY_DONE (R71): Verification ends with STAGED, or FAILED with an error code. -/
  | loadVerifyDone
  /-- COMMIT (R74): A write of STR_COMMIT with the key starts a commit of the masked regions. -/
  | commit (req : Requester) (key : BitVec 16) (mask : BitVec 8)
  /-- COMMIT_CHECKS_DONE (R75): The commit checks end; the commit is refused or the named regions enter maintenance. -/
  | commitChecksDone
  /-- COMMIT_END (R77): The commit ends: connections, programs and queue maps installed and presets applied. -/
  | commitEnd
  /-- COMMIT_LATE (R76): A commit exceeds 50 ms per region and STR.02 fires. -/
  | commitLate
  /-- GLOBAL_COMMIT_RESET (R80): Lyfate resets the chip within 1 ms of a GLOBAL commit entering RESET_PENDING. -/
  | globalCommitReset
  /-- GLOBAL_RECOMMIT (R80): After trusted boot, Lyfate reverifies the staged image and commits all eight regions. -/
  | globalRecommit
  /-- CNV_RATE_WRITE (R89): A write of M different from the current value starts a relock of the port. -/
  | cnvRateWrite (req : Requester) (x : Port) (m : BitVec 6)
  /-- CNV_EN_WRITE (R91): A write of LNx_CNV_EN enables converters into LOCKING or disables them to OFF. -/
  | cnvEnWrite (req : Requester) (x : Port) (en : BitVec 8)
  /-- CONVERTER_LOCKED (R91): The synthesiser locks and the converter's clocks align; it enters CONVERGING. -/
  | converterLocked (x : Port) (c : Fin 8)
  /-- CNV_UNLOCK (R94): The converter synthesiser loses lock and every enabled converter enters LOCKING. -/
  | cnvUnlock (x : Port)
  /-- CAL_STEP (R96): A rotation step's dwell ends; corrections update and the handed-over slice becomes the spare. -/
  | calStep (x : Port) (c : Fin 8) (est : SliceCorr)
  /-- CAL_NOW (R92): Writing CAL_NOW puts enabled converters into CONVERGING from the factory record. -/
  | calNow (req : Requester) (x : Port)
  /-- ADC_OVERRANGE (R108): An ADC sample at −128 or +127 is marked overrange and counted in runs. -/
  | adcOverrange (x : Port) (a : Fin 4) (gap : Nat)
  /-- RX_LOS_ENTER (R136): A LOS condition arises and the port's receive state enters LOS. -/
  | rxLosEnter (x : Port) (below : Nat)
  /-- LOS_EXIT (R136): After 16 superframes above threshold the port leaves LOS. -/
  | losExit (x : Port) (below : List Nat)
  /-- CD_SEARCH_DONE (R123): The dispersion search completes and the port enters TIMING. -/
  | cdSearchDone (x : Port) (coarse : Nat) (fine : Int)
  /-- TIMING_DONE (R135): Clock pull-in completes and the port enters FO_ACQ. -/
  | timingDone (x : Port)
  /-- FO_ACQ_DONE (R135): Coarse frequency acquisition completes and the port enters BLIND. -/
  | foAcqDone (x : Port)
  /-- BLIND_DONE (R135): Blind butterfly convergence completes and the port enters SYNC. -/
  | blindDone (x : Port)
  /-- SYNC_FOUND (R138): The sync word matches in two superframes; polarisation is assigned and the port enters PILOT. -/
  | syncFound (x : Port) (word0 : Port) (word1 : Port)
  /-- TRACK_ENTER (R135): Pilot convergence completes and the port enters TRACK. -/
  | trackEnter (x : Port)
  /-- ACQ_TIMEOUT (R137): An acquisition state times out; FAIL counts and acquisition restarts. -/
  | acqTimeout (x : Port)
  /-- DSP_RESTART (R137): Writing RESTART restarts acquisition at the next superframe boundary. -/
  | dspRestart (req : Requester) (x : Port)
  /-- SYNC_LOSS (R139): Four unmatched superframes in TRACK re-enter BLIND. -/
  | syncLoss (x : Port) (pilots : List (Nat × Nat))
  /-- MON_UPDATE (R141): Every 1,024 superframes in TRACK the DSP and FEC monitors update. -/
  | monUpdate (x : Port) (m : LineMeas)
  /-- GUARD_WINDOW (R129): At each window end the low-entropy guard evaluates collapse and updates its state. -/
  | guardWindow (x : Port) (obsX : GuardObs) (obsY : GuardObs)
  /-- CYCLE_SLIP (R133): A phase jump over π/4 is resolved at the next pilot and counted. -/
  | cycleSlip (x : Port)
  /-- FADE_DONE (R147): A pre-distortion fade completes, FADE_DONE sets and any queued fade starts. -/
  | fadeDone (x : Port)
  /-- PD_COEF_WRITE (R148): A write to a pre-distortion coefficient is applied or refused. -/
  | pdCoefWrite (req : Requester) (x : Port) (bank : Fin 2) (dac : Fin 4) (tap : Fin 64) (coef : BitVec 16)
  /-- SUPERFRAME_ENCODE (R156): The encoder shapes and LDPC-encodes one superframe of OTU bits. -/
  | superframeEncode (x : Port) (bits : List Bool)
  /-- SUPERFRAME_DECODE (R167): The decoder completes decoding a superframe's codewords and rebuilds its shaping blocks. -/
  | superframeDecode (x : Port) (llrs : List (BitVec 5))
  /-- FEC_CNT_CLR (R171): Writing CNT_CLR clears the four FEC running counters in one cycle. -/
  | fecCntClr (req : Requester) (x : Port)
  /-- FAS_MATCH (R181): A FAS match outside IF creates or advances a candidate. -/
  | fasMatch (unit : AlignUnit) (offset : Nat) (head : List Byte) (errs : FrameErrs)
  /-- MF_CHECK_FRAME (R182): A check frame of the candidate in MF_CHECK tests MFAS continuity. -/
  | mfCheckFrame (unit : AlignUnit) (head : List Byte)
  /-- REVOKE (R183): A candidate not confirmed by check frame 4 is revoked and its offset barred. -/
  | revoke (unit : AlignUnit)
  /-- BAR_EXPIRY (R183): An offset's 8-frame bar ends. -/
  | barExpiry (unit : AlignUnit) (offset : Nat)
  /-- OOF (R184): N_OUT consecutive FAS misses in IF take the framer to OOF. -/
  | oof (unit : AlignUnit)
  /-- OOM_SET (R184): Five MFAS mismatches set OOM and hold the multiframe phase. -/
  | oomSet (unit : AlignUnit)
  /-- OOM_CLEAR (R184): Two frames following the held phase clear OOM. -/
  | oomClear (unit : AlignUnit)
  /-- LOF_CHANGE (R185): After 3 ms outside or inside IF, LOF sets or clears. -/
  | lofChange (unit : AlignUnit)
  /-- LOM_CHANGE (R185): After 3 ms of OOM present or clear, LOM sets or clears. -/
  | lomChange (unit : AlignUnit)
  /-- OH_ACCEPT (R188): A received overhead value meets its persistence and is accepted. -/
  | ohAccept (item : OhItem)
  /-- APS_ACCEPT (R189): An APS/PCC candidate reaches APS_N and is accepted. -/
  | apsAccept (f : Fin 1280) (oh : ApsBytes)
  /-- MAP_ERR (R195): A frame with a bad Cm or IMP overflow counts a mapping error. -/
  | mapErr (f : Fin 1280)
  /-- TSI_SBY_WRITE (R198): A write to a standby TSI entry is applied at once or refused. -/
  | tsiSbyWrite (req : Requester) (set : Fin 4) (slot : Fin 640) (value : Word)
  /-- TSI_COPY (R199): Writing COPY bit s starts copying the active page to standby. -/
  | tsiCopy (req : Requester) (set : Fin 4)
  /-- TSI_COPY_DONE (R199): A page copy completes and COPY clears. -/
  | tsiCopyDone (set : Fin 4)
  /-- TSI_SWAP (R200): Writing SWAP bit s checks the standby page and makes the swap pending or refuses it. -/
  | tsiSwap (req : Requester) (set : Fin 4)
  /-- TSI_SWAP_APPLY (R201): At the multiframe boundary the pages exchange roles and DONE sets. -/
  | tsiSwapApply (set : Fin 4)
  /-- KEY_LOAD (R217): The KEY_LOAD mailbox command unwraps a key into a slot and makes it READY. -/
  | keyLoad (ch : Fin 5)
  /-- KEY_ERASE (R219): The KEY_ERASE mailbox command overwrites a slot and sets it EMPTY. -/
  | keyErase (ch : Fin 5)
  /-- CRYPTO_BLOCK_TX (R221): At a block boundary the transmitter chooses its slot and encrypts a new block. -/
  | cryptoBlockTx (f : Fin 1280) (frames : List OduFrame)
  /-- CRYPTO_BLOCK_RX (R223): A complete received block is checked and accepted or rejected. -/
  | cryptoBlockRx (f : Fin 1280) (frames : List OduFrame) (following : OduFrame)
  /-- CRYPTO_LATE (R226): A line block misses its deadline, is replaced with ODU-AIS and CRY.13 fires. -/
  | cryptoLate (f : Fin 1280) (tx : Bool)
  /-- CRYPTO_JOB (R231): A job descriptor is taken from a job queue and processed. -/
  | cryptoJob
  /-- CRYPTO_JOB_DONE (R231): A job completes, STATUS is written last and the queue event is raised. -/
  | cryptoJobDone (j : Fin 4)
  /-- DRBG_RESEED (R228): The DRBG reseeds at its interval. -/
  | drbgReseed
  /-- ENTROPY_FAIL (R229): The entropy source fails its health tests and the DRBG stops. -/
  | entropyFail
  /-- MERGE_DUP (R238): MRG.DUP numbers a frame and sends it on both paths. -/
  | mergeDup (f : Fin 1280) (frame : OduFrame)
  /-- MERGE_COPY (R247): A received copy is checked and stored, counted as late, early or duplicate. -/
  | mergeCopy (f : Fin 1280) (path : MergePath) (frame : OduFrame) (uncorrected : Bool)
  /-- MERGE_SLOT (R247): At each output slot MRG.SEL sends the held copy or ODU-AIS. -/
  | mergeSlot (f : Fin 1280)
  /-- PATH_TIMEOUT (R242): Eight frame periods without a valid copy move an OK path to FAILED. -/
  | pathTimeout (f : Fin 1280) (path : MergePath)
  /-- PATH_SIGNAL_FAIL (R243): Signal fail moves a path to FAILED. -/
  | pathSignalFail (f : Fin 1280) (path : MergePath)
  /-- PATH_SIGNAL_CLEAR (R242): Signal fail clears and a FAILED path enters ACQUIRING. -/
  | pathSignalClear (f : Fin 1280) (path : MergePath)
  /-- ANCHOR (R245): A flow's output anchors when both paths are OK. -/
  | anchor (f : Fin 1280)
  /-- ANCHOR_TIMEOUT (R245): One path OK for 20 ms anchors the output. -/
  | anchorTimeout (f : Fin 1280)
  /-- REALIGN (R245): Writing REALIGN drops and re-forms the anchor. -/
  | realign (req : Requester) (f : Fin 1280)
  /-- HEARTBEAT_LOSS (R249): A port's heartbeat is absent for HB_LOSS × 100 ms; failed paths take CLASS. -/
  | heartbeatLoss (src : HbSource)
  /-- OCTET_RELOCK (R254): A change of octet RATE or EN relocks the octet's PLL. -/
  | octetRelock (req : Requester) (g : Fin 6) (value : Word)
  /-- OCTET_LOCK (R254): The octet PLL locks after a relock. -/
  | octetLock (g : Fin 6)
  /-- SIGNAL_DETECT (R264): Signal detect asserts after 100 µs of input. -/
  | signalDetect (l : Fin 48) (eq : LaneEq)
  /-- SIGNAL_LOSS (R264): Signal detect deasserts; the lane leaves UP or aborts training. -/
  | signalLoss (l : Fin 48)
  /-- TRAIN_DONE (R265): Both receivers are ready and the lane enters UP. -/
  | trainDone (l : Fin 48) (eq : LaneEq)
  /-- TRAIN_TIMEOUT (R266): The max-wait timer expires and training aborts. -/
  | trainTimeout (l : Fin 48)
  /-- RETRY_TIMER (R267): The Horug retry interval ends and a new training attempt starts. -/
  | retryTimer (l : Fin 48)
  /-- LANE_RESTART (R265): Writing RESTART returns a lane to LISTEN. -/
  | laneRestart (req : Requester) (l : Fin 48)
  /-- LANE_CTL_WRITE (R263): A change of role or coding returns the affected lanes to LISTEN. -/
  | laneCtlWrite (req : Requester) (w : LaneWrite)
  /-- TX_FIR_WRITE (R262): A TX FIR write acts at once, or is discarded in TRAIN with FIR_REFUSED. -/
  | txFirWrite (req : Requester) (l : Fin 48) (reg : Fin 2) (value : Word)
  /-- PRBS_LOCK (R274): The checker declares lock after 1,024 error-free bits. -/
  | prbsLock (seen : PrbsBits)
  /-- PRBS_LOSS (R274): The checker loses lock, fires HST.05 and reseeds. -/
  | prbsLoss (l : Fin 48) (errs : PrbsErrs)
  /-- PRBS_CNT_CLR (R274): Writing CNT_CLR clears BITS and ERRS. -/
  | prbsCntClr (req : Requester) (l : Fin 48)
  /-- RS_CODEWORD (R271): An RS(544,514) codeword is received and counted. -/
  | rsCodeword (c : Fin 48) (corrected : Bool) (uncorrected : Bool)
  /-- CLIENT_CNT_CLR (R271): Writing CNT_CLR clears the client's CW, CORR and UNCORR. -/
  | clientCntClr (req : Requester) (c : Fin 48)
  /-- FRAME_LOCK (R279): Three valid frames declare FRAME_LOCK on a spill lane. -/
  | frameLock (l : Fin 48)
  /-- FRAME_LOCK_LOSS (R279): Eight frames with bad SYNC lose FRAME_LOCK. -/
  | frameLockLoss (l : Fin 48)
  /-- TSUCOR_FRAME_RX (R282): A received Tsucor frame is delivered, dropped or discarded by kind and CRC. -/
  | tsucorFrameRx (l : Fin 48) (frame : List Byte)
  /-- TSU_HELLO_TX (R283): Every HELLO_INT ms the device sends HELLO on each spill lane in UP. -/
  | tsuHelloTx
  /-- PARTNER_TIMEOUT (R283): No HELLO for HELLO_LOSS intervals invalidates a partner entry. -/
  | partnerTimeout (l : Fin 48)
  /-- DB_PROD (R296): A producer doorbell adds N to TAIL or is refused. -/
  | dbProd (req : Requester) (q : Fin 65536) (n : BitVec 24)
  /-- DB_CONS (R296): A consumer doorbell adds N to HEAD, releasing pages, or is refused. -/
  | dbCons (req : Requester) (q : Fin 65536) (n : BitVec 24)
  /-- WINDOW_READ (R298): A window read returns resident data or zero with WIN_MISS. -/
  | windowRead (r : Fin 5) (offset : Nat) (len : Nat)
  /-- WINDOW_WRITE (R298): A window write is stored, allocates a page or is discarded. -/
  | windowWrite (r : Fin 5) (offset : Nat) (data : List Byte)
  /-- DMA_PROD (R299): A write of RMS_DMA_PRODch posts descriptors or sets ERR. -/
  | dmaProd (req : Requester) (ch : Fin 64) (prod : BitVec 16)
  /-- DMA_DESCRIPTOR (R300): A channel starts its next descriptor once data or room is available. -/
  | dmaDescriptor (ch : Fin 64) (desc : List Byte)
  /-- DMA_COMPLETE (R301): A descriptor completes with data, status and CONS advance. -/
  | dmaComplete (ch : Fin 64) (data : List Byte) (busError : Bool)
  /-- DMA_ABORT (R302): Clearing EN aborts the descriptor in progress with ABORTED. -/
  | dmaAbort (req : Requester) (ch : Fin 64)
  /-- HBM_OP (R303): A pseudo-channel takes its next operation from the guaranteed or excess tier. -/
  | hbmOp (pc : Fin 16) (waiting : List HbmWait) (done : Nat) (ecc : EccResult)
  /-- GRANT_RECOMPUTE (R308): A change of capacity regrants reservations in fixed order. -/
  | grantRecompute (exits : List (Fin 16))
  /-- ADM_LIMIT_WRITE (R309): A write of ADM_LIMIT stores it, floored at kinds 0 and 1. -/
  | admLimitWrite (req : Requester) (limit : BitVec 12)
  /-- QUEUE_CAPTURE_WRITE (R310): Capture data offered to a queue is accepted, wrapped or refused. -/
  | queueCaptureWrite (t : Fin 96) (item : TapItem) (bufferFull : Bool)
  /-- CAROUSEL_ARM (R312): An ARM command releases pages and arms a Carousel. -/
  | carouselArm (src : CmdSource) (q : Fin 65536)
  /-- CAROUSEL_TRIGGER (R313): A TRIGGER command moves an ARMED Carousel to TRIGGERED. -/
  | carouselTrigger (src : CmdSource) (q : Fin 65536)
  /-- CAROUSEL_STOP (R312): A STOP command moves a Carousel to STOPPED. -/
  | carouselStop (src : CmdSource) (q : Fin 65536)
  /-- PAGING_RESUME (R317): Writing RESUME restarts halted paging of a queue. -/
  | pagingResume (req : Requester) (q : Fin 65536)
  /-- Q_EN_WRITE (R312): A change of queue EN sets a Carousel to IDLE or DISABLED. -/
  | qEnWrite (req : Requester) (q : Fin 65536) (en : Bool)
  /-- PAGE_OUT (R315): Resident pages above WM_HI start a page transfer to the store. -/
  | pageOut (q : Fin 65536)
  /-- PAGE_ACK (R317): A PAGE_ACK releases the page or retries or halts paging. -/
  | pageAck
  /-- PAGE_ACK_TIMEOUT (R317): ACK_TMO expires and the transfer is retried or fails. -/
  | pageAckTimeout (tag : BitVec 16)
  /-- PAGE_IN (R319): A consumer reaches an external page and page-in requests are sent. -/
  | pageIn (q : Fin 65536) (lpage : Nat)
  /-- PAGE_DATA (R317): A PAGE_DATA frame is written into a cache page or discarded. -/
  | pageData
  /-- SPILL_RECORD_SEND (R320): A spill queue sends a complete record as STREAM frames. -/
  | spillRecordSend (q : Fin 65536)
  /-- STREAM_SEQ_TIMEOUT (R321): A missing STREAM SEQ is skipped after ACK_TMO and counted as DROP. -/
  | streamSeqTimeout (q : Fin 65536)
  /-- ENGINE_RUN (R329): A RUN mask moves HALTED engines to RUNNING in one tick. -/
  | engineRun (req : Requester) (mask : BitVec 64)
  /-- ENGINE_HALT (R329): A HALT mask halts RUNNING or WAITING engines. -/
  | engineHalt (req : Requester) (mask : BitVec 64)
  /-- ENGINE_RESTART (R329): RESTART puts an engine in HALTED at PC 0 with state cleared. -/
  | engineRestart (req : Requester) (eng : Fin 64)
  /-- ENGINE_STEP (R329): STEP executes one instruction of a HALTED engine. -/
  | engineStep (req : Requester) (eng : Fin 64)
  /-- NOP (R336): The engine issues NOP. -/
  | nop (eng : Fin 64)
  /-- HALT (R334): The HALT instruction halts the engine with PC at the next word. -/
  | halt (eng : Fin 64)
  /-- ALU (R336): The ALU instruction computes rd from ra and rb. -/
  | alu (eng : Fin 64)
  /-- ADDI (R336): ADDI adds a sign-extended immediate. -/
  | addi (eng : Fin 64)
  /-- LDI (R336): LDI loads an immediate. -/
  | ldi (eng : Fin 64)
  /-- INS (R336): INS inserts a 16-bit field. -/
  | ins (eng : Fin 64)
  /-- BR (R336): BR branches when its condition holds. -/
  | br (eng : Fin 64)
  /-- JMP (R336): JMP jumps to its target. -/
  | jmp (eng : Fin 64)
  /-- JAL (R336): JAL saves PC + 1 and jumps. -/
  | jal (eng : Fin 64)
  /-- JR (R334): JR jumps to a register address. -/
  | jr (eng : Fin 64)
  /-- WAIT (R337): WAIT issues; it releases at once or the engine enters WAITING. -/
  | wait (eng : Fin 64)
  /-- WAIT_RELEASE (R337): A WAITING engine's condition becomes true; x62 is written and latches cleared. -/
  | waitRelease (eng : Fin 64)
  /-- EVRD (R336): EVRD reads the latch vector. -/
  | evrd (eng : Fin 64)
  /-- EVCLR (R337): EVCLR clears the masked latches. -/
  | evclr (eng : Fin 64)
  /-- ESEL (R337): ESEL changes an input's event line and clears its latch. -/
  | esel (eng : Fin 64)
  /-- TSET (R338): TSET loads a timer. -/
  | tset (eng : Fin 64)
  /-- TRD (R336): TRD reads a timer's remaining count. -/
  | trd (eng : Fin 64)
  /-- TIMER_EXPIRY (R338): An engine timer reaches its count and asserts its input. -/
  | timerExpiry (eng : Fin 64) (timer : Fin 8)
  /-- CNT_INC (R339): CNT INC adds 1 to a shared counter. -/
  | cntInc (eng : Fin 64)
  /-- CNT_ADD (R339): CNT ADD adds a register to a shared counter. -/
  | cntAdd (eng : Fin 64)
  /-- CNT_WR (R339): CNT WR writes a shared counter. -/
  | cntWr (eng : Fin 64)
  /-- CNT_RD (R339): CNT RD reads a shared counter. -/
  | cntRd (eng : Fin 64)
  /-- PRB_CNT_WRITE (R339): A software write of PRB_CNT_HIc applies as the last WR of its tick. -/
  | prbCntWrite (req : Requester) (counter : Fin 256) (hi : Word)
  /-- TRIG_PULSE (R342): TRIG PULSE drives a line for one tick or a pin for PW ticks. -/
  | trigPulse (eng : Fin 64)
  /-- TRIG_SET (R342): TRIG SET drives a line until cleared. -/
  | trigSet (eng : Fin 64)
  /-- TRIG_CLR (R342): TRIG CLR removes this engine's drive. -/
  | trigClr (eng : Fin 64)
  /-- TRIG_OUT_PULSE_END (R342): A pin pulse's PW count ends. -/
  | trigOutPulseEnd (eng : Fin 64) (pin : Fin 4)
  /-- CAP_START (R336): The CAP START instruction issues a start command to a tap. -/
  | capStart (eng : Fin 64)
  /-- CAP_STOP (R336): The CAP STOP instruction issues a stop command to a tap. -/
  | capStop (eng : Fin 64)
  /-- CAP_MARK (R336): The CAP MARK instruction issues a mark command to a tap. -/
  | capMark (eng : Fin 64)
  /-- CAP_DEST (R336): The CAP DEST instruction issues a destination change to a tap. -/
  | capDest (eng : Fin 64)
  /-- QCMD_ARM (R336): QCMD ARM issues an ARM command to a queue. -/
  | qcmdArm (eng : Fin 64)
  /-- QCMD_TRIGGER (R336): QCMD TRIGGER issues a TRIGGER command to a queue. -/
  | qcmdTrigger (eng : Fin 64)
  /-- QCMD_STOP (R336): QCMD STOP issues a STOP command to a queue. -/
  | qcmdStop (eng : Fin 64)
  /-- PLAY_START (R336): PLAY START issues a start command to a player. -/
  | playStart (eng : Fin 64)
  /-- PLAY_NEXT (R336): PLAY NEXT issues a queue-next command to a player. -/
  | playNext (eng : Fin 64)
  /-- PLAY_STOP (R336): PLAY STOP issues a stop command to a player. -/
  | playStop (eng : Fin 64)
  /-- TSR (R343): TSR reads the device time counter. -/
  | tsr (eng : Fin 64)
  /-- GET (R336): GET reads a parameter word. -/
  | get (eng : Fin 64)
  /-- PUT (R336): PUT writes an output word. -/
  | put (eng : Fin 64)
  /-- SIG (R336): SIG sets a signal bit for software. -/
  | sig (eng : Fin 64)
  /-- TRIG_IN_ASSERT (R346): A filtered TRIG_IN assertion is accepted or ignored as too soon. -/
  | trigInAssert (pin : Fin 4)
  /-- SECOND_EVENT (R439): The time counter's seconds advance by one through ADDEND and pull. -/
  | secondEvent
  /-- PM_MATCH (R350): A pre-matcher window matches, adds to HITS and may raise its event. -/
  | pmMatch (matcher : Fin 1536) (windows : List (Option Nat × BitVec 512))
  /-- PM_LOAD (R349): LOAD copies the pending MASK and VALUE to the active compare. -/
  | pmLoad (req : Requester) (matcher : Fin 1536)
  /-- PM_HITS_CLR (R350): HITS_CLR clears HITS and restarts the EVERY count. -/
  | pmHitsClr (req : Requester) (matcher : Fin 1536)
  /-- TAP_START (R366): A START reaches a tap and a capture begins. -/
  | tapStart (t : Fin 96) (dest : BitVec 16)
  /-- TAP_STOP (R370): A STOP reaches a tap and closes the capture or starts the post count. -/
  | tapStop (t : Fin 96)
  /-- TAP_MARK (R371): A MARK reaches a tap and records its value. -/
  | tapMark (t : Fin 96) (value : BitVec 32)
  /-- TAP_DEST (R366): A DEST reaches a tap and moves the capture at the next record boundary. -/
  | tapDest (t : Fin 96) (dest : BitVec 16)
  /-- RECORD_CLOSE (R369): A record reaches RECLEN, its header is written and the next begins. -/
  | recordClose (t : Fin 96)
  /-- RECORD_FLUSH (R369): An event tap's record held 2^FLUSH µs is closed. -/
  | recordFlush (t : Fin 96)
  /-- TAP_RETRY (R560): After refusal, the tap begins a new record once Ringmaster can accept one. -/
  | tapRetry (t : Fin 96) (item : TapItem)
  /-- TAP_SOURCE_LOSS (R372): The tap's source stops; the record truncates and the capture waits or ends. -/
  | tapSourceLoss (t : Fin 96)
  /-- TAP_SOURCE_RETURN (R372): The source returns and a WAITING capture resumes with a GAP record. -/
  | tapSourceReturn (t : Fin 96)
  /-- BUFFER_CAPTURE_END (R370): A buffer capture fills or finishes its post count and the header is written. -/
  | bufferCaptureEnd (t : Fin 96)
  /-- SRAM_OVF (R372): A tap stream exceeds its buffer's write rate and the capture ends truncated. -/
  | sramOvf (t : Fin 96)
  /-- DEC_RESET (R382): A decimation chain resets, clearing history and applying pending values. -/
  | decReset (c : Fin 8)
  /-- CAP_SYNC_RESET (R382): Writing a CAP_SYNC.RESET bit resets a chain. -/
  | capSyncReset (req : Requester) (mask : BitVec 8)
  /-- DEC_SATURATION (R381): A chain output saturates, setting SAT and firing CAP.05. -/
  | decSaturation (c : Fin 8)
  /-- PLAYER_START (R389): A START reaches a player and begins or arms a segment. -/
  | playerStart (p : Fin 64) (seg : BitVec 64)
  /-- PLAYER_NEXT (R388): A NEXT reaches a player and queues a segment. -/
  | playerNext (p : Fin 64) (seg : BitVec 64)
  /-- PLAYER_STOP (R389): A STOP reaches a player and ends playback at the next unit boundary. -/
  | playerStop (p : Fin 64)
  /-- PLAYER_PASS_END (R388): A segment pass ends and the player loops, moves on or stops. -/
  | playerPassEnd (p : Fin 64)
  /-- PLAYER_UNDERRUN (R391): Queue data is not resident when due and the player sends fill. -/
  | playerUnderrun (p : Fin 64)
  /-- SEG_WRITE (R392): A write to a segment entry is applied or refused. -/
  | segWrite (req : Requester) (seg : Fin 1024) (word : Fin 5) (value : Word)
  /-- CLP_PUSH (R406): PUSH queues the staged packet in the transmit FIFO or is refused. -/
  | clpPush (req : Requester) (x : Port)
  /-- CLP_HELLO_TIMER (R405): Every HELLO_INT ms a HELLO is made. -/
  | clpHelloTimer (x : Port)
  /-- CLP_TX_PACKET (R405): At a code-period boundary the transmitter starts its highest-priority packet. -/
  | clpTxPacket (x : Port)
  /-- CLP_TX_DONE (R405): A packet finishes sending. -/
  | clpTxDone (x : Port)
  /-- CLP_TX_ABORT (R407): Sending conditions fail and the packet is cut. -/
  | clpTxAbort (x : Port)
  /-- CLP_RX_OFF (R408): The receiver's run conditions fail and it goes to OFF. -/
  | clpRxOff (x : Port)
  /-- CLP_RX_ON (R408): The receiver's run conditions hold and it enters SEARCH. -/
  | clpRxOn (x : Port)
  /-- AGC_UPDATE (R410): Every 64 chips the AGC updates its gain unless frozen. -/
  | agcUpdate (x : Port) (wanted : Int)
  /-- PREAMBLE_DETECT (R409): A preamble is detected at a code phase. -/
  | preambleDetect (x : Port) (phase : Fin 2046) (power : Int) (gain : Nat)
  /-- SYNC_WORD_FOUND (R411): The sync word matches and the receiver enters RECEIVE with RSSI latched. -/
  | syncWordFound (x : Port) (decided : BitVec 32) (rssi : Int)
  /-- SYNC_TMO (R411): No sync word within 64 bits abandons the packet. -/
  | syncTmo (x : Port)
  /-- PACKET_RECEIVED (R413): A packet ends and is accepted, rejected or abandoned. -/
  | packetReceived (x : Port) (header : BitVec 16) (payload : List Byte) (crc : BitVec 16) (taps : List Int)
  /-- PARTNER_EXPIRY (R417): A Calliope partner entry times out and becomes invalid. -/
  | partnerExpiry (x : Port) (n : Fin 16)
  /-- CLP_POP (R406): POP removes the head of the receive FIFO. -/
  | clpPop (req : Requester) (x : Port)
  /-- EQ_RESET (R414): EQ_RESET restores the envelope equaliser to its initial taps. -/
  | eqReset (req : Requester) (x : Port)
  /-- REF_ACTIVITY_LOSS (R426): A candidate has no edge for 10 µs and ACT clears. -/
  | refActivityLoss (cand : Fin 12)
  /-- REF_ACTIVITY_RETURN (R426): An edge arrives and ACT sets again. -/
  | refActivityReturn (cand : Fin 12)
  /-- FREQ_MEASURE (R426): A frequency measurement interval ends and FREQ_OK updates. -/
  | freqMeasure (cand : Fin 12) (offset : Int)
  /-- WTR_EXPIRY (R428): A candidate's wait-to-restore timer expires. -/
  | wtrExpiry (cand : Fin 12)
  /-- REF_SELECT (R427): The DPLL re-evaluates selection and switches or enters holdover. -/
  | refSelect (phase : Int)
  /-- DPLL_MODE_WRITE (R431): A change of DPLL MODE overrides selection within 1 µs. -/
  | dpllModeWrite (req : Requester) (mode : BitVec 2) (phase : Int)
  /-- DPLL_LOCK (R433): The phase error stays within ±2 ns and the DPLL reaches LOCKED. -/
  | dpllLock (phaseErr : Int)
  /-- DPLL_UNLOCK (R433): The phase error leaves ±20 ns and the DPLL returns to ACQUIRING. -/
  | dpllUnlock (phaseErr : Int)
  /-- HO_VALID_SET (R434): A full HO_AVG period LOCKED makes HO_VALID 1. -/
  | hoValidSet
  /-- XO_FAIL (R435): The XO stops for 10 µs and the DPLL holds. -/
  | xoFail
  /-- ROOT_UNLOCK (R435): The root synthesiser loses lock. -/
  | rootUnlock
  /-- PULL_DONE (R437): PULL_REMAIN reaches 0 and PULL_DONE sets. -/
  | pullDone
  /-- TC_SET (R439): SET loads the time counter from TIM_SET. -/
  | tcSet (req : Requester)
  /-- TC_STEP (R439): A write of TIM_STEP_HI steps the time counter. -/
  | tcStep (req : Requester) (hi : BitVec 16)
  /-- TC_LOAD_SYNC (R439): LOAD_SYNC arms a load at the next synchronising event. -/
  | tcLoadSync (req : Requester)
  /-- PULSE_ALIGN (R442): ALIGN realigns the pulse generator to the counter. -/
  | pulseAlign (req : Requester)
  /-- PPS_OUT_PULSE (R441): The generator reaches a second boundary and pulses PPS_OUT. -/
  | ppsOutPulse
  /-- FRAME_OUT_PULSE (R441): The generator reaches a FRAME_OUT instant and pulses. -/
  | frameOutPulse
  /-- SYNC_IN_ASSERT (R444): An accepted SYNC_IN assertion is timestamped and may be the synchronising event. -/
  | syncInAssert
  /-- PPS_IN_ASSERT (R444): An accepted PPS_IN assertion is timestamped. -/
  | ppsInAssert
  /-- SYNC_CMD (R445): Writing CMD makes a synchronising event. -/
  | syncCmd (req : Requester)
  /-- SYNC_EVENT (R445): The synchronising event resets chains, starts armed players, loads the counter and aligns pulses. -/
  | syncEvent
  /-- PTP_TX_MESSAGE (R447): A transmitted PTP event message is timestamped or one-step stamped. -/
  | ptpTxMessage (msg : PtpMsg)
  /-- PTP_RX_MESSAGE (R447): A received PTP event message is timestamped into the RX FIFO. -/
  | ptpRxMessage (msg : PtpMsg)
  /-- PTP_POP (R447): POP removes the head of a PTP FIFO. -/
  | ptpPop (req : Requester) (rx : Bool)
  /-- LINK_FRAME_TX (R455): A link frame is filled with cells and events and sent. -/
  | linkFrameTx (k : Fin 2) (odu : List OduCell)
  /-- LINK_FRAME_RX (R453): A received link frame is checked and its cells and records handled. -/
  | linkFrameRx (k : Fin 2) (bytes : List Byte)
  /-- HORUG_HELLO_TX (R455): Each link sends HELLO every 1 ms. -/
  | horugHelloTx
  /-- LINK_HELLO_TIMEOUT (R457): No valid HELLO for 4 ms takes a link out of RUN. -/
  | linkHelloTimeout (k : Fin 2)
  /-- CHN_ERROR_CLEAR (R456): A position error clears after its cause is absent for 4 ms. -/
  | chnErrorClear (e : ChainError)
  /-- TIME_ALIGN (R458): Every 1 ms a following module computes θ and steps or pulls its counter. -/
  | timeAlign
  /-- CHAIN_EDGE_APPLY (R461): A remote chain edge is applied at origin instant plus CHN_DLY. -/
  | chainEdgeApply
  /-- CHAIN_SYNC_ORIGINATE (R462): SYNC_IN or SYNC_GO originates a chain SYNC record. -/
  | chainSyncOriginate (sw : Option Requester)
  /-- FWD_GO (R464): GO sends a forwarded transaction to position DST. -/
  | fwdGo (req : Requester) (write : Bool)
  /-- FWD_EXECUTE (R464): A forwarded access arrives and is executed as the PCIe requester. -/
  | fwdExecute (origin : Fin 4)
  /-- FWD_COMPLETE (R464): A forwarded completion returns and sets DONE and STATUS. -/
  | fwdComplete
  /-- FWD_TIMEOUT (R464): No completion within 100 µs ends the transaction with TIMEOUT. -/
  | fwdTimeout (req : Requester)
  /-- BOOT_ROM_FETCH (R475): The ROM fetches and verifies the preferred Lyfate bank or falls back. -/
  | bootRomFetch
  /-- TRUSTED_BOOT_COMPLETE (R473): Lyfate runs and trusted boot completes. -/
  | trustedBootComplete
  /-- APP_LOAD_DONE (R475): Lyfate verifies application firmware and releases or holds the cores. -/
  | appLoadDone
  /-- GET_INFO (R488): GET_INFO returns version, bank and identity information. -/
  | getInfo (ch : Fin 5)
  /-- GET_CERT (R488): GET_CERT returns part of a certificate. -/
  | getCert (ch : Fin 5)
  /-- ATTEST (R499): ATTEST returns a signed attestation report. -/
  | attest (ch : Fin 5)
  /-- GET_CHALLENGE (R490): GET_CHALLENGE returns a fresh challenge for the channel. -/
  | getChallenge (ch : Fin 5)
  /-- KEK_EXCHANGE (R494): KEK_EXCHANGE derives the channel's key-encryption key by ECDH. -/
  | kekExchange (ch : Fin 5)
  /-- ENROLL_KEY (R492): ENROLL_KEY burns a customer public key. -/
  | enrollKey (ch : Fin 5) (burnt : Bool)
  /-- REVOKE_KEY (R492): REVOKE_KEY revokes an enrolled key. -/
  | revokeKey (ch : Fin 5) (burnt : Bool)
  /-- SET_CUST_ONLY (R492): SET_CUST_ONLY burns the CUST_ONLY policy. -/
  | setCustOnly (ch : Fin 5) (burnt : Bool)
  /-- ADVANCE_SECVER (R492): ADVANCE_SECVER advances a security counter. -/
  | advanceSecver (ch : Fin 5) (burnt : Bool)
  /-- FW_WRITE (R495): FW_WRITE verifies an image and programs a flash bank. -/
  | fwWrite (ch : Fin 5) (flashOk : Bool)
  /-- FW_SELECT (R496): FW_SELECT checks banks and writes the bank-select record. -/
  | fwSelect (ch : Fin 5) (flashOk : Bool)
  /-- DEBUG_UNLOCK (R500): DEBUG_UNLOCK opens a JTAG debug level. -/
  | debugUnlock (ch : Fin 5)
  /-- RECOVER (R477): RECOVER loads and runs a firmware image from host memory. -/
  | recover (ch : Fin 5) (image : Option (List Byte))
  /-- MB_COMPLETE (R487): Lyfate writes a reply, clears BUSY and sets DONE. -/
  | mbComplete (ch : Fin 5)
  /-- WDT_KICK (R484): A write of the key to SEC_WDT_KICK restarts the watchdog. -/
  | wdtKick (req : Requester) (key : BitVec 16)
  /-- WDT_EXPIRY (R484): The watchdog period ends without a kick and SEC.01 is present. -/
  | wdtExpiry
  /-- FAULT_CAUSE (R505): An effective cause reaches the collector and sets STICKY. -/
  | faultCause (f : Fin 576)
  /-- FAULT_MSI (R512): A rate-limited MSI-X 18 message is sent for pending firings. -/
  | faultMsi
  /-- STICKY_CLEAR (R507): Writing STICKY clears it and its qualifiers. -/
  | stickyClear (req : Requester) (f : Fin 576)
  /-- FIRST_CLEAR (R511): Writing FIRST_VALID clears FLT_FIRST. -/
  | firstClear (req : Requester)
  /-- CLR_ALL (R511): CLR_ALL clears every STICKY, FLT_FIRST, OVF and CHIP_SUPPRESSED. -/
  | clrAll (req : Requester)
  /-- ARM (R515): ARM sets CHIP_ARM. -/
  | arm (req : Requester)
  /-- DISARM (R515): DISARM clears CHIP_ARM. -/
  | disarm (req : Requester)
  /-- INJ_PULSE (R517): INJ_PULSE injects a one-tick cause. -/
  | injPulse (req : Requester) (f : Fin 576)
  /-- INJ_HOLD (R517): A write of INJ_HOLD starts or ends a held injection. -/
  | injHold (req : Requester) (f : Fin 576) (on : Bool)
  /-- FLT_EN_WRITE (R505): Setting EN with the cause present sets STICKY at once. -/
  | fltEnWrite (req : Requester) (f : Fin 576) (en : Bool)
  /-- TEMP_SAMPLE (R523): Every 1 ms Tightrope samples temperatures and updates throttle, alert and CAL_LAG. -/
  | tempSample (temps : List (BitVec 16))
  /-- POWER_SAMPLE (R523): Every 100 µs Tightrope samples domain power. -/
  | powerSample (vin iin : BitVec 16) (doms : List (BitVec 32)) (limited : Bool)
  /-- RAIL_FAULT (R524): A rail out of tolerance for 10 µs raises PWR.05. -/
  | railFault (out : Bool)
  /-- THERMTRIP (R525): A sensor reaches 120 °C and the chip is held in reset. -/
  | thermtrip
  /-- THERMTRIP_RELEASE (R525): All sensors below 90 °C for 1 s release the reset. -/
  | thermtripRelease
  /-- TIGHTROPE_DECISION (R530): Every 10 ms Tightrope sheds, restores or holds. -/
  | tightropeDecision
  /-- HK_START (R535): START begins or queues a housekeeping conversion. -/
  | hkStart (req : Requester) (ch : BitVec 6)
  /-- HK_CONVERSION_DONE (R535): A conversion ends and its result with flags is placed. -/
  | hkConversionDone (value : Int)
  /-- HK_DATA_READ (R535): A read of PWR_HK_DATA clears VALID and OVR. -/
  | hkDataRead (req : Requester)
  /-- HK_CAL_NOW (R537): CAL_NOW starts a housekeeping calibration. -/
  | hkCalNow (req : Requester)
  /-- HK_CAL_DONE (R537): A 200 µs calibration completes. -/
  | hkCalDone
  /-- I2C_WRITE (R549): An I2C write sets the status block offset. -/
  | i2cWrite (addr : BitVec 7) (bytes : List Byte) (stop : Bool)
  /-- I2C_READ (R549): An I2C read returns bytes of a consistent copy of the status block. -/
  | i2cRead (addr : BitVec 7) (n : Nat) (stop : Bool)
  /-- I2C_REFRESH (R549): Every 1 ms the status block is refreshed. -/
  | i2cRefresh
  /-- I2C_TIMEOUT (R548): SCL low for 35 ms returns the target to idle. -/
  | i2cTimeout
  /-- FAS_MISS (R181): A candidate's FAS is absent one frame period after its last match, so the candidate is discarded and the framer may fall from PRESYNC to OOF. -/
  | fasMiss (unit : AlignUnit) (seen : FrameSeen)
  /-- PATH_CLASS_TIMEOUT (R249): HB_LOSS × 100 ms after a path enters FAILED with its heartbeat still present, the path's CLASS becomes FAR_SOURCE. -/
  | pathClassTimeout (f : Fin 1280) (path : MergePath)
  /-- OCTET_UNLOCK (R254): An enabled octet's PLL loses lock on its own and HST.02 has its cause present. -/
  | octetUnlock (g : Fin 6)
  /-- PCS_LANE_ALIGNMENT (R271): An Ethernet client's PCS lane alignment is gained or lost, changing ALIGN and the client's failure signal towards its mapper. -/
  | pcsLaneAlignment (c : Fin 48) (aligned : Bool) (hiSer : Bool) (remoteFault : Bool)
  /-- DEASSERTION_ACCEPTED (R346): The 9-sample filter of TRIG_IN, SYNC_IN or PPS_IN accepts a deassertion, or a change reverts before acceptance and counts as IGNORED. -/
  | deassertionAccepted (pin : InputPin) (reverted : Bool)
  /-- XO_RETURN (R435): Edges return on XO_IN after an XO failure, ending the cause of TIM.07 and releasing the frozen monitors and the open-loop root. -/
  | xoReturn
  /-- ROOT_RELOCK (R450): The root synthesiser regains lock and the cause of TIM.08 ends. -/
  | rootRelock
  /-- OUTPUT_PULSE_END (R441): A PPS_OUT, FRAME_OUT or SYNC_OUT pulse's PW or OUT_PW tick count ends and the pin returns inactive. -/
  | outputPulseEnd (pin : OutputPin)
  /-- TX_CLIP (R144): A transmit sample is clipped in stage 10, incrementing LNx_TX_CLIP_CNT and making the cause of LNx.16 present. -/
  | txClip (x : Port) (samples : Nat)
  /-- OVR_LIVE_EXPIRY (R108): 1 µs passes with no overrange sample, or with no clipped sample, so OVR_LIVE clears or the cause of TX_CLIP ends. -/
  | ovrLiveExpiry (x : Port) (adc : Option (Fin 4))
  /-- PCIE_LINK_UP (R474): The PCIe link completes training and reaches L0 after PERST_N deassertion or a chip reset, ending the cause of PCIE_DOWN. -/
  | pcieLinkUp
  deriving DecidableEq, Repr

end Sys2Proof
end

