-- ==== Sys2Proof/Decode.lean ====
section
/-! DEFINITION. The commands a word spells. No row of spec/opcode_table.json has bits (every "fields" list is empty): no
command of this block is spelled by a word. -/

namespace Sys2Proof

/-- The command that a word of nbits bits spells: none, for every word, because no row of the table gives bits. -/
def decodeTableWord (_nbits _w : Nat) : Option Instr := none

end Sys2Proof
end

