-- ==== Sys2Proof/Config.lean ====
section
/-! DEFINITION. What one implementation fixes and the values the spec leaves open. An opaque constant has no body that a
proof could use: a claim about it holds whatever its value. -/

namespace Sys2Proof

/-- The byte at an address of memory whose contents the spec calls undefined (R82, R83, R471); the first argument counts
the times contents became undefined. FREE VALUE. -/
opaque Config.freeByte : Nat → Nat → Byte

/-- A number the spec leaves open, one for each draw. FREE VALUE. -/
opaque Config.freeNat : Nat → Nat

/-- The 64-bit die identifier held in the fuses (R2). Fixed for each module. -/
opaque Config.dieId : BitVec 64

/-- The factory record of line port x: lid temperature and time of calibration (R105). Fixed for each module. -/
opaque Config.factTemp : Nat → BitVec 8
/-- Time of the factory calibration of port x, seconds since the PTP epoch (R105). Port 2 stands for the housekeeping record. -/
opaque Config.factSec : Nat → BitVec 48

/-- SHA-384 (FIPS 180-4), a function of a byte string (R56). The spec names it and does not restate it. -/
opaque Config.sha384 : List Byte → List Byte

/-- Verification of an ECDSA P-384 signature of a message under a public key (R56): key, message, signature. -/
opaque Config.ecdsaVerify : List Byte → List Byte → List Byte → Bool

/-- Naiskyn's public key in the boot ROM (Signers and keys, 02_structure_images.md). -/
opaque Config.naiskynKey : List Byte

/-- The DER device certificate held in fuses (R498). Fixed for each module. -/
opaque Config.deviceCert : List Byte
/-- The certificate of the Naiskyn device CA in the boot ROM (R498). -/
opaque Config.caCert : List Byte
/-- Bytes of the boot flash fitted (R478). -/
opaque Config.flashBytes : Nat

/-- An ephemeral P-384 key exchange (R494): the draw that makes the key pair and the requester's point give the public key QD and
the shared secret Z; none for a QR that is no valid point. The spec names ECDH and does not restate it. -/
opaque Config.ecdh : Nat → List Byte → Option (List Byte × List Byte)

/-- A signature of a message by the identity key (R494, R499), with the draw that its nonce takes. -/
opaque Config.identitySign : Nat → List Byte → List Byte

/-- A check-to-variable message of the decoder at the precision it keeps (R164): NORM and a magnitude give NORM / 16 times the magnitude.
The spec gives no precision. FREE VALUE. -/
opaque Config.minSumScale : Nat → Nat → Nat
/-- A sum of LLR and messages as the decoder keeps it (R164). The spec gives no width. FREE VALUE. -/
opaque Config.minSumFit : Int → Int

/-- 10^(g / 2000), the factor of a gain of g times 0.01 dB (R143). An irrational number that this model does not evaluate. -/
opaque Config.dbFactor : Int → Rat
/-- The cosine of f times 0.05° (R143), likewise. -/
opaque Config.cosine : Int → Rat
/-- The sine of f times 0.05° (R143), likewise. -/
opaque Config.sine : Int → Rat

/-- Bit i of a fill or idle pattern the spec names without its generator ("scrambled PRBS31 fill"); the first argument counts
the draws. FREE VALUE. -/
opaque Config.fillBit : Nat → Nat → Bool

/-- The outputs of a decimation chain with its oscillator on (R380), before scaling to 16 bits: F, k, the number of the first output, the
input samples (I, Q). Exact products with e^(-j2πFn/2^32) are real numbers that this model does not evaluate. -/
opaque Config.decShifted : Nat → Nat → Nat → List (Int × Int) → List (Int × Int)

/-- A latency in fabric ticks that the device reports and the spec does not fix: which latency, and the mode, M and
decimation it belongs to (R111, R150, R170). FREE VALUE. -/
opaque Config.latency : Nat → Nat → Nat → Nat → BitVec 16

/-- The payload type G.709 assigns to the mapping of a client type (Table 19 of 06_otn_framing_and_tsi.md). The spec names
G.709 and does not restate it. FREE VALUE. -/
opaque Config.g709Pt : Nat → BitVec 8

/-- AES-256 counter mode as GCM uses it (R211, NIST SP 800-38D): key, IV, data; encryption and decryption are the same. The spec
names the algorithm and does not restate it. -/
opaque Config.gcmCrypt : List Byte → List Byte → List Byte → List Byte

/-- The 128-bit GCM tag (R213): key, IV, AAD, ciphertext. -/
opaque Config.gcmTag : List Byte → List Byte → List Byte → List Byte → List Byte

/-- AES-KW unwrapping (R217, SP 800-38F): key-encryption key and 40 bytes give the 32-byte key, none where the integrity check
fails. -/
opaque Config.keyUnwrap : List Byte → List Byte → Option (List Byte)

/-- Symbol k of SSPRQ (R273), which IEEE 802.3 defines and the spec does not restate. -/
opaque Config.ssprq : Nat → Fin 4

/-- What the receiver of lane l has adapted or the training exchange has set at a tick (R260, R262): FFE taps 0 to 31, DFE taps 32 to 34,
the SNR 35, the CTLE code 36, transmit FIR taps 37 to 42. FREE VALUE. -/
opaque Config.laneAdapts : Nat → Nat → Nat → BitVec 16

/-- The stuff symbols that lane l inserts in the n-th frame it sends (R276): the scrambler's first state is not given. FREE VALUE. -/
opaque Config.stuffed : Nat → Nat → Nat

/-- The bit errors that the PRBS checker of lane l finds in lock from one tick to another (R274). FREE VALUE. -/
opaque Config.prbsErrors : Nat → Nat → Nat → Nat

/-- The level of the token bucket of queue q in a direction, numbered 2q + direction, before its first operation, in 1/28 bit: R303
gives a bucket's rate and its size, not where it starts (notes/assumptions/27.md). -/
opaque Config.bucketStart : Nat → Nat

/-- Whether a latency that is no whole number of fabric ticks is reported rounded up; the spec does not say. FREE VALUE. -/
opaque Config.roundUp : Nat → Nat → Bool

end Sys2Proof
end

