-- ==== Sys2Proof/Machine/RegTypes.lean ====
section
/-! DEFINITION. The types of the register table: access codes (Table 7 of 00_scope.md), the rule a field gives for written
values, fields and registers. -/

namespace Sys2Proof.Machine

/-- The access codes of R12; rws is RW with the write shadowed to the block's boundary (R35). -/
inductive Access where
  | ro | rw | rws | w1c | w1s | wo | rc
  deriving DecidableEq, Repr

/-- What a field stores for a written value: as written; the nearest bound; the nearest signed bound; a replacement for
values above a limit; the next odd value; the next lower even value; or by a rule of its own (Machine/RegWrite.lean). -/
inductive Norm where
  | any
  | clamp (lo hi : Nat)
  | sclamp (lo hi : Int)
  | exceeds (limit value : Nat)
  | odd
  | even
  | special
  deriving DecidableEq, Repr

/-- One field of a register, bits [hi:lo]. -/
structure FieldDesc where
  name : String
  hi : Nat
  lo : Nat
  acc : Access
  reset : Nat
  norm : Norm
  deriving DecidableEq, Repr

/-- One line of a register map: its name, the BAR0 address of its first copy, its copies as (count, stride) pairs, outermost
first, and its fields. Bits in no field are reserved (R13). -/
structure RegDesc where
  name : String
  base : Nat
  dims : List (Nat × Nat)
  fields : List FieldDesc
  deriving DecidableEq, Repr

/-- A reference to bits [hi:lo] of the register with key addr. -/
structure Fld where
  addr : Nat
  hi : Nat
  lo : Nat
  deriving DecidableEq, Repr

end Sys2Proof.Machine
end

