-- ==== Sys2Proof/Machine/RegNames.lean ====
section
/-! DEFINITION. Names for the registers and fields the meanings use, as the spec spells them: Reg.<register> is its key in
State.regs (its BAR0 address, or the key of one requester's or one queue's copy), Fld.<register>.<field> one field of it. -/

namespace Sys2Proof.Machine

/-- Key of GLB_FENCE. -/
def Reg.GLB_FENCE (r : Nat) : Nat := 0x100000000 * (r + 1) + 0x0000010
/-- GLB_FENCE bits [31:31]. -/
def Fld.GLB_FENCE.DONE (r : Nat) : Fld := ⟨(Reg.GLB_FENCE r), 31, 31⟩
/-- GLB_FENCE bits [15:0]. -/
def Fld.GLB_FENCE.TOKEN (r : Nat) : Fld := ⟨(Reg.GLB_FENCE r), 15, 0⟩
/-- Key of GLB_SHADOW_HOLD. -/
def Reg.GLB_SHADOW_HOLD : Nat := 0x0000020
/-- Key of GLB_BLK_RESET. -/
def Reg.GLB_BLK_RESET : Nat := 0x0000030
/-- Key of GLB_RESET_CAUSE. -/
def Reg.GLB_RESET_CAUSE : Nat := 0x0000038
/-- Key of GLB_ACC_ERR_ADDR. -/
def Reg.GLB_ACC_ERR_ADDR : Nat := 0x0000040
/-- Key of GLB_ACC_ERR_INFO. -/
def Reg.GLB_ACC_ERR_INFO : Nat := 0x0000044
/-- GLB_ACC_ERR_INFO bits [31:31]. -/
def Fld.GLB_ACC_ERR_INFO.VALID : Fld := ⟨Reg.GLB_ACC_ERR_INFO, 31, 31⟩
/-- Key of STR_STATE. -/
def Reg.STR_STATE : Nat := 0x0100000
/-- STR_STATE bits [31:24]. -/
def Fld.STR_STATE.RSTR : Fld := ⟨Reg.STR_STATE, 31, 24⟩
/-- STR_STATE bits [23:16]. -/
def Fld.STR_STATE.ERR : Fld := ⟨Reg.STR_STATE, 23, 16⟩
/-- STR_STATE bits [11:8]. -/
def Fld.STR_STATE.COMMIT : Fld := ⟨Reg.STR_STATE, 11, 8⟩
/-- STR_STATE bits [3:0]. -/
def Fld.STR_STATE.STAGE : Fld := ⟨Reg.STR_STATE, 3, 0⟩
/-- Key of STR_LOAD_CTL. -/
def Reg.STR_LOAD_CTL : Nat := 0x0100004
/-- STR_LOAD_CTL bits [31:31]. -/
def Fld.STR_LOAD_CTL.START : Fld := ⟨Reg.STR_LOAD_CTL, 31, 31⟩
/-- STR_LOAD_CTL bits [1:0]. -/
def Fld.STR_LOAD_CTL.SRC : Fld := ⟨Reg.STR_LOAD_CTL, 1, 0⟩
/-- Key of STR_LOAD_ADDR_LO. -/
def Reg.STR_LOAD_ADDR_LO : Nat := 0x0100008
/-- Key of STR_LOAD_LEN. -/
def Reg.STR_LOAD_LEN : Nat := 0x0100010
/-- STR_LOAD_LEN bits [24:0]. -/
def Fld.STR_LOAD_LEN.LEN : Fld := ⟨Reg.STR_LOAD_LEN, 24, 0⟩
/-- Key of STR_ERR_DETAIL. -/
def Reg.STR_ERR_DETAIL : Nat := 0x0100030
/-- Key of STR_INT_STATUS. -/
def Reg.STR_INT_STATUS : Nat := 0x0100034
/-- Key of STR_INT_EN. -/
def Reg.STR_INT_EN : Nat := 0x0100038
/-- Key of STR_CMT_TIME_LO. -/
def Reg.STR_CMT_TIME_LO : Nat := 0x0100040
/-- Key of STR_REGION_IMG. -/
def Reg.STR_REGION_IMG (i : Nat) : Nat := 0x0100050 + 0x4 * i
/-- Key of STR_ACTIVE. -/
def Reg.STR_ACTIVE : Nat := 0x0100070
/-- STR_ACTIVE bits [31:16]. -/
def Fld.STR_ACTIVE.COMMITS : Fld := ⟨Reg.STR_ACTIVE, 31, 16⟩
/-- Key of LNx_CNV_RATE. -/
def Reg.LNx_CNV_RATE (i : Nat) : Nat := 0x0200000 + 0x100000 * i
/-- LNx_CNV_RATE bits [5:0]. -/
def Fld.LNx_CNV_RATE.M (i : Nat) : Fld := ⟨(Reg.LNx_CNV_RATE i), 5, 0⟩
/-- Key of LNx_CNV_EN. -/
def Reg.LNx_CNV_EN (i : Nat) : Nat := 0x0200004 + 0x100000 * i
/-- LNx_CNV_EN bits [7:0]. -/
def Fld.LNx_CNV_EN.EN (i : Nat) : Fld := ⟨(Reg.LNx_CNV_EN i), 7, 0⟩
/-- Key of LNx_CNV_STATE. -/
def Reg.LNx_CNV_STATE (i : Nat) : Nat := 0x0200008 + 0x100000 * i
/-- Key of LNx_OVR_STATUS. -/
def Reg.LNx_OVR_STATUS (i : Nat) : Nat := 0x0200010 + 0x100000 * i
/-- LNx_OVR_STATUS bits [3:0]. -/
def Fld.LNx_OVR_STATUS.OVR_LIVE (i : Nat) : Fld := ⟨(Reg.LNx_OVR_STATUS i), 3, 0⟩
/-- Key of LNx_OVR_CNT. -/
def Reg.LNx_OVR_CNT (i j : Nat) : Nat := 0x0200014 + 0x100000 * i + 0x4 * j
/-- LNx_OVR_CNT bits [31:0]. -/
def Fld.LNx_OVR_CNT.RUNS (i j : Nat) : Fld := ⟨(Reg.LNx_OVR_CNT i j), 31, 0⟩
/-- Key of LNx_DAC_FS. -/
def Reg.LNx_DAC_FS (i : Nat) : Nat := 0x0200030 + 0x100000 * i
/-- Key of LNx_CAL_CTL. -/
def Reg.LNx_CAL_CTL (i : Nat) : Nat := 0x0200040 + 0x100000 * i
/-- LNx_CAL_CTL bits [8:8]. -/
def Fld.LNx_CAL_CTL.FREEZE (i : Nat) : Fld := ⟨(Reg.LNx_CAL_CTL i), 8, 8⟩
/-- Key of LNx_CAL_LAG_THR. -/
def Reg.LNx_CAL_LAG_THR (i : Nat) : Nat := 0x0200044 + 0x100000 * i
/-- LNx_CAL_LAG_THR bits [5:0]. -/
def Fld.LNx_CAL_LAG_THR.THR (i : Nat) : Fld := ⟨(Reg.LNx_CAL_LAG_THR i), 5, 0⟩
/-- Key of LNx_CAL_CNT_LO. -/
def Reg.LNx_CAL_CNT_LO (i j : Nat) : Nat := 0x0200100 + 0x100000 * i + 0x20 * j
/-- Key of LNx_CAL_SEC_LO. -/
def Reg.LNx_CAL_SEC_LO (i j : Nat) : Nat := 0x0200108 + 0x100000 * i + 0x20 * j
/-- Key of LNx_CAL_INFO. -/
def Reg.LNx_CAL_INFO (i j : Nat) : Nat := 0x0200110 + 0x100000 * i + 0x20 * j
/-- LNx_CAL_INFO bits [31:31]. -/
def Fld.LNx_CAL_INFO.RETIRED (i j : Nat) : Fld := ⟨(Reg.LNx_CAL_INFO i j), 31, 31⟩
/-- LNx_CAL_INFO bits [22:16]. -/
def Fld.LNx_CAL_INFO.RET_SLICE (i j : Nat) : Fld := ⟨(Reg.LNx_CAL_INFO i j), 22, 16⟩
/-- LNx_CAL_INFO bits [14:8]. -/
def Fld.LNx_CAL_INFO.SPARE (i j : Nat) : Fld := ⟨(Reg.LNx_CAL_INFO i j), 14, 8⟩
/-- LNx_CAL_INFO bits [5:0]. -/
def Fld.LNx_CAL_INFO.POS (i j : Nat) : Fld := ⟨(Reg.LNx_CAL_INFO i j), 5, 0⟩
/-- Key of LNx_DSP_MODE. -/
def Reg.LNx_DSP_MODE (i : Nat) : Nat := 0x0201000 + 0x100000 * i
/-- LNx_DSP_MODE bits [31:31]. -/
def Fld.LNx_DSP_MODE.RESTART (i : Nat) : Fld := ⟨(Reg.LNx_DSP_MODE i), 31, 31⟩
/-- LNx_DSP_MODE bits [17:16]. -/
def Fld.LNx_DSP_MODE.DECIM (i : Nat) : Fld := ⟨(Reg.LNx_DSP_MODE i), 17, 16⟩
/-- LNx_DSP_MODE bits [13:12]. -/
def Fld.LNx_DSP_MODE.FMT (i : Nat) : Fld := ⟨(Reg.LNx_DSP_MODE i), 13, 12⟩
/-- LNx_DSP_MODE bits [9:9]. -/
def Fld.LNx_DSP_MODE.TX_EN (i : Nat) : Fld := ⟨(Reg.LNx_DSP_MODE i), 9, 9⟩
/-- LNx_DSP_MODE bits [8:8]. -/
def Fld.LNx_DSP_MODE.RX_EN (i : Nat) : Fld := ⟨(Reg.LNx_DSP_MODE i), 8, 8⟩
/-- LNx_DSP_MODE bits [2:0]. -/
def Fld.LNx_DSP_MODE.MODE (i : Nat) : Fld := ⟨(Reg.LNx_DSP_MODE i), 2, 0⟩
/-- Key of LNx_DSP_STATE. -/
def Reg.LNx_DSP_STATE (i : Nat) : Nat := 0x0201004 + 0x100000 * i
/-- LNx_DSP_STATE bits [15:15]. -/
def Fld.LNx_DSP_STATE.GUARD (i : Nat) : Fld := ⟨(Reg.LNx_DSP_STATE i), 15, 15⟩
/-- LNx_DSP_STATE bits [13:13]. -/
def Fld.LNx_DSP_STATE.CD_CLAMP (i : Nat) : Fld := ⟨(Reg.LNx_DSP_STATE i), 13, 13⟩
/-- LNx_DSP_STATE bits [12:12]. -/
def Fld.LNx_DSP_STATE.MODE_ERR (i : Nat) : Fld := ⟨(Reg.LNx_DSP_STATE i), 12, 12⟩
/-- LNx_DSP_STATE bits [3:0]. -/
def Fld.LNx_DSP_STATE.RX_STATE (i : Nat) : Fld := ⟨(Reg.LNx_DSP_STATE i), 3, 0⟩
/-- Key of LNx_RX_FE_CTL. -/
def Reg.LNx_RX_FE_CTL (i : Nat) : Nat := 0x0201010 + 0x100000 * i
/-- LNx_RX_FE_CTL bits [13:8]. -/
def Fld.LNx_RX_FE_CTL.LOS_THR (i : Nat) : Fld := ⟨(Reg.LNx_RX_FE_CTL i), 13, 8⟩
/-- LNx_RX_FE_CTL bits [1:1]. -/
def Fld.LNx_RX_FE_CTL.INV (i : Nat) : Fld := ⟨(Reg.LNx_RX_FE_CTL i), 1, 1⟩
/-- LNx_RX_FE_CTL bits [0:0]. -/
def Fld.LNx_RX_FE_CTL.IQ_COMP (i : Nat) : Fld := ⟨(Reg.LNx_RX_FE_CTL i), 0, 0⟩
/-- Key of LNx_RX_SKEW. -/
def Reg.LNx_RX_SKEW (i j : Nat) : Nat := 0x0201014 + 0x100000 * i + 0x4 * j
/-- LNx_RX_SKEW bits [9:0]. -/
def Fld.LNx_RX_SKEW.SKEW (i j : Nat) : Fld := ⟨(Reg.LNx_RX_SKEW i j), 9, 0⟩
/-- Key of LNx_CD_CTL. -/
def Reg.LNx_CD_CTL (i : Nat) : Nat := 0x0201030 + 0x100000 * i
/-- LNx_CD_CTL bits [31:31]. -/
def Fld.LNx_CD_CTL.SEARCH (i : Nat) : Fld := ⟨(Reg.LNx_CD_CTL i), 31, 31⟩
/-- LNx_CD_CTL bits [15:0]. -/
def Fld.LNx_CD_CTL.STEP (i : Nat) : Fld := ⟨(Reg.LNx_CD_CTL i), 15, 0⟩
/-- Key of LNx_CD_VALUE. -/
def Reg.LNx_CD_VALUE (i : Nat) : Nat := 0x0201034 + 0x100000 * i
/-- LNx_CD_VALUE bits [19:0]. -/
def Fld.LNx_CD_VALUE.VALUE (i : Nat) : Fld := ⟨(Reg.LNx_CD_VALUE i), 19, 0⟩
/-- Key of LNx_CD_MIN. -/
def Reg.LNx_CD_MIN (i : Nat) : Nat := 0x0201038 + 0x100000 * i
/-- LNx_CD_MIN bits [19:0]. -/
def Fld.LNx_CD_MIN.VALUE (i : Nat) : Fld := ⟨(Reg.LNx_CD_MIN i), 19, 0⟩
/-- Key of LNx_CD_MAX. -/
def Reg.LNx_CD_MAX (i : Nat) : Nat := 0x020103C + 0x100000 * i
/-- LNx_CD_MAX bits [19:0]. -/
def Fld.LNx_CD_MAX.VALUE (i : Nat) : Fld := ⟨(Reg.LNx_CD_MAX i), 19, 0⟩
/-- Key of LNx_MIMO_CTL. -/
def Reg.LNx_MIMO_CTL (i : Nat) : Nat := 0x0201060 + 0x100000 * i
/-- LNx_MIMO_CTL bits [25:24]. -/
def Fld.LNx_MIMO_CTL.TAPS_MAX (i : Nat) : Fld := ⟨(Reg.LNx_MIMO_CTL i), 25, 24⟩
/-- LNx_MIMO_CTL bits [19:16]. -/
def Fld.LNx_MIMO_CTL.PILOT_MU (i : Nat) : Fld := ⟨(Reg.LNx_MIMO_CTL i), 19, 16⟩
/-- LNx_MIMO_CTL bits [11:8]. -/
def Fld.LNx_MIMO_CTL.MU (i : Nat) : Fld := ⟨(Reg.LNx_MIMO_CTL i), 11, 8⟩
/-- LNx_MIMO_CTL bits [1:0]. -/
def Fld.LNx_MIMO_CTL.ADAPT (i : Nat) : Fld := ⟨(Reg.LNx_MIMO_CTL i), 1, 0⟩
/-- Key of LNx_MIMO_STATUS. -/
def Reg.LNx_MIMO_STATUS (i : Nat) : Nat := 0x0201064 + 0x100000 * i
/-- LNx_MIMO_STATUS bits [9:8]. -/
def Fld.LNx_MIMO_STATUS.TAPS_ACT (i : Nat) : Fld := ⟨(Reg.LNx_MIMO_STATUS i), 9, 8⟩
/-- LNx_MIMO_STATUS bits [1:1]. -/
def Fld.LNx_MIMO_STATUS.SWAP (i : Nat) : Fld := ⟨(Reg.LNx_MIMO_STATUS i), 1, 1⟩
/-- LNx_MIMO_STATUS bits [0:0]. -/
def Fld.LNx_MIMO_STATUS.PILOT_ONLY (i : Nat) : Fld := ⟨(Reg.LNx_MIMO_STATUS i), 0, 0⟩
/-- Key of LNx_GUARD_CTL. -/
def Reg.LNx_GUARD_CTL (i : Nat) : Nat := 0x0201070 + 0x100000 * i
/-- LNx_GUARD_CTL bits [23:16]. -/
def Fld.LNx_GUARD_CTL.OCC_THR (i : Nat) : Fld := ⟨(Reg.LNx_GUARD_CTL i), 23, 16⟩
/-- LNx_GUARD_CTL bits [15:8]. -/
def Fld.LNx_GUARD_CTL.REP_THR (i : Nat) : Fld := ⟨(Reg.LNx_GUARD_CTL i), 15, 8⟩
/-- LNx_GUARD_CTL bits [4:0]. -/
def Fld.LNx_GUARD_CTL.DIV_THR (i : Nat) : Fld := ⟨(Reg.LNx_GUARD_CTL i), 4, 0⟩
/-- Key of LNx_GUARD_HYST. -/
def Reg.LNx_GUARD_HYST (i : Nat) : Nat := 0x0201074 + 0x100000 * i
/-- LNx_GUARD_HYST bits [15:8]. -/
def Fld.LNx_GUARD_HYST.EXIT_N (i : Nat) : Fld := ⟨(Reg.LNx_GUARD_HYST i), 15, 8⟩
/-- LNx_GUARD_HYST bits [7:0]. -/
def Fld.LNx_GUARD_HYST.ENTER_N (i : Nat) : Fld := ⟨(Reg.LNx_GUARD_HYST i), 7, 0⟩
/-- Key of LNx_GUARD_CNT. -/
def Reg.LNx_GUARD_CNT (i : Nat) : Nat := 0x0201078 + 0x100000 * i
/-- LNx_GUARD_CNT bits [31:0]. -/
def Fld.LNx_GUARD_CNT.ENTRIES (i : Nat) : Fld := ⟨(Reg.LNx_GUARD_CNT i), 31, 0⟩
/-- Key of LNx_CPR_CTL. -/
def Reg.LNx_CPR_CTL (i : Nat) : Nat := 0x0201080 + 0x100000 * i
/-- LNx_CPR_CTL bits [8:8]. -/
def Fld.LNx_CPR_CTL.BPS (i : Nat) : Fld := ⟨(Reg.LNx_CPR_CTL i), 8, 8⟩
/-- LNx_CPR_CTL bits [4:0]. -/
def Fld.LNx_CPR_CTL.WIN (i : Nat) : Fld := ⟨(Reg.LNx_CPR_CTL i), 4, 0⟩
/-- Key of LNx_CPR_SLIP_CNT. -/
def Reg.LNx_CPR_SLIP_CNT (i : Nat) : Nat := 0x0201084 + 0x100000 * i
/-- LNx_CPR_SLIP_CNT bits [31:0]. -/
def Fld.LNx_CPR_SLIP_CNT.SLIPS (i : Nat) : Fld := ⟨(Reg.LNx_CPR_SLIP_CNT i), 31, 0⟩
/-- Key of LNx_DEMAP_CTL. -/
def Reg.LNx_DEMAP_CTL (i : Nat) : Nat := 0x0201090 + 0x100000 * i
/-- LNx_DEMAP_CTL bits [11:8]. -/
def Fld.LNx_DEMAP_CTL.NWIN (i : Nat) : Fld := ⟨(Reg.LNx_DEMAP_CTL i), 11, 8⟩
/-- LNx_DEMAP_CTL bits [7:0]. -/
def Fld.LNx_DEMAP_CTL.SCALE (i : Nat) : Fld := ⟨(Reg.LNx_DEMAP_CTL i), 7, 0⟩
/-- Key of LNx_MON_SNR. -/
def Reg.LNx_MON_SNR (i : Nat) : Nat := 0x02010A0 + 0x100000 * i
/-- LNx_MON_SNR bits [31:16]. -/
def Fld.LNx_MON_SNR.SNR_Y (i : Nat) : Fld := ⟨(Reg.LNx_MON_SNR i), 31, 16⟩
/-- LNx_MON_SNR bits [15:0]. -/
def Fld.LNx_MON_SNR.SNR_X (i : Nat) : Fld := ⟨(Reg.LNx_MON_SNR i), 15, 0⟩
/-- Key of LNx_MON_FO. -/
def Reg.LNx_MON_FO (i : Nat) : Nat := 0x02010A4 + 0x100000 * i
/-- LNx_MON_FO bits [15:0]. -/
def Fld.LNx_MON_FO.FO (i : Nat) : Fld := ⟨(Reg.LNx_MON_FO i), 15, 0⟩
/-- Key of LNx_MON_CD. -/
def Reg.LNx_MON_CD (i : Nat) : Nat := 0x02010A8 + 0x100000 * i
/-- LNx_MON_CD bits [19:0]. -/
def Fld.LNx_MON_CD.CD (i : Nat) : Fld := ⟨(Reg.LNx_MON_CD i), 19, 0⟩
/-- Key of LNx_MON_PMD. -/
def Reg.LNx_MON_PMD (i : Nat) : Nat := 0x02010AC + 0x100000 * i
/-- LNx_MON_PMD bits [31:16]. -/
def Fld.LNx_MON_PMD.PDL (i : Nat) : Fld := ⟨(Reg.LNx_MON_PMD i), 31, 16⟩
/-- LNx_MON_PMD bits [15:0]. -/
def Fld.LNx_MON_PMD.DGD (i : Nat) : Fld := ⟨(Reg.LNx_MON_PMD i), 15, 0⟩
/-- Key of LNx_MON_SOP. -/
def Reg.LNx_MON_SOP (i : Nat) : Nat := 0x02010B0 + 0x100000 * i
/-- LNx_MON_SOP bits [31:16]. -/
def Fld.LNx_MON_SOP.UPDATES (i : Nat) : Fld := ⟨(Reg.LNx_MON_SOP i), 31, 16⟩
/-- LNx_MON_SOP bits [15:0]. -/
def Fld.LNx_MON_SOP.SOP_MAX (i : Nat) : Fld := ⟨(Reg.LNx_MON_SOP i), 15, 0⟩
/-- Key of LNx_SNR_THR. -/
def Reg.LNx_SNR_THR (i : Nat) : Nat := 0x02010B4 + 0x100000 * i
/-- LNx_SNR_THR bits [15:0]. -/
def Fld.LNx_SNR_THR.THR (i : Nat) : Fld := ⟨(Reg.LNx_SNR_THR i), 15, 0⟩
/-- Key of LNx_ACQ_CNT. -/
def Reg.LNx_ACQ_CNT (i : Nat) : Nat := 0x02010C0 + 0x100000 * i
/-- LNx_ACQ_CNT bits [31:16]. -/
def Fld.LNx_ACQ_CNT.FAIL (i : Nat) : Fld := ⟨(Reg.LNx_ACQ_CNT i), 31, 16⟩
/-- LNx_ACQ_CNT bits [15:0]. -/
def Fld.LNx_ACQ_CNT.LOCK (i : Nat) : Fld := ⟨(Reg.LNx_ACQ_CNT i), 15, 0⟩
/-- Key of LNx_SYNC_LOSS_CNT. -/
def Reg.LNx_SYNC_LOSS_CNT (i : Nat) : Nat := 0x02010C4 + 0x100000 * i
/-- LNx_SYNC_LOSS_CNT bits [31:0]. -/
def Fld.LNx_SYNC_LOSS_CNT.LOSSES (i : Nat) : Fld := ⟨(Reg.LNx_SYNC_LOSS_CNT i), 31, 0⟩
/-- Key of LNx_INT_STATUS. -/
def Reg.LNx_INT_STATUS (i : Nat) : Nat := 0x02010D0 + 0x100000 * i
/-- Key of LNx_INT_EN. -/
def Reg.LNx_INT_EN (i : Nat) : Nat := 0x02010D4 + 0x100000 * i
/-- Key of LNx_TX_CTL. -/
def Reg.LNx_TX_CTL (i : Nat) : Nat := 0x0201100 + 0x100000 * i
/-- LNx_TX_CTL bits [23:16]. -/
def Fld.LNx_TX_CTL.RMS (i : Nat) : Fld := ⟨(Reg.LNx_TX_CTL i), 23, 16⟩
/-- Key of LNx_TX_PRECD. -/
def Reg.LNx_TX_PRECD (i : Nat) : Nat := 0x0201104 + 0x100000 * i
/-- LNx_TX_PRECD bits [19:0]. -/
def Fld.LNx_TX_PRECD.VALUE (i : Nat) : Fld := ⟨(Reg.LNx_TX_PRECD i), 19, 0⟩
/-- Key of LNx_TX_TRIM. -/
def Reg.LNx_TX_TRIM (i j : Nat) : Nat := 0x0201110 + 0x100000 * i + 0x4 * j
/-- LNx_TX_TRIM bits [24:16]. -/
def Fld.LNx_TX_TRIM.BIAS (i j : Nat) : Fld := ⟨(Reg.LNx_TX_TRIM i j), 24, 16⟩
/-- LNx_TX_TRIM bits [8:0]. -/
def Fld.LNx_TX_TRIM.SKEW (i j : Nat) : Fld := ⟨(Reg.LNx_TX_TRIM i j), 8, 0⟩
/-- Key of LNx_TX_IQ_X. -/
def Reg.LNx_TX_IQ_X (i : Nat) : Nat := 0x0201120 + 0x100000 * i
/-- LNx_TX_IQ_X bits [26:16]. -/
def Fld.LNx_TX_IQ_X.PHASE (i : Nat) : Fld := ⟨(Reg.LNx_TX_IQ_X i), 26, 16⟩
/-- LNx_TX_IQ_X bits [10:0]. -/
def Fld.LNx_TX_IQ_X.GAIN (i : Nat) : Fld := ⟨(Reg.LNx_TX_IQ_X i), 10, 0⟩
/-- Key of LNx_TX_IQ_Y. -/
def Reg.LNx_TX_IQ_Y (i : Nat) : Nat := 0x0201124 + 0x100000 * i
/-- LNx_TX_IQ_Y bits [26:16]. -/
def Fld.LNx_TX_IQ_Y.PHASE (i : Nat) : Fld := ⟨(Reg.LNx_TX_IQ_Y i), 26, 16⟩
/-- LNx_TX_IQ_Y bits [10:0]. -/
def Fld.LNx_TX_IQ_Y.GAIN (i : Nat) : Fld := ⟨(Reg.LNx_TX_IQ_Y i), 10, 0⟩
/-- Key of LNx_TX_CLIP_CNT. -/
def Reg.LNx_TX_CLIP_CNT (i : Nat) : Nat := 0x0201130 + 0x100000 * i
/-- LNx_TX_CLIP_CNT bits [31:0]. -/
def Fld.LNx_TX_CLIP_CNT.SAMPLES (i : Nat) : Fld := ⟨(Reg.LNx_TX_CLIP_CNT i), 31, 0⟩
/-- Key of LNx_PD_CTL. -/
def Reg.LNx_PD_CTL (i : Nat) : Nat := 0x0201140 + 0x100000 * i
/-- LNx_PD_CTL bits [12:8]. -/
def Fld.LNx_PD_CTL.FADE_K (i : Nat) : Fld := ⟨(Reg.LNx_PD_CTL i), 12, 8⟩
/-- LNx_PD_CTL bits [0:0]. -/
def Fld.LNx_PD_CTL.BANK (i : Nat) : Fld := ⟨(Reg.LNx_PD_CTL i), 0, 0⟩
/-- Key of LNx_PD_STATUS. -/
def Reg.LNx_PD_STATUS (i : Nat) : Nat := 0x0201144 + 0x100000 * i
/-- LNx_PD_STATUS bits [5:5]. -/
def Fld.LNx_PD_STATUS.QUEUED (i : Nat) : Fld := ⟨(Reg.LNx_PD_STATUS i), 5, 5⟩
/-- LNx_PD_STATUS bits [4:4]. -/
def Fld.LNx_PD_STATUS.QBANK (i : Nat) : Fld := ⟨(Reg.LNx_PD_STATUS i), 4, 4⟩
/-- LNx_PD_STATUS bits [3:3]. -/
def Fld.LNx_PD_STATUS.FADING (i : Nat) : Fld := ⟨(Reg.LNx_PD_STATUS i), 3, 3⟩
/-- LNx_PD_STATUS bits [2:2]. -/
def Fld.LNx_PD_STATUS.TARGET (i : Nat) : Fld := ⟨(Reg.LNx_PD_STATUS i), 2, 2⟩
/-- LNx_PD_STATUS bits [0:0]. -/
def Fld.LNx_PD_STATUS.ACTIVE (i : Nat) : Fld := ⟨(Reg.LNx_PD_STATUS i), 0, 0⟩
/-- Key of LNx_PD_REFUSED. -/
def Reg.LNx_PD_REFUSED (i : Nat) : Nat := 0x0201148 + 0x100000 * i
/-- LNx_PD_REFUSED bits [31:0]. -/
def Fld.LNx_PD_REFUSED.WRITES (i : Nat) : Fld := ⟨(Reg.LNx_PD_REFUSED i), 31, 0⟩
/-- Key of LNx_PD_COEF. -/
def Reg.LNx_PD_COEF (i j k l : Nat) : Nat := 0x0204000 + 0x100000 * i + 0x400 * j + 0x100 * k + 0x4 * l
/-- LNx_PD_COEF bits [15:0]. -/
def Fld.LNx_PD_COEF.COEF (i j k l : Nat) : Fld := ⟨(Reg.LNx_PD_COEF i j k l), 15, 0⟩
/-- Key of FEC_x_CTL. -/
def Reg.FEC_x_CTL (i : Nat) : Nat := 0x0400000 + 0x80000 * i
/-- FEC_x_CTL bits [1:1]. -/
def Fld.FEC_x_CTL.ENC_EN (i : Nat) : Fld := ⟨(Reg.FEC_x_CTL i), 1, 1⟩
/-- FEC_x_CTL bits [0:0]. -/
def Fld.FEC_x_CTL.DEC_EN (i : Nat) : Fld := ⟨(Reg.FEC_x_CTL i), 0, 0⟩
/-- Key of FEC_x_STATUS. -/
def Reg.FEC_x_STATUS (i : Nat) : Nat := 0x0400004 + 0x80000 * i
/-- FEC_x_STATUS bits [10:8]. -/
def Fld.FEC_x_STATUS.FMT (i : Nat) : Fld := ⟨(Reg.FEC_x_STATUS i), 10, 8⟩
/-- FEC_x_STATUS bits [1:1]. -/
def Fld.FEC_x_STATUS.DEC_RUN (i : Nat) : Fld := ⟨(Reg.FEC_x_STATUS i), 1, 1⟩
/-- FEC_x_STATUS bits [0:0]. -/
def Fld.FEC_x_STATUS.ENC_RUN (i : Nat) : Fld := ⟨(Reg.FEC_x_STATUS i), 0, 0⟩
/-- Key of FEC_x_DEC_CTL. -/
def Reg.FEC_x_DEC_CTL (i : Nat) : Nat := 0x0400010 + 0x80000 * i
/-- FEC_x_DEC_CTL bits [16:16]. -/
def Fld.FEC_x_DEC_CTL.EARLY_STOP (i : Nat) : Fld := ⟨(Reg.FEC_x_DEC_CTL i), 16, 16⟩
/-- FEC_x_DEC_CTL bits [11:8]. -/
def Fld.FEC_x_DEC_CTL.NORM (i : Nat) : Fld := ⟨(Reg.FEC_x_DEC_CTL i), 11, 8⟩
/-- FEC_x_DEC_CTL bits [3:0]. -/
def Fld.FEC_x_DEC_CTL.ITER_MAX (i : Nat) : Fld := ⟨(Reg.FEC_x_DEC_CTL i), 3, 0⟩
/-- Key of FEC_x_DEC_STATUS. -/
def Reg.FEC_x_DEC_STATUS (i : Nat) : Nat := 0x0400014 + 0x80000 * i
/-- FEC_x_DEC_STATUS bits [8:8]. -/
def Fld.FEC_x_DEC_STATUS.CAPPED (i : Nat) : Fld := ⟨(Reg.FEC_x_DEC_STATUS i), 8, 8⟩
/-- FEC_x_DEC_STATUS bits [3:0]. -/
def Fld.FEC_x_DEC_STATUS.ITER_ACT (i : Nat) : Fld := ⟨(Reg.FEC_x_DEC_STATUS i), 3, 0⟩
/-- Key of FEC_x_BER_THR. -/
def Reg.FEC_x_BER_THR (i : Nat) : Nat := 0x0400018 + 0x80000 * i
/-- FEC_x_BER_THR bits [19:0]. -/
def Fld.FEC_x_BER_THR.THR (i : Nat) : Fld := ⟨(Reg.FEC_x_BER_THR i), 19, 0⟩
/-- Key of FEC_x_MON_CW. -/
def Reg.FEC_x_MON_CW (i : Nat) : Nat := 0x0400020 + 0x80000 * i
/-- FEC_x_MON_CW bits [31:0]. -/
def Fld.FEC_x_MON_CW.CW (i : Nat) : Fld := ⟨(Reg.FEC_x_MON_CW i), 31, 0⟩
/-- Key of FEC_x_MON_CORR. -/
def Reg.FEC_x_MON_CORR (i : Nat) : Nat := 0x0400024 + 0x80000 * i
/-- FEC_x_MON_CORR bits [31:0]. -/
def Fld.FEC_x_MON_CORR.CORR (i : Nat) : Fld := ⟨(Reg.FEC_x_MON_CORR i), 31, 0⟩
/-- Key of FEC_x_MON_UNCORR. -/
def Reg.FEC_x_MON_UNCORR (i : Nat) : Nat := 0x0400028 + 0x80000 * i
/-- FEC_x_MON_UNCORR bits [31:0]. -/
def Fld.FEC_x_MON_UNCORR.UNCORR (i : Nat) : Fld := ⟨(Reg.FEC_x_MON_UNCORR i), 31, 0⟩
/-- Key of FEC_x_MON_ITER. -/
def Reg.FEC_x_MON_ITER (i : Nat) : Nat := 0x040002C + 0x80000 * i
/-- FEC_x_MON_ITER bits [31:16]. -/
def Fld.FEC_x_MON_ITER.SHAPE (i : Nat) : Fld := ⟨(Reg.FEC_x_MON_ITER i), 31, 16⟩
/-- FEC_x_MON_ITER bits [11:0]. -/
def Fld.FEC_x_MON_ITER.AVG (i : Nat) : Fld := ⟨(Reg.FEC_x_MON_ITER i), 11, 0⟩
/-- Key of FEC_x_CNT_LO. -/
def Reg.FEC_x_CNT_LO (i j : Nat) : Nat := 0x0400040 + 0x80000 * i + 0x8 * j
/-- Key of FEC_x_INT_STATUS. -/
def Reg.FEC_x_INT_STATUS (i : Nat) : Nat := 0x0400070 + 0x80000 * i
/-- Key of FEC_x_INT_EN. -/
def Reg.FEC_x_INT_EN (i : Nat) : Nat := 0x0400074 + 0x80000 * i
/-- Key of FRM_TSI_PAGE_CTL. -/
def Reg.FRM_TSI_PAGE_CTL : Nat := 0x0500000
/-- Key of FRM_TSI_PAGE_STATUS. -/
def Reg.FRM_TSI_PAGE_STATUS : Nat := 0x0500004
/-- FRM_TSI_PAGE_STATUS bits [27:24]. -/
def Fld.FRM_TSI_PAGE_STATUS.REFUSED : Fld := ⟨Reg.FRM_TSI_PAGE_STATUS, 27, 24⟩
/-- FRM_TSI_PAGE_STATUS bits [19:16]. -/
def Fld.FRM_TSI_PAGE_STATUS.DONE : Fld := ⟨Reg.FRM_TSI_PAGE_STATUS, 19, 16⟩
/-- FRM_TSI_PAGE_STATUS bits [11:8]. -/
def Fld.FRM_TSI_PAGE_STATUS.ACTIVE : Fld := ⟨Reg.FRM_TSI_PAGE_STATUS, 11, 8⟩
/-- Key of FRM_CM_REFUSED. -/
def Reg.FRM_CM_REFUSED : Nat := 0x0500008
/-- FRM_CM_REFUSED bits [31:0]. -/
def Fld.FRM_CM_REFUSED.WRITES : Fld := ⟨Reg.FRM_CM_REFUSED, 31, 0⟩
/-- Key of FRM_INT_STATUS. -/
def Reg.FRM_INT_STATUS : Nat := 0x0500010
/-- Key of FRM_INT_EN. -/
def Reg.FRM_INT_EN : Nat := 0x0500014
/-- Key of FRM_x_OTU_CTL. -/
def Reg.FRM_x_OTU_CTL (i : Nat) : Nat := 0x0501000 + 0x1000 * i
/-- FRM_x_OTU_CTL bits [21:16]. -/
def Fld.FRM_x_OTU_CTL.N (i : Nat) : Fld := ⟨(Reg.FRM_x_OTU_CTL i), 21, 16⟩
/-- FRM_x_OTU_CTL bits [15:12]. -/
def Fld.FRM_x_OTU_CTL.N_OUT (i : Nat) : Fld := ⟨(Reg.FRM_x_OTU_CTL i), 15, 12⟩
/-- FRM_x_OTU_CTL bits [10:8]. -/
def Fld.FRM_x_OTU_CTL.N_IN (i : Nat) : Fld := ⟨(Reg.FRM_x_OTU_CTL i), 10, 8⟩
/-- FRM_x_OTU_CTL bits [4:4]. -/
def Fld.FRM_x_OTU_CTL.FAS_LEN (i : Nat) : Fld := ⟨(Reg.FRM_x_OTU_CTL i), 4, 4⟩
/-- FRM_x_OTU_CTL bits [1:1]. -/
def Fld.FRM_x_OTU_CTL.TX_EN (i : Nat) : Fld := ⟨(Reg.FRM_x_OTU_CTL i), 1, 1⟩
/-- FRM_x_OTU_CTL bits [0:0]. -/
def Fld.FRM_x_OTU_CTL.RX_EN (i : Nat) : Fld := ⟨(Reg.FRM_x_OTU_CTL i), 0, 0⟩
/-- Key of FRM_x_OTU_STATUS. -/
def Reg.FRM_x_OTU_STATUS (i : Nat) : Nat := 0x0501004 + 0x1000 * i
/-- FRM_x_OTU_STATUS bits [20:16]. -/
def Fld.FRM_x_OTU_STATUS.CANDS (i : Nat) : Fld := ⟨(Reg.FRM_x_OTU_STATUS i), 20, 16⟩
/-- FRM_x_OTU_STATUS bits [13:8]. -/
def Fld.FRM_x_OTU_STATUS.N_ACT (i : Nat) : Fld := ⟨(Reg.FRM_x_OTU_STATUS i), 13, 8⟩
/-- FRM_x_OTU_STATUS bits [6:6]. -/
def Fld.FRM_x_OTU_STATUS.LOM (i : Nat) : Fld := ⟨(Reg.FRM_x_OTU_STATUS i), 6, 6⟩
/-- FRM_x_OTU_STATUS bits [5:5]. -/
def Fld.FRM_x_OTU_STATUS.LOF (i : Nat) : Fld := ⟨(Reg.FRM_x_OTU_STATUS i), 5, 5⟩
/-- FRM_x_OTU_STATUS bits [4:4]. -/
def Fld.FRM_x_OTU_STATUS.OOM (i : Nat) : Fld := ⟨(Reg.FRM_x_OTU_STATUS i), 4, 4⟩
/-- FRM_x_OTU_STATUS bits [2:0]. -/
def Fld.FRM_x_OTU_STATUS.STATE (i : Nat) : Fld := ⟨(Reg.FRM_x_OTU_STATUS i), 2, 0⟩
/-- Key of FRM_x_ALIGN_CNT. -/
def Reg.FRM_x_ALIGN_CNT (i : Nat) : Nat := 0x0501008 + 0x1000 * i
/-- FRM_x_ALIGN_CNT bits [31:20]. -/
def Fld.FRM_x_ALIGN_CNT.CAND_OVF (i : Nat) : Fld := ⟨(Reg.FRM_x_ALIGN_CNT i), 31, 20⟩
/-- FRM_x_ALIGN_CNT bits [19:10]. -/
def Fld.FRM_x_ALIGN_CNT.REVOKE (i : Nat) : Fld := ⟨(Reg.FRM_x_ALIGN_CNT i), 19, 10⟩
/-- FRM_x_ALIGN_CNT bits [9:0]. -/
def Fld.FRM_x_ALIGN_CNT.OOF (i : Nat) : Fld := ⟨(Reg.FRM_x_ALIGN_CNT i), 9, 0⟩
/-- Key of FRM_x_SM_CTL. -/
def Reg.FRM_x_SM_CTL (i : Nat) : Nat := 0x050100C + 0x1000 * i
/-- FRM_x_SM_CTL bits [8:8]. -/
def Fld.FRM_x_SM_CTL.BDI_EN (i : Nat) : Fld := ⟨(Reg.FRM_x_SM_CTL i), 8, 8⟩
/-- FRM_x_SM_CTL bits [4:4]. -/
def Fld.FRM_x_SM_CTL.TIM_ACT (i : Nat) : Fld := ⟨(Reg.FRM_x_SM_CTL i), 4, 4⟩
/-- FRM_x_SM_CTL bits [1:0]. -/
def Fld.FRM_x_SM_CTL.TIM_MODE (i : Nat) : Fld := ⟨(Reg.FRM_x_SM_CTL i), 1, 0⟩
/-- Key of FRM_x_SM_STATUS. -/
def Reg.FRM_x_SM_STATUS (i : Nat) : Nat := 0x0501010 + 0x1000 * i
/-- FRM_x_SM_STATUS bits [6:6]. -/
def Fld.FRM_x_SM_STATUS.MSIM (i : Nat) : Fld := ⟨(Reg.FRM_x_SM_STATUS i), 6, 6⟩
/-- FRM_x_SM_STATUS bits [5:5]. -/
def Fld.FRM_x_SM_STATUS.PLM (i : Nat) : Fld := ⟨(Reg.FRM_x_SM_STATUS i), 5, 5⟩
/-- FRM_x_SM_STATUS bits [4:4]. -/
def Fld.FRM_x_SM_STATUS.IAE (i : Nat) : Fld := ⟨(Reg.FRM_x_SM_STATUS i), 4, 4⟩
/-- FRM_x_SM_STATUS bits [3:3]. -/
def Fld.FRM_x_SM_STATUS.BIAE (i : Nat) : Fld := ⟨(Reg.FRM_x_SM_STATUS i), 3, 3⟩
/-- FRM_x_SM_STATUS bits [2:2]. -/
def Fld.FRM_x_SM_STATUS.BDI (i : Nat) : Fld := ⟨(Reg.FRM_x_SM_STATUS i), 2, 2⟩
/-- FRM_x_SM_STATUS bits [1:1]. -/
def Fld.FRM_x_SM_STATUS.TIM (i : Nat) : Fld := ⟨(Reg.FRM_x_SM_STATUS i), 1, 1⟩
/-- FRM_x_SM_STATUS bits [0:0]. -/
def Fld.FRM_x_SM_STATUS.TTI_NEW (i : Nat) : Fld := ⟨(Reg.FRM_x_SM_STATUS i), 0, 0⟩
/-- Key of FRM_x_SM_BIP_CNT. -/
def Reg.FRM_x_SM_BIP_CNT (i : Nat) : Nat := 0x0501014 + 0x1000 * i
/-- FRM_x_SM_BIP_CNT bits [31:0]. -/
def Fld.FRM_x_SM_BIP_CNT.ERRORS (i : Nat) : Fld := ⟨(Reg.FRM_x_SM_BIP_CNT i), 31, 0⟩
/-- Key of FRM_x_SM_BEI_CNT. -/
def Reg.FRM_x_SM_BEI_CNT (i : Nat) : Nat := 0x0501018 + 0x1000 * i
/-- FRM_x_SM_BEI_CNT bits [31:0]. -/
def Fld.FRM_x_SM_BEI_CNT.ERRORS (i : Nat) : Fld := ⟨(Reg.FRM_x_SM_BEI_CNT i), 31, 0⟩
/-- Key of FRM_x_PM_BIP_CNT. -/
def Reg.FRM_x_PM_BIP_CNT (i : Nat) : Nat := 0x050101C + 0x1000 * i
/-- FRM_x_PM_BIP_CNT bits [31:0]. -/
def Fld.FRM_x_PM_BIP_CNT.ERRORS (i : Nat) : Fld := ⟨(Reg.FRM_x_PM_BIP_CNT i), 31, 0⟩
/-- Key of FRM_x_PM_BEI_CNT. -/
def Reg.FRM_x_PM_BEI_CNT (i : Nat) : Nat := 0x0501020 + 0x1000 * i
/-- FRM_x_PM_BEI_CNT bits [31:0]. -/
def Fld.FRM_x_PM_BEI_CNT.ERRORS (i : Nat) : Fld := ⟨(Reg.FRM_x_PM_BEI_CNT i), 31, 0⟩
/-- Key of FRM_x_SLICE_FAS_CNT. -/
def Reg.FRM_x_SLICE_FAS_CNT (i : Nat) : Nat := 0x0501024 + 0x1000 * i
/-- FRM_x_SLICE_FAS_CNT bits [31:0]. -/
def Fld.FRM_x_SLICE_FAS_CNT.FRAMES (i : Nat) : Fld := ⟨(Reg.FRM_x_SLICE_FAS_CNT i), 31, 0⟩
/-- Key of FRM_x_TTI_TX. -/
def Reg.FRM_x_TTI_TX (i j : Nat) : Nat := 0x0501040 + 0x1000 * i + 0x4 * j
/-- Key of FRM_x_TTI_EXP. -/
def Reg.FRM_x_TTI_EXP (i j : Nat) : Nat := 0x0501080 + 0x1000 * i + 0x4 * j
/-- Key of FRM_x_TTI_RX. -/
def Reg.FRM_x_TTI_RX (i j : Nat) : Nat := 0x05010C0 + 0x1000 * i + 0x4 * j
/-- Key of FRM_TSI_SBY. -/
def Reg.FRM_TSI_SBY (i j : Nat) : Nat := 0x0510000 + 0x1000 * i + 0x4 * j
/-- FRM_TSI_SBY bits [31:31]. -/
def Fld.FRM_TSI_SBY.VALID (i j : Nat) : Fld := ⟨(Reg.FRM_TSI_SBY i j), 31, 31⟩
/-- FRM_TSI_SBY bits [10:0]. -/
def Fld.FRM_TSI_SBY.FLOW (i j : Nat) : Fld := ⟨(Reg.FRM_TSI_SBY i j), 10, 0⟩
/-- Key of FRM_TSI_ACT. -/
def Reg.FRM_TSI_ACT (i j : Nat) : Nat := 0x0520000 + 0x1000 * i + 0x4 * j
/-- FRM_TSI_ACT bits [31:31]. -/
def Fld.FRM_TSI_ACT.VALID (i j : Nat) : Fld := ⟨(Reg.FRM_TSI_ACT i j), 31, 31⟩
/-- FRM_TSI_ACT bits [10:0]. -/
def Fld.FRM_TSI_ACT.FLOW (i j : Nat) : Fld := ⟨(Reg.FRM_TSI_ACT i j), 10, 0⟩
/-- Key of FRM_FLOW_CTL. -/
def Reg.FRM_FLOW_CTL (i : Nat) : Nat := 0x0540000 + 0x40 * i
/-- FRM_FLOW_CTL bits [31:24]. -/
def Fld.FRM_FLOW_CTL.PT_TX (i : Nat) : Fld := ⟨(Reg.FRM_FLOW_CTL i), 31, 24⟩
/-- FRM_FLOW_CTL bits [23:16]. -/
def Fld.FRM_FLOW_CTL.PT_EXP (i : Nat) : Fld := ⟨(Reg.FRM_FLOW_CTL i), 23, 16⟩
/-- FRM_FLOW_CTL bits [14:12]. -/
def Fld.FRM_FLOW_CTL.APS_N (i : Nat) : Fld := ⟨(Reg.FRM_FLOW_CTL i), 14, 12⟩
/-- FRM_FLOW_CTL bits [10:8]. -/
def Fld.FRM_FLOW_CTL.APS_LEVEL (i : Nat) : Fld := ⟨(Reg.FRM_FLOW_CTL i), 10, 8⟩
/-- FRM_FLOW_CTL bits [7:6]. -/
def Fld.FRM_FLOW_CTL.FORCE (i : Nat) : Fld := ⟨(Reg.FRM_FLOW_CTL i), 7, 6⟩
/-- FRM_FLOW_CTL bits [5:0]. -/
def Fld.FRM_FLOW_CTL.CLIENT (i : Nat) : Fld := ⟨(Reg.FRM_FLOW_CTL i), 5, 0⟩
/-- Key of FRM_FLOW_STATUS. -/
def Reg.FRM_FLOW_STATUS (i : Nat) : Nat := 0x0540004 + 0x40 * i
/-- FRM_FLOW_STATUS bits [11:11]. -/
def Fld.FRM_FLOW_STATUS.INCOMPLETE (i : Nat) : Fld := ⟨(Reg.FRM_FLOW_STATUS i), 11, 11⟩
/-- FRM_FLOW_STATUS bits [10:10]. -/
def Fld.FRM_FLOW_STATUS.BDI (i : Nat) : Fld := ⟨(Reg.FRM_FLOW_STATUS i), 10, 10⟩
/-- FRM_FLOW_STATUS bits [9:9]. -/
def Fld.FRM_FLOW_STATUS.PLM (i : Nat) : Fld := ⟨(Reg.FRM_FLOW_STATUS i), 9, 9⟩
/-- FRM_FLOW_STATUS bits [8:8]. -/
def Fld.FRM_FLOW_STATUS.OCI (i : Nat) : Fld := ⟨(Reg.FRM_FLOW_STATUS i), 8, 8⟩
/-- FRM_FLOW_STATUS bits [7:7]. -/
def Fld.FRM_FLOW_STATUS.LCK (i : Nat) : Fld := ⟨(Reg.FRM_FLOW_STATUS i), 7, 7⟩
/-- FRM_FLOW_STATUS bits [6:6]. -/
def Fld.FRM_FLOW_STATUS.AIS (i : Nat) : Fld := ⟨(Reg.FRM_FLOW_STATUS i), 6, 6⟩
/-- FRM_FLOW_STATUS bits [5:5]. -/
def Fld.FRM_FLOW_STATUS.LOM (i : Nat) : Fld := ⟨(Reg.FRM_FLOW_STATUS i), 5, 5⟩
/-- FRM_FLOW_STATUS bits [4:4]. -/
def Fld.FRM_FLOW_STATUS.LOF (i : Nat) : Fld := ⟨(Reg.FRM_FLOW_STATUS i), 4, 4⟩
/-- FRM_FLOW_STATUS bits [3:3]. -/
def Fld.FRM_FLOW_STATUS.OOM (i : Nat) : Fld := ⟨(Reg.FRM_FLOW_STATUS i), 3, 3⟩
/-- FRM_FLOW_STATUS bits [2:0]. -/
def Fld.FRM_FLOW_STATUS.ALIGN (i : Nat) : Fld := ⟨(Reg.FRM_FLOW_STATUS i), 2, 0⟩
/-- Key of FRM_FLOW_APS_RX. -/
def Reg.FRM_FLOW_APS_RX (i : Nat) : Nat := 0x0540008 + 0x40 * i
/-- Key of FRM_FLOW_APS_TX. -/
def Reg.FRM_FLOW_APS_TX (i : Nat) : Nat := 0x054000C + 0x40 * i
/-- Key of FRM_FLOW_BIP_CNT. -/
def Reg.FRM_FLOW_BIP_CNT (i : Nat) : Nat := 0x0540010 + 0x40 * i
/-- FRM_FLOW_BIP_CNT bits [31:0]. -/
def Fld.FRM_FLOW_BIP_CNT.ERRORS (i : Nat) : Fld := ⟨(Reg.FRM_FLOW_BIP_CNT i), 31, 0⟩
/-- Key of FRM_FLOW_BEI_CNT. -/
def Reg.FRM_FLOW_BEI_CNT (i : Nat) : Nat := 0x0540014 + 0x40 * i
/-- FRM_FLOW_BEI_CNT bits [31:0]. -/
def Fld.FRM_FLOW_BEI_CNT.ERRORS (i : Nat) : Fld := ⟨(Reg.FRM_FLOW_BEI_CNT i), 31, 0⟩
/-- Key of FRM_FLOW_MAP_CNT. -/
def Reg.FRM_FLOW_MAP_CNT (i : Nat) : Nat := 0x0540018 + 0x40 * i
/-- FRM_FLOW_MAP_CNT bits [31:0]. -/
def Fld.FRM_FLOW_MAP_CNT.ERRORS (i : Nat) : Fld := ⟨(Reg.FRM_FLOW_MAP_CNT i), 31, 0⟩
/-- Key of FRM_FLOW_EVT. -/
def Reg.FRM_FLOW_EVT (i : Nat) : Nat := 0x054001C + 0x40 * i
/-- Key of CRY_STATUS. -/
def Reg.CRY_STATUS : Nat := 0x0600000
/-- CRY_STATUS bits [24:16]. -/
def Fld.CRY_STATUS.E : Fld := ⟨Reg.CRY_STATUS, 24, 16⟩
/-- CRY_STATUS bits [15:15]. -/
def Fld.CRY_STATUS.DRBG_OK : Fld := ⟨Reg.CRY_STATUS, 15, 15⟩
/-- Key of CRY_INT_STATUS. -/
def Reg.CRY_INT_STATUS : Nat := 0x0600010
/-- Key of CRY_INT_EN. -/
def Reg.CRY_INT_EN : Nat := 0x0600014
/-- Key of CRY_JOBQ_CTL. -/
def Reg.CRY_JOBQ_CTL (i : Nat) : Nat := 0x0600020 + 0x4 * i
/-- CRY_JOBQ_CTL bits [31:31]. -/
def Fld.CRY_JOBQ_CTL.EN (i : Nat) : Fld := ⟨(Reg.CRY_JOBQ_CTL i), 31, 31⟩
/-- CRY_JOBQ_CTL bits [15:0]. -/
def Fld.CRY_JOBQ_CTL.QUEUE (i : Nat) : Fld := ⟨(Reg.CRY_JOBQ_CTL i), 15, 0⟩
/-- Key of CRY_JOB_CNT. -/
def Reg.CRY_JOB_CNT : Nat := 0x0600030
/-- CRY_JOB_CNT bits [31:0]. -/
def Fld.CRY_JOB_CNT.JOBS : Fld := ⟨Reg.CRY_JOB_CNT, 31, 0⟩
/-- Key of CRY_JOB_ERR_CNT. -/
def Reg.CRY_JOB_ERR_CNT : Nat := 0x0600034
/-- CRY_JOB_ERR_CNT bits [31:0]. -/
def Fld.CRY_JOB_ERR_CNT.JOBS : Fld := ⟨Reg.CRY_JOB_ERR_CNT, 31, 0⟩
/-- Key of CRY_KS_STATE. -/
def Reg.CRY_KS_STATE (i : Nat) : Nat := 0x0610000 + 0x10 * i
/-- CRY_KS_STATE bits [26:16]. -/
def Fld.CRY_KS_STATE.FLOW (i : Nat) : Fld := ⟨(Reg.CRY_KS_STATE i), 26, 16⟩
/-- CRY_KS_STATE bits [9:9]. -/
def Fld.CRY_KS_STATE.WARN (i : Nat) : Fld := ⟨(Reg.CRY_KS_STATE i), 9, 9⟩
/-- CRY_KS_STATE bits [8:8]. -/
def Fld.CRY_KS_STATE.ROLE (i : Nat) : Fld := ⟨(Reg.CRY_KS_STATE i), 8, 8⟩
/-- CRY_KS_STATE bits [5:5]. -/
def Fld.CRY_KS_STATE.RX_ACT (i : Nat) : Fld := ⟨(Reg.CRY_KS_STATE i), 5, 5⟩
/-- CRY_KS_STATE bits [4:4]. -/
def Fld.CRY_KS_STATE.TX_ACT (i : Nat) : Fld := ⟨(Reg.CRY_KS_STATE i), 4, 4⟩
/-- CRY_KS_STATE bits [1:0]. -/
def Fld.CRY_KS_STATE.STATE (i : Nat) : Fld := ⟨(Reg.CRY_KS_STATE i), 1, 0⟩
/-- Key of CRY_KS_CNT_LO. -/
def Reg.CRY_KS_CNT_LO (i : Nat) : Nat := 0x0610004 + 0x10 * i
/-- Key of CRY_FLOW_CTL. -/
def Reg.CRY_FLOW_CTL (i : Nat) : Nat := 0x0640000 + 0x20 * i
/-- CRY_FLOW_CTL bits [24:16]. -/
def Fld.CRY_FLOW_CTL.RX_KI_BASE (i : Nat) : Fld := ⟨(Reg.CRY_FLOW_CTL i), 24, 16⟩
/-- CRY_FLOW_CTL bits [12:12]. -/
def Fld.CRY_FLOW_CTL.ROLE_CHK (i : Nat) : Fld := ⟨(Reg.CRY_FLOW_CTL i), 12, 12⟩
/-- CRY_FLOW_CTL bits [8:8]. -/
def Fld.CRY_FLOW_CTL.FAIL_ACT (i : Nat) : Fld := ⟨(Reg.CRY_FLOW_CTL i), 8, 8⟩
/-- CRY_FLOW_CTL bits [5:4]. -/
def Fld.CRY_FLOW_CTL.SIZE (i : Nat) : Fld := ⟨(Reg.CRY_FLOW_CTL i), 5, 4⟩
/-- CRY_FLOW_CTL bits [0:0]. -/
def Fld.CRY_FLOW_CTL.TX_SEL (i : Nat) : Fld := ⟨(Reg.CRY_FLOW_CTL i), 0, 0⟩
/-- Key of CRY_FLOW_STATUS. -/
def Reg.CRY_FLOW_STATUS (i : Nat) : Nat := 0x0640004 + 0x20 * i
/-- CRY_FLOW_STATUS bits [31:31]. -/
def Fld.CRY_FLOW_STATUS.ENC (i : Nat) : Fld := ⟨(Reg.CRY_FLOW_STATUS i), 31, 31⟩
/-- CRY_FLOW_STATUS bits [23:16]. -/
def Fld.CRY_FLOW_STATUS.E_IDX (i : Nat) : Fld := ⟨(Reg.CRY_FLOW_STATUS i), 23, 16⟩
/-- CRY_FLOW_STATUS bits [8:8]. -/
def Fld.CRY_FLOW_STATUS.RX_LCK (i : Nat) : Fld := ⟨(Reg.CRY_FLOW_STATUS i), 8, 8⟩
/-- CRY_FLOW_STATUS bits [7:7]. -/
def Fld.CRY_FLOW_STATUS.TX_LCK (i : Nat) : Fld := ⟨(Reg.CRY_FLOW_STATUS i), 7, 7⟩
/-- CRY_FLOW_STATUS bits [5:4]. -/
def Fld.CRY_FLOW_STATUS.RX_SLOT (i : Nat) : Fld := ⟨(Reg.CRY_FLOW_STATUS i), 5, 4⟩
/-- CRY_FLOW_STATUS bits [1:0]. -/
def Fld.CRY_FLOW_STATUS.TX_SLOT (i : Nat) : Fld := ⟨(Reg.CRY_FLOW_STATUS i), 1, 0⟩
/-- Key of CRY_FLOW_AUTH_CNT. -/
def Reg.CRY_FLOW_AUTH_CNT (i : Nat) : Nat := 0x064000C + 0x20 * i
/-- CRY_FLOW_AUTH_CNT bits [31:0]. -/
def Fld.CRY_FLOW_AUTH_CNT.BLOCKS (i : Nat) : Fld := ⟨(Reg.CRY_FLOW_AUTH_CNT i), 31, 0⟩
/-- Key of CRY_FLOW_REJ_CNT. -/
def Reg.CRY_FLOW_REJ_CNT (i : Nat) : Nat := 0x0640010 + 0x20 * i
/-- CRY_FLOW_REJ_CNT bits [31:24]. -/
def Fld.CRY_FLOW_REJ_CNT.HDR (i : Nat) : Fld := ⟨(Reg.CRY_FLOW_REJ_CNT i), 31, 24⟩
/-- CRY_FLOW_REJ_CNT bits [23:16]. -/
def Fld.CRY_FLOW_REJ_CNT.KI (i : Nat) : Fld := ⟨(Reg.CRY_FLOW_REJ_CNT i), 23, 16⟩
/-- CRY_FLOW_REJ_CNT bits [15:8]. -/
def Fld.CRY_FLOW_REJ_CNT.ROLE (i : Nat) : Fld := ⟨(Reg.CRY_FLOW_REJ_CNT i), 15, 8⟩
/-- CRY_FLOW_REJ_CNT bits [7:0]. -/
def Fld.CRY_FLOW_REJ_CNT.REPLAY (i : Nat) : Fld := ⟨(Reg.CRY_FLOW_REJ_CNT i), 7, 0⟩
/-- Key of MRG_STATUS. -/
def Reg.MRG_STATUS : Nat := 0x0700000
/-- MRG_STATUS bits [17:17]. -/
def Fld.MRG_STATUS.HB_B : Fld := ⟨Reg.MRG_STATUS, 17, 17⟩
/-- MRG_STATUS bits [16:16]. -/
def Fld.MRG_STATUS.HB_A : Fld := ⟨Reg.MRG_STATUS, 16, 16⟩
/-- MRG_STATUS bits [7:0]. -/
def Fld.MRG_STATUS.SLOTS : Fld := ⟨Reg.MRG_STATUS, 7, 0⟩
/-- Key of MRG_HB_CTL. -/
def Reg.MRG_HB_CTL : Nat := 0x0700004
/-- MRG_HB_CTL bits [15:8]. -/
def Fld.MRG_HB_CTL.PARTNER_B : Fld := ⟨Reg.MRG_HB_CTL, 15, 8⟩
/-- MRG_HB_CTL bits [7:0]. -/
def Fld.MRG_HB_CTL.PARTNER_A : Fld := ⟨Reg.MRG_HB_CTL, 7, 0⟩
/-- Key of MRG_INT_STATUS. -/
def Reg.MRG_INT_STATUS : Nat := 0x0700010
/-- Key of MRG_INT_EN. -/
def Reg.MRG_INT_EN : Nat := 0x0700014
/-- Key of MRG_FLOW_CTL. -/
def Reg.MRG_FLOW_CTL (i : Nat) : Nat := 0x0740000 + 0x40 * i
/-- MRG_FLOW_CTL bits [31:31]. -/
def Fld.MRG_FLOW_CTL.REALIGN (i : Nat) : Fld := ⟨(Reg.MRG_FLOW_CTL i), 31, 31⟩
/-- MRG_FLOW_CTL bits [5:4]. -/
def Fld.MRG_FLOW_CTL.FORCE_PATH (i : Nat) : Fld := ⟨(Reg.MRG_FLOW_CTL i), 5, 4⟩
/-- MRG_FLOW_CTL bits [0:0]. -/
def Fld.MRG_FLOW_CTL.MODE (i : Nat) : Fld := ⟨(Reg.MRG_FLOW_CTL i), 0, 0⟩
/-- Key of MRG_FLOW_DELAY. -/
def Reg.MRG_FLOW_DELAY (i : Nat) : Nat := 0x0740004 + 0x40 * i
/-- MRG_FLOW_DELAY bits [13:0]. -/
def Fld.MRG_FLOW_DELAY.DELAY (i : Nat) : Fld := ⟨(Reg.MRG_FLOW_DELAY i), 13, 0⟩
/-- Key of MRG_FLOW_STATUS. -/
def Reg.MRG_FLOW_STATUS (i : Nat) : Nat := 0x0740008 + 0x40 * i
/-- MRG_FLOW_STATUS bits [31:31]. -/
def Fld.MRG_FLOW_STATUS.ANCHORED (i : Nat) : Fld := ⟨(Reg.MRG_FLOW_STATUS i), 31, 31⟩
/-- MRG_FLOW_STATUS bits [30:30]. -/
def Fld.MRG_FLOW_STATUS.SERVING (i : Nat) : Fld := ⟨(Reg.MRG_FLOW_STATUS i), 30, 30⟩
/-- MRG_FLOW_STATUS bits [15:14]. -/
def Fld.MRG_FLOW_STATUS.CLASS_P (i : Nat) : Fld := ⟨(Reg.MRG_FLOW_STATUS i), 15, 14⟩
/-- MRG_FLOW_STATUS bits [13:12]. -/
def Fld.MRG_FLOW_STATUS.CAUSE_P (i : Nat) : Fld := ⟨(Reg.MRG_FLOW_STATUS i), 13, 12⟩
/-- MRG_FLOW_STATUS bits [9:8]. -/
def Fld.MRG_FLOW_STATUS.STATE_P (i : Nat) : Fld := ⟨(Reg.MRG_FLOW_STATUS i), 9, 8⟩
/-- MRG_FLOW_STATUS bits [7:6]. -/
def Fld.MRG_FLOW_STATUS.CLASS_W (i : Nat) : Fld := ⟨(Reg.MRG_FLOW_STATUS i), 7, 6⟩
/-- MRG_FLOW_STATUS bits [5:4]. -/
def Fld.MRG_FLOW_STATUS.CAUSE_W (i : Nat) : Fld := ⟨(Reg.MRG_FLOW_STATUS i), 5, 4⟩
/-- MRG_FLOW_STATUS bits [1:0]. -/
def Fld.MRG_FLOW_STATUS.STATE_W (i : Nat) : Fld := ⟨(Reg.MRG_FLOW_STATUS i), 1, 0⟩
/-- Key of MRG_FLOW_SKEW. -/
def Reg.MRG_FLOW_SKEW (i : Nat) : Nat := 0x074000C + 0x40 * i
/-- MRG_FLOW_SKEW bits [31:0]. -/
def Fld.MRG_FLOW_SKEW.TICKS (i : Nat) : Fld := ⟨(Reg.MRG_FLOW_SKEW i), 31, 0⟩
/-- Key of MRG_FLOW_DMAX. -/
def Reg.MRG_FLOW_DMAX (i : Nat) : Nat := 0x0740010 + 0x40 * i
/-- MRG_FLOW_DMAX bits [13:0]. -/
def Fld.MRG_FLOW_DMAX.DMAX (i : Nat) : Fld := ⟨(Reg.MRG_FLOW_DMAX i), 13, 0⟩
/-- Key of MRG_FLOW_QUEUE. -/
def Reg.MRG_FLOW_QUEUE (i : Nat) : Nat := 0x0740014 + 0x40 * i
/-- MRG_FLOW_QUEUE bits [31:31]. -/
def Fld.MRG_FLOW_QUEUE.EN (i : Nat) : Fld := ⟨(Reg.MRG_FLOW_QUEUE i), 31, 31⟩
/-- MRG_FLOW_QUEUE bits [15:0]. -/
def Fld.MRG_FLOW_QUEUE.QUEUE (i : Nat) : Fld := ⟨(Reg.MRG_FLOW_QUEUE i), 15, 0⟩
/-- Key of MRG_FLOW_MISS_CNT. -/
def Reg.MRG_FLOW_MISS_CNT (i : Nat) : Nat := 0x0740018 + 0x40 * i
/-- MRG_FLOW_MISS_CNT bits [31:0]. -/
def Fld.MRG_FLOW_MISS_CNT.SLOTS (i : Nat) : Fld := ⟨(Reg.MRG_FLOW_MISS_CNT i), 31, 0⟩
/-- Key of MRG_FLOW_INV_CNT. -/
def Reg.MRG_FLOW_INV_CNT (i : Nat) : Nat := 0x074001C + 0x40 * i
/-- MRG_FLOW_INV_CNT bits [31:16]. -/
def Fld.MRG_FLOW_INV_CNT.P (i : Nat) : Fld := ⟨(Reg.MRG_FLOW_INV_CNT i), 31, 16⟩
/-- MRG_FLOW_INV_CNT bits [15:0]. -/
def Fld.MRG_FLOW_INV_CNT.W (i : Nat) : Fld := ⟨(Reg.MRG_FLOW_INV_CNT i), 15, 0⟩
/-- Key of MRG_FLOW_EVT. -/
def Reg.MRG_FLOW_EVT (i : Nat) : Nat := 0x0740020 + 0x40 * i
/-- Key of MRG_FLOW_TXSQ. -/
def Reg.MRG_FLOW_TXSQ (i : Nat) : Nat := 0x0740024 + 0x40 * i
/-- Key of MRG_FLOW_OUTSQ. -/
def Reg.MRG_FLOW_OUTSQ (i : Nat) : Nat := 0x0740028 + 0x40 * i
/-- Key of HST_OCTET_CTL. -/
def Reg.HST_OCTET_CTL (i : Nat) : Nat := 0x0800000 + 0x4 * i
/-- HST_OCTET_CTL bits [6:4]. -/
def Fld.HST_OCTET_CTL.CLK_LANE (i : Nat) : Fld := ⟨(Reg.HST_OCTET_CTL i), 6, 4⟩
/-- HST_OCTET_CTL bits [1:1]. -/
def Fld.HST_OCTET_CTL.RATE (i : Nat) : Fld := ⟨(Reg.HST_OCTET_CTL i), 1, 1⟩
/-- HST_OCTET_CTL bits [0:0]. -/
def Fld.HST_OCTET_CTL.EN (i : Nat) : Fld := ⟨(Reg.HST_OCTET_CTL i), 0, 0⟩
/-- Key of HST_OCTET_STATUS. -/
def Reg.HST_OCTET_STATUS : Nat := 0x0800020
/-- Key of HST_INT_STATUS. -/
def Reg.HST_INT_STATUS : Nat := 0x0800030
/-- Key of HST_INT_EN. -/
def Reg.HST_INT_EN : Nat := 0x0800034
/-- Key of HST_HELLO_CTL. -/
def Reg.HST_HELLO_CTL : Nat := 0x0800044
/-- HST_HELLO_CTL bits [9:0]. -/
def Fld.HST_HELLO_CTL.HELLO_INT : Fld := ⟨Reg.HST_HELLO_CTL, 9, 0⟩
/-- Key of HST_LANE_CTL. -/
def Reg.HST_LANE_CTL (i : Nat) : Nat := 0x0810000 + 0x100 * i
/-- HST_LANE_CTL bits [19:16]. -/
def Fld.HST_LANE_CTL.GROUP (i : Nat) : Fld := ⟨(Reg.HST_LANE_CTL i), 19, 16⟩
/-- HST_LANE_CTL bits [10:10]. -/
def Fld.HST_LANE_CTL.TX_INV (i : Nat) : Fld := ⟨(Reg.HST_LANE_CTL i), 10, 10⟩
/-- HST_LANE_CTL bits [9:9]. -/
def Fld.HST_LANE_CTL.RX_PRECODE (i : Nat) : Fld := ⟨(Reg.HST_LANE_CTL i), 9, 9⟩
/-- HST_LANE_CTL bits [8:8]. -/
def Fld.HST_LANE_CTL.TX_PRECODE (i : Nat) : Fld := ⟨(Reg.HST_LANE_CTL i), 8, 8⟩
/-- HST_LANE_CTL bits [1:0]. -/
def Fld.HST_LANE_CTL.ROLE (i : Nat) : Fld := ⟨(Reg.HST_LANE_CTL i), 1, 0⟩
/-- Key of HST_LANE_STATUS. -/
def Reg.HST_LANE_STATUS (i : Nat) : Nat := 0x0810004 + 0x100 * i
/-- HST_LANE_STATUS bits [11:11]. -/
def Fld.HST_LANE_STATUS.FIR_SCALED (i : Nat) : Fld := ⟨(Reg.HST_LANE_STATUS i), 11, 11⟩
/-- HST_LANE_STATUS bits [10:10]. -/
def Fld.HST_LANE_STATUS.FIR_REFUSED (i : Nat) : Fld := ⟨(Reg.HST_LANE_STATUS i), 10, 10⟩
/-- HST_LANE_STATUS bits [9:8]. -/
def Fld.HST_LANE_STATUS.PRECODE_ACT (i : Nat) : Fld := ⟨(Reg.HST_LANE_STATUS i), 9, 8⟩
/-- HST_LANE_STATUS bits [7:7]. -/
def Fld.HST_LANE_STATUS.PRBS_LOCK (i : Nat) : Fld := ⟨(Reg.HST_LANE_STATUS i), 7, 7⟩
/-- HST_LANE_STATUS bits [6:6]. -/
def Fld.HST_LANE_STATUS.CLAIMED (i : Nat) : Fld := ⟨(Reg.HST_LANE_STATUS i), 6, 6⟩
/-- HST_LANE_STATUS bits [5:5]. -/
def Fld.HST_LANE_STATUS.SD (i : Nat) : Fld := ⟨(Reg.HST_LANE_STATUS i), 5, 5⟩
/-- HST_LANE_STATUS bits [2:0]. -/
def Fld.HST_LANE_STATUS.STATE (i : Nat) : Fld := ⟨(Reg.HST_LANE_STATUS i), 2, 0⟩
/-- Key of HST_LANE_RX_EQ. -/
def Reg.HST_LANE_RX_EQ (i : Nat) : Nat := 0x0810008 + 0x100 * i
/-- HST_LANE_RX_EQ bits [11:11]. -/
def Fld.HST_LANE_RX_EQ.FREEZE (i : Nat) : Fld := ⟨(Reg.HST_LANE_RX_EQ i), 11, 11⟩
/-- HST_LANE_RX_EQ bits [10:10]. -/
def Fld.HST_LANE_RX_EQ.DFE_ADAPT (i : Nat) : Fld := ⟨(Reg.HST_LANE_RX_EQ i), 10, 10⟩
/-- HST_LANE_RX_EQ bits [9:9]. -/
def Fld.HST_LANE_RX_EQ.FFE_ADAPT (i : Nat) : Fld := ⟨(Reg.HST_LANE_RX_EQ i), 9, 9⟩
/-- HST_LANE_RX_EQ bits [8:8]. -/
def Fld.HST_LANE_RX_EQ.CTLE_ADAPT (i : Nat) : Fld := ⟨(Reg.HST_LANE_RX_EQ i), 8, 8⟩
/-- HST_LANE_RX_EQ bits [5:0]. -/
def Fld.HST_LANE_RX_EQ.CTLE (i : Nat) : Fld := ⟨(Reg.HST_LANE_RX_EQ i), 5, 0⟩
/-- Key of HST_LANE_TX_FIR0. -/
def Reg.HST_LANE_TX_FIR0 (i : Nat) : Nat := 0x0810010 + 0x100 * i
/-- HST_LANE_TX_FIR0 bits [31:24]. -/
def Fld.HST_LANE_TX_FIR0.C0 (i : Nat) : Fld := ⟨(Reg.HST_LANE_TX_FIR0 i), 31, 24⟩
/-- HST_LANE_TX_FIR0 bits [23:16]. -/
def Fld.HST_LANE_TX_FIR0.CM1 (i : Nat) : Fld := ⟨(Reg.HST_LANE_TX_FIR0 i), 23, 16⟩
/-- HST_LANE_TX_FIR0 bits [15:8]. -/
def Fld.HST_LANE_TX_FIR0.CM2 (i : Nat) : Fld := ⟨(Reg.HST_LANE_TX_FIR0 i), 15, 8⟩
/-- HST_LANE_TX_FIR0 bits [7:0]. -/
def Fld.HST_LANE_TX_FIR0.CM3 (i : Nat) : Fld := ⟨(Reg.HST_LANE_TX_FIR0 i), 7, 0⟩
/-- Key of HST_LANE_TX_FIR1. -/
def Reg.HST_LANE_TX_FIR1 (i : Nat) : Nat := 0x0810014 + 0x100 * i
/-- HST_LANE_TX_FIR1 bits [15:8]. -/
def Fld.HST_LANE_TX_FIR1.CP2 (i : Nat) : Fld := ⟨(Reg.HST_LANE_TX_FIR1 i), 15, 8⟩
/-- HST_LANE_TX_FIR1 bits [7:0]. -/
def Fld.HST_LANE_TX_FIR1.CP1 (i : Nat) : Fld := ⟨(Reg.HST_LANE_TX_FIR1 i), 7, 0⟩
/-- Key of HST_LANE_PRBS_CTL. -/
def Reg.HST_LANE_PRBS_CTL (i : Nat) : Nat := 0x0810018 + 0x100 * i
/-- HST_LANE_PRBS_CTL bits [9:9]. -/
def Fld.HST_LANE_PRBS_CTL.CHK_INV (i : Nat) : Fld := ⟨(Reg.HST_LANE_PRBS_CTL i), 9, 9⟩
/-- HST_LANE_PRBS_CTL bits [8:8]. -/
def Fld.HST_LANE_PRBS_CTL.CHK_EN (i : Nat) : Fld := ⟨(Reg.HST_LANE_PRBS_CTL i), 8, 8⟩
/-- HST_LANE_PRBS_CTL bits [7:5]. -/
def Fld.HST_LANE_PRBS_CTL.CHK_PAT (i : Nat) : Fld := ⟨(Reg.HST_LANE_PRBS_CTL i), 7, 5⟩
/-- HST_LANE_PRBS_CTL bits [4:4]. -/
def Fld.HST_LANE_PRBS_CTL.GEN_EN (i : Nat) : Fld := ⟨(Reg.HST_LANE_PRBS_CTL i), 4, 4⟩
/-- HST_LANE_PRBS_CTL bits [2:0]. -/
def Fld.HST_LANE_PRBS_CTL.GEN_PAT (i : Nat) : Fld := ⟨(Reg.HST_LANE_PRBS_CTL i), 2, 0⟩
/-- Key of HST_LANE_BITS_LO. -/
def Reg.HST_LANE_BITS_LO (i : Nat) : Nat := 0x0810020 + 0x100 * i
/-- Key of HST_LANE_ERRS_LO. -/
def Reg.HST_LANE_ERRS_LO (i : Nat) : Nat := 0x0810028 + 0x100 * i
/-- Key of HST_LANE_TRAIN_CNT. -/
def Reg.HST_LANE_TRAIN_CNT (i : Nat) : Nat := 0x0810030 + 0x100 * i
/-- HST_LANE_TRAIN_CNT bits [31:16]. -/
def Fld.HST_LANE_TRAIN_CNT.LINK_DOWN (i : Nat) : Fld := ⟨(Reg.HST_LANE_TRAIN_CNT i), 31, 16⟩
/-- HST_LANE_TRAIN_CNT bits [15:0]. -/
def Fld.HST_LANE_TRAIN_CNT.ABORT (i : Nat) : Fld := ⟨(Reg.HST_LANE_TRAIN_CNT i), 15, 0⟩
/-- Key of HST_CLIENT_CTL. -/
def Reg.HST_CLIENT_CTL (i : Nat) : Nat := 0x0820000 + 0x40 * i
/-- HST_CLIENT_CTL bits [17:17]. -/
def Fld.HST_CLIENT_CTL.AN_EN (i : Nat) : Fld := ⟨(Reg.HST_CLIENT_CTL i), 17, 17⟩
/-- HST_CLIENT_CTL bits [16:16]. -/
def Fld.HST_CLIENT_CTL.LT_EN (i : Nat) : Fld := ⟨(Reg.HST_CLIENT_CTL i), 16, 16⟩
/-- HST_CLIENT_CTL bits [15:0]. -/
def Fld.HST_CLIENT_CTL.TYPE (i : Nat) : Fld := ⟨(Reg.HST_CLIENT_CTL i), 15, 0⟩
/-- Key of HST_CLIENT_STATUS. -/
def Reg.HST_CLIENT_STATUS (i : Nat) : Nat := 0x0820004 + 0x40 * i
/-- HST_CLIENT_STATUS bits [11:8]. -/
def Fld.HST_CLIENT_STATUS.LANES_UP (i : Nat) : Fld := ⟨(Reg.HST_CLIENT_STATUS i), 11, 8⟩
/-- HST_CLIENT_STATUS bits [4:4]. -/
def Fld.HST_CLIENT_STATUS.CFG_ERR (i : Nat) : Fld := ⟨(Reg.HST_CLIENT_STATUS i), 4, 4⟩
/-- HST_CLIENT_STATUS bits [3:3]. -/
def Fld.HST_CLIENT_STATUS.FAIL (i : Nat) : Fld := ⟨(Reg.HST_CLIENT_STATUS i), 3, 3⟩
/-- HST_CLIENT_STATUS bits [2:2]. -/
def Fld.HST_CLIENT_STATUS.HI_SER (i : Nat) : Fld := ⟨(Reg.HST_CLIENT_STATUS i), 2, 2⟩
/-- HST_CLIENT_STATUS bits [1:1]. -/
def Fld.HST_CLIENT_STATUS.RF_RX (i : Nat) : Fld := ⟨(Reg.HST_CLIENT_STATUS i), 1, 1⟩
/-- HST_CLIENT_STATUS bits [0:0]. -/
def Fld.HST_CLIENT_STATUS.ALIGN (i : Nat) : Fld := ⟨(Reg.HST_CLIENT_STATUS i), 0, 0⟩
/-- Key of HST_CLIENT_CW_LO. -/
def Reg.HST_CLIENT_CW_LO (i : Nat) : Nat := 0x0820008 + 0x40 * i
/-- Key of HST_CLIENT_CORR_LO. -/
def Reg.HST_CLIENT_CORR_LO (i : Nat) : Nat := 0x0820010 + 0x40 * i
/-- Key of HST_CLIENT_UNCORR_LO. -/
def Reg.HST_CLIENT_UNCORR_LO (i : Nat) : Nat := 0x0820018 + 0x40 * i
/-- Key of HST_TSU_STATUS. -/
def Reg.HST_TSU_STATUS (i : Nat) : Nat := 0x0830000 + 0x40 * i
/-- HST_TSU_STATUS bits [31:24]. -/
def Fld.HST_TSU_STATUS.PLANE (i : Nat) : Fld := ⟨(Reg.HST_TSU_STATUS i), 31, 24⟩
/-- HST_TSU_STATUS bits [23:20]. -/
def Fld.HST_TSU_STATUS.PGROUP (i : Nat) : Fld := ⟨(Reg.HST_TSU_STATUS i), 23, 20⟩
/-- HST_TSU_STATUS bits [19:16]. -/
def Fld.HST_TSU_STATUS.PLANES (i : Nat) : Fld := ⟨(Reg.HST_TSU_STATUS i), 19, 16⟩
/-- HST_TSU_STATUS bits [9:8]. -/
def Fld.HST_TSU_STATUS.PROLE (i : Nat) : Fld := ⟨(Reg.HST_TSU_STATUS i), 9, 8⟩
/-- HST_TSU_STATUS bits [2:2]. -/
def Fld.HST_TSU_STATUS.MISMATCH (i : Nat) : Fld := ⟨(Reg.HST_TSU_STATUS i), 2, 2⟩
/-- HST_TSU_STATUS bits [1:1]. -/
def Fld.HST_TSU_STATUS.PARTNER (i : Nat) : Fld := ⟨(Reg.HST_TSU_STATUS i), 1, 1⟩
/-- HST_TSU_STATUS bits [0:0]. -/
def Fld.HST_TSU_STATUS.FRAME_LOCK (i : Nat) : Fld := ⟨(Reg.HST_TSU_STATUS i), 0, 0⟩
/-- Key of HST_TSU_PARTNER_LO. -/
def Reg.HST_TSU_PARTNER_LO (i : Nat) : Nat := 0x0830004 + 0x40 * i
/-- Key of HST_TSU_ERR_CNT. -/
def Reg.HST_TSU_ERR_CNT (i : Nat) : Nat := 0x083000C + 0x40 * i
/-- HST_TSU_ERR_CNT bits [19:10]. -/
def Fld.HST_TSU_ERR_CNT.DROP (i : Nat) : Fld := ⟨(Reg.HST_TSU_ERR_CNT i), 19, 10⟩
/-- HST_TSU_ERR_CNT bits [9:0]. -/
def Fld.HST_TSU_ERR_CNT.CRC (i : Nat) : Fld := ⟨(Reg.HST_TSU_ERR_CNT i), 9, 0⟩
/-- Key of HST_TSU_TX_LO. -/
def Reg.HST_TSU_TX_LO (i : Nat) : Nat := 0x0830010 + 0x40 * i
/-- Key of HST_TSU_RX_LO. -/
def Reg.HST_TSU_RX_LO (i : Nat) : Nat := 0x0830018 + 0x40 * i
/-- Key of RMS_ADM_LIMIT. -/
def Reg.RMS_ADM_LIMIT : Nat := 0x0900000
/-- RMS_ADM_LIMIT bits [11:0]. -/
def Fld.RMS_ADM_LIMIT.LIMIT : Fld := ⟨Reg.RMS_ADM_LIMIT, 11, 0⟩
/-- Key of RMS_TR_CAP. -/
def Reg.RMS_TR_CAP : Nat := 0x0900004
/-- RMS_TR_CAP bits [11:0]. -/
def Fld.RMS_TR_CAP.CAP : Fld := ⟨Reg.RMS_TR_CAP, 11, 0⟩
/-- Key of RMS_CLASS_W0. -/
def Reg.RMS_CLASS_W0 : Nat := 0x0900008
/-- Key of RMS_CLASS_W1. -/
def Reg.RMS_CLASS_W1 : Nat := 0x090000C
/-- Key of RMS_ADM_KIND. -/
def Reg.RMS_ADM_KIND (i : Nat) : Nat := 0x0900010 + 0x4 * i
/-- RMS_ADM_KIND bits [27:16]. -/
def Fld.RMS_ADM_KIND.GRANTED (i : Nat) : Fld := ⟨(Reg.RMS_ADM_KIND i), 27, 16⟩
/-- RMS_ADM_KIND bits [11:0]. -/
def Fld.RMS_ADM_KIND.RESERVED (i : Nat) : Fld := ⟨(Reg.RMS_ADM_KIND i), 11, 0⟩
/-- Key of RMS_INFLIGHT. -/
def Reg.RMS_INFLIGHT : Nat := 0x0900104
/-- RMS_INFLIGHT bits [28:16]. -/
def Fld.RMS_INFLIGHT.PEAK : Fld := ⟨Reg.RMS_INFLIGHT, 28, 16⟩
/-- RMS_INFLIGHT bits [12:0]. -/
def Fld.RMS_INFLIGHT.OPS : Fld := ⟨Reg.RMS_INFLIGHT, 12, 0⟩
/-- Key of RMS_INT_STATUS. -/
def Reg.RMS_INT_STATUS : Nat := 0x0900110
/-- Key of RMS_INT_EN. -/
def Reg.RMS_INT_EN : Nat := 0x0900114
/-- Key of RMS_ECC_CNT. -/
def Reg.RMS_ECC_CNT : Nat := 0x0900118
/-- RMS_ECC_CNT bits [31:16]. -/
def Fld.RMS_ECC_CNT.CE : Fld := ⟨Reg.RMS_ECC_CNT, 31, 16⟩
/-- RMS_ECC_CNT bits [15:0]. -/
def Fld.RMS_ECC_CNT.UE : Fld := ⟨Reg.RMS_ECC_CNT, 15, 0⟩
/-- Key of RMS_PAGE_CTL. -/
def Reg.RMS_PAGE_CTL : Nat := 0x0900120
/-- RMS_PAGE_CTL bits [29:24]. -/
def Fld.RMS_PAGE_CTL.MAX_OUT : Fld := ⟨Reg.RMS_PAGE_CTL, 29, 24⟩
/-- RMS_PAGE_CTL bits [19:16]. -/
def Fld.RMS_PAGE_CTL.RETRY : Fld := ⟨Reg.RMS_PAGE_CTL, 19, 16⟩
/-- Key of RMS_GRP. -/
def Reg.RMS_GRP (i : Nat) : Nat := 0x0900140 + 0x4 * i
/-- RMS_GRP bits [29:16]. -/
def Fld.RMS_GRP.LOAD (i : Nat) : Fld := ⟨(Reg.RMS_GRP i), 29, 16⟩
/-- RMS_GRP bits [13:0]. -/
def Fld.RMS_GRP.CAPACITY (i : Nat) : Fld := ⟨(Reg.RMS_GRP i), 13, 0⟩
/-- Key of RMS_WIN_CTL. -/
def Reg.RMS_WIN_CTL (i : Nat) : Nat := 0x0900180 + 0x10 * i
/-- RMS_WIN_CTL bits [31:16]. -/
def Fld.RMS_WIN_CTL.QUEUE (i : Nat) : Fld := ⟨(Reg.RMS_WIN_CTL i), 31, 16⟩
/-- RMS_WIN_CTL bits [10:8]. -/
def Fld.RMS_WIN_CTL.CLASS (i : Nat) : Fld := ⟨(Reg.RMS_WIN_CTL i), 10, 8⟩
/-- RMS_WIN_CTL bits [1:0]. -/
def Fld.RMS_WIN_CTL.MODE (i : Nat) : Fld := ⟨(Reg.RMS_WIN_CTL i), 1, 0⟩
/-- Key of RMS_WIN_BASE_LO. -/
def Reg.RMS_WIN_BASE_LO (i : Nat) : Nat := 0x0900184 + 0x10 * i
/-- Key of RMS_WIN_MISS. -/
def Reg.RMS_WIN_MISS (i : Nat) : Nat := 0x090018C + 0x10 * i
/-- RMS_WIN_MISS bits [31:0]. -/
def Fld.RMS_WIN_MISS.ACCESSES (i : Nat) : Fld := ⟨(Reg.RMS_WIN_MISS i), 31, 0⟩
/-- Key of RMS_QSEL. -/
def Reg.RMS_QSEL (r : Nat) : Nat := 0x100000000 * (r + 1) + 0x0900200
/-- Key of RMS_Q_DESC0. -/
def Reg.RMS_Q_DESC0 (q : Nat) : Nat := 0x10000000000 + 0x100 * q + 0x0
/-- RMS_Q_DESC0 bits [26:26]. -/
def Fld.RMS_Q_DESC0.RT (q : Nat) : Fld := ⟨(Reg.RMS_Q_DESC0 q), 26, 26⟩
/-- RMS_Q_DESC0 bits [25:25]. -/
def Fld.RMS_Q_DESC0.CAROUSEL (q : Nat) : Fld := ⟨(Reg.RMS_Q_DESC0 q), 25, 25⟩
/-- RMS_Q_DESC0 bits [24:24]. -/
def Fld.RMS_Q_DESC0.EN (q : Nat) : Fld := ⟨(Reg.RMS_Q_DESC0 q), 24, 24⟩
/-- RMS_Q_DESC0 bits [17:16]. -/
def Fld.RMS_Q_DESC0.POLICY (q : Nat) : Fld := ⟨(Reg.RMS_Q_DESC0 q), 17, 16⟩
/-- RMS_Q_DESC0 bits [10:8]. -/
def Fld.RMS_Q_DESC0.CLASS (q : Nat) : Fld := ⟨(Reg.RMS_Q_DESC0 q), 10, 8⟩
/-- RMS_Q_DESC0 bits [7:0]. -/
def Fld.RMS_Q_DESC0.TYPE (q : Nat) : Fld := ⟨(Reg.RMS_Q_DESC0 q), 7, 0⟩
/-- Key of RMS_Q_DESC1. -/
def Reg.RMS_Q_DESC1 (q : Nat) : Nat := 0x10000000000 + 0x100 * q + 0x4
/-- RMS_Q_DESC1 bits [31:16]. -/
def Fld.RMS_Q_DESC1.RESERVE (q : Nat) : Fld := ⟨(Reg.RMS_Q_DESC1 q), 31, 16⟩
/-- RMS_Q_DESC1 bits [15:0]. -/
def Fld.RMS_Q_DESC1.QUOTA (q : Nat) : Fld := ⟨(Reg.RMS_Q_DESC1 q), 15, 0⟩
/-- Key of RMS_Q_DESC2. -/
def Reg.RMS_Q_DESC2 (q : Nat) : Nat := 0x10000000000 + 0x100 * q + 0x8
/-- RMS_Q_DESC2 bits [31:16]. -/
def Fld.RMS_Q_DESC2.WM_LO (q : Nat) : Fld := ⟨(Reg.RMS_Q_DESC2 q), 31, 16⟩
/-- RMS_Q_DESC2 bits [15:0]. -/
def Fld.RMS_Q_DESC2.WM_HI (q : Nat) : Fld := ⟨(Reg.RMS_Q_DESC2 q), 15, 0⟩
/-- Key of RMS_Q_DESC3. -/
def Reg.RMS_Q_DESC3 (q : Nat) : Nat := 0x10000000000 + 0x100 * q + 0xC
/-- RMS_Q_DESC3 bits [31:16]. -/
def Fld.RMS_Q_DESC3.RATE_R (q : Nat) : Fld := ⟨(Reg.RMS_Q_DESC3 q), 31, 16⟩
/-- RMS_Q_DESC3 bits [15:0]. -/
def Fld.RMS_Q_DESC3.RATE_W (q : Nat) : Fld := ⟨(Reg.RMS_Q_DESC3 q), 15, 0⟩
/-- Key of RMS_Q_DESC4. -/
def Reg.RMS_Q_DESC4 (q : Nat) : Nat := 0x10000000000 + 0x100 * q + 0x10
/-- RMS_Q_DESC4 bits [31:16]. -/
def Fld.RMS_Q_DESC4.POST (q : Nat) : Fld := ⟨(Reg.RMS_Q_DESC4 q), 31, 16⟩
/-- RMS_Q_DESC4 bits [15:0]. -/
def Fld.RMS_Q_DESC4.PAGE_RATE (q : Nat) : Fld := ⟨(Reg.RMS_Q_DESC4 q), 15, 0⟩
/-- Key of RMS_Q_DESC5. -/
def Reg.RMS_Q_DESC5 (q : Nat) : Nat := 0x10000000000 + 0x100 * q + 0x14
/-- Key of RMS_Q_DESC6. -/
def Reg.RMS_Q_DESC6 (q : Nat) : Nat := 0x10000000000 + 0x100 * q + 0x18
/-- Key of RMS_Q_DESC7. -/
def Reg.RMS_Q_DESC7 (q : Nat) : Nat := 0x10000000000 + 0x100 * q + 0x1C
/-- RMS_Q_DESC7 bits [23:16]. -/
def Fld.RMS_Q_DESC7.PREFETCH (q : Nat) : Fld := ⟨(Reg.RMS_Q_DESC7 q), 23, 16⟩
/-- RMS_Q_DESC7 bits [15:8]. -/
def Fld.RMS_Q_DESC7.MSIX (q : Nat) : Fld := ⟨(Reg.RMS_Q_DESC7 q), 15, 8⟩
/-- RMS_Q_DESC7 bits [7:0]. -/
def Fld.RMS_Q_DESC7.GROUP (q : Nat) : Fld := ⟨(Reg.RMS_Q_DESC7 q), 7, 0⟩
/-- Key of RMS_Q_STATE. -/
def Reg.RMS_Q_STATE (q : Nat) : Nat := 0x10000000000 + 0x100 * q + 0x20
/-- RMS_Q_STATE bits [6:6]. -/
def Fld.RMS_Q_STATE.EXT_FULL (q : Nat) : Fld := ⟨(Reg.RMS_Q_STATE q), 6, 6⟩
/-- RMS_Q_STATE bits [5:5]. -/
def Fld.RMS_Q_STATE.PAGE_HALT (q : Nat) : Fld := ⟨(Reg.RMS_Q_STATE q), 5, 5⟩
/-- RMS_Q_STATE bits [4:4]. -/
def Fld.RMS_Q_STATE.TRIG_VALID (q : Nat) : Fld := ⟨(Reg.RMS_Q_STATE q), 4, 4⟩
/-- RMS_Q_STATE bits [2:0]. -/
def Fld.RMS_Q_STATE.STATE (q : Nat) : Fld := ⟨(Reg.RMS_Q_STATE q), 2, 0⟩
/-- Key of RMS_Q_EVT. -/
def Reg.RMS_Q_EVT (q : Nat) : Nat := 0x10000000000 + 0x100 * q + 0x28
/-- Key of RMS_Q_EVT_EN. -/
def Reg.RMS_Q_EVT_EN (q : Nat) : Nat := 0x10000000000 + 0x100 * q + 0x2C
/-- Key of RMS_Q_HEAD_LO. -/
def Reg.RMS_Q_HEAD_LO (q : Nat) : Nat := 0x10000000000 + 0x100 * q + 0x30
/-- Key of RMS_Q_CONS_LO. -/
def Reg.RMS_Q_CONS_LO (q : Nat) : Nat := 0x10000000000 + 0x100 * q + 0x38
/-- Key of RMS_Q_TAIL_LO. -/
def Reg.RMS_Q_TAIL_LO (q : Nat) : Nat := 0x10000000000 + 0x100 * q + 0x40
/-- Key of RMS_Q_TRIG_LO. -/
def Reg.RMS_Q_TRIG_LO (q : Nat) : Nat := 0x10000000000 + 0x100 * q + 0x48
/-- Key of RMS_Q_GRANT. -/
def Reg.RMS_Q_GRANT (q : Nat) : Nat := 0x10000000000 + 0x100 * q + 0x58
/-- RMS_Q_GRANT bits [31:16]. -/
def Fld.RMS_Q_GRANT.GRANT_GRP (q : Nat) : Fld := ⟨(Reg.RMS_Q_GRANT q), 31, 16⟩
/-- RMS_Q_GRANT bits [11:0]. -/
def Fld.RMS_Q_GRANT.GRANT_HBM (q : Nat) : Fld := ⟨(Reg.RMS_Q_GRANT q), 11, 0⟩
/-- Key of RMS_Q_CNT. -/
def Reg.RMS_Q_CNT (q : Nat) : Nat := 0x10000000000 + 0x100 * q + 0x5C
/-- RMS_Q_CNT bits [31:16]. -/
def Fld.RMS_Q_CNT.TRUNC (q : Nat) : Fld := ⟨(Reg.RMS_Q_CNT q), 31, 16⟩
/-- RMS_Q_CNT bits [15:0]. -/
def Fld.RMS_Q_CNT.DROP (q : Nat) : Fld := ⟨(Reg.RMS_Q_CNT q), 15, 0⟩
/-- Key of RMS_DMA_CTL. -/
def Reg.RMS_DMA_CTL (i : Nat) : Nat := 0x0920000 + 0x40 * i
/-- RMS_DMA_CTL bits [31:16]. -/
def Fld.RMS_DMA_CTL.QUEUE (i : Nat) : Fld := ⟨(Reg.RMS_DMA_CTL i), 31, 16⟩
/-- RMS_DMA_CTL bits [12:8]. -/
def Fld.RMS_DMA_CTL.RING_LOG2 (i : Nat) : Fld := ⟨(Reg.RMS_DMA_CTL i), 12, 8⟩
/-- RMS_DMA_CTL bits [1:1]. -/
def Fld.RMS_DMA_CTL.DIR (i : Nat) : Fld := ⟨(Reg.RMS_DMA_CTL i), 1, 1⟩
/-- RMS_DMA_CTL bits [0:0]. -/
def Fld.RMS_DMA_CTL.EN (i : Nat) : Fld := ⟨(Reg.RMS_DMA_CTL i), 0, 0⟩
/-- Key of RMS_DMA_RING_LO. -/
def Reg.RMS_DMA_RING_LO (i : Nat) : Nat := 0x0920004 + 0x40 * i
/-- Key of RMS_DMA_PROD. -/
def Reg.RMS_DMA_PROD (i : Nat) : Nat := 0x092000C + 0x40 * i
/-- RMS_DMA_PROD bits [15:0]. -/
def Fld.RMS_DMA_PROD.PROD (i : Nat) : Fld := ⟨(Reg.RMS_DMA_PROD i), 15, 0⟩
/-- Key of RMS_DMA_STATUS. -/
def Reg.RMS_DMA_STATUS (i : Nat) : Nat := 0x0920010 + 0x40 * i
/-- RMS_DMA_STATUS bits [31:16]. -/
def Fld.RMS_DMA_STATUS.CONS (i : Nat) : Fld := ⟨(Reg.RMS_DMA_STATUS i), 31, 16⟩
/-- RMS_DMA_STATUS bits [3:3]. -/
def Fld.RMS_DMA_STATUS.ERR (i : Nat) : Fld := ⟨(Reg.RMS_DMA_STATUS i), 3, 3⟩
/-- RMS_DMA_STATUS bits [2:2]. -/
def Fld.RMS_DMA_STATUS.WAIT (i : Nat) : Fld := ⟨(Reg.RMS_DMA_STATUS i), 2, 2⟩
/-- RMS_DMA_STATUS bits [1:1]. -/
def Fld.RMS_DMA_STATUS.BUSY (i : Nat) : Fld := ⟨(Reg.RMS_DMA_STATUS i), 1, 1⟩
/-- Key of RMS_DMA_DONE_CNT. -/
def Reg.RMS_DMA_DONE_CNT (i : Nat) : Nat := 0x0920014 + 0x40 * i
/-- RMS_DMA_DONE_CNT bits [31:0]. -/
def Fld.RMS_DMA_DONE_CNT.DESCS (i : Nat) : Fld := ⟨(Reg.RMS_DMA_DONE_CNT i), 31, 0⟩
/-- Key of PRB_RUN_LO. -/
def Reg.PRB_RUN_LO : Nat := 0x0A00010
/-- Key of PRB_HALT_LO. -/
def Reg.PRB_HALT_LO : Nat := 0x0A00018
/-- Key of PRB_INT_STATUS. -/
def Reg.PRB_INT_STATUS : Nat := 0x0A00020
/-- Key of PRB_INT_EN. -/
def Reg.PRB_INT_EN : Nat := 0x0A00024
/-- Key of PRB_TRIG_IN_CTL. -/
def Reg.PRB_TRIG_IN_CTL : Nat := 0x0A00030
/-- Key of PRB_TRIG_IN_STATUS. -/
def Reg.PRB_TRIG_IN_STATUS : Nat := 0x0A00034
/-- Key of PRB_TRIG_IN_CNT. -/
def Reg.PRB_TRIG_IN_CNT (i : Nat) : Nat := 0x0A00040 + 0x4 * i
/-- PRB_TRIG_IN_CNT bits [31:16]. -/
def Fld.PRB_TRIG_IN_CNT.IGNORED (i : Nat) : Fld := ⟨(Reg.PRB_TRIG_IN_CNT i), 31, 16⟩
/-- PRB_TRIG_IN_CNT bits [15:0]. -/
def Fld.PRB_TRIG_IN_CNT.ACCEPTED (i : Nat) : Fld := ⟨(Reg.PRB_TRIG_IN_CNT i), 15, 0⟩
/-- Key of PRB_TRIG_OUT_CTL. -/
def Reg.PRB_TRIG_OUT_CTL (i : Nat) : Nat := 0x0A00050 + 0x4 * i
/-- PRB_TRIG_OUT_CTL bits [31:31]. -/
def Fld.PRB_TRIG_OUT_CTL.INV (i : Nat) : Fld := ⟨(Reg.PRB_TRIG_OUT_CTL i), 31, 31⟩
/-- PRB_TRIG_OUT_CTL bits [11:0]. -/
def Fld.PRB_TRIG_OUT_CTL.PW (i : Nat) : Fld := ⟨(Reg.PRB_TRIG_OUT_CTL i), 11, 0⟩
/-- Key of PRB_IMEM_SEL. -/
def Reg.PRB_IMEM_SEL (r : Nat) : Nat := 0x100000000 * (r + 1) + 0x0A00070
/-- PRB_IMEM_SEL bits [21:16]. -/
def Fld.PRB_IMEM_SEL.ENGINE (r : Nat) : Fld := ⟨(Reg.PRB_IMEM_SEL r), 21, 16⟩
/-- PRB_IMEM_SEL bits [11:0]. -/
def Fld.PRB_IMEM_SEL.WORD (r : Nat) : Fld := ⟨(Reg.PRB_IMEM_SEL r), 11, 0⟩
/-- Key of PRB_CMD_REF_CNT. -/
def Reg.PRB_CMD_REF_CNT : Nat := 0x0A00078
/-- PRB_CMD_REF_CNT bits [31:0]. -/
def Fld.PRB_CMD_REF_CNT.COMMANDS : Fld := ⟨Reg.PRB_CMD_REF_CNT, 31, 0⟩
/-- Key of PRB_EVT_SRC. -/
def Reg.PRB_EVT_SRC (i : Nat) : Nat := 0x0A00400 + 0x4 * i
/-- Key of PRB_ENG_CTL. -/
def Reg.PRB_ENG_CTL (i : Nat) : Nat := 0x0A10000 + 0x100 * i
/-- PRB_ENG_CTL bits [0:0]. -/
def Fld.PRB_ENG_CTL.AUTORUN (i : Nat) : Fld := ⟨(Reg.PRB_ENG_CTL i), 0, 0⟩
/-- Key of PRB_ENG_STATUS. -/
def Reg.PRB_ENG_STATUS (i : Nat) : Nat := 0x0A10004 + 0x100 * i
/-- PRB_ENG_STATUS bits [28:16]. -/
def Fld.PRB_ENG_STATUS.PC (i : Nat) : Fld := ⟨(Reg.PRB_ENG_STATUS i), 28, 16⟩
/-- PRB_ENG_STATUS bits [10:8]. -/
def Fld.PRB_ENG_STATUS.CAUSE (i : Nat) : Fld := ⟨(Reg.PRB_ENG_STATUS i), 10, 8⟩
/-- PRB_ENG_STATUS bits [2:0]. -/
def Fld.PRB_ENG_STATUS.STATE (i : Nat) : Fld := ⟨(Reg.PRB_ENG_STATUS i), 2, 0⟩
/-- Key of PRB_ENG_EVT. -/
def Reg.PRB_ENG_EVT (i : Nat) : Nat := 0x0A10008 + 0x100 * i
/-- Key of PRB_ENG_LATCH. -/
def Reg.PRB_ENG_LATCH (i : Nat) : Nat := 0x0A1000C + 0x100 * i
/-- PRB_ENG_LATCH bits [23:0]. -/
def Fld.PRB_ENG_LATCH.LATCH (i : Nat) : Fld := ⟨(Reg.PRB_ENG_LATCH i), 23, 0⟩
/-- Key of PRB_ENG_SEL. -/
def Reg.PRB_ENG_SEL (i j : Nat) : Nat := 0x0A10040 + 0x100 * i + 0x4 * j
/-- PRB_ENG_SEL bits [8:0]. -/
def Fld.PRB_ENG_SEL.EVENT (i j : Nat) : Fld := ⟨(Reg.PRB_ENG_SEL i j), 8, 0⟩
/-- Key of PRB_ENG_PARAM. -/
def Reg.PRB_ENG_PARAM (i j : Nat) : Nat := 0x0A10080 + 0x100 * i + 0x4 * j
/-- PRB_ENG_PARAM bits [31:0]. -/
def Fld.PRB_ENG_PARAM.VALUE (i j : Nat) : Fld := ⟨(Reg.PRB_ENG_PARAM i j), 31, 0⟩
/-- Key of PRB_ENG_OUT. -/
def Reg.PRB_ENG_OUT (i j : Nat) : Nat := 0x0A100A0 + 0x100 * i + 0x4 * j
/-- PRB_ENG_OUT bits [31:0]. -/
def Fld.PRB_ENG_OUT.VALUE (i j : Nat) : Fld := ⟨(Reg.PRB_ENG_OUT i j), 31, 0⟩
/-- Key of PRB_ENG_X_LO. -/
def Reg.PRB_ENG_X_LO (i j : Nat) : Nat := 0x0A20000 + 0x200 * i + 0x8 * j
/-- Key of PRB_CNT_LO. -/
def Reg.PRB_CNT_LO (i : Nat) : Nat := 0x0A30000 + 0x8 * i
/-- Key of PRB_CNT_SRC. -/
def Reg.PRB_CNT_SRC (i : Nat) : Nat := 0x0A31000 + 0x4 * i
/-- Key of PRB_PM_CTL. -/
def Reg.PRB_PM_CTL (i : Nat) : Nat := 0x0A40000 + 0x100 * i
/-- PRB_PM_CTL bits [27:12]. -/
def Fld.PRB_PM_CTL.OFFSET (i : Nat) : Fld := ⟨(Reg.PRB_PM_CTL i), 27, 12⟩
/-- PRB_PM_CTL bits [2:2]. -/
def Fld.PRB_PM_CTL.ANCHOR (i : Nat) : Fld := ⟨(Reg.PRB_PM_CTL i), 2, 2⟩
/-- PRB_PM_CTL bits [1:1]. -/
def Fld.PRB_PM_CTL.MODE (i : Nat) : Fld := ⟨(Reg.PRB_PM_CTL i), 1, 1⟩
/-- PRB_PM_CTL bits [0:0]. -/
def Fld.PRB_PM_CTL.EN (i : Nat) : Fld := ⟨(Reg.PRB_PM_CTL i), 0, 0⟩
/-- Key of PRB_PM_EVERY. -/
def Reg.PRB_PM_EVERY (i : Nat) : Nat := 0x0A40004 + 0x100 * i
/-- PRB_PM_EVERY bits [15:0]. -/
def Fld.PRB_PM_EVERY.N (i : Nat) : Fld := ⟨(Reg.PRB_PM_EVERY i), 15, 0⟩
/-- Key of PRB_PM_HITS_LO. -/
def Reg.PRB_PM_HITS_LO (i : Nat) : Nat := 0x0A40008 + 0x100 * i
/-- Key of PRB_PM_MASK. -/
def Reg.PRB_PM_MASK (i j : Nat) : Nat := 0x0A40040 + 0x100 * i + 0x4 * j
/-- Key of PRB_PM_VALUE. -/
def Reg.PRB_PM_VALUE (i j : Nat) : Nat := 0x0A40080 + 0x100 * i + 0x4 * j
/-- Key of CAP_SYNC. -/
def Reg.CAP_SYNC : Nat := 0x0B00004
/-- CAP_SYNC bits [15:0]. -/
def Fld.CAP_SYNC.EVENTS : Fld := ⟨Reg.CAP_SYNC, 15, 0⟩
/-- Key of CAP_INT_STATUS. -/
def Reg.CAP_INT_STATUS : Nat := 0x0B00010
/-- Key of CAP_INT_EN. -/
def Reg.CAP_INT_EN : Nat := 0x0B00014
/-- Key of CAP_SEG_REFUSED. -/
def Reg.CAP_SEG_REFUSED : Nat := 0x0B00018
/-- CAP_SEG_REFUSED bits [31:0]. -/
def Fld.CAP_SEG_REFUSED.WRITES : Fld := ⟨Reg.CAP_SEG_REFUSED, 31, 0⟩
/-- Key of CAP_SBUF_CTL. -/
def Reg.CAP_SBUF_CTL (i : Nat) : Nat := 0x0B00100 + 0x10 * i
/-- CAP_SBUF_CTL bits [31:31]. -/
def Fld.CAP_SBUF_CTL.EN (i : Nat) : Fld := ⟨(Reg.CAP_SBUF_CTL i), 31, 31⟩
/-- CAP_SBUF_CTL bits [30:30]. -/
def Fld.CAP_SBUF_CTL.RING (i : Nat) : Fld := ⟨(Reg.CAP_SBUF_CTL i), 30, 30⟩
/-- CAP_SBUF_CTL bits [19:16]. -/
def Fld.CAP_SBUF_CTL.BANKS (i : Nat) : Fld := ⟨(Reg.CAP_SBUF_CTL i), 19, 16⟩
/-- CAP_SBUF_CTL bits [3:0]. -/
def Fld.CAP_SBUF_CTL.FIRST (i : Nat) : Fld := ⟨(Reg.CAP_SBUF_CTL i), 3, 0⟩
/-- Key of CAP_SBUF_POST. -/
def Reg.CAP_SBUF_POST (i : Nat) : Nat := 0x0B00104 + 0x10 * i
/-- CAP_SBUF_POST bits [27:6]. -/
def Fld.CAP_SBUF_POST.POST (i : Nat) : Fld := ⟨(Reg.CAP_SBUF_POST i), 27, 6⟩
/-- Key of CAP_SBUF_STATUS. -/
def Reg.CAP_SBUF_STATUS (i : Nat) : Nat := 0x0B00108 + 0x10 * i
/-- CAP_SBUF_STATUS bits [31:24]. -/
def Fld.CAP_SBUF_STATUS.OWNER (i : Nat) : Fld := ⟨(Reg.CAP_SBUF_STATUS i), 31, 24⟩
/-- CAP_SBUF_STATUS bits [2:2]. -/
def Fld.CAP_SBUF_STATUS.CFG_ERR (i : Nat) : Fld := ⟨(Reg.CAP_SBUF_STATUS i), 2, 2⟩
/-- CAP_SBUF_STATUS bits [1:0]. -/
def Fld.CAP_SBUF_STATUS.STATE (i : Nat) : Fld := ⟨(Reg.CAP_SBUF_STATUS i), 1, 0⟩
/-- Key of CAP_SBUF_FILL. -/
def Reg.CAP_SBUF_FILL (i : Nat) : Nat := 0x0B0010C + 0x10 * i
/-- CAP_SBUF_FILL bits [27:0]. -/
def Fld.CAP_SBUF_FILL.BYTES (i : Nat) : Fld := ⟨(Reg.CAP_SBUF_FILL i), 27, 0⟩
/-- Key of CAP_DEC_CTL. -/
def Reg.CAP_DEC_CTL (i : Nat) : Nat := 0x0B00200 + 0x10 * i
/-- CAP_DEC_CTL bits [31:31]. -/
def Fld.CAP_DEC_CTL.SYNC_EN (i : Nat) : Fld := ⟨(Reg.CAP_DEC_CTL i), 31, 31⟩
/-- CAP_DEC_CTL bits [4:4]. -/
def Fld.CAP_DEC_CTL.NCO_EN (i : Nat) : Fld := ⟨(Reg.CAP_DEC_CTL i), 4, 4⟩
/-- CAP_DEC_CTL bits [3:0]. -/
def Fld.CAP_DEC_CTL.K (i : Nat) : Fld := ⟨(Reg.CAP_DEC_CTL i), 3, 0⟩
/-- Key of CAP_DEC_NCO. -/
def Reg.CAP_DEC_NCO (i : Nat) : Nat := 0x0B00204 + 0x10 * i
/-- CAP_DEC_NCO bits [31:0]. -/
def Fld.CAP_DEC_NCO.FREQ (i : Nat) : Fld := ⟨(Reg.CAP_DEC_NCO i), 31, 0⟩
/-- Key of CAP_DEC_STATUS. -/
def Reg.CAP_DEC_STATUS (i : Nat) : Nat := 0x0B00208 + 0x10 * i
/-- CAP_DEC_STATUS bits [0:0]. -/
def Fld.CAP_DEC_STATUS.SAT (i : Nat) : Fld := ⟨(Reg.CAP_DEC_STATUS i), 0, 0⟩
/-- Key of CAP_TAP_CTL. -/
def Reg.CAP_TAP_CTL (i : Nat) : Nat := 0x0B10000 + 0x40 * i
/-- CAP_TAP_CTL bits [31:31]. -/
def Fld.CAP_TAP_CTL.EN (i : Nat) : Fld := ⟨(Reg.CAP_TAP_CTL i), 31, 31⟩
/-- CAP_TAP_CTL bits [30:30]. -/
def Fld.CAP_TAP_CTL.ALIGN (i : Nat) : Fld := ⟨(Reg.CAP_TAP_CTL i), 30, 30⟩
/-- CAP_TAP_CTL bits [29:29]. -/
def Fld.CAP_TAP_CTL.DKIND (i : Nat) : Fld := ⟨(Reg.CAP_TAP_CTL i), 29, 29⟩
/-- CAP_TAP_CTL bits [23:16]. -/
def Fld.CAP_TAP_CTL.LOOKBACK (i : Nat) : Fld := ⟨(Reg.CAP_TAP_CTL i), 23, 16⟩
/-- CAP_TAP_CTL bits [15:15]. -/
def Fld.CAP_TAP_CTL.DEC_EN (i : Nat) : Fld := ⟨(Reg.CAP_TAP_CTL i), 15, 15⟩
/-- CAP_TAP_CTL bits [14:12]. -/
def Fld.CAP_TAP_CTL.DEC (i : Nat) : Fld := ⟨(Reg.CAP_TAP_CTL i), 14, 12⟩
/-- CAP_TAP_CTL bits [11:8]. -/
def Fld.CAP_TAP_CTL.FLUSH (i : Nat) : Fld := ⟨(Reg.CAP_TAP_CTL i), 11, 8⟩
/-- CAP_TAP_CTL bits [6:0]. -/
def Fld.CAP_TAP_CTL.RECLEN (i : Nat) : Fld := ⟨(Reg.CAP_TAP_CTL i), 6, 0⟩
/-- Key of CAP_TAP_SEL. -/
def Reg.CAP_TAP_SEL (i : Nat) : Nat := 0x0B10004 + 0x40 * i
/-- CAP_TAP_SEL bits [15:15]. -/
def Fld.CAP_TAP_SEL.SLOT (i : Nat) : Fld := ⟨(Reg.CAP_TAP_SEL i), 15, 15⟩
/-- CAP_TAP_SEL bits [10:0]. -/
def Fld.CAP_TAP_SEL.SEL (i : Nat) : Fld := ⟨(Reg.CAP_TAP_SEL i), 10, 0⟩
/-- Key of CAP_TAP_STATUS. -/
def Reg.CAP_TAP_STATUS (i : Nat) : Nat := 0x0B10008 + 0x40 * i
/-- CAP_TAP_STATUS bits [31:16]. -/
def Fld.CAP_TAP_STATUS.DEST (i : Nat) : Fld := ⟨(Reg.CAP_TAP_STATUS i), 31, 16⟩
/-- CAP_TAP_STATUS bits [5:5]. -/
def Fld.CAP_TAP_STATUS.GAP_PEND (i : Nat) : Fld := ⟨(Reg.CAP_TAP_STATUS i), 5, 5⟩
/-- CAP_TAP_STATUS bits [1:0]. -/
def Fld.CAP_TAP_STATUS.STATE (i : Nat) : Fld := ⟨(Reg.CAP_TAP_STATUS i), 1, 0⟩
/-- Key of CAP_TAP_SEQ_LO. -/
def Reg.CAP_TAP_SEQ_LO (i : Nat) : Nat := 0x0B10010 + 0x40 * i
/-- Key of CAP_TAP_CNT. -/
def Reg.CAP_TAP_CNT (i : Nat) : Nat := 0x0B10018 + 0x40 * i
/-- CAP_TAP_CNT bits [31:16]. -/
def Fld.CAP_TAP_CNT.TRUNC (i : Nat) : Fld := ⟨(Reg.CAP_TAP_CNT i), 31, 16⟩
/-- CAP_TAP_CNT bits [15:0]. -/
def Fld.CAP_TAP_CNT.REFUSED (i : Nat) : Fld := ⟨(Reg.CAP_TAP_CNT i), 15, 0⟩
/-- Key of CAP_PLY_CTL. -/
def Reg.CAP_PLY_CTL (i : Nat) : Nat := 0x0B20000 + 0x20 * i
/-- CAP_PLY_CTL bits [31:30]. -/
def Fld.CAP_PLY_CTL.OUT (i : Nat) : Fld := ⟨(Reg.CAP_PLY_CTL i), 31, 30⟩
/-- CAP_PLY_CTL bits [29:29]. -/
def Fld.CAP_PLY_CTL.SYNC_START (i : Nat) : Fld := ⟨(Reg.CAP_PLY_CTL i), 29, 29⟩
/-- CAP_PLY_CTL bits [26:16]. -/
def Fld.CAP_PLY_CTL.INST (i : Nat) : Fld := ⟨(Reg.CAP_PLY_CTL i), 26, 16⟩
/-- Key of CAP_PLY_STATUS. -/
def Reg.CAP_PLY_STATUS (i : Nat) : Nat := 0x0B20004 + 0x20 * i
/-- CAP_PLY_STATUS bits [31:21]. -/
def Fld.CAP_PLY_STATUS.QUEUED (i : Nat) : Fld := ⟨(Reg.CAP_PLY_STATUS i), 31, 21⟩
/-- CAP_PLY_STATUS bits [20:10]. -/
def Fld.CAP_PLY_STATUS.CUR (i : Nat) : Fld := ⟨(Reg.CAP_PLY_STATUS i), 20, 10⟩
/-- CAP_PLY_STATUS bits [1:0]. -/
def Fld.CAP_PLY_STATUS.STATE (i : Nat) : Fld := ⟨(Reg.CAP_PLY_STATUS i), 1, 0⟩
/-- Key of CAP_PLY_CNT. -/
def Reg.CAP_PLY_CNT (i : Nat) : Nat := 0x0B20008 + 0x20 * i
/-- CAP_PLY_CNT bits [31:16]. -/
def Fld.CAP_PLY_CNT.UNDERRUN (i : Nat) : Fld := ⟨(Reg.CAP_PLY_CNT i), 31, 16⟩
/-- CAP_PLY_CNT bits [15:0]. -/
def Fld.CAP_PLY_CNT.PASSES (i : Nat) : Fld := ⟨(Reg.CAP_PLY_CNT i), 15, 0⟩
/-- Key of CAP_SEG0. -/
def Reg.CAP_SEG0 (i : Nat) : Nat := 0x0B30000 + 0x20 * i
/-- CAP_SEG0 bits [31:30]. -/
def Fld.CAP_SEG0.SRC (i : Nat) : Fld := ⟨(Reg.CAP_SEG0 i), 31, 30⟩
/-- CAP_SEG0 bits [26:16]. -/
def Fld.CAP_SEG0.NEXT (i : Nat) : Fld := ⟨(Reg.CAP_SEG0 i), 26, 16⟩
/-- CAP_SEG0 bits [15:0]. -/
def Fld.CAP_SEG0.BUF (i : Nat) : Fld := ⟨(Reg.CAP_SEG0 i), 15, 0⟩
/-- Key of CAP_SEG1. -/
def Reg.CAP_SEG1 (i : Nat) : Nat := 0x0B30004 + 0x20 * i
/-- CAP_SEG1 bits [31:0]. -/
def Fld.CAP_SEG1.START (i : Nat) : Fld := ⟨(Reg.CAP_SEG1 i), 31, 0⟩
/-- Key of CAP_SEG2. -/
def Reg.CAP_SEG2 (i : Nat) : Nat := 0x0B30008 + 0x20 * i
/-- CAP_SEG2 bits [15:0]. -/
def Fld.CAP_SEG2.START (i : Nat) : Fld := ⟨(Reg.CAP_SEG2 i), 15, 0⟩
/-- Key of CAP_SEG3. -/
def Reg.CAP_SEG3 (i : Nat) : Nat := 0x0B3000C + 0x20 * i
/-- CAP_SEG3 bits [31:0]. -/
def Fld.CAP_SEG3.LEN (i : Nat) : Fld := ⟨(Reg.CAP_SEG3 i), 31, 0⟩
/-- Key of CAP_SEG4. -/
def Reg.CAP_SEG4 (i : Nat) : Nat := 0x0B30010 + 0x20 * i
/-- CAP_SEG4 bits [31:16]. -/
def Fld.CAP_SEG4.LOOPS (i : Nat) : Fld := ⟨(Reg.CAP_SEG4 i), 31, 16⟩
/-- CAP_SEG4 bits [0:0]. -/
def Fld.CAP_SEG4.CONSUME (i : Nat) : Fld := ⟨(Reg.CAP_SEG4 i), 0, 0⟩
/-- Key of CLP_x_CTL. -/
def Reg.CLP_x_CTL (i : Nat) : Nat := 0x0C00000 + 0x80000 * i
/-- CLP_x_CTL bits [23:16]. -/
def Fld.CLP_x_CTL.DEPTH (i : Nat) : Fld := ⟨(Reg.CLP_x_CTL i), 23, 16⟩
/-- CLP_x_CTL bits [11:8]. -/
def Fld.CLP_x_CTL.GAP (i : Nat) : Fld := ⟨(Reg.CLP_x_CTL i), 11, 8⟩
/-- CLP_x_CTL bits [4:4]. -/
def Fld.CLP_x_CTL.HELLO_EN (i : Nat) : Fld := ⟨(Reg.CLP_x_CTL i), 4, 4⟩
/-- CLP_x_CTL bits [3:3]. -/
def Fld.CLP_x_CTL.ECHO_EN (i : Nat) : Fld := ⟨(Reg.CLP_x_CTL i), 3, 3⟩
/-- CLP_x_CTL bits [1:1]. -/
def Fld.CLP_x_CTL.RX_EN (i : Nat) : Fld := ⟨(Reg.CLP_x_CTL i), 1, 1⟩
/-- CLP_x_CTL bits [0:0]. -/
def Fld.CLP_x_CTL.TX_EN (i : Nat) : Fld := ⟨(Reg.CLP_x_CTL i), 0, 0⟩
/-- Key of CLP_x_CODE. -/
def Reg.CLP_x_CODE (i : Nat) : Nat := 0x0C00004 + 0x80000 * i
/-- CLP_x_CODE bits [10:0]. -/
def Fld.CLP_x_CODE.TX_CODE (i : Nat) : Fld := ⟨(Reg.CLP_x_CODE i), 10, 0⟩
/-- Key of CLP_x_HELLO_CTL. -/
def Reg.CLP_x_HELLO_CTL (i : Nat) : Nat := 0x0C00008 + 0x80000 * i
/-- CLP_x_HELLO_CTL bits [13:0]. -/
def Fld.CLP_x_HELLO_CTL.HELLO_INT (i : Nat) : Fld := ⟨(Reg.CLP_x_HELLO_CTL i), 13, 0⟩
/-- Key of CLP_x_RX_CTL. -/
def Reg.CLP_x_RX_CTL (i : Nat) : Nat := 0x0C0000C + 0x80000 * i
/-- CLP_x_RX_CTL bits [23:16]. -/
def Fld.CLP_x_RX_CTL.CAP_THR (i : Nat) : Fld := ⟨(Reg.CLP_x_RX_CTL i), 23, 16⟩
/-- CLP_x_RX_CTL bits [0:0]. -/
def Fld.CLP_x_RX_CTL.EQ_ADAPT (i : Nat) : Fld := ⟨(Reg.CLP_x_RX_CTL i), 0, 0⟩
/-- Key of CLP_x_STATUS. -/
def Reg.CLP_x_STATUS (i : Nat) : Nat := 0x0C00010 + 0x80000 * i
/-- CLP_x_STATUS bits [25:25]. -/
def Fld.CLP_x_STATUS.INV (i : Nat) : Fld := ⟨(Reg.CLP_x_STATUS i), 25, 25⟩
/-- CLP_x_STATUS bits [24:24]. -/
def Fld.CLP_x_STATUS.AGC_FROZEN (i : Nat) : Fld := ⟨(Reg.CLP_x_STATUS i), 24, 24⟩
/-- CLP_x_STATUS bits [20:16]. -/
def Fld.CLP_x_STATUS.RX_FIFO (i : Nat) : Fld := ⟨(Reg.CLP_x_STATUS i), 20, 16⟩
/-- CLP_x_STATUS bits [15:12]. -/
def Fld.CLP_x_STATUS.TX_FIFO (i : Nat) : Fld := ⟨(Reg.CLP_x_STATUS i), 15, 12⟩
/-- CLP_x_STATUS bits [9:8]. -/
def Fld.CLP_x_STATUS.TX_STATE (i : Nat) : Fld := ⟨(Reg.CLP_x_STATUS i), 9, 8⟩
/-- CLP_x_STATUS bits [2:0]. -/
def Fld.CLP_x_STATUS.RX_STATE (i : Nat) : Fld := ⟨(Reg.CLP_x_STATUS i), 2, 0⟩
/-- Key of CLP_x_RSSI. -/
def Reg.CLP_x_RSSI (i : Nat) : Nat := 0x0C00014 + 0x80000 * i
/-- CLP_x_RSSI bits [31:16]. -/
def Fld.CLP_x_RSSI.LAST (i : Nat) : Fld := ⟨(Reg.CLP_x_RSSI i), 31, 16⟩
/-- CLP_x_RSSI bits [9:0]. -/
def Fld.CLP_x_RSSI.GAIN (i : Nat) : Fld := ⟨(Reg.CLP_x_RSSI i), 9, 0⟩
/-- Key of CLP_x_ID_LO. -/
def Reg.CLP_x_ID_LO (i : Nat) : Nat := 0x0C00018 + 0x80000 * i
/-- Key of CLP_x_INT_STATUS. -/
def Reg.CLP_x_INT_STATUS (i : Nat) : Nat := 0x0C00020 + 0x80000 * i
/-- Key of CLP_x_INT_EN. -/
def Reg.CLP_x_INT_EN (i : Nat) : Nat := 0x0C00024 + 0x80000 * i
/-- Key of CLP_x_CAPS. -/
def Reg.CLP_x_CAPS (i : Nat) : Nat := 0x0C00028 + 0x80000 * i
/-- Key of CLP_x_RX_CNT0. -/
def Reg.CLP_x_RX_CNT0 (i : Nat) : Nat := 0x0C00030 + 0x80000 * i
/-- CLP_x_RX_CNT0 bits [31:16]. -/
def Fld.CLP_x_RX_CNT0.ACCEPTED (i : Nat) : Fld := ⟨(Reg.CLP_x_RX_CNT0 i), 31, 16⟩
/-- CLP_x_RX_CNT0 bits [15:0]. -/
def Fld.CLP_x_RX_CNT0.CRC_ERR (i : Nat) : Fld := ⟨(Reg.CLP_x_RX_CNT0 i), 15, 0⟩
/-- Key of CLP_x_RX_CNT1. -/
def Reg.CLP_x_RX_CNT1 (i : Nat) : Nat := 0x0C00034 + 0x80000 * i
/-- CLP_x_RX_CNT1 bits [31:16]. -/
def Fld.CLP_x_RX_CNT1.HDR_ERR (i : Nat) : Fld := ⟨(Reg.CLP_x_RX_CNT1 i), 31, 16⟩
/-- CLP_x_RX_CNT1 bits [15:0]. -/
def Fld.CLP_x_RX_CNT1.SYNC_TMO (i : Nat) : Fld := ⟨(Reg.CLP_x_RX_CNT1 i), 15, 0⟩
/-- Key of CLP_x_RX_CNT2. -/
def Reg.CLP_x_RX_CNT2 (i : Nat) : Nat := 0x0C00038 + 0x80000 * i
/-- CLP_x_RX_CNT2 bits [31:16]. -/
def Fld.CLP_x_RX_CNT2.CAPTURED (i : Nat) : Fld := ⟨(Reg.CLP_x_RX_CNT2 i), 31, 16⟩
/-- CLP_x_RX_CNT2 bits [15:0]. -/
def Fld.CLP_x_RX_CNT2.LOST (i : Nat) : Fld := ⟨(Reg.CLP_x_RX_CNT2 i), 15, 0⟩
/-- Key of CLP_x_RX_CNT3. -/
def Reg.CLP_x_RX_CNT3 (i : Nat) : Nat := 0x0C0003C + 0x80000 * i
/-- CLP_x_RX_CNT3 bits [31:16]. -/
def Fld.CLP_x_RX_CNT3.RESTART (i : Nat) : Fld := ⟨(Reg.CLP_x_RX_CNT3 i), 31, 16⟩
/-- CLP_x_RX_CNT3 bits [15:0]. -/
def Fld.CLP_x_RX_CNT3.FIFO_DROP (i : Nat) : Fld := ⟨(Reg.CLP_x_RX_CNT3 i), 15, 0⟩
/-- Key of CLP_x_TX_CNT. -/
def Reg.CLP_x_TX_CNT (i : Nat) : Nat := 0x0C00040 + 0x80000 * i
/-- CLP_x_TX_CNT bits [31:16]. -/
def Fld.CLP_x_TX_CNT.SENT (i : Nat) : Fld := ⟨(Reg.CLP_x_TX_CNT i), 31, 16⟩
/-- CLP_x_TX_CNT bits [15:8]. -/
def Fld.CLP_x_TX_CNT.ABORTED (i : Nat) : Fld := ⟨(Reg.CLP_x_TX_CNT i), 15, 8⟩
/-- CLP_x_TX_CNT bits [7:0]. -/
def Fld.CLP_x_TX_CNT.REFUSED (i : Nat) : Fld := ⟨(Reg.CLP_x_TX_CNT i), 7, 0⟩
/-- Key of CLP_x_TX_HDR. -/
def Reg.CLP_x_TX_HDR (i : Nat) : Nat := 0x0C00080 + 0x80000 * i
/-- CLP_x_TX_HDR bits [15:12]. -/
def Fld.CLP_x_TX_HDR.TYPE (i : Nat) : Fld := ⟨(Reg.CLP_x_TX_HDR i), 15, 12⟩
/-- CLP_x_TX_HDR bits [6:0]. -/
def Fld.CLP_x_TX_HDR.LEN (i : Nat) : Fld := ⟨(Reg.CLP_x_TX_HDR i), 6, 0⟩
/-- Key of CLP_x_TX_DATA. -/
def Reg.CLP_x_TX_DATA (i j : Nat) : Nat := 0x0C00084 + 0x80000 * i + 0x4 * j
/-- Key of CLP_x_PT_STATUS. -/
def Reg.CLP_x_PT_STATUS (i j : Nat) : Nat := 0x0C00200 + 0x80000 * i + 0x20 * j
/-- CLP_x_PT_STATUS bits [31:31]. -/
def Fld.CLP_x_PT_STATUS.VALID (i j : Nat) : Fld := ⟨(Reg.CLP_x_PT_STATUS i j), 31, 31⟩
/-- CLP_x_PT_STATUS bits [30:30]. -/
def Fld.CLP_x_PT_STATUS.SELF (i j : Nat) : Fld := ⟨(Reg.CLP_x_PT_STATUS i j), 30, 30⟩
/-- CLP_x_PT_STATUS bits [16:16]. -/
def Fld.CLP_x_PT_STATUS.PORT (i j : Nat) : Fld := ⟨(Reg.CLP_x_PT_STATUS i j), 16, 16⟩
/-- CLP_x_PT_STATUS bits [15:0]. -/
def Fld.CLP_x_PT_STATUS.INTERVAL (i j : Nat) : Fld := ⟨(Reg.CLP_x_PT_STATUS i j), 15, 0⟩
/-- Key of CLP_x_PT_DIGEST_LO. -/
def Reg.CLP_x_PT_DIGEST_LO (i j : Nat) : Nat := 0x0C00204 + 0x80000 * i + 0x20 * j
/-- Key of CLP_x_PT_CAPS. -/
def Reg.CLP_x_PT_CAPS (i j : Nat) : Nat := 0x0C0020C + 0x80000 * i + 0x20 * j
/-- Key of CLP_x_PT_HB. -/
def Reg.CLP_x_PT_HB (i j : Nat) : Nat := 0x0C00210 + 0x80000 * i + 0x20 * j
/-- CLP_x_PT_HB bits [31:0]. -/
def Fld.CLP_x_PT_HB.BEATS (i j : Nat) : Fld := ⟨(Reg.CLP_x_PT_HB i j), 31, 0⟩
/-- Key of TIM_DPLL_CTL. -/
def Reg.TIM_DPLL_CTL : Nat := 0x0D00000
/-- TIM_DPLL_CTL bits [27:24]. -/
def Fld.TIM_DPLL_CTL.BW : Fld := ⟨Reg.TIM_DPLL_CTL, 27, 24⟩
/-- TIM_DPLL_CTL bits [17:16]. -/
def Fld.TIM_DPLL_CTL.HO_AVG : Fld := ⟨Reg.TIM_DPLL_CTL, 17, 16⟩
/-- TIM_DPLL_CTL bits [8:8]. -/
def Fld.TIM_DPLL_CTL.REVERTIVE : Fld := ⟨Reg.TIM_DPLL_CTL, 8, 8⟩
/-- TIM_DPLL_CTL bits [7:4]. -/
def Fld.TIM_DPLL_CTL.FORCE_IDX : Fld := ⟨Reg.TIM_DPLL_CTL, 7, 4⟩
/-- TIM_DPLL_CTL bits [1:0]. -/
def Fld.TIM_DPLL_CTL.MODE : Fld := ⟨Reg.TIM_DPLL_CTL, 1, 0⟩
/-- Key of TIM_DPLL_STATUS. -/
def Reg.TIM_DPLL_STATUS : Nat := 0x0D00004
/-- TIM_DPLL_STATUS bits [16:16]. -/
def Fld.TIM_DPLL_STATUS.HO_VALID : Fld := ⟨Reg.TIM_DPLL_STATUS, 16, 16⟩
/-- TIM_DPLL_STATUS bits [11:8]. -/
def Fld.TIM_DPLL_STATUS.SEL : Fld := ⟨Reg.TIM_DPLL_STATUS, 11, 8⟩
/-- TIM_DPLL_STATUS bits [2:0]. -/
def Fld.TIM_DPLL_STATUS.STATE : Fld := ⟨Reg.TIM_DPLL_STATUS, 2, 0⟩
/-- Key of TIM_DPLL_PHERR. -/
def Reg.TIM_DPLL_PHERR : Nat := 0x0D00008
/-- TIM_DPLL_PHERR bits [31:0]. -/
def Fld.TIM_DPLL_PHERR.PS : Fld := ⟨Reg.TIM_DPLL_PHERR, 31, 0⟩
/-- Key of TIM_WTR. -/
def Reg.TIM_WTR : Nat := 0x0D00010
/-- TIM_WTR bits [11:0]. -/
def Fld.TIM_WTR.SEC : Fld := ⟨Reg.TIM_WTR, 11, 0⟩
/-- Key of TIM_MON_CTL. -/
def Reg.TIM_MON_CTL : Nat := 0x0D00014
/-- TIM_MON_CTL bits [23:16]. -/
def Fld.TIM_MON_CTL.DIS_LIMIT : Fld := ⟨Reg.TIM_MON_CTL, 23, 16⟩
/-- TIM_MON_CTL bits [15:8]. -/
def Fld.TIM_MON_CTL.REJECT : Fld := ⟨Reg.TIM_MON_CTL, 15, 8⟩
/-- TIM_MON_CTL bits [7:0]. -/
def Fld.TIM_MON_CTL.ACCEPT : Fld := ⟨Reg.TIM_MON_CTL, 7, 0⟩
/-- Key of TIM_PULL_CTL. -/
def Reg.TIM_PULL_CTL : Nat := 0x0D00018
/-- TIM_PULL_CTL bits [9:0]. -/
def Fld.TIM_PULL_CTL.SLOPE : Fld := ⟨Reg.TIM_PULL_CTL, 9, 0⟩
/-- Key of TIM_SW_STEP. -/
def Reg.TIM_SW_STEP : Nat := 0x0D00020
/-- TIM_SW_STEP bits [31:0]. -/
def Fld.TIM_SW_STEP.PS : Fld := ⟨Reg.TIM_SW_STEP, 31, 0⟩
/-- Key of TIM_SW_CNT. -/
def Reg.TIM_SW_CNT : Nat := 0x0D00024
/-- TIM_SW_CNT bits [31:16]. -/
def Fld.TIM_SW_CNT.SWITCHES : Fld := ⟨Reg.TIM_SW_CNT, 31, 16⟩
/-- TIM_SW_CNT bits [15:0]. -/
def Fld.TIM_SW_CNT.REF_LOSS : Fld := ⟨Reg.TIM_SW_CNT, 15, 0⟩
/-- Key of TIM_INT_STATUS. -/
def Reg.TIM_INT_STATUS : Nat := 0x0D00030
/-- Key of TIM_INT_EN. -/
def Reg.TIM_INT_EN : Nat := 0x0D00034
/-- Key of TIM_REF_CTL. -/
def Reg.TIM_REF_CTL (i : Nat) : Nat := 0x0D00100 + 0x10 * i
/-- TIM_REF_CTL bits [3:0]. -/
def Fld.TIM_REF_CTL.PRIO (i : Nat) : Fld := ⟨(Reg.TIM_REF_CTL i), 3, 0⟩
/-- Key of TIM_REF_STATUS. -/
def Reg.TIM_REF_STATUS (i : Nat) : Nat := 0x0D00104 + 0x10 * i
/-- TIM_REF_STATUS bits [31:16]. -/
def Fld.TIM_REF_STATUS.WTR_LEFT (i : Nat) : Fld := ⟨(Reg.TIM_REF_STATUS i), 31, 16⟩
/-- TIM_REF_STATUS bits [5:5]. -/
def Fld.TIM_REF_STATUS.DISAGREE (i : Nat) : Fld := ⟨(Reg.TIM_REF_STATUS i), 5, 5⟩
/-- TIM_REF_STATUS bits [4:4]. -/
def Fld.TIM_REF_STATUS.SELECTABLE (i : Nat) : Fld := ⟨(Reg.TIM_REF_STATUS i), 4, 4⟩
/-- TIM_REF_STATUS bits [3:3]. -/
def Fld.TIM_REF_STATUS.WTR_RUN (i : Nat) : Fld := ⟨(Reg.TIM_REF_STATUS i), 3, 3⟩
/-- TIM_REF_STATUS bits [2:2]. -/
def Fld.TIM_REF_STATUS.QUAL (i : Nat) : Fld := ⟨(Reg.TIM_REF_STATUS i), 2, 2⟩
/-- TIM_REF_STATUS bits [1:1]. -/
def Fld.TIM_REF_STATUS.FREQ_OK (i : Nat) : Fld := ⟨(Reg.TIM_REF_STATUS i), 1, 1⟩
/-- TIM_REF_STATUS bits [0:0]. -/
def Fld.TIM_REF_STATUS.ACT (i : Nat) : Fld := ⟨(Reg.TIM_REF_STATUS i), 0, 0⟩
/-- Key of TIM_REF_FO. -/
def Reg.TIM_REF_FO (i : Nat) : Nat := 0x0D00108 + 0x10 * i
/-- TIM_REF_FO bits [31:0]. -/
def Fld.TIM_REF_FO.FO (i : Nat) : Fld := ⟨(Reg.TIM_REF_FO i), 31, 0⟩
/-- Key of TIM_REF_FREQ. -/
def Reg.TIM_REF_FREQ (i : Nat) : Nat := 0x0D0010C + 0x10 * i
/-- TIM_REF_FREQ bits [29:0]. -/
def Fld.TIM_REF_FREQ.HZ (i : Nat) : Fld := ⟨(Reg.TIM_REF_FREQ i), 29, 0⟩
/-- Key of TIM_REF_FREQ_OTHER. -/
def Reg.TIM_REF_FREQ_OTHER (i : Nat) : Nat := 0x0D0012C + 0x10 * i
/-- TIM_REF_FREQ_OTHER bits [29:0]. -/
def Fld.TIM_REF_FREQ_OTHER.HZ (i : Nat) : Fld := ⟨(Reg.TIM_REF_FREQ_OTHER i), 29, 0⟩
/-- Key of TIM_TC_CTL. -/
def Reg.TIM_TC_CTL : Nat := 0x0D00210
/-- TIM_TC_CTL bits [1:1]. -/
def Fld.TIM_TC_CTL.LOAD_SYNC : Fld := ⟨Reg.TIM_TC_CTL, 1, 1⟩
/-- Key of TIM_SET_LO. -/
def Reg.TIM_SET_LO : Nat := 0x0D00214
/-- TIM_SET_LO bits [15:0]. -/
def Fld.TIM_SET_LO.FRAC : Fld := ⟨Reg.TIM_SET_LO, 15, 0⟩
/-- Key of TIM_SET_MID0. -/
def Reg.TIM_SET_MID0 : Nat := 0x0D00218
/-- TIM_SET_MID0 bits [31:0]. -/
def Fld.TIM_SET_MID0.NS : Fld := ⟨Reg.TIM_SET_MID0, 31, 0⟩
/-- Key of TIM_SET_MID1. -/
def Reg.TIM_SET_MID1 : Nat := 0x0D0021C
/-- TIM_SET_MID1 bits [31:0]. -/
def Fld.TIM_SET_MID1.SEC : Fld := ⟨Reg.TIM_SET_MID1, 31, 0⟩
/-- Key of TIM_SET_HI. -/
def Reg.TIM_SET_HI : Nat := 0x0D00220
/-- TIM_SET_HI bits [15:0]. -/
def Fld.TIM_SET_HI.SEC : Fld := ⟨Reg.TIM_SET_HI, 15, 0⟩
/-- Key of TIM_STEP_LO. -/
def Reg.TIM_STEP_LO : Nat := 0x0D00224
/-- Key of TIM_STEP_HI. -/
def Reg.TIM_STEP_HI : Nat := 0x0D00228
/-- TIM_STEP_HI bits [15:0]. -/
def Fld.TIM_STEP_HI.STEP : Fld := ⟨Reg.TIM_STEP_HI, 15, 0⟩
/-- Key of TIM_ADDEND_LO. -/
def Reg.TIM_ADDEND_LO : Nat := 0x0D0022C
/-- Key of TIM_PULSE_CTL. -/
def Reg.TIM_PULSE_CTL : Nat := 0x0D00240
/-- TIM_PULSE_CTL bits [27:16]. -/
def Fld.TIM_PULSE_CTL.PW : Fld := ⟨Reg.TIM_PULSE_CTL, 27, 16⟩
/-- TIM_PULSE_CTL bits [5:4]. -/
def Fld.TIM_PULSE_CTL.SYNC_MODE : Fld := ⟨Reg.TIM_PULSE_CTL, 5, 4⟩
/-- TIM_PULSE_CTL bits [1:1]. -/
def Fld.TIM_PULSE_CTL.FRAME_EN : Fld := ⟨Reg.TIM_PULSE_CTL, 1, 1⟩
/-- TIM_PULSE_CTL bits [0:0]. -/
def Fld.TIM_PULSE_CTL.PPS_EN : Fld := ⟨Reg.TIM_PULSE_CTL, 0, 0⟩
/-- Key of TIM_PULSE_OFFSET. -/
def Reg.TIM_PULSE_OFFSET : Nat := 0x0D00244
/-- TIM_PULSE_OFFSET bits [31:0]. -/
def Fld.TIM_PULSE_OFFSET.TICKS : Fld := ⟨Reg.TIM_PULSE_OFFSET, 31, 0⟩
/-- Key of TIM_FRAME_PER. -/
def Reg.TIM_FRAME_PER : Nat := 0x0D00248
/-- TIM_FRAME_PER bits [29:0]. -/
def Fld.TIM_FRAME_PER.NS : Fld := ⟨Reg.TIM_FRAME_PER, 29, 0⟩
/-- Key of TIM_SYNC_CTL. -/
def Reg.TIM_SYNC_CTL : Nat := 0x0D00260
/-- TIM_SYNC_CTL bits [19:8]. -/
def Fld.TIM_SYNC_CTL.OUT_PW : Fld := ⟨Reg.TIM_SYNC_CTL, 19, 8⟩
/-- TIM_SYNC_CTL bits [3:3]. -/
def Fld.TIM_SYNC_CTL.OUT_EN : Fld := ⟨Reg.TIM_SYNC_CTL, 3, 3⟩
/-- TIM_SYNC_CTL bits [2:2]. -/
def Fld.TIM_SYNC_CTL.SRC : Fld := ⟨Reg.TIM_SYNC_CTL, 2, 2⟩
/-- TIM_SYNC_CTL bits [0:0]. -/
def Fld.TIM_SYNC_CTL.EN : Fld := ⟨Reg.TIM_SYNC_CTL, 0, 0⟩
/-- Key of TIM_SYNC_CNT. -/
def Reg.TIM_SYNC_CNT : Nat := 0x0D00264
/-- TIM_SYNC_CNT bits [31:16]. -/
def Fld.TIM_SYNC_CNT.IGNORED : Fld := ⟨Reg.TIM_SYNC_CNT, 31, 16⟩
/-- TIM_SYNC_CNT bits [15:0]. -/
def Fld.TIM_SYNC_CNT.ACCEPTED : Fld := ⟨Reg.TIM_SYNC_CNT, 15, 0⟩
/-- Key of TIM_SYNC_TS_LO. -/
def Reg.TIM_SYNC_TS_LO : Nat := 0x0D00268
/-- TIM_SYNC_TS_LO bits [15:0]. -/
def Fld.TIM_SYNC_TS_LO.FRAC : Fld := ⟨Reg.TIM_SYNC_TS_LO, 15, 0⟩
/-- Key of TIM_SYNC_TS_MID0. -/
def Reg.TIM_SYNC_TS_MID0 : Nat := 0x0D0026C
/-- TIM_SYNC_TS_MID0 bits [31:0]. -/
def Fld.TIM_SYNC_TS_MID0.NS : Fld := ⟨Reg.TIM_SYNC_TS_MID0, 31, 0⟩
/-- Key of TIM_SYNC_TS_MID1. -/
def Reg.TIM_SYNC_TS_MID1 : Nat := 0x0D00270
/-- TIM_SYNC_TS_MID1 bits [31:0]. -/
def Fld.TIM_SYNC_TS_MID1.SEC : Fld := ⟨Reg.TIM_SYNC_TS_MID1, 31, 0⟩
/-- Key of TIM_SYNC_TS_HI. -/
def Reg.TIM_SYNC_TS_HI : Nat := 0x0D00274
/-- TIM_SYNC_TS_HI bits [15:0]. -/
def Fld.TIM_SYNC_TS_HI.SEC : Fld := ⟨Reg.TIM_SYNC_TS_HI, 15, 0⟩
/-- Key of TIM_PPSIN_CTL. -/
def Reg.TIM_PPSIN_CTL : Nat := 0x0D00280
/-- TIM_PPSIN_CTL bits [0:0]. -/
def Fld.TIM_PPSIN_CTL.EN : Fld := ⟨Reg.TIM_PPSIN_CTL, 0, 0⟩
/-- Key of TIM_PPSIN_CNT. -/
def Reg.TIM_PPSIN_CNT : Nat := 0x0D00284
/-- TIM_PPSIN_CNT bits [31:16]. -/
def Fld.TIM_PPSIN_CNT.IGNORED : Fld := ⟨Reg.TIM_PPSIN_CNT, 31, 16⟩
/-- TIM_PPSIN_CNT bits [15:0]. -/
def Fld.TIM_PPSIN_CNT.ACCEPTED : Fld := ⟨Reg.TIM_PPSIN_CNT, 15, 0⟩
/-- Key of TIM_PPSIN_TS_LO. -/
def Reg.TIM_PPSIN_TS_LO : Nat := 0x0D00288
/-- Key of TIM_PTP_CTL. -/
def Reg.TIM_PTP_CTL : Nat := 0x0D00300
/-- TIM_PTP_CTL bits [4:4]. -/
def Fld.TIM_PTP_CTL.UDP6 : Fld := ⟨Reg.TIM_PTP_CTL, 4, 4⟩
/-- TIM_PTP_CTL bits [3:3]. -/
def Fld.TIM_PTP_CTL.UDP4 : Fld := ⟨Reg.TIM_PTP_CTL, 3, 3⟩
/-- TIM_PTP_CTL bits [2:2]. -/
def Fld.TIM_PTP_CTL.L2 : Fld := ⟨Reg.TIM_PTP_CTL, 2, 2⟩
/-- TIM_PTP_CTL bits [1:1]. -/
def Fld.TIM_PTP_CTL.ONE_STEP : Fld := ⟨Reg.TIM_PTP_CTL, 1, 1⟩
/-- TIM_PTP_CTL bits [0:0]. -/
def Fld.TIM_PTP_CTL.EN : Fld := ⟨Reg.TIM_PTP_CTL, 0, 0⟩
/-- Key of TIM_PTP_CNT. -/
def Reg.TIM_PTP_CNT : Nat := 0x0D00340
/-- TIM_PTP_CNT bits [31:16]. -/
def Fld.TIM_PTP_CNT.RX_OVF : Fld := ⟨Reg.TIM_PTP_CNT, 31, 16⟩
/-- TIM_PTP_CNT bits [15:0]. -/
def Fld.TIM_PTP_CNT.TX_OVF : Fld := ⟨Reg.TIM_PTP_CNT, 15, 0⟩
/-- Key of CHN_CTL. -/
def Reg.CHN_CTL : Nat := 0x0E00000
/-- CHN_CTL bits [16:16]. -/
def Fld.CHN_CTL.HB_PORT : Fld := ⟨Reg.CHN_CTL, 16, 16⟩
/-- CHN_CTL bits [12:12]. -/
def Fld.CHN_CTL.TIME_FOLLOW : Fld := ⟨Reg.CHN_CTL, 12, 12⟩
/-- CHN_CTL bits [9:8]. -/
def Fld.CHN_CTL.ORIG : Fld := ⟨Reg.CHN_CTL, 9, 8⟩
/-- CHN_CTL bits [6:4]. -/
def Fld.CHN_CTL.OCTET : Fld := ⟨Reg.CHN_CTL, 6, 4⟩
/-- Key of CHN_STATUS. -/
def Reg.CHN_STATUS : Nat := 0x0E00004
/-- CHN_STATUS bits [10:10]. -/
def Fld.CHN_STATUS.HEAD_CONFLICT : Fld := ⟨Reg.CHN_STATUS, 10, 10⟩
/-- CHN_STATUS bits [9:9]. -/
def Fld.CHN_STATUS.CABLE_ERR : Fld := ⟨Reg.CHN_STATUS, 9, 9⟩
/-- CHN_STATUS bits [8:8]. -/
def Fld.CHN_STATUS.SIZE_ERR : Fld := ⟨Reg.CHN_STATUS, 8, 8⟩
/-- CHN_STATUS bits [7:6]. -/
def Fld.CHN_STATUS.TOPO : Fld := ⟨Reg.CHN_STATUS, 7, 6⟩
/-- CHN_STATUS bits [5:3]. -/
def Fld.CHN_STATUS.N : Fld := ⟨Reg.CHN_STATUS, 5, 3⟩
/-- CHN_STATUS bits [2:2]. -/
def Fld.CHN_STATUS.POS_VALID : Fld := ⟨Reg.CHN_STATUS, 2, 2⟩
/-- CHN_STATUS bits [1:0]. -/
def Fld.CHN_STATUS.POS : Fld := ⟨Reg.CHN_STATUS, 1, 0⟩
/-- Key of CHN_LINK_STATUS. -/
def Reg.CHN_LINK_STATUS (i : Nat) : Nat := 0x0E00008 + 0x4 * i
/-- CHN_LINK_STATUS bits [7:6]. -/
def Fld.CHN_LINK_STATUS.NB_POS (i : Nat) : Fld := ⟨(Reg.CHN_LINK_STATUS i), 7, 6⟩
/-- CHN_LINK_STATUS bits [5:5]. -/
def Fld.CHN_LINK_STATUS.NB_VALID (i : Nat) : Fld := ⟨(Reg.CHN_LINK_STATUS i), 5, 5⟩
/-- CHN_LINK_STATUS bits [4:2]. -/
def Fld.CHN_LINK_STATUS.LANES_UP (i : Nat) : Fld := ⟨(Reg.CHN_LINK_STATUS i), 4, 2⟩
/-- CHN_LINK_STATUS bits [0:0]. -/
def Fld.CHN_LINK_STATUS.RUN (i : Nat) : Fld := ⟨(Reg.CHN_LINK_STATUS i), 0, 0⟩
/-- Key of CHN_NB_ID_LO. -/
def Reg.CHN_NB_ID_LO (i : Nat) : Nat := 0x0E00010 + 0x8 * i
/-- Key of CHN_DLY. -/
def Reg.CHN_DLY : Nat := 0x0E00020
/-- CHN_DLY bits [11:0]. -/
def Fld.CHN_DLY.TICKS : Fld := ⟨Reg.CHN_DLY, 11, 0⟩
/-- Key of CHN_TOFF. -/
def Reg.CHN_TOFF : Nat := 0x0E00024
/-- Key of CHN_ASYM. -/
def Reg.CHN_ASYM : Nat := 0x0E00028
/-- Key of CHN_FWD_ADDR. -/
def Reg.CHN_FWD_ADDR (r : Nat) : Nat := 0x100000000 * (r + 1) + 0x0E00030
/-- CHN_FWD_ADDR bits [31:30]. -/
def Fld.CHN_FWD_ADDR.DST (r : Nat) : Fld := ⟨(Reg.CHN_FWD_ADDR r), 31, 30⟩
/-- CHN_FWD_ADDR bits [27:0]. -/
def Fld.CHN_FWD_ADDR.ADDR (r : Nat) : Fld := ⟨(Reg.CHN_FWD_ADDR r), 27, 0⟩
/-- Key of CHN_FWD_DATA. -/
def Reg.CHN_FWD_DATA (r : Nat) : Nat := 0x100000000 * (r + 1) + 0x0E00034
/-- Key of CHN_FWD_CTL. -/
def Reg.CHN_FWD_CTL (r : Nat) : Nat := 0x100000000 * (r + 1) + 0x0E00038
/-- CHN_FWD_CTL bits [31:31]. -/
def Fld.CHN_FWD_CTL.GO (r : Nat) : Fld := ⟨(Reg.CHN_FWD_CTL r), 31, 31⟩
/-- CHN_FWD_CTL bits [30:30]. -/
def Fld.CHN_FWD_CTL.WRITE (r : Nat) : Fld := ⟨(Reg.CHN_FWD_CTL r), 30, 30⟩
/-- CHN_FWD_CTL bits [8:8]. -/
def Fld.CHN_FWD_CTL.DONE (r : Nat) : Fld := ⟨(Reg.CHN_FWD_CTL r), 8, 8⟩
/-- CHN_FWD_CTL bits [1:0]. -/
def Fld.CHN_FWD_CTL.STATUS (r : Nat) : Fld := ⟨(Reg.CHN_FWD_CTL r), 1, 0⟩
/-- Key of CHN_INT_STATUS. -/
def Reg.CHN_INT_STATUS : Nat := 0x0E00040
/-- Key of CHN_INT_EN. -/
def Reg.CHN_INT_EN : Nat := 0x0E00044
/-- Key of CHN_CNT. -/
def Reg.CHN_CNT (i : Nat) : Nat := 0x0E00050 + 0x4 * i
/-- CHN_CNT bits [31:20]. -/
def Fld.CHN_CNT.CRC (i : Nat) : Fld := ⟨(Reg.CHN_CNT i), 31, 20⟩
/-- CHN_CNT bits [19:10]. -/
def Fld.CHN_CNT.LATE (i : Nat) : Fld := ⟨(Reg.CHN_CNT i), 19, 10⟩
/-- CHN_CNT bits [9:0]. -/
def Fld.CHN_CNT.DROP (i : Nat) : Fld := ⟨(Reg.CHN_CNT i), 9, 0⟩
/-- Key of CHN_SPILL_MAP. -/
def Reg.CHN_SPILL_MAP (i : Nat) : Nat := 0x0E00080 + 0x4 * i
/-- CHN_SPILL_MAP bits [31:31]. -/
def Fld.CHN_SPILL_MAP.EN (i : Nat) : Fld := ⟨(Reg.CHN_SPILL_MAP i), 31, 31⟩
/-- CHN_SPILL_MAP bits [5:4]. -/
def Fld.CHN_SPILL_MAP.EXIT (i : Nat) : Fld := ⟨(Reg.CHN_SPILL_MAP i), 5, 4⟩
/-- CHN_SPILL_MAP bits [3:0]. -/
def Fld.CHN_SPILL_MAP.EXIT_GROUP (i : Nat) : Fld := ⟨(Reg.CHN_SPILL_MAP i), 3, 0⟩
/-- Key of CHN_ODU_ROUTE. -/
def Reg.CHN_ODU_ROUTE (i : Nat) : Nat := 0x0E10000 + 0x4 * i
/-- CHN_ODU_ROUTE bits [31:31]. -/
def Fld.CHN_ODU_ROUTE.EN (i : Nat) : Fld := ⟨(Reg.CHN_ODU_ROUTE i), 31, 31⟩
/-- CHN_ODU_ROUTE bits [0:0]. -/
def Fld.CHN_ODU_ROUTE.LINK (i : Nat) : Fld := ⟨(Reg.CHN_ODU_ROUTE i), 0, 0⟩
/-- Key of SEC_BOOT_STATUS. -/
def Reg.SEC_BOOT_STATUS : Nat := 0x0F00000
/-- SEC_BOOT_STATUS bits [27:26]. -/
def Fld.SEC_BOOT_STATUS.DEBUG : Fld := ⟨Reg.SEC_BOOT_STATUS, 27, 26⟩
/-- SEC_BOOT_STATUS bits [25:25]. -/
def Fld.SEC_BOOT_STATUS.RECOVERY : Fld := ⟨Reg.SEC_BOOT_STATUS, 25, 25⟩
/-- SEC_BOOT_STATUS bits [23:22]. -/
def Fld.SEC_BOOT_STATUS.BOOT_SEL : Fld := ⟨Reg.SEC_BOOT_STATUS, 23, 22⟩
/-- SEC_BOOT_STATUS bits [21:21]. -/
def Fld.SEC_BOOT_STATUS.APP_FALLBACK : Fld := ⟨Reg.SEC_BOOT_STATUS, 21, 21⟩
/-- SEC_BOOT_STATUS bits [20:20]. -/
def Fld.SEC_BOOT_STATUS.LYF_FALLBACK : Fld := ⟨Reg.SEC_BOOT_STATUS, 20, 20⟩
/-- SEC_BOOT_STATUS bits [17:17]. -/
def Fld.SEC_BOOT_STATUS.APP_BANK : Fld := ⟨Reg.SEC_BOOT_STATUS, 17, 17⟩
/-- SEC_BOOT_STATUS bits [16:16]. -/
def Fld.SEC_BOOT_STATUS.LYF_BANK : Fld := ⟨Reg.SEC_BOOT_STATUS, 16, 16⟩
/-- SEC_BOOT_STATUS bits [3:0]. -/
def Fld.SEC_BOOT_STATUS.STAGE : Fld := ⟨Reg.SEC_BOOT_STATUS, 3, 0⟩
/-- Key of SEC_LYF_VER. -/
def Reg.SEC_LYF_VER : Nat := 0x0F00004
/-- Key of SEC_APP_VER. -/
def Reg.SEC_APP_VER : Nat := 0x0F00008
/-- Key of SEC_INT_STATUS. -/
def Reg.SEC_INT_STATUS : Nat := 0x0F00010
/-- Key of SEC_INT_EN. -/
def Reg.SEC_INT_EN : Nat := 0x0F00014
/-- Key of SEC_WDT_CTL. -/
def Reg.SEC_WDT_CTL : Nat := 0x0F00020
/-- SEC_WDT_CTL bits [31:31]. -/
def Fld.SEC_WDT_CTL.EN : Fld := ⟨Reg.SEC_WDT_CTL, 31, 31⟩
/-- SEC_WDT_CTL bits [15:0]. -/
def Fld.SEC_WDT_CTL.PERIOD : Fld := ⟨Reg.SEC_WDT_CTL, 15, 0⟩
/-- Key of SEC_FLASH_STATUS. -/
def Reg.SEC_FLASH_STATUS : Nat := 0x0F00028
/-- SEC_FLASH_STATUS bits [31:31]. -/
def Fld.SEC_FLASH_STATUS.BUSY : Fld := ⟨Reg.SEC_FLASH_STATUS, 31, 31⟩
/-- SEC_FLASH_STATUS bits [30:28]. -/
def Fld.SEC_FLASH_STATUS.OP : Fld := ⟨Reg.SEC_FLASH_STATUS, 30, 28⟩
/-- SEC_FLASH_STATUS bits [23:0]. -/
def Fld.SEC_FLASH_STATUS.DONE_KIB : Fld := ⟨Reg.SEC_FLASH_STATUS, 23, 0⟩
/-- Key of SEC_MB_STATUS. -/
def Reg.SEC_MB_STATUS (i : Nat) : Nat := 0x0F10004 + 0x1000 * i
/-- SEC_MB_STATUS bits [2:2]. -/
def Fld.SEC_MB_STATUS.OVERRUN (i : Nat) : Fld := ⟨(Reg.SEC_MB_STATUS i), 2, 2⟩
/-- SEC_MB_STATUS bits [1:1]. -/
def Fld.SEC_MB_STATUS.DONE (i : Nat) : Fld := ⟨(Reg.SEC_MB_STATUS i), 1, 1⟩
/-- SEC_MB_STATUS bits [0:0]. -/
def Fld.SEC_MB_STATUS.BUSY (i : Nat) : Fld := ⟨(Reg.SEC_MB_STATUS i), 0, 0⟩
/-- Key of SEC_MB_REQ. -/
def Reg.SEC_MB_REQ (i j : Nat) : Nat := 0x0F10400 + 0x1000 * i + 0x4 * j
/-- Key of SEC_MB_RSP. -/
def Reg.SEC_MB_RSP (i j : Nat) : Nat := 0x0F10800 + 0x1000 * i + 0x4 * j
/-- Key of FLT_CTL. -/
def Reg.FLT_CTL : Nat := 0x1000000
/-- FLT_CTL bits [19:16]. -/
def Fld.FLT_CTL.TRAP_CORES : Fld := ⟨Reg.FLT_CTL, 19, 16⟩
/-- FLT_CTL bits [1:1]. -/
def Fld.FLT_CTL.INT_PIN : Fld := ⟨Reg.FLT_CTL, 1, 1⟩
/-- FLT_CTL bits [0:0]. -/
def Fld.FLT_CTL.INT_MSI : Fld := ⟨Reg.FLT_CTL, 0, 0⟩
/-- Key of FLT_STATUS. -/
def Reg.FLT_STATUS : Nat := 0x1000004
/-- FLT_STATUS bits [3:3]. -/
def Fld.FLT_STATUS.CHIP_ARM : Fld := ⟨Reg.FLT_STATUS, 3, 3⟩
/-- FLT_STATUS bits [2:2]. -/
def Fld.FLT_STATUS.CHIP_SUPPRESSED : Fld := ⟨Reg.FLT_STATUS, 2, 2⟩
/-- FLT_STATUS bits [0:0]. -/
def Fld.FLT_STATUS.OVF : Fld := ⟨Reg.FLT_STATUS, 0, 0⟩
/-- Key of FLT_FIRST. -/
def Reg.FLT_FIRST : Nat := 0x1000008
/-- FLT_FIRST bits [31:31]. -/
def Fld.FLT_FIRST.FIRST_VALID : Fld := ⟨Reg.FLT_FIRST, 31, 31⟩
/-- FLT_FIRST bits [30:30]. -/
def Fld.FLT_FIRST.INJ : Fld := ⟨Reg.FLT_FIRST, 30, 30⟩
/-- FLT_FIRST bits [29:29]. -/
def Fld.FLT_FIRST.REAL : Fld := ⟨Reg.FLT_FIRST, 29, 29⟩
/-- FLT_FIRST bits [9:0]. -/
def Fld.FLT_FIRST.ID : Fld := ⟨Reg.FLT_FIRST, 9, 0⟩
/-- Key of FLT_FIRST_TS_LO. -/
def Reg.FLT_FIRST_TS_LO : Nat := 0x100000C
/-- Key of FLT_RST_ID. -/
def Reg.FLT_RST_ID : Nat := 0x1000020
/-- FLT_RST_ID bits [31:31]. -/
def Fld.FLT_RST_ID.VALID : Fld := ⟨Reg.FLT_RST_ID, 31, 31⟩
/-- FLT_RST_ID bits [9:0]. -/
def Fld.FLT_RST_ID.ID : Fld := ⟨Reg.FLT_RST_ID, 9, 0⟩
/-- Key of FLT_FIRE_CNT. -/
def Reg.FLT_FIRE_CNT : Nat := 0x1000024
/-- FLT_FIRE_CNT bits [31:0]. -/
def Fld.FLT_FIRE_CNT.FIRINGS : Fld := ⟨Reg.FLT_FIRE_CNT, 31, 0⟩
/-- Key of FLT_SRC. -/
def Reg.FLT_SRC (i : Nat) : Nat := 0x1010000 + 0x4 * i
/-- FLT_SRC bits [31:31]. -/
def Fld.FLT_SRC.STICKY (i : Nat) : Fld := ⟨(Reg.FLT_SRC i), 31, 31⟩
/-- FLT_SRC bits [30:30]. -/
def Fld.FLT_SRC.REAL (i : Nat) : Fld := ⟨(Reg.FLT_SRC i), 30, 30⟩
/-- FLT_SRC bits [29:29]. -/
def Fld.FLT_SRC.INJD (i : Nat) : Fld := ⟨(Reg.FLT_SRC i), 29, 29⟩
/-- FLT_SRC bits [16:16]. -/
def Fld.FLT_SRC.INJ_HOLD (i : Nat) : Fld := ⟨(Reg.FLT_SRC i), 16, 16⟩
/-- FLT_SRC bits [12:12]. -/
def Fld.FLT_SRC.ERR (i : Nat) : Fld := ⟨(Reg.FLT_SRC i), 12, 12⟩
/-- FLT_SRC bits [11:11]. -/
def Fld.FLT_SRC.CHIP_RST (i : Nat) : Fld := ⟨(Reg.FLT_SRC i), 11, 11⟩
/-- FLT_SRC bits [10:10]. -/
def Fld.FLT_SRC.BLK_RST (i : Nat) : Fld := ⟨(Reg.FLT_SRC i), 10, 10⟩
/-- FLT_SRC bits [9:9]. -/
def Fld.FLT_SRC.TRAP (i : Nat) : Fld := ⟨(Reg.FLT_SRC i), 9, 9⟩
/-- FLT_SRC bits [8:8]. -/
def Fld.FLT_SRC.INT (i : Nat) : Fld := ⟨(Reg.FLT_SRC i), 8, 8⟩
/-- FLT_SRC bits [0:0]. -/
def Fld.FLT_SRC.EN (i : Nat) : Fld := ⟨(Reg.FLT_SRC i), 0, 0⟩
/-- Key of PWR_STATUS. -/
def Reg.PWR_STATUS : Nat := 0x1100000
/-- PWR_STATUS bits [17:16]. -/
def Fld.PWR_STATUS.SHED_PORTS : Fld := ⟨Reg.PWR_STATUS, 17, 16⟩
/-- PWR_STATUS bits [10:10]. -/
def Fld.PWR_STATUS.ALERT : Fld := ⟨Reg.PWR_STATUS, 10, 10⟩
/-- PWR_STATUS bits [9:9]. -/
def Fld.PWR_STATUS.INPUT_LIMIT : Fld := ⟨Reg.PWR_STATUS, 9, 9⟩
/-- PWR_STATUS bits [8:8]. -/
def Fld.PWR_STATUS.THROTTLE : Fld := ⟨Reg.PWR_STATUS, 8, 8⟩
/-- PWR_STATUS bits [2:0]. -/
def Fld.PWR_STATUS.STEP : Fld := ⟨Reg.PWR_STATUS, 2, 0⟩
/-- Key of PWR_CAP. -/
def Reg.PWR_CAP : Nat := 0x1100004
/-- PWR_CAP bits [7:0]. -/
def Fld.PWR_CAP.WATTS : Fld := ⟨Reg.PWR_CAP, 7, 0⟩
/-- Key of PWR_TR_CTL. -/
def Reg.PWR_TR_CTL : Nat := 0x1100008
/-- PWR_TR_CTL bits [9:9]. -/
def Fld.PWR_TR_CTL.TRAFFIC_ORDER : Fld := ⟨Reg.PWR_TR_CTL, 9, 9⟩
/-- PWR_TR_CTL bits [8:8]. -/
def Fld.PWR_TR_CTL.TRAFFIC_EN : Fld := ⟨Reg.PWR_TR_CTL, 8, 8⟩
/-- PWR_TR_CTL bits [4:4]. -/
def Fld.PWR_TR_CTL.SHED_EN : Fld := ⟨Reg.PWR_TR_CTL, 4, 4⟩
/-- PWR_TR_CTL bits [0:0]. -/
def Fld.PWR_TR_CTL.ADAPT_EN : Fld := ⟨Reg.PWR_TR_CTL, 0, 0⟩
/-- Key of PWR_THERM. -/
def Reg.PWR_THERM : Nat := 0x110000C
/-- PWR_THERM bits [23:16]. -/
def Fld.PWR_THERM.ALERT_T : Fld := ⟨Reg.PWR_THERM, 23, 16⟩
/-- PWR_THERM bits [7:0]. -/
def Fld.PWR_THERM.THROTTLE_T : Fld := ⟨Reg.PWR_THERM, 7, 0⟩
/-- Key of PWR_IN. -/
def Reg.PWR_IN : Nat := 0x1100010
/-- PWR_IN bits [31:16]. -/
def Fld.PWR_IN.IIN : Fld := ⟨Reg.PWR_IN, 31, 16⟩
/-- PWR_IN bits [15:0]. -/
def Fld.PWR_IN.VIN : Fld := ⟨Reg.PWR_IN, 15, 0⟩
/-- Key of PWR_PIN. -/
def Reg.PWR_PIN : Nat := 0x1100014
/-- PWR_PIN bits [27:16]. -/
def Fld.PWR_PIN.PMAX : Fld := ⟨Reg.PWR_PIN, 27, 16⟩
/-- PWR_PIN bits [11:0]. -/
def Fld.PWR_PIN.P : Fld := ⟨Reg.PWR_PIN, 11, 0⟩
/-- Key of PWR_TJ. -/
def Reg.PWR_TJ : Nat := 0x1100018
/-- PWR_TJ bits [20:16]. -/
def Fld.PWR_TJ.SENSOR : Fld := ⟨Reg.PWR_TJ, 20, 16⟩
/-- PWR_TJ bits [15:0]. -/
def Fld.PWR_TJ.TJ : Fld := ⟨Reg.PWR_TJ, 15, 0⟩
/-- Key of PWR_LOG_CTL. -/
def Reg.PWR_LOG_CTL : Nat := 0x1100020
/-- PWR_LOG_CTL bits [31:31]. -/
def Fld.PWR_LOG_CTL.LOG_EN : Fld := ⟨Reg.PWR_LOG_CTL, 31, 31⟩
/-- PWR_LOG_CTL bits [15:0]. -/
def Fld.PWR_LOG_CTL.LOG_QUEUE : Fld := ⟨Reg.PWR_LOG_CTL, 15, 0⟩
/-- Key of PWR_LOG_CNT. -/
def Reg.PWR_LOG_CNT : Nat := 0x1100024
/-- PWR_LOG_CNT bits [31:16]. -/
def Fld.PWR_LOG_CNT.DROP : Fld := ⟨Reg.PWR_LOG_CNT, 31, 16⟩
/-- PWR_LOG_CNT bits [15:0]. -/
def Fld.PWR_LOG_CNT.ENTRIES : Fld := ⟨Reg.PWR_LOG_CNT, 15, 0⟩
/-- Key of PWR_INT_STATUS. -/
def Reg.PWR_INT_STATUS : Nat := 0x1100030
/-- Key of PWR_INT_EN. -/
def Reg.PWR_INT_EN : Nat := 0x1100034
/-- Key of PWR_DOM. -/
def Reg.PWR_DOM (i : Nat) : Nat := 0x1100100 + 0x4 * i
/-- Key of PWR_TEMP. -/
def Reg.PWR_TEMP (i : Nat) : Nat := 0x1100200 + 0x4 * i
/-- PWR_TEMP bits [15:0]. -/
def Fld.PWR_TEMP.T (i : Nat) : Fld := ⟨(Reg.PWR_TEMP i), 15, 0⟩
/-- Key of PWR_HK_CTL. -/
def Reg.PWR_HK_CTL : Nat := 0x1100300
/-- PWR_HK_CTL bits [31:31]. -/
def Fld.PWR_HK_CTL.START : Fld := ⟨Reg.PWR_HK_CTL, 31, 31⟩
/-- PWR_HK_CTL bits [30:30]. -/
def Fld.PWR_HK_CTL.CAL_NOW : Fld := ⟨Reg.PWR_HK_CTL, 30, 30⟩
/-- PWR_HK_CTL bits [18:18]. -/
def Fld.PWR_HK_CTL.PEND : Fld := ⟨Reg.PWR_HK_CTL, 18, 18⟩
/-- PWR_HK_CTL bits [17:17]. -/
def Fld.PWR_HK_CTL.CAL_BUSY : Fld := ⟨Reg.PWR_HK_CTL, 17, 17⟩
/-- PWR_HK_CTL bits [16:16]. -/
def Fld.PWR_HK_CTL.CONV_BUSY : Fld := ⟨Reg.PWR_HK_CTL, 16, 16⟩
/-- PWR_HK_CTL bits [5:0]. -/
def Fld.PWR_HK_CTL.CH : Fld := ⟨Reg.PWR_HK_CTL, 5, 0⟩
/-- Key of PWR_HK_DATA. -/
def Reg.PWR_HK_DATA : Nat := 0x1100304
/-- PWR_HK_DATA bits [31:31]. -/
def Fld.PWR_HK_DATA.VALID : Fld := ⟨Reg.PWR_HK_DATA, 31, 31⟩
/-- PWR_HK_DATA bits [30:30]. -/
def Fld.PWR_HK_DATA.OVR : Fld := ⟨Reg.PWR_HK_DATA, 30, 30⟩
/-- PWR_HK_DATA bits [29:29]. -/
def Fld.PWR_HK_DATA.STALE : Fld := ⟨Reg.PWR_HK_DATA, 29, 29⟩
/-- PWR_HK_DATA bits [28:28]. -/
def Fld.PWR_HK_DATA.RANGE : Fld := ⟨Reg.PWR_HK_DATA, 28, 28⟩
/-- PWR_HK_DATA bits [27:27]. -/
def Fld.PWR_HK_DATA.SETTLE : Fld := ⟨Reg.PWR_HK_DATA, 27, 27⟩
/-- PWR_HK_DATA bits [21:16]. -/
def Fld.PWR_HK_DATA.CH : Fld := ⟨Reg.PWR_HK_DATA, 21, 16⟩
/-- PWR_HK_DATA bits [11:0]. -/
def Fld.PWR_HK_DATA.CODE : Fld := ⟨Reg.PWR_HK_DATA, 11, 0⟩
/-- Key of PWR_HK_CAL_CNT_LO. -/
def Reg.PWR_HK_CAL_CNT_LO : Nat := 0x1100308
/-- Key of PWR_HK_CAL_SEC_LO. -/
def Reg.PWR_HK_CAL_SEC_LO : Nat := 0x1100310

end Sys2Proof.Machine
end

