-- ==== Sys2Proof/Machine/RegTable.lean ====
section
/-! DEFINITION. The register table: every register of the register maps of the spec, its address, its copies and its
fields with their access codes, reset values and the rule for written values. Reset values the tables give as Fuses,
Strap or Image stand as 0 here and come from Config, from State or from an image (see Machine/Operands.lean). -/

namespace Sys2Proof.Machine

/-- Registers of block GLB, part 0: 01 Tables 7 to 19 (R50). -/
def regsGLB0 : List RegDesc :=
  [ ⟨"GLB_ID", 0x0000000, [],
      [⟨"PART", 31, 16, .ro, 25650, .any⟩,
       ⟨"STEPPING", 15, 8, .ro, 176, .any⟩]⟩,
    ⟨"GLB_DIE_ID_LO", 0x0000008, [],
      [⟨"DIE_ID", 31, 0, .ro, 0, .any⟩]⟩,
    ⟨"GLB_DIE_ID_HI", 0x000000C, [],
      [⟨"DIE_ID", 31, 0, .ro, 0, .any⟩]⟩,
    ⟨"GLB_FENCE", 0x0000010, [],
      [⟨"DONE", 31, 31, .ro, 1, .any⟩,
       ⟨"TOKEN", 15, 0, .rw, 0, .any⟩]⟩,
    ⟨"GLB_SHADOW_HOLD", 0x0000020, [],
      [⟨"HOLD_HI", 14, 11, .rw, 0, .any⟩,
       ⟨"HOLD_LO", 9, 2, .rw, 0, .any⟩]⟩,
    ⟨"GLB_SHADOW_PEND", 0x0000024, [],
      [⟨"PEND_HI", 14, 11, .ro, 0, .any⟩,
       ⟨"PEND_LO", 9, 2, .ro, 0, .any⟩]⟩,
    ⟨"GLB_BLK_RESET", 0x0000030, [],
      [⟨"RST", 14, 2, .w1s, 0, .any⟩]⟩,
    ⟨"GLB_RESET_CTL", 0x0000034, [],
      [⟨"KEY", 31, 16, .wo, 0, .any⟩,
       ⟨"CHIP", 0, 0, .wo, 0, .any⟩]⟩,
    ⟨"GLB_RESET_CAUSE", 0x0000038, [],
      [⟨"SEC", 5, 5, .w1c, 0, .any⟩,
       ⟨"THERMTRIP", 4, 4, .w1c, 0, .any⟩,
       ⟨"FAULT", 3, 3, .w1c, 0, .any⟩,
       ⟨"SOFT", 2, 2, .w1c, 0, .any⟩,
       ⟨"POWER_ON", 0, 0, .w1c, 1, .any⟩]⟩,
    ⟨"GLB_ACC_ERR_ADDR", 0x0000040, [],
      [⟨"ADDR", 31, 0, .ro, 0, .any⟩]⟩,
    ⟨"GLB_ACC_ERR_INFO", 0x0000044, [],
      [⟨"VALID", 31, 31, .w1c, 0, .any⟩,
       ⟨"REQ", 10, 8, .ro, 0, .any⟩,
       ⟨"WRITE", 4, 4, .ro, 0, .any⟩,
       ⟨"BE", 3, 0, .ro, 0, .any⟩]⟩,
    ⟨"GLB_SCRATCH", 0x0000050, [],
      [⟨"DATA", 31, 0, .rw, 0, .any⟩]⟩]

/-- All registers of block GLB: 01 Tables 7 to 19 (R50). -/
def regsGLB : List RegDesc := regsGLB0

/-- Registers of block STR, part 0: 02 Tables 13 to 26 (R84). -/
def regsSTR0 : List RegDesc :=
  [ ⟨"STR_STATE", 0x0100000, [],
      [⟨"RSTR", 31, 24, .ro, 0, .any⟩,
       ⟨"ERR", 23, 16, .ro, 0, .any⟩,
       ⟨"COMMIT", 11, 8, .ro, 0, .any⟩,
       ⟨"STAGE", 3, 0, .ro, 0, .any⟩]⟩,
    ⟨"STR_LOAD_CTL", 0x0100004, [],
      [⟨"START", 31, 31, .w1s, 0, .any⟩,
       ⟨"SRC", 1, 0, .rw, 0, .any⟩]⟩,
    ⟨"STR_LOAD_ADDR_LO", 0x0100008, [],
      [⟨"ADDR", 31, 0, .rw, 0, .any⟩]⟩,
    ⟨"STR_LOAD_ADDR_HI", 0x010000C, [],
      [⟨"ADDR", 31, 0, .rw, 0, .any⟩]⟩,
    ⟨"STR_LOAD_LEN", 0x0100010, [],
      [⟨"LEN", 24, 0, .rw, 0, .any⟩]⟩,
    ⟨"STR_COMMIT", 0x0100020, [],
      [⟨"KEY", 31, 16, .wo, 0, .any⟩,
       ⟨"MASK", 7, 0, .wo, 0, .any⟩]⟩,
    ⟨"STR_STAGED_INFO", 0x0100024, [],
      [⟨"SECVER", 31, 16, .ro, 0, .any⟩,
       ⟨"SIGNER", 10, 8, .ro, 0, .any⟩,
       ⟨"REGIONS", 7, 0, .ro, 0, .any⟩]⟩,
    ⟨"STR_STAGED_IMG_ID", 0x0100028, [],
      [⟨"IMG_ID", 31, 0, .ro, 0, .any⟩]⟩,
    ⟨"STR_ERR_DETAIL", 0x0100030, [],
      [⟨"OFFSET", 31, 0, .ro, 0xffffffff, .any⟩]⟩,
    ⟨"STR_INT_STATUS", 0x0100034, [],
      [⟨"COMMIT_ERR", 3, 3, .w1c, 0, .any⟩,
       ⟨"COMMIT_DONE", 2, 2, .w1c, 0, .any⟩,
       ⟨"LOAD_ERR", 1, 1, .w1c, 0, .any⟩,
       ⟨"LOAD_DONE", 0, 0, .w1c, 0, .any⟩]⟩,
    ⟨"STR_INT_EN", 0x0100038, [],
      [⟨"EN", 3, 0, .rw, 0, .any⟩]⟩,
    ⟨"STR_CMT_TIME_LO", 0x0100040, [],
      [⟨"NS", 31, 0, .ro, 0, .any⟩]⟩,
    ⟨"STR_CMT_TIME_MID0", 0x0100044, [],
      [⟨"SEC", 31, 0, .ro, 0, .any⟩]⟩,
    ⟨"STR_CMT_TIME_HI", 0x0100048, [],
      [⟨"SEC", 15, 0, .ro, 0, .any⟩]⟩,
    ⟨"STR_REGION_IMG", 0x0100050, [(8,0x4)],
      [⟨"IMG_ID", 31, 0, .ro, 0, .any⟩]⟩,
    ⟨"STR_ACTIVE", 0x0100070, [],
      [⟨"COMMITS", 31, 16, .ro, 0, .any⟩,
       ⟨"ACTIVE", 7, 0, .ro, 0, .any⟩]⟩]

/-- All registers of block STR: 02 Tables 13 to 26 (R84). -/
def regsSTR : List RegDesc := regsSTR0

/-- Registers of block LN, part 0: 03 Tables 12 to 24 (R114) and 04 Tables 14 to 37 (R152). -/
def regsLN0 : List RegDesc :=
  [ ⟨"LNx_CNV_RATE", 0x0200000, [(2,0x100000)],
      [⟨"M", 5, 0, .rw, 50, .special⟩]⟩,
    ⟨"LNx_CNV_EN", 0x0200004, [(2,0x100000)],
      [⟨"EN", 7, 0, .rw, 0, .any⟩]⟩,
    ⟨"LNx_CNV_STATE", 0x0200008, [(2,0x100000)],
      [⟨"CAL_LAG0", 3, 3, .ro, 0, .any⟩,
       ⟨"CAL_LAG1", 7, 7, .ro, 0, .any⟩,
       ⟨"CAL_LAG2", 11, 11, .ro, 0, .any⟩,
       ⟨"CAL_LAG3", 15, 15, .ro, 0, .any⟩,
       ⟨"CAL_LAG4", 19, 19, .ro, 0, .any⟩,
       ⟨"CAL_LAG5", 23, 23, .ro, 0, .any⟩,
       ⟨"CAL_LAG6", 27, 27, .ro, 0, .any⟩,
       ⟨"CAL_LAG7", 31, 31, .ro, 0, .any⟩,
       ⟨"DEGRADED0", 2, 2, .ro, 0, .any⟩,
       ⟨"DEGRADED1", 6, 6, .ro, 0, .any⟩,
       ⟨"DEGRADED2", 10, 10, .ro, 0, .any⟩,
       ⟨"DEGRADED3", 14, 14, .ro, 0, .any⟩,
       ⟨"DEGRADED4", 18, 18, .ro, 0, .any⟩,
       ⟨"DEGRADED5", 22, 22, .ro, 0, .any⟩,
       ⟨"DEGRADED6", 26, 26, .ro, 0, .any⟩,
       ⟨"DEGRADED7", 30, 30, .ro, 0, .any⟩,
       ⟨"STATE0", 1, 0, .ro, 0, .any⟩,
       ⟨"STATE1", 5, 4, .ro, 0, .any⟩,
       ⟨"STATE2", 9, 8, .ro, 0, .any⟩,
       ⟨"STATE3", 13, 12, .ro, 0, .any⟩,
       ⟨"STATE4", 17, 16, .ro, 0, .any⟩,
       ⟨"STATE5", 21, 20, .ro, 0, .any⟩,
       ⟨"STATE6", 25, 24, .ro, 0, .any⟩,
       ⟨"STATE7", 29, 28, .ro, 0, .any⟩]⟩,
    ⟨"LNx_CNV_LAT", 0x020000C, [(2,0x100000)],
      [⟨"DAC", 31, 16, .ro, 0, .any⟩,
       ⟨"ADC", 15, 0, .ro, 0, .any⟩]⟩,
    ⟨"LNx_OVR_STATUS", 0x0200010, [(2,0x100000)],
      [⟨"OVR_STICKY", 11, 8, .w1c, 0, .any⟩,
       ⟨"OVR_LIVE", 3, 0, .ro, 0, .any⟩]⟩,
    ⟨"LNx_OVR_CNT", 0x0200014, [(2,0x100000), (4,0x4)],
      [⟨"RUNS", 31, 0, .rc, 0, .any⟩]⟩,
    ⟨"LNx_DAC_FS", 0x0200030, [(2,0x100000)],
      [⟨"FS_CODE0", 6, 0, .rw, 32, .clamp 0 64⟩,
       ⟨"FS_CODE1", 14, 8, .rw, 32, .clamp 0 64⟩,
       ⟨"FS_CODE2", 22, 16, .rw, 32, .clamp 0 64⟩,
       ⟨"FS_CODE3", 30, 24, .rw, 32, .clamp 0 64⟩]⟩,
    ⟨"LNx_CAL_CTL", 0x0200040, [(2,0x100000)],
      [⟨"DWELL", 20, 16, .rw, 20, .clamp 16 24⟩,
       ⟨"FREEZE", 8, 8, .rw, 0, .any⟩,
       ⟨"CAL_NOW", 0, 0, .w1s, 0, .any⟩]⟩,
    ⟨"LNx_CAL_LAG_THR", 0x0200044, [(2,0x100000)],
      [⟨"THR", 5, 0, .rw, 4, .any⟩]⟩,
    ⟨"LNx_FACT_INFO", 0x0200048, [(2,0x100000)],
      [⟨"VERSION", 31, 24, .ro, 0, .any⟩,
       ⟨"TEMP", 23, 16, .ro, 0, .any⟩,
       ⟨"M", 15, 8, .ro, 0, .any⟩]⟩,
    ⟨"LNx_FACT_SEC_LO", 0x0200050, [(2,0x100000)],
      [⟨"SEC", 31, 0, .ro, 0, .any⟩]⟩,
    ⟨"LNx_FACT_SEC_HI", 0x0200054, [(2,0x100000)],
      [⟨"SEC", 15, 0, .ro, 0, .any⟩]⟩,
    ⟨"LNx_CAL_CNT_LO", 0x0200100, [(2,0x100000), (8,0x20)],
      [⟨"COUNT", 31, 0, .ro, 0, .any⟩]⟩,
    ⟨"LNx_CAL_CNT_HI", 0x0200104, [(2,0x100000), (8,0x20)],
      [⟨"COUNT", 15, 0, .ro, 0, .any⟩]⟩,
    ⟨"LNx_CAL_SEC_LO", 0x0200108, [(2,0x100000), (8,0x20)],
      [⟨"SEC", 31, 0, .ro, 0, .any⟩]⟩,
    ⟨"LNx_CAL_SEC_HI", 0x020010C, [(2,0x100000), (8,0x20)],
      [⟨"SEC", 15, 0, .ro, 0, .any⟩]⟩,
    ⟨"LNx_CAL_INFO", 0x0200110, [(2,0x100000), (8,0x20)],
      [⟨"RETIRED", 31, 31, .ro, 0, .any⟩,
       ⟨"RET_SLICE", 22, 16, .ro, 0, .any⟩,
       ⟨"SPARE", 14, 8, .ro, 64, .any⟩,
       ⟨"POS", 5, 0, .ro, 0, .any⟩]⟩,
    ⟨"LNx_DSP_MODE", 0x0201000, [(2,0x100000)],
      [⟨"RESTART", 31, 31, .w1s, 0, .any⟩,
       ⟨"DECIM", 17, 16, .rws, 0, .any⟩,
       ⟨"FMT", 13, 12, .rws, 2, .any⟩,
       ⟨"TX_EN", 9, 9, .rws, 0, .any⟩,
       ⟨"RX_EN", 8, 8, .rws, 0, .any⟩,
       ⟨"MODE", 2, 0, .rws, 0, .any⟩]⟩,
    ⟨"LNx_DSP_STATE", 0x0201004, [(2,0x100000)],
      [⟨"GUARD", 15, 15, .ro, 0, .any⟩,
       ⟨"TX_ACTIVE", 14, 14, .ro, 0, .any⟩,
       ⟨"CD_CLAMP", 13, 13, .ro, 0, .any⟩,
       ⟨"MODE_ERR", 12, 12, .ro, 0, .any⟩,
       ⟨"RX_STATE", 3, 0, .ro, 0, .any⟩]⟩,
    ⟨"LNx_DSP_LAT", 0x0201008, [(2,0x100000)],
      [⟨"TX", 31, 16, .ro, 0, .any⟩,
       ⟨"RX", 15, 0, .ro, 0, .any⟩]⟩,
    ⟨"LNx_RX_FE_CTL", 0x0201010, [(2,0x100000)],
      [⟨"LOS_THR", 13, 8, .rws, 30, .clamp 10 50⟩,
       ⟨"INV", 1, 1, .rws, 0, .any⟩,
       ⟨"IQ_COMP", 0, 0, .rws, 1, .any⟩]⟩,
    ⟨"LNx_RX_SKEW", 0x0201014, [(2,0x100000), (4,0x4)],
      [⟨"SKEW", 9, 0, .rws, 0, .any⟩]⟩,
    ⟨"LNx_CD_CTL", 0x0201030, [(2,0x100000)],
      [⟨"SEARCH", 31, 31, .rws, 1, .any⟩,
       ⟨"STEP", 15, 0, .rws, 200, .clamp 10 5000⟩]⟩,
    ⟨"LNx_CD_VALUE", 0x0201034, [(2,0x100000)],
      [⟨"VALUE", 19, 0, .rws, 0, .any⟩]⟩]

/-- Registers of block LN, part 1: 03 Tables 12 to 24 (R114) and 04 Tables 14 to 37 (R152). -/
def regsLN1 : List RegDesc :=
  [ ⟨"LNx_CD_MIN", 0x0201038, [(2,0x100000)],
      [⟨"VALUE", 19, 0, .rws, 0xfd120, .any⟩]⟩,
    ⟨"LNx_CD_MAX", 0x020103C, [(2,0x100000)],
      [⟨"VALUE", 19, 0, .rws, 12000, .any⟩]⟩,
    ⟨"LNx_CARRIER", 0x0201040, [(2,0x100000)],
      [⟨"FREQ", 17, 0, .rws, 0x2f386, .clamp 184000 200000⟩]⟩,
    ⟨"LNx_CR_CTL", 0x0201050, [(2,0x100000)],
      [⟨"BW", 2, 0, .rws, 2, .exceeds 4 4⟩]⟩,
    ⟨"LNx_MIMO_CTL", 0x0201060, [(2,0x100000)],
      [⟨"TAPS_MAX", 25, 24, .rws, 3, .any⟩,
       ⟨"PILOT_MU", 19, 16, .rws, 3, .clamp 0 4⟩,
       ⟨"MU", 11, 8, .rws, 10, .clamp 6 15⟩,
       ⟨"ADAPT", 1, 0, .rws, 0, .any⟩]⟩,
    ⟨"LNx_MIMO_STATUS", 0x0201064, [(2,0x100000)],
      [⟨"TAPS_ACT", 9, 8, .ro, 3, .any⟩,
       ⟨"SWAP", 1, 1, .ro, 0, .any⟩,
       ⟨"PILOT_ONLY", 0, 0, .ro, 0, .any⟩]⟩,
    ⟨"LNx_GUARD_CTL", 0x0201070, [(2,0x100000)],
      [⟨"OCC_THR", 23, 16, .rws, 64, .any⟩,
       ⟨"REP_THR", 15, 8, .rws, 64, .any⟩,
       ⟨"DIV_THR", 4, 0, .rws, 8, .any⟩]⟩,
    ⟨"LNx_GUARD_HYST", 0x0201074, [(2,0x100000)],
      [⟨"EXIT_N", 15, 8, .rws, 16, .clamp 1 255⟩,
       ⟨"ENTER_N", 7, 0, .rws, 2, .clamp 1 255⟩]⟩,
    ⟨"LNx_GUARD_CNT", 0x0201078, [(2,0x100000)],
      [⟨"ENTRIES", 31, 0, .rc, 0, .any⟩]⟩,
    ⟨"LNx_CPR_CTL", 0x0201080, [(2,0x100000)],
      [⟨"BPS", 8, 8, .rws, 1, .any⟩,
       ⟨"WIN", 4, 0, .rws, 7, .odd⟩]⟩,
    ⟨"LNx_CPR_SLIP_CNT", 0x0201084, [(2,0x100000)],
      [⟨"SLIPS", 31, 0, .rc, 0, .any⟩]⟩,
    ⟨"LNx_DEMAP_CTL", 0x0201090, [(2,0x100000)],
      [⟨"NWIN", 11, 8, .rws, 10, .clamp 4 14⟩,
       ⟨"SCALE", 7, 0, .rws, 128, .clamp 64 255⟩]⟩,
    ⟨"LNx_MON_SNR", 0x02010A0, [(2,0x100000)],
      [⟨"SNR_Y", 31, 16, .ro, 0, .any⟩,
       ⟨"SNR_X", 15, 0, .ro, 0, .any⟩]⟩,
    ⟨"LNx_MON_FO", 0x02010A4, [(2,0x100000)],
      [⟨"FO", 15, 0, .ro, 0, .any⟩]⟩,
    ⟨"LNx_MON_CD", 0x02010A8, [(2,0x100000)],
      [⟨"CD", 19, 0, .ro, 0, .any⟩]⟩,
    ⟨"LNx_MON_PMD", 0x02010AC, [(2,0x100000)],
      [⟨"PDL", 31, 16, .ro, 0, .any⟩,
       ⟨"DGD", 15, 0, .ro, 0, .any⟩]⟩,
    ⟨"LNx_MON_SOP", 0x02010B0, [(2,0x100000)],
      [⟨"UPDATES", 31, 16, .ro, 0, .any⟩,
       ⟨"SOP_MAX", 15, 0, .ro, 0, .any⟩]⟩,
    ⟨"LNx_SNR_THR", 0x02010B4, [(2,0x100000)],
      [⟨"THR", 15, 0, .rws, 0, .any⟩]⟩,
    ⟨"LNx_ACQ_CNT", 0x02010C0, [(2,0x100000)],
      [⟨"FAIL", 31, 16, .rc, 0, .any⟩,
       ⟨"LOCK", 15, 0, .rc, 0, .any⟩]⟩,
    ⟨"LNx_SYNC_LOSS_CNT", 0x02010C4, [(2,0x100000)],
      [⟨"LOSSES", 31, 0, .rc, 0, .any⟩]⟩,
    ⟨"LNx_INT_STATUS", 0x02010D0, [(2,0x100000)],
      [⟨"FADE_DONE", 3, 3, .w1c, 0, .any⟩,
       ⟨"MON_UPDATE", 2, 2, .w1c, 0, .any⟩,
       ⟨"UNLOCK", 1, 1, .w1c, 0, .any⟩,
       ⟨"LOCK", 0, 0, .w1c, 0, .any⟩]⟩,
    ⟨"LNx_INT_EN", 0x02010D4, [(2,0x100000)],
      [⟨"EN", 3, 0, .rw, 0, .any⟩]⟩,
    ⟨"LNx_TX_CTL", 0x0201100, [(2,0x100000)],
      [⟨"RMS", 23, 16, .rws, 32, .clamp 8 64⟩,
       ⟨"ROLLOFF", 12, 8, .rws, 10, .clamp 5 20⟩]⟩,
    ⟨"LNx_TX_PRECD", 0x0201104, [(2,0x100000)],
      [⟨"VALUE", 19, 0, .rws, 0, .any⟩]⟩]

/-- Registers of block LN, part 2: 03 Tables 12 to 24 (R114) and 04 Tables 14 to 37 (R152). -/
def regsLN2 : List RegDesc :=
  [ ⟨"LNx_TX_TRIM", 0x0201110, [(2,0x100000), (4,0x4)],
      [⟨"BIAS", 24, 16, .rws, 0, .any⟩,
       ⟨"SKEW", 8, 0, .rws, 0, .sclamp (-200) 200⟩]⟩,
    ⟨"LNx_TX_IQ_X", 0x0201120, [(2,0x100000)],
      [⟨"PHASE", 26, 16, .rws, 0, .sclamp (-200) 200⟩,
       ⟨"GAIN", 10, 0, .rws, 0, .sclamp (-100) 100⟩]⟩,
    ⟨"LNx_TX_IQ_Y", 0x0201124, [(2,0x100000)],
      [⟨"PHASE", 26, 16, .rws, 0, .sclamp (-200) 200⟩,
       ⟨"GAIN", 10, 0, .rws, 0, .sclamp (-100) 100⟩]⟩,
    ⟨"LNx_TX_CLIP_CNT", 0x0201130, [(2,0x100000)],
      [⟨"SAMPLES", 31, 0, .rc, 0, .any⟩]⟩,
    ⟨"LNx_PD_CTL", 0x0201140, [(2,0x100000)],
      [⟨"FADE_K", 12, 8, .rws, 10, .clamp 0 24⟩,
       ⟨"BANK", 0, 0, .rws, 0, .any⟩]⟩,
    ⟨"LNx_PD_STATUS", 0x0201144, [(2,0x100000)],
      [⟨"QUEUED", 5, 5, .ro, 0, .any⟩,
       ⟨"QBANK", 4, 4, .ro, 0, .any⟩,
       ⟨"FADING", 3, 3, .ro, 0, .any⟩,
       ⟨"TARGET", 2, 2, .ro, 0, .any⟩,
       ⟨"ACTIVE", 0, 0, .ro, 0, .any⟩]⟩,
    ⟨"LNx_PD_REFUSED", 0x0201148, [(2,0x100000)],
      [⟨"WRITES", 31, 0, .rc, 0, .any⟩]⟩,
    ⟨"LNx_PD_COEF", 0x0204000, [(2,0x100000), (2,0x400), (4,0x100), (64,0x4)],
      [⟨"COEF", 15, 0, .rw, 0, .special⟩]⟩]

/-- All registers of block LN: 03 Tables 12 to 24 (R114) and 04 Tables 14 to 37 (R152). -/
def regsLN : List RegDesc := regsLN0 ++ regsLN1 ++ regsLN2

/-- Registers of block FEC, part 0: 05 Tables 7 to 15 (R174). -/
def regsFEC0 : List RegDesc :=
  [ ⟨"FEC_x_CTL", 0x0400000, [(2,0x80000)],
      [⟨"CNT_CLR", 31, 31, .w1s, 0, .any⟩,
       ⟨"ENC_EN", 1, 1, .rws, 0, .any⟩,
       ⟨"DEC_EN", 0, 0, .rws, 0, .any⟩]⟩,
    ⟨"FEC_x_STATUS", 0x0400004, [(2,0x80000)],
      [⟨"FMT", 10, 8, .ro, 7, .any⟩,
       ⟨"DEC_RUN", 1, 1, .ro, 0, .any⟩,
       ⟨"ENC_RUN", 0, 0, .ro, 0, .any⟩]⟩,
    ⟨"FEC_x_LAT", 0x0400008, [(2,0x80000)],
      [⟨"ENC", 31, 16, .ro, 0, .any⟩,
       ⟨"DEC", 15, 0, .ro, 0, .any⟩]⟩,
    ⟨"FEC_x_DEC_CTL", 0x0400010, [(2,0x80000)],
      [⟨"EARLY_STOP", 16, 16, .rws, 1, .any⟩,
       ⟨"NORM", 11, 8, .rws, 12, .clamp 8 15⟩,
       ⟨"ITER_MAX", 3, 0, .rws, 12, .clamp 1 12⟩]⟩,
    ⟨"FEC_x_DEC_STATUS", 0x0400014, [(2,0x80000)],
      [⟨"CAPPED", 8, 8, .ro, 0, .any⟩,
       ⟨"ITER_ACT", 3, 0, .ro, 12, .any⟩]⟩,
    ⟨"FEC_x_BER_THR", 0x0400018, [(2,0x80000)],
      [⟨"THR", 19, 0, .rws, 20972, .any⟩]⟩,
    ⟨"FEC_x_MON_CW", 0x0400020, [(2,0x80000)],
      [⟨"CW", 31, 0, .ro, 0, .any⟩]⟩,
    ⟨"FEC_x_MON_CORR", 0x0400024, [(2,0x80000)],
      [⟨"CORR", 31, 0, .ro, 0, .any⟩]⟩,
    ⟨"FEC_x_MON_UNCORR", 0x0400028, [(2,0x80000)],
      [⟨"UNCORR", 31, 0, .ro, 0, .any⟩]⟩,
    ⟨"FEC_x_MON_ITER", 0x040002C, [(2,0x80000)],
      [⟨"SHAPE", 31, 16, .ro, 0, .any⟩,
       ⟨"AVG", 11, 0, .ro, 0, .any⟩]⟩,
    ⟨"FEC_x_CNT_LO", 0x0400040, [(2,0x80000), (4,0x8)],
      [⟨"COUNT", 31, 0, .ro, 0, .any⟩]⟩,
    ⟨"FEC_x_CNT_HI", 0x0400044, [(2,0x80000), (4,0x8)],
      [⟨"COUNT", 15, 0, .ro, 0, .any⟩]⟩,
    ⟨"FEC_x_INT_STATUS", 0x0400070, [(2,0x80000)],
      [⟨"SHAPE_ERR", 2, 2, .w1c, 0, .any⟩,
       ⟨"UNCORR", 1, 1, .w1c, 0, .any⟩,
       ⟨"MON_UPDATE", 0, 0, .w1c, 0, .any⟩]⟩,
    ⟨"FEC_x_INT_EN", 0x0400074, [(2,0x80000)],
      [⟨"EN", 2, 0, .rw, 0, .any⟩]⟩]

/-- All registers of block FEC: 05 Tables 7 to 15 (R174). -/
def regsFEC : List RegDesc := regsFEC0

/-- Registers of block FRM, part 0: 06 Tables 10 to 20 (R210). -/
def regsFRM0 : List RegDesc :=
  [ ⟨"FRM_TSI_PAGE_CTL", 0x0500000, [],
      [⟨"COPY", 11, 8, .w1s, 0, .any⟩,
       ⟨"SWAP", 3, 0, .w1s, 0, .any⟩]⟩,
    ⟨"FRM_TSI_PAGE_STATUS", 0x0500004, [],
      [⟨"REFUSED", 27, 24, .w1c, 0, .any⟩,
       ⟨"DONE", 19, 16, .w1c, 0, .any⟩,
       ⟨"ACTIVE", 11, 8, .ro, 0, .any⟩,
       ⟨"COPYING", 7, 4, .ro, 0, .any⟩,
       ⟨"PEND", 3, 0, .ro, 0, .any⟩]⟩,
    ⟨"FRM_CM_REFUSED", 0x0500008, [],
      [⟨"WRITES", 31, 0, .rc, 0, .any⟩]⟩,
    ⟨"FRM_INT_STATUS", 0x0500010, [],
      [⟨"FLOW_EVT", 5, 5, .w1c, 0, .any⟩,
       ⟨"APS_CHG", 4, 4, .w1c, 0, .any⟩,
       ⟨"ALIGN_B", 3, 3, .w1c, 0, .any⟩,
       ⟨"ALIGN_A", 2, 2, .w1c, 0, .any⟩,
       ⟨"SWAP_REFUSED", 1, 1, .w1c, 0, .any⟩,
       ⟨"SWAP_DONE", 0, 0, .w1c, 0, .any⟩]⟩,
    ⟨"FRM_INT_EN", 0x0500014, [],
      [⟨"EN", 5, 0, .rw, 0, .any⟩]⟩,
    ⟨"FRM_FLOW_EVT_SUM", 0x0500100, [(40,0x4)],
      [⟨"FLOWS", 31, 0, .ro, 0, .any⟩]⟩,
    ⟨"FRM_x_OTU_CTL", 0x0501000, [(2,0x1000)],
      [⟨"N", 21, 16, .rws, 32, .clamp 1 32⟩,
       ⟨"N_OUT", 15, 12, .rws, 5, .clamp 2 15⟩,
       ⟨"N_IN", 10, 8, .rws, 2, .clamp 1 4⟩,
       ⟨"FAS_LEN", 4, 4, .rws, 0, .any⟩,
       ⟨"TX_EN", 1, 1, .rws, 0, .any⟩,
       ⟨"RX_EN", 0, 0, .rws, 0, .any⟩]⟩,
    ⟨"FRM_x_OTU_STATUS", 0x0501004, [(2,0x1000)],
      [⟨"CANDS", 20, 16, .ro, 0, .any⟩,
       ⟨"N_ACT", 13, 8, .ro, 0, .any⟩,
       ⟨"LOM", 6, 6, .ro, 0, .any⟩,
       ⟨"LOF", 5, 5, .ro, 0, .any⟩,
       ⟨"OOM", 4, 4, .ro, 0, .any⟩,
       ⟨"STATE", 2, 0, .ro, 0, .any⟩]⟩,
    ⟨"FRM_x_ALIGN_CNT", 0x0501008, [(2,0x1000)],
      [⟨"CAND_OVF", 31, 20, .rc, 0, .any⟩,
       ⟨"REVOKE", 19, 10, .rc, 0, .any⟩,
       ⟨"OOF", 9, 0, .rc, 0, .any⟩]⟩,
    ⟨"FRM_x_SM_CTL", 0x050100C, [(2,0x1000)],
      [⟨"BDI_EN", 8, 8, .rws, 1, .any⟩,
       ⟨"TIM_ACT", 4, 4, .rws, 0, .any⟩,
       ⟨"TIM_MODE", 1, 0, .rws, 0, .any⟩]⟩,
    ⟨"FRM_x_SM_STATUS", 0x0501010, [(2,0x1000)],
      [⟨"MSIM", 6, 6, .ro, 0, .any⟩,
       ⟨"PLM", 5, 5, .ro, 0, .any⟩,
       ⟨"IAE", 4, 4, .ro, 0, .any⟩,
       ⟨"BIAE", 3, 3, .ro, 0, .any⟩,
       ⟨"BDI", 2, 2, .ro, 0, .any⟩,
       ⟨"TIM", 1, 1, .ro, 0, .any⟩,
       ⟨"TTI_NEW", 0, 0, .w1c, 0, .any⟩]⟩,
    ⟨"FRM_x_SM_BIP_CNT", 0x0501014, [(2,0x1000)],
      [⟨"ERRORS", 31, 0, .rc, 0, .any⟩]⟩,
    ⟨"FRM_x_SM_BEI_CNT", 0x0501018, [(2,0x1000)],
      [⟨"ERRORS", 31, 0, .rc, 0, .any⟩]⟩,
    ⟨"FRM_x_PM_BIP_CNT", 0x050101C, [(2,0x1000)],
      [⟨"ERRORS", 31, 0, .rc, 0, .any⟩]⟩,
    ⟨"FRM_x_PM_BEI_CNT", 0x0501020, [(2,0x1000)],
      [⟨"ERRORS", 31, 0, .rc, 0, .any⟩]⟩,
    ⟨"FRM_x_SLICE_FAS_CNT", 0x0501024, [(2,0x1000)],
      [⟨"FRAMES", 31, 0, .rc, 0, .any⟩]⟩,
    ⟨"FRM_x_TTI_TX", 0x0501040, [(2,0x1000), (16,0x4)],
      [⟨"BYTES", 31, 0, .rws, 0, .any⟩]⟩,
    ⟨"FRM_x_TTI_EXP", 0x0501080, [(2,0x1000), (16,0x4)],
      [⟨"BYTES", 31, 0, .rws, 0, .any⟩]⟩,
    ⟨"FRM_x_TTI_RX", 0x05010C0, [(2,0x1000), (16,0x4)],
      [⟨"BYTES", 31, 0, .ro, 0, .any⟩]⟩,
    ⟨"FRM_TSI_SBY", 0x0510000, [(4,0x1000), (640,0x4)],
      [⟨"VALID", 31, 31, .rw, 0, .special⟩,
       ⟨"FLOW", 10, 0, .rw, 0, .special⟩]⟩,
    ⟨"FRM_TSI_ACT", 0x0520000, [(4,0x1000), (640,0x4)],
      [⟨"VALID", 31, 31, .ro, 0, .any⟩,
       ⟨"FLOW", 10, 0, .ro, 0, .any⟩]⟩,
    ⟨"FRM_FLOW_CTL", 0x0540000, [(1280,0x40)],
      [⟨"PT_TX", 31, 24, .rws, 0, .any⟩,
       ⟨"PT_EXP", 23, 16, .rws, 0, .any⟩,
       ⟨"APS_N", 14, 12, .rws, 3, .clamp 2 7⟩,
       ⟨"APS_LEVEL", 10, 8, .rws, 0, .clamp 0 6⟩,
       ⟨"FORCE", 7, 6, .rws, 0, .any⟩,
       ⟨"CLIENT", 5, 0, .rws, 63, .any⟩]⟩,
    ⟨"FRM_FLOW_STATUS", 0x0540004, [(1280,0x40)],
      [⟨"MAP_ERR", 12, 12, .ro, 0, .any⟩,
       ⟨"INCOMPLETE", 11, 11, .ro, 0, .any⟩,
       ⟨"BDI", 10, 10, .ro, 0, .any⟩,
       ⟨"PLM", 9, 9, .ro, 0, .any⟩,
       ⟨"OCI", 8, 8, .ro, 0, .any⟩,
       ⟨"LCK", 7, 7, .ro, 0, .any⟩,
       ⟨"AIS", 6, 6, .ro, 0, .any⟩,
       ⟨"LOM", 5, 5, .ro, 0, .any⟩,
       ⟨"LOF", 4, 4, .ro, 0, .any⟩,
       ⟨"OOM", 3, 3, .ro, 0, .any⟩,
       ⟨"ALIGN", 2, 0, .ro, 0, .any⟩]⟩,
    ⟨"FRM_FLOW_APS_RX", 0x0540008, [(1280,0x40)],
      [⟨"VALUE", 31, 0, .ro, 0, .any⟩]⟩]

/-- Registers of block FRM, part 1: 06 Tables 10 to 20 (R210). -/
def regsFRM1 : List RegDesc :=
  [ ⟨"FRM_FLOW_APS_TX", 0x054000C, [(1280,0x40)],
      [⟨"VALUE", 31, 0, .rws, 0, .any⟩]⟩,
    ⟨"FRM_FLOW_BIP_CNT", 0x0540010, [(1280,0x40)],
      [⟨"ERRORS", 31, 0, .rc, 0, .any⟩]⟩,
    ⟨"FRM_FLOW_BEI_CNT", 0x0540014, [(1280,0x40)],
      [⟨"ERRORS", 31, 0, .rc, 0, .any⟩]⟩,
    ⟨"FRM_FLOW_MAP_CNT", 0x0540018, [(1280,0x40)],
      [⟨"ERRORS", 31, 0, .rc, 0, .any⟩]⟩,
    ⟨"FRM_FLOW_EVT", 0x054001C, [(1280,0x40)],
      [⟨"STAT_CHG", 3, 3, .w1c, 0, .any⟩,
       ⟨"MAP_ERR", 2, 2, .w1c, 0, .any⟩,
       ⟨"ALIGN_LOSS", 1, 1, .w1c, 0, .any⟩,
       ⟨"APS_CHG", 0, 0, .w1c, 0, .any⟩]⟩]

/-- All registers of block FRM: 06 Tables 10 to 20 (R210). -/
def regsFRM : List RegDesc := regsFRM0 ++ regsFRM1

/-- Registers of block CRY, part 0: 07 Tables 9 to 13 (R234). -/
def regsCRY0 : List RegDesc :=
  [ ⟨"CRY_STATUS", 0x0600000, [],
      [⟨"E", 24, 16, .ro, 0, .any⟩,
       ⟨"DRBG_OK", 15, 15, .ro, 0, .any⟩,
       ⟨"CORES_BUSY", 5, 0, .ro, 0, .any⟩]⟩,
    ⟨"CRY_UTIL", 0x0600004, [],
      [⟨"JOB", 25, 16, .ro, 0, .any⟩,
       ⟨"LINE", 9, 0, .ro, 0, .any⟩]⟩,
    ⟨"CRY_INT_STATUS", 0x0600010, [],
      [⟨"SEL_DONE", 2, 2, .w1c, 0, .any⟩,
       ⟨"REJECT", 1, 1, .w1c, 0, .any⟩,
       ⟨"KEY_STATE", 0, 0, .w1c, 0, .any⟩]⟩,
    ⟨"CRY_INT_EN", 0x0600014, [],
      [⟨"EN", 2, 0, .rw, 0, .any⟩]⟩,
    ⟨"CRY_JOBQ_CTL", 0x0600020, [(4,0x4)],
      [⟨"EN", 31, 31, .rw, 0, .any⟩,
       ⟨"QUEUE", 15, 0, .rw, 0, .any⟩]⟩,
    ⟨"CRY_JOB_CNT", 0x0600030, [],
      [⟨"JOBS", 31, 0, .rc, 0, .any⟩]⟩,
    ⟨"CRY_JOB_ERR_CNT", 0x0600034, [],
      [⟨"JOBS", 31, 0, .rc, 0, .any⟩]⟩,
    ⟨"CRY_KS_STATE", 0x0610000, [(512,0x10)],
      [⟨"FLOW", 26, 16, .ro, 2047, .any⟩,
       ⟨"WARN", 9, 9, .ro, 0, .any⟩,
       ⟨"ROLE", 8, 8, .ro, 0, .any⟩,
       ⟨"RX_ACT", 5, 5, .ro, 0, .any⟩,
       ⟨"TX_ACT", 4, 4, .ro, 0, .any⟩,
       ⟨"STATE", 1, 0, .ro, 0, .any⟩]⟩,
    ⟨"CRY_KS_CNT_LO", 0x0610004, [(512,0x10)],
      [⟨"COUNT", 31, 0, .ro, 0, .any⟩]⟩,
    ⟨"CRY_KS_CNT_HI", 0x0610008, [(512,0x10)],
      [⟨"COUNT", 16, 0, .ro, 0, .any⟩]⟩,
    ⟨"CRY_FLOW_CTL", 0x0640000, [(1280,0x20)],
      [⟨"RX_KI_BASE", 24, 16, .rws, 0, .even⟩,
       ⟨"ROLE_CHK", 12, 12, .rws, 1, .any⟩,
       ⟨"FAIL_ACT", 8, 8, .rws, 0, .any⟩,
       ⟨"SIZE", 5, 4, .rws, 2, .any⟩,
       ⟨"TX_SEL", 0, 0, .rws, 0, .any⟩]⟩,
    ⟨"CRY_FLOW_STATUS", 0x0640004, [(1280,0x20)],
      [⟨"ENC", 31, 31, .ro, 0, .any⟩,
       ⟨"E_IDX", 23, 16, .ro, 0, .any⟩,
       ⟨"RX_LCK", 8, 8, .ro, 0, .any⟩,
       ⟨"TX_LCK", 7, 7, .ro, 0, .any⟩,
       ⟨"RX_SLOT", 5, 4, .ro, 2, .any⟩,
       ⟨"TX_SLOT", 1, 0, .ro, 2, .any⟩]⟩,
    ⟨"CRY_FLOW_LAT", 0x0640008, [(1280,0x20)],
      [⟨"DEC", 31, 16, .ro, 0, .any⟩,
       ⟨"ENC", 15, 0, .ro, 0, .any⟩]⟩,
    ⟨"CRY_FLOW_AUTH_CNT", 0x064000C, [(1280,0x20)],
      [⟨"BLOCKS", 31, 0, .rc, 0, .any⟩]⟩,
    ⟨"CRY_FLOW_REJ_CNT", 0x0640010, [(1280,0x20)],
      [⟨"HDR", 31, 24, .rc, 0, .any⟩,
       ⟨"KI", 23, 16, .rc, 0, .any⟩,
       ⟨"ROLE", 15, 8, .rc, 0, .any⟩,
       ⟨"REPLAY", 7, 0, .rc, 0, .any⟩]⟩]

/-- All registers of block CRY: 07 Tables 9 to 13 (R234). -/
def regsCRY : List RegDesc := regsCRY0

/-- Registers of block MRG, part 0: 08 Tables 5 to 7 (R253). -/
def regsMRG0 : List RegDesc :=
  [ ⟨"MRG_STATUS", 0x0700000, [],
      [⟨"HB_B", 17, 17, .ro, 0, .any⟩,
       ⟨"HB_A", 16, 16, .ro, 0, .any⟩,
       ⟨"SLOTS", 7, 0, .ro, 0, .any⟩]⟩,
    ⟨"MRG_HB_CTL", 0x0700004, [],
      [⟨"HB_LOSS", 19, 16, .rws, 3, .clamp 1 15⟩,
       ⟨"PARTNER_B", 15, 8, .rws, 255, .any⟩,
       ⟨"PARTNER_A", 7, 0, .rws, 255, .any⟩]⟩,
    ⟨"MRG_INT_STATUS", 0x0700010, [],
      [⟨"FLOW_EVT", 1, 1, .w1c, 0, .any⟩,
       ⟨"HB_CHG", 0, 0, .w1c, 0, .any⟩]⟩,
    ⟨"MRG_INT_EN", 0x0700014, [],
      [⟨"EN", 1, 0, .rw, 0, .any⟩]⟩,
    ⟨"MRG_FLOW_EVT_SUM", 0x0700100, [(40,0x4)],
      [⟨"FLOWS", 31, 0, .ro, 0, .any⟩]⟩,
    ⟨"MRG_FLOW_CTL", 0x0740000, [(1280,0x40)],
      [⟨"REALIGN", 31, 31, .w1s, 0, .any⟩,
       ⟨"FORCE_PATH", 5, 4, .rws, 0, .exceeds 2 0⟩,
       ⟨"MODE", 0, 0, .rws, 0, .any⟩]⟩,
    ⟨"MRG_FLOW_DELAY", 0x0740004, [(1280,0x40)],
      [⟨"DELAY", 13, 0, .rws, 10000, .clamp 0 10000⟩]⟩,
    ⟨"MRG_FLOW_STATUS", 0x0740008, [(1280,0x40)],
      [⟨"ANCHORED", 31, 31, .ro, 0, .any⟩,
       ⟨"SERVING", 30, 30, .ro, 0, .any⟩,
       ⟨"CLASS_P", 15, 14, .ro, 0, .any⟩,
       ⟨"CAUSE_P", 13, 12, .ro, 0, .any⟩,
       ⟨"STATE_P", 9, 8, .ro, 0, .any⟩,
       ⟨"CLASS_W", 7, 6, .ro, 0, .any⟩,
       ⟨"CAUSE_W", 5, 4, .ro, 0, .any⟩,
       ⟨"STATE_W", 1, 0, .ro, 0, .any⟩]⟩,
    ⟨"MRG_FLOW_SKEW", 0x074000C, [(1280,0x40)],
      [⟨"TICKS", 31, 0, .ro, 0, .any⟩]⟩,
    ⟨"MRG_FLOW_DMAX", 0x0740010, [(1280,0x40)],
      [⟨"DMAX", 13, 0, .ro, 0, .any⟩]⟩,
    ⟨"MRG_FLOW_QUEUE", 0x0740014, [(1280,0x40)],
      [⟨"EN", 31, 31, .rws, 0, .any⟩,
       ⟨"QUEUE", 15, 0, .rws, 0, .any⟩]⟩,
    ⟨"MRG_FLOW_MISS_CNT", 0x0740018, [(1280,0x40)],
      [⟨"SLOTS", 31, 0, .rc, 0, .any⟩]⟩,
    ⟨"MRG_FLOW_INV_CNT", 0x074001C, [(1280,0x40)],
      [⟨"P", 31, 16, .rc, 0, .any⟩,
       ⟨"W", 15, 0, .rc, 0, .any⟩]⟩,
    ⟨"MRG_FLOW_EVT", 0x0740020, [(1280,0x40)],
      [⟨"ANCHOR", 5, 5, .w1c, 0, .any⟩,
       ⟨"MISS", 4, 4, .w1c, 0, .any⟩,
       ⟨"P_RESTORE", 3, 3, .w1c, 0, .any⟩,
       ⟨"W_RESTORE", 2, 2, .w1c, 0, .any⟩,
       ⟨"P_FAIL", 1, 1, .w1c, 0, .any⟩,
       ⟨"W_FAIL", 0, 0, .w1c, 0, .any⟩]⟩,
    ⟨"MRG_FLOW_TXSQ", 0x0740024, [(1280,0x40)],
      [⟨"SQ", 31, 0, .ro, 0, .any⟩]⟩,
    ⟨"MRG_FLOW_OUTSQ", 0x0740028, [(1280,0x40)],
      [⟨"SQ", 31, 0, .ro, 0, .any⟩]⟩]

/-- All registers of block MRG: 08 Tables 5 to 7 (R253). -/
def regsMRG : List RegDesc := regsMRG0

/-- Registers of block HST, part 0: 09 Tables 9 to 14 (R286). -/
def regsHST0 : List RegDesc :=
  [ ⟨"HST_OCTET_CTL", 0x0800000, [(6,0x4)],
      [⟨"CLK_LANE", 6, 4, .rw, 0, .any⟩,
       ⟨"RATE", 1, 1, .rw, 0, .any⟩,
       ⟨"EN", 0, 0, .rw, 0, .any⟩]⟩,
    ⟨"HST_OCTET_STATUS", 0x0800020, [],
      [⟨"LOCK", 5, 0, .ro, 0, .any⟩]⟩,
    ⟨"HST_INT_STATUS", 0x0800030, [],
      [⟨"PARTNER_CHG", 3, 3, .w1c, 0, .any⟩,
       ⟨"CLIENT_CHG", 2, 2, .w1c, 0, .any⟩,
       ⟨"LANE_DOWN", 1, 1, .w1c, 0, .any⟩,
       ⟨"LANE_UP", 0, 0, .w1c, 0, .any⟩]⟩,
    ⟨"HST_INT_EN", 0x0800034, [],
      [⟨"EN", 3, 0, .rw, 0, .any⟩]⟩,
    ⟨"HST_TRAIN_CTL", 0x0800040, [],
      [⟨"RETRY_H", 25, 16, .rw, 100, .clamp 1 1023⟩,
       ⟨"TRAIN_MAX", 9, 0, .rw, 100, .clamp 1 1023⟩]⟩,
    ⟨"HST_HELLO_CTL", 0x0800044, [],
      [⟨"HELLO_LOSS", 19, 16, .rws, 4, .clamp 1 15⟩,
       ⟨"HELLO_INT", 9, 0, .rws, 10, .clamp 1 1000⟩]⟩,
    ⟨"HST_LANE_CTL", 0x0810000, [(48,0x100)],
      [⟨"RESTART", 31, 31, .w1s, 0, .any⟩,
       ⟨"GROUP", 19, 16, .rws, 0, .any⟩,
       ⟨"RX_INV", 11, 11, .rw, 0, .any⟩,
       ⟨"TX_INV", 10, 10, .rw, 0, .any⟩,
       ⟨"RX_PRECODE", 9, 9, .rw, 0, .any⟩,
       ⟨"TX_PRECODE", 8, 8, .rw, 0, .any⟩,
       ⟨"ROLE", 1, 0, .rw, 0, .exceeds 2 0⟩]⟩,
    ⟨"HST_LANE_STATUS", 0x0810004, [(48,0x100)],
      [⟨"SNR", 31, 16, .ro, 0, .any⟩,
       ⟨"FIR_SCALED", 11, 11, .ro, 0, .any⟩,
       ⟨"FIR_REFUSED", 10, 10, .w1c, 0, .any⟩,
       ⟨"PRECODE_ACT", 9, 8, .ro, 0, .any⟩,
       ⟨"PRBS_LOCK", 7, 7, .ro, 0, .any⟩,
       ⟨"CLAIMED", 6, 6, .ro, 0, .any⟩,
       ⟨"SD", 5, 5, .ro, 0, .any⟩,
       ⟨"STATE", 2, 0, .ro, 0, .any⟩]⟩,
    ⟨"HST_LANE_RX_EQ", 0x0810008, [(48,0x100)],
      [⟨"FFE_MAIN", 20, 16, .rw, 8, .special⟩,
       ⟨"FREEZE", 11, 11, .rw, 0, .any⟩,
       ⟨"DFE_ADAPT", 10, 10, .rw, 1, .any⟩,
       ⟨"FFE_ADAPT", 9, 9, .rw, 1, .any⟩,
       ⟨"CTLE_ADAPT", 8, 8, .rw, 1, .any⟩,
       ⟨"CTLE", 5, 0, .rw, 16, .clamp 0 32⟩]⟩,
    ⟨"HST_LANE_TX_FIR0", 0x0810010, [(48,0x100)],
      [⟨"C0", 31, 24, .rw, 64, .special⟩,
       ⟨"CM1", 23, 16, .rw, 0, .special⟩,
       ⟨"CM2", 15, 8, .rw, 0, .special⟩,
       ⟨"CM3", 7, 0, .rw, 0, .special⟩]⟩,
    ⟨"HST_LANE_TX_FIR1", 0x0810014, [(48,0x100)],
      [⟨"CP2", 15, 8, .rw, 0, .special⟩,
       ⟨"CP1", 7, 0, .rw, 0, .special⟩]⟩,
    ⟨"HST_LANE_PRBS_CTL", 0x0810018, [(48,0x100)],
      [⟨"CNT_CLR", 31, 31, .w1s, 0, .any⟩,
       ⟨"CHK_INV", 9, 9, .rw, 0, .any⟩,
       ⟨"CHK_EN", 8, 8, .rw, 0, .any⟩,
       ⟨"CHK_PAT", 7, 5, .rw, 3, .exceeds 4 3⟩,
       ⟨"GEN_EN", 4, 4, .rw, 0, .any⟩,
       ⟨"GEN_PAT", 2, 0, .rw, 3, .exceeds 4 3⟩]⟩,
    ⟨"HST_LANE_BITS_LO", 0x0810020, [(48,0x100)],
      [⟨"COUNT", 31, 0, .ro, 0, .any⟩]⟩,
    ⟨"HST_LANE_BITS_HI", 0x0810024, [(48,0x100)],
      [⟨"COUNT", 15, 0, .ro, 0, .any⟩]⟩,
    ⟨"HST_LANE_ERRS_LO", 0x0810028, [(48,0x100)],
      [⟨"COUNT", 31, 0, .ro, 0, .any⟩]⟩,
    ⟨"HST_LANE_ERRS_HI", 0x081002C, [(48,0x100)],
      [⟨"COUNT", 15, 0, .ro, 0, .any⟩]⟩,
    ⟨"HST_LANE_TRAIN_CNT", 0x0810030, [(48,0x100)],
      [⟨"LINK_DOWN", 31, 16, .rc, 0, .any⟩,
       ⟨"ABORT", 15, 0, .rc, 0, .any⟩]⟩,
    ⟨"HST_LANE_DFE", 0x0810040, [(48,0x100), (3,0x4)],
      [⟨"COEF", 15, 0, .ro, 0, .any⟩]⟩,
    ⟨"HST_LANE_FFE", 0x0810080, [(48,0x100), (32,0x4)],
      [⟨"COEF", 15, 0, .ro, 0, .any⟩]⟩,
    ⟨"HST_CLIENT_CTL", 0x0820000, [(48,0x40)],
      [⟨"CNT_CLR", 31, 31, .w1s, 0, .any⟩,
       ⟨"AN_EN", 17, 17, .rw, 0, .any⟩,
       ⟨"LT_EN", 16, 16, .rw, 1, .any⟩,
       ⟨"TYPE", 15, 0, .rw, 0, .any⟩]⟩,
    ⟨"HST_CLIENT_STATUS", 0x0820004, [(48,0x40)],
      [⟨"LANES_UP", 11, 8, .ro, 0, .any⟩,
       ⟨"CFG_ERR", 4, 4, .ro, 0, .any⟩,
       ⟨"FAIL", 3, 3, .ro, 0, .any⟩,
       ⟨"HI_SER", 2, 2, .ro, 0, .any⟩,
       ⟨"RF_RX", 1, 1, .ro, 0, .any⟩,
       ⟨"ALIGN", 0, 0, .ro, 0, .any⟩]⟩,
    ⟨"HST_CLIENT_CW_LO", 0x0820008, [(48,0x40)],
      [⟨"COUNT", 31, 0, .ro, 0, .any⟩]⟩,
    ⟨"HST_CLIENT_CW_HI", 0x082000C, [(48,0x40)],
      [⟨"COUNT", 15, 0, .ro, 0, .any⟩]⟩,
    ⟨"HST_CLIENT_CORR_LO", 0x0820010, [(48,0x40)],
      [⟨"COUNT", 31, 0, .ro, 0, .any⟩]⟩]

/-- Registers of block HST, part 1: 09 Tables 9 to 14 (R286). -/
def regsHST1 : List RegDesc :=
  [ ⟨"HST_CLIENT_CORR_HI", 0x0820014, [(48,0x40)],
      [⟨"COUNT", 15, 0, .ro, 0, .any⟩]⟩,
    ⟨"HST_CLIENT_UNCORR_LO", 0x0820018, [(48,0x40)],
      [⟨"COUNT", 31, 0, .ro, 0, .any⟩]⟩,
    ⟨"HST_CLIENT_UNCORR_HI", 0x082001C, [(48,0x40)],
      [⟨"COUNT", 15, 0, .ro, 0, .any⟩]⟩,
    ⟨"HST_TSU_STATUS", 0x0830000, [(48,0x40)],
      [⟨"PLANE", 31, 24, .ro, 0, .any⟩,
       ⟨"PGROUP", 23, 20, .ro, 0, .any⟩,
       ⟨"PLANES", 19, 16, .ro, 0, .any⟩,
       ⟨"PROLE", 9, 8, .ro, 0, .any⟩,
       ⟨"MISMATCH", 2, 2, .ro, 0, .any⟩,
       ⟨"PARTNER", 1, 1, .ro, 0, .any⟩,
       ⟨"FRAME_LOCK", 0, 0, .ro, 0, .any⟩]⟩,
    ⟨"HST_TSU_PARTNER_LO", 0x0830004, [(48,0x40)],
      [⟨"ID", 31, 0, .ro, 0, .any⟩]⟩,
    ⟨"HST_TSU_PARTNER_HI", 0x0830008, [(48,0x40)],
      [⟨"ID", 31, 0, .ro, 0, .any⟩]⟩,
    ⟨"HST_TSU_ERR_CNT", 0x083000C, [(48,0x40)],
      [⟨"STUFF", 31, 20, .rc, 0, .any⟩,
       ⟨"DROP", 19, 10, .rc, 0, .any⟩,
       ⟨"CRC", 9, 0, .rc, 0, .any⟩]⟩,
    ⟨"HST_TSU_TX_LO", 0x0830010, [(48,0x40)],
      [⟨"FRAMES", 31, 0, .ro, 0, .any⟩]⟩,
    ⟨"HST_TSU_TX_HI", 0x0830014, [(48,0x40)],
      [⟨"FRAMES", 15, 0, .ro, 0, .any⟩]⟩,
    ⟨"HST_TSU_RX_LO", 0x0830018, [(48,0x40)],
      [⟨"FRAMES", 31, 0, .ro, 0, .any⟩]⟩,
    ⟨"HST_TSU_RX_HI", 0x083001C, [(48,0x40)],
      [⟨"FRAMES", 15, 0, .ro, 0, .any⟩]⟩]

/-- All registers of block HST: 09 Tables 9 to 14 (R286). -/
def regsHST : List RegDesc := regsHST0 ++ regsHST1

/-- Registers of block RMS, part 0: 10 Tables 12 to 18 (R325). -/
def regsRMS0 : List RegDesc :=
  [ ⟨"RMS_ADM_LIMIT", 0x0900000, [],
      [⟨"LIMIT", 11, 0, .rws, 3100, .special⟩]⟩,
    ⟨"RMS_TR_CAP", 0x0900004, [],
      [⟨"CAP", 11, 0, .ro, 4095, .any⟩]⟩,
    ⟨"RMS_CLASS_W0", 0x0900008, [],
      [⟨"W0", 7, 0, .rws, 16, .clamp 1 255⟩,
       ⟨"W1", 15, 8, .rws, 16, .clamp 1 255⟩,
       ⟨"W2", 23, 16, .rws, 16, .clamp 1 255⟩,
       ⟨"W3", 31, 24, .rws, 16, .clamp 1 255⟩]⟩,
    ⟨"RMS_CLASS_W1", 0x090000C, [],
      [⟨"W4", 7, 0, .rws, 16, .clamp 1 255⟩,
       ⟨"W5", 15, 8, .rws, 16, .clamp 1 255⟩,
       ⟨"W6", 23, 16, .rws, 16, .clamp 1 255⟩,
       ⟨"W7", 31, 24, .rws, 16, .clamp 1 255⟩]⟩,
    ⟨"RMS_ADM_KIND", 0x0900010, [(5,0x4)],
      [⟨"GRANTED", 27, 16, .ro, 0, .any⟩,
       ⟨"RESERVED", 11, 0, .ro, 0, .any⟩]⟩,
    ⟨"RMS_STATUS", 0x0900100, [],
      [⟨"POOL", 29, 16, .ro, 12288, .any⟩,
       ⟨"FREE", 13, 0, .ro, 12288, .any⟩]⟩,
    ⟨"RMS_INFLIGHT", 0x0900104, [],
      [⟨"PEAK", 28, 16, .rc, 0, .any⟩,
       ⟨"OPS", 12, 0, .ro, 0, .any⟩]⟩,
    ⟨"RMS_INT_STATUS", 0x0900110, [],
      [⟨"ECC", 3, 3, .w1c, 0, .any⟩,
       ⟨"GRP_CHG", 2, 2, .w1c, 0, .any⟩,
       ⟨"ADM_CHG", 1, 1, .w1c, 0, .any⟩,
       ⟨"QUEUE_EVT", 0, 0, .w1c, 0, .any⟩]⟩,
    ⟨"RMS_INT_EN", 0x0900114, [],
      [⟨"EN", 3, 0, .rw, 0, .any⟩]⟩,
    ⟨"RMS_ECC_CNT", 0x0900118, [],
      [⟨"CE", 31, 16, .rc, 0, .any⟩,
       ⟨"UE", 15, 0, .rc, 0, .any⟩]⟩,
    ⟨"RMS_PAGE_CTL", 0x0900120, [],
      [⟨"MAX_OUT", 29, 24, .rw, 32, .clamp 1 32⟩,
       ⟨"RETRY", 19, 16, .rw, 3, .any⟩,
       ⟨"ACK_TMO", 15, 0, .rw, 100, .clamp 1 65535⟩]⟩,
    ⟨"RMS_GRP", 0x0900140, [(16,0x4)],
      [⟨"LOAD", 29, 16, .ro, 0, .any⟩,
       ⟨"CAPACITY", 13, 0, .ro, 0, .any⟩]⟩,
    ⟨"RMS_WIN_CTL", 0x0900180, [(5,0x10)],
      [⟨"QUEUE", 31, 16, .rw, 0, .any⟩,
       ⟨"CLASS", 10, 8, .rw, 7, .any⟩,
       ⟨"MODE", 1, 0, .rw, 0, .exceeds 2 0⟩]⟩,
    ⟨"RMS_WIN_BASE_LO", 0x0900184, [(5,0x10)],
      [⟨"BASE", 31, 0, .rw, 0, .any⟩]⟩,
    ⟨"RMS_WIN_BASE_HI", 0x0900188, [(5,0x10)],
      [⟨"BASE", 31, 0, .rw, 0, .any⟩]⟩,
    ⟨"RMS_WIN_MISS", 0x090018C, [(5,0x10)],
      [⟨"ACCESSES", 31, 0, .rc, 0, .any⟩]⟩,
    ⟨"RMS_QSEL", 0x0900200, [],
      [⟨"QUEUE", 15, 0, .rw, 0, .any⟩]⟩,
    ⟨"RMS_Q_DESC0", 0x0900400, [],
      [⟨"RT", 26, 26, .ro, 0, .any⟩,
       ⟨"CAROUSEL", 25, 25, .ro, 0, .any⟩,
       ⟨"EN", 24, 24, .rws, 0, .any⟩,
       ⟨"POLICY", 17, 16, .ro, 0, .any⟩,
       ⟨"CLASS", 10, 8, .ro, 0, .any⟩,
       ⟨"TYPE", 7, 0, .ro, 0, .any⟩]⟩,
    ⟨"RMS_Q_DESC1", 0x0900404, [],
      [⟨"RESERVE", 31, 16, .ro, 0, .any⟩,
       ⟨"QUOTA", 15, 0, .ro, 0, .any⟩]⟩,
    ⟨"RMS_Q_DESC2", 0x0900408, [],
      [⟨"WM_LO", 31, 16, .rws, 0, .special⟩,
       ⟨"WM_HI", 15, 0, .rws, 0, .special⟩]⟩,
    ⟨"RMS_Q_DESC3", 0x090040C, [],
      [⟨"RATE_R", 31, 16, .ro, 0, .any⟩,
       ⟨"RATE_W", 15, 0, .ro, 0, .any⟩]⟩,
    ⟨"RMS_Q_DESC4", 0x0900410, [],
      [⟨"POST", 31, 16, .rws, 0, .special⟩,
       ⟨"PAGE_RATE", 15, 0, .ro, 0, .any⟩]⟩,
    ⟨"RMS_Q_DESC5", 0x0900414, [],
      [⟨"EXT_BASE", 31, 0, .ro, 0, .any⟩]⟩,
    ⟨"RMS_Q_DESC6", 0x0900418, [],
      [⟨"EXT_QUOTA", 31, 0, .ro, 0, .any⟩]⟩]

/-- Registers of block RMS, part 1: 10 Tables 12 to 18 (R325). -/
def regsRMS1 : List RegDesc :=
  [ ⟨"RMS_Q_DESC7", 0x090041C, [],
      [⟨"PREFETCH", 23, 16, .rws, 0, .any⟩,
       ⟨"MSIX", 15, 8, .rws, 0, .special⟩,
       ⟨"GROUP", 7, 0, .ro, 0, .any⟩]⟩,
    ⟨"RMS_Q_STATE", 0x0900420, [],
      [⟨"EXT_FULL", 6, 6, .ro, 0, .any⟩,
       ⟨"PAGE_HALT", 5, 5, .ro, 0, .any⟩,
       ⟨"TRIG_VALID", 4, 4, .ro, 0, .any⟩,
       ⟨"STATE", 2, 0, .ro, 0, .any⟩]⟩,
    ⟨"RMS_Q_CMD", 0x0900424, [],
      [⟨"RESUME", 3, 3, .w1s, 0, .any⟩,
       ⟨"STOP", 2, 2, .w1s, 0, .any⟩,
       ⟨"TRIGGER", 1, 1, .w1s, 0, .any⟩,
       ⟨"ARM", 0, 0, .w1s, 0, .any⟩]⟩,
    ⟨"RMS_Q_EVT", 0x0900428, [],
      [⟨"DB_ERR", 8, 8, .w1c, 0, .any⟩,
       ⟨"DMA_DONE", 7, 7, .w1c, 0, .any⟩,
       ⟨"PAGE_ERR", 6, 6, .w1c, 0, .any⟩,
       ⟨"TRUNC", 5, 5, .w1c, 0, .any⟩,
       ⟨"STOPPED", 4, 4, .w1c, 0, .any⟩,
       ⟨"TRIGGERED", 3, 3, .w1c, 0, .any⟩,
       ⟨"WM_LO", 2, 2, .w1c, 0, .any⟩,
       ⟨"WM_HI", 1, 1, .w1c, 0, .any⟩,
       ⟨"PAGE_DONE", 0, 0, .w1c, 0, .any⟩]⟩,
    ⟨"RMS_Q_EVT_EN", 0x090042C, [],
      [⟨"EN", 8, 0, .rw, 510, .any⟩]⟩,
    ⟨"RMS_Q_HEAD_LO", 0x0900430, [],
      [⟨"POS", 31, 0, .ro, 0, .any⟩]⟩,
    ⟨"RMS_Q_HEAD_HI", 0x0900434, [],
      [⟨"POS", 31, 0, .ro, 0, .any⟩]⟩,
    ⟨"RMS_Q_CONS_LO", 0x0900438, [],
      [⟨"POS", 31, 0, .ro, 0, .any⟩]⟩,
    ⟨"RMS_Q_CONS_HI", 0x090043C, [],
      [⟨"POS", 31, 0, .ro, 0, .any⟩]⟩,
    ⟨"RMS_Q_TAIL_LO", 0x0900440, [],
      [⟨"POS", 31, 0, .ro, 0, .any⟩]⟩,
    ⟨"RMS_Q_TAIL_HI", 0x0900444, [],
      [⟨"POS", 31, 0, .ro, 0, .any⟩]⟩,
    ⟨"RMS_Q_TRIG_LO", 0x0900448, [],
      [⟨"POS", 31, 0, .ro, 0, .any⟩]⟩,
    ⟨"RMS_Q_TRIG_HI", 0x090044C, [],
      [⟨"POS", 31, 0, .ro, 0, .any⟩]⟩,
    ⟨"RMS_Q_PAGES", 0x0900450, [],
      [⟨"CACHE", 29, 16, .ro, 0, .any⟩,
       ⟨"RES", 13, 0, .ro, 0, .any⟩]⟩,
    ⟨"RMS_Q_EXT", 0x0900454, [],
      [⟨"PAGES", 31, 0, .ro, 0, .any⟩]⟩,
    ⟨"RMS_Q_GRANT", 0x0900458, [],
      [⟨"GRANT_GRP", 31, 16, .ro, 0, .any⟩,
       ⟨"GRANT_HBM", 11, 0, .ro, 0, .any⟩]⟩,
    ⟨"RMS_Q_CNT", 0x090045C, [],
      [⟨"TRUNC", 31, 16, .rc, 0, .any⟩,
       ⟨"DROP", 15, 0, .rc, 0, .any⟩]⟩,
    ⟨"RMS_EVT_SUM", 0x0910000, [(2048,0x4)],
      [⟨"QUEUES", 31, 0, .ro, 0, .any⟩]⟩,
    ⟨"RMS_DMA_CTL", 0x0920000, [(64,0x40)],
      [⟨"QUEUE", 31, 16, .rw, 0, .any⟩,
       ⟨"RING_LOG2", 12, 8, .rw, 8, .clamp 4 16⟩,
       ⟨"DIR", 1, 1, .rw, 0, .any⟩,
       ⟨"EN", 0, 0, .rw, 0, .any⟩]⟩,
    ⟨"RMS_DMA_RING_LO", 0x0920004, [(64,0x40)],
      [⟨"ADDR", 31, 6, .rw, 0, .any⟩]⟩,
    ⟨"RMS_DMA_RING_HI", 0x0920008, [(64,0x40)],
      [⟨"ADDR", 31, 0, .rw, 0, .any⟩]⟩,
    ⟨"RMS_DMA_PROD", 0x092000C, [(64,0x40)],
      [⟨"PROD", 15, 0, .rw, 0, .special⟩]⟩,
    ⟨"RMS_DMA_STATUS", 0x0920010, [(64,0x40)],
      [⟨"CONS", 31, 16, .ro, 0, .any⟩,
       ⟨"ERR", 3, 3, .w1c, 0, .any⟩,
       ⟨"WAIT", 2, 2, .ro, 0, .any⟩,
       ⟨"BUSY", 1, 1, .ro, 0, .any⟩]⟩,
    ⟨"RMS_DMA_DONE_CNT", 0x0920014, [(64,0x40)],
      [⟨"DESCS", 31, 0, .rc, 0, .any⟩]⟩]

/-- Registers of block RMS, part 2: 10 Tables 12 to 18 (R325). -/
def regsRMS2 : List RegDesc :=
  [ ⟨"RMS_PT_A", 0x0940000, [(12288,0x8)],
      [⟨"WORD", 31, 0, .ro, 0, .any⟩]⟩,
    ⟨"RMS_PT_B", 0x0940004, [(12288,0x8)],
      [⟨"WORD", 31, 0, .ro, 0, .any⟩]⟩,
    ⟨"RMS_DB_PROD", 0x0980000, [(65536,0x8)],
      [⟨"N", 23, 0, .wo, 0, .any⟩]⟩,
    ⟨"RMS_DB_CONS", 0x0980004, [(65536,0x8)],
      [⟨"N", 23, 0, .wo, 0, .any⟩]⟩]

/-- All registers of block RMS: 10 Tables 12 to 18 (R325). -/
def regsRMS : List RegDesc := regsRMS0 ++ regsRMS1 ++ regsRMS2

/-- Registers of block PRB, part 0: 11 Tables 8 to 14 (R356). -/
def regsPRB0 : List RegDesc :=
  [ ⟨"PRB_STATUS", 0x0A00000, [],
      [⟨"FAULTED", 22, 16, .ro, 0, .any⟩,
       ⟨"WAITING", 14, 8, .ro, 0, .any⟩,
       ⟨"RUNNING", 6, 0, .ro, 0, .any⟩]⟩,
    ⟨"PRB_RUN_LO", 0x0A00010, [],
      [⟨"ENGINES", 31, 0, .w1s, 0, .any⟩]⟩,
    ⟨"PRB_RUN_HI", 0x0A00014, [],
      [⟨"ENGINES", 31, 0, .w1s, 0, .any⟩]⟩,
    ⟨"PRB_HALT_LO", 0x0A00018, [],
      [⟨"ENGINES", 31, 0, .w1s, 0, .any⟩]⟩,
    ⟨"PRB_HALT_HI", 0x0A0001C, [],
      [⟨"ENGINES", 31, 0, .w1s, 0, .any⟩]⟩,
    ⟨"PRB_INT_STATUS", 0x0A00020, [],
      [⟨"TRIG_IN_FAST", 2, 2, .w1c, 0, .any⟩,
       ⟨"FAULT", 1, 1, .w1c, 0, .any⟩,
       ⟨"SIG", 0, 0, .w1c, 0, .any⟩]⟩,
    ⟨"PRB_INT_EN", 0x0A00024, [],
      [⟨"EN", 2, 0, .rw, 0, .any⟩]⟩,
    ⟨"PRB_SIG_SUM_LO", 0x0A00028, [],
      [⟨"ENGINES", 31, 0, .ro, 0, .any⟩]⟩,
    ⟨"PRB_SIG_SUM_HI", 0x0A0002C, [],
      [⟨"ENGINES", 31, 0, .ro, 0, .any⟩]⟩,
    ⟨"PRB_TRIG_IN_CTL", 0x0A00030, [],
      [⟨"INV", 7, 4, .rw, 0, .any⟩,
       ⟨"EN", 3, 0, .rw, 0, .any⟩]⟩,
    ⟨"PRB_TRIG_IN_STATUS", 0x0A00034, [],
      [⟨"LEVEL", 3, 0, .ro, 0, .any⟩]⟩,
    ⟨"PRB_TRIG_IN_CNT", 0x0A00040, [(4,0x4)],
      [⟨"IGNORED", 31, 16, .rc, 0, .any⟩,
       ⟨"ACCEPTED", 15, 0, .rc, 0, .any⟩]⟩,
    ⟨"PRB_TRIG_OUT_CTL", 0x0A00050, [(4,0x4)],
      [⟨"INV", 31, 31, .rw, 0, .any⟩,
       ⟨"PW", 11, 0, .rw, 16, .clamp 12 4095⟩]⟩,
    ⟨"PRB_LINE_LO", 0x0A00060, [],
      [⟨"LINES", 31, 0, .ro, 0, .any⟩]⟩,
    ⟨"PRB_LINE_HI", 0x0A00064, [],
      [⟨"LINES", 31, 0, .ro, 0, .any⟩]⟩,
    ⟨"PRB_PIN_CHAIN", 0x0A00068, [],
      [⟨"CHAIN", 15, 8, .ro, 0, .any⟩,
       ⟨"PINS", 3, 0, .ro, 0, .any⟩]⟩,
    ⟨"PRB_IMEM_SEL", 0x0A00070, [],
      [⟨"ENGINE", 21, 16, .rw, 0, .any⟩,
       ⟨"WORD", 11, 0, .rw, 0, .any⟩]⟩,
    ⟨"PRB_IMEM_DATA", 0x0A00074, [],
      [⟨"WORD", 31, 0, .ro, 0, .any⟩]⟩,
    ⟨"PRB_CMD_REF_CNT", 0x0A00078, [],
      [⟨"COMMANDS", 31, 0, .rc, 0, .any⟩]⟩,
    ⟨"PRB_EVT_SRC", 0x0A00400, [(512,0x4)],
      [⟨"SRC", 15, 0, .rw, 0, .special⟩]⟩,
    ⟨"PRB_ENG_CTL", 0x0A10000, [(64,0x100)],
      [⟨"STEP", 31, 31, .w1s, 0, .any⟩,
       ⟨"RESTART", 30, 30, .w1s, 0, .any⟩,
       ⟨"AUTORUN", 0, 0, .rw, 1, .any⟩]⟩,
    ⟨"PRB_ENG_STATUS", 0x0A10004, [(64,0x100)],
      [⟨"PC", 28, 16, .ro, 0, .any⟩,
       ⟨"CAUSE", 10, 8, .ro, 0, .any⟩,
       ⟨"STATE", 2, 0, .ro, 0, .any⟩]⟩,
    ⟨"PRB_ENG_EVT", 0x0A10008, [(64,0x100)],
      [⟨"SIG", 7, 0, .w1c, 0, .any⟩]⟩,
    ⟨"PRB_ENG_LATCH", 0x0A1000C, [(64,0x100)],
      [⟨"LATCH", 23, 0, .ro, 0, .any⟩]⟩]

/-- Registers of block PRB, part 1: 11 Tables 8 to 14 (R356). -/
def regsPRB1 : List RegDesc :=
  [ ⟨"PRB_ENG_WORDS", 0x0A10010, [(64,0x100)],
      [⟨"WORDS", 12, 0, .ro, 0, .any⟩]⟩,
    ⟨"PRB_ENG_SEL", 0x0A10040, [(64,0x100), (16,0x4)],
      [⟨"EVENT", 8, 0, .rw, 0, .any⟩]⟩,
    ⟨"PRB_ENG_PARAM", 0x0A10080, [(64,0x100), (8,0x4)],
      [⟨"VALUE", 31, 0, .rw, 0, .any⟩]⟩,
    ⟨"PRB_ENG_OUT", 0x0A100A0, [(64,0x100), (8,0x4)],
      [⟨"VALUE", 31, 0, .ro, 0, .any⟩]⟩,
    ⟨"PRB_ENG_X_LO", 0x0A20000, [(64,0x200), (64,0x8)],
      [⟨"VALUE", 31, 0, .rw, 0, .special⟩]⟩,
    ⟨"PRB_ENG_X_HI", 0x0A20004, [(64,0x200), (64,0x8)],
      [⟨"VALUE", 31, 0, .rw, 0, .special⟩]⟩,
    ⟨"PRB_CNT_LO", 0x0A30000, [(256,0x8)],
      [⟨"COUNT", 31, 0, .rw, 0, .any⟩]⟩,
    ⟨"PRB_CNT_HI", 0x0A30004, [(256,0x8)],
      [⟨"COUNT", 31, 0, .rw, 0, .any⟩]⟩,
    ⟨"PRB_CNT_SRC", 0x0A31000, [(256,0x4)],
      [⟨"EN", 31, 31, .rw, 0, .any⟩,
       ⟨"EVENT", 8, 0, .rw, 0, .any⟩]⟩,
    ⟨"PRB_PM_CTL", 0x0A40000, [(1536,0x100)],
      [⟨"LOAD", 31, 31, .w1s, 0, .any⟩,
       ⟨"HITS_CLR", 30, 30, .w1s, 0, .any⟩,
       ⟨"OFFSET", 27, 12, .rw, 0, .any⟩,
       ⟨"ANCHOR", 2, 2, .rw, 0, .any⟩,
       ⟨"MODE", 1, 1, .rw, 0, .any⟩,
       ⟨"EN", 0, 0, .rw, 0, .any⟩]⟩,
    ⟨"PRB_PM_EVERY", 0x0A40004, [(1536,0x100)],
      [⟨"N", 15, 0, .rw, 1, .clamp 1 65535⟩]⟩,
    ⟨"PRB_PM_HITS_LO", 0x0A40008, [(1536,0x100)],
      [⟨"COUNT", 31, 0, .ro, 0, .any⟩]⟩,
    ⟨"PRB_PM_HITS_HI", 0x0A4000C, [(1536,0x100)],
      [⟨"COUNT", 15, 0, .ro, 0, .any⟩]⟩,
    ⟨"PRB_PM_MASK", 0x0A40040, [(1536,0x100), (16,0x4)],
      [⟨"MASK", 31, 0, .rw, 0, .any⟩]⟩,
    ⟨"PRB_PM_VALUE", 0x0A40080, [(1536,0x100), (16,0x4)],
      [⟨"VALUE", 31, 0, .rw, 0, .any⟩]⟩]

/-- All registers of block PRB: 11 Tables 8 to 14 (R356). -/
def regsPRB : List RegDesc := regsPRB0 ++ regsPRB1

/-- Registers of block CAP, part 0: 12 Tables 12 to 17 (R394). -/
def regsCAP0 : List RegDesc :=
  [ ⟨"CAP_STATUS", 0x0B00000, [],
      [⟨"TAPS", 31, 24, .ro, 0, .any⟩,
       ⟨"PLAYERS", 23, 16, .ro, 0, .any⟩,
       ⟨"BANKS", 11, 0, .ro, 0, .any⟩]⟩,
    ⟨"CAP_SYNC", 0x0B00004, [],
      [⟨"RESET", 23, 16, .w1s, 0, .any⟩,
       ⟨"EVENTS", 15, 0, .rc, 0, .any⟩]⟩,
    ⟨"CAP_INT_STATUS", 0x0B00010, [],
      [⟨"SEG_REFUSED", 4, 4, .w1c, 0, .any⟩,
       ⟨"UNDERRUN", 3, 3, .w1c, 0, .any⟩,
       ⟨"PLAY_END", 2, 2, .w1c, 0, .any⟩,
       ⟨"TRUNC", 1, 1, .w1c, 0, .any⟩,
       ⟨"BUF_DONE", 0, 0, .w1c, 0, .any⟩]⟩,
    ⟨"CAP_INT_EN", 0x0B00014, [],
      [⟨"EN", 4, 0, .rw, 0, .any⟩]⟩,
    ⟨"CAP_SEG_REFUSED", 0x0B00018, [],
      [⟨"WRITES", 31, 0, .rc, 0, .any⟩]⟩,
    ⟨"CAP_SBUF_CTL", 0x0B00100, [(16,0x10)],
      [⟨"EN", 31, 31, .rws, 0, .any⟩,
       ⟨"RING", 30, 30, .rws, 0, .any⟩,
       ⟨"BANKS", 19, 16, .rws, 1, .clamp 1 12⟩,
       ⟨"FIRST", 3, 0, .rws, 0, .clamp 0 11⟩]⟩,
    ⟨"CAP_SBUF_POST", 0x0B00104, [(16,0x10)],
      [⟨"POST", 27, 6, .rws, 0, .any⟩]⟩,
    ⟨"CAP_SBUF_STATUS", 0x0B00108, [(16,0x10)],
      [⟨"OWNER", 31, 24, .ro, 255, .any⟩,
       ⟨"CFG_ERR", 2, 2, .ro, 0, .any⟩,
       ⟨"STATE", 1, 0, .ro, 0, .any⟩]⟩,
    ⟨"CAP_SBUF_FILL", 0x0B0010C, [(16,0x10)],
      [⟨"BYTES", 27, 0, .ro, 0, .any⟩]⟩,
    ⟨"CAP_DEC_CTL", 0x0B00200, [(8,0x10)],
      [⟨"SYNC_EN", 31, 31, .rws, 1, .any⟩,
       ⟨"NCO_EN", 4, 4, .rws, 0, .any⟩,
       ⟨"K", 3, 0, .rws, 1, .clamp 1 10⟩]⟩,
    ⟨"CAP_DEC_NCO", 0x0B00204, [(8,0x10)],
      [⟨"FREQ", 31, 0, .rws, 0, .any⟩]⟩,
    ⟨"CAP_DEC_STATUS", 0x0B00208, [(8,0x10)],
      [⟨"TAP", 31, 24, .ro, 255, .any⟩,
       ⟨"UNSET_LEFT", 15, 8, .ro, 0, .any⟩,
       ⟨"K_ACT", 7, 4, .ro, 1, .any⟩,
       ⟨"SAT", 0, 0, .w1c, 0, .any⟩]⟩,
    ⟨"CAP_TAP_CTL", 0x0B10000, [(96,0x40)],
      [⟨"EN", 31, 31, .rws, 0, .any⟩,
       ⟨"ALIGN", 30, 30, .rws, 0, .any⟩,
       ⟨"DKIND", 29, 29, .rws, 0, .any⟩,
       ⟨"LOOKBACK", 23, 16, .rws, 48, .clamp 0 64⟩,
       ⟨"DEC_EN", 15, 15, .rws, 0, .any⟩,
       ⟨"DEC", 14, 12, .rws, 0, .any⟩,
       ⟨"FLUSH", 11, 8, .rws, 10, .any⟩,
       ⟨"RECLEN", 6, 0, .rws, 64, .clamp 1 64⟩]⟩,
    ⟨"CAP_TAP_SEL", 0x0B10004, [(96,0x40)],
      [⟨"SLOT", 15, 15, .rws, 0, .any⟩,
       ⟨"SEL", 10, 0, .rws, 0, .any⟩]⟩,
    ⟨"CAP_TAP_STATUS", 0x0B10008, [(96,0x40)],
      [⟨"DEST", 31, 16, .ro, 0, .any⟩,
       ⟨"GAP_PEND", 5, 5, .ro, 0, .any⟩,
       ⟨"SRC_OK", 4, 4, .ro, 0, .any⟩,
       ⟨"STATE", 1, 0, .ro, 0, .any⟩]⟩,
    ⟨"CAP_TAP_LAT", 0x0B1000C, [(96,0x40)],
      [⟨"LAT_VALID", 31, 31, .ro, 0, .any⟩,
       ⟨"DIR", 30, 30, .ro, 0, .any⟩,
       ⟨"TICKS", 19, 0, .ro, 0, .any⟩]⟩,
    ⟨"CAP_TAP_SEQ_LO", 0x0B10010, [(96,0x40)],
      [⟨"SEQ", 31, 0, .ro, 0, .any⟩]⟩,
    ⟨"CAP_TAP_SEQ_HI", 0x0B10014, [(96,0x40)],
      [⟨"SEQ", 31, 0, .ro, 0, .any⟩]⟩,
    ⟨"CAP_TAP_CNT", 0x0B10018, [(96,0x40)],
      [⟨"TRUNC", 31, 16, .rc, 0, .any⟩,
       ⟨"REFUSED", 15, 0, .rc, 0, .any⟩]⟩,
    ⟨"CAP_PLY_CTL", 0x0B20000, [(64,0x20)],
      [⟨"OUT", 31, 30, .rws, 0, .any⟩,
       ⟨"SYNC_START", 29, 29, .rws, 0, .any⟩,
       ⟨"INST", 26, 16, .rws, 0, .any⟩]⟩,
    ⟨"CAP_PLY_STATUS", 0x0B20004, [(64,0x20)],
      [⟨"QUEUED", 31, 21, .ro, 2047, .any⟩,
       ⟨"CUR", 20, 10, .ro, 2047, .any⟩,
       ⟨"STATE", 1, 0, .ro, 0, .any⟩]⟩,
    ⟨"CAP_PLY_CNT", 0x0B20008, [(64,0x20)],
      [⟨"UNDERRUN", 31, 16, .rc, 0, .any⟩,
       ⟨"PASSES", 15, 0, .rc, 0, .any⟩]⟩,
    ⟨"CAP_SEG0", 0x0B30000, [(1024,0x20)],
      [⟨"SRC", 31, 30, .rw, 0, .any⟩,
       ⟨"NEXT", 26, 16, .rw, 2047, .any⟩,
       ⟨"BUF", 15, 0, .rw, 0, .any⟩]⟩,
    ⟨"CAP_SEG1", 0x0B30004, [(1024,0x20)],
      [⟨"START", 31, 0, .rw, 0, .any⟩]⟩]

/-- Registers of block CAP, part 1: 12 Tables 12 to 17 (R394). -/
def regsCAP1 : List RegDesc :=
  [ ⟨"CAP_SEG2", 0x0B30008, [(1024,0x20)],
      [⟨"START", 15, 0, .rw, 0, .any⟩]⟩,
    ⟨"CAP_SEG3", 0x0B3000C, [(1024,0x20)],
      [⟨"LEN", 31, 0, .rw, 0, .any⟩]⟩,
    ⟨"CAP_SEG4", 0x0B30010, [(1024,0x20)],
      [⟨"LOOPS", 31, 16, .rw, 1, .any⟩,
       ⟨"CONSUME", 0, 0, .rw, 0, .any⟩]⟩]

/-- All registers of block CAP: 12 Tables 12 to 17 (R394). -/
def regsCAP : List RegDesc := regsCAP0 ++ regsCAP1

/-- Registers of block CLP, part 0: 13 Tables 6 to 10 (R421). -/
def regsCLP0 : List RegDesc :=
  [ ⟨"CLP_x_CTL", 0x0C00000, [(2,0x80000)],
      [⟨"DEPTH", 23, 16, .rws, 60, .clamp 40 80⟩,
       ⟨"GAP", 11, 8, .rws, 8, .clamp 4 15⟩,
       ⟨"HELLO_EN", 4, 4, .rws, 1, .any⟩,
       ⟨"ECHO_EN", 3, 3, .rws, 1, .any⟩,
       ⟨"RX_EN", 1, 1, .rws, 0, .any⟩,
       ⟨"TX_EN", 0, 0, .rws, 0, .any⟩]⟩,
    ⟨"CLP_x_CODE", 0x0C00004, [(2,0x80000)],
      [⟨"RX_CODE", 26, 16, .rws, 2, .clamp 0 1024⟩,
       ⟨"TX_CODE", 10, 0, .rws, 2, .clamp 0 1024⟩]⟩,
    ⟨"CLP_x_HELLO_CTL", 0x0C00008, [(2,0x80000)],
      [⟨"HELLO_LOSS", 19, 16, .rws, 4, .clamp 1 15⟩,
       ⟨"HELLO_INT", 13, 0, .rws, 250, .clamp 100 10000⟩]⟩,
    ⟨"CLP_x_RX_CTL", 0x0C0000C, [(2,0x80000)],
      [⟨"EQ_RESET", 31, 31, .w1s, 0, .any⟩,
       ⟨"CAP_THR", 23, 16, .rws, 12, .clamp 0 40⟩,
       ⟨"EQ_MU", 11, 8, .rws, 8, .clamp 4 14⟩,
       ⟨"EQ_ADAPT", 0, 0, .rws, 1, .any⟩]⟩,
    ⟨"CLP_x_STATUS", 0x0C00010, [(2,0x80000)],
      [⟨"INV", 25, 25, .ro, 0, .any⟩,
       ⟨"AGC_FROZEN", 24, 24, .ro, 0, .any⟩,
       ⟨"RX_FIFO", 20, 16, .ro, 0, .any⟩,
       ⟨"TX_FIFO", 15, 12, .ro, 0, .any⟩,
       ⟨"TX_STATE", 9, 8, .ro, 0, .any⟩,
       ⟨"RX_STATE", 2, 0, .ro, 0, .any⟩]⟩,
    ⟨"CLP_x_RSSI", 0x0C00014, [(2,0x80000)],
      [⟨"LAST", 31, 16, .ro, 0, .any⟩,
       ⟨"GAIN", 9, 0, .ro, 0, .any⟩]⟩,
    ⟨"CLP_x_ID_LO", 0x0C00018, [(2,0x80000)],
      [⟨"DIGEST", 31, 0, .ro, 0, .any⟩]⟩,
    ⟨"CLP_x_ID_HI", 0x0C0001C, [(2,0x80000)],
      [⟨"DIGEST", 31, 0, .ro, 0, .any⟩]⟩,
    ⟨"CLP_x_INT_STATUS", 0x0C00020, [(2,0x80000)],
      [⟨"TX_DONE", 4, 4, .w1c, 0, .any⟩,
       ⟨"PARTNER_CHG", 3, 3, .w1c, 0, .any⟩,
       ⟨"RX_ERR", 2, 2, .w1c, 0, .any⟩,
       ⟨"RX_HB", 1, 1, .w1c, 0, .any⟩,
       ⟨"RX_PKT", 0, 0, .w1c, 0, .any⟩]⟩,
    ⟨"CLP_x_INT_EN", 0x0C00024, [(2,0x80000)],
      [⟨"EN", 4, 0, .rw, 0, .any⟩]⟩,
    ⟨"CLP_x_CAPS", 0x0C00028, [(2,0x80000)],
      [⟨"CAPS", 31, 0, .rws, 0, .any⟩]⟩,
    ⟨"CLP_x_RX_CNT0", 0x0C00030, [(2,0x80000)],
      [⟨"ACCEPTED", 31, 16, .rc, 0, .any⟩,
       ⟨"CRC_ERR", 15, 0, .rc, 0, .any⟩]⟩,
    ⟨"CLP_x_RX_CNT1", 0x0C00034, [(2,0x80000)],
      [⟨"HDR_ERR", 31, 16, .rc, 0, .any⟩,
       ⟨"SYNC_TMO", 15, 0, .rc, 0, .any⟩]⟩,
    ⟨"CLP_x_RX_CNT2", 0x0C00038, [(2,0x80000)],
      [⟨"CAPTURED", 31, 16, .rc, 0, .any⟩,
       ⟨"LOST", 15, 0, .rc, 0, .any⟩]⟩,
    ⟨"CLP_x_RX_CNT3", 0x0C0003C, [(2,0x80000)],
      [⟨"RESTART", 31, 16, .rc, 0, .any⟩,
       ⟨"FIFO_DROP", 15, 0, .rc, 0, .any⟩]⟩,
    ⟨"CLP_x_TX_CNT", 0x0C00040, [(2,0x80000)],
      [⟨"SENT", 31, 16, .rc, 0, .any⟩,
       ⟨"ABORTED", 15, 8, .rc, 0, .any⟩,
       ⟨"REFUSED", 7, 0, .rc, 0, .any⟩]⟩,
    ⟨"CLP_x_TX_HDR", 0x0C00080, [(2,0x80000)],
      [⟨"TYPE", 15, 12, .rw, 3, .any⟩,
       ⟨"LEN", 6, 0, .rw, 0, .any⟩]⟩,
    ⟨"CLP_x_TX_DATA", 0x0C00084, [(2,0x80000), (16,0x4)],
      [⟨"BYTES", 31, 0, .rw, 0, .any⟩]⟩,
    ⟨"CLP_x_TX_PUSH", 0x0C000C4, [(2,0x80000)],
      [⟨"PUSH", 0, 0, .w1s, 0, .any⟩]⟩,
    ⟨"CLP_x_RX_HDR", 0x0C00100, [(2,0x80000)],
      [⟨"VALID", 31, 31, .ro, 0, .any⟩,
       ⟨"INV", 30, 30, .ro, 0, .any⟩,
       ⟨"PARTNER", 23, 20, .ro, 0, .any⟩,
       ⟨"MATCH", 19, 19, .ro, 0, .any⟩,
       ⟨"TYPE", 15, 12, .ro, 0, .any⟩,
       ⟨"LEN", 6, 0, .ro, 0, .any⟩]⟩,
    ⟨"CLP_x_RX_TS_LO", 0x0C00104, [(2,0x80000)],
      [⟨"NS", 31, 0, .ro, 0, .any⟩]⟩,
    ⟨"CLP_x_RX_TS_MID0", 0x0C00108, [(2,0x80000)],
      [⟨"SEC", 31, 0, .ro, 0, .any⟩]⟩,
    ⟨"CLP_x_RX_TS_HI", 0x0C0010C, [(2,0x80000)],
      [⟨"SEC", 15, 0, .ro, 0, .any⟩]⟩,
    ⟨"CLP_x_RX_POP", 0x0C00110, [(2,0x80000)],
      [⟨"POP", 0, 0, .w1s, 0, .any⟩]⟩]

/-- Registers of block CLP, part 1: 13 Tables 6 to 10 (R421). -/
def regsCLP1 : List RegDesc :=
  [ ⟨"CLP_x_RX_RSSI", 0x0C00114, [(2,0x80000)],
      [⟨"RSSI", 15, 0, .ro, 0, .any⟩]⟩,
    ⟨"CLP_x_RX_DATA", 0x0C00120, [(2,0x80000), (16,0x4)],
      [⟨"BYTES", 31, 0, .ro, 0, .any⟩]⟩,
    ⟨"CLP_x_PT_STATUS", 0x0C00200, [(2,0x80000), (16,0x20)],
      [⟨"VALID", 31, 31, .ro, 0, .any⟩,
       ⟨"SELF", 30, 30, .ro, 0, .any⟩,
       ⟨"PORT", 16, 16, .ro, 0, .any⟩,
       ⟨"INTERVAL", 15, 0, .ro, 0, .any⟩]⟩,
    ⟨"CLP_x_PT_DIGEST_LO", 0x0C00204, [(2,0x80000), (16,0x20)],
      [⟨"DIGEST", 31, 0, .ro, 0, .any⟩]⟩,
    ⟨"CLP_x_PT_DIGEST_HI", 0x0C00208, [(2,0x80000), (16,0x20)],
      [⟨"DIGEST", 31, 0, .ro, 0, .any⟩]⟩,
    ⟨"CLP_x_PT_CAPS", 0x0C0020C, [(2,0x80000), (16,0x20)],
      [⟨"CAPS", 31, 0, .ro, 0, .any⟩]⟩,
    ⟨"CLP_x_PT_HB", 0x0C00210, [(2,0x80000), (16,0x20)],
      [⟨"BEATS", 31, 0, .rc, 0, .any⟩]⟩]

/-- All registers of block CLP: 13 Tables 6 to 10 (R421). -/
def regsCLP : List RegDesc := regsCLP0 ++ regsCLP1

/-- Registers of block TIM, part 0: 14 Tables 6 to 11 (R451). -/
def regsTIM0 : List RegDesc :=
  [ ⟨"TIM_DPLL_CTL", 0x0D00000, [],
      [⟨"BW", 27, 24, .rws, 4, .exceeds 8 8⟩,
       ⟨"HO_AVG", 17, 16, .rws, 1, .any⟩,
       ⟨"REVERTIVE", 8, 8, .rws, 1, .any⟩,
       ⟨"FORCE_IDX", 7, 4, .rws, 0, .clamp 0 11⟩,
       ⟨"MODE", 1, 0, .rws, 0, .any⟩]⟩,
    ⟨"TIM_DPLL_STATUS", 0x0D00004, [],
      [⟨"HO_VALID", 16, 16, .ro, 0, .any⟩,
       ⟨"SEL", 11, 8, .ro, 15, .any⟩,
       ⟨"STATE", 2, 0, .ro, 0, .any⟩]⟩,
    ⟨"TIM_DPLL_PHERR", 0x0D00008, [],
      [⟨"PS", 31, 0, .ro, 0, .any⟩]⟩,
    ⟨"TIM_DPLL_FOFF", 0x0D0000C, [],
      [⟨"FO", 31, 0, .ro, 0, .any⟩]⟩,
    ⟨"TIM_WTR", 0x0D00010, [],
      [⟨"SEC", 11, 0, .rws, 10, .clamp 0 3600⟩]⟩,
    ⟨"TIM_MON_CTL", 0x0D00014, [],
      [⟨"DIS_LIMIT", 23, 16, .rws, 40, .any⟩,
       ⟨"REJECT", 15, 8, .rws, 92, .any⟩,
       ⟨"ACCEPT", 7, 0, .rws, 46, .special⟩]⟩,
    ⟨"TIM_PULL_CTL", 0x0D00018, [],
      [⟨"SLOPE", 9, 0, .rws, 100, .clamp 1 1000⟩]⟩,
    ⟨"TIM_PULL_REMAIN", 0x0D0001C, [],
      [⟨"PS", 31, 0, .ro, 0, .any⟩]⟩,
    ⟨"TIM_SW_STEP", 0x0D00020, [],
      [⟨"PS", 31, 0, .ro, 0, .any⟩]⟩,
    ⟨"TIM_SW_CNT", 0x0D00024, [],
      [⟨"SWITCHES", 31, 16, .rc, 0, .any⟩,
       ⟨"REF_LOSS", 15, 0, .rc, 0, .any⟩]⟩,
    ⟨"TIM_INT_STATUS", 0x0D00030, [],
      [⟨"PTP_TS", 4, 4, .w1c, 0, .any⟩,
       ⟨"SYNC", 3, 3, .w1c, 0, .any⟩,
       ⟨"PULL_DONE", 2, 2, .w1c, 0, .any⟩,
       ⟨"SWITCH", 1, 1, .w1c, 0, .any⟩,
       ⟨"STATE_CHG", 0, 0, .w1c, 0, .any⟩]⟩,
    ⟨"TIM_INT_EN", 0x0D00034, [],
      [⟨"EN", 4, 0, .rw, 0, .any⟩]⟩,
    ⟨"TIM_REF_CTL", 0x0D00100, [(12,0x10)],
      [⟨"PRIO", 3, 0, .rws, 0, .any⟩]⟩,
    ⟨"TIM_REF_STATUS", 0x0D00104, [(12,0x10)],
      [⟨"WTR_LEFT", 31, 16, .ro, 0, .any⟩,
       ⟨"DISAGREE", 5, 5, .ro, 0, .any⟩,
       ⟨"SELECTABLE", 4, 4, .ro, 0, .any⟩,
       ⟨"WTR_RUN", 3, 3, .ro, 0, .any⟩,
       ⟨"QUAL", 2, 2, .ro, 0, .any⟩,
       ⟨"FREQ_OK", 1, 1, .ro, 0, .any⟩,
       ⟨"ACT", 0, 0, .ro, 0, .any⟩]⟩,
    ⟨"TIM_REF_FO", 0x0D00108, [(12,0x10)],
      [⟨"FO", 31, 0, .ro, 0, .any⟩]⟩,
    ⟨"TIM_REF_FREQ", 0x0D0010C, [(2,0x10)],
      [⟨"HZ", 29, 0, .rws, 0x989680, .clamp 8000 1000000000⟩]⟩,
    ⟨"TIM_REF_FREQ_OTHER", 0x0D0012C, [(10,0x10)],
      [⟨"HZ", 29, 0, .ro, 0, .any⟩]⟩,
    ⟨"TIM_TC_LO", 0x0D00200, [],
      [⟨"FRAC", 15, 0, .ro, 0, .any⟩]⟩,
    ⟨"TIM_TC_MID0", 0x0D00204, [],
      [⟨"NS", 31, 0, .ro, 0, .any⟩]⟩,
    ⟨"TIM_TC_MID1", 0x0D00208, [],
      [⟨"SEC", 31, 0, .ro, 0, .any⟩]⟩,
    ⟨"TIM_TC_HI", 0x0D0020C, [],
      [⟨"SEC", 15, 0, .ro, 0, .any⟩]⟩,
    ⟨"TIM_TC_CTL", 0x0D00210, [],
      [⟨"LOAD_SYNC", 1, 1, .w1s, 0, .any⟩,
       ⟨"SET", 0, 0, .w1s, 0, .any⟩]⟩,
    ⟨"TIM_SET_LO", 0x0D00214, [],
      [⟨"FRAC", 15, 0, .rw, 0, .any⟩]⟩,
    ⟨"TIM_SET_MID0", 0x0D00218, [],
      [⟨"NS", 31, 0, .rw, 0, .clamp 0 999999999⟩]⟩]

/-- Registers of block TIM, part 1: 14 Tables 6 to 11 (R451). -/
def regsTIM1 : List RegDesc :=
  [ ⟨"TIM_SET_MID1", 0x0D0021C, [],
      [⟨"SEC", 31, 0, .rw, 0, .any⟩]⟩,
    ⟨"TIM_SET_HI", 0x0D00220, [],
      [⟨"SEC", 15, 0, .rw, 0, .any⟩]⟩,
    ⟨"TIM_STEP_LO", 0x0D00224, [],
      [⟨"STEP", 31, 0, .rw, 0, .any⟩]⟩,
    ⟨"TIM_STEP_HI", 0x0D00228, [],
      [⟨"STEP", 15, 0, .rw, 0, .any⟩]⟩,
    ⟨"TIM_ADDEND_LO", 0x0D0022C, [],
      [⟨"ADDEND", 31, 0, .rws, 0x92492492, .any⟩]⟩,
    ⟨"TIM_ADDEND_HI", 0x0D00230, [],
      [⟨"ADDEND", 15, 0, .rws, 228, .any⟩]⟩,
    ⟨"TIM_PULSE_CTL", 0x0D00240, [],
      [⟨"ALIGN", 31, 31, .w1s, 0, .any⟩,
       ⟨"PW", 27, 16, .rws, 1120, .clamp 12 4095⟩,
       ⟨"SYNC_MODE", 5, 4, .rws, 0, .exceeds 1 0⟩,
       ⟨"FRAME_EN", 1, 1, .rws, 0, .any⟩,
       ⟨"PPS_EN", 0, 0, .rws, 0, .any⟩]⟩,
    ⟨"TIM_PULSE_OFFSET", 0x0D00244, [],
      [⟨"TICKS", 31, 0, .rws, 0, .any⟩]⟩,
    ⟨"TIM_FRAME_PER", 0x0D00248, [],
      [⟨"NS", 29, 0, .rws, 0xf4240, .clamp 1000 1000000000⟩]⟩,
    ⟨"TIM_FRAME_PH", 0x0D0024C, [],
      [⟨"NS", 29, 0, .rws, 0, .clamp 0 999999999⟩]⟩,
    ⟨"TIM_PULSE_DIFF", 0x0D00250, [],
      [⟨"NS", 31, 0, .ro, 0, .any⟩]⟩,
    ⟨"TIM_SYNC_CTL", 0x0D00260, [],
      [⟨"CMD", 31, 31, .w1s, 0, .any⟩,
       ⟨"OUT_PW", 19, 8, .rws, 16, .clamp 12 4095⟩,
       ⟨"OUT_EN", 3, 3, .rws, 0, .any⟩,
       ⟨"SRC", 2, 2, .rws, 0, .any⟩,
       ⟨"INV", 1, 1, .rws, 0, .any⟩,
       ⟨"EN", 0, 0, .rws, 0, .any⟩]⟩,
    ⟨"TIM_SYNC_CNT", 0x0D00264, [],
      [⟨"IGNORED", 31, 16, .rc, 0, .any⟩,
       ⟨"ACCEPTED", 15, 0, .rc, 0, .any⟩]⟩,
    ⟨"TIM_SYNC_TS_LO", 0x0D00268, [],
      [⟨"FRAC", 15, 0, .ro, 0, .any⟩]⟩,
    ⟨"TIM_SYNC_TS_MID0", 0x0D0026C, [],
      [⟨"NS", 31, 0, .ro, 0, .any⟩]⟩,
    ⟨"TIM_SYNC_TS_MID1", 0x0D00270, [],
      [⟨"SEC", 31, 0, .ro, 0, .any⟩]⟩,
    ⟨"TIM_SYNC_TS_HI", 0x0D00274, [],
      [⟨"SEC", 15, 0, .ro, 0, .any⟩]⟩,
    ⟨"TIM_PPSIN_CTL", 0x0D00280, [],
      [⟨"INV", 1, 1, .rws, 0, .any⟩,
       ⟨"EN", 0, 0, .rws, 0, .any⟩]⟩,
    ⟨"TIM_PPSIN_CNT", 0x0D00284, [],
      [⟨"IGNORED", 31, 16, .rc, 0, .any⟩,
       ⟨"ACCEPTED", 15, 0, .rc, 0, .any⟩]⟩,
    ⟨"TIM_PPSIN_TS_LO", 0x0D00288, [],
      [⟨"FRAC", 15, 0, .ro, 0, .any⟩]⟩,
    ⟨"TIM_PPSIN_TS_MID0", 0x0D0028C, [],
      [⟨"NS", 31, 0, .ro, 0, .any⟩]⟩,
    ⟨"TIM_PPSIN_TS_MID1", 0x0D00290, [],
      [⟨"SEC", 31, 0, .ro, 0, .any⟩]⟩,
    ⟨"TIM_PPSIN_TS_HI", 0x0D00294, [],
      [⟨"SEC", 15, 0, .ro, 0, .any⟩]⟩,
    ⟨"TIM_PTP_CTL", 0x0D00300, [],
      [⟨"UDP6", 4, 4, .rws, 0, .any⟩,
       ⟨"UDP4", 3, 3, .rws, 0, .any⟩,
       ⟨"L2", 2, 2, .rws, 0, .any⟩,
       ⟨"ONE_STEP", 1, 1, .rws, 0, .any⟩,
       ⟨"EN", 0, 0, .rws, 0, .any⟩]⟩]

/-- Registers of block TIM, part 2: 14 Tables 6 to 11 (R451). -/
def regsTIM2 : List RegDesc :=
  [ ⟨"TIM_PTP_TX_HDR", 0x0D00304, [],
      [⟨"VALID", 31, 31, .ro, 0, .any⟩,
       ⟨"MSGTYPE", 27, 24, .ro, 0, .any⟩,
       ⟨"DOMAIN", 23, 16, .ro, 0, .any⟩,
       ⟨"SEQID", 15, 0, .ro, 0, .any⟩]⟩,
    ⟨"TIM_PTP_TX_TS_LO", 0x0D00308, [],
      [⟨"FRAC", 15, 0, .ro, 0, .any⟩]⟩,
    ⟨"TIM_PTP_TX_TS_MID0", 0x0D0030C, [],
      [⟨"NS", 31, 0, .ro, 0, .any⟩]⟩,
    ⟨"TIM_PTP_TX_TS_MID1", 0x0D00310, [],
      [⟨"SEC", 31, 0, .ro, 0, .any⟩]⟩,
    ⟨"TIM_PTP_TX_TS_HI", 0x0D00314, [],
      [⟨"SEC", 15, 0, .ro, 0, .any⟩]⟩,
    ⟨"TIM_PTP_TX_POP", 0x0D00318, [],
      [⟨"POP", 0, 0, .w1s, 0, .any⟩]⟩,
    ⟨"TIM_PTP_RX_HDR", 0x0D00320, [],
      [⟨"VALID", 31, 31, .ro, 0, .any⟩,
       ⟨"MSGTYPE", 27, 24, .ro, 0, .any⟩,
       ⟨"DOMAIN", 23, 16, .ro, 0, .any⟩,
       ⟨"SEQID", 15, 0, .ro, 0, .any⟩]⟩,
    ⟨"TIM_PTP_RX_TS_LO", 0x0D00324, [],
      [⟨"FRAC", 15, 0, .ro, 0, .any⟩]⟩,
    ⟨"TIM_PTP_RX_TS_MID0", 0x0D00328, [],
      [⟨"NS", 31, 0, .ro, 0, .any⟩]⟩,
    ⟨"TIM_PTP_RX_TS_MID1", 0x0D0032C, [],
      [⟨"SEC", 31, 0, .ro, 0, .any⟩]⟩,
    ⟨"TIM_PTP_RX_TS_HI", 0x0D00330, [],
      [⟨"SEC", 15, 0, .ro, 0, .any⟩]⟩,
    ⟨"TIM_PTP_RX_POP", 0x0D00334, [],
      [⟨"POP", 0, 0, .w1s, 0, .any⟩]⟩,
    ⟨"TIM_PTP_CNT", 0x0D00340, [],
      [⟨"RX_OVF", 31, 16, .rc, 0, .any⟩,
       ⟨"TX_OVF", 15, 0, .rc, 0, .any⟩]⟩]

/-- All registers of block TIM: 14 Tables 6 to 11 (R451). -/
def regsTIM : List RegDesc := regsTIM0 ++ regsTIM1 ++ regsTIM2

/-- Registers of block CHN, part 0: 15 Tables 6 and 7 (R470). -/
def regsCHN0 : List RegDesc :=
  [ ⟨"CHN_CTL", 0x0E00000, [],
      [⟨"SYNC_GO", 31, 31, .w1s, 0, .any⟩,
       ⟨"HB_PORT", 16, 16, .rws, 0, .any⟩,
       ⟨"TIME_FOLLOW", 12, 12, .rws, 0, .any⟩,
       ⟨"ORIG", 9, 8, .rws, 0, .exceeds 2 0⟩,
       ⟨"OCTET", 6, 4, .rws, 4, .clamp 0 5⟩,
       ⟨"LINK_EN", 1, 0, .rws, 0, .any⟩]⟩,
    ⟨"CHN_STATUS", 0x0E00004, [],
      [⟨"HEAD_CONFLICT", 10, 10, .ro, 0, .any⟩,
       ⟨"CABLE_ERR", 9, 9, .ro, 0, .any⟩,
       ⟨"SIZE_ERR", 8, 8, .ro, 0, .any⟩,
       ⟨"TOPO", 7, 6, .ro, 0, .any⟩,
       ⟨"N", 5, 3, .ro, 0, .any⟩,
       ⟨"POS_VALID", 2, 2, .ro, 0, .any⟩,
       ⟨"POS", 1, 0, .ro, 0, .any⟩]⟩,
    ⟨"CHN_LINK_STATUS", 0x0E00008, [(2,0x4)],
      [⟨"NB_POS", 7, 6, .ro, 0, .any⟩,
       ⟨"NB_VALID", 5, 5, .ro, 0, .any⟩,
       ⟨"LANES_UP", 4, 2, .ro, 0, .any⟩,
       ⟨"RUN", 0, 0, .ro, 0, .any⟩]⟩,
    ⟨"CHN_NB_ID_LO", 0x0E00010, [(2,0x8)],
      [⟨"ID", 31, 0, .ro, 0, .any⟩]⟩,
    ⟨"CHN_NB_ID_HI", 0x0E00014, [(2,0x8)],
      [⟨"ID", 31, 0, .ro, 0, .any⟩]⟩,
    ⟨"CHN_DLY", 0x0E00020, [],
      [⟨"TICKS", 11, 0, .rws, 448, .clamp 112 4095⟩]⟩,
    ⟨"CHN_TOFF", 0x0E00024, [],
      [⟨"PS", 31, 0, .ro, 0, .any⟩]⟩,
    ⟨"CHN_ASYM", 0x0E00028, [],
      [⟨"PS", 31, 0, .rws, 0, .any⟩]⟩,
    ⟨"CHN_FWD_ADDR", 0x0E00030, [],
      [⟨"DST", 31, 30, .rw, 0, .any⟩,
       ⟨"ADDR", 27, 0, .rw, 0, .any⟩]⟩,
    ⟨"CHN_FWD_DATA", 0x0E00034, [],
      [⟨"DATA", 31, 0, .rw, 0, .any⟩]⟩,
    ⟨"CHN_FWD_CTL", 0x0E00038, [],
      [⟨"GO", 31, 31, .w1s, 0, .any⟩,
       ⟨"WRITE", 30, 30, .rw, 0, .any⟩,
       ⟨"DONE", 8, 8, .w1c, 0, .any⟩,
       ⟨"STATUS", 1, 0, .ro, 0, .any⟩]⟩,
    ⟨"CHN_INT_STATUS", 0x0E00040, [],
      [⟨"FWD_DONE", 2, 2, .w1c, 0, .any⟩,
       ⟨"TOPO_CHG", 1, 1, .w1c, 0, .any⟩,
       ⟨"LINK_CHG", 0, 0, .w1c, 0, .any⟩]⟩,
    ⟨"CHN_INT_EN", 0x0E00044, [],
      [⟨"EN", 2, 0, .rw, 0, .any⟩]⟩,
    ⟨"CHN_CNT", 0x0E00050, [(2,0x4)],
      [⟨"CRC", 31, 20, .rc, 0, .any⟩,
       ⟨"LATE", 19, 10, .rc, 0, .any⟩,
       ⟨"DROP", 9, 0, .rc, 0, .any⟩]⟩,
    ⟨"CHN_SPILL_MAP", 0x0E00080, [(16,0x4)],
      [⟨"EN", 31, 31, .rws, 0, .any⟩,
       ⟨"EXIT", 5, 4, .rws, 0, .any⟩,
       ⟨"EXIT_GROUP", 3, 0, .rws, 0, .any⟩]⟩,
    ⟨"CHN_ODU_ROUTE", 0x0E10000, [(1280,0x4)],
      [⟨"EN", 31, 31, .rws, 0, .any⟩,
       ⟨"LINK", 0, 0, .rws, 0, .any⟩]⟩]

/-- All registers of block CHN: 15 Tables 6 and 7 (R470). -/
def regsCHN : List RegDesc := regsCHN0

/-- Registers of block SEC, part 0: 16 Tables 10 to 12 (R503). -/
def regsSEC0 : List RegDesc :=
  [ ⟨"SEC_BOOT_STATUS", 0x0F00000, [],
      [⟨"DEBUG", 27, 26, .ro, 0, .any⟩,
       ⟨"RECOVERY", 25, 25, .ro, 0, .any⟩,
       ⟨"BOOT_SEL", 23, 22, .ro, 0, .any⟩,
       ⟨"APP_FALLBACK", 21, 21, .ro, 0, .any⟩,
       ⟨"LYF_FALLBACK", 20, 20, .ro, 0, .any⟩,
       ⟨"APP_BANK", 17, 17, .ro, 0, .any⟩,
       ⟨"LYF_BANK", 16, 16, .ro, 0, .any⟩,
       ⟨"STAGE", 3, 0, .ro, 0, .any⟩]⟩,
    ⟨"SEC_LYF_VER", 0x0F00004, [],
      [⟨"VERSION", 31, 0, .ro, 0, .any⟩]⟩,
    ⟨"SEC_APP_VER", 0x0F00008, [],
      [⟨"VERSION", 31, 0, .ro, 0, .any⟩]⟩,
    ⟨"SEC_FUSE_STATUS", 0x0F0000C, [],
      [⟨"CUST_ONLY", 24, 24, .ro, 0, .any⟩,
       ⟨"SECVER", 22, 16, .ro, 0, .any⟩,
       ⟨"LYF_SECVER", 13, 8, .ro, 0, .any⟩,
       ⟨"REVOKED", 7, 4, .ro, 0, .any⟩,
       ⟨"ENROLLED", 3, 0, .ro, 0, .any⟩]⟩,
    ⟨"SEC_INT_STATUS", 0x0F00010, [],
      [⟨"WDT", 8, 8, .w1c, 0, .any⟩,
       ⟨"FLASH_DONE", 7, 7, .w1c, 0, .any⟩,
       ⟨"MB_DONE", 4, 0, .w1c, 0, .any⟩]⟩,
    ⟨"SEC_INT_EN", 0x0F00014, [],
      [⟨"EN_HI", 8, 7, .rw, 0, .any⟩,
       ⟨"EN_LO", 4, 0, .rw, 0, .any⟩]⟩,
    ⟨"SEC_WDT_CTL", 0x0F00020, [],
      [⟨"EN", 31, 31, .rw, 0, .any⟩,
       ⟨"PERIOD", 15, 0, .rw, 1000, .clamp 1 65535⟩]⟩,
    ⟨"SEC_WDT_KICK", 0x0F00024, [],
      [⟨"KEY", 15, 0, .wo, 0, .any⟩]⟩,
    ⟨"SEC_FLASH_STATUS", 0x0F00028, [],
      [⟨"BUSY", 31, 31, .ro, 0, .any⟩,
       ⟨"OP", 30, 28, .ro, 0, .any⟩,
       ⟨"DONE_KIB", 23, 0, .ro, 0, .any⟩]⟩,
    ⟨"SEC_MB_CTL", 0x0F10000, [(5,0x1000)],
      [⟨"GO", 0, 0, .w1s, 0, .any⟩]⟩,
    ⟨"SEC_MB_STATUS", 0x0F10004, [(5,0x1000)],
      [⟨"OVERRUN", 2, 2, .w1c, 0, .any⟩,
       ⟨"DONE", 1, 1, .w1c, 0, .any⟩,
       ⟨"BUSY", 0, 0, .ro, 0, .any⟩]⟩,
    ⟨"SEC_MB_REQ", 0x0F10400, [(5,0x1000), (256,0x4)],
      [⟨"DATA", 31, 0, .rw, 0, .any⟩]⟩,
    ⟨"SEC_MB_RSP", 0x0F10800, [(5,0x1000), (256,0x4)],
      [⟨"DATA", 31, 0, .ro, 0, .any⟩]⟩]

/-- All registers of block SEC: 16 Tables 10 to 12 (R503). -/
def regsSEC : List RegDesc := regsSEC0

/-- Registers of block FLT, part 0: 17 Tables 5 to 7 (R519). -/
def regsFLT0 : List RegDesc :=
  [ ⟨"FLT_CTL", 0x1000000, [],
      [⟨"CLR_ALL", 31, 31, .w1s, 0, .any⟩,
       ⟨"ARM", 30, 30, .w1s, 0, .any⟩,
       ⟨"DISARM", 29, 29, .w1s, 0, .any⟩,
       ⟨"TRAP_CORES", 19, 16, .rw, 1, .any⟩,
       ⟨"INT_PIN", 1, 1, .rw, 0, .any⟩,
       ⟨"INT_MSI", 0, 0, .rw, 0, .any⟩]⟩,
    ⟨"FLT_STATUS", 0x1000004, [],
      [⟨"CHIP_ARM", 3, 3, .ro, 0, .any⟩,
       ⟨"CHIP_SUPPRESSED", 2, 2, .w1c, 0, .any⟩,
       ⟨"INT_PEND", 1, 1, .ro, 0, .any⟩,
       ⟨"OVF", 0, 0, .w1c, 0, .any⟩]⟩,
    ⟨"FLT_FIRST", 0x1000008, [],
      [⟨"FIRST_VALID", 31, 31, .w1c, 0, .any⟩,
       ⟨"INJ", 30, 30, .ro, 0, .any⟩,
       ⟨"REAL", 29, 29, .ro, 0, .any⟩,
       ⟨"ID", 9, 0, .ro, 0, .any⟩]⟩,
    ⟨"FLT_FIRST_TS_LO", 0x100000C, [],
      [⟨"FRAC", 15, 0, .ro, 0, .any⟩]⟩,
    ⟨"FLT_FIRST_TS_MID0", 0x1000010, [],
      [⟨"NS", 31, 0, .ro, 0, .any⟩]⟩,
    ⟨"FLT_FIRST_TS_MID1", 0x1000014, [],
      [⟨"SEC", 31, 0, .ro, 0, .any⟩]⟩,
    ⟨"FLT_FIRST_TS_HI", 0x1000018, [],
      [⟨"SEC", 15, 0, .ro, 0, .any⟩]⟩,
    ⟨"FLT_RST_ID", 0x1000020, [],
      [⟨"VALID", 31, 31, .ro, 0, .any⟩,
       ⟨"ID", 9, 0, .ro, 0, .any⟩]⟩,
    ⟨"FLT_FIRE_CNT", 0x1000024, [],
      [⟨"FIRINGS", 31, 0, .rc, 0, .any⟩]⟩,
    ⟨"FLT_STICKY_SUM", 0x1000100, [(18,0x4)],
      [⟨"SOURCES", 31, 0, .ro, 0, .any⟩]⟩,
    ⟨"FLT_LIVE_SUM", 0x1000180, [(18,0x4)],
      [⟨"SOURCES", 31, 0, .ro, 0, .any⟩]⟩,
    ⟨"FLT_SRC", 0x1010000, [(576,0x4)],
      [⟨"STICKY", 31, 31, .w1c, 0, .any⟩,
       ⟨"REAL", 30, 30, .ro, 0, .any⟩,
       ⟨"INJD", 29, 29, .ro, 0, .any⟩,
       ⟨"LIVE", 28, 28, .ro, 0, .any⟩,
       ⟨"INJ_PULSE", 17, 17, .w1s, 0, .any⟩,
       ⟨"INJ_HOLD", 16, 16, .rw, 0, .any⟩,
       ⟨"ERR", 12, 12, .rw, 0, .any⟩,
       ⟨"CHIP_RST", 11, 11, .rw, 0, .any⟩,
       ⟨"BLK_RST", 10, 10, .rw, 0, .special⟩,
       ⟨"TRAP", 9, 9, .rw, 0, .any⟩,
       ⟨"INT", 8, 8, .rw, 0, .any⟩,
       ⟨"EN", 0, 0, .rw, 1, .any⟩]⟩]

/-- All registers of block FLT: 17 Tables 5 to 7 (R519). -/
def regsFLT : List RegDesc := regsFLT0

/-- Registers of block PWR, part 0: 18 Tables 11 to 13 (R539). -/
def regsPWR0 : List RegDesc :=
  [ ⟨"PWR_STATUS", 0x1100000, [],
      [⟨"SHED_PORTS", 17, 16, .ro, 0, .any⟩,
       ⟨"ALERT", 10, 10, .ro, 0, .any⟩,
       ⟨"INPUT_LIMIT", 9, 9, .ro, 0, .any⟩,
       ⟨"THROTTLE", 8, 8, .ro, 0, .any⟩,
       ⟨"STEP", 2, 0, .ro, 0, .any⟩]⟩,
    ⟨"PWR_CAP", 0x1100004, [],
      [⟨"WATTS", 7, 0, .rw, 190, .clamp 60 190⟩]⟩,
    ⟨"PWR_TR_CTL", 0x1100008, [],
      [⟨"TRAFFIC_ORDER", 9, 9, .rw, 0, .any⟩,
       ⟨"TRAFFIC_EN", 8, 8, .rw, 1, .any⟩,
       ⟨"SHED_EN", 4, 4, .rw, 1, .any⟩,
       ⟨"ADAPT_EN", 0, 0, .rw, 1, .any⟩]⟩,
    ⟨"PWR_THERM", 0x110000C, [],
      [⟨"ALERT_T", 23, 16, .rw, 95, .clamp 60 100⟩,
       ⟨"THROTTLE_T", 7, 0, .rw, 100, .clamp 60 100⟩]⟩,
    ⟨"PWR_IN", 0x1100010, [],
      [⟨"IIN", 31, 16, .ro, 0, .any⟩,
       ⟨"VIN", 15, 0, .ro, 0, .any⟩]⟩,
    ⟨"PWR_PIN", 0x1100014, [],
      [⟨"PMAX", 27, 16, .rc, 0, .any⟩,
       ⟨"P", 11, 0, .ro, 0, .any⟩]⟩,
    ⟨"PWR_TJ", 0x1100018, [],
      [⟨"SENSOR", 20, 16, .ro, 0, .any⟩,
       ⟨"TJ", 15, 0, .ro, 0, .any⟩]⟩,
    ⟨"PWR_LOG_CTL", 0x1100020, [],
      [⟨"LOG_EN", 31, 31, .rw, 0, .any⟩,
       ⟨"LOG_QUEUE", 15, 0, .rw, 0, .any⟩]⟩,
    ⟨"PWR_LOG_CNT", 0x1100024, [],
      [⟨"DROP", 31, 16, .rc, 0, .any⟩,
       ⟨"ENTRIES", 15, 0, .rc, 0, .any⟩]⟩,
    ⟨"PWR_INT_STATUS", 0x1100030, [],
      [⟨"HK_CAL_DONE", 3, 3, .w1c, 0, .any⟩,
       ⟨"HK_DONE", 2, 2, .w1c, 0, .any⟩,
       ⟨"THROTTLE_CHG", 1, 1, .w1c, 0, .any⟩,
       ⟨"STEP_CHG", 0, 0, .w1c, 0, .any⟩]⟩,
    ⟨"PWR_INT_EN", 0x1100034, [],
      [⟨"EN", 3, 0, .rw, 0, .any⟩]⟩,
    ⟨"PWR_DOM", 0x1100100, [(12,0x4)],
      [⟨"I", 31, 16, .ro, 0, .any⟩,
       ⟨"P", 15, 0, .ro, 0, .any⟩]⟩,
    ⟨"PWR_TEMP", 0x1100200, [(32,0x4)],
      [⟨"T", 15, 0, .ro, 0, .any⟩]⟩,
    ⟨"PWR_HK_CTL", 0x1100300, [],
      [⟨"START", 31, 31, .w1s, 0, .any⟩,
       ⟨"CAL_NOW", 30, 30, .w1s, 0, .any⟩,
       ⟨"PEND", 18, 18, .ro, 0, .any⟩,
       ⟨"CAL_BUSY", 17, 17, .ro, 0, .any⟩,
       ⟨"CONV_BUSY", 16, 16, .ro, 0, .any⟩,
       ⟨"CH", 5, 0, .rw, 0, .any⟩]⟩,
    ⟨"PWR_HK_DATA", 0x1100304, [],
      [⟨"VALID", 31, 31, .rc, 0, .any⟩,
       ⟨"OVR", 30, 30, .rc, 0, .any⟩,
       ⟨"STALE", 29, 29, .ro, 0, .any⟩,
       ⟨"RANGE", 28, 28, .ro, 0, .any⟩,
       ⟨"SETTLE", 27, 27, .ro, 0, .any⟩,
       ⟨"CH", 21, 16, .ro, 0, .any⟩,
       ⟨"CODE", 11, 0, .ro, 0, .any⟩]⟩,
    ⟨"PWR_HK_CAL_CNT_LO", 0x1100308, [],
      [⟨"COUNT", 31, 0, .ro, 0, .any⟩]⟩,
    ⟨"PWR_HK_CAL_CNT_HI", 0x110030C, [],
      [⟨"COUNT", 15, 0, .ro, 0, .any⟩]⟩,
    ⟨"PWR_HK_CAL_SEC_LO", 0x1100310, [],
      [⟨"SEC", 31, 0, .ro, 0, .any⟩]⟩,
    ⟨"PWR_HK_CAL_SEC_HI", 0x1100314, [],
      [⟨"SEC", 15, 0, .ro, 0, .any⟩]⟩,
    ⟨"PWR_FACT_INFO", 0x1100318, [],
      [⟨"VERSION", 31, 24, .ro, 0, .any⟩,
       ⟨"TEMP", 23, 16, .ro, 0, .any⟩]⟩,
    ⟨"PWR_FACT_SEC_LO", 0x1100320, [],
      [⟨"SEC", 31, 0, .ro, 0, .any⟩]⟩,
    ⟨"PWR_FACT_SEC_HI", 0x1100324, [],
      [⟨"SEC", 15, 0, .ro, 0, .any⟩]⟩]

/-- All registers of block PWR: 18 Tables 11 to 13 (R539). -/
def regsPWR : List RegDesc := regsPWR0

/-- The register table of the block with index b (Table 5 of 00_scope.md); LNA and LNB share one layout. -/
def blockRegs : Nat → List RegDesc
  | 0 => regsGLB
  | 1 => regsSTR
  | 2 => regsLN
  | 3 => regsLN
  | 4 => regsFEC
  | 5 => regsFRM
  | 6 => regsCRY
  | 7 => regsMRG
  | 8 => regsHST
  | 9 => regsRMS
  | 10 => regsPRB
  | 11 => regsCAP
  | 12 => regsCLP
  | 13 => regsTIM
  | 14 => regsCHN
  | 15 => regsSEC
  | 16 => regsFLT
  | 17 => regsPWR
  | _ => []

/-- Wide values, part 0: the address of the _LO register, its copies, and the registers of the value. -/
def wideRegs0 : List (Nat × List (Nat × Nat) × Nat) :=
  [ (0x0000008, [], 2),
    (0x0100008, [], 2),
    (0x0100040, [], 3),
    (0x0200050, [(2,0x100000)], 2),
    (0x0200100, [(2,0x100000), (8,0x20)], 2),
    (0x0200108, [(2,0x100000), (8,0x20)], 2),
    (0x0400040, [(2,0x80000), (4,0x8)], 2),
    (0x0610004, [(512,0x10)], 2),
    (0x0810020, [(48,0x100)], 2),
    (0x0810028, [(48,0x100)], 2),
    (0x0820008, [(48,0x40)], 2),
    (0x0820010, [(48,0x40)], 2),
    (0x0820018, [(48,0x40)], 2),
    (0x0830004, [(48,0x40)], 2),
    (0x0830010, [(48,0x40)], 2),
    (0x0830018, [(48,0x40)], 2),
    (0x0900184, [(5,0x10)], 2),
    (0x0900430, [], 2),
    (0x0900438, [], 2),
    (0x0900440, [], 2) ]

/-- Wide values, part 1: the address of the _LO register, its copies, and the registers of the value. -/
def wideRegs1 : List (Nat × List (Nat × Nat) × Nat) :=
  [ (0x0900448, [], 2),
    (0x0920004, [(64,0x40)], 2),
    (0x0A00010, [], 2),
    (0x0A00018, [], 2),
    (0x0A00028, [], 2),
    (0x0A00060, [], 2),
    (0x0A20000, [(64,0x200), (64,0x8)], 2),
    (0x0A30000, [(256,0x8)], 2),
    (0x0A40008, [(1536,0x100)], 2),
    (0x0B10010, [(96,0x40)], 2),
    (0x0C00018, [(2,0x80000)], 2),
    (0x0C00104, [(2,0x80000)], 3),
    (0x0C00204, [(2,0x80000), (16,0x20)], 2),
    (0x0D00200, [], 4),
    (0x0D00214, [], 4),
    (0x0D00224, [], 2),
    (0x0D0022C, [], 2),
    (0x0D00268, [], 4),
    (0x0D00288, [], 4),
    (0x0D00308, [], 4) ]

/-- Wide values, part 2: the address of the _LO register, its copies, and the registers of the value. -/
def wideRegs2 : List (Nat × List (Nat × Nat) × Nat) :=
  [ (0x0D00324, [], 4),
    (0x0E00010, [(2,0x8)], 2),
    (0x100000C, [], 4),
    (0x1100308, [], 2),
    (0x1100310, [], 2),
    (0x1100320, [], 2) ]

/-- The values that take more than one register (wide values and split registers, 00_scope.md). -/
def wideRegs : List (Nat × List (Nat × Nat) × Nat) := wideRegs0 ++ wideRegs1 ++ wideRegs2

end Sys2Proof.Machine
end

