-- ==== Sys2Proof/Machine/Sparse.lean ====
section
/-! DEFINITION. Sparse tables: a list of (key, value) pairs, keys rising, that lists only what differs from a default. -/

namespace Sys2Proof.Machine

/-- The value of key a, or d where the table does not list it. -/
def Sparse.get {α : Type} (d : α) : List (Nat × α) → Nat → α
  | [], _ => d
  | (k, v) :: r, a => if a = k then v else Sparse.get d r a

/-- Whether the table lists key a. -/
def Sparse.has {α : Type} (m : List (Nat × α)) (a : Nat) : Bool := m.any (fun e => e.1 == a)

/-- List the pair (a, v), replacing the first pair of key a, else before the first larger key. -/
def Sparse.insert {α : Type} (a : Nat) (v : α) : List (Nat × α) → List (Nat × α)
  | [] => [(a, v)]
  | (k, w) :: r =>
    if a = k then (a, v) :: r
    else if a < k then (a, v) :: (k, w) :: r
    else (k, w) :: Sparse.insert a v r

/-- The table without key a. -/
def Sparse.erase {α : Type} (a : Nat) (m : List (Nat × α)) : List (Nat × α) := m.filter (fun e => e.1 != a)

/-- The table with value v at key a; a value equal to the default d is not listed. -/
def Sparse.put {α : Type} [DecidableEq α] (d : α) (m : List (Nat × α)) (a : Nat) (v : α) : List (Nat × α) :=
  if v = d then Sparse.erase a m else Sparse.insert a v m

/-- Keys strictly rising. -/
def Sparse.sorted {α : Type} : List (Nat × α) → Bool
  | [] => true
  | [_] => true
  | (k, _) :: (l, w) :: r => decide (k < l) && Sparse.sorted ((l, w) :: r)

end Sys2Proof.Machine
end

