-- ==== Sys2Proof/Machine/State.lean ====
section
/-! DEFINITION. The state of the block: plain data, everything the spec gives the machine. Registers stand in Dev.regs by
their address (Machine/RegTable.lean is their table); the structures below hold what no register holds. -/

namespace Sys2Proof.Machine

/-- Memory with byte addresses: the cells that differ from what an unlisted address reads as, in rising order. An unlisted
address reads 0 until the contents of its page become undefined (R82, R83, R471); from then on it reads a free value, told
apart by the page's epoch. era is the epoch of every page that epochs does not list. -/
structure Memory where
  cells : List Host.Cell := []
  era : Nat := 0
  epochs : List (Nat × Nat) := []
  deriving DecidableEq, Repr

/-- An entry of an event tap (R378, Table 5 of 12_capture_and_pattern.md): the tap, CODE, DATA and the time counter in
2^-40 ns. -/
structure TapEvent where
  tap : Nat
  code : Nat
  data : Nat
  time : Nat
  deriving DecidableEq, Repr

/-- A stage-switch connection record (Table 6 of 02_structure_images.md). -/
structure Connect where
  level : Nat
  src : Nat
  srcInst : Nat
  sink : Nat
  sinkInst : Nat
  deriving DecidableEq, Repr

/-- A register preset record (Table 8 of 02_structure_images.md). -/
structure Preset where
  addr : Nat
  mask : Word
  value : Word
  deriving DecidableEq, Repr

/-- An ODUflex flow declaration (Table 9 of 02_structure_images.md). -/
structure FlowDecl where
  flow : Nat
  home : Nat
  encrypt : Bool
  isProtected : Bool
  slots : Nat
  ctype : Nat
  deriving DecidableEq, Repr

/-- A queue map entry: a queue number and the words of its initial descriptor (R294). -/
structure QueueDecl where
  queue : Nat
  desc : List Word
  deriving DecidableEq, Repr

/-- The structure of one region: what an image's body defines and a commit installs (R33, R64). -/
structure RegionBody where
  imgId : Word
  connects : List Connect
  presets : List Preset
  flows : List FlowDecl
  programs : List (Nat × List Word)
  queues : List QueueDecl
  deriving DecidableEq, Repr

/-- The identity of the PCIe function in its configuration space (R2): Vendor ID and Device ID. -/
structure PcieIds where
  vendor : BitVec 16 := 0x1F6B
  device : BitVec 16 := 0x6432
  deriving DecidableEq, Repr

/-- The fuses (Signers and keys, 02_structure_images.md; R492): customer keys, ENROLLED, REVOKED, CUST_ONLY, the image and the
Lyfate security counters. -/
structure Fuses where
  keys : List (Nat × List Byte) := []
  enrolled : BitVec 4 := 0
  revoked : BitVec 4 := 0
  custOnly : Bool := false
  secver : Nat := 0
  lyfSecver : Nat := 0
  deriving DecidableEq, Repr

/-- Block STR beside its registers: the bytes in configuration SRAM, the load in progress (source, address, length), the
fuses as they stood when it started (R68), the regions being committed, the active regions with their preset store (R64),
and whether a GLOBAL commit waits for trusted boot (R80). -/
structure StrState where
  cfgSram : List Byte := []
  load : Option (Nat × Nat × Nat) := none
  loadFuses : Fuses := {}
  committing : List Nat := []
  active : List (Nat × RegionBody) := []
  globalPending : Bool := false
  deriving DecidableEq, Repr

/-- A timer of a probe engine (R338): remaining ticks, the period of a periodic timer (0: one shot), and whether it is
loaded. -/
structure EngTimer where
  remaining : Nat := 0
  period : Nat := 0
  loaded : Bool := false
  deriving DecidableEq, Repr

/-- A probe engine beside its registers: program, timers, its drives of internal lines, pins and chain lines set by TRIG
SET, its pin pulses in progress (R342), and the seconds sampled by TSR (R343). -/
structure Engine where
  prog : List Word := []
  timers : List (Nat × EngTimer) := []
  lineSet : BitVec 64 := 0
  pinSet : BitVec 4 := 0
  chainSet : BitVec 8 := 0
  pinPulse : BitVec 4 := 0
  pinDue : List (Nat × Nat) := []
  tsrSec : BitVec 48 := 0
  deriving DecidableEq, Repr

/-- A command an engine has issued that has not yet reached its target (R340). -/
inductive ProbeCmd where
  | capStart (tap : Nat) (queue : Nat) | capStop (tap : Nat) | capMark (tap : Nat) (value : Nat)
  | capDest (tap : Nat) (queue : Nat)
  | qArm (queue : Nat) | qTrigger (queue : Nat) | qStop (queue : Nat)
  | playStart (player : Nat) (seg : Nat) | playNext (player : Nat) (seg : Nat) | playStop (player : Nat)
  deriving DecidableEq, Repr

/-- The filter of an input pin (R346, R444): the accepted level (of TRIG_INi it stands in PRB_TRIG_IN_STATUS), the tick of
the last accepted assertion and whether it ignored a change since the last second event. -/
structure PinFilter where
  level : Bool := false
  lastAccept : Option Nat := none
  ignored : Bool := false
  deriving DecidableEq, Repr

/-- Block PRB beside its registers: engines, commands in flight, the filters of TRIG_IN, the active MASK and VALUE words of
the pre-matchers (key 16x + w, R349) and their running match counts (R350). -/
structure PrbState where
  engines : List (Nat × Engine) := []
  inFlight : List ProbeCmd := []
  trigIn : List (Nat × PinFilter) := []
  pmMask : List (Nat × Word) := []
  pmValue : List (Nat × Word) := []
  pmRun : List (Nat × Nat) := []
  deriving DecidableEq, Repr

/-- A converter beside its registers (R91 to R104): the slice that serves each position, the corrections of each slice and
whether they are learned, rotation steps completed since it entered CONVERGING, whether a step is in progress (R99), the
temperature in 0.1 °C at each position's last calibration, and whether an overrange run has been seen (R108). -/
structure Converter where
  serve : List Nat := List.range 64
  corr : List (Nat × SliceCorr) := []
  learned : Bool := false
  steps : Nat := 0
  inStep : Bool := false
  temps : List (Nat × Int) := []
  overranged : Bool := false
  deriving DecidableEq, Repr

/-- A line port beside its registers: converters, whether the synthesiser is locked or has lost lock (R94), the result of the
dispersion search (R123), the runs of the guard (R129), the bank last requested (R146), the length exponent of the running
fade (R147). MODEL: how many overrange samples its ADCs have marked, by which a record knows of marks in its span (R108).
tapsCap is the tap count the governor allows (R127); idleBits counts the PRBS31 bits that line idle has given the mapper (R27, R145). -/
structure LineState where
  convs : List (Nat × Converter) := []
  locked : Bool := false
  lost : Bool := false
  cdFound : Option Int := none
  enterRun : Nat := 0
  exitRun : Nat := 0
  pdReq : Nat := 0
  fadeK : Nat := 0
  ovrMarks : Nat := 0
  tapsCap : Nat := 3
  idleBits : Nat := 0
  deriving DecidableEq, Repr

/-- A port of block FEC beside its registers: interval totals (R172), the governor's iteration cap (R165), the PRBS31 generator
of line idle (R162), which starts with all ones since the spec names no seed (DESIGN CHOICE, notes/assumptions/6.md), the last
superframe delivered towards the mapper, the OTU bits of the last superframe decoded, and the bits of a framer that feeds both encoders
which the other has already taken (R28). -/
structure FecState where
  cw : Nat := 0
  corr : Nat := 0
  uncorr : Nat := 0
  iters : Nat := 0
  shape : Nat := 0
  iterCap : Nat := 12
  prbs : BitVec 31 := 0x7FFFFFFF
  sent : List Bool := []
  received : List Bool := []
  ahead : List Bool := []
  deriving DecidableEq, Repr

/-- A candidate of frame alignment (R181): its bit offset, its count, and the MFAS of its last matched frame. -/
structure Candidate where
  offset : Nat
  count : Nat
  mfas : BitVec 8
  deriving DecidableEq, Repr

/-- Frame alignment of a port or a flow (R180 to R186): its state, the candidates, the offsets that are eligible and wait, the
candidate in MF_CHECK with the MFAS of its check frames, the barred offsets; and in IF the offset, the consecutive FAS misses,
the multiframe phase, the consecutive MFAS mismatches, the frames that follow the held phase, OOM, LOF and LOM. -/
structure Aligner where
  state : Nat := 0
  cands : List Candidate := []
  eligible : List Nat := []
  check : Option (Nat × List (Option (BitVec 8))) := none
  barred : List Nat := []
  offset : Nat := 0
  misses : Nat := 0
  phase : BitVec 8 := 0
  mismatches : Nat := 0
  follow : Nat := 0
  oom : Bool := false
  lof : Bool := false
  lom : Bool := false
  deriving DecidableEq, Repr

/-- The APS/PCC filter of a flow (R189): candidate and count. -/
structure ApsFilter where
  cand : BitVec 32
  count : Nat
  deriving DecidableEq, Repr

/-- Block FRM beside its registers: alignment (key 0 and 1 for the ports, 2 + 2f + x for flow f on port x), persistence
filters with candidate and count, accepted overhead that no register shows, APS filters, the tick of each flow's last mapping
error, the MFAS and OMFI of the transmitted frames by port (R178, R191), and the BIP-8 errors of the last frame received, for BEI by slice
(R191): SM at key x, ODUCn PM at key 2 + x, PM of flow f at key 4 + f. -/
structure FrmState where
  align : List (Nat × Aligner) := []
  filters : List (Nat × (OhItem × Nat)) := []
  opuPt : List (Nat × BitVec 8) := []
  opuMsi : List (Nat × List (Option Nat)) := []
  pmBdi : List (Nat × Bool) := []
  pmStat : List (Nat × BitVec 3) := []
  flowPt : List (Nat × BitVec 8) := []
  aps : List (Nat × ApsFilter) := []
  mapErrAt : List (Nat × Nat) := []
  txMfas : List (Nat × Nat) := []
  txOmfi : List (Nat × Nat) := []
  bei : List (Nat × List Nat) := []
  deriving DecidableEq, Repr

/-- What a crypto path gives out for a block: frames, or a maintenance signal in their place (R214, R221, R224, R226). -/
inductive CryOut where
  | frames (l : List OduFrame)
  | ais
  | lck
  deriving DecidableEq, Repr

/-- A key slot beside its registers: the key, the salt, and the last COUNT accepted on receive (R217, R223). -/
structure KeySlot where
  key : List Byte := []
  salt : BitVec 32 := 0
  lastCount : Option Nat := none
  deriving DecidableEq, Repr

/-- A flow in block CRY beside its registers: the tag of the previous block, whether TX_SEL was written since the last
boundary, the slot whose erasure keeps RX_LCK, the SIZE last received, and what each direction last gave out. -/
structure CryFlow where
  tagPrev : Option (List Byte) := none
  selFresh : Bool := false
  erased : Option Nat := none
  rxSize : Option Nat := none
  txOut : CryOut := .frames []
  rxOut : CryOut := .frames []
  deriving DecidableEq, Repr

/-- A job in progress (R231): the Ringmaster queue of its descriptor, the descriptor's address, and the STATUS it ends with. -/
structure CryJob where
  queue : Nat
  desc : Nat
  status : Nat
  deriving DecidableEq, Repr

/-- A use of a core (R226, R228): its first tick and the tick after its last, whether a job's, and the key copied into the core at its
start as two Boolean shares. -/
structure CoreUse where
  start : Nat
  stop : Nat
  job : Bool
  share0 : List Byte
  share1 : List Byte
  deriving DecidableEq, Repr

/-- Block CRY beside its registers: key slots, flows, the flows whose RX_KI_BASE has been written (its reset value is 2e), the
jobs in progress by job queue (R230), the job queue last served (R232), the uses of cores over the last millisecond (R226), and the
requests to the DRBG and the tick since its last reseed (R228). -/
structure CryState where
  slots : List (Nat × KeySlot) := []
  flows : List (Nat × CryFlow) := []
  kiWritten : List Nat := []
  jobs : List (Nat × CryJob) := []
  jobLast : Nat := 3
  uses : List CoreUse := []
  requests : Nat := 0
  seeded : Nat := 0
  deriving DecidableEq, Repr

/-- A path of a protected flow beside its registers: the SQ last received (R239), consecutive valid copies (Table 1), the
check the last copy since the last valid one failed (R244), and the SQ and tick of the last arrival. -/
structure MergePathState where
  prev : Option Nat := none
  run : Nat := 0
  failed : Option Nat := none
  arrived : List (Nat × Nat) := []
  deriving DecidableEq, Repr

/-- A copy held in the merge-buffer queue (R247): SQ, the path that stored it (0 W, 1 P), its arrival tick, the frame. -/
structure HeldFrame where
  sq : Nat
  path : Nat
  tick : Nat
  frame : OduFrame
  deriving DecidableEq, Repr

/-- What MRG.SEL sends at a slot. -/
inductive SelOut where
  | frame (f : OduFrame)
  | ais
  deriving DecidableEq, Repr

/-- A protected flow in block MRG beside its registers: the last frame sent on both paths, its
paths, the held copies, the tick of the slot of N_out while anchored, with a fraction in 2^-32 tick (R245), whether an anchor has formed
since the commit, and what MRG.SEL last sent. -/
structure MergeFlow where
  dup : Option OduFrame := none
  w : MergePathState := {}
  p : MergePathState := {}
  held : List HeldFrame := []
  slotTick : Nat := 0
  slotFrac : Nat := 0
  anchoredOnce : Bool := false
  sel : Option SelOut := none
  deriving DecidableEq, Repr

/-- Block MRG beside its registers: flows, and the Horug links on which heartbeats are present (R466). -/
structure MrgState where
  flows : List (Nat × MergeFlow) := []
  chnHb : List Nat := []
  deriving DecidableEq, Repr

/-- A host lane beside its registers: the Horug retry interval runs (R267); the tick at which the PRBS checker locked or its
counters were cleared, and the spans of earlier locks whose errors count (R274); PAGES and INTERVAL of the partner's last HELLO
(Table 6 of 09_host_lanes.md); the number of the next frame of a kind numbered per lane (R280); whether training is done and
waits for the client's other lanes (R268) and the precoding it chose (R259); consecutive frames with SYNC and a valid CRC outside
FRAME_LOCK, and without SYNC in it (R279); the time, in 10^-4 tick, up to which the line is filled with frames, the frames sent,
IDLE among them, and how many of them the last read of STUFF counted (R276, R281); the ticks at which CTLE was chosen, FFE and
DFE stopped adapting, SNR stopped, and an aborted training left the transmit FIR (R260, R262). -/
structure LaneState where
  retry : Bool := false
  prbsSince : Option Nat := none
  partnerPages : Nat := 0
  partnerInterval : Nat := 0
  txSeq : Nat := 0
  errSpans : List (Nat × Nat) := []
  ready : Bool := false
  precode : Nat := 0
  good : Nat := 0
  badSync : Nat := 0
  filledTo : Nat := 0
  frames : Nat := 0
  stuffFrom : Nat := 0
  ctleAt : Option Nat := none
  ffeAt : Option Nat := none
  dfeAt : Option Nat := none
  snrAt : Option Nat := none
  firAt : Option Nat := none
  deriving DecidableEq, Repr


/-- A Tsucor frame (Table 4 of 09_host_lanes.md) without SYNC and CRC. -/
structure TsuFrame where
  kind : Nat
  first : Bool := false
  last : Bool := false
  queue : Nat := 0
  len : Nat := 0
  seq : Nat := 0
  page : Nat := 0
  offset : Nat := 0
  tag : Nat := 0
  arg : Nat := 0
  data : List Byte := []
  deriving DecidableEq, Repr

/-- A queue page (R292, R295): logical page, physical page, whether its last granule is written, and the granule of its first
record start. -/
structure QPage where
  lpage : Nat
  phys : Nat
  full : Bool := false
  firstRec : Option Nat := none
  recs : List Nat := []
  deriving DecidableEq, Repr

/-- An external page of a queue: logical page, handle in the page store, first record start. -/
structure ExtPage where
  lpage : Nat
  handle : Nat
  firstRec : Option Nat := none
  recs : List Nat := []
  deriving DecidableEq, Repr

/-- A queue of Ringmaster beside its descriptor, state, positions and events in the queue-window registers: the region that
declares it; resident and external pages in position order; cache pages (logical, physical), the least recently read first;
pages sent out so far; the producer's position in bytes; reserved granules not yet written (R298); a trigger that waits for a
record start, and POST as it was at the trigger (R313); whether page-out runs (R315); records in the egress buffer of a spill
queue (R310); STREAM reception: the next SEQ and the frames held in the window (R321); the spans of bytes beyond TAIL that windows have
written, each its first byte and its length (R292, R298). -/
structure QueueSt where
  region : Nat
  pages : List QPage := []
  ext : List ExtPage := []
  cache : List (Nat × Nat) := []
  sentOut : Nat := 0
  wb : Nat := 0
  holes : List Nat := []
  trigPend : Bool := false
  postAct : Nat := 0
  paging : Bool := false
  egress : List (List Byte) := []
  rxNext : Option Nat := none
  rxHeld : List (Nat × Option Nat × List Byte) := []
  ahead : List (Nat × Nat) := []
  deriving DecidableEq, Repr

/-- An outstanding page transfer (R315 to R319): queue, logical page, handle, out or in, the cache page of a page-in, times
sent, and the frames received. -/
structure PageTransfer where
  tag : Nat
  queue : Nat
  lpage : Nat
  handle : Nat
  out : Bool
  phys : Nat
  tries : Nat := 0
  got : List Nat := []
  deriving DecidableEq, Repr

/-- A host DMA descriptor in progress or waiting (R300): ADDR, LEN, FLAGS, whether it waits, whether an ARM overtook it
(R313), the status that ends it without moving data, the bytes moved so far and the queue position of the first of them. -/
structure DmaJob where
  addr : Nat
  len : Nat
  irq : Bool
  shortOk : Bool
  waiting : Bool := false
  overtaken : Bool := false
  error : Option Nat := none
  done : Nat := 0
  start : Option Nat := none
  deriving DecidableEq, Repr

/-- A pseudo-channel (R303): the class whose turn it is, the deficits by class, the operations in flight, and the queue or
window last served of each kind (0 to 3) and class (4 to 11), windows counting from 65536. -/
structure PseudoChannel where
  cur : Nat := 0
  deficit : List (Nat × Nat) := []
  inflight : Nat := 0
  last : List (Nat × Nat) := []
  deriving DecidableEq, Repr

/-- Block RMS beside its registers: queues; whether a queue at or above RESERVE failed to get a page of the empty pool; pages
released in this command, whose contents become undefined; page transfers and the next tag; PAGE_ACK and PAGE_DATA frames
received and waiting; host DMA jobs by channel; token buckets by 2q + (0 write, 1 read) with their level in 1/28 bit and the tick
of their last change; pseudo-channels; 512-byte operations whose data is uncorrectable (R322); by pseudo-channel the queues that
still have an operation waiting there (R305); operations of window accesses not yet taken (R297); the forwarded groups whose exit
group has capacity (R467). MODEL: bytes written to
host memory by DMA, and the data of each window's last read. -/
structure RmsState where
  queues : List (Nat × QueueSt) := []
  poolShort : Bool := false
  freed : List Nat := []
  transfers : List PageTransfer := []
  nextTag : Nat := 0
  inbox : List TsuFrame := []
  jobs : List (Nat × DmaJob) := []
  buckets : List (Nat × (Nat × Nat)) := []
  pcs : List (Nat × PseudoChannel) := []
  bad : List Nat := []
  waitOps : List (Nat × List Nat) := []
  winOps : List HbmWait := []
  exits : List Nat := []
  hostWrites : List (Nat × List Byte) := []
  winData : List (Nat × List Byte) := []
  deriving DecidableEq, Repr

/-- What the device has sent over Tsucor: a frame on a lane, the 4,096 PAGE_WRITE frames of a physical page spread over
lanes, with their first SEQ (R315), or n IDLE frames that filled a lane, with their first SEQ (R280, R281). -/
inductive TsuSent where
  | frame (lane : Nat) (f : TsuFrame)
  | page (lanes : List Nat) (queue handle tag seq phys : Nat)
  | idle (lane seq n : Nat)
  deriving DecidableEq, Repr

/-- Block HST beside its registers: lanes; the number of the next data-bearing frame of each queue (R280). MODEL: the Tsucor
frames sent, newest last. -/
structure HstState where
  lanes : List (Nat × LaneState) := []
  queueSeq : List (Nat × Nat) := []
  sent : List TsuSent := []
  deriving DecidableEq, Repr

/-- A record being written (R369 to R375): SEQ, its header granule in a queue, payload bytes so far, time and RAWTIME of its
first payload, UNIT, UOFF, GAP, ALIGNED, UNSET, its marks, the tick it was opened in, the overrange marks of the port then,
SEL, DECIM, CHAIN and FMT. data holds the payload bytes of a record for a spill queue. Of a RING capture: the times of the pieces still
retained by their stream offset, and the payload bytes written when STOP acted. -/
structure OpenRecord where
  seq : Nat
  start : Nat := 0
  len : Nat := 0
  time : Nat := 0
  raw : Bool := false
  unit : Nat := 0
  uoff : Nat := 0
  gap : Bool := false
  aligned : Bool := false
  unset : Nat := 0
  mark : Option Nat := none
  markPos : Nat := 0
  marks : Nat := 0
  opened : Nat := 0
  ovr : Nat := 0
  sel : Nat := 0
  decim : Nat := 0
  chain : Nat := 0xFF
  fmt : Nat := 0
  data : List Byte := []
  times : List (Nat × Nat × Bool) := []
  stopAt : Option Nat := none
  deriving DecidableEq, Repr

/-- A tap beside its registers: whether its capture goes to a buffer; the record in progress; the destination of the next
record (R366); a held MARK with the number of marks held (R371); whether it makes no further attempt (R560); whether it waits
for a unit start; the earliest tap time of the capture (R368); entries of the event log already seen, entries of the tap before the last
CAPTURE commit; whether its source has stopped. -/
structure TapState where
  toBuffer : Bool := false
  record : Option OpenRecord := none
  nextDest : Option Nat := none
  heldMark : Option (Nat × Nat) := none
  refusing : Bool := false
  toUnit : Bool := false
  since : Nat := 0
  seen : Nat := 0
  unitBase : Nat := 0
  lost : Bool := false
  deriving DecidableEq, Repr

/-- A pass a player has begun (R386, R388): player, OUT and INST of its binding, and the segment. -/
structure PlayPass where
  player : Nat
  out : Nat
  inst : Nat
  seg : Nat
  deriving DecidableEq, Repr

/-- Block CAP beside its registers: taps; the tick of the last reset of each chain (R383); passes done of each player's
segment; superframes and OTUCn frames counted for the timing taps. MODEL: the passes players have begun. -/
structure CapState where
  taps : List (Nat × TapState) := []
  resetAt : List (Nat × Nat) := []
  passes : List (Nat × Nat) := []
  units : List (Nat × Nat) := []
  played : List PlayPass := []
  deriving DecidableEq, Repr


/-- A Calliope packet without preamble, sync word and CRC (Table 1 of 13_calliope_channel.md). -/
structure ClpPacket where
  type : Nat
  payload : List Byte
  deriving DecidableEq, Repr

/-- A packet of the receive FIFO (R413): packet, RSSI in 0.25 dB, INV, timestamp, matched partner entry. -/
structure ClpReceived where
  packet : ClpPacket
  rssi : Int
  inv : Bool
  time : Nat
  partner : Option Nat
  deriving DecidableEq, Repr

/-- A Calliope entry of the taps TX_CLP and RX_CLP (R378, R404): port, received or sent, RSSI, bytes from header to CRC, time. -/
structure ClpEntry where
  port : Nat
  rx : Bool
  rssi : Int
  bytes : List Byte
  time : Nat
  deriving DecidableEq, Repr

/-- A port of block CLP beside its registers: the transmit FIFO, a queued ECHO reply, whether a HELLO waits, the packet being
sent and the time it began, the tick at which the last one ended; the receive FIFO, the code phase of the packet being received in half chips, the time of its sync
word, the equaliser (eight FFE taps and four DFE taps in 1/4096) and the coefficients saved at preamble detection. -/
structure ClpPort where
  txFifo : List ClpPacket := []
  echo : Option (List Byte) := none
  hello : Bool := false
  sending : Option (ClpPacket × Nat) := none
  quietSince : Option Nat := none
  rxFifo : List ClpReceived := []
  phase : Nat := 0
  syncTime : Nat := 0
  taps : List Int := [0, 0, 4096, 0, 0, 0, 0, 0, 0, 0, 0, 0]
  saved : List Int := []
  deriving DecidableEq, Repr

/-- An entry of a PTP timestamp FIFO (R447). -/
structure PtpEntry where
  msgType : BitVec 4
  domain : BitVec 8
  seqId : BitVec 16
  time : Nat
  deriving DecidableEq, Repr

/-- A Sync message sent with its timestamp written into it (R448): originTimestamp, correctionField, and whether its UDP
checksum was set to 0. -/
structure PtpStamped where
  seqId : BitVec 16
  originSec : BitVec 48
  originNs : BitVec 32
  correction : BitVec 64
  udpChecksumZero : Bool
  deriving DecidableEq, Repr

/-- Block TIM beside its registers and the time counter: the pulse generator's phase minus the counter's (R441) and the
remaining pull (R436), both in 2^-40 ns; consecutive good frequency measurements of each candidate (R426); whether the XO
has edges and the root is locked (R435); the SYNC_IN and PPS_IN filters; a synchronising event due (R445); output pulses in
progress, the ticks of the last pulses and of the ends of those in progress, and whether the generator has realigned since (R442); the ticks at
which wait-to-restore timers began (R428), the DPLL took its state and reference (R433) and the averaging period began (R434); the PTP FIFOs and the Sync
messages stamped in one step. -/
structure TimState where
  genOff : Int := 0
  pull : Int := 0
  good : List (Nat × Nat) := []
  xoOk : Bool := true
  rootLocked : Bool := true
  syncIn : PinFilter := {}
  ppsIn : PinFilter := {}
  syncDue : Bool := false
  ppsHigh : Bool := false
  frameHigh : Bool := false
  syncOutHigh : Bool := false
  lastPps : Option Nat := none
  lastFrame : Option Nat := none
  pulseDue : List (Nat × Nat) := []
  wtrSince : List (Nat × Nat) := []
  dpllSince : Nat := 0
  hoSince : Nat := 0
  realignedPps : Bool := false
  realignedFrame : Bool := false
  ptpTx : List PtpEntry := []
  ptpRx : List PtpEntry := []
  ptpStamped : List PtpStamped := []
  deriving DecidableEq, Repr

/-- An event record of the ring (Table 2 of 15_horug_chain.md): LINE, EDGE, ORIG, EVSEQ, and the origin instant. -/
structure ChainEvent where
  line : Nat
  rise : Bool
  orig : Nat
  seq : Nat
  origin : Nat
  deriving DecidableEq, Repr

/-- A remote event that waits for its instant (R461): the event, the instant, and the link it came on; none for this module's own
chain SYNC. -/
structure ChainWait where
  event : ChainEvent
  time : Nat
  link : Option Nat
  deriving DecidableEq, Repr

/-- A transaction of a CTRL cell (R454). -/
structure CtrlTrans where
  op : Nat
  req : Nat
  tag : Nat
  addr : Nat
  data : Word := 0
  status : Nat := 0
  deriving DecidableEq, Repr

/-- A cell with its descriptor (Table 3 of 15_horug_chain.md). -/
structure ChainCell where
  kind : Nat
  dst : Nat := 0
  id : Nat := 0
  len : Nat := 0
  flags : Nat := 0
  seq : Nat := 0
  data : List Byte := []
  deriving DecidableEq, Repr

/-- A Horug link beside its registers: FSEQ of its next frame and the lane that takes it; HEAD_ID, position, MAXPOS and MEAS of the neighbour's
last HELLO (R454); the last offset measurement in ps (R458); the tick in which it entered RUN; whether a HELLO is due; event records and HB
cells that wait to be sent; the drives whose records were lost, as 8 × origin + line, which take their level from the next
frame's CT (R461). -/
structure LinkSt where
  fseq : Nat := 0
  lane : Nat := 0
  headId : Nat := 0
  nbPos : Option Nat := none
  maxPos : Nat := 0
  meas : Int := 0
  offset : Int := 0
  runSince : Nat := 0
  helloDue : Bool := false
  events : List ChainEvent := []
  hb : List (Nat × Nat × Nat) := []
  resync : List Nat := []
  deriving DecidableEq, Repr

/-- Block CHN beside its registers: links 0 and 1; the last own EVSEQ; the records applied, newest first (R460); remote events that
wait; the links a remote drive was learned through, by 8 × origin + line; CTRL transactions to send with their destination; requests and
completions received; the next TAG and the TAG outstanding by requester code; relayed SPILL cells; frames that wait at the exit with
their group; cells sent and the last cell received by flow (R465). MODEL: the frames sent, with link and lane. -/
structure ChnState where
  links : List (Nat × LinkSt) := []
  evSeq : Nat := 0
  applied : List (Nat × Nat) := []
  waiting : List ChainWait := []
  learned : List (Nat × List Nat) := []
  ctrlOut : List (Nat × CtrlTrans) := []
  ctrlIn : List CtrlTrans := []
  done : List CtrlTrans := []
  tag : Nat := 0
  pendingTag : List (Nat × Nat) := []
  relayed : List ChainCell := []
  exitWait : List (Nat × TsuFrame) := []
  oduSeq : List (Nat × Nat) := []
  oduRx : List (Nat × (Bool × List Byte)) := []
  sent : List (Nat × Nat × List Byte) := []
  deriving DecidableEq, Repr

/-- Levels of the strap lands (R472, R547). -/
structure Straps where
  bootSel : BitVec 2 := 0
  chainHead : Bool := false
  i2cAddr : BitVec 2 := 0
  deriving DecidableEq, Repr


/-- A mailbox channel beside its registers (R485 to R490, R494): the request Lyfate has accepted, the reply it has computed
(STATUS and payload), whether that reply is to be discarded, its key-encryption key and its unused challenge. -/
structure MbChannel where
  req : Option (List Byte) := none
  reply : Option (Nat × List Byte) := none
  discard : Bool := false
  kek : Option (List Byte) := none
  challenge : Option (List Byte) := none
  deriving DecidableEq, Repr

/-- Block SEC beside its registers: fuses; the boot flash, whose unlisted bytes are erased; the digests of the running Lyfate
and application firmware and of each region's image (R499); chip resets since power-on; channels; the channels whose fuse command
or flash command runs (R487); the tick of the last kick of the watchdog. -/
structure SecState where
  fuses : Fuses := {}
  flash : List (Nat × Byte) := []
  lyfDigest : List Byte := []
  appDigest : List Byte := []
  regionDigest : List (Nat × List Byte) := []
  boots : Nat := 0
  chans : List (Nat × MbChannel) := []
  fuseBusy : Option Nat := none
  flashBusy : Option Nat := none
  kick : Nat := 0
  deriving DecidableEq, Repr


/-- A shedding decision in force (Table 4 of 18_power_and_housekeeping.md), with what its undo needs: the clusters gated before
it, or RMS_TR_CAP before it. -/
inductive ShedStep where
  | gate (before : BitVec 8)
  | capture (before : Nat)
  | taps
  | iter
  | port (x : Nat)
  deriving DecidableEq, Repr

/-- What the housekeeping domain measures, which no chip reset and no thermal trip takes away: VIN in 10 mV, input current in mA,
input power over the last 10 ms in 0.1 W, Tj in 0.1 °C and its sensor (R523, R549), and how many samples of a thermal trip's hold
have found every sensor below 90 °C, one after another (R525). -/
structure HkDomain where
  vin : Nat := 0
  iin : Nat := 0
  power : Nat := 0
  tj : Int := 0
  sensor : Nat := 0
  cool : Nat := 0
  deriving DecidableEq, Repr

/-- Block PWR beside its registers: the sum in 10 mW and the number of power samples of this decision period (R530), whether the
current limit acted in it; the settings in use since the last decision (R533); the decisions in force, newest first; consecutive
decisions with room (R530); the tick until which ITER_ACT of a port stays at ITER_MAX (R529); of the housekeeping ADC the channel being
converted, the pending START and whether the next result carries SETTLE (R535, R536); whether
the calibration that follows PWRGOOD has yet to run (R537). -/
structure PwrState where
  sum : Nat := 0
  samples : Nat := 0
  limited : Bool := false
  cap : Nat := 190
  throttleT : Nat := 100
  adaptEn : Bool := true
  shedEn : Bool := true
  trafficEn : Bool := true
  aFirst : Bool := false
  steps : List ShedStep := []
  room : Nat := 0
  iterHold : List (Nat × Nat) := []
  conv : Option Nat := none
  next : Option Nat := none
  settle : Bool := false
  calDue : Bool := true
  deriving DecidableEq, Repr

/-- The I2C status target (R548, R549): the status block as last refreshed, the copy of the transfer in progress, the offset,
whether a transfer is in progress. MODEL: the bytes of the last read. -/
structure I2cState where
  block : List Byte := []
  copy : List Byte := []
  offset : Nat := 0
  active : Bool := false
  out : List Byte := []
  deriving DecidableEq, Repr



/-- The device: everything but the contents of HBM and capture SRAM and the queue of commands. -/
structure Dev where
  /-- Register values that differ from reset, by register key; for a shadowed field the active copy. -/
  regs : List (Nat × Word) := []
  /-- Shadow copies that wait for their boundary (R35), by register key. -/
  shadow : List (Nat × Word) := []
  /-- Held writes of _LO and _MID registers (R21), by register key. -/
  held : List (Nat × Word) := []
  /-- Snapshots of _MID and _HI registers (R18, R19), by requester code × 2^32 + address. -/
  snaps : List (Nat × Word) := []
  /-- MODEL: the data of each requester's last read, by requester code. -/
  rdata : List (Nat × Word) := []
  /-- MODEL: how many free values have been drawn. -/
  fresh : Nat := 0
  /-- Fabric ticks since reset. -/
  ticks : Nat := 0
  /-- The device time counter (R22, R438), in units of 2^-40 ns. -/
  tc : Nat := 0
  /-- MSI-X messages sent (R11), newest last. -/
  msix : List Nat := []
  /-- Traps delivered to application cores (R512), newest last. -/
  traps : List Nat := []
  /-- External interrupts signalled to application cores (R503), newest last. -/
  coreInts : List Nat := []
  /-- Entries of the event taps (R378), newest last. -/
  tapLog : List TapEvent := []
  /-- Fault sources whose real cause is present now (R504). -/
  causes : List Nat := []
  /-- Causes on their way to the collector, with the time each arose (R510, R512). -/
  arising : List (Nat × Nat) := []
  /-- A message on vector 18 is due (R512). -/
  msiDue : Bool := false
  /-- The tick from which the next message on vector 18 may be sent (R512). -/
  msiFrom : Nat := 0
  /-- Block resets that wait for a commit of the block's region (R79). -/
  resetWait : List Nat := []
  /-- The PCIe link has been in L0 since the last chip reset. -/
  pcieSeen : Bool := false
  /-- The identity of the PCIe function (R2). -/
  pcieIds : PcieIds := {}
  str : StrState := {}
  prb : PrbState := {}
  /-- Conversion runs (R520). -/
  powered : Bool := true
  /-- The chip is held in reset by a thermal trip (R525). -/
  thermHold : Bool := false
  /-- Drives of the chain lines by the other modules of the ring, by position (R345, R460). -/
  chainRemote : List (Nat × BitVec 8) := []
  /-- Probe clusters that Tightrope clock-gates (R331, R530). -/
  gated : BitVec 8 := 0
  /-- Edges of the chain lines driven here that wait to be sent over Horug: line, level, time (R460). -/
  chainOut : List (Nat × Bool × Nat) := []
  /-- Line ports A (0) and B (1). -/
  line : List (Nat × LineState) := []
  /-- The FEC of ports A (0) and B (1). -/
  fec : List (Nat × FecState) := []
  frm : FrmState := {}
  cry : CryState := {}
  mrg : MrgState := {}
  hst : HstState := {}
  rms : RmsState := {}
  /-- STREAM frames of forwarded groups that wait to travel over Horug, with their group (R467). -/
  spillOut : List (Nat × TsuFrame) := []
  cap : CapState := {}
  /-- The Calliope receivers and transmitters of ports A (0) and B (1). -/
  clp : List (Nat × ClpPort) := []
  /-- Entries of the Calliope taps (R404), newest last. -/
  clpLog : List ClpEntry := []
  /-- HB cells that wait to be sent on both Horug links: DIGEST, PORT, COUNT (R466). -/
  hbOut : List (Nat × Nat × Nat) := []
  tim : TimState := {}
  chn : ChnState := {}
  /-- Strap lands as sampled (R547). -/
  straps : Straps := {}
  sec : SecState := {}
  pwr : PwrState := {}
  /-- The housekeeping domain (R525, R549). -/
  hk : HkDomain := {}
  i2c : I2cState := {}
  deriving DecidableEq, Repr

/-- Why a step could stop with a fault: never. The spec lets every abnormal condition reach the fault collector and the
machine go on (R43), so no command of this model stops with a fault. -/
inductive Fault where
  deriving DecidableEq, Repr

/-- Why a command has no meaning in this model. -/
inductive Refusal where
  /-- The command's meaning is not written yet; raised by Machine/Dispatch.lean alone. Safe: nothing is claimed of it. -/
  | notModelled (mnemonic : String)
  deriving DecidableEq, Repr

/-- The state of the block: the device, the contents of HBM (24 GiB) and of capture SRAM (192 MiB), and the commands that
wait, first in first out. -/
structure State where
  dev : Dev := {}
  hbm : Memory := {}
  sram : Memory := {}
  pending : List Instr := []
  deriving DecidableEq, Repr

/-- The machine right after power-on reset: every register at its reset value, memory with nothing listed, no command
waiting. -/
def State.reset : State := {}

end Sys2Proof.Machine
end

