-- ==== Sys2Proof/Machine/Operands.lean ====
section
/-! DEFINITION. The one home of register access: which register a key names, its reset value, reading and writing it whole and
by field, the rule for written values, shadow copies. -/

namespace Sys2Proof.Machine

/-- First key of the per-requester copies; key a + 2^32 * (code + 1) is the copy of a requester. -/
def reqBase : Nat := 0x100000000

/-- First key of the queue-window registers; queue q has 0x100 keys from queueBase + 0x100 * q. -/
def queueBase : Nat := 0x10000000000

/-- The BAR0 address whose table line describes a key. -/
def keyAddr (a : Nat) : Nat :=
  if a < reqBase then a
  else if a < queueBase then a % reqBase
  else 0x900400 + (a - queueBase) % 0x100

/-- The block a key belongs to (R6). -/
def keyBlock (a : Nat) : Nat := keyAddr a / 0x100000

/-- Whether an offset is one of the copies that (count, stride) pairs lay out. -/
def dimsMatch : List (Nat × Nat) → Nat → Bool
  | [], off => off == 0
  | (c, st) :: r, off => decide (off / st < c) && dimsMatch r (off % st)

/-- Whether address a is a copy of the register. -/
def RegDesc.covers (r : RegDesc) (a : Nat) : Bool := decide (r.base ≤ a) && dimsMatch r.dims (a - r.base)

/-- The register of an address, none for an unallocated offset (R8). -/
def regAt (a : Nat) : Option RegDesc := (blockRegs (a / 0x100000)).find? (fun r => r.covers a)

/-- A word with a value placed in bits [hi:lo] and 0 elsewhere. -/
def placeBits (hi lo v : Nat) : Word := (BitVec.ofNat 32 (v % 2 ^ (hi - lo + 1))) <<< lo

/-- The mask of bits [hi:lo]. -/
def maskBits (hi lo : Nat) : Word := placeBits hi lo (2 ^ (hi - lo + 1) - 1)

/-- The value of bits [hi:lo] of a word. -/
def getBits (w : Word) (hi lo : Nat) : Nat := (w >>> lo).toNat % 2 ^ (hi - lo + 1)

/-- A word with bits [hi:lo] replaced. -/
def setBits (w : Word) (hi lo v : Nat) : Word := (w &&& ~~~(maskBits hi lo)) ||| placeBits hi lo v

/-- The reset word of a register: its fields' reset values, reserved bits 0 (R13). -/
def RegDesc.resetWord (r : RegDesc) : Word := r.fields.foldl (fun w f => w ||| placeBits f.hi f.lo f.reset) 0

/-- The reset value of the register with key a. Tap 31 of a pre-distortion bank resets to 0x4000 (Table 37 of
04_coherent_dsp.md); an unallocated key reads 0 (R8). -/
def resetWordOf (a : Nat) : Word :=
  let b := keyAddr a
  if (b / 0x100000 = 2 ∨ b / 0x100000 = 3) ∧ 0x4000 ≤ b % 0x100000 ∧ b % 0x100000 < 0x4800 ∧ b % 0x100 = 0x7C then 0x4000
  else match regAt b with
    | some r => r.resetWord
    | none => 0

/-- The value of the register with key a; of a shadowed field, the active copy. -/
def Dev.reg (d : Dev) (a : Nat) : Word := Sparse.get (resetWordOf a) d.regs a

/-- The device with value v in the register with key a. -/
def Dev.setReg (d : Dev) (a : Nat) (v : Word) : Dev := { d with regs := Sparse.put (resetWordOf a) d.regs a v }

/-- The value of a field. -/
def Dev.get (d : Dev) (f : Fld) : Nat := getBits (d.reg f.addr) f.hi f.lo

/-- The device with value v in a field. -/
def Dev.put (d : Dev) (f : Fld) (v : Nat) : Dev := d.setReg f.addr (setBits (d.reg f.addr) f.hi f.lo v)

/-- Whether a one-bit field is 1. -/
def Dev.isSet (d : Dev) (f : Fld) : Bool := d.get f != 0

/-- A flag as a field value. -/
def bit (b : Bool) : Nat := if b then 1 else 0

/-- A number from the two's-complement value of w bits. -/
def toSigned (w v : Nat) : Int := if v % 2 ^ w < 2 ^ (w - 1) then (v % 2 ^ w : Nat) else ((v % 2 ^ w : Nat) : Int) - (2 ^ w : Nat)

/-- The two's-complement value of w bits of a number. -/
def ofSigned (w : Nat) (i : Int) : Nat := (i % (2 ^ w : Nat)).toNat

/-- The nearest number from lo to hi. -/
def clampInt (lo hi i : Int) : Int := if i < lo then lo else if hi < i then hi else i

/-- The nearest natural number from lo to hi. -/
def clampNat (lo hi v : Nat) : Nat := if v < lo then lo else if hi < v then hi else v

/-- A signed field's value. -/
def Dev.getInt (d : Dev) (f : Fld) : Int := toSigned (f.hi - f.lo + 1) (d.get f)

/-- Write a signed value, which saturates at the field's range. -/
def Dev.putIntSat (d : Dev) (f : Fld) (i : Int) : Dev :=
  let w := f.hi - f.lo + 1
  d.put f (ofSigned w (clampInt (-((2 ^ (w - 1) : Nat) : Int)) (((2 ^ (w - 1) : Nat) : Int) - 1) i))

/-- What a field of w bits stores for a written value. -/
def Norm.store (n : Norm) (w v : Nat) : Nat :=
  match n with
  | .any => v
  | .special => v
  | .clamp lo hi => clampNat lo hi v
  | .sclamp lo hi => ofSigned w (clampInt lo hi (toSigned w v))
  | .exceeds l x => if l < v then x else v
  | .odd => v / 2 * 2 + 1
  | .even => v / 2 * 2

/-- The value of a 64-bit (or narrower) value split over two consecutive registers (wide values, 00_scope.md). -/
def Dev.reg64 (d : Dev) (lo : Nat) : Nat := (d.reg (lo + 4)).toNat * 2 ^ 32 + (d.reg lo).toNat

/-- Write a value over two consecutive registers. -/
def Dev.setReg64 (d : Dev) (lo v : Nat) : Dev :=
  (d.setReg lo (BitVec.ofNat 32 v)).setReg (lo + 4) (BitVec.ofNat 32 (v / 2 ^ 32))

/-- Write 1 to bit i of a status word. -/
def Dev.setBit (d : Dev) (a i : Nat) : Dev := d.setReg a (d.reg a ||| placeBits i i 1)

/-- Write 0 to bit i of a status word. -/
def Dev.clrBit (d : Dev) (a i : Nat) : Dev := d.setReg a (d.reg a &&& ~~~(placeBits i i 1))

/-- Write bit i of a status word. -/
def Dev.putBit (d : Dev) (a i : Nat) (b : Bool) : Dev := if b then d.setBit a i else d.clrBit a i

/-- Bit i of a register. -/
def Dev.bitAt (d : Dev) (a i : Nat) : Bool := (d.reg a).getLsbD i

/-- Add n to a counter field, which saturates at all ones (R16). -/
def Dev.incSat (d : Dev) (f : Fld) (n : Nat := 1) : Dev := d.put f (min (d.get f + n) (2 ^ (f.hi - f.lo + 1) - 1))

/-- Add n to a w-bit counter split over _LO and _HI, which saturates (R16). -/
def Dev.incWide (d : Dev) (lo w n : Nat) : Dev := d.setReg64 lo (min (d.reg64 lo + n) (2 ^ w - 1))

/-- The shadow value where one is pending, else the active value: what a read of a shadowed field returns (R38). -/
def Dev.shadowReg (d : Dev) (a : Nat) : Word := Sparse.get (d.reg a) d.shadow a

/-- Keep a value pending for the register's boundary (R35). -/
def Dev.setShadow (d : Dev) (a : Nat) (v : Word) : Dev := { d with shadow := Sparse.insert a v d.shadow }

/-- The bits of a register that are shadowed. -/
def RegDesc.shadowMask (r : RegDesc) : Word :=
  r.fields.foldl (fun w f => if f.acc = .rws then w ||| maskBits f.hi f.lo else w) 0

/-- The shadowed bits of the register with key a. -/
def shadowMaskOf (a : Nat) : Word := match regAt (keyAddr a) with
  | some r => r.shadowMask
  | none => 0

/-- Merge the shadowed bits of a pending word into an active word. -/
def mergeShadow (mask active pend : Word) : Word := (active &&& ~~~mask) ||| (pend &&& mask)

/-- Whether GLB_SHADOW_HOLD suspends the block's copies (R37). -/
def Dev.held? (d : Dev) (block : Nat) : Bool := d.bitAt Reg.GLB_SHADOW_HOLD block

end Sys2Proof.Machine
end

