-- ==== Sys2Proof/Machine/FecCode.lean ====
section
/-! DEFINITION. The code of block FEC as pure functions: packing, enumerative sphere shaping, the LDPC code, codeword assembly
and the order of bits at the SYMBOL level (R154 to R162). -/

namespace Sys2Proof.Machine

/-- The packing of a format (Table 1): bits per real dimension, codewords, shaping blocks, shaping bits per block, OTU bits,
fill bits, the energy bound of a block (Table 2). -/
structure Packing where
  m : Nat
  codewords : Nat
  blocks : Nat
  k : Nat
  otuBits : Nat
  fill : Nat
  eMax : Nat
  deriving DecidableEq, Repr

/-- The packing of PCS-16QAM (0), PCS-64QAM (1) and PCS-256QAM (Table 1, Table 2 of 05_shaping_and_fec.md). -/
def packing (fmt : Nat) : Packing :=
  if fmt = 0 then ⟨2, 224, 9543, 94, 1642428, 86, 380⟩
  else if fmt = 1 then ⟨3, 336, 9547, 195, 2463642, 135, 1372⟩
  else ⟨4, 448, 9548, 296, 3284856, 104, 4948⟩

/-- Real dimensions in a superframe. -/
def superDims : Nat := 1032192
/-- Real dimensions in a codeword, D = 9,216 / m. -/
def Packing.dims (p : Packing) : Nat := 9216 / p.m
/-- Label bits of a codeword. -/
def Packing.labels (p : Packing) : Nat := p.dims * (p.m - 1)
/-- Sign-information bits of a codeword, S. -/
def Packing.signs (p : Packing) : Nat := 7936 - p.labels
/-- Net bits of a superframe. -/
def Packing.netBits (p : Packing) : Nat := p.blocks * p.k + p.codewords * p.signs
/-- The amplitudes of the alphabet: 1, 3, ..., 2^m - 1. -/
def Packing.amps (p : Packing) : List Nat := (List.range (2 ^ (p.m - 1))).map (fun i => 2 * i + 1)

/-! ### Enumerative sphere shaping (R157) -/

/-- The number of sequences of len amplitudes with energy at most e. -/
def sphereCount (amps : List Nat) : Nat → Nat → Nat
  | 0, _ => 1
  | len + 1, e => (amps.map (fun a => if a * a ≤ e then sphereCount amps len (e - a * a) else 0)).sum

/-- The first amplitude a for which v is below the number of sequences that go on from it, with what is left of v; the largest
where none is. -/
def shapePick (amps : List Nat) (len rem : Nat) : List Nat → Nat → Nat × Nat
  | [], v => (amps.getLastD 1, v)
  | a :: r, v =>
    let n := if a * a ≤ rem then sphereCount amps len (rem - a * a) else 0
    if v < n then (a, v) else shapePick amps len rem r (v - n)

/-- The amplitudes of an index v: len of them within energy rem (R157). -/
def shapeBlock (amps : List Nat) : Nat → Nat → Nat → List Nat
  | 0, _, _ => []
  | len + 1, rem, v =>
    let (a, w) := shapePick amps len rem amps v
    a :: shapeBlock amps len (rem - a * a) w

/-- The index of an amplitude sequence: what shapeBlock would have read. -/
def unshape (amps : List Nat) : List Nat → Nat → Nat
  | [], _ => 0
  | a :: r, rem =>
    ((amps.filter (fun b => decide (b < a))).map
      (fun b => if b * b ≤ rem then sphereCount amps r.length (rem - b * b) else 0)).sum + unshape amps r (rem - a * a)

/-- The energy of a sequence. -/
def energy (l : List Nat) : Nat := (l.map (fun a => a * a)).sum

/-- A number from bits, first bit most significant. -/
def bitsNat (l : List Bool) : Nat := l.foldl (fun v b => 2 * v + bit b) 0
/-- The n bits of a number, most significant first. -/
def natBits (n v : Nat) : List Bool := (List.range n).map (fun i => v.testBit (n - 1 - i))

/-- The amplitude of superframe dimension e for a net bit stream: a shaped block's, or a fill amplitude (R157, R158). -/
def superAmp (p : Packing) (net : List Bool) (e : Nat) : Nat :=
  if e < 108 * p.blocks then
    (shapeBlock p.amps 108 p.eMax (bitsNat ((net.drop (e / 108 * p.k)).take p.k))).getD (e % 108) 1
  else if e % 2 = 0 then 1 else 3

/-! ### The LDPC code (R159) -/

/-- The shift P[r][c] of the base matrix; none for an all-zero block. -/
def ldpcShift (r c : Nat) : Option Nat :=
  if c < 31 then some (([1, 5, 11, 19, 29].getD r 0 * (7 * (c + 1) % 32 + 32 * (3 * c % 8))) % 256)
  else if c = 31 + r ∨ (c + 1 = 31 + r) then some 0
  else none

/-- Parity bit t of row r: the direct recursion along the dual diagonal. -/
def ldpcParity (u : Nat → Bool) : Nat → Nat → Bool
  | r, t =>
    let s := (List.range 31).foldl (fun s c => xor s (u (256 * c + (t + (ldpcShift r c).getD 0) % 256))) false
    match r with
    | 0 => s
    | r + 1 => xor s (ldpcParity u r t)

/-- Whether parity check 256r + t of a codeword holds. -/
def ldpcCheck (v : Nat → Bool) (r t : Nat) : Bool :=
  !((List.range 36).foldl (fun s c => match ldpcShift r c with
    | some p => xor s (v (256 * c + (t + p) % 256))
    | none => s) false)

/-- Whether all 1,280 checks hold. -/
def ldpcOk (v : Nat → Bool) : Bool := (List.range 5).all (fun r => (List.range 256).all (fun t => ldpcCheck v r t))

/-! ### Codeword assembly and placement (R160, R161) -/

/-- Superframe dimension of position j of codeword c. -/
def placeDim (p : Packing) (c j : Nat) : Nat := j * p.codewords + (c + p.codewords * j - j) % p.codewords
/-- The codeword that superframe dimension e belongs to. -/
def dimCodeword (p : Packing) (e : Nat) : Nat := (e % p.codewords + e / p.codewords) % p.codewords
/-- The position of superframe dimension e in its codeword. -/
def dimPos (p : Packing) (e : Nat) : Nat := e / p.codewords

/-- The Gray label of an amplitude (R160). -/
def grayLabel (a : Nat) : Nat := ((a - 1) / 2) ^^^ ((a - 1) / 2 / 2)
/-- The amplitude of a Gray label: the one of the alphabet that carries it. -/
def grayAmp (amps : List Nat) (g : Nat) : Nat := (amps.find? (fun a => grayLabel a == g)).getD 1

/-- Bit i of the information part of codeword c. -/
def infoBit (p : Packing) (net : List Bool) (c i : Nat) : Bool :=
  if i < p.labels then
    (grayLabel (superAmp p net (placeDim p c (i / (p.m - 1))))).testBit (p.m - 2 - i % (p.m - 1))
  else net.getD (p.blocks * p.k + c * p.signs + (i - p.labels)) false

/-- The sign bit of superframe dimension e: a sign-information bit, or a parity bit. -/
def signBit (p : Packing) (net : List Bool) (e : Nat) : Bool :=
  let c := dimCodeword p e
  let j := dimPos p e
  if j < p.signs then infoBit p net c (p.labels + j)
  else ldpcParity (infoBit p net c) ((j - p.signs) / 256) ((j - p.signs) % 256)

/-- The bits of dimension e at the SYMBOL level: sign, then label bits, most significant first (R161). -/
def dimBits (p : Packing) (net : List Bool) (e : Nat) : List Bool :=
  signBit p net e :: natBits (p.m - 1) (grayLabel (superAmp p net e))

/-- The coded bits of a superframe in the order the encoder delivers them. -/
def encodeNet (p : Packing) (net : List Bool) : List Bool := (List.range superDims).flatMap (dimBits p net)

/-- The net bit stream of a superframe's OTU bits: the bits, then the fill bits 0 (R156). -/
def netStream (p : Packing) (otu : List Bool) : List Bool :=
  (List.range p.netBits).map (fun i => decide (i < p.otuBits) && otu.getD i false)

/-- The superframe symbol that carries payload symbol q; pilots are skipped (R161). -/
def payloadSymbol (q : Nat) : Nat := 64 * (q / 63) + 1 + q % 63

/-- One step of the PRBS31 generator x^31 + x^28 + 1 (R162): the output bit and the next state. -/
def prbs31 (st : BitVec 31) : Bool × BitVec 31 :=
  let b := xor (st.getLsbD 30) (st.getLsbD 27)
  (b, (st <<< 1) ||| (if b then 1 else 0))

/-- n bits of PRBS31. -/
def prbs31Bits : Nat → BitVec 31 → List Bool × BitVec 31
  | 0, st => ([], st)
  | n + 1, st =>
    let (b, st) := prbs31 st
    let (l, st) := prbs31Bits n st
    (b :: l, st)

/-! ### Pilots (R118 to R120) -/

/-- One step of PRBS9, x^9 + x^5 + 1. -/
def prbs9 (st : BitVec 9) : Bool × BitVec 9 :=
  let b := xor (st.getLsbD 8) (st.getLsbD 4)
  (b, (st <<< 1) ||| (if b then 1 else 0))
/-- One step of PRBS15, x^15 + x^14 + 1. -/
def prbs15 (st : BitVec 15) : Bool × BitVec 15 :=
  let b := xor (st.getLsbD 14) (st.getLsbD 13)
  (b, (st <<< 1) ||| (if b then 1 else 0))
/-- Output bit i of a generator. -/
def genBit {w : Nat} (step : BitVec w → Bool × BitVec w) : Nat → BitVec w → Bool
  | 0, st => (step st).1
  | i + 1, st => genBit step i (step st).2

/-- Whether symbol k of a superframe is a pilot (R118). -/
def isPilot (k : Nat) : Bool := k % 64 == 0
/-- Bit b (0 or 1) of pilot i of polarisation pol (0 X, 1 Y) (R120). -/
def pilotBit (pol i b : Nat) : Bool :=
  if i < 64 then genBit prbs9 (2 * i + b) (if pol = 0 then 0x1FF else 0x0B5)
  else genBit prbs15 (2 * (i - 64) + b) (if pol = 0 then 0x2B1D else 0x54E3)
/-- The pilot amplitude of a format (Table 3 of 04_coherent_dsp.md). -/
def pilotAmp (fmt : Nat) : Int := if fmt = 0 then 3 else if fmt = 1 then 5 else 9
/-- The symbol sent for pilot i of polarisation pol: its I and Q in grid units (R119). -/
def pilotSymbol (fmt pol i : Nat) : Int × Int :=
  (pilotAmp fmt * (1 - 2 * (bit (pilotBit pol i 0) : Int)), pilotAmp fmt * (1 - 2 * (bit (pilotBit pol i 1) : Int)))

/-- Symbol k of a superframe on a polarisation: a pilot, or the payload the coded bits carry (R118, R161). -/
def lineSymbol (fmt : Nat) (net : List Bool) (pol k : Nat) : Int × Int :=
  let p := packing fmt
  if isPilot k then pilotSymbol fmt pol (k / 64) else
    let q := 63 * (k / 64) + k % 64 - 1
    let dim (i : Nat) : Int :=
      let e := 4 * q + 2 * pol + i
      (if signBit p net e then -1 else 1) * (superAmp p net e : Int)
    (dim 0, dim 1)

/-! ### Decoding (R163, R164, R167) -/

/-- The value of a 5-bit LLR; -16 reads as -15. -/
def llrValue (l : BitVec 5) : Int := if l = 16 then -15 else l.toInt

/-- The LLR of coded bit i of codeword c: the received one, or ±15 for the bits that R156 and R158 fix. -/
def codedLlr (p : Packing) (llrs : List (BitVec 5)) (c i : Nat) : Int :=
  if i < p.labels then
    let e := placeDim p c (i / (p.m - 1))
    let l := i % (p.m - 1)
    if 108 * p.blocks ≤ e then
      (if (grayLabel (if e % 2 = 0 then 1 else 3)).testBit (p.m - 2 - l) then -15 else 15)
    else llrValue (llrs.getD (e * p.m + 1 + l) 0)
  else
    let j := i - p.labels
    if c + 1 = p.codewords ∧ j < p.signs ∧ p.signs ≤ j + p.fill then 15
    else llrValue (llrs.getD (placeDim p c j * p.m) 0)

/-- What decoding one codeword gives: decided bits, iterations, whether its checks hold, and corrected bits. -/
structure Decoded where
  bits : List Bool
  iters : Nat
  ok : Bool
  corr : Nat
  deriving DecidableEq, Repr

/-- The decoder at work on a codeword: the sum of LLR and messages of each bit, and the message of each check to each of its bits, at
36 (256 r + t) + column. -/
structure MinSum where
  sums : List Int
  msgs : List Int
  deriving DecidableEq, Repr

/-- Whether the bit of a sum decides 1: L ≥ 0 decides 0 (R171). -/
def hardBit (l : List Int) (i : Nat) : Bool := decide (l.getD i 0 < 0)

/-- The messages of a check from what its bits tell it, by normalised min-sum: the sign is the product of the other signs, the magnitude
NORM / 16 times the least of the others (R164). -/
def checkMessages (norm : Nat) (q : List Int) : List Int :=
  (List.range q.length).map (fun i =>
    let others := q.eraseIdx i
    let m := (others.map Int.natAbs).foldl min ((others.headD 0).natAbs)
    let neg := (others.filter (fun v => decide (v < 0))).length % 2 == 1
    let v : Int := Config.minSumScale norm m
    if neg then -v else v)

/-- Check t of layer r is processed. -/
def minSumCheck (norm r : Nat) (d : MinSum) (t : Nat) : MinSum :=
  let cols := (List.range 36).filter (fun c => (ldpcShift r c).isSome)
  let bitOf (c : Nat) : Nat := 256 * c + (t + (ldpcShift r c).getD 0) % 256
  let slot (c : Nat) : Nat := 36 * (256 * r + t) + c
  let q := cols.map (fun c => d.sums.getD (bitOf c) 0 - d.msgs.getD (slot c) 0)
  let m := checkMessages norm q
  (cols.zipIdx).foldl (fun (e : MinSum) (c : Nat × Nat) =>
    { sums := e.sums.set (bitOf c.1) (Config.minSumFit (q.getD c.2 0 + m.getD c.2 0)),
      msgs := e.msgs.set (slot c.1) (m.getD c.2 0) }) d

/-- One iteration: the five base rows are the layers, in the order 0 to 4 (R164). -/
def minSumIteration (norm : Nat) (d : MinSum) : MinSum :=
  (List.range 5).foldl (fun d r => (List.range 256).foldl (minSumCheck norm r) d) d

/-- Up to n iterations; with EARLY_STOP the decoding stops after the first that satisfies all checks (R164). The sums, and the iterations
done. -/
def minSumRun (norm : Nat) (early : Bool) : Nat → MinSum → List Int × Nat
  | 0, d => (d.sums, 0)
  | n + 1, d =>
    let d := minSumIteration norm d
    if early && ldpcOk (hardBit d.sums) then (d.sums, 1)
    else
      let r := minSumRun norm early n d
      (r.1, r.2 + 1)

/-- Decode codeword c: hard decisions of the last of at most iterAct iterations (R164, R167). Corrected bits differ from the hard input
decision of the LLR that enters decoding, with the fixed bits replaced: the spec does not say whether it is taken before the replacement
(DESIGN CHOICE, notes/assumptions/6.md). -/
def decodeCodeword (p : Packing) (norm iterAct : Nat) (early : Bool) (llrs : List (BitVec 5)) (c : Nat) : Decoded :=
  let l := (List.range 9216).map (codedLlr p llrs c)
  let r := minSumRun norm early iterAct { sums := l, msgs := List.replicate (36 * 1280) 0 }
  { bits := (List.range 9216).map (hardBit r.1),
    iters := r.2,
    ok := ldpcOk (hardBit r.1),
    corr := ((List.range 9216).filter (fun i => hardBit r.1 i != hardBit l i)).length }

/-- The decided amplitude of dimension e. -/
def decidedAmp (p : Packing) (cws : List Decoded) (e : Nat) : Nat :=
  let b := (cws.getD (dimCodeword p e) ⟨[], 0, true, 0⟩).bits
  grayAmp p.amps (bitsNat ((b.drop (dimPos p e * (p.m - 1))).take (p.m - 1)))

/-- The k bits of shaping block b and whether it is a shaping error: energy above E_max, or an index of 2^k or above (R167). -/
def rebuildBlock (p : Packing) (cws : List Decoded) (b : Nat) : List Bool × Bool :=
  let as := (List.range 108).map (fun i => decidedAmp p cws (108 * b + i))
  let v := unshape p.amps as p.eMax
  if p.eMax < energy as ∨ 2 ^ p.k ≤ v then (List.replicate p.k false, true) else (natBits p.k v, false)

/-- The OTU bits of the decoded codewords and the number of shaping errors. -/
def rebuild (p : Packing) (cws : List Decoded) : List Bool × Nat :=
  let bs := (List.range p.blocks).map (rebuildBlock p cws)
  let signs := cws.flatMap (fun w => (w.bits.drop p.labels).take p.signs)
  ((bs.flatMap (·.1) ++ signs).take p.otuBits, (bs.filter (·.2)).length)

end Sys2Proof.Machine
end

