-- ==== Sys2Proof/Machine/Flags.lean ====
section
/-! DEFINITION. Flags: interrupt status bits with their MSI-X messages, and fault causes. -/

namespace Sys2Proof.Machine

/-- The interrupt registers of a block and the vector it signals (R11). -/
structure IntBank where
  status : Nat
  enable : Nat
  vector : Nat
  deriving DecidableEq, Repr

/-- Block STR signals vector 1 (Table 23 of 02_structure_images.md). -/
def intSTR : IntBank := ⟨Reg.STR_INT_STATUS, Reg.STR_INT_EN, 1⟩
/-- Block LNA or LNB signals vector 2 or 3. -/
def intLN (x : Nat) : IntBank := ⟨Reg.LNx_INT_STATUS x, Reg.LNx_INT_EN x, 2 + x⟩
/-- Block FEC signals vector 4 for either port. -/
def intFEC (x : Nat) : IntBank := ⟨Reg.FEC_x_INT_STATUS x, Reg.FEC_x_INT_EN x, 4⟩
/-- Block FRM signals vector 5. -/
def intFRM : IntBank := ⟨Reg.FRM_INT_STATUS, Reg.FRM_INT_EN, 5⟩
/-- Block CRY signals vector 6. -/
def intCRY : IntBank := ⟨Reg.CRY_INT_STATUS, Reg.CRY_INT_EN, 6⟩
/-- Block MRG signals vector 7. -/
def intMRG : IntBank := ⟨Reg.MRG_INT_STATUS, Reg.MRG_INT_EN, 7⟩
/-- Block HST signals vector 8. -/
def intHST : IntBank := ⟨Reg.HST_INT_STATUS, Reg.HST_INT_EN, 8⟩
/-- Block RMS signals vector 9. -/
def intRMS : IntBank := ⟨Reg.RMS_INT_STATUS, Reg.RMS_INT_EN, 9⟩
/-- Block PRB signals vector 10. -/
def intPRB : IntBank := ⟨Reg.PRB_INT_STATUS, Reg.PRB_INT_EN, 10⟩
/-- Block CAP signals vector 11. -/
def intCAP : IntBank := ⟨Reg.CAP_INT_STATUS, Reg.CAP_INT_EN, 11⟩
/-- Block CLP signals vector 12 for either port. -/
def intCLP (x : Nat) : IntBank := ⟨Reg.CLP_x_INT_STATUS x, Reg.CLP_x_INT_EN x, 12⟩
/-- Block TIM signals vector 13. -/
def intTIM : IntBank := ⟨Reg.TIM_INT_STATUS, Reg.TIM_INT_EN, 13⟩
/-- Block CHN signals vector 14. -/
def intCHN : IntBank := ⟨Reg.CHN_INT_STATUS, Reg.CHN_INT_EN, 14⟩
/-- Block PWR signals vector 17 (R539). -/
def intPWR : IntBank := ⟨Reg.PWR_INT_STATUS, Reg.PWR_INT_EN, 17⟩

/-- All banks whose message is a vector of their own. -/
def intBanks : List IntBank :=
  [intSTR, intLN 0, intLN 1, intFEC 0, intFEC 1, intFRM, intCRY, intMRG, intHST, intRMS, intPRB, intCAP, intCLP 0, intCLP 1,
   intTIM, intCHN, intPWR]

/-- Send an MSI-X message. -/
def Dev.sendMsix (d : Dev) (v : Nat) : Dev := { d with msix := d.msix ++ [v] }

/-- Set bit i of a block's INT_STATUS; a bit that goes from 0 to 1 while enabled sends the block's message (DEDUCED,
notes/assumptions/4.md). -/
def Dev.setInt (d : Dev) (b : IntBank) (i : Nat) : Dev :=
  let send := !d.bitAt b.status i && d.bitAt b.enable i
  let d := d.setBit b.status i
  if send then d.sendMsix b.vector else d

/-- Set bit i of SEC_INT_STATUS: vector 15 for bits 0, 7 and 8, the external interrupt of core i - 1 for bits 1 to 4 (R503). -/
def Dev.setIntSEC (d : Dev) (i : Nat) : Dev :=
  let send := !d.bitAt Reg.SEC_INT_STATUS i && d.bitAt Reg.SEC_INT_EN i
  let d := d.setBit Reg.SEC_INT_STATUS i
  if send then (if 1 ≤ i ∧ i ≤ 4 then { d with coreInts := d.coreInts ++ [i - 1] } else d.sendMsix 15) else d

/-- A cause of source f arises and starts on its path to the collector (R512). -/
def Dev.arise (d : Dev) (f : Nat) : Dev :=
  if d.arising.any (fun e => e.1 == f) then d else { d with arising := d.arising ++ [(f, d.tc)] }

/-- An event-only cause of source f: present for one fabric tick (17_fault_handling.md, Sources, causes and firing). -/
def Dev.raise (d : Dev) (f : Nat) : Dev := d.arise f

/-- The cause of source f becomes present; it arises where it was absent (R504). -/
def Dev.causeOn (d : Dev) (f : Nat) : Dev :=
  if f ∈ d.causes then d else { d with causes := d.causes ++ [f] }.arise f

/-- The cause of source f ends. -/
def Dev.causeOff (d : Dev) (f : Nat) : Dev := { d with causes := d.causes.filter (fun g => g != f) }

/-- The cause of source f is present exactly when b holds. -/
def Dev.causeIs (d : Dev) (f : Nat) (b : Bool) : Dev := if b then d.causeOn f else d.causeOff f

/-- Whether the real cause of source f is present: LIVE (R504). -/
def Dev.live? (d : Dev) (f : Nat) : Bool := decide (f ∈ d.causes)

/-- Local fault id l of line port x: LNA.l or LNB.l (R10). -/
def fLN (x l : Nat) : Nat := 64 + 32 * x + l
/-- Local fault id l of port x of FEC: port B's ids start at 16. -/
def fFEC (x l : Nat) : Nat := 128 + 16 * x + l
/-- Local fault id l of port x of FRM: port B's ids start at 8. -/
def fFRM (x l : Nat) : Nat := 160 + 8 * x + l
/-- Local fault id l of port x of CLP: port B's ids start at 16. -/
def fCLP (x l : Nat) : Nat := 384 + 16 * x + l

/-- The local ids each block populates (Table 2 of 17_fault_handling.md). -/
def populatedLocal (b l : Nat) : Bool :=
  match b with
  | 0 => decide (l ≤ 2)
  | 1 => decide (l ≤ 2)
  | 2 => decide (l ≤ 5) || (decide (8 ≤ l) && decide (l ≤ 19))
  | 3 => decide (l ≤ 5) || (decide (8 ≤ l) && decide (l ≤ 19))
  | 4 => decide (l ≤ 2) || (decide (16 ≤ l) && decide (l ≤ 18))
  | 5 => decide (l ≤ 5) || (decide (8 ≤ l) && decide (l ≤ 13)) || (decide (16 ≤ l) && decide (l ≤ 20))
  | 6 => decide (l ≤ 13)
  | 7 => decide (l ≤ 6)
  | 8 => decide (l ≤ 11)
  | 9 => decide (l ≤ 12)
  | 10 => decide (l ≤ 2)
  | 11 => decide (l ≤ 5)
  | 12 => decide (l ≤ 5) || (decide (16 ≤ l) && decide (l ≤ 21))
  | 13 => decide (l ≤ 10)
  | 14 => decide (l ≤ 9)
  | 15 => decide (l ≤ 8)
  | 16 => decide (l ≤ 1)
  | 17 => decide (l ≤ 6)
  | _ => false

/-- Whether source f is populated (R518). -/
def populated (f : Nat) : Bool := populatedLocal (f / 32) (f % 32)

end Sys2Proof.Machine
end

