-- ==== Sys2Proof/Machine/Ops.lean ====
section
/-! DEFINITION. Named operations shared by the commands: memory, the time counter, event-tap entries, free values, who may
reach a register, and the forms every meaning takes. -/

namespace Sys2Proof.Machine

/-! ### Memory -/

/-- Bytes in one page: 2 MiB in HBM (R287); capture SRAM uses the same unit, eight to a 16 MiB bank. -/
def pageBytes : Nat := 0x200000

/-- How often the contents of an address's page have become undefined. -/
def Memory.epochOf (m : Memory) (a : Nat) : Nat := Sparse.get m.era m.epochs (a / pageBytes)

/-- What an unlisted address reads as: 0 in memory that is as it was at power-on (DESIGN CHOICE, notes/assumptions/3.md), a
free value once the spec has called the contents undefined. -/
def Memory.blank (m : Memory) (a : Nat) : Byte :=
  if m.epochOf a = 0 then 0 else Config.freeByte (m.epochOf a) a

/-- Read one byte. -/
def Memory.read (m : Memory) (a : Nat) : Byte := Sparse.get (m.blank a) m.cells a

/-- Write one byte. -/
def Memory.write (m : Memory) (a : Nat) (v : Byte) : Memory :=
  { m with cells := Sparse.put (m.blank a) m.cells a v }

/-- Write bytes from address a upwards. -/
def Memory.writeBytes (m : Memory) (a : Nat) : List Byte → Memory
  | [] => m
  | b :: r => (m.write a b).writeBytes (a + 1) r

/-- Read n bytes from address a upwards. -/
def Memory.readBytes (m : Memory) (a : Nat) : Nat → List Byte
  | 0 => []
  | n + 1 => m.read a :: m.readBytes (a + 1) n

/-- The contents of page p become undefined (R82, R83). -/
def Memory.forgetPage (m : Memory) (p : Nat) : Memory :=
  { m with cells := m.cells.filter (fun c => c.1 / pageBytes != p),
           epochs := Sparse.insert p (Sparse.get m.era m.epochs p + 1) m.epochs }

/-- The contents of all memory become undefined (R471). -/
def Memory.forgetAll (m : Memory) : Memory :=
  { cells := [], era := m.epochs.foldl (fun n e => max n e.2) m.era + 1, epochs := [] }

/-- The canonical form: addresses strictly rising, and no entry equal to what an unlisted address reads as. -/
def Memory.wf (m : Memory) : Bool :=
  Sparse.sorted m.cells && m.cells.all (fun c => decide (c.2 ≠ m.blank c.1))

/-- The little-endian number of a byte string (R4). -/
def leNat : List Byte → Nat
  | [] => 0
  | b :: r => b.toNat + 256 * leNat r

/-- n bytes of a number, little-endian. -/
def leBytes : Nat → Nat → List Byte
  | 0, _ => []
  | n + 1, v => BitVec.ofNat 8 v :: leBytes n (v / 256)

/-- The big-endian number of a byte string. -/
def beNat (l : List Byte) : Nat := leNat l.reverse

/-- n bytes of a number, big-endian. -/
def beBytes (n v : Nat) : List Byte := (leBytes n v).reverse

/-- n bytes of a byte string from offset off; bytes beyond its end read 0. -/
def sliceBytes (l : List Byte) (off n : Nat) : List Byte :=
  ((l.drop off).take n) ++ List.replicate (n - min n (l.length - off)) 0

/-- The little-endian number in n bytes at an offset. -/
def leAt (l : List Byte) (off n : Nat) : Nat := leNat (sliceBytes l off n)

/-! ### Time -/

/-- One nanosecond in units of the time counter. -/
def tcNs : Nat := 2 ^ 40
/-- One second in units of the time counter. -/
def tcSecond : Nat := 1000000000 * 2 ^ 40
/-- Seconds of a time. -/
def tSec (t : Nat) : Nat := t / tcSecond
/-- Nanoseconds of a time. -/
def tNs (t : Nat) : Nat := t / tcNs % 1000000000
/-- Fractional nanoseconds of a time, in units of 2^-16 ns. -/
def tFrac (t : Nat) : Nat := t / 2 ^ 24 % 2 ^ 16
/-- The largest value of the time counter, at which it saturates (R439). -/
def tcMax : Nat := 2 ^ 48 * tcSecond - 1

/-- A number of fabric ticks as time, in 2^-40 ns. -/
def ticksTime (n : Nat) : Nat := n * 25 * 2 ^ 40 / 28

/-- Put a time into four registers in the 80-bit layout of R451. -/
def Dev.setTime4 (d : Dev) (lo t : Nat) : Dev :=
  (((d.setReg lo (BitVec.ofNat 32 (tFrac t))).setReg (lo + 4) (BitVec.ofNat 32 (tNs t))).setReg (lo + 8)
    (BitVec.ofNat 32 (tSec t))).setReg (lo + 12) (BitVec.ofNat 32 (tSec t / 2 ^ 32 % 2 ^ 16))

/-- Put a time into three registers: nanoseconds, seconds [31:0], seconds [47:32]. -/
def Dev.setTime3 (d : Dev) (lo t : Nat) : Dev :=
  ((d.setReg lo (BitVec.ofNat 32 (tNs t))).setReg (lo + 4) (BitVec.ofNat 32 (tSec t))).setReg (lo + 8)
    (BitVec.ofNat 32 (tSec t / 2 ^ 32 % 2 ^ 16))

/-- Put the seconds of the time counter into two registers. -/
def Dev.stampSeconds (d : Dev) (lo : Nat) : Dev := d.setReg64 lo (tSec d.tc % 2 ^ 48)

/-- An entry of event tap t, stamped with the time counter (R22, R378). -/
def Dev.tapAt (d : Dev) (t code data : Nat) : Dev :=
  { d with tapLog := d.tapLog ++ [{ tap := t, code := code, data := data % 2 ^ 32, time := d.tc }] }

/-- The tap of an event code that belongs to one tap (Table 5 of 12_capture_and_pattern.md). -/
def eventTap (code : Nat) : Nat :=
  match code / 0x1000 with
  | 2 => 88
  | 3 => 89
  | 4 => 90
  | 5 => 91
  | 6 => 94
  | _ => 95

/-- An entry of the event tap of its code. -/
def Dev.tapEvent (d : Dev) (code data : Nat) : Dev := d.tapAt (eventTap code) code data

/-- An entry of the event tap of its code, stamped with a time of the counter other than the present one. -/
def Dev.tapEventAt (d : Dev) (time code data : Nat) : Dev :=
  { d with tapLog := d.tapLog ++ [{ tap := eventTap code, code := code, data := data % 2 ^ 32, time := time }] }

/-- The tap RX_TIME or TX_TIME of port x (Table 1 of 12_capture_and_pattern.md). -/
def timeTap (x : Nat) (tx : Bool) : Nat := 24 * x + (if tx then 23 else 22)

/-- A superframe of port x starts at the receive or transmit side: it is counted, and entered in the port's timing tap. -/
def Dev.superframeStart (d : Dev) (x : Nat) (tx : Bool) : Dev :=
  let k := 2 * timeTap x tx
  let n := Sparse.get 0 d.cap.units k
  { d with cap := { d.cap with units := Sparse.put 0 d.cap.units k (n + 1) } }.tapAt (timeTap x tx) 0x1000 n

/-- An OTUCn frame of port x starts; one with MFAS = 0 is entered in the port's timing tap. -/
def Dev.otuFrameStart (d : Dev) (x : Nat) (tx : Bool) (mfas : Nat) : Dev :=
  let k := 2 * timeTap x tx + 1
  let n := Sparse.get 0 d.cap.units k
  let d := { d with cap := { d.cap with units := Sparse.put 0 d.cap.units k (n + 1) } }
  if mfas = 0 then d.tapAt (timeTap x tx) 0x1003 n else d

/-! ### Free values, lists -/

/-- A free value below n, and the device that has drawn it. -/
def Dev.draw (d : Dev) (n : Nat) : Nat × Dev := (Config.freeNat d.fresh % n, { d with fresh := d.fresh + 1 })

/-- The list without its first element equal to a. -/
def removeFirst {α : Type} [DecidableEq α] (a : α) : List α → List α
  | [] => []
  | b :: r => if b = a then r else b :: removeFirst a r

/-- Apply f to the device for each number below n, in order. -/
def Dev.forUpTo (n : Nat) (f : Dev → Nat → Dev) (d : Dev) : Dev := (List.range n).foldl f d

/-! ### Blocks, regions and requesters -/

/-- Whether region r has a structure (STR_ACTIVE). -/
def Dev.regionActive (d : Dev) (r : Nat) : Bool := d.bitAt Reg.STR_ACTIVE r

/-- Whether region r restructures (R76). -/
def Dev.restructuring (d : Dev) (r : Nat) : Bool := d.bitAt Reg.STR_STATE (24 + r)

/-- Whether region r has a structure and does not restructure: then its blocks work. -/
def Dev.regionRuns (d : Dev) (r : Nat) : Bool := d.regionActive r && !d.restructuring r

/-- Whether CHAIN claims lane l (R255, R452); an empty region claims none (R62). -/
def Dev.claimed (d : Dev) (l : Nat) : Bool :=
  d.regionActive 7 && decide (l / 8 = d.get Fld.CHN_CTL.OCTET) && d.bitAt Reg.CHN_CTL (l % 8 / 4)

/-- The lane of a lane register or a Tsucor register. -/
def hostLaneOf (a : Nat) : Option Nat :=
  if 0x810000 ≤ a ∧ a < 0x813000 then some ((a - 0x810000) / 0x100)
  else if 0x830000 ≤ a ∧ a < 0x830C00 then some ((a - 0x830000) / 0x40)
  else none

/-- The region of a register address (Table 1, R62, R325); claimed tells which lanes CHAIN claims. -/
def addrRegion (claimed : Nat → Bool) (a : Nat) : Option Nat :=
  match a / 0x100000 with
  | 0 => some 0
  | 2 => some 1
  | 3 => some 2
  | 4 => some (if a % 0x100000 < 0x80000 then 1 else 2)
  | 5 => some 3
  | 6 => some 3
  | 7 => some 3
  | 8 => match hostLaneOf a with
    | some l => some (if claimed l then 7 else 4)
    | none => some 4
  | 9 => some (if a % 0x100000 < 0x100 then 0 else 6)
  | 10 => some 5
  | 11 => some 6
  | 12 => some (if a % 0x100000 < 0x80000 then 1 else 2)
  | 13 => some 0
  | 14 => some 7
  | 16 => some 0
  | 17 => some 0
  | _ => none

/-- Whether the register with key a belongs to a region that restructures: its pending shadow value waits for the first boundary
after the commit (R78). -/
def Dev.waitsForCommit (d : Dev) (a : Nat) : Bool :=
  match addrRegion d.claimed (keyAddr a) with
  | some r => d.restructuring r
  | none => false

/-- Copy the pending shadow values whose keys satisfy p to the active copies, together (R36), but for those of a region that
restructures (R78). -/
def Dev.copyShadow (d : Dev) (p : Nat → Bool) : Dev :=
  let go (a : Nat) : Bool := p a && !d.waitsForCommit a
  let now := d.shadow.filter (fun e => go e.1)
  now.foldl (fun d e => d.setReg e.1 (mergeShadow (shadowMaskOf e.1) (d.reg e.1) e.2))
    { d with shadow := d.shadow.filter (fun e => !go e.1) }

/-- The structure of region r, where it has one. -/
def Dev.body (d : Dev) (r : Nat) : Option RegionBody := (d.str.active.find? (fun e => e.1 == r)).map (·.2)

/-- Whether block b is in block reset (R51). -/
def Dev.inReset (d : Dev) (b : Nat) : Bool := d.bitAt Reg.GLB_BLK_RESET b

/-- The boot stage (Table 2 of 16_boot_firmware_identity.md). -/
def Dev.stage (d : Dev) : Nat := d.get Fld.SEC_BOOT_STATUS.STAGE

/-- Whether application core c is released: stage APP_RUN. -/
def Dev.coreReleased (d : Dev) : Bool := d.stage == 4

/-- Whether the device answers a requester's access to a block: PCIe from trusted boot on (R474), in RECOVERY_WAIT the mailbox
alone (R477); a released application core (R473); the trusted core; JTAG while debug access is open (R501). -/
def Dev.reaches (d : Dev) (req : Requester) (b : Nat) : Bool :=
  match req with
  | .pcie => (2 ≤ d.stage && d.stage ≤ 5) || (d.stage == 6 && b == 15)
  | .ac _ => d.coreReleased
  | .trusted => true
  | .jtag => 1 ≤ d.get Fld.SEC_BOOT_STATUS.DEBUG

/-- Whether a requester's write to a block takes effect: the access is answered and the block is not in reset (R47). -/
def Dev.mayWrite (d : Dev) (req : Requester) (b : Nat) : Bool := d.reaches req b && !d.inReset b

/-- Whether the chip runs: it has power and no thermal trip holds it in reset. -/
def Dev.alive (d : Dev) : Bool := d.powered && !d.thermHold

/-! ### The forms of a meaning -/

/-- The outcome of a command whose effect is f; a chip without power or held in reset does nothing. -/
def runState (f : State → State) (s : State) : Host.Outcome State Fault Refusal :=
  .next (if s.dev.alive then f s else s)

/-- The outcome of a command that changes the device alone. -/
def runDev (f : Dev → Dev) (s : State) : Host.Outcome State Fault Refusal :=
  .next (if s.dev.alive then { s with dev := f s.dev } else s)

/-- The outcome of an event of block b that changes the device alone: none happens in a block held in reset (R51). -/
def runBlock (b : Nat) (f : Dev → Dev) (s : State) : Host.Outcome State Fault Refusal :=
  runDev (fun d => if d.inReset b then d else f d) s

/-- The outcome of an event of block b that may change memory: none happens in a block held in reset (R51). -/
def runBlockState (b : Nat) (f : State → State) (s : State) : Host.Outcome State Fault Refusal :=
  runState (fun s => if s.dev.inReset b then s else f s) s

/-- The outcome of a requester's write to block b that changes the device alone: no effect where the write is not answered or
the block is in reset. -/
def runWrite (req : Requester) (b : Nat) (f : Dev → Dev) (s : State) : Host.Outcome State Fault Refusal :=
  runDev (fun d => if d.mayWrite req b then f d else d) s

end Sys2Proof.Machine
end

