-- ==== Sys2Proof/Machine/Events.lean ====
section
/-! DEFINITION. Event lines of block PRB: which lines a source drives, which engine latches and bound counters an assertion
reaches (R337, R339, R347). -/

namespace Sys2Proof.Machine

/-- The event lines that select a source code: the lines whose PRB_EVT_SRC is listed and holds it (R347). -/
def Dev.linesOf (d : Dev) (code : Nat) : List Nat :=
  if code = 0 then [] else
    (d.regs.filter (fun e => decide (Reg.PRB_EVT_SRC 0 ≤ e.1) && decide (e.1 < Reg.PRB_EVT_SRC 512) &&
      decide (e.2.toNat = code))).map (fun e => (e.1 - Reg.PRB_EVT_SRC 0) / 4)

/-- The inputs of engine n that select a line of the list, as a mask of latch bits. -/
def Dev.inputMask (d : Dev) (n : Nat) (lines : List Nat) : Nat :=
  (List.range 16).foldl (fun m k => if d.get (Fld.PRB_ENG_SEL.EVENT n k) ∈ lines then m ||| 2 ^ k else m) 0

/-- Set latch bits of engine n. -/
def Dev.latch (d : Dev) (n mask : Nat) : Dev :=
  d.put (Fld.PRB_ENG_LATCH.LATCH n) (d.get (Fld.PRB_ENG_LATCH.LATCH n) ||| mask)

/-- The shared counters bound to a line of the list, with their binding enabled (R339). -/
def Dev.boundCounters (d : Dev) (lines : List Nat) : List Nat :=
  (d.regs.filter (fun e => decide (Reg.PRB_CNT_SRC 0 ≤ e.1) && decide (e.1 < Reg.PRB_CNT_SRC 256) &&
    e.2.getLsbD 31 && decide (e.2.toNat % 512 ∈ lines))).map (fun e => (e.1 - Reg.PRB_CNT_SRC 0) / 4)

/-- Add n to shared counter c, modulo 2^64 (R339). -/
def Dev.addCounter (d : Dev) (c n : Nat) : Dev :=
  d.setReg64 (Reg.PRB_CNT_LO c) ((d.reg64 (Reg.PRB_CNT_LO c) + n) % 2 ^ 64)

/-- The lines assert: latches of every engine with a program are set. -/
def Dev.latchLines (d : Dev) (lines : List Nat) : Dev :=
  if lines.isEmpty then d else d.prb.engines.foldl (fun d e => d.latch e.1 (d.inputMask e.1 lines)) d

/-- n ticks of assertion of the lines: latches are set, and bound counters add n, unless the PROBE region restructures (R354) or is empty
(R54). -/
def Dev.assertLinesFor (d : Dev) (n : Nat) (lines : List Nat) : Dev :=
  if lines.isEmpty then d else
    let d := d.latchLines lines
    if !d.regionRuns 5 then d else (d.boundCounters lines).foldl (fun d c => d.addCounter c n) d

/-- One tick of assertion of the lines. -/
def Dev.assertLines (d : Dev) (lines : List Nat) : Dev := d.assertLinesFor 1 lines

/-- The value of internal line i: the OR of every engine's drive (R342). -/
def Dev.lineValue (d : Dev) (i : Nat) : Bool := d.prb.engines.any (fun e => e.2.lineSet.getLsbD i)

/-- This module's drive of chain line i. -/
def Dev.chainLocal (d : Dev) (i : Nat) : Bool := d.prb.engines.any (fun e => e.2.chainSet.getLsbD i)

/-- The drive of chain line i that this module sends to the others: held deasserted while CHAIN restructures (R81). -/
def Dev.chainSent (d : Dev) (i : Nat) : Bool := d.chainLocal i && !d.restructuring 7

/-- Chain line i as seen on its event line: the drives of every module of the ring (R345). -/
def Dev.chainValue (d : Dev) (i : Nat) : Bool := d.chainLocal i || d.chainRemote.any (fun e => e.2.getLsbD i)

/-- The drive of pin TRIG_OUTi before INV (R342). -/
def Dev.pinValue (d : Dev) (i : Nat) : Bool :=
  d.prb.engines.any (fun e => e.2.pinSet.getLsbD i || e.2.pinPulse.getLsbD i)

/-- Whether the cause of source f, real or injected, is present (R504, R508). -/
def Dev.effective (d : Dev) (f : Nat) : Bool := d.live? f || d.isSet (Fld.FLT_SRC.INJ_HOLD f)

/-- Whether a source code is a level that is asserted now (Table 3 of 11_probe_engines.md). -/
def Dev.levelNow (d : Dev) (code : Nat) : Bool :=
  if 0x2000 ≤ code ∧ code < 0x2040 then d.lineValue (code - 0x2000)
  else if 0x2200 ≤ code ∧ code < 0x2208 then d.chainValue (code - 0x2200)
  else if 0x2400 ≤ code ∧ code < 0x2400 + 576 then d.effective (code - 0x2400)
  else false

/-- A source with a code asserts: for one tick, or, where it is a level that stays, from now on; the ticks of a level are counted
as they pass (R339). -/
def Dev.assertEvent (d : Dev) (code : Nat) : Dev :=
  if d.levelNow code then d.latchLines (d.linesOf code) else d.assertLines (d.linesOf code)

/-- The event lines whose source is a level asserted now. -/
def Dev.levelLines (d : Dev) : List Nat :=
  (d.regs.filter (fun e => decide (Reg.PRB_EVT_SRC 0 ≤ e.1) && decide (e.1 < Reg.PRB_EVT_SRC 512) &&
    d.levelNow e.2.toNat)).map (fun e => (e.1 - Reg.PRB_EVT_SRC 0) / 4)

/-- A level that stays asserted sets its latch in every tick (R337): the latches of engine n after a command that cleared
some. -/
def Dev.relatch (d : Dev) (n : Nat) : Dev :=
  let lines := d.levelLines
  if lines.isEmpty then d else d.latch n (d.inputMask n lines)

end Sys2Proof.Machine
end

