-- ==== Sys2Proof/Machine/ProbeIsa.lean ====
section
/-! DEFINITION. The instruction words of the probe engines: Table 2 of 11_probe_engines.md (R336), decoded and encoded. -/

namespace Sys2Proof.Machine

/-- An instruction of a probe engine with the fields of Table 2 (R336). -/
inductive EngIns where
  | nop
  | halt
  | alu (rd ra rb : BitVec 6) (fn : BitVec 3)
  | addi (rd ra : BitVec 6) (imm : BitVec 14)
  | ldi (rd : BitVec 6) (imm : BitVec 20)
  | ins (rd : BitVec 6) (k : BitVec 2) (imm : BitVec 16)
  | br (cond : BitVec 2) (ra rb : BitVec 6) (tgt : BitVec 12)
  | jmp (tgt : BitVec 12)
  | jal (rd : BitVec 6) (tgt : BitVec 12)
  | jr (ra : BitVec 6)
  | wait (all keep : Bool) (mask : BitVec 24)
  | evrd (rd : BitVec 6)
  | evclr (mask : BitVec 24)
  | esel (k : BitVec 4) (e : BitVec 9)
  | tset (t : BitVec 3) (ra : BitVec 6) (p : Bool)
  | trd (rd : BitVec 6) (t : BitVec 3)
  | cnt (op : BitVec 2) (r : BitVec 6) (c : BitVec 8)
  | trig (mode kind : BitVec 2) (i : BitVec 6)
  | cap (cmd : BitVec 2) (tap : BitVec 7) (ra : BitVec 6)
  | qcmd (cmd : BitVec 2) (ra : BitVec 6)
  | play (cmd : BitVec 2) (p : BitVec 6) (ra : BitVec 6)
  | tsr (rd : BitVec 6) (part : Bool)
  | get (rd : BitVec 6) (k : BitVec 3)
  | put (k : BitVec 3) (ra : BitVec 6)
  | sig (n : BitVec 3)
  deriving DecidableEq, Repr

/-- Whether an instruction lies in the ranges Table 2 gives: no mode 3 or kind 3 of TRIG, its line, pin or chain number in
range, tap below 96, QCMD and PLAY command below 3. -/
def EngIns.valid : EngIns → Bool
  | .trig m k i => decide (m.toNat ≠ 3) && (decide (k.toNat = 0) || (decide (k.toNat = 1) && decide (i.toNat < 4)) ||
      (decide (k.toNat = 2) && decide (i.toNat < 8)))
  | .cap _ tap _ => decide (tap.toNat < 96)
  | .qcmd c _ => decide (c.toNat ≠ 3)
  | .play c _ _ => decide (c.toNat ≠ 3)
  | _ => true

/-- A word from its opcode and fields, each a (position, value) pair. -/
def packWord (op : Nat) (fs : List (Nat × Nat)) : Word :=
  fs.foldl (fun w f => w ||| (BitVec.ofNat 32 f.2 <<< f.1)) (BitVec.ofNat 32 op <<< 26)

/-- The word of an instruction: the encodings of Table 2. -/
def EngIns.encode : EngIns → Word
  | .nop => packWord 0x00 []
  | .halt => packWord 0x01 []
  | .alu rd ra rb fn => packWord 0x02 [(20, rd.toNat), (14, ra.toNat), (8, rb.toNat), (0, fn.toNat)]
  | .addi rd ra imm => packWord 0x03 [(20, rd.toNat), (14, ra.toNat), (0, imm.toNat)]
  | .ldi rd imm => packWord 0x04 [(20, rd.toNat), (0, imm.toNat)]
  | .ins rd k imm => packWord 0x05 [(20, rd.toNat), (16, k.toNat), (0, imm.toNat)]
  | .br cond ra rb tgt => packWord 0x06 [(20, ra.toNat), (14, rb.toNat), (12, cond.toNat), (0, tgt.toNat)]
  | .jmp tgt => packWord 0x07 [(0, tgt.toNat)]
  | .jal rd tgt => packWord 0x08 [(20, rd.toNat), (0, tgt.toNat)]
  | .jr ra => packWord 0x09 [(20, ra.toNat)]
  | .wait all keep mask => packWord 0x0A [(25, all.toNat), (24, keep.toNat), (0, mask.toNat)]
  | .evrd rd => packWord 0x0B [(20, rd.toNat)]
  | .evclr mask => packWord 0x0C [(0, mask.toNat)]
  | .esel k e => packWord 0x0D [(16, k.toNat), (0, e.toNat)]
  | .tset t ra p => packWord 0x0E [(20, ra.toNat), (3, p.toNat), (0, t.toNat)]
  | .trd rd t => packWord 0x0F [(20, rd.toNat), (0, t.toNat)]
  | .cnt op r c => packWord 0x10 [(20, r.toNat), (18, op.toNat), (0, c.toNat)]
  | .trig mode kind i => packWord 0x11 [(24, mode.toNat), (22, kind.toNat), (16, i.toNat)]
  | .cap cmd tap ra => packWord 0x12 [(20, ra.toNat), (16, cmd.toNat), (8, tap.toNat)]
  | .qcmd cmd ra => packWord 0x13 [(20, ra.toNat), (16, cmd.toNat)]
  | .play cmd p ra => packWord 0x14 [(20, ra.toNat), (16, cmd.toNat), (8, p.toNat)]
  | .tsr rd part => packWord 0x15 [(20, rd.toNat), (0, part.toNat)]
  | .get rd k => packWord 0x16 [(20, rd.toNat), (0, k.toNat)]
  | .put k ra => packWord 0x17 [(20, ra.toNat), (0, k.toNat)]
  | .sig n => packWord 0x18 [(0, n.toNat)]

/-- The fields of a word read as opcode op would lay them out; bits not listed are not looked at. -/
def EngIns.fieldsOf (w : Word) : Option EngIns :=
  let rd : BitVec 6 := w.extractLsb' 20 6
  let b14 : BitVec 6 := w.extractLsb' 14 6
  let tgt : BitVec 12 := w.extractLsb' 0 12
  let lo3 : BitVec 3 := w.extractLsb' 0 3
  match (w.extractLsb' 26 6).toNat with
  | 0x00 => some .nop
  | 0x01 => some .halt
  | 0x02 => some (.alu rd b14 (w.extractLsb' 8 6) lo3)
  | 0x03 => some (.addi rd b14 (w.extractLsb' 0 14))
  | 0x04 => some (.ldi rd (w.extractLsb' 0 20))
  | 0x05 => some (.ins rd (w.extractLsb' 16 2) (w.extractLsb' 0 16))
  | 0x06 => some (.br (w.extractLsb' 12 2) rd b14 tgt)
  | 0x07 => some (.jmp tgt)
  | 0x08 => some (.jal rd tgt)
  | 0x09 => some (.jr rd)
  | 0x0A => some (.wait (w.getLsbD 25) (w.getLsbD 24) (w.extractLsb' 0 24))
  | 0x0B => some (.evrd rd)
  | 0x0C => some (.evclr (w.extractLsb' 0 24))
  | 0x0D => some (.esel (w.extractLsb' 16 4) (w.extractLsb' 0 9))
  | 0x0E => some (.tset lo3 rd (w.getLsbD 3))
  | 0x0F => some (.trd rd lo3)
  | 0x10 => some (.cnt (w.extractLsb' 18 2) rd (w.extractLsb' 0 8))
  | 0x11 => some (.trig (w.extractLsb' 24 2) (w.extractLsb' 22 2) (w.extractLsb' 16 6))
  | 0x12 => some (.cap (w.extractLsb' 16 2) (w.extractLsb' 8 7) rd)
  | 0x13 => some (.qcmd (w.extractLsb' 16 2) rd)
  | 0x14 => some (.play (w.extractLsb' 16 2) (w.extractLsb' 8 6) rd)
  | 0x15 => some (.tsr rd (w.getLsbD 0))
  | 0x16 => some (.get rd lo3)
  | 0x17 => some (.put lo3 rd)
  | 0x18 => some (.sig lo3)
  | _ => none

/-- The instruction of a word: none where the opcode or function code is not in Table 2, a field is out of its range, or a
bit shown as 0 is 1 (R332, R336). -/
def EngIns.decode (w : Word) : Option EngIns :=
  match EngIns.fieldsOf w with
  | some i => if i.valid && i.encode == w then some i else none
  | none => none

/-- Whether a word may stand in a program of words words (R332): defined, targets below words, WAIT and EVCLR masks not 0. -/
def EngIns.okIn (words : Nat) : EngIns → Bool
  | .br _ _ _ t => decide (t.toNat < words)
  | .jmp t => decide (t.toNat < words)
  | .jal _ t => decide (t.toNat < words)
  | .wait _ _ m => decide (m ≠ 0)
  | .evclr m => decide (m ≠ 0)
  | _ => true

/-- Whether a program is valid (R332): 1 to 4,096 words, each defined and in range. -/
def programOk (p : List Word) : Bool :=
  decide (1 ≤ p.length) && decide (p.length ≤ 4096) && p.all (fun w => match EngIns.decode w with
    | some i => i.okIn p.length
    | none => false)

end Sys2Proof.Machine
end

