-- ==== Sys2Proof/Machine/Probe.lean ====
section
/-! DEFINITION. Block PRB: the probe engines and their instructions, trigger lines and pins, shared counters and
pre-matchers (11_probe_engines.md). -/

namespace Sys2Proof.Machine

/-! ### Engine state -/

/-- Engine n beside its registers. -/
def Dev.eng (d : Dev) (n : Nat) : Engine := Sparse.get {} d.prb.engines n
/-- Replace engine n. -/
def Dev.setEng (d : Dev) (n : Nat) (e : Engine) : Dev :=
  { d with prb := { d.prb with engines := Sparse.put {} d.prb.engines n e } }
/-- State of engine n: 0 EMPTY, 1 HALTED, 2 RUNNING, 3 WAITING, 4 FAULT (Table 1). -/
def Dev.engState (d : Dev) (n : Nat) : Nat := d.get (Fld.PRB_ENG_STATUS.STATE n)
/-- PC of engine n. -/
def Dev.engPc (d : Dev) (n : Nat) : Nat := d.get (Fld.PRB_ENG_STATUS.PC n)
/-- Set the PC of engine n. -/
def Dev.setPc (d : Dev) (n pc : Nat) : Dev := d.put (Fld.PRB_ENG_STATUS.PC n) pc
/-- Set the state and cause of engine n. -/
def Dev.setEngState (d : Dev) (n st cause : Nat) : Dev :=
  (d.put (Fld.PRB_ENG_STATUS.STATE n) st).put (Fld.PRB_ENG_STATUS.CAUSE n) cause
/-- Register xi of engine n; x0 reads 0 (R333). -/
def Dev.engX (d : Dev) (n i : Nat) : Nat := if i = 0 then 0 else d.reg64 (Reg.PRB_ENG_X_LO n i)
/-- Write register xi of engine n, modulo 2^64; a write to x0 is discarded (R333). -/
def Dev.setX (d : Dev) (n i v : Nat) : Dev := if i = 0 then d else d.setReg64 (Reg.PRB_ENG_X_LO n i) (v % 2 ^ 64)
/-- The latch vector of engine n (R337). -/
def Dev.engLatch (d : Dev) (n : Nat) : Nat := d.get (Fld.PRB_ENG_LATCH.LATCH n)
/-- Clear latches of engine n in a mask; a level still asserted sets its latch again (R337). -/
def Dev.unlatch (d : Dev) (n mask : Nat) : Dev :=
  (d.put (Fld.PRB_ENG_LATCH.LATCH n) (d.engLatch n &&& (mask ^^^ (2 ^ 24 - 1)))).relatch n

/-- PRB.00 is present while any engine is in FAULT (R355). -/
def Dev.engFaultCause (d : Dev) : Dev :=
  d.causeIs 320 (d.prb.engines.any (fun e => d.engState e.1 == 4))

/-! ### Trigger lines and pins (R342) -/

/-- Run f and report what it changes: a LINES entry for each line whose value changes, stamped wait ticks later (R378), a PIN entry for each
pin that asserts, at its land 16 ticks after that, the event lines of newly driven lines, and the edges of the chain drive this module sends
over Horug, whose origin is the tick in which the line's new value appears (R460, R461). -/
def Dev.withLinesAt (wait : Nat) (f : Dev → Dev) (d : Dev) : Dev :=
  let e := f d
  let at_ := d.tc + ticksTime wait
  let e := Dev.forUpTo 64 (fun x i => if d.lineValue i = e.lineValue i then x else
    let x := x.tapEventAt at_ (0x5000 + i) (bit (e.lineValue i))
    if e.lineValue i then x.assertEvent (0x2000 + i) else x) e
  let e := Dev.forUpTo 8 (fun x i => if d.chainValue i = e.chainValue i then x else
    let x := x.tapEventAt at_ (0x5040 + i) (bit (e.chainValue i))
    if e.chainValue i then x.assertEvent (0x2200 + i) else x) e
  let e := Dev.forUpTo 8 (fun x i => if d.chainSent i = e.chainSent i then x else
    { x with chainOut := x.chainOut ++ [(i, e.chainSent i, at_)] }) e
  Dev.forUpTo 4 (fun x i => if !d.pinValue i && e.pinValue i then x.tapEventAt (at_ + ticksTime 16) (0x2010 + i) 0 else x) e

/-- A change of drives by this module: 4 ticks from a TRIG's issue to its line, 20 to its pin's land (R352). -/
def Dev.withLines (f : Dev → Dev) (d : Dev) : Dev := d.withLinesAt 4 f

/-- Engine n pulses pin i: for PW ticks from now, from anew where an earlier pulse of its holds the pin (R342). -/
def Dev.pulsePin (d : Dev) (n i : Nat) : Dev :=
  let e := d.eng n
  d.setEng n { e with
    pinPulse := e.pinPulse ||| (1#4 <<< i),
    pinDue := Sparse.insert i (d.ticks + d.get (Fld.PRB_TRIG_OUT_CTL.PW i)) e.pinDue }

/-- Release engine n's drives (R330); a pin pulse in progress completes. -/
def Dev.releaseDrives (d : Dev) (n : Nat) : Dev :=
  d.withLines (fun d => d.setEng n { d.eng n with lineSet := 0, pinSet := 0, chainSet := 0 })

/-- TRIG PULSE (R342): no effect on a line this engine has SET; an internal or chain line is driven for one tick, a pin for
PW ticks, at whose end TRIG_OUT_PULSE_END comes. -/
def Dev.trigPulse (d : Dev) (n kind i : Nat) : Dev :=
  match kind with
  | 0 => if (d.eng n).lineSet.getLsbD i then d else
      let d := (d.withLines (fun d => d.setEng n { d.eng n with lineSet := (d.eng n).lineSet ||| (1#64 <<< i) })).withLines
        (fun d => d.setEng n { d.eng n with lineSet := (d.eng n).lineSet &&& ~~~(1#64 <<< i) })
      if d.lineValue i then d else d.assertEvent (0x2000 + i)
  | 1 => if (d.eng n).pinSet.getLsbD i then d else
      d.withLines (fun d => d.pulsePin n i)
  | _ => if (d.eng n).chainSet.getLsbD i then d else
      let d := (d.withLines (fun d => d.setEng n { d.eng n with chainSet := (d.eng n).chainSet ||| (1#8 <<< i) })).withLines
        (fun d => d.setEng n { d.eng n with chainSet := (d.eng n).chainSet &&& ~~~(1#8 <<< i) })
      if d.chainValue i then d else d.assertEvent (0x2200 + i)

/-- TRIG SET and TRIG CLR (R342): CLR removes this engine's drive, a pulse in progress included. -/
def Dev.trigDrive (d : Dev) (n kind i : Nat) (on : Bool) : Dev :=
  let s64 (w : BitVec 64) := if on then w ||| (1#64 <<< i) else w &&& ~~~(1#64 <<< i)
  let s8 (w : BitVec 8) := if on then w ||| (1#8 <<< i) else w &&& ~~~(1#8 <<< i)
  let s4 (w : BitVec 4) := if on then w ||| (1#4 <<< i) else w &&& ~~~(1#4 <<< i)
  d.withLines (fun d =>
    let e := d.eng n
    match kind with
    | 0 => d.setEng n { e with lineSet := s64 e.lineSet }
    | 1 => d.setEng n { e with pinSet := s4 e.pinSet, pinPulse := if on then e.pinPulse else s4 e.pinPulse }
    | _ => d.setEng n { e with chainSet := s8 e.chainSet })

/-! ### Halting and faults -/

/-- Engine n enters HALTED for a cause; its drives are released, its timers hold (R330). -/
def Dev.haltEng (d : Dev) (n cause : Nat) : Dev := (d.setEngState n 1 cause).releaseDrives n

/-- Engine n enters FAULT for a cause with its PC as given (R334). -/
def Dev.faultEng (d : Dev) (n cause pc : Nat) : Dev :=
  ((((d.setEngState n 4 cause).setPc n pc).releaseDrives n).setInt intPRB 1).engFaultCause

/-- Clear the registers, latches, timers and drives of engine n and set it to HALTED at PC 0 (R328, R329). -/
def Dev.clearEng (d : Dev) (n : Nat) : Dev :=
  let d := d.withLines (fun d => d.setEng n { prog := (d.eng n).prog })
  let d := Dev.forUpTo 64 (fun d i => d.setReg64 (Reg.PRB_ENG_X_LO n i) 0) d
  let d := (d.put (Fld.PRB_ENG_LATCH.LATCH n) 0)
  ((d.setEngState n 1 0).setPc n 0).engFaultCause

/-! ### Instructions (R336) -/

/-- The condition of a WAIT: ALL takes every latch of the mask, otherwise any (R337). -/
def waitMet (all : Bool) (mask latch : Nat) : Bool :=
  if all then latch &&& mask == mask else latch &&& mask != 0

/-- The result of the ALU functions (Table 2). -/
def aluResult (fn a b : Nat) : Nat :=
  match fn with
  | 0 => (a + b) % 2 ^ 64
  | 1 => (a + (2 ^ 64 - b)) % 2 ^ 64
  | 2 => a &&& b
  | 3 => a ||| b
  | 4 => a ^^^ b
  | 5 => (a <<< (b % 64)) % 2 ^ 64
  | 6 => a >>> (b % 64)
  | _ => bit (decide (a < b))

/-- A sign-extended immediate of w bits as a 64-bit number. -/
def signExt (w v : Nat) : Nat := ofSigned 64 (toSigned w v)

/-- The condition of BR (Table 2): EQ, NE, LTU, GEU. -/
def brTaken (cond a b : Nat) : Bool :=
  match cond with
  | 0 => a == b
  | 1 => a != b
  | 2 => decide (a < b)
  | _ => decide (b ≤ a)

/-- Put a command in flight to its target (R340). -/
def Dev.issueCmd (d : Dev) (c : ProbeCmd) : Dev := { d with prb := { d.prb with inFlight := d.prb.inFlight ++ [c] } }

/-- Load timer t of engine n (R338): N = 0 stops it; the latch of the timer is cleared. -/
def Dev.loadTimer (d : Dev) (n t cnt : Nat) (periodic : Bool) : Dev :=
  let e := d.eng n
  let tm : EngTimer := if cnt = 0 then {} else { remaining := cnt, period := if periodic then cnt else 0, loaded := true }
  (d.setEng n { e with timers := Sparse.put {} e.timers t tm }).unlatch n (2 ^ (16 + t))

/-- What an instruction of engine n does beside the PC; HALT, WAIT and JR act in Dev.issue. -/
def Dev.insEffect (d : Dev) (n : Nat) : EngIns → Dev
  | .alu rd ra rb fn => d.setX n rd.toNat (aluResult fn.toNat (d.engX n ra.toNat) (d.engX n rb.toNat))
  | .addi rd ra imm => d.setX n rd.toNat (d.engX n ra.toNat + signExt 14 imm.toNat)
  | .ldi rd imm => d.setX n rd.toNat (signExt 20 imm.toNat)
  | .ins rd k imm =>
    let old := BitVec.ofNat 64 (d.engX n rd.toNat)
    let sh := 16 * k.toNat
    d.setX n rd.toNat ((old &&& ~~~(0xFFFF#64 <<< sh)) ||| ((imm.setWidth 64) <<< sh)).toNat
  | .jal rd _ => d.setX n rd.toNat (d.engPc n + 1)
  | .evrd rd => d.setX n rd.toNat (d.engLatch n)
  | .evclr mask => d.unlatch n mask.toNat
  | .esel k e => (d.put (Fld.PRB_ENG_SEL.EVENT n k.toNat) e.toNat).unlatch n (2 ^ k.toNat)
  | .tset t ra p => d.loadTimer n t.toNat (d.engX n ra.toNat % 2 ^ 48) p
  | .trd rd t => d.setX n rd.toNat (Sparse.get {} (d.eng n).timers t.toNat).remaining
  | .cnt op r c =>
    match op.toNat with
    | 0 => d.addCounter c.toNat 1
    | 1 => d.addCounter c.toNat (d.engX n r.toNat)
    | 2 => d.setReg64 (Reg.PRB_CNT_LO c.toNat) (d.engX n r.toNat)
    | _ => d.setX n r.toNat (d.reg64 (Reg.PRB_CNT_LO c.toNat))
  | .trig mode kind i =>
    match mode.toNat with
    | 0 => d.trigPulse n kind.toNat i.toNat
    | 1 => d.trigDrive n kind.toNat i.toNat true
    | _ => d.trigDrive n kind.toNat i.toNat false
  | .cap cmd tap ra =>
    let v := d.engX n ra.toNat
    d.issueCmd (match cmd.toNat with
      | 0 => .capStart tap.toNat (v % 2 ^ 16)
      | 1 => .capStop tap.toNat
      | 2 => .capMark tap.toNat (v % 2 ^ 32)
      | _ => .capDest tap.toNat (v % 2 ^ 16))
  | .qcmd cmd ra =>
    let q := d.engX n ra.toNat % 2 ^ 16
    d.issueCmd (match cmd.toNat with
      | 0 => .qArm q
      | 1 => .qTrigger q
      | _ => .qStop q)
  | .play cmd p ra =>
    let v := d.engX n ra.toNat
    d.issueCmd (match cmd.toNat with
      | 0 => .playStart p.toNat v
      | 1 => .playNext p.toNat v
      | _ => .playStop p.toNat)
  | .tsr rd false =>
    let d := d.setEng n { d.eng n with tsrSec := BitVec.ofNat 48 (tSec d.tc) }
    d.setX n rd.toNat (tNs d.tc * 2 ^ 16 + tFrac d.tc)
  | .tsr rd true => d.setX n rd.toNat (d.eng n).tsrSec.toNat
  | .get rd k => d.setX n rd.toNat (d.get (Fld.PRB_ENG_PARAM.VALUE n k.toNat))
  | .put k ra => d.put (Fld.PRB_ENG_OUT.VALUE n k.toNat) (d.engX n ra.toNat)
  | .sig b => (d.setBit (Reg.PRB_ENG_EVT n) b.toNat).setInt intPRB 0
  | .nop => d
  | .br .. => d
  | .jmp _ => d
  | .halt => d
  | .wait .. => d
  | .jr _ => d

/-- The PC after an instruction at pc. -/
def Dev.insNext (d : Dev) (n pc : Nat) : EngIns → Nat
  | .br cond ra rb tgt => if brTaken cond.toNat (d.engX n ra.toNat) (d.engX n rb.toNat) then tgt.toNat else pc + 1
  | .jmp tgt => tgt.toNat
  | .jal _ tgt => tgt.toNat
  | .jr ra => d.engX n ra.toNat
  | _ => pc + 1

/-- Go on at pc; at pc = WORDS the engine enters FAULT with cause 5 (R334). -/
def Dev.goOn (d : Dev) (n pc : Nat) : Dev :=
  if pc < (d.eng n).prog.length then d.setPc n pc else d.faultEng n 5 (d.eng n).prog.length

/-- The WAIT of engine n releases (R337): x62 takes the latches of the mask, which clear unless KEEP is 1. -/
def Dev.releaseWait (d : Dev) (n : Nat) (keep : Bool) (mask : Nat) : Dev :=
  let d := d.setX n 62 (d.engLatch n &&& mask)
  if keep then d else d.unlatch n mask

/-- Engine n issues instruction i at pc; stepping tells a STEP (an unsatisfied WAIT is then not executed, R329). -/
def Dev.issueIns (d : Dev) (n pc : Nat) (i : EngIns) (stepping : Bool) : Dev :=
  match i with
  | .halt => (d.setPc n (pc + 1)).haltEng n 1
  | .jr ra =>
    if d.engX n ra.toNat < (d.eng n).prog.length then d.setPc n (d.engX n ra.toNat) else d.faultEng n 4 pc
  | .wait all keep mask =>
    if waitMet all mask.toNat (d.engLatch n) then (d.releaseWait n keep mask.toNat).goOn n (pc + 1)
    else if stepping then d else d.setEngState n 3 0
  | i => (d.insEffect n i).goOn n (d.insNext n pc i)

/-- Whether the engines may issue: PROBE does not restructure and PRB is not in reset (R81, R354). -/
def Dev.enginesRun (d : Dev) : Bool := !d.restructuring 5 && !d.inReset 10

/-- The instruction at the PC of engine n. -/
def Dev.insAt (d : Dev) (n : Nat) : Option EngIns := ((d.eng n).prog[d.engPc n]?).bind EngIns.decode

/-- A RUNNING engine n issues the instruction at its PC when that is one the command names (R335). -/
def Dev.issue (p : EngIns → Bool) (n : Nat) (d : Dev) : Dev :=
  if d.enginesRun && d.engState n == 2 then
    match d.insAt n with
    | some i => if p i then d.issueIns n (d.engPc n) i false else d
    | none => d
  else d

/-! ### Software control (R329) -/

/-- The cluster of engine n is no longer gated (R331). -/
def Dev.ungate (d : Dev) (n : Nat) : Dev := { d with gated := d.gated &&& ~~~(1#8 <<< (n / 8)) }

/-- RUN: engine n, if HALTED, goes to RUNNING at its PC; at PC = WORDS it enters FAULT (R334). The cluster is ungated (R331). -/
def Dev.runEng (d : Dev) (n : Nat) : Dev :=
  if d.engState n = 1 then
    let d := d.ungate n
    if d.engPc n < (d.eng n).prog.length then d.setEngState n 2 0 else d.faultEng n 5 (d.eng n).prog.length
  else d

/-- HALT: engine n, if RUNNING or WAITING, goes to HALTED; a WAIT is abandoned with the PC at the WAIT. -/
def Dev.haltCmd (d : Dev) (n : Nat) : Dev :=
  if d.engState n = 2 ∨ d.engState n = 3 then d.haltEng n 2 else d

/-- The engines a 64-bit mask names, applied in order. -/
def Dev.forMask (mask : BitVec 64) (f : Dev → Nat → Dev) (d : Dev) : Dev :=
  Dev.forUpTo 64 (fun d i => if mask.getLsbD i then f d i else d) d

/-- RUN of a mask: every named engine starts in the same tick. -/
def Dev.runMask (mask : BitVec 64) (d : Dev) : Dev := if d.enginesRun then d.forMask mask Dev.runEng else d

/-- HALT of a mask. -/
def Dev.haltMask (mask : BitVec 64) (d : Dev) : Dev := d.forMask mask Dev.haltCmd

/-- RESTART of engine n: any state except EMPTY. -/
def Dev.restartEng (n : Nat) (d : Dev) : Dev := if d.engState n = 0 then d else d.clearEng n

/-- STEP of engine n, if HALTED (R329): one instruction, then HALTED again with cause STEP. -/
def Dev.stepEng (n : Nat) (d : Dev) : Dev :=
  if d.enginesRun && d.engState n == 1 then
    if d.engPc n < (d.eng n).prog.length then
      match d.insAt n with
      | some i =>
        let e := (d.ungate n).issueIns n (d.engPc n) i true
        if e.engState n = 4 ∨ i = .halt then e else e.haltEng n 3
      | none => d
    else d.faultEng n 5 (d.eng n).prog.length
  else d

/-- At the end of a PROBE commit or PRB block reset (R328): every engine with a program in HALTED at PC 0, cleared; those with
AUTORUN = 1 run. -/
def Dev.startEngines (d : Dev) : Dev :=
  let d := d.prb.engines.foldl (fun d e => if e.2.prog.isEmpty then d else d.clearEng e.1) d
  let d := d.prb.engines.foldl (fun d e =>
    if !e.2.prog.isEmpty && d.isSet (Fld.PRB_ENG_CTL.AUTORUN e.1) then (d.ungate e.1).setEngState e.1 2 0 else d) d
  d.engFaultCause

/-- Engine n drives no pin any more, a pulse in progress included. -/
def Dev.endPulses (d : Dev) (n : Nat) : Dev := d.withLines (fun d => d.setEng n { d.eng n with pinPulse := 0 })

/-- At the start of a PROBE commit or PRB block reset: engines halt and release their drives (R354); TRIG_OUT is held deasserted, so
that pulses in progress end (R81). -/
def Dev.stopEngines (d : Dev) : Dev :=
  d.prb.engines.foldl (fun d e =>
    (if d.engState e.1 = 2 ∨ d.engState e.1 = 3 then d.haltEng e.1 0 else d.releaseDrives e.1).endPulses e.1) d

/-- The shared counters and every HITS count become 0 (R354). -/
def Dev.clearProbeCounts (d : Dev) : Dev :=
  { d with regs := d.regs.filter (fun e => !(decide (Reg.PRB_CNT_LO 0 ≤ e.1) && decide (e.1 < Reg.PRB_CNT_LO 256)) &&
      !(decide (0xA40000 ≤ e.1) && decide (e.1 < 0xAA0000) && (e.1 % 0x100 == 0x08 || e.1 % 0x100 == 0x0C))),
           prb := { d.prb with pmRun := [] } }

/-! ### Pre-matchers -/

/-- The active MASK or VALUE of pre-matcher x: word w in bits [32w+31:32w] (R348). -/
def pmWide (m : List (Nat × Word)) (x : Nat) : BitVec 512 :=
  BitVec.ofNat 512 ((List.range 16).foldl (fun v w => v + (Sparse.get 0 m (16 * x + w)).toNat * 2 ^ (32 * w)) 0)

/-- Whether a window matches pre-matcher x (R348): EQ or NE under the mask; with ANCHOR, only window OFFSET of each unit (a
tap without units compares every window). -/
def Dev.pmMatches (d : Dev) (x : Nat) (w : Option Nat × BitVec 512) : Bool :=
  let mask := pmWide d.prb.pmMask x
  let eq := w.2 &&& mask == pmWide d.prb.pmValue x &&& mask
  let inPlace := match w.1 with
    | some i => !d.isSet (Fld.PRB_PM_CTL.ANCHOR x) || i == d.get (Fld.PRB_PM_CTL.OFFSET x)
    | none => true
  inPlace && (if d.isSet (Fld.PRB_PM_CTL.MODE x) then !eq else eq)

/-- The windows a tap presents in one tick reach pre-matcher x (R350): HITS counts the matches, and the event is asserted for
one tick when the running count passes a multiple of EVERY. Nothing is compared while PROBE restructures (R351) or is empty (R54). -/
def Dev.pmTick (x : Nat) (ws : List (Option Nat × BitVec 512)) (d : Dev) : Dev :=
  if !d.isSet (Fld.PRB_PM_CTL.EN x) || !d.regionRuns 5 then d else
    let n := (ws.filter (d.pmMatches x)).length
    let old := Sparse.get 0 d.prb.pmRun x
    let every := d.get (Fld.PRB_PM_EVERY.N x)
    let d := d.incWide (Reg.PRB_PM_HITS_LO x) 48 n
    let d := { d with prb := { d.prb with pmRun := Sparse.put 0 d.prb.pmRun x (old + n) } }
    if old / every < (old + n) / every then d.assertEvent (0x1000 + x) else d

/-- LOAD: the whole pending MASK and VALUE become active (R349). -/
def Dev.pmLoadOp (x : Nat) (d : Dev) : Dev :=
  let cp (m : List (Nat × Word)) (r : Nat → Nat → Nat) :=
    (List.range 16).foldl (fun m w => Sparse.put 0 m (16 * x + w) (d.reg (r x w))) m
  { d with prb := { d.prb with pmMask := cp d.prb.pmMask Reg.PRB_PM_MASK, pmValue := cp d.prb.pmValue Reg.PRB_PM_VALUE } }

/-- HITS_CLR: HITS becomes 0 and the EVERY count restarts (R350). -/
def Dev.pmHitsClrOp (x : Nat) (d : Dev) : Dev :=
  let d := d.setReg64 (Reg.PRB_PM_HITS_LO x) 0
  { d with prb := { d.prb with pmRun := Sparse.put 0 d.prb.pmRun x 0 } }

/-! ### TRIG_IN (R346) -/

/-- The filter of TRIG_INi. -/
def Dev.trigFilter (d : Dev) (i : Nat) : PinFilter := Sparse.get {} d.prb.trigIn i
/-- Replace the filter of TRIG_INi. -/
def Dev.setTrigFilter (d : Dev) (i : Nat) (f : PinFilter) : Dev :=
  { d with prb := { d.prb with trigIn := Sparse.put {} d.prb.trigIn i f } }

/-- An assertion less than 112 ticks after the last accepted one is too soon. -/
def PinFilter.tooSoon (f : PinFilter) (now : Nat) : Bool :=
  match f.lastAccept with
  | some t => decide (now < t + 112)
  | none => false

/-- The filter of TRIG_INi accepts a change to the asserted level; the block of an empty region is clock-gated (R54). -/
def Dev.trigInAssert (i : Nat) (d : Dev) : Dev :=
  if !d.regionActive 5 || !d.bitAt Reg.PRB_TRIG_IN_CTL i || d.bitAt Reg.PRB_TRIG_IN_STATUS i then d else
    let d := d.setBit Reg.PRB_TRIG_IN_STATUS i
    let f := d.trigFilter i
    if f.tooSoon d.ticks then (d.incSat (Fld.PRB_TRIG_IN_CNT.IGNORED i)).setTrigFilter i { f with ignored := true }
    else
      let d := (d.incSat (Fld.PRB_TRIG_IN_CNT.ACCEPTED i)).setTrigFilter i { f with lastAccept := some d.ticks }
      (d.tapEvent (0x2000 + i) 0).assertEvent (0x2100 + i)

/-- The filter of TRIG_INi accepts a deassertion, or a change reverts before its ninth sample and counts as IGNORED. -/
def Dev.trigInRelease (i : Nat) (reverted : Bool) (d : Dev) : Dev :=
  if !d.regionActive 5 || !d.bitAt Reg.PRB_TRIG_IN_CTL i then d
  else if reverted then (d.incSat (Fld.PRB_TRIG_IN_CNT.IGNORED i)).setTrigFilter i { d.trigFilter i with ignored := true }
  else d.clrBit Reg.PRB_TRIG_IN_STATUS i

/-- At a second event (R346): PRB.01 is present for one tick if a pin ignored a change since the last one. -/
def Dev.trigInSecond (d : Dev) : Dev :=
  if d.prb.trigIn.any (fun e => e.2.ignored) then
    let d := (d.raise 321).setInt intPRB 2
    { d with prb := { d.prb with trigIn := d.prb.trigIn.map (fun e => (e.1, { e.2 with ignored := false })) } }
  else d

/-! ### Refused commands -/

/-- A target refuses a command (R340). -/
def Dev.cmdRefused (d : Dev) : Dev := (d.incSat Fld.PRB_CMD_REF_CNT.COMMANDS).raise 322

/-- A command arrives at its target and is no longer in flight. -/
def Dev.arrive (d : Dev) (c : ProbeCmd) : Dev := { d with prb := { d.prb with inFlight := removeFirst c d.prb.inFlight } }

/-! ### The commands -/

/-- ENGINE_RUN (R329). -/
def execEngineRun (req : Requester) (mask : BitVec 64) := runWrite req 10 (Dev.runMask mask)
/-- ENGINE_HALT (R329). -/
def execEngineHalt (req : Requester) (mask : BitVec 64) := runWrite req 10 (Dev.haltMask mask)
/-- ENGINE_RESTART (R329). -/
def execEngineRestart (req : Requester) (eng : Fin 64) := runWrite req 10 (Dev.restartEng eng)
/-- ENGINE_STEP (R329). -/
def execEngineStep (req : Requester) (eng : Fin 64) := runWrite req 10 (Dev.stepEng eng)
/-- NOP. -/
def execNop (eng : Fin 64) := runDev (Dev.issue (fun | .nop => true | _ => false) eng)
/-- HALT (R334). -/
def execHalt (eng : Fin 64) := runDev (Dev.issue (fun | .halt => true | _ => false) eng)
/-- ALU. -/
def execAlu (eng : Fin 64) := runDev (Dev.issue (fun | .alu .. => true | _ => false) eng)
/-- ADDI. -/
def execAddi (eng : Fin 64) := runDev (Dev.issue (fun | .addi .. => true | _ => false) eng)
/-- LDI. -/
def execLdi (eng : Fin 64) := runDev (Dev.issue (fun | .ldi .. => true | _ => false) eng)
/-- INS. -/
def execIns (eng : Fin 64) := runDev (Dev.issue (fun | .ins .. => true | _ => false) eng)
/-- BR. -/
def execBr (eng : Fin 64) := runDev (Dev.issue (fun | .br .. => true | _ => false) eng)
/-- JMP. -/
def execJmp (eng : Fin 64) := runDev (Dev.issue (fun | .jmp .. => true | _ => false) eng)
/-- JAL. -/
def execJal (eng : Fin 64) := runDev (Dev.issue (fun | .jal .. => true | _ => false) eng)
/-- JR (R334). -/
def execJr (eng : Fin 64) := runDev (Dev.issue (fun | .jr .. => true | _ => false) eng)
/-- WAIT (R337): releases at once or the engine enters WAITING. -/
def execWait (eng : Fin 64) := runDev (Dev.issue (fun | .wait .. => true | _ => false) eng)
/-- EVRD. -/
def execEvrd (eng : Fin 64) := runDev (Dev.issue (fun | .evrd .. => true | _ => false) eng)
/-- EVCLR (R337). -/
def execEvclr (eng : Fin 64) := runDev (Dev.issue (fun | .evclr .. => true | _ => false) eng)
/-- ESEL (R337). -/
def execEsel (eng : Fin 64) := runDev (Dev.issue (fun | .esel .. => true | _ => false) eng)
/-- TSET (R338). -/
def execTset (eng : Fin 64) := runDev (Dev.issue (fun | .tset .. => true | _ => false) eng)
/-- TRD. -/
def execTrd (eng : Fin 64) := runDev (Dev.issue (fun | .trd .. => true | _ => false) eng)
/-- CNT INC (R339). -/
def execCntInc (eng : Fin 64) := runDev (Dev.issue (fun | .cnt op _ _ => op == 0 | _ => false) eng)
/-- CNT ADD (R339). -/
def execCntAdd (eng : Fin 64) := runDev (Dev.issue (fun | .cnt op _ _ => op == 1 | _ => false) eng)
/-- CNT WR (R339). -/
def execCntWr (eng : Fin 64) := runDev (Dev.issue (fun | .cnt op _ _ => op == 2 | _ => false) eng)
/-- CNT RD (R339). -/
def execCntRd (eng : Fin 64) := runDev (Dev.issue (fun | .cnt op _ _ => op == 3 | _ => false) eng)
/-- TRIG PULSE (R342). -/
def execTrigPulse (eng : Fin 64) := runDev (Dev.issue (fun | .trig m _ _ => m == 0 | _ => false) eng)
/-- TRIG SET (R342). -/
def execTrigSet (eng : Fin 64) := runDev (Dev.issue (fun | .trig m _ _ => m == 1 | _ => false) eng)
/-- TRIG CLR (R342). -/
def execTrigClr (eng : Fin 64) := runDev (Dev.issue (fun | .trig m _ _ => m == 2 | _ => false) eng)
/-- CAP START (R340). -/
def execCapStart (eng : Fin 64) := runDev (Dev.issue (fun | .cap c _ _ => c == 0 | _ => false) eng)
/-- CAP STOP (R340). -/
def execCapStop (eng : Fin 64) := runDev (Dev.issue (fun | .cap c _ _ => c == 1 | _ => false) eng)
/-- CAP MARK (R340). -/
def execCapMark (eng : Fin 64) := runDev (Dev.issue (fun | .cap c _ _ => c == 2 | _ => false) eng)
/-- CAP DEST (R340). -/
def execCapDest (eng : Fin 64) := runDev (Dev.issue (fun | .cap c _ _ => c == 3 | _ => false) eng)
/-- QCMD ARM (R340). -/
def execQcmdArm (eng : Fin 64) := runDev (Dev.issue (fun | .qcmd c _ => c == 0 | _ => false) eng)
/-- QCMD TRIGGER (R340). -/
def execQcmdTrigger (eng : Fin 64) := runDev (Dev.issue (fun | .qcmd c _ => c == 1 | _ => false) eng)
/-- QCMD STOP (R340). -/
def execQcmdStop (eng : Fin 64) := runDev (Dev.issue (fun | .qcmd c _ => c == 2 | _ => false) eng)
/-- PLAY START (R340). -/
def execPlayStart (eng : Fin 64) := runDev (Dev.issue (fun | .play c _ _ => c == 0 | _ => false) eng)
/-- PLAY NEXT (R340). -/
def execPlayNext (eng : Fin 64) := runDev (Dev.issue (fun | .play c _ _ => c == 1 | _ => false) eng)
/-- PLAY STOP (R340). -/
def execPlayStop (eng : Fin 64) := runDev (Dev.issue (fun | .play c _ _ => c == 2 | _ => false) eng)
/-- TSR (R343). -/
def execTsr (eng : Fin 64) := runDev (Dev.issue (fun | .tsr .. => true | _ => false) eng)
/-- GET. -/
def execGet (eng : Fin 64) := runDev (Dev.issue (fun | .get .. => true | _ => false) eng)
/-- PUT. -/
def execPut (eng : Fin 64) := runDev (Dev.issue (fun | .put .. => true | _ => false) eng)
/-- SIG. -/
def execSig (eng : Fin 64) := runDev (Dev.issue (fun | .sig .. => true | _ => false) eng)

/-- The WAIT at the PC of a WAITING engine releases when its condition holds (R337). -/
def Dev.waitRelease (n : Nat) (d : Dev) : Dev :=
  if d.enginesRun && d.engState n == 3 then
    match d.insAt n with
    | some (.wait all keep mask) =>
      if waitMet all mask.toNat (d.engLatch n) then
        ((d.setEngState n 2 0).releaseWait n keep mask.toNat).goOn n (d.engPc n + 1)
      else d
    | _ => d
  else d

/-- WAIT_RELEASE (R337). -/
def execWaitRelease (eng : Fin 64) := runDev (Dev.waitRelease eng)

/-- A loaded timer of a running or waiting engine reaches its count, in the last of its ticks (R338): its latch is set; a periodic timer
starts again. -/
def Dev.timerExpiry (n t : Nat) (d : Dev) : Dev :=
  let e := d.eng n
  let tm := Sparse.get {} e.timers t
  if d.enginesRun && tm.loaded && decide (tm.remaining ≤ 1) && (d.engState n == 2 || d.engState n == 3) then
    let tm' : EngTimer := if tm.period = 0 then {} else { tm with remaining := tm.period }
    (d.setEng n { e with timers := Sparse.put {} e.timers t tm' }).latch n (2 ^ (16 + t))
  else d

/-- TIMER_EXPIRY (R338). -/
def execTimerExpiry (eng : Fin 64) (timer : Fin 8) := runDev (Dev.timerExpiry eng timer)

/-- A write of PRB_CNT_HIc applies the value with its held low part (R21, R339). -/
def Dev.prbCntWrite (c : Nat) (hi : Word) (d : Dev) : Dev :=
  let lo := Sparse.get (d.reg (Reg.PRB_CNT_LO c)) d.held (Reg.PRB_CNT_LO c)
  { d.setReg64 (Reg.PRB_CNT_LO c) (hi.toNat * 2 ^ 32 + lo.toNat) with held := Sparse.erase (Reg.PRB_CNT_LO c) d.held }

/-- PRB_CNT_WRITE (R339). -/
def execPrbCntWrite (req : Requester) (counter : Fin 256) (hi : Word) := runWrite req 10 (Dev.prbCntWrite counter hi)

/-- The PW count of a pin pulse ends, PW ticks after the PULSE (R342). -/
def Dev.pinPulseEnd (n i : Nat) (d : Dev) : Dev :=
  if d.ticks < Sparse.get 0 (d.eng n).pinDue i then d
  else d.withLines (fun d => d.setEng n { d.eng n with pinPulse := (d.eng n).pinPulse &&& ~~~(1#4 <<< i) })

/-- TRIG_OUT_PULSE_END (R342). -/
def execTrigOutPulseEnd (eng : Fin 64) (pin : Fin 4) := runDev (Dev.pinPulseEnd eng pin)
/-- TRIG_IN_ASSERT (R346). -/
def execTrigInAssert (pin : Fin 4) := runDev (Dev.trigInAssert pin)
/-- PM_LOAD (R349). -/
def execPmLoad (req : Requester) (matcher : Fin 1536) := runWrite req 10 (Dev.pmLoadOp matcher)
/-- PM_HITS_CLR (R350). -/
def execPmHitsClr (req : Requester) (matcher : Fin 1536) := runWrite req 10 (Dev.pmHitsClrOp matcher)

end Sys2Proof.Machine
end

