-- ==== Sys2Proof/Machine/Clocks.lean ====
section
/-! DEFINITION. Block TIM: reference candidates and the DPLL, pulls, the device time counter, pulse outputs, SYNC and PPS
inputs and PTP timestamping (14_clocks_time_references.md). -/

namespace Sys2Proof.Machine

/-! ### Candidates (R425 to R429) -/

/-- Rank of candidate i: PRIO, 0 not selectable. -/
def Dev.prio (d : Dev) (i : Nat) : Nat := d.get (Fld.TIM_REF_CTL.PRIO i)
/-- Nominal frequency of candidate i; 0 while a recovered candidate is not offered. -/
def Dev.refHz (d : Dev) (i : Nat) : Nat :=
  if i < 2 then d.get (Fld.TIM_REF_FREQ.HZ i) else d.get (Fld.TIM_REF_FREQ_OTHER.HZ (i - 2))
/-- Whether candidate i is offered (R425): the REF_IN pins always, PPS_IN while sampled, others while their source is valid. -/
def Dev.offered (d : Dev) (i : Nat) : Bool := decide (i < 2) || decide (d.refHz i ≠ 0)
/-- Whether candidate i is selectable (R427). -/
def Dev.selectable (d : Dev) (i : Nat) : Bool :=
  decide (d.prio i ≠ 0) && d.isSet (Fld.TIM_REF_STATUS.QUAL i) && !d.isSet (Fld.TIM_REF_STATUS.WTR_RUN i)

/-- Whether candidate i disagrees with another (R429): both qualified, of equal rank (PRIO 0 is none, R427), and their offsets (0.001 ppm) differ by
more than DIS_LIMIT (0.1 ppm). -/
def Dev.disagrees (d : Dev) (i : Nat) : Bool :=
  d.isSet (Fld.TIM_REF_STATUS.QUAL i) && decide (d.prio i ≠ 0) && (List.range 12).any (fun j => decide (j ≠ i) &&
    d.isSet (Fld.TIM_REF_STATUS.QUAL j) && decide (d.prio i = d.prio j) &&
    decide ((d.get Fld.TIM_MON_CTL.DIS_LIMIT * 100 : Nat) <
      (d.getInt (Fld.TIM_REF_FO.FO i) - d.getInt (Fld.TIM_REF_FO.FO j)).natAbs))

/-- The DPLL state code (Table 3). -/
def Dev.dpll (d : Dev) : Nat := d.get Fld.TIM_DPLL_STATUS.STATE

/-- Bring QUAL of candidate i in line with ACT and FREQ_OK (R426): a newly qualified candidate starts its wait-to-restore
timer, except in FREE_RUN and DISQ_ALL (R428); a lost one stops it, and the loss of the current reference is reported
(R450). -/
def Dev.requalify (d : Dev) (i : Nat) : Dev :=
  let q := d.isSet (Fld.TIM_REF_STATUS.ACT i) && d.isSet (Fld.TIM_REF_STATUS.FREQ_OK i)
  let was := d.isSet (Fld.TIM_REF_STATUS.QUAL i)
  if q && !was then
    let d := d.put (Fld.TIM_REF_STATUS.QUAL i) 1
    let wtr := d.get Fld.TIM_WTR.SEC
    if d.dpll = 0 ∨ d.dpll = 5 ∨ wtr = 0 then d
    else
      let d := { d with tim := { d.tim with wtrSince := Sparse.insert i d.ticks d.tim.wtrSince } }
      (d.put (Fld.TIM_REF_STATUS.WTR_RUN i) 1).put (Fld.TIM_REF_STATUS.WTR_LEFT i) wtr
  else if !q && was then
    let d := ((d.put (Fld.TIM_REF_STATUS.QUAL i) 0).put (Fld.TIM_REF_STATUS.WTR_RUN i) 0).put
      (Fld.TIM_REF_STATUS.WTR_LEFT i) 0
    if d.get Fld.TIM_DPLL_STATUS.SEL = i then (d.raise 416).incSat Fld.TIM_SW_CNT.REF_LOSS else d
  else d

/-- Bring SELECTABLE, DISAGREE and the cause of TIM.03 of every candidate up to date (R427, R429). -/
def Dev.refreshRefs (d : Dev) : Dev :=
  let d := Dev.forUpTo 12 (fun d i => (d.put (Fld.TIM_REF_STATUS.SELECTABLE i) (bit (d.selectable i))).put
    (Fld.TIM_REF_STATUS.DISAGREE i) (bit (d.disagrees i))) d
  d.causeIs 419 ((List.range 12).any (fun i => d.isSet (Fld.TIM_REF_STATUS.DISAGREE i)))

/-- Candidate i loses activity (R426): ACT and FREQ_OK clear, FO reads 0. -/
def Dev.refInactive (i : Nat) (d : Dev) : Dev :=
  let d := ((d.put (Fld.TIM_REF_STATUS.ACT i) 0).put (Fld.TIM_REF_STATUS.FREQ_OK i) 0).put (Fld.TIM_REF_FO.FO i) 0
  let d := { d with tim := { d.tim with good := Sparse.put 0 d.tim.good i 0 } }
  (d.requalify i).refreshRefs

/-- A recovered candidate becomes offered with a nominal frequency in Hz (R425). -/
def Dev.offerRef (d : Dev) (i hz : Nat) : Dev := d.put (Fld.TIM_REF_FREQ_OTHER.HZ (i - 2)) hz
/-- A recovered candidate is no longer offered: it shows no activity (R425), once the monitors are not frozen by an XO failure (R435). -/
def Dev.withdrawRef (d : Dev) (i : Nat) : Dev :=
  let d := d.put (Fld.TIM_REF_FREQ_OTHER.HZ (i - 2)) 0
  if d.tim.xoOk then d.refInactive i else d

/-- An edge of candidate i while it is offered: ACT sets (R426). -/
def Dev.refEdge (i : Nat) (d : Dev) : Dev :=
  if d.tim.xoOk && d.offered i then ((d.put (Fld.TIM_REF_STATUS.ACT i) 1).requalify i).refreshRefs else d

/-- Fabric ticks in a second. -/
def secondTicks : Nat := 1120000000

/-- Seconds left on the wait-to-restore timer of candidate i (R428, Table 8). -/
def Dev.wtrLeft (d : Dev) (i : Nat) : Nat :=
  if d.isSet (Fld.TIM_REF_STATUS.WTR_RUN i) then
    d.get (Fld.TIM_REF_STATUS.WTR_LEFT i) - (d.ticks - Sparse.get d.ticks d.tim.wtrSince i) / secondTicks
  else 0

/-- The wait-to-restore timer of candidate i expires once its seconds have passed (R428). -/
def Dev.wtrExpiry (i : Nat) (d : Dev) : Dev :=
  if d.isSet (Fld.TIM_REF_STATUS.WTR_RUN i) && decide (d.wtrLeft i = 0) then
    ((d.put (Fld.TIM_REF_STATUS.WTR_RUN i) 0).put (Fld.TIM_REF_STATUS.WTR_LEFT i) 0).refreshRefs
  else d

/-- A frequency measurement of candidate i ends (R426), in 0.001 ppm; none is made while ACT is 0 or the XO has failed. -/
def Dev.freqMeasure (i : Nat) (fo : Int) (d : Dev) : Dev :=
  if !d.isSet (Fld.TIM_REF_STATUS.ACT i) || !d.tim.xoOk then d else
    let d := d.putIntSat (Fld.TIM_REF_FO.FO i) fo
    let n := Sparse.get 0 d.tim.good i
    let setGood (d : Dev) (n : Nat) : Dev := { d with tim := { d.tim with good := Sparse.put 0 d.tim.good i n } }
    let d :=
      if d.get Fld.TIM_MON_CTL.REJECT * 100 < fo.natAbs then (setGood d 0).put (Fld.TIM_REF_STATUS.FREQ_OK i) 0
      else if fo.natAbs ≤ d.get Fld.TIM_MON_CTL.ACCEPT * 100 then
        let d := setGood d (min (n + 1) 3)
        if 3 ≤ n + 1 then d.put (Fld.TIM_REF_STATUS.FREQ_OK i) 1 else d
      else setGood d 0
    (d.requalify i).refreshRefs

/-! ### The DPLL (R427, R430 to R436) -/

/-- Enter a DPLL state (Table 3): STATE_CHG, the TIME tap entry, the causes of TIM.01 and TIM.02; HO_VALID returns to 0 in
FREE_RUN and DISQ_ALL, where no wait-to-restore timer runs (R428, R434). -/
def Dev.setDpll (d : Dev) (st sel : Nat) : Dev :=
  let old := d.dpll
  let same := decide (d.get Fld.TIM_DPLL_STATUS.SEL = sel) && decide (old = st)
  let d := d.put Fld.TIM_DPLL_STATUS.SEL sel
  let d := if same then d else { d with tim := { d.tim with dpllSince := d.ticks } }
  if old = st then d else
    let d := ((d.put Fld.TIM_DPLL_STATUS.STATE st).setInt intTIM 0).tapEvent 0x3003 st
    let d := (d.causeIs 417 (st == 3)).causeIs 418 (st == 5)
    if st = 0 ∨ st = 5 then
      (Dev.forUpTo 12 (fun d i => (d.put (Fld.TIM_REF_STATUS.WTR_RUN i) 0).put (Fld.TIM_REF_STATUS.WTR_LEFT i) 0)
        (d.put Fld.TIM_DPLL_STATUS.HO_VALID 0)).refreshRefs
    else d

/-- Without a usable reference: HOLDOVER with HO_VALID = 1, otherwise DISQ_ALL. -/
def Dev.dpllHold (d : Dev) : Dev :=
  let d := d.setDpll (if d.isSet Fld.TIM_DPLL_STATUS.HO_VALID then 3 else 5) 15
  d.put Fld.TIM_DPLL_PHERR.PS 0

/-- The phase step of a switch (R436): the phase in ps reduced modulo the period of a reference of hz Hz to (-T/2, T/2]. -/
def phaseStep (phase : Int) (hz : Nat) : Int :=
  if hz = 0 then 0 else
    let m := (phase * hz) % 1000000000000
    (if 500000000000 < m then m - 1000000000000 else m) / hz

/-- Picoseconds in units of the time counter. -/
def psUnits (ps : Int) : Int := ps * (2 ^ 40 : Nat) / 1000

/-- Whether a pull is in progress decides the cause of TIM.05 (R437). -/
def Dev.pullCause (d : Dev) : Dev := d.causeIs 421 (d.tim.pull != 0)

/-- Move to candidate b (R436): from LOCKED or SWITCHING a switch, otherwise ACQUIRING; Δ is applied to the data-class clocks
and pulled out of the time counter. -/
def Dev.dpllGoto (d : Dev) (b : Nat) (phase : Int) : Dev :=
  let step := phaseStep phase (d.refHz b)
  let d := d.setDpll (if d.dpll = 2 ∨ d.dpll = 4 then 4 else 1) b
  let d := ((d.putIntSat Fld.TIM_SW_STEP.PS step).incSat Fld.TIM_SW_CNT.SWITCHES).raise 420
  let d := d.setInt intTIM 1
  ({ d with tim := { d.tim with pull := d.tim.pull + psUnits step } }).pullCause

/-- The selectable candidate of highest rank, of equal ranks the lower index (R427). -/
def Dev.bestRef (d : Dev) : Option Nat :=
  (List.range 12).foldl (fun best i =>
    if d.selectable i then
      match best with
      | some b => if d.prio i < d.prio b then some i else best
      | none => some i
    else best) none

/-- The DPLL evaluates its selection under MODE (R427, R430, R431); phase is the phase of the reference it moves to. -/
def Dev.refSelect (phase : Int) (d : Dev) : Dev :=
  let sel := d.get Fld.TIM_DPLL_STATUS.SEL
  if !d.tim.xoOk then d.dpllHold else
  match d.get Fld.TIM_DPLL_CTL.MODE with
  | 0 =>
    if (List.range 12).all (fun i => d.prio i == 0) then (d.setDpll 0 15).put Fld.TIM_DPLL_PHERR.PS 0
    else if decide (sel < 12) && d.selectable sel then
      match d.bestRef with
      | some b =>
        if d.dpll != 4 && d.isSet Fld.TIM_DPLL_CTL.REVERTIVE && decide (d.prio b < d.prio sel) then d.dpllGoto b phase else d
      | none => d
    else match d.bestRef with
      | some b => d.dpllGoto b phase
      | none => d.dpllHold
  | 1 =>
    let f := d.get Fld.TIM_DPLL_CTL.FORCE_IDX
    if d.isSet (Fld.TIM_REF_STATUS.QUAL f) then
      if sel = f ∧ (d.dpll = 1 ∨ d.dpll = 2 ∨ d.dpll = 4) then d else d.dpllGoto f phase
    else d.dpllHold
  | 2 => d.dpllHold
  | _ => (d.setDpll 0 15).put Fld.TIM_DPLL_PHERR.PS 0

/-- The DPLL evaluates its selection where no command gives the phase of a reference it moves to: a free value. -/
def Dev.reselect (d : Dev) : Dev := { d.refSelect (Config.freeNat d.fresh : Int) with fresh := d.fresh + 1 }

/-- What follows a change of HO_AVG from the register value old: HO_VALID returns to 0, and a new averaging period begins (R434). -/
def Dev.hoAvgChange (old : Word) (d : Dev) : Dev :=
  if (d.reg Reg.TIM_DPLL_CTL ^^^ old) &&& 0x00030000 = 0 then d
  else { d.put Fld.TIM_DPLL_STATUS.HO_VALID 0 with tim := { d.tim with hoSince := d.ticks } }

/-- A write of MODE is shadowed to the next tick; unless held, it then overrides the selection (R431, R451). -/
def Dev.dpllModeWrite (mode : Nat) (phase : Int) (d : Dev) : Dev :=
  let a := Reg.TIM_DPLL_CTL
  let d := d.setShadow a (setBits (d.shadowReg a) 1 0 mode)
  if d.held? 13 then d else ((d.copyShadow (fun k => k == a)).hoAvgChange (d.reg a)).refSelect phase

/-- What follows a change of HO_AVG, MODE or FORCE_IDX from the register value old (R431, R434). -/
def Dev.timModes (old : Word) (d : Dev) : Dev :=
  let d := d.hoAvgChange old
  if (d.reg Reg.TIM_DPLL_CTL ^^^ old) &&& 0x000000F3 = 0 then d else d.reselect

/-- PPS_IN is a candidate while it is sampled (Table 2). -/
def Dev.ppsOffer (d : Dev) : Dev :=
  if d.isSet Fld.TIM_PPSIN_CTL.EN then d.offerRef 11 1 else if d.refHz 11 = 0 then d else d.withdrawRef 11

/-- The next fabric tick: pending fields of TIM become active together, unless held (R451). -/
def Dev.timBoundary (d : Dev) : Dev :=
  if d.held? 13 || d.inReset 13 || !d.shadow.any (fun e => keyBlock e.1 == 13) then d
  else ((d.copyShadow (fun a => keyBlock a == 13)).ppsOffer.refreshRefs).timModes (d.reg Reg.TIM_DPLL_CTL)

/-- The loop bandwidth in use, in 0.1 Hz: 0.1 Hz for PPS_IN, else as BW selects (R433, Table 7). -/
def Dev.loopBw (d : Dev) : Nat :=
  if d.get Fld.TIM_DPLL_STATUS.SEL = 11 then 1
  else ([1, 3, 10, 30, 100, 300, 1000, 3000] : List Nat).getD (d.get Fld.TIM_DPLL_CTL.BW) 10000

/-- The time for which the phase error has to stay within ±2 ns, in ticks: max(1 ms, 2 / BW) (R433). -/
def Dev.lockTicks (d : Dev) : Nat := max 1120000 (20 * secondTicks / d.loopBw)

/-- Whether the DPLL has LOCKED's phase error (ps) and has had its state and reference for the lock time (R433). -/
def Dev.lockMet (d : Dev) (pe : Int) : Bool := decide (pe.natAbs ≤ 2000) && decide (d.tim.dpllSince + d.lockTicks ≤ d.ticks)

/-- The phase error stays within ±2 ns for the lock time (R433). -/
def Dev.dpllLock (pe : Int) (d : Dev) : Dev :=
  if (d.dpll = 1 ∨ d.dpll = 4) ∧ d.lockMet pe then (d.setDpll 2 (d.get Fld.TIM_DPLL_STATUS.SEL)).putIntSat Fld.TIM_DPLL_PHERR.PS pe else d

/-- The phase error leaves ±20 ns while the DPLL keeps its reference (R433). -/
def Dev.dpllUnlock (pe : Int) (d : Dev) : Dev :=
  if d.dpll = 2 ∧ 20000 < pe.natAbs then (d.setDpll 1 (d.get Fld.TIM_DPLL_STATUS.SEL)).putIntSat Fld.TIM_DPLL_PHERR.PS pe else d

/-- The averaging period HO_AVG in ticks (R434). -/
def Dev.hoTicks (d : Dev) : Nat := 10 ^ d.get Fld.TIM_DPLL_CTL.HO_AVG * secondTicks

/-- HO_VALID becomes 1 once the DPLL has stayed LOCKED for one full HO_AVG period (R434). -/
def Dev.hoValid (d : Dev) : Dev :=
  if d.dpll = 2 ∧ max d.tim.dpllSince d.tim.hoSince + d.hoTicks ≤ d.ticks then d.put Fld.TIM_DPLL_STATUS.HO_VALID 1 else d

/-- The XO stops (R435): TIM.07, open-loop root, frozen monitors, HOLDOVER or DISQ_ALL. -/
def Dev.xoFail (d : Dev) : Dev := ({ d with tim := { d.tim with xoOk := false } }.causeOn 423).dpllHold
/-- Edges return on XO_IN. -/
def Dev.xoReturn (d : Dev) : Dev := { d with tim := { d.tim with xoOk := true } }.causeOff 423

/-! ### The time counter (R437 to R440) -/

/-- ADDEND in use. -/
def Dev.addend (d : Dev) : Nat := d.reg64 Reg.TIM_ADDEND_LO % 2 ^ 48
/-- The reset value of ADDEND, 25/28 ns. -/
def addendReset : Nat := 0xE492492492
/-- The nearest ADDEND within ±0.1 % of the reset value (R438). -/
def addendStore (v : Nat) : Nat := clampNat (addendReset * 999 / 1000 + 1) (addendReset * 1001 / 1000) v

/-- A counter value saturated at zero and at the largest value (R439). -/
def tcSat (t : Int) : Nat := if t < 0 then 0 else min t.toNat tcMax

/-- The value of the four TIM_SET registers. -/
def Dev.timSetValue (d : Dev) : Nat :=
  (d.get Fld.TIM_SET_MID1.SEC + d.get Fld.TIM_SET_HI.SEC * 2 ^ 32) * tcSecond + d.get Fld.TIM_SET_MID0.NS * tcNs +
    d.get Fld.TIM_SET_LO.FRAC * 2 ^ 24

/-- The counter takes a new value by SET, STEP or load (R439): the generator does not follow, and a TIME tap entry reports the
change in ns. -/
def Dev.tcWrite (d : Dev) (t : Int) : Dev :=
  let old := d.tc
  let d := { d with tc := tcSat t }
  let diff : Int := (d.tc : Int) - old
  let d := { d with tim := { d.tim with genOff := d.tim.genOff - diff } }
  d.tapEvent 0x3004 (ofSigned 32 (clampInt (-(2 ^ 31 : Nat)) ((2 ^ 31 : Nat) - 1) (diff / (tcNs : Nat))))

/-- SET, and a load (R439). -/
def Dev.tcSet (d : Dev) : Dev := d.tcWrite d.timSetValue
/-- A write of TIM_STEP_HI adds the step, in 2^-16 ns (R439). -/
def Dev.tcStep (hi : Nat) (d : Dev) : Dev :=
  let lo := Sparse.get (d.reg Reg.TIM_STEP_LO) d.held Reg.TIM_STEP_LO
  let d := { d with held := Sparse.erase Reg.TIM_STEP_LO d.held }
  let d := (d.setReg Reg.TIM_STEP_LO lo).put Fld.TIM_STEP_HI.STEP hi
  let step := toSigned 48 (hi % 2 ^ 16 * 2 ^ 32 + lo.toNat) * (2 ^ 24 : Nat)
  d.tcWrite ((d.tc : Int) + step)

/-- A pull is complete (R437): what remains is added to the counter and the generator. -/
def Dev.pullDone (d : Dev) : Dev :=
  if d.tim.pull = 0 then d else
    let t := tcSat ((d.tc : Int) + d.tim.pull)
    (({ d with tc := t, tim := { d.tim with pull := 0 } }).setInt intTIM 2).pullCause

/-- At a second event (R439): event line 0x2300, and the checks of TRIG_IN, SYNC_IN and PPS_IN (R346, R444). -/
def Dev.secondEvent (d : Dev) : Dev :=
  let d := (d.assertEvent 0x2300).trigInSecond
  let d := if d.tim.syncIn.ignored then d.raise 425 else d
  let d := if d.tim.ppsIn.ignored then d.raise 426 else d
  { d with tim := { d.tim with syncIn := { d.tim.syncIn with ignored := false },
                               ppsIn := { d.tim.ppsIn with ignored := false } } }

/-- The most one tick pulls, in 2^-40 ns: SLOPE ns/s over 25/28 ns (R436). -/
def Dev.pullPerTick (d : Dev) : Int := ((d.get Fld.TIM_PULL_CTL.SLOPE * 25 * 2 ^ 40 / (28 * 1000000000) : Nat) : Int)

/-- What n ticks pull: no more than is left (R436). -/
def Dev.pullOver (d : Dev) (n : Nat) : Int := clampInt (-(n * d.pullPerTick)) (n * d.pullPerTick) d.tim.pull

/-- The timers of the engines that run or wait count n ticks down, each to its last tick; TIMER_EXPIRY is a command of its own. -/
def Dev.tickTimers (d : Dev) (n : Nat) : Dev :=
  { d with prb := { d.prb with engines := d.prb.engines.map (fun e =>
      if d.engState e.1 = 2 ∨ d.engState e.1 = 3 then
        (e.1, { e.2 with timers := e.2.timers.map (fun t => (t.1, { t.2 with remaining := max 1 (t.2.remaining - n) })) })
      else e) } }

/-- n fabric ticks pass: the counter advances by ADDEND and the pull's share, the generator with it (R436, R438); a pull that has come to its
end is done (R437); engine timers count, and bound counters count asserted levels (R339). -/
def Dev.passTicks (n : Nat) (d : Dev) : Dev :=
  let step := d.pullOver n
  let done := decide (d.tim.pull ≠ 0) && decide (d.tim.pull = step)
  let d := { d with ticks := d.ticks + n, tc := tcSat ((d.tc : Int) + ((n * d.addend : Nat) : Int) + step),
                    tim := { d.tim with pull := d.tim.pull - step } }
  let d := if done then (d.setInt intTIM 2).pullCause else d
  (d.tickTimers n).assertLinesFor n d.levelLines

/-- The ticks of ADDEND and pull that take the counter to its next second (R439). -/
def Dev.ticksToSecond (d : Dev) : Nat :=
  let left : Int := ((tcSecond - d.tc % tcSecond : Nat) : Int)
  let up (v : Int) (rate : Int) : Nat := ((v + rate - 1) / rate).toNat
  let rate : Int := (d.addend : Int) + (if 0 ≤ d.tim.pull then d.pullPerTick else -d.pullPerTick)
  let n := up left rate
  let m := up (left - d.tim.pull) d.addend
  if n * d.pullPerTick ≤ (d.tim.pull.natAbs : Int) ∨ m * d.pullPerTick < (d.tim.pull.natAbs : Int) then n else m

/-- Time passes to the tick in which ADDEND and the pull carry the counter into its next second (DESIGN CHOICE,
notes/assumptions/2.md). -/
def Dev.toNextSecond (d : Dev) : Dev := (d.passTicks d.ticksToSecond).secondEvent

/-! ### Pulse outputs (R441 to R443) -/

/-- The pulse generator realigns: its phase relative to the counter becomes off. -/
def Dev.realign (d : Dev) (off : Int) : Dev :=
  { d with tim := { d.tim with genOff := off, realignedPps := true, realignedFrame := true } }

/-- Whether a pulse is omitted (R442): the first after a realignment, less than half a period (ns) after the last. -/
def omitPulse (realigned : Bool) (last : Option Nat) (now periodNs : Nat) : Bool :=
  realigned && (match last with
    | some t => decide ((now - t) * 25 * 2 < periodNs * 28)
    | none => false)

/-- The pulse of an output pin (0 PPS_OUT, 1 FRAME_OUT, 2 SYNC_OUT) that has begun ends at a tick. -/
def Dev.pulseUntil (d : Dev) (k t : Nat) : Dev := { d with tim := { d.tim with pulseDue := Sparse.insert k t d.tim.pulseDue } }

/-- PPS_OUT at a second boundary of the generator (R441). -/
def Dev.ppsOut (d : Dev) : Dev :=
  let skip := omitPulse d.tim.realignedPps d.tim.lastPps d.ticks 1000000000
  let d := { d with tim := { d.tim with realignedPps := false } }
  if skip then d else
    let d := (d.tapEvent 0x3001 0).pulseUntil 0 (d.ticks + d.get Fld.TIM_PULSE_CTL.PW)
    { d with tim := { d.tim with lastPps := some d.ticks, ppsHigh := d.tim.ppsHigh || d.isSet Fld.TIM_PULSE_CTL.PPS_EN } }

/-- FRAME_OUT at an instant of the generator (R441): the tap entry and the event line follow it whether or not the pin is
enabled. -/
def Dev.frameOut (d : Dev) : Dev :=
  let skip := omitPulse d.tim.realignedFrame d.tim.lastFrame d.ticks (d.get Fld.TIM_FRAME_PER.NS)
  let d := { d with tim := { d.tim with realignedFrame := false } }
  if skip then d else
    let d := ((d.tapEvent 0x3002 0).assertEvent 0x2301).pulseUntil 1 (d.ticks + d.get Fld.TIM_PULSE_CTL.PW)
    { d with tim := { d.tim with lastFrame := some d.ticks,
                                 frameHigh := d.tim.frameHigh || d.isSet Fld.TIM_PULSE_CTL.FRAME_EN } }

/-- The place of an output pin among the pulses in progress. -/
def pulsePlace : OutputPin → Nat
  | .ppsOut => 0
  | .frameOut => 1
  | .syncOut => 2

/-- The end of an output pulse, PW or OUT_PW ticks after it began (R441, R445). -/
def Dev.outputPulseEnd (p : OutputPin) (d : Dev) : Dev :=
  if d.ticks < Sparse.get 0 d.tim.pulseDue (pulsePlace p) then d else
  match p with
  | .ppsOut => { d with tim := { d.tim with ppsHigh := false } }
  | .frameOut => { d with tim := { d.tim with frameHigh := false } }
  | .syncOut => { d with tim := { d.tim with syncOutHigh := false } }

/-- In SYNC mode the synchronising event defines a second boundary of the generator at the event + OFFSET ticks (R443); an
event within ±1 tick of the predicted boundary changes nothing. -/
def Dev.syncGenerator (d : Dev) : Dev :=
  if d.get Fld.TIM_PULSE_CTL.SYNC_MODE ≠ 1 then d else
    let off := d.getInt Fld.TIM_PULSE_OFFSET.TICKS * (d.addend : Int)
    let gen := ((d.tc : Int) + d.tim.genOff + off) % (tcSecond : Int)
    if gen ≤ d.addend ∨ (tcSecond : Int) - gen ≤ d.addend then d
    else d.realign (d.tim.genOff + (if gen ≤ (tcSecond : Int) / 2 then -gen else (tcSecond : Int) - gen))

/-! ### SYNC_IN and PPS_IN (R444, R445) -/

/-- What an input filter makes of an accepted change to the asserted level: the new filter, and whether the assertion is
accepted (not too soon). -/
def PinFilter.assertion (f : PinFilter) (now : Nat) : PinFilter × Bool :=
  if f.tooSoon now then ({ f with level := true, ignored := true }, false)
  else ({ f with level := true, lastAccept := some now }, true)

/-- SYNC_IN: an accepted assertion is timestamped, and is the synchronising event when SRC = 0. -/
def Dev.syncInAssert (d : Dev) : Dev :=
  if !d.isSet Fld.TIM_SYNC_CTL.EN || d.tim.syncIn.level then d else
    let r := d.tim.syncIn.assertion d.ticks
    let d := { d with tim := { d.tim with syncIn := r.1 } }
    if r.2 then
      let d := ((d.incSat Fld.TIM_SYNC_CNT.ACCEPTED).setTime4 Reg.TIM_SYNC_TS_LO d.tc).tapEvent 0x2020 0
      if d.isSet Fld.TIM_SYNC_CTL.SRC then d else { d with tim := { d.tim with syncDue := true } }
    else d.incSat Fld.TIM_SYNC_CNT.IGNORED

/-- PPS_IN: an accepted assertion is timestamped; it is the edge of candidate 11 (Table 2). -/
def Dev.ppsInAssert (d : Dev) : Dev :=
  if !d.isSet Fld.TIM_PPSIN_CTL.EN || d.tim.ppsIn.level then d else
    let r := d.tim.ppsIn.assertion d.ticks
    let d := { d with tim := { d.tim with ppsIn := r.1 } }
    if r.2 then
      ((((d.incSat Fld.TIM_PPSIN_CNT.ACCEPTED).setTime4 Reg.TIM_PPSIN_TS_LO d.tc).tapEvent 0x3000 0).offerRef 11 1).refEdge 11
    else d.incSat Fld.TIM_PPSIN_CNT.IGNORED

/-- The filter of an input pin accepts a deassertion, or a change reverts before its ninth sample (R346, R444). -/
def Dev.pinRelease (p : InputPin) (reverted : Bool) (d : Dev) : Dev :=
  match p with
  | .trigIn i => d.trigInRelease i reverted
  | .syncIn =>
    if !d.isSet Fld.TIM_SYNC_CTL.EN then d
    else if reverted then { (d.incSat Fld.TIM_SYNC_CNT.IGNORED) with
      tim := { d.tim with syncIn := { d.tim.syncIn with ignored := true } } }
    else { d with tim := { d.tim with syncIn := { d.tim.syncIn with level := false } } }
  | .ppsIn =>
    if !d.isSet Fld.TIM_PPSIN_CTL.EN then d
    else if reverted then { (d.incSat Fld.TIM_PPSIN_CNT.IGNORED) with
      tim := { d.tim with ppsIn := { d.tim.ppsIn with ignored := true } } }
    else { d with tim := { d.tim with ppsIn := { d.tim.ppsIn with level := false } } }

/-! ### PTP (R446 to R448) -/

/-- Whether TIM_PTP_CTL enables timestamping of a message (R446): an event message, messageType 0 to 3, on an enabled
transport. -/
def Dev.ptpTaken (d : Dev) (m : PtpMsg) : Bool :=
  d.isSet Fld.TIM_PTP_CTL.EN && decide (m.msgType.toNat ≤ 3) && (match m.transport with
    | .l2 => d.isSet Fld.TIM_PTP_CTL.L2
    | .udp4 => d.isSet Fld.TIM_PTP_CTL.UDP4
    | .udp6 => d.isSet Fld.TIM_PTP_CTL.UDP6)

/-- The FIFO entry of a message. -/
def Dev.ptpEntry (d : Dev) (m : PtpMsg) : PtpEntry := { msgType := m.msgType, domain := m.domain, seqId := m.seqId, time := d.tc }

/-- A transmitted PTP message: a Sync in one step is stamped, any other event message gets a FIFO entry of 64 (R447, R448). -/
def Dev.ptpTx (m : PtpMsg) (d : Dev) : Dev :=
  if !d.ptpTaken m then d
  else if d.isSet Fld.TIM_PTP_CTL.ONE_STEP && m.msgType == 0 && m.transport != .udp6 then
    { d with tim := { d.tim with ptpStamped := d.tim.ptpStamped ++
      [{ seqId := m.seqId, originSec := BitVec.ofNat 48 (tSec d.tc), originNs := BitVec.ofNat 32 (tNs d.tc),
         correction := m.correction + BitVec.ofNat 64 (tFrac d.tc), udpChecksumZero := m.transport == .udp4 }] } }
  else if 64 ≤ d.tim.ptpTx.length then (d.incSat Fld.TIM_PTP_CNT.TX_OVF).raise 422
  else
    let d' := { d with tim := { d.tim with ptpTx := d.tim.ptpTx ++ [d.ptpEntry m] } }
    if d.tim.ptpTx.isEmpty then d'.setInt intTIM 4 else d'

/-- A received PTP message gets an entry of the RX FIFO (R447). -/
def Dev.ptpRx (m : PtpMsg) (d : Dev) : Dev :=
  if !d.ptpTaken m then d
  else if 64 ≤ d.tim.ptpRx.length then (d.incSat Fld.TIM_PTP_CNT.RX_OVF).raise 422
  else
    let d' := { d with tim := { d.tim with ptpRx := d.tim.ptpRx ++ [d.ptpEntry m] } }
    if d.tim.ptpRx.isEmpty then d'.setInt intTIM 4 else d'

/-- POP removes the head of a FIFO (R447). -/
def Dev.ptpPop (rx : Bool) (d : Dev) : Dev :=
  if rx then { d with tim := { d.tim with ptpRx := d.tim.ptpRx.tail } }
  else { d with tim := { d.tim with ptpTx := d.tim.ptpTx.tail } }

/-! ### The commands -/

/-- REF_ACTIVITY_LOSS (R426); a failed XO freezes the flags (R435). -/
def execRefActivityLoss (cand : Fin 12) := runDev (fun d => if d.tim.xoOk then d.refInactive cand else d)
/-- REF_ACTIVITY_RETURN (R426). -/
def execRefActivityReturn (cand : Fin 12) := runDev (Dev.refEdge cand)
/-- FREQ_MEASURE (R426). -/
def execFreqMeasure (cand : Fin 12) (offset : Int) := runDev (Dev.freqMeasure cand offset)
/-- WTR_EXPIRY (R428). -/
def execWtrExpiry (cand : Fin 12) := runDev (Dev.wtrExpiry cand)
/-- REF_SELECT (R427). -/
def execRefSelect (phase : Int) := runDev (Dev.refSelect phase)
/-- DPLL_MODE_WRITE (R431). -/
def execDpllModeWrite (req : Requester) (mode : BitVec 2) (phase : Int) := runWrite req 13 (Dev.dpllModeWrite mode.toNat phase)
/-- DPLL_LOCK (R433). -/
def execDpllLock (phaseErr : Int) := runDev (Dev.dpllLock phaseErr)
/-- DPLL_UNLOCK (R433). -/
def execDpllUnlock (phaseErr : Int) := runDev (Dev.dpllUnlock phaseErr)
/-- HO_VALID_SET (R434). -/
def execHoValidSet := runDev Dev.hoValid
/-- XO_FAIL (R435). -/
def execXoFail := runDev Dev.xoFail
/-- XO_RETURN (R435). -/
def execXoReturn := runDev Dev.xoReturn
/-- ROOT_UNLOCK (R435). -/
def execRootUnlock := runDev (fun d => { d with tim := { d.tim with rootLocked := false } }.causeOn 424)
/-- ROOT_RELOCK (R450). -/
def execRootRelock := runDev (fun d => { d with tim := { d.tim with rootLocked := true } }.causeOff 424)
/-- PULL_DONE (R437). -/
def execPullDone := runDev Dev.pullDone
/-- TC_SET (R439). -/
def execTcSet (req : Requester) := runWrite req 13 Dev.tcSet
/-- TC_STEP (R439). -/
def execTcStep (req : Requester) (hi : BitVec 16) := runWrite req 13 (Dev.tcStep hi.toNat)
/-- TC_LOAD_SYNC (R439). -/
def execTcLoadSync (req : Requester) := runWrite req 13 (fun d => d.put Fld.TIM_TC_CTL.LOAD_SYNC 1)
/-- SECOND_EVENT (R439). -/
def execSecondEvent := runDev Dev.toNextSecond
/-- PULSE_ALIGN (R442). -/
def execPulseAlign (req : Requester) := runWrite req 13 (fun d => d.realign 0)
/-- PPS_OUT_PULSE (R441). -/
def execPpsOutPulse := runDev Dev.ppsOut
/-- FRAME_OUT_PULSE (R441). -/
def execFrameOutPulse := runDev Dev.frameOut
/-- OUTPUT_PULSE_END (R441, R445). -/
def execOutputPulseEnd (pin : OutputPin) := runDev (Dev.outputPulseEnd pin)
/-- SYNC_IN_ASSERT (R444). -/
def execSyncInAssert := runDev Dev.syncInAssert
/-- PPS_IN_ASSERT (R444). -/
def execPpsInAssert := runDev Dev.ppsInAssert
/-- DEASSERTION_ACCEPTED (R346). -/
def execDeassertionAccepted (pin : InputPin) (reverted : Bool) := runDev (Dev.pinRelease pin reverted)
/-- SYNC_CMD (R445): a synchronising event whatever SRC holds. -/
def execSyncCmd (req : Requester) := runWrite req 13 (fun d => { d with tim := { d.tim with syncDue := true } })
/-- PTP_TX_MESSAGE (R447, R448). -/
def execPtpTxMessage (msg : PtpMsg) := runDev (Dev.ptpTx msg)
/-- PTP_RX_MESSAGE (R447). -/
def execPtpRxMessage (msg : PtpMsg) := runDev (Dev.ptpRx msg)
/-- PTP_POP (R447). -/
def execPtpPop (req : Requester) (rx : Bool) := runWrite req 13 (Dev.ptpPop rx)

end Sys2Proof.Machine
end

