-- ==== Sys2Proof/Machine/Switch.lean ====
section
/-! DEFINITION. The stage switch: what feeds a sink (R27, R28, R30), the regions of sources, and how long a region's signals
are absent (R81); the signal of a sink (Table 2 of 01_planes_and_datapath.md). -/

namespace Sys2Proof.Machine

/-- The region a source or sink endpoint's block belongs to (Table 1 of 02_structure_images.md): the region of its block, with
the FEC endpoints divided by port. -/
def endpointRegion (code : Nat) : Nat :=
  match code / 256 with
  | 2 => 1
  | 3 => 2
  | 4 => 1 + code % 2
  | 5 => 3
  | 6 => 3
  | 7 => 3
  | 8 => 4
  | 11 => 6
  | _ => 7

/-- The region that owns a sink: FRM.MAP is an FRM endpoint whose CLIENT-level sink belongs to HOST (R53). -/
def sinkRegion (code : Nat) : Nat := if code = 0x506 then 4 else endpointRegion code

/-- The block of an endpoint (R6, Table 7 of 02_structure_images.md). -/
def endpointBlock (code : Nat) : Nat := code / 256

/-- The connection records in force. -/
def Dev.connections (d : Dev) : List Connect := d.str.active.flatMap (fun e => e.2.connects)

/-- The declared flows of the active FRAMER. -/
def Dev.flows (d : Dev) : List FlowDecl :=
  match d.body 3 with
  | some b => b.flows
  | none => []

/-- The declaration of flow f. -/
def Dev.flowOf (d : Dev) (f : Nat) : Option FlowDecl := d.flows.find? (fun w => w.flow == f)

/-- The source that joins sink of protected flow f without a record (R235); port A's side stands for FRM.ODU_TX. -/
def protectSource (sink f : Nat) : Option (Nat × Nat) :=
  match sink with
  | 0x701 => some (0x504, f)
  | 0x702 => some (0x504, f)
  | 0x505 => some (0x704, f)
  | _ => none

/-- The source connected to a sink at a level, none where it is unconnected: by a record, or by a join of a protected flow (R235), which a
record replaces (R236). -/
def Dev.sourceOf (d : Dev) (level sink inst : Nat) : Option (Nat × Nat) :=
  match (d.connections.find? (fun c => decide (c.level = level) && decide (c.sink = sink) && decide (c.sinkInst = inst))) with
  | some c => some (c.src, c.srcInst)
  | none => if level = 3 ∧ (d.flowOf inst).any (·.isProtected) then protectSource sink inst else none

/-- Whether a player sends a source of block CAP: it is RUNNING and bound to it (R386); a WAVE source has no instance. -/
def Dev.played (d : Dev) (out inst : Nat) : Bool :=
  (List.range 64).any (fun p => decide (d.get (Fld.CAP_PLY_STATUS.STATE p) = 2) && decide (d.get (Fld.CAP_PLY_CTL.OUT p) = out) &&
    (decide (out < 2) || decide (d.get (Fld.CAP_PLY_CTL.INST p) = inst)))

/-- Whether a source endpoint delivers: its region has a structure and does not restructure (R30, R81), its block is not in reset (R51);
a decoder or framer that is disabled delivers nothing of its own (R169, R175, R179), nor does a CAP source that no player sends (R386). -/
def Dev.delivers (d : Dev) (code inst : Nat) : Bool :=
  d.regionRuns (endpointRegion code) && !d.inReset (endpointBlock code) &&
  (match code with
   | 0x400 => d.isSet (Fld.FEC_x_CTL.DEC_EN 0)
   | 0x401 => d.isSet (Fld.FEC_x_CTL.DEC_EN 1)
   | 0xB00 => d.played 0 inst
   | 0xB01 => d.played 1 inst
   | 0xB02 => d.played 2 inst
   | 0xB03 => d.played 3 inst
   | 0x502 => d.isSet (Fld.FRM_x_OTU_CTL.TX_EN 0) && d.get (Fld.LNx_DSP_STATE.MODE_ERR 0) == 0
   | 0x503 => d.isSet (Fld.FRM_x_OTU_CTL.TX_EN 1) && d.get (Fld.LNx_DSP_STATE.MODE_ERR 1) == 0
   | _ => true)

/-- The source that feeds a sink now: none where the sink is unconnected, its block is in reset (R51) or the source does not
deliver (R30, R81). -/
def Dev.feeds (d : Dev) (level sink inst : Nat) : Option (Nat × Nat) :=
  if d.inReset (endpointBlock sink) then none else (d.sourceOf level sink inst).filter (fun e => d.delivers e.1 e.2)

/-- The instance code of an endpoint that has no instances (R60). -/
def noInst : Nat := 0xFFFF

/-! ### The signal of a sink (Table 2) -/

/-- Whether a client type is an Ethernet type. -/
def isEthernet (type : Nat) : Bool := decide (1 ≤ type) && decide (type ≤ 3)
/-- The type of client c, 0 for none. -/
def Dev.clientType (d : Dev) (c : Nat) : Nat := d.get (Fld.HST_CLIENT_CTL.TYPE c)

/-- What stands at a sink of the stage switch: the stream of a source, or one of the signals of the last column of Table 2. -/
inductive Signal where
  /-- The stream of a source endpoint, bit for bit as at its other sink (R28). -/
  | stream (src inst : Nat)
  /-- Code 0, mid-scale. -/
  | codeZero
  /-- LLR 0. -/
  | erasure
  /-- Pilots and sync word as normal, payload of shaped PRBS31. -/
  | lineIdle
  /-- Loss of frame, with ODUCn-AIS downstream. -/
  | lossOfFrame
  /-- Scrambled PRBS31 fill. -/
  | prbsFill
  /-- ODU-OCI. -/
  | oduOci
  /-- Ethernet local fault ordered sets. -/
  | localFault
  /-- The G.709 replacement signal of a CBR client. -/
  | replacement
  deriving DecidableEq, Repr

/-- The replacement signal of a client type: local fault, or the G.709 replacement signal (Table 2, Table 7 of
06_otn_framing_and_tsi.md). -/
def replacementOf (ctype : Nat) : Signal := if isEthernet ctype then .localFault else .replacement

/-- The signal of an unconnected sink at a level; ctype is the client type at the CLIENT level. -/
def unconnected (level sink ctype : Nat) : Signal :=
  match level with
  | 0 => .codeZero
  | 1 => if sink = 0x400 ∨ sink = 0x401 then .erasure else .lineIdle
  | 2 => if sink = 0x500 ∨ sink = 0x501 then .lossOfFrame else .prbsFill
  | 3 => .oduOci
  | _ => replacementOf ctype

/-- The flow of a structure whose client is c (R194). -/
def Dev.flowOfClient (d : Dev) (flows : List FlowDecl) (c : Nat) : Option FlowDecl :=
  flows.find? (fun w => d.get (Fld.FRM_FLOW_CTL.CLIENT w.flow) == c)

/-- The client type of a CLIENT-level sink, whose instance is a client number (R60): of the flow mapped at FRM.MAP, of the lanes at
HST.TX. -/
def Dev.sinkClient (d : Dev) (sink inst : Nat) : Nat :=
  if sink = 0x506 then (match d.flowOfClient d.flows inst with | some w => w.ctype | none => 0) else d.clientType inst

/-- The signal at a sink: the stream of the source that feeds it, else the signal of Table 2 (R27, R30). -/
def Dev.sinkSignal (d : Dev) (level sink inst : Nat) : Signal :=
  match d.feeds level sink inst with
  | some (s, i) => .stream s i
  | none => unconnected level sink (d.sinkClient sink inst)

end Sys2Proof.Machine
end

