-- ==== Sys2Proof/Machine/Dsp.lean ====
section
/-! DEFINITION. The coherent DSP of blocks LNA and LNB: modes, acquisition, the low-entropy guard, monitors, pre-distortion
banks (04_coherent_dsp.md). Port x is A (0) or B (1). -/

namespace Sys2Proof.Machine

/-- Port x beside its registers. -/
def Dev.ln (d : Dev) (x : Nat) : LineState := Sparse.get {} d.line x
/-- Replace the state of port x. -/
def Dev.setLn (d : Dev) (x : Nat) (l : LineState) : Dev := { d with line := Sparse.put {} d.line x l }

/-! ### Modes and rates (R115 to R117) -/

/-- The sample-rate multiplier of port x (R87). -/
def Dev.lnM (d : Dev) (x : Nat) : Nat := d.get (Fld.LNx_CNV_RATE.M x)
/-- MODE of port x. -/
def Dev.lnMode (d : Dev) (x : Nat) : Nat := d.get (Fld.LNx_DSP_MODE.MODE x)

/-- The conditions of MODE_ERR (R117). -/
def Dev.modeErrCond (d : Dev) (x : Nat) : Bool :=
  let m := d.lnMode x
  (decide (m ≤ 5) && decide (d.lnM x ≠ 50)) || decide (m = 7) ||
    (decide (m = 6) && (decide (d.get (Fld.LNx_DSP_MODE.DECIM x) = 3) || decide (d.get (Fld.LNx_DSP_MODE.FMT x) = 3)))

/-- Whether port x is in MODE_ERR. -/
def Dev.modeErr (d : Dev) (x : Nat) : Bool := d.isSet (Fld.LNx_DSP_STATE.MODE_ERR x)

/-- The decimation factor D of port x (Table 1, R116); 1 in MODE_ERR. -/
def Dev.lnDecim (d : Dev) (x : Nat) : Nat :=
  if d.modeErr x then 1 else
  match d.lnMode x with
  | 3 => 2
  | 4 => 2
  | 5 => 4
  | 6 => 2 ^ d.get (Fld.LNx_DSP_MODE.DECIM x)
  | _ => 1

/-- The format of port x: 0 PCS-16QAM, 1 PCS-64QAM, 2 PCS-256QAM (Table 1, R116). -/
def Dev.lnFmt (d : Dev) (x : Nat) : Nat :=
  match d.lnMode x with
  | 0 => 2
  | 1 => 1
  | 2 => 0
  | 3 => 2
  | 4 => 0
  | 5 => 0
  | _ => d.get (Fld.LNx_DSP_MODE.FMT x)

/-- The symbol rate of port x in Hz (R116). -/
def Dev.symbolRate (d : Dev) (x : Nat) : Nat := d.lnM x * 5376000000 / d.lnDecim x

/-- The points of a format's grid (R129). -/
def gridPoints (fmt : Nat) : Nat := if fmt = 0 then 16 else if fmt = 1 then 64 else 256

/-! ### The receive state (R135 to R140) -/

/-- The receive state of port x: 0 IDLE, 1 LOS, 2 CD_SEARCH, 3 TIMING, 4 FO_ACQ, 5 BLIND, 6 SYNC, 7 PILOT, 8 TRACK (Table 7). -/
def Dev.rxState (d : Dev) (x : Nat) : Nat := d.get (Fld.LNx_DSP_STATE.RX_STATE x)
/-- Whether Tightrope sheds port x (R531). -/
def Dev.portShed (d : Dev) (x : Nat) : Bool := (d.get Fld.PWR_STATUS.SHED_PORTS).testBit x
/-- RX_EN of port x; a shed port's halves are gated as though they were not enabled (R531). -/
def Dev.rxEn (d : Dev) (x : Nat) : Bool := d.isSet (Fld.LNx_DSP_MODE.RX_EN x) && !d.portShed x
/-- TX_EN of port x, likewise. -/
def Dev.txEn (d : Dev) (x : Nat) : Bool := d.isSet (Fld.LNx_DSP_MODE.TX_EN x) && !d.portShed x

/-- LNx.10 is present while RX_EN = 1 and the state is not TRACK (R140). -/
def Dev.notLocked (d : Dev) (x : Nat) : Dev := d.causeIs (fLN x 10) (d.rxEn x && decide (d.rxState x ≠ 8))

/-- LNx.17 is present while SNR_THR is non-zero and the lower SNR is below it (R141). -/
def Dev.snrCause (d : Dev) (x : Nat) : Dev :=
  let thr := d.get (Fld.LNx_SNR_THR.THR x)
  d.causeIs (fLN x 17) (decide (thr ≠ 0) &&
    decide (min (d.get (Fld.LNx_MON_SNR.SNR_X x)) (d.get (Fld.LNx_MON_SNR.SNR_Y x)) < thr))

/-- LNx.18 is present in TRACK while the magnitude of MON_FO exceeds 3,200 MHz (Table 13). -/
def Dev.foCause (d : Dev) (x : Nat) : Dev :=
  d.causeIs (fLN x 18) (decide (d.rxState x = 8) && decide (3200 < (d.getInt (Fld.LNx_MON_FO.FO x)).natAbs))

/-- GUARD of port x with its cause (R130). PILOT_ONLY follows GUARD and ADAPT = 1. -/
def Dev.setGuard (d : Dev) (x : Nat) (g : Bool) : Dev :=
  ((d.put (Fld.LNx_DSP_STATE.GUARD x) (bit g)).put (Fld.LNx_MIMO_STATUS.PILOT_ONLY x)
    (bit (g || d.get (Fld.LNx_MIMO_CTL.ADAPT x) == 1))).causeIs (fLN x 13) g

/-- The guard and its runs are cleared at once (R131). -/
def Dev.clearGuard (d : Dev) (x : Nat) : Dev := (d.setGuard x false).setLn x { d.ln x with enterRun := 0, exitRun := 0 }

/-- The governor allows port x every tap and iteration (R529). -/
def Dev.uncap (d : Dev) (x : Nat) : Dev :=
  ({ d with fec := Sparse.put {} d.fec x { (Sparse.get {} d.fec x : FecState) with iterCap := 12 } }).setLn x { d.ln x with tapsCap := 3 }

/-- Port x enters a receive state: its flags, causes and interrupts; the recovered line clock is offered in TRACK (R125,
R425); outside TRACK the governor caps nothing (R529). -/
def Dev.enterRx (d : Dev) (x st : Nat) : Dev :=
  let old := d.rxState x
  let d := d.put (Fld.LNx_DSP_STATE.RX_STATE x) st
  let d := if st = 8 then d else d.uncap x
  let d := if old = 8 ∧ st ≠ 8 then ((d.setInt (intLN x) 1).tapAt (timeTap x false) 0x1002 0).withdrawRef (2 + x) else d
  let d := if st = 7 ∨ st = 8 then d else d.clearGuard x
  let d := if st = 8 ∧ old ≠ 8 then
      (((d.incSat (Fld.LNx_ACQ_CNT.LOCK x)).setInt (intLN x) 0).tapAt (timeTap x false) 0x1001 0).offerRef (2 + x)
        (d.symbolRate x / 256)
    else d
  ((d.causeIs (fLN x 8) (st == 1)).notLocked x).foCause x

/-! ### Dispersion (R122, R123) -/

/-- The receive compensation range of port x in ps/nm (Table 5); a fraction of the FREE figure is dropped (DEDUCED,
notes/assumptions/5.md). -/
def Dev.cdRange (d : Dev) (x : Nat) : Int :=
  if d.lnMode x ≤ 5 then (match d.lnDecim x with | 1 => 12000 | 2 => 50000 | _ => 200000)
  else min 200000 (((12000 * (50 * d.lnDecim x) ^ 2 / (max 1 (d.lnM x)) ^ 2 : Nat)) : Int)

/-- A dispersion value clamped to the receive range. -/
def Dev.clampCd (d : Dev) (x : Nat) (v : Int) : Int := clampInt (-(d.cdRange x)) (d.cdRange x) v

/-- The clamped search bounds. -/
def Dev.cdMin (d : Dev) (x : Nat) : Int := d.clampCd x (d.getInt (Fld.LNx_CD_MIN.VALUE x))
/-- The clamped upper search bound. -/
def Dev.cdMax (d : Dev) (x : Nat) : Int := d.clampCd x (d.getInt (Fld.LNx_CD_MAX.VALUE x))

/-- Whether acquisition begins with a search: SEARCH = 1 and CD_MIN ≤ CD_MAX (R123); the clamped bounds are compared, since the spec
does not say which (DESIGN CHOICE, notes/assumptions/5.md). -/
def Dev.cdSearches (d : Dev) (x : Nat) : Bool :=
  d.isSet (Fld.LNx_CD_CTL.SEARCH x) && decide (d.cdMin x ≤ d.cdMax x)

/-- The dispersion value the filter uses (R123): the search result, or CD_VALUE clamped. -/
def Dev.cdUsed (d : Dev) (x : Nat) : Int :=
  match d.cdSearches x, (d.ln x).cdFound with
  | true, some v => v
  | _, _ => d.clampCd x (d.getInt (Fld.LNx_CD_VALUE.VALUE x))

/-- CD_CLAMP and the cause of LNx.12 (R122, R142). -/
def Dev.cdClamp (d : Dev) (x : Nat) : Dev :=
  let outside (f : Fld) (r : Int) : Bool := decide (clampInt (-r) r (d.getInt f) ≠ d.getInt f)
  let r := d.cdRange x
  let c := (if d.cdSearches x then outside (Fld.LNx_CD_MIN.VALUE x) r || outside (Fld.LNx_CD_MAX.VALUE x) r
      else outside (Fld.LNx_CD_VALUE.VALUE x) r) || outside (Fld.LNx_TX_PRECD.VALUE x) (r / 2)
  (d.put (Fld.LNx_DSP_STATE.CD_CLAMP x) (bit c)).causeIs (fLN x 12) c

/-- Acquisition starts again at CD_SEARCH or TIMING (R137). -/
def Dev.reacquire (d : Dev) (x : Nat) : Dev := d.enterRx x (if d.cdSearches x then 2 else 3)

/-! ### Loss of signal (R136) -/

/-- The state of converter c of port x: 0 OFF, 1 LOCKING, 2 CONVERGING, 3 RUN (Table 3 of 03_line_converters.md). -/
def Dev.cnvState (d : Dev) (x c : Nat) : Nat := getBits (d.reg (Reg.LNx_CNV_STATE x)) (4 * c + 1) (4 * c)
/-- Whether converter c of port x is enabled. -/
def Dev.cnvEn (d : Dev) (x c : Nat) : Bool := d.bitAt (Reg.LNx_CNV_EN x) c

/-- Whether the ADCs of port p give a DSP input that they feed no signal: an enabled one is in OFF or LOCKING (R136), or none
is enabled, so that all output code 0 (R91, DEDUCED, notes/assumptions/5.md). -/
def Dev.adcSilent (d : Dev) (p : Nat) : Bool :=
  (List.range 4).any (fun c => d.cnvEn p c && decide (d.cnvState p c ≤ 1)) ||
    (List.range 4).all (fun c => !d.cnvEn p c)

/-- Whether LNx.DSP_RX of port x is in LOS whatever its power: it has no connection, or ADCs that give no signal feed it. -/
def Dev.noInput (d : Dev) (x : Nat) : Bool :=
  match d.feeds 0 (0x201 + 0x100 * x) noInst with
  | none => true
  | some (0x200, _) => d.adcSilent 0
  | some (0x300, _) => d.adcSilent 1
  | some _ => false

/-- Bring the receive half of port x to the state its conditions demand (Table 7, R117, R136): IDLE while its region is empty,
RX_EN = 0 or MODE_ERR; LOS from IDLE when enabled, or while it has no input. -/
def Dev.rxCheck (d : Dev) (x : Nat) : Dev :=
  if !d.regionActive (1 + x) || d.inReset (2 + x) || !d.rxEn x || d.modeErr x then
    (if d.rxState x = 0 then d.notLocked x else d.enterRx x 0)
  else if d.rxState x = 0 ∨ (d.rxState x ≠ 1 ∧ d.noInput x) then d.enterRx x 1
  else d.notLocked x

/-- Both ports, since either DSP may take a port's ADCs. -/
def Dev.rxCheckAll (d : Dev) : Dev := (d.rxCheck 0).rxCheck 1

/-- The mean power over a superframe is more than LOS_THR below full scale (R136); below is in 0.1 dB below full scale. -/
def Dev.rxLosEnter (x below : Nat) (d : Dev) : Dev :=
  if d.rxState x ≤ 1 then d.rxCheck x
  else if d.noInput x ∨ d.get (Fld.LNx_RX_FE_CTL.LOS_THR x) * 10 < below then d.enterRx x 1 else d

/-- The port leaves LOS after 16 superframes at least 2 dB above the threshold (R136). -/
def Dev.losExit (x : Nat) (below : List Nat) (d : Dev) : Dev :=
  if d.rxState x = 1 ∧ !d.noInput x ∧ 16 ≤ below.length ∧
      below.all (fun b => decide (b + 20 ≤ d.get (Fld.LNx_RX_FE_CTL.LOS_THR x) * 10)) then d.reacquire x
  else d

/-! ### Acquisition (R123, R135, R137 to R139) -/

/-- The search ends (R123): coarse is the index of the best coarse point, fine that of the best fine point around it; both
name points the search tests, and the result lies between the bounds (R122). A fine point beyond a bound is moved to the bound, since the
spec does not say that it is left out (DESIGN CHOICE, notes/assumptions/5.md). -/
def Dev.cdSearchDone (x coarse : Nat) (fine : Int) (d : Dev) : Dev :=
  let step := d.get (Fld.LNx_CD_CTL.STEP x)
  let fstep := max 1 (step / 10)
  let best := d.cdMin x + (coarse : Int) * (step : Int)
  if d.rxState x = 2 ∧ best ≤ d.cdMax x ∧ fine.natAbs ≤ step / fstep then
    let v := clampInt (d.cdMin x) (d.cdMax x) (best + fine * (fstep : Int))
    ((d.setLn x { d.ln x with cdFound := some v }).cdClamp x).enterRx x 3
  else d

/-- A state's work completes and the port goes on to the next state of Table 7. -/
def Dev.rxAdvance (x st : Nat) (d : Dev) : Dev := if d.rxState x = st then d.enterRx x (st + 1) else d

/-- One offset has matched in two superframes (R138): word0 and word1 are the words that outputs 0 and 1 match, X (0) or Y (1).
The same word twice re-initialises the taps and returns to BLIND. SWAP is written 0 when output 0 matches the X word, also after an
earlier exchange: the spec says only when it is set (DESIGN CHOICE, notes/assumptions/5.md). -/
def Dev.syncFound (x word0 word1 : Nat) (d : Dev) : Dev :=
  if d.rxState x ≠ 6 then d
  else if word0 = word1 then d.enterRx x 5
  else (d.put (Fld.LNx_MIMO_STATUS.SWAP x) word0).enterRx x 7

/-- A state times out (R137); LOS, CD_SEARCH and TRACK have no timeout (Table 7). -/
def Dev.acqTimeout (x : Nat) (d : Dev) : Dev :=
  if 3 ≤ d.rxState x ∧ d.rxState x ≤ 7 then ((d.incSat (Fld.LNx_ACQ_CNT.FAIL x)).raise (fLN x 9)).reacquire x else d

/-- A superframe's sync word matches when at least 56 of the 64 sync pilots of each polarisation are decided correctly. -/
def syncMatches (p : Nat × Nat) : Bool := decide (56 ≤ p.1) && decide (56 ≤ p.2)

/-- Four consecutive superframes in TRACK that do not match (R139); pilots gives the correct sync pilots of X and Y. -/
def Dev.syncLoss (x : Nat) (pilots : List (Nat × Nat)) (d : Dev) : Dev :=
  if d.rxState x = 8 ∧ 4 ≤ pilots.length ∧ pilots.all (fun p => !syncMatches p) then
    ((d.incSat (Fld.LNx_SYNC_LOSS_CNT.LOSSES x)).raise (fLN x 11)).enterRx x 5
  else d

/-- A phase jump over π/4 is resolved at the next pilot (R133); carrier recovery runs in PILOT and TRACK (Table 7). -/
def Dev.cycleSlip (x : Nat) (d : Dev) : Dev :=
  if 7 ≤ d.rxState x then (d.incSat (Fld.LNx_CPR_SLIP_CNT.SLIPS x)).raise (fLN x 14) else d

/-! ### The low-entropy guard (R129) -/

/-- Whether a window of one polarisation collapses (R129). -/
def Dev.collapsedPol (d : Dev) (x : Nat) (o : GuardObs) : Bool :=
  decide (o.distinct * 32 < d.get (Fld.LNx_GUARD_CTL.DIV_THR x) * gridPoints (d.lnFmt x)) ||
  decide (d.get (Fld.LNx_GUARD_CTL.OCC_THR x) * 4032 < o.maxCount * 256) ||
  (o.same.take 64).any (fun n => decide (d.get (Fld.LNx_GUARD_CTL.REP_THR x) * 4032 < n * 256))

/-- A window ends: the guard runs in PILOT and TRACK with ADAPT = 0 (R129). -/
def Dev.guardWindow (x : Nat) (ox oy : GuardObs) (d : Dev) : Dev :=
  if d.rxState x < 7 ∨ d.get (Fld.LNx_MIMO_CTL.ADAPT x) ≠ 0 then d else
    let c := d.collapsedPol x ox || d.collapsedPol x oy
    let l := d.ln x
    if !d.isSet (Fld.LNx_DSP_STATE.GUARD x) then
      let run := if c then l.enterRun + 1 else 0
      let d := d.setLn x { l with enterRun := run }
      if d.get (Fld.LNx_GUARD_HYST.ENTER_N x) ≤ run then
        ((d.setLn x { l with enterRun := run, exitRun := 0 }).setGuard x true).incSat (Fld.LNx_GUARD_CNT.ENTRIES x)
      else d
    else
      let run := if c then 0 else l.exitRun + 1
      let d := d.setLn x { l with exitRun := run }
      if d.get (Fld.LNx_GUARD_HYST.EXIT_N x) ≤ run then
        (d.setLn x { l with exitRun := run, enterRun := 0 }).setGuard x false
      else d

/-! ### Monitors (R141) -/

/-- The DSP monitors of port x take a measurement; UPDATES wraps. -/
def Dev.dspMonitors (x : Nat) (m : LineMeas) (d : Dev) : Dev :=
  let d := (d.put (Fld.LNx_MON_SNR.SNR_X x) m.snrX.toNat).put (Fld.LNx_MON_SNR.SNR_Y x) m.snrY.toNat
  let d := (d.putIntSat (Fld.LNx_MON_FO.FO x) m.fo).putIntSat (Fld.LNx_MON_CD.CD x) m.cd
  let d := (d.put (Fld.LNx_MON_PMD.DGD x) m.dgd.toNat).put (Fld.LNx_MON_PMD.PDL x) m.pdl.toNat
  let d := (d.put (Fld.LNx_MON_SOP.SOP_MAX x) m.sop.toNat).put (Fld.LNx_MON_SOP.UPDATES x)
    (d.get (Fld.LNx_MON_SOP.UPDATES x) + 1)
  ((d.setInt (intLN x) 2).snrCause x).foCause x

/-! ### Pre-distortion banks (R146 to R148) -/

/-- ACTIVE, TARGET, FADING, QBANK and QUEUED of PD_STATUS. -/
def Dev.pdActive (d : Dev) (x : Nat) : Nat := d.get (Fld.LNx_PD_STATUS.ACTIVE x)
/-- Whether a fade runs. -/
def Dev.fading (d : Dev) (x : Nat) : Bool := d.isSet (Fld.LNx_PD_STATUS.FADING x)

/-- A fade to a bank starts; its length exponent is FADE_K now (R147). -/
def Dev.startFade (d : Dev) (x bank : Nat) : Dev :=
  ((d.put (Fld.LNx_PD_STATUS.FADING x) 1).put (Fld.LNx_PD_STATUS.TARGET x) bank).setLn x
    { d.ln x with fadeK := d.get (Fld.LNx_PD_CTL.FADE_K x) }

/-- A request for a bank (R146, R147). -/
def Dev.pdRequest (d : Dev) (x bank : Nat) : Dev :=
  let d := d.setLn x { d.ln x with pdReq := bank }
  if !d.fading x then
    (if !d.txEn x then d.put (Fld.LNx_PD_STATUS.ACTIVE x) bank
     else if bank = d.pdActive x then d
     else d.startFade x bank)
  else if bank = d.get (Fld.LNx_PD_STATUS.TARGET x) then
    (d.put (Fld.LNx_PD_STATUS.QUEUED x) 0).put (Fld.LNx_PD_STATUS.QBANK x) 0
  else (d.put (Fld.LNx_PD_STATUS.QUEUED x) 1).put (Fld.LNx_PD_STATUS.QBANK x) bank

/-- At a superframe boundary: a queued fade whose predecessor has ended starts, and a change of the active BANK makes a
request (R146). -/
def Dev.pdBoundary (d : Dev) (x : Nat) : Dev :=
  let d := if d.isSet (Fld.LNx_PD_STATUS.QUEUED x) && !d.fading x then
      ((d.put (Fld.LNx_PD_STATUS.QUEUED x) 0).put (Fld.LNx_PD_STATUS.QBANK x) 0).startFade x (d.get (Fld.LNx_PD_STATUS.QBANK x))
    else d
  let b := d.get (Fld.LNx_PD_CTL.BANK x)
  if b = (d.ln x).pdReq then d else d.pdRequest x b

/-- The running fade ends (R147); a queued fade starts at the next boundary. TARGET returns to 0 with no fade running, as QBANK does with
none queued: Table 36 does not say what they read then (DESIGN CHOICE, notes/assumptions/5.md). -/
def Dev.fadeDone (x : Nat) (d : Dev) : Dev :=
  if d.fading x then
    (((d.put (Fld.LNx_PD_STATUS.ACTIVE x) (d.get (Fld.LNx_PD_STATUS.TARGET x))).put (Fld.LNx_PD_STATUS.FADING x) 0).put
      (Fld.LNx_PD_STATUS.TARGET x) 0).setInt (intLN x) 3
  else d

/-- Whether coefficient writes to a bank are refused (R148). -/
def Dev.pdBusy (d : Dev) (x bank : Nat) : Bool :=
  (!d.fading x && decide (bank = d.pdActive x)) ||
  (d.fading x && (decide (bank = d.pdActive x) || decide (bank = d.get (Fld.LNx_PD_STATUS.TARGET x)))) ||
  (d.isSet (Fld.LNx_PD_STATUS.QUEUED x) && decide (bank = d.get (Fld.LNx_PD_STATUS.QBANK x)))

/-- A write of a coefficient (R148). -/
def Dev.pdCoefWrite (x bank dac tap : Nat) (coef : BitVec 16) (d : Dev) : Dev :=
  if d.pdBusy x bank then (d.incSat (Fld.LNx_PD_REFUSED.WRITES x)).raise (fLN x 15)
  else d.put (Fld.LNx_PD_COEF.COEF x bank dac tap) coef.toNat

/-- A sample is clipped in stage 10 (R144). -/
def Dev.txClip (x samples : Nat) (d : Dev) : Dev :=
  if samples = 0 then d else (d.incSat (Fld.LNx_TX_CLIP_CNT.SAMPLES x) samples).causeOn (fLN x 16)

/-! ### The superframe boundary (Table 3 of 01_planes_and_datapath.md) -/

/-- MODE_ERR is entered and left at a boundary (R117); LNx.19 has its cause present meanwhile. -/
def Dev.modeCheck (d : Dev) (x : Nat) : Dev :=
  let c := d.modeErrCond x
  (d.put (Fld.LNx_DSP_STATE.MODE_ERR x) (bit c)).causeIs (fLN x 19) c

/-- MODE, DECIM and FMT of port x. -/
def Dev.modeTriple (d : Dev) (x : Nat) : Nat × Nat × Nat :=
  (d.lnMode x, d.get (Fld.LNx_DSP_MODE.DECIM x), d.get (Fld.LNx_DSP_MODE.FMT x))

/-- TAPS_ACT is what the governor allows within TAPS_MAX (R127). -/
def Dev.tapsSync (d : Dev) (x : Nat) : Dev :=
  d.put (Fld.LNx_MIMO_STATUS.TAPS_ACT x) (min (d.get (Fld.LNx_MIMO_CTL.TAPS_MAX x)) (d.ln x).tapsCap)

/-- What follows a change of the active copies of the DSP fields from those of d0: MODE_ERR, a change of mode restarts
acquisition from LOS (R137), ADAPT other than 0 clears the guard (R131), and the causes that depend on parameters. -/
def Dev.dspApply (d0 : Dev) (x : Nat) (d : Dev) : Dev :=
  let d := d.modeCheck x
  let d := if d.modeTriple x ≠ d0.modeTriple x ∧ 1 ≤ d.rxState x then d.enterRx x 1 else d
  let d := if d.get (Fld.LNx_MIMO_CTL.ADAPT x) ≠ 0 then d.clearGuard x else d.setGuard x (d.isSet (Fld.LNx_DSP_STATE.GUARD x))
  (((((d.cdClamp x).snrCause x).foCause x).tapsSync x).pdBoundary x).rxCheck x

/-- A pending RESTART acts (R137): in IDLE and LOS it has no effect on the state. It fires no LNx.09: a restart that counts no failure is
taken to report none (DEDUCED, notes/assumptions/5.md). -/
def Dev.restartBoundary (d : Dev) (x : Nat) : Dev :=
  if d.isSet (Fld.LNx_DSP_MODE.RESTART x) then
    let d := d.put (Fld.LNx_DSP_MODE.RESTART x) 0
    if 2 ≤ d.rxState x then d.reacquire x else d
  else d

/-- A superframe of line idle reaches the mapper of port x while LNx.MAP is unconnected (R30, R145): its PRBS31 payload runs on. -/
def Dev.idleSuperframe (d : Dev) (x : Nat) : Dev :=
  if d.txEn x && !d.modeErr x && d.sinkSignal 1 (0x205 + 0x100 * x) noInst == .lineIdle then
    d.setLn x { d.ln x with idleBits := (d.ln x).idleBits + (packing (d.lnFmt x)).netBits }
  else d

/-- A superframe of port x begins: pending DSP fields become active together, unless held, and RESTART acts. A pending DSP_MODE
of a shed port waits until the port is restored (R531). -/
def Dev.dspBoundary (x : Nat) (d : Dev) : Dev :=
  let d := d.idleSuperframe x
  let d1 := if d.held? (2 + x) then d
    else d.copyShadow (fun a => decide (keyBlock a = 2 + x) && !(d.portShed x && a == Reg.LNx_DSP_MODE x))
  (d.dspApply x d1).restartBoundary x

/-- A write of 1 to RESTART waits for the boundary (R152). -/
def Dev.dspRestart (x : Nat) (d : Dev) : Dev := d.put (Fld.LNx_DSP_MODE.RESTART x) 1

/-- Whether the transmit half sends: enabled, its region runs, no MODE_ERR, and a DAC is in CONVERGING or RUN (R145,
DEDUCED from Table 12, notes/assumptions/5.md). -/
def Dev.txActive (d : Dev) (x : Nat) : Bool :=
  d.txEn x && d.regionRuns (1 + x) && !d.modeErr x &&
    (List.range 4).any (fun c => decide (2 ≤ d.cnvState x (4 + c)))

/-! ### Meanings -/

/-- RX_LOS_ENTER (R136). -/
def execRxLosEnter (x : Port) (below : Nat) := runDev (Dev.rxLosEnter x below)
/-- LOS_EXIT (R136). -/
def execLosExit (x : Port) (below : List Nat) := runDev (Dev.losExit x below)
/-- CD_SEARCH_DONE (R123). -/
def execCdSearchDone (x : Port) (coarse : Nat) (fine : Int) := runDev (Dev.cdSearchDone x coarse fine)
/-- TIMING_DONE (R135). -/
def execTimingDone (x : Port) := runDev (Dev.rxAdvance x 3)
/-- FO_ACQ_DONE (R135). -/
def execFoAcqDone (x : Port) := runDev (Dev.rxAdvance x 4)
/-- BLIND_DONE (R135). -/
def execBlindDone (x : Port) := runDev (Dev.rxAdvance x 5)
/-- SYNC_FOUND (R138). -/
def execSyncFound (x : Port) (word0 word1 : Port) := runDev (Dev.syncFound x word0 word1)
/-- TRACK_ENTER (R135). -/
def execTrackEnter (x : Port) := runDev (Dev.rxAdvance x 7)
/-- ACQ_TIMEOUT (R137). -/
def execAcqTimeout (x : Port) := runDev (Dev.acqTimeout x)
/-- DSP_RESTART (R137). -/
def execDspRestart (req : Requester) (x : Port) := runWrite req (2 + x) (Dev.dspRestart x)
/-- SYNC_LOSS (R139). -/
def execSyncLoss (x : Port) (pilots : List (Nat × Nat)) := runDev (Dev.syncLoss x pilots)
/-- GUARD_WINDOW (R129). -/
def execGuardWindow (x : Port) (obsX obsY : GuardObs) := runDev (Dev.guardWindow x obsX obsY)
/-- CYCLE_SLIP (R133). -/
def execCycleSlip (x : Port) := runDev (Dev.cycleSlip x)
/-- FADE_DONE (R147). -/
def execFadeDone (x : Port) := runDev (Dev.fadeDone x)
/-- PD_COEF_WRITE (R148). -/
def execPdCoefWrite (req : Requester) (x : Port) (bank : Fin 2) (dac : Fin 4) (tap : Fin 64) (coef : BitVec 16) :=
  runWrite req (2 + x) (Dev.pdCoefWrite x bank dac tap coef)
/-- TX_CLIP (R144). -/
def execTxClip (x : Port) (samples : Nat) := runDev (Dev.txClip x samples)

end Sys2Proof.Machine
end

