-- ==== Sys2Proof/Machine/Converters.lean ====
section
/-! DEFINITION. The converters of blocks LNA and LNB: rate, states, slice rotation, calibration, overrange
(03_line_converters.md). Port x is A (0) or B (1); converter c as in Table 1. -/

namespace Sys2Proof.Machine

/-- Converter c of port x beside its registers. -/
def Dev.conv (d : Dev) (x c : Nat) : Converter := Sparse.get {} (d.ln x).convs c
/-- Replace converter c of port x. -/
def Dev.setConv (d : Dev) (x c : Nat) (v : Converter) : Dev :=
  d.setLn x { d.ln x with convs := Sparse.put {} (d.ln x).convs c v }

/-- Whether converter c of port x is DEGRADED. -/
def Dev.degraded (d : Dev) (x c : Nat) : Bool := d.bitAt (Reg.LNx_CNV_STATE x) (4 * c + 2)
/-- CAL_CTL.FREEZE of port x (R99). -/
def Dev.frozen (d : Dev) (x : Nat) : Bool := d.isSet (Fld.LNx_CAL_CTL.FREEZE x)

/-- The temperature at a converter in 0.1 °C: sensor 2x by the ADCs, 2x + 1 by the DACs (Table 3 of
18_power_and_housekeeping.md). -/
def Dev.localTemp (d : Dev) (x c : Nat) : Int := d.getInt (Fld.PWR_TEMP.T (2 * x + c / 4))

/-- Whether a converter lags (R102): some position's recorded temperature differs from the local one by more than the
threshold, which counts in 0.125 °C; evaluated in CONVERGING and RUN. -/
def Dev.lagging (d : Dev) (x c : Nat) : Bool :=
  decide (2 ≤ d.cnvState x c) && (List.range 64).any (fun q =>
    decide (d.get (Fld.LNx_CAL_LAG_THR.THR x) * 5 < (d.localTemp x c - Sparse.get 0 (d.conv x c).temps q).natAbs * 4))

/-- Bring CAL_LAG of every converter of port x and the cause of LNx.02 up to date (R102). -/
def Dev.lagCheck (d : Dev) (x : Nat) : Dev :=
  let d := Dev.forUpTo 8 (fun d c => d.putBit (Reg.LNx_CNV_STATE x) (4 * c + 3) (d.lagging x c)) d
  d.causeIs (fLN x 2) ((List.range 8).any (fun c => d.bitAt (Reg.LNx_CNV_STATE x) (4 * c + 3)))

/-- LNx.00 is present while any OVR_LIVE is 1 (R113). -/
def Dev.ovrCause (d : Dev) (x : Nat) : Dev := d.causeIs (fLN x 0) (decide (d.get (Fld.LNx_OVR_STATUS.OVR_LIVE x) ≠ 0))

/-- LNx.03 and LNx.04 are present while a slice is retired and a converter DEGRADED. -/
def Dev.retireCause (d : Dev) (x : Nat) : Dev :=
  (d.causeIs (fLN x 3) ((List.range 8).any (fun c => d.isSet (Fld.LNx_CAL_INFO.RETIRED x c)))).causeIs (fLN x 4)
    ((List.range 8).any (fun c => d.degraded x c))

/-- Write the state of a converter; below CONVERGING an ADC marks no overrange (R108) and no step is in progress. A step in progress
when the converter is disabled, relocks or takes CAL_NOW is abandoned with the mapping, the spare and the position as before it: the spec
does not say what becomes of it once step 2 of R96 has switched the position (DESIGN CHOICE, notes/assumptions/5.md). -/
def Dev.setCnvState (d : Dev) (x c st : Nat) : Dev :=
  let d := d.setReg (Reg.LNx_CNV_STATE x) (setBits (d.reg (Reg.LNx_CNV_STATE x)) (4 * c + 1) (4 * c) st)
  if st ≤ 1 then
    let d := d.setConv x c { d.conv x c with inStep := false }
    if c < 4 then (d.clrBit (Reg.LNx_OVR_STATUS x) c).ovrCause x else d
  else d

/-- A converter enters CONVERGING (R92, R102): from the factory record every position takes the present local temperature and
learned corrections are dropped; a DEGRADED converter enters RUN at once (Table 3); with FREEZE = 1 no step starts (R99). -/
def Dev.converge (d : Dev) (x c : Nat) (factory : Bool) : Dev :=
  let v := d.conv x c
  let t := d.localTemp x c
  let v := if factory || !v.learned then
      { v with corr := [], learned := true, temps := (List.range 64).map (fun q => (q, t)) } else v
  if d.degraded x c then (d.setConv x c { v with steps := 0, inStep := false }).setCnvState x c 3
  else (d.setConv x c { v with steps := 0, inStep := !d.frozen x }).setCnvState x c 2

/-- Every converter of port x takes the state its enable and region demand (R91, R93): OFF at once, or LOCKING from OFF. The
synthesiser is powered down while none is enabled or the region is empty (R94). -/
def Dev.cnvCheck (d : Dev) (x : Nat) : Dev :=
  let on (d : Dev) (c : Nat) : Bool := d.cnvEn x c && d.regionActive (1 + x)
  let d := Dev.forUpTo 8 (fun d c =>
    if !on d c then (if d.cnvState x c = 0 then d else d.setCnvState x c 0)
    else if d.cnvState x c = 0 then d.setCnvState x c 1 else d) d
  let d := if (List.range 8).any (on d) then d
    else (d.setLn x { d.ln x with locked := false, lost := false }).causeOff (fLN x 1)
  (d.lagCheck x).rxCheckAll

/-- A relock: the sequence restarts from LOCKING for every enabled converter of the port (R93). -/
def Dev.relock (d : Dev) (x : Nat) : Dev :=
  let d := d.setLn x { d.ln x with locked := false }
  let d := if d.regionActive (1 + x) then
      Dev.forUpTo 8 (fun d c => if d.cnvEn x c then d.setCnvState x c 1 else d) d else d
  (d.lagCheck x).rxCheckAll

/-- A write of M (R89): out of range it is discarded and LNx.05 fires; a different value starts a relock. -/
def Dev.cnvRateWrite (x m : Nat) (d : Dev) : Dev :=
  if m < 20 ∨ 50 < m then d.raise (fLN x 5)
  else if m = d.lnM x then d
  else (d.put (Fld.LNx_CNV_RATE.M x) m).relock x

/-- A write of CNV_EN (R91, R93). -/
def Dev.cnvEnWrite (x en : Nat) (d : Dev) : Dev := (d.put (Fld.LNx_CNV_EN.EN x) en).cnvCheck x

/-- The synthesiser is locked and converter c's clocks are aligned (R91, R94). -/
def Dev.converterLocked (x c : Nat) (d : Dev) : Dev :=
  if d.cnvState x c = 1 then
    let d := (d.setLn x { d.ln x with locked := true, lost := false }).causeOff (fLN x 1)
    ((d.converge x c false).lagCheck x).rxCheckAll
  else d

/-- The running synthesiser loses lock (R94). -/
def Dev.cnvUnlock (x : Nat) (d : Dev) : Dev :=
  if d.regionActive (1 + x) && (d.ln x).locked && (List.range 8).any (fun c => d.cnvEn x c) then
    ((d.setLn x { d.ln x with lost := true }).causeOn (fLN x 1)).relock x
  else d

/-- Whether a correction lies within Table 5 (R100): ±16 LSB, ±10 %, ±2.0 ps, ±5 %. -/
def correctionInRange (k : SliceCorr) : Bool :=
  decide (k.offset.natAbs ≤ 16000) && decide (k.gain.natAbs ≤ 10000) && decide (k.skew.natAbs ≤ 2000) &&
    decide (k.bandwidth.natAbs ≤ 5000)

/-- A completed rotation (R104): CAL_CNT saturates at 48 ones, CAL_SEC takes the time counter's seconds, and a converging
converter enters RUN (R91). -/
def Dev.rotationDone (d : Dev) (x c : Nat) : Dev :=
  let d := (d.incWide (Reg.LNx_CAL_CNT_LO x c) 48 1).stampSeconds (Reg.LNx_CAL_SEC_LO x c)
  if d.cnvState x c = 2 then d.setCnvState x c 3 else d

/-- The spare s has taken position q from slice u, whose estimate needs a correction out of range: u is retired, the converter
has no spare, is DEGRADED and rotates no more (R100). -/
def Dev.retire (d : Dev) (x c u : Nat) : Dev :=
  let d := ((d.put (Fld.LNx_CAL_INFO.RETIRED x c) 1).put (Fld.LNx_CAL_INFO.RET_SLICE x c) u).put
    (Fld.LNx_CAL_INFO.SPARE x c) 127
  let d := (d.setBit (Reg.LNx_CNV_STATE x) (4 * c + 2)).setConv x c { d.conv x c with inStep := false }
  (if d.cnvState x c = 2 then d.setCnvState x c 3 else d).retireCause x

/-- A rotation step's dwell ends (R96): position q has gone from slice u to the spare; u takes its new correction and becomes
the spare, or is retired; the next position is (q + 1) mod 64. A step in progress ends although FREEZE is 1, and then no other
starts (R99). A 64th step whose slice is retired still completes the rotation (CAL_CNT, CAL_SEC), and a step with an out-of-range
estimate counts as its position's last calibration for the recorded temperature: the spec says neither (DESIGN CHOICE,
notes/assumptions/5.md). -/
def Dev.calStep (x c : Nat) (est : SliceCorr) (d : Dev) : Dev :=
  let v := d.conv x c
  if !v.inStep || decide (d.cnvState x c ≤ 1) then d else
    let q := d.get (Fld.LNx_CAL_INFO.POS x c)
    let s := d.get (Fld.LNx_CAL_INFO.SPARE x c)
    let u := v.serve.getD q 0
    let ok := correctionInRange est
    let d := d.setConv x c { v with
      serve := v.serve.set q s, steps := v.steps + 1, inStep := ok && !d.frozen x,
      corr := if ok then Sparse.insert u est v.corr else v.corr,
      temps := Sparse.insert q (d.localTemp x c) v.temps }
    let d := d.put (Fld.LNx_CAL_INFO.POS x c) ((q + 1) % 64)
    let d := if (v.steps + 1) % 64 = 0 then d.rotationDone x c else d
    (if ok then d.put (Fld.LNx_CAL_INFO.SPARE x c) u else d.retire x c u).lagCheck x

/-- A write of FREEZE: when it returns to 0, rotation resumes with the next step (R99). -/
def Dev.freezeWrite (x : Nat) (on : Bool) (d : Dev) : Dev :=
  let d := d.put (Fld.LNx_CAL_CTL.FREEZE x) (bit on)
  if on then d else
    Dev.forUpTo 8 (fun d c => if 2 ≤ d.cnvState x c ∧ !d.degraded x c then
      d.setConv x c { d.conv x c with inStep := true } else d) d

/-- CAL_NOW: every enabled converter in CONVERGING or RUN enters CONVERGING from the factory record (R92). -/
def Dev.calNow (x : Nat) (d : Dev) : Dev :=
  (Dev.forUpTo 8 (fun d c => if d.cnvEn x c && decide (2 ≤ d.cnvState x c) then d.converge x c true else d) d).lagCheck x

/-- The same mark reaches the records that span the sample (R108). -/
def Dev.markOverrange (d : Dev) (x : Nat) : Dev := d.setLn x { d.ln x with ovrMarks := (d.ln x).ovrMarks + 1 }

/-- An ADC sample is overrange, gap sample periods after the ADC's previous one (R108). A run breaks at 64. -/
def Dev.adcOverrange (x a gap : Nat) (d : Dev) : Dev :=
  if d.cnvState x a ≤ 1 then d else
    let d := if !(d.conv x a).overranged || decide (64 ≤ gap) then d.incSat (Fld.LNx_OVR_CNT.RUNS x a) else d
    let d := d.setConv x a { d.conv x a with overranged := true }
    (((d.setBit (Reg.LNx_OVR_STATUS x) a).setBit (Reg.LNx_OVR_STATUS x) (8 + a)).ovrCause x).markOverrange x

/-- 1 µs has passed without an overrange sample of ADC a, or (none) without a clipped sample (R108, R144). -/
def Dev.ovrLiveExpiry (x : Nat) (adc : Option (Fin 4)) (d : Dev) : Dev :=
  match adc with
  | some a => (d.clrBit (Reg.LNx_OVR_STATUS x) a).ovrCause x
  | none => d.causeOff (fLN x 16)

/-- At the end of a block reset of LNx: learned coefficients, mapping and retired slices survive, and the sequence restarts
from LOCKING (R95). -/
def Dev.cnvAfterReset (x : Nat) (d : Dev) : Dev := ((d.cnvCheck x).relock x).retireCause x

/-! ### What converters give out (Table 3) -/

/-- The code an ADC gives at the SAMPLE level for a sample: code 0 in OFF and LOCKING (R91). -/
def Dev.adcCode (d : Dev) (x c : Nat) (sample : BitVec 8) : BitVec 8 := if d.cnvState x c ≤ 1 then 0 else sample

/-- What a DAC gives at its RF port: 50 Ω to ground, or the level of a code. -/
inductive DacOut where
  | ground
  | code (k : BitVec 8)
  deriving DecidableEq, Repr

/-- Whether the sink LNx.DAC of port x receives code 0: it is unconnected (R30), or a transmit half that is off feeds it (R117, R145). -/
def Dev.dacIdle (d : Dev) (x : Nat) : Bool :=
  match d.sinkSignal 0 (0x203 + 0x100 * x) noInst with
  | .stream 0x202 _ => !d.txEn 0 || d.modeErr 0
  | .stream 0x302 _ => !d.txEn 1 || d.modeErr 1
  | .stream _ _ => false
  | _ => true

/-- The output of DAC c of port x (converter 4 + c) when a code reaches it: ground in OFF, code 0 in LOCKING and while the port's region
restructures (R91, R81). -/
def Dev.dacOut (d : Dev) (x c : Nat) (k : BitVec 8) : DacOut :=
  match d.cnvState x (4 + c) with
  | 0 => .ground
  | 1 => .code 0
  | _ => if d.restructuring (1 + x) || d.dacIdle x then .code 0 else .code k

/-! ### Meanings -/

/-- CNV_RATE_WRITE (R89). -/
def execCnvRateWrite (req : Requester) (x : Port) (m : BitVec 6) := runWrite req (2 + x) (Dev.cnvRateWrite x m.toNat)
/-- CNV_EN_WRITE (R91). -/
def execCnvEnWrite (req : Requester) (x : Port) (en : BitVec 8) := runWrite req (2 + x) (Dev.cnvEnWrite x en.toNat)
/-- CONVERTER_LOCKED (R91). -/
def execConverterLocked (x : Port) (c : Fin 8) := runDev (Dev.converterLocked x c)
/-- CNV_UNLOCK (R94). -/
def execCnvUnlock (x : Port) := runDev (Dev.cnvUnlock x)
/-- CAL_STEP (R96). -/
def execCalStep (x : Port) (c : Fin 8) (est : SliceCorr) := runDev (Dev.calStep x c est)
/-- CAL_NOW (R92). -/
def execCalNow (req : Requester) (x : Port) := runWrite req (2 + x) (Dev.calNow x)
/-- ADC_OVERRANGE (R108). -/
def execAdcOverrange (x : Port) (a : Fin 4) (gap : Nat) := runDev (Dev.adcOverrange x a gap)
/-- OVR_LIVE_EXPIRY (R108). -/
def execOvrLiveExpiry (x : Port) (adc : Option (Fin 4)) := runDev (Dev.ovrLiveExpiry x adc)

end Sys2Proof.Machine
end

