-- ==== Sys2Proof/Machine/Fec.lean ====
section
/-! DEFINITION. Block FEC: encoding and decoding of superframes, counters and monitors (05_shaping_and_fec.md). -/

namespace Sys2Proof.Machine

/-- The FEC of port x beside its registers. -/
def Dev.fecOf (d : Dev) (x : Nat) : FecState := Sparse.get {} d.fec x
/-- Replace the FEC state of port x. -/
def Dev.setFec (d : Dev) (x : Nat) (f : FecState) : Dev := { d with fec := Sparse.put {} d.fec x f }

/-- The format in use: 0 to 2, or 7 for none (R153). -/
def Dev.fecFmt (d : Dev) (x : Nat) : Nat := d.get (Fld.FEC_x_STATUS.FMT x)

/-- The FEC of port x works: its region has a structure, the block is not in reset and a format is in use. -/
def Dev.fecRuns (d : Dev) (x : Nat) : Bool := d.regionActive (1 + x) && !d.inReset 4 && decide (d.fecFmt x ≤ 2)

/-- ITER_ACT is the lower of ITER_MAX and the governor's cap; CAPPED tells that it is lower than ITER_MAX (R165). -/
def Dev.iterSync (d : Dev) (x : Nat) : Dev :=
  let mx := d.get (Fld.FEC_x_DEC_CTL.ITER_MAX x)
  let act := min mx (d.fecOf x).iterCap
  (d.put (Fld.FEC_x_DEC_STATUS.ITER_ACT x) act).put (Fld.FEC_x_DEC_STATUS.CAPPED x) (bit (decide (act < mx)))

/-- FEC.02 is present while THR is not 0 and the last interval's pre-FEC error rate exceeds it (R172). -/
def Dev.berCause (d : Dev) (x : Nat) : Dev :=
  let thr := d.get (Fld.FEC_x_BER_THR.THR x)
  d.causeIs (fFEC x 2) (decide (thr ≠ 0) &&
    decide (thr * d.get (Fld.FEC_x_MON_CW.CW x) * 9216 < d.get (Fld.FEC_x_MON_CORR.CORR x) * 2 ^ 20))

/-- What follows the active copies of the FEC fields of port x: the format, the iterations, the alarm. -/
def Dev.fecApply (x : Nat) (d : Dev) : Dev :=
  let fmt := if d.modeErr x || !d.regionActive (1 + x) then 7 else d.lnFmt x
  let d := d.put (Fld.FEC_x_STATUS.FMT x) fmt
  let d := if d.isSet (Fld.FEC_x_CTL.ENC_EN x) ∧ fmt ≠ 7 then d else d.put (Fld.FEC_x_STATUS.ENC_RUN x) 0
  let d := if d.isSet (Fld.FEC_x_CTL.DEC_EN x) ∧ fmt ≠ 7 then d else d.put (Fld.FEC_x_STATUS.DEC_RUN x) 0
  (d.iterSync x).berCause x

/-- Whether a key is a register of FEC port x. -/
def fecKey (x a : Nat) : Bool := decide (keyBlock a = 4) && decide (keyAddr a % 0x100000 / 0x80000 = x)

/-- A superframe of port x begins: pending FEC fields become active together, and the format is taken (R153). -/
def Dev.fecBoundary (x : Nat) (d : Dev) : Dev :=
  (if d.held? 4 then d else d.copyShadow (fecKey x)).fecApply x

/-- Whether the encoder of port x takes OTU bits: it works and is enabled. -/
def Dev.encodes (d : Dev) (x : Nat) : Bool := d.fecRuns x && d.isSet (Fld.FEC_x_CTL.ENC_EN x)

/-- The OTU bits that stand at the encoder of port x for a superframe of n, and the device that has taken them. A decoder gives those of its
last superframe. A framer gives its stream bit for bit to every encoder it feeds (R28): bits of it that the other encoder has taken
come first, then bits, and these wait for the other. An unconnected encoder gets a fill (R30). -/
def Dev.otuBits (d : Dev) (x n : Nat) (bits : List Bool) : List Bool × Dev :=
  match d.sinkSignal 2 (0x402 + x) noInst with
  | .stream 0x400 _ => ((d.fecOf 0).received, d)
  | .stream 0x401 _ => ((d.fecOf 1).received, d)
  | .stream _ _ =>
    let f := d.fecOf x
    let l := (f.ahead ++ bits).take n
    let y := 1 - x
    let shared := d.feeds 2 (0x402 + y) noInst == d.feeds 2 (0x402 + x) noInst && d.encodes y
    let d := d.setFec x { f with ahead := f.ahead.drop n }
    (l, d.setFec y { d.fecOf y with ahead := if shared then (d.fecOf y).ahead ++ l.drop f.ahead.length else [] })
  | _ =>
    let d := { d with fresh := d.fresh + 1 }
    ((List.range n).map (Config.fillBit d.fresh), d)

/-- The encoder forms one superframe (R156): bits are the OTU bits that a framer sends. With ENC_EN = 0 it delivers line idle
(R162, R169). -/
def Dev.superframeEncode (x : Nat) (bits : List Bool) (d : Dev) : Dev :=
  if !d.fecRuns x then d else
    let d := d.superframeStart x true
    let p := packing (d.fecFmt x)
    let f := d.fecOf x
    if !d.isSet (Fld.FEC_x_CTL.ENC_EN x) then
      let r := prbs31Bits p.netBits f.prbs
      (d.setFec x { f with prbs := r.2, sent := encodeNet p r.1 }).put (Fld.FEC_x_STATUS.ENC_RUN x) 0
    else
      let d := d.put (Fld.FEC_x_STATUS.ENC_RUN x) 1
      let (l, d) := d.otuBits x p.otuBits bits
      d.setFec x { d.fecOf x with sent := encodeNet p (netStream p l) }

/-- Whether the superframe at the decoder of port x is decoded (R168): a DSP in TRACK feeds it. -/
def Dev.decodes (d : Dev) (x : Nat) : Bool :=
  match d.feeds 1 (0x400 + x) noInst with
  | some (0x204, _) => d.rxState 0 == 8
  | some (0x304, _) => d.rxState 1 == 8
  | _ => false

/-- Add n to running counter i of port x, 48 bits, saturating (R171). -/
def Dev.fecCount (d : Dev) (x i n : Nat) : Dev := d.incWide (Reg.FEC_x_CNT_LO x i) 48 n

/-- A superframe's codewords are decoded and its shaping blocks rebuilt (R163 to R168, R171). SHAPE_ERR's cause is presented in one tick for
all shaping errors of the superframe, since the spec does not say in which ticks they fall (DESIGN CHOICE, notes/assumptions/6.md). -/
def Dev.superframeDecode (x : Nat) (llrs : List (BitVec 5)) (d : Dev) : Dev :=
  if !d.fecRuns x || !d.isSet (Fld.FEC_x_CTL.DEC_EN x) then d.put (Fld.FEC_x_STATUS.DEC_RUN x) 0 else
    let p := packing (d.fecFmt x)
    let f := d.fecOf x
    if !d.decodes x then
      (d.setFec x { f with received := List.replicate p.otuBits false }).put (Fld.FEC_x_STATUS.DEC_RUN x) 0
    else
      let d := d.superframeStart x false
      let cws := (List.range p.codewords).map (decodeCodeword p (d.get (Fld.FEC_x_DEC_CTL.NORM x))
        (d.get (Fld.FEC_x_DEC_STATUS.ITER_ACT x)) (d.isSet (Fld.FEC_x_DEC_CTL.EARLY_STOP x)) llrs)
      let corr := (cws.map (·.corr)).sum
      let bad := (cws.filter (fun w => !w.ok)).length
      let r := rebuild p cws
      let d := d.setFec x { f with
        cw := f.cw + p.codewords, corr := f.corr + corr, uncorr := f.uncorr + bad,
        iters := f.iters + (cws.map (·.iters)).sum, shape := f.shape + r.2, received := r.1 }
      let d := (((d.fecCount x 0 p.codewords).fecCount x 1 corr).fecCount x 2 bad).fecCount x 3 r.2
      let d := if bad = 0 then d else d.setInt (intFEC x) 1
      let d := if r.2 = 0 then d else (d.setInt (intFEC x) 2).raise (fFEC x 1)
      d.put (Fld.FEC_x_STATUS.DEC_RUN x) 1

/-- The monitors take the interval's totals (R172); the mean drops its fraction below 1/256. Codewords decoded before TRACK was lost count in
the first interval after it returns, since the spec does not say that an interval restarts (DESIGN CHOICE, notes/assumptions/6.md). -/
def Dev.fecMonitors (x : Nat) (d : Dev) : Dev :=
  let f := d.fecOf x
  let d := ((d.put (Fld.FEC_x_MON_CW.CW x) f.cw).put (Fld.FEC_x_MON_CORR.CORR x) f.corr).put (Fld.FEC_x_MON_UNCORR.UNCORR x) f.uncorr
  let d := (d.put (Fld.FEC_x_MON_ITER.SHAPE x) (min f.shape 0xFFFF)).put (Fld.FEC_x_MON_ITER.AVG x) (f.iters * 256 / max 1 f.cw)
  let d := d.setFec x { f with cw := 0, corr := 0, uncorr := 0, iters := 0, shape := 0 }
  ((d.setInt (intFEC x) 0).causeIs (fFEC x 0) (decide (f.uncorr ≠ 0))).berCause x

/-- CNT_CLR: the four running counters become 0 (R171). -/
def Dev.fecCntClr (x : Nat) (d : Dev) : Dev := Dev.forUpTo 4 (fun d i => d.setReg64 (Reg.FEC_x_CNT_LO x i) 0) d

/-! ### Meanings -/

/-- SUPERFRAME_ENCODE (R156). -/
def execSuperframeEncode (x : Port) (bits : List Bool) := runDev (Dev.superframeEncode x bits)
/-- SUPERFRAME_DECODE (R167). -/
def execSuperframeDecode (x : Port) (llrs : List (BitVec 5)) := runDev (Dev.superframeDecode x llrs)
/-- FEC_CNT_CLR (R171). -/
def execFecCntClr (req : Requester) (x : Port) := runWrite req 4 (Dev.fecCntClr x)

end Sys2Proof.Machine
end

