-- ==== Sys2Proof/Machine/Framer.lean ====
section
/-! DEFINITION. Block FRM: frame and multiframe alignment, persistence filters, flows, slot interchange and maintenance signals
(06_otn_framing_and_tsi.md). -/

namespace Sys2Proof.Machine

/-! ### Flows and the line container (R175 to R179, R192 to R195) -/

/-- Whether port x carries a flow. -/
def FlowDecl.onPort (w : FlowDecl) (x : Nat) : Bool := w.home == x || w.home == 2

/-- The port a flow's registers follow: the one that carries it, or port A for a flow on both (R210). -/
def Dev.flowPort (d : Dev) (f : Nat) : Nat :=
  match d.flowOf f with
  | some w => if w.home = 1 then 1 else 0
  | none => 0

/-- A code of CLIENT_TYPE as the device treats it: any other than those of Table 6 as 0x00F0 (R192). -/
def clientCode (ct : Nat) : Nat := if ct ∈ [0x0001, 0x0002, 0x0003, 0x0010, 0x0011] then ct else 0x00F0

/-- The mapping of a client into its ODUflex (Table 6). -/
inductive Mapping where
  | imp | gmp | opaque_
  deriving DecidableEq, Repr

/-- The mapping that a client type selects (R192). -/
def mappingOf (ct : Nat) : Mapping :=
  match clientCode ct with
  | 0x0001 => .imp
  | 0x0002 => .imp
  | 0x0003 => .imp
  | 0x0010 => .gmp
  | 0x0011 => .gmp
  | _ => .opaque_

/-- n of a port's mode (Table 1); 0 in MODE_ERR and while the FRAMER region is empty. -/
def Dev.otuN (d : Dev) (x : Nat) : Nat :=
  if d.modeErr x || !d.regionActive 3 then 0 else
  match d.lnMode x with
  | 0 => 32
  | 1 => 24
  | 2 => 16
  | 3 => 16
  | 4 => 8
  | 5 => 4
  | 6 => d.get (Fld.FRM_x_OTU_CTL.N x)
  | _ => 0

/-- n in use at a port. -/
def Dev.nAct (d : Dev) (x : Nat) : Nat := d.get (Fld.FRM_x_OTU_STATUS.N_ACT x)

/-- Whether the receive framer of port x works: enabled, its region running, and n in use (R175, R179). -/
def Dev.frmRxOn (d : Dev) (x : Nat) : Bool :=
  d.regionRuns 3 && !d.inReset 5 && d.isSet (Fld.FRM_x_OTU_CTL.RX_EN x) && decide (d.nAct x ≠ 0)

/-- Whether the transmit framer of port x works (R175, R179); otherwise FRM.OTU_TX carries PRBS31 fill. -/
def Dev.frmTxOn (d : Dev) (x : Nat) : Bool :=
  d.regionRuns 3 && !d.inReset 5 && d.isSet (Fld.FRM_x_OTU_CTL.TX_EN x) && decide (d.nAct x ≠ 0)

/-- Minimum SLOTS of a client type (Table 6); any other code counts as 0x00F0 (R192). -/
def minSlots (ct : Nat) : Nat :=
  match ct with
  | 0x0001 => 80
  | 0x0002 => 160
  | 0x0003 => 320
  | 0x0010 => 21
  | 0x0011 => 41
  | _ => 1

/-- The nominal ODUflex rate of a flow in bit/s (Table 6); that of an opaque flow is SLOTS × 5.2 Gbit/s. -/
def oduRate (ct slots : Nat) : Nat :=
  match ct with
  | 0x0001 => 403250000000
  | 0x0002 => 806500000000
  | 0x0003 => 1613000000000
  | 0x0010 => 106696000000
  | 0x0011 => 213393000000
  | _ => slots * 5200000000

/-- Whether in FREE the scaled capacity of some slots of port x is below the flow's rate (R177, R193, R195). -/
def Dev.capacityShort (d : Dev) (x : Nat) (w : FlowDecl) (slots : Nat) : Bool :=
  let grown := w.encrypt || w.isProtected
  let have_ := slots * 121856 * 860177 * (packing (d.lnFmt x)).otuBits * d.symbolRate x
  let need := 20 * oduRate w.ctype w.slots * 262144 * d.nAct x * 105258138000
  decide (d.lnMode x = 6) && decide (have_ * (if grown then 15184 else 1) < need * (if grown then 15232 else 1))

/-- Entry t of the active page of set s: the flow it names (R197). -/
def Dev.tsiActive (d : Dev) (s t : Nat) : Option Nat :=
  if d.isSet (Fld.FRM_TSI_ACT.VALID s t) then some (d.get (Fld.FRM_TSI_ACT.FLOW s t)) else none

/-- Slots the active page of set s assigns to flow f below 20n (R203). -/
def Dev.slotsOf (d : Dev) (s f : Nat) : Nat :=
  ((List.range (min 640 (20 * d.nAct (s / 2)))).filter (fun t => d.tsiActive s t == some f)).length

/-- Whether flow f has lost slots of the active page of set s since they lie at 20n or above (R203). -/
def Dev.lostSlots (d : Dev) (s f : Nat) : Bool :=
  (List.range 640).any (fun t => decide (20 * d.nAct (s / 2) ≤ t) && d.tsiActive s t == some f)

/-- Whether the active receive page of port x leaves a flow fewer than its SLOTS (Table 8). -/
def Dev.rxShort (d : Dev) (w : FlowDecl) (x : Nat) : Bool := decide (d.slotsOf (2 * x) w.flow < w.slots)

/-- Whether a flow is INCOMPLETE as port x carries it (R195, R203). -/
def Dev.incompleteOn (d : Dev) (w : FlowDecl) (x : Nat) : Bool :=
  decide (w.slots < minSlots w.ctype) || decide (d.slotsOf (2 * x + 1) w.flow < w.slots) ||
    d.capacityShort x w (d.slotsOf (2 * x + 1) w.flow) || d.lostSlots (2 * x) w.flow || d.lostSlots (2 * x + 1) w.flow

/-- Whether a flow is INCOMPLETE (R195): it cannot carry its client where every port it is on fails it, so a protected flow with one sound
path is not (DEDUCED, notes/assumptions/7.md). -/
def Dev.incomplete (d : Dev) (w : FlowDecl) : Bool :=
  (List.range 2).all (fun x => !w.onPort x || d.incompleteOn w x)

/-- INCOMPLETE of every declared flow and the cause of FRM.16 (R209). -/
def Dev.flowCheck (d : Dev) : Dev :=
  let d := d.flows.foldl (fun d w => d.put (Fld.FRM_FLOW_STATUS.INCOMPLETE w.flow) (bit (d.incomplete w))) d
  d.causeIs 176 (d.flows.any (fun w =>
    let s := d.reg (Reg.FRM_FLOW_STATUS w.flow)
    s &&& 0x00000BF0 != 0))

/-- Set bit i of a flow's EVT: FLOW_EVT follows. -/
def Dev.flowEvt (d : Dev) (f i : Nat) : Dev := (d.setBit (Reg.FRM_FLOW_EVT f) i).setInt intFRM 5

/-! ### Alignment (R180 to R186) -/

/-- The key of an aligner. -/
def AlignKey : AlignUnit → Nat
  | .port x => x
  | .flow f x => 2 + 2 * f + x
/-- The port whose parameters an aligner uses. -/
def alignPort : AlignUnit → Nat
  | .port x => x
  | .flow _ x => x

/-- An aligner. -/
def Dev.aligner (d : Dev) (u : AlignUnit) : Aligner := Sparse.get {} d.frm.align (AlignKey u)

/-- Whether stream reaches an aligner: the port's framer works and is fed; a flow is declared on a port that is in IF. -/
def Dev.alignOn (d : Dev) (u : AlignUnit) : Bool :=
  match u with
  | .port x => d.frmRxOn x && (d.feeds 2 (0x500 + x) noInst).isSome
  | .flow f x => d.frmRxOn x && (match d.flowOf f with | some w => w.onPort x | none => false) &&
      decide ((d.aligner (.port x)).state = 3)

/-- Whether an item's filter belongs to a port or flow (R188). -/
def OhItem.unitIs (u : AlignUnit) : OhItem → Bool
  | .smTti x _ => u == .port x
  | .smBdi x _ => u == .port x
  | .smIae x _ => u == .port x
  | .smBiae x _ => u == .port x
  | .pmBdi x _ => u == .port x
  | .pmStat x _ => u == .port x
  | .opuPt x _ => u == .port x
  | .opuMsi x _ => u == .port x
  | .flowBdi f _ => match u with | .flow g _ => f == g | .port _ => false
  | .flowStat f _ => match u with | .flow g _ => f == g | .port _ => false
  | .flowPt f _ => match u with | .flow g _ => f == g | .port _ => false

/-- The flags of a flow's status register from its aligner, for the port its registers follow. -/
def Dev.showFlow (d : Dev) (f x : Nat) (a : Aligner) : Dev :=
  if d.flowPort f = x then
    (((d.put (Fld.FRM_FLOW_STATUS.ALIGN f) a.state).put (Fld.FRM_FLOW_STATUS.OOM f) (bit a.oom)).put
      (Fld.FRM_FLOW_STATUS.LOF f) (bit a.lof)).put (Fld.FRM_FLOW_STATUS.LOM f) (bit a.lom)
  else d

/-- Whether an item is one of a flow whose registers follow a port. -/
def Dev.carriesItem (d : Dev) (u : AlignUnit) (i : OhItem) : Bool :=
  match u, i with
  | .port x, .flowBdi f _ => d.flowPort f == x
  | .port x, .flowStat f _ => d.flowPort f == x
  | .port x, .flowPt f _ => d.flowPort f == x
  | _, _ => false

/-- Store an aligner and what its registers, interrupts and causes show of it. The filters of what leaves IF, and of the flows that a port
carries with it, reset their counts and hold their values (R188). -/
def Dev.setAligner (d : Dev) (u : AlignUnit) (a : Aligner) : Dev :=
  let old := d.aligner u
  let d := { d with frm := { d.frm with align := Sparse.put {} d.frm.align (AlignKey u) a } }
  let leaves := decide (old.state = 3) && decide (a.state ≠ 3)
  let d := if leaves then { d with frm := { d.frm with
      filters := d.frm.filters.filter (fun e => !OhItem.unitIs u e.2.1 && !d.carriesItem u e.2.1),
      aps := d.frm.aps.filter (fun e => match u with | .port x => decide (d.flowPort e.1 ≠ x) | .flow _ _ => true),
      bei := d.frm.bei.filter (fun e => match u with
        | .port x => decide (e.1 ≠ x ∧ e.1 ≠ 2 + x)
        | .flow f _ => decide (e.1 ≠ 4 + f)) } } else d
  match u with
  | .port x =>
    let d := ((((d.put (Fld.FRM_x_OTU_STATUS.STATE x) a.state).put (Fld.FRM_x_OTU_STATUS.CANDS x) a.cands.length).put
      (Fld.FRM_x_OTU_STATUS.OOM x) (bit a.oom)).put (Fld.FRM_x_OTU_STATUS.LOF x) (bit a.lof)).put
      (Fld.FRM_x_OTU_STATUS.LOM x) (bit a.lom)
    let d := if (old.state = 3) ≠ (a.state = 3) then d.setInt intFRM (2 + x) else d
    (d.causeIs (fFRM x 0) a.lof).causeIs (fFRM x 1) a.lom
  | .flow f x =>
    let d := d.showFlow f x a
    (if leaves ∧ d.flowPort f = x then { d with frm := { d.frm with aps := Sparse.erase f d.frm.aps } }.flowEvt f 1
      else d).flowCheck

/-- The state of an aligner outside IF (Table 2). -/
def Aligner.search (a : Aligner) : Aligner :=
  { a with state := if a.check.isSome then 2 else if a.cands.isEmpty then 0 else 1 }

/-- An aligner in OOF: no candidate; LOF and LOM stay, and so do the bars that still last (R183). -/
def Aligner.lost (a : Aligner) : Aligner := { lof := a.lof, lom := a.lom, barred := a.barred }

/-- The next eligible candidate enters MF_CHECK where none is there; check frame 0 is its last matched frame (R182). -/
def Aligner.enterCheck (a : Aligner) : Aligner :=
  match a.check, a.eligible with
  | none, o :: r =>
    match a.cands.find? (fun c => c.offset == o) with
    | some c => { a with check := some (o, [some c.mfas]), eligible := r }
    | none => { a with eligible := r }
  | _, _ => a

/-- A match at an offset outside IF (R181, R182): ovf tells that it was dropped since 16 candidates are held. -/
def Aligner.matched (a : Aligner) (nIn offset : Nat) (mfas : BitVec 8) : Aligner × Bool :=
  match a.cands.find? (fun c => c.offset == offset) with
  | some c =>
    if (a.check.map (·.1)) = some offset then (a, false) else
      let a' : Aligner := { a with
        cands := a.cands.map (fun (e : Candidate) => if e.offset = offset then { e with count := e.count + 1, mfas := mfas } else e),
        eligible := if c.count + 1 ≥ nIn ∧ offset ∉ a.eligible then a.eligible ++ [offset] else a.eligible }
      (a'.enterCheck.search, false)
  | none =>
    if offset ∈ a.barred then (a, false)
    else if 16 ≤ a.cands.length then (a, true)
    else
      let a' : Aligner := { a with
        cands := a.cands ++ [{ offset := offset, count := 1, mfas := mfas }],
        eligible := if nIn ≤ 1 then a.eligible ++ [offset] else a.eligible }
      (a'.enterCheck.search, false)

/-- A frame in IF with a FAS match (R184): the phase goes on, or while OOM stays held and the frames that follow it count. -/
def Aligner.inFrame (a : Aligner) (mfas : BitVec 8) : Aligner :=
  if a.oom then
    { a with misses := 0,
             follow := if mfas = a.phase + 1 + BitVec.ofNat 8 a.follow then a.follow + 1
               else if mfas = a.phase + 1 then 1 else 0 }
  else
    { a with misses := 0, phase := a.phase + 1, mismatches := if mfas = a.phase + 1 then 0 else a.mismatches + 1 }

/-- Whether the FAS of slice i + 1 appears in a frame's first bytes, by the bytes that FAS_LEN selects: 2 to 5, or all six (R180). -/
def fasAt (long : Bool) (head : List Byte) (i : Nat) : Bool :=
  let six : List Byte := [0xF6, 0xF6, 0xF6, 0x28, 0x28, 0x28]
  if long then sliceBytes head (16 * i) 6 == six else sliceBytes head (16 * i + 1) 4 == sliceBytes six 1 4

/-- Whether a frame's first bytes are a FAS match for an aligner: slice 1 is compared, with no bit errors allowed (R180). -/
def Dev.fasSeen (d : Dev) (u : AlignUnit) (head : List Byte) : Bool :=
  decide (7 ≤ head.length) && fasAt (d.isSet (Fld.FRM_x_OTU_CTL.FAS_LEN (alignPort u))) head 0

/-- The MFAS byte of a frame: that of slice 1. -/
def frameMfas (head : List Byte) : BitVec 8 := head.getD 6 0

/-- Whether the FAS of any of slices 2 to n differs from the pattern (R180). -/
def Dev.slicesBad (d : Dev) (x : Nat) (head : List Byte) : Bool :=
  (List.range (d.nAct x)).any (fun i => decide (1 ≤ i) && !fasAt (d.isSet (Fld.FRM_x_OTU_CTL.FAS_LEN x)) head i)

/-- The sum of the errors of the slices. -/
def sumErrs (l : List Nat) : Nat := l.foldl (· + ·) 0

/-- Count the errors of a frame received in IF (R180, Tables 17 and 20), and keep its BIP-8 errors for BEI (R191). -/
def Dev.countErrs (d : Dev) (u : AlignUnit) (head : List Byte) (e : FrameErrs) : Dev :=
  let keep (d : Dev) (k : Nat) (l : List Nat) : Dev := { d with frm := { d.frm with bei := Sparse.put [] d.frm.bei k l } }
  match u with
  | .port x =>
    let d := if d.slicesBad x head then d.incSat (Fld.FRM_x_SLICE_FAS_CNT.FRAMES x) else d
    let d := (((d.incSat (Fld.FRM_x_SM_BIP_CNT.ERRORS x) (sumErrs e.smBip)).incSat (Fld.FRM_x_SM_BEI_CNT.ERRORS x) e.smBei).incSat
      (Fld.FRM_x_PM_BIP_CNT.ERRORS x) (sumErrs e.pmBip)).incSat (Fld.FRM_x_PM_BEI_CNT.ERRORS x) e.pmBei
    keep (keep d x e.smBip) (2 + x) e.pmBip
  | .flow f _ =>
    keep ((d.incSat (Fld.FRM_FLOW_BIP_CNT.ERRORS f) (sumErrs e.pmBip)).incSat (Fld.FRM_FLOW_BEI_CNT.ERRORS f) e.pmBei) (4 + f) e.pmBip

/-- A FAS match at a bit offset (R180): outside IF it creates or advances a candidate; in IF, at the expected position, the frame is
checked (R181, R184). Bytes that are no match are no such event. -/
def Dev.fasMatch (u : AlignUnit) (offset : Nat) (head : List Byte) (errs : FrameErrs) (d : Dev) : Dev :=
  if !d.alignOn u || !d.fasSeen u head then d else
    let a := d.aligner u
    let mfas := frameMfas head
    if a.state = 3 then
      (if offset = a.offset then
        let d := match u with
          | .port x => d.otuFrameStart x false mfas.toNat
          | .flow _ _ => d
        (d.setAligner u (a.inFrame mfas)).countErrs u head errs
       else d)
    else
      let (a', ovf) := a.matched (d.get (Fld.FRM_x_OTU_CTL.N_IN (alignPort u))) offset mfas
      let d := if ovf then (match u with
        | .port x => (d.incSat (Fld.FRM_x_ALIGN_CNT.CAND_OVF x)).raise 180
        | .flow _ _ => d.raise 180) else d
      d.setAligner u a'

/-- A FAS is absent where one was expected: a candidate outside MF_CHECK is discarded (R181); in IF the miss counts and breaks
a run of frames that follow the held phase (R184). -/
def Dev.fasMiss (u : AlignUnit) (seen : FrameSeen) (d : Dev) : Dev :=
  if !d.alignOn u || d.fasSeen u seen.head then d else
    let offset := seen.offset
    let a := d.aligner u
    if a.state = 3 then
      (if offset = a.offset then
        (d.setAligner u { a with misses := a.misses + 1, follow := 0, phase := if a.oom then a.phase else a.phase + 1 }).countErrs u seen.head seen.errs
      else d)
    else if (a.check.map (·.1)) = some offset then d
    else d.setAligner u ({ a with cands := a.cands.filter (fun c => c.offset != offset),
                                  eligible := a.eligible.filter (fun o => o != offset) }).search

/-- Whether check frames, oldest first, end with the confirmation of R182: two increments in a row. -/
def confirmed (l : List (Option (BitVec 8))) : Bool :=
  match l.reverse with
  | some m2 :: some m1 :: some m0 :: _ => m2 == m1 + 1 && m1 == m0 + 1
  | _ => false

/-- A check frame of the candidate in MF_CHECK (R182), which may miss its FAS. On confirmation the framer enters IF. -/
def Dev.mfCheckFrame (u : AlignUnit) (head : List Byte) (d : Dev) : Dev :=
  let a := d.aligner u
  let mfas := if d.fasSeen u head then some (frameMfas head) else none
  match d.alignOn u, a.check with
  | true, some (o, l) =>
    if 5 ≤ l.length then d else
      let l' := l ++ [mfas]
      if confirmed l' then
        d.setAligner u { state := 3, offset := o, phase := frameMfas head, lof := a.lof, lom := a.lom, barred := a.barred }
      else d.setAligner u { a with check := some (o, l') }
  | _, _ => d

/-- A candidate not confirmed by check frame 4 is revoked and its offset barred (R183); the next eligible one enters. -/
def Dev.revoke (u : AlignUnit) (d : Dev) : Dev :=
  let a := d.aligner u
  match a.check with
  | some (o, l) =>
    if l.length < 5 then d else
      let d := match u with
        | .port x => (d.incSat (Fld.FRM_x_ALIGN_CNT.REVOKE x)).raise (fFRM x 5)
        | .flow _ x => d.raise (fFRM x 5)
      d.setAligner u (({ a with check := none, cands := a.cands.filter (fun c => c.offset != o),
                                barred := a.barred ++ [o] }).enterCheck.search)
  | none => d

/-- A bar ends after eight frame periods (R183). -/
def Dev.barExpiry (u : AlignUnit) (offset : Nat) (d : Dev) : Dev :=
  d.setAligner u { d.aligner u with barred := (d.aligner u).barred.filter (fun o => o != offset) }

/-- N_OUT consecutive misses in IF: OOF, without a bar (R184). -/
def Dev.outOfFrame (u : AlignUnit) (d : Dev) : Dev :=
  let a := d.aligner u
  if a.state = 3 ∧ d.get (Fld.FRM_x_OTU_CTL.N_OUT (alignPort u)) ≤ a.misses then
    let d := match u with
      | .port x => d.incSat (Fld.FRM_x_ALIGN_CNT.OOF x)
      | .flow _ _ => d
    d.setAligner u a.lost
  else d

/-- Five consecutive MFAS mismatches set OOM and hold the phase (R184). -/
def Dev.oomSet (u : AlignUnit) (d : Dev) : Dev :=
  let a := d.aligner u
  if a.state = 3 ∧ !a.oom ∧ 5 ≤ a.mismatches then d.setAligner u { a with oom := true, follow := 0 } else d

/-- Two consecutive frames that follow the held phase clear OOM; the phase is re-taken (R184). -/
def Dev.oomClear (u : AlignUnit) (d : Dev) : Dev :=
  let a := d.aligner u
  if a.state = 3 ∧ a.oom ∧ 2 ≤ a.follow then
    d.setAligner u { a with oom := false, mismatches := 0, phase := a.phase + BitVec.ofNat 8 a.follow, follow := 0 }
  else d

/-- After 3 ms outside IF, LOF sets; after 3 ms in IF it clears (R185). -/
def Dev.lofChange (u : AlignUnit) (d : Dev) : Dev :=
  if d.frmRxOn (alignPort u) then
    d.setAligner u { d.aligner u with lof := decide ((d.aligner u).state ≠ 3) } else d

/-- After 3 ms of OOM, LOM sets; after 3 ms without it, it clears (R185). -/
def Dev.lomChange (u : AlignUnit) (d : Dev) : Dev :=
  if d.frmRxOn (alignPort u) then d.setAligner u { d.aligner u with lom := (d.aligner u).oom } else d

/-! ### Overhead (R188 to R190) -/

/-- The filter an item belongs to. -/
def ohKey : OhItem → Nat
  | .smTti x _ => 16 * x
  | .smBdi x _ => 16 * x + 1
  | .smIae x _ => 16 * x + 2
  | .smBiae x _ => 16 * x + 3
  | .pmBdi x _ => 16 * x + 4
  | .pmStat x _ => 16 * x + 5
  | .opuPt x _ => 16 * x + 6
  | .opuMsi x _ => 16 * x + 7
  | .flowBdi f _ => 64 + 4 * f
  | .flowStat f _ => 64 + 4 * f + 1
  | .flowPt f _ => 64 + 4 * f + 2

/-- Occurrences an item needs (Table 5). -/
def ohPersistence : OhItem → Nat
  | .smBdi _ _ => 5
  | .pmBdi _ _ => 5
  | .flowBdi _ _ => 5
  | _ => 3

/-- Whether the port or flow of an item is in IF. -/
def Dev.ohInFrame (d : Dev) (i : OhItem) : Bool :=
  let port (x : Nat) : Bool := d.get (Fld.FRM_x_OTU_STATUS.STATE x) == 3 && d.frmRxOn x
  let flow (f : Nat) : Bool := d.get (Fld.FRM_FLOW_STATUS.ALIGN f) == 3 && (d.flowOf f).isSome && port (d.flowPort f)
  match i with
  | .smTti x _ => port x
  | .smBdi x _ => port x
  | .smIae x _ => port x
  | .smBiae x _ => port x
  | .pmBdi x _ => port x
  | .pmStat x _ => port x
  | .opuPt x _ => port x
  | .opuMsi x _ => port x
  | .flowBdi f _ => flow f
  | .flowStat f _ => flow f
  | .flowPt f _ => flow f

/-- Whether words i of TTI_RX and TTI_EXP differ somewhere in a range of words. -/
def Dev.ttiDiffers (d : Dev) (x first n : Nat) : Bool :=
  (List.range n).any (fun i => d.reg (Reg.FRM_x_TTI_RX x (first + i)) != d.reg (Reg.FRM_x_TTI_EXP x (first + i)))

/-- TIM and its cause (R190). -/
def Dev.timCheck (d : Dev) (x : Nat) : Dev :=
  let m := d.get (Fld.FRM_x_SM_CTL.TIM_MODE x)
  let tim := (m % 2 == 1 && d.ttiDiffers x 0 4) || (2 ≤ m && d.ttiDiffers x 4 4)
  (d.put (Fld.FRM_x_SM_STATUS.TIM x) (bit tim)).causeIs (fFRM x 2) (tim && d.frmRxOn x)

/-- The MSI a receive page implies: the flow of each slot in use. -/
def Dev.impliedMsi (d : Dev) (x : Nat) : List (Option Nat) :=
  (List.range (20 * d.nAct x)).map (fun t => d.tsiActive (2 * x) t)

/-- PLM, MSIM and their cause (R190), of values that have been accepted. -/
def Dev.plmCheck (d : Dev) (x : Nat) : Dev :=
  let plm := match d.frm.opuPt.find? (fun e => e.1 == x) with
    | some e => e.2 != 0x22
    | none => false
  let msim := match d.frm.opuMsi.find? (fun e => e.1 == x) with
    | some e => e.2 != d.impliedMsi x
    | none => false
  ((d.put (Fld.FRM_x_SM_STATUS.PLM x) (bit plm)).put (Fld.FRM_x_SM_STATUS.MSIM x) (bit msim)).causeIs (fFRM x 4)
    ((plm || msim) && d.frmRxOn x)

/-- The payload type that G.709 assigns to the mapping of flow f (R192). -/
def Dev.g709PtOf (d : Dev) (f : Nat) : BitVec 8 := Config.g709Pt (clientCode ((d.flowOf f).map (·.ctype) |>.getD 0x00F0))

/-- The payload type a flow expects: PT_EXP, or for 0x00 the one G.709 assigns. -/
def Dev.expectedPt (d : Dev) (f : Nat) : BitVec 8 :=
  let v := d.get (Fld.FRM_FLOW_CTL.PT_EXP f)
  if v = 0 then d.g709PtOf f else BitVec.ofNat 8 v

/-- PLM of flow f from its accepted payload type. -/
def Dev.flowPlm (d : Dev) (f : Nat) : Dev :=
  match d.frm.flowPt.find? (fun e => e.1 == f) with
  | some e => d.put (Fld.FRM_FLOW_STATUS.PLM f) (bit (e.2 != d.expectedPt f))
  | none => d.put (Fld.FRM_FLOW_STATUS.PLM f) 0

/-- An overhead value is accepted: what the accepted value changes (R190, Table 16, Table 19). -/
def Dev.ohApply (d : Dev) (i : OhItem) : Dev :=
  match i with
  | .smTti x bytes =>
    let same := (List.range 16).all (fun i => d.reg (Reg.FRM_x_TTI_RX x i) == BitVec.ofNat 32 (leAt bytes (4 * i) 4))
    let d := Dev.forUpTo 16 (fun d i => d.setReg (Reg.FRM_x_TTI_RX x i) (BitVec.ofNat 32 (leAt bytes (4 * i) 4))) d
    (if same then d else d.put (Fld.FRM_x_SM_STATUS.TTI_NEW x) 1).timCheck x
  | .smBdi x on => (d.put (Fld.FRM_x_SM_STATUS.BDI x) (bit on)).causeIs (fFRM x 3) (on && d.frmRxOn x)
  | .smIae x on => d.put (Fld.FRM_x_SM_STATUS.IAE x) (bit on)
  | .smBiae x on => d.put (Fld.FRM_x_SM_STATUS.BIAE x) (bit on)
  | .pmBdi x on => { d with frm := { d.frm with pmBdi := Sparse.insert x.val on d.frm.pmBdi } }
  | .pmStat x v => { d with frm := { d.frm with pmStat := Sparse.insert x.val v d.frm.pmStat } }
  | .opuPt x v => { d with frm := { d.frm with opuPt := Sparse.insert x.val v d.frm.opuPt } }.plmCheck x
  | .opuMsi x l => { d with frm := { d.frm with opuMsi := Sparse.insert x.val l d.frm.opuMsi } }.plmCheck x
  | .flowBdi f on => d.put (Fld.FRM_FLOW_STATUS.BDI f) (bit on)
  | .flowStat f v =>
    let s := d.reg (Reg.FRM_FLOW_STATUS f) &&& 0x000001C0
    let d := ((d.put (Fld.FRM_FLOW_STATUS.AIS f) (bit (v == 7))).put (Fld.FRM_FLOW_STATUS.LCK f) (bit (v == 5))).put
      (Fld.FRM_FLOW_STATUS.OCI f) (bit (v == 6))
    (if d.reg (Reg.FRM_FLOW_STATUS f) &&& 0x000001C0 = s then d else d.flowEvt f 3).flowCheck
  | .flowPt f v => ({ d with frm := { d.frm with flowPt := Sparse.insert f.val v d.frm.flowPt } }.flowPlm f).flowCheck

/-- An occurrence of an overhead value: it is accepted once the persistence of Table 5 is met (R188). -/
def Dev.ohAccept (i : OhItem) (d : Dev) : Dev :=
  if !d.ohInFrame i then d else
    let n := match d.frm.filters.find? (fun e => e.1 == ohKey i) with
      | some e => if e.2.1 = i then e.2.2 + 1 else 1
      | none => 1
    let d := { d with frm := { d.frm with filters := Sparse.insert (ohKey i) (i, n) d.frm.filters } }
    if ohPersistence i ≤ n then d.ohApply i else d

/-- Whether a frame with an MFAS carries the APS/PCC of the level APS_LEVEL of flow f (Table 5). -/
def Dev.apsFrame (d : Dev) (f : Nat) (mfas : BitVec 8) : Bool := decide (mfas.toNat % 8 = d.get (Fld.FRM_FLOW_CTL.APS_LEVEL f))

/-- A flow's APS/PCC bytes in a frame with an MFAS: an occurrence where the frame is one of the flow's level (R189). -/
def Dev.apsAccept (f : Fin 1280) (oh : ApsBytes) (d : Dev) : Dev :=
  if !d.ohInFrame (.flowBdi f false) || !d.apsFrame f oh.mfas then d else
    let v := oh.value
    let drop (d : Dev) : Dev := { d with frm := { d.frm with aps := Sparse.erase f d.frm.aps } }
    if v = d.reg (Reg.FRM_FLOW_APS_RX f) then drop d else
      let n := match d.frm.aps.find? (fun e => e.1 == f.val) with
        | some e => if e.2.cand = v then e.2.count + 1 else 1
        | none => 1
      if d.get (Fld.FRM_FLOW_CTL.APS_N f) ≤ n then
        ((((drop d).setReg (Reg.FRM_FLOW_APS_RX f) v).flowEvt f 0).setInt intFRM 4).raise 178
      else { d with frm := { d.frm with aps := Sparse.insert f { cand := v, count := n } d.frm.aps } }

/-- A frame with a bad Cm, or an IMP buffer past its limit (R195). -/
def Dev.mapErr (f : Nat) (d : Dev) : Dev :=
  if (d.flowOf f).isNone then d else
    let d := { d with frm := { d.frm with mapErrAt := Sparse.insert f d.ticks d.frm.mapErrAt } }
    (((d.incSat (Fld.FRM_FLOW_MAP_CNT.ERRORS f)).flowEvt f 2).raise 177)

/-! ### Slot interchange (R197 to R203) -/

/-- Bit s of a four-bit field. -/
def Dev.setBitOf (d : Dev) (f : Fld) (s : Nat) (on : Bool) : Dev := d.putBit f.addr (f.lo + s) on
/-- Whether a swap of set s is pending. -/
def Dev.swapPending (d : Dev) (s : Nat) : Bool := d.bitAt Reg.FRM_TSI_PAGE_STATUS s
/-- Whether a copy of set s runs. -/
def Dev.copyPending (d : Dev) (s : Nat) : Bool := d.bitAt Reg.FRM_TSI_PAGE_STATUS (4 + s)

/-- A write to a standby entry (R198). -/
def Dev.tsiSbyWrite (s t : Nat) (v : Word) (d : Dev) : Dev :=
  if d.swapPending s || d.copyPending s then (d.incSat Fld.FRM_CM_REFUSED.WRITES).raise 179
  else d.setReg (Reg.FRM_TSI_SBY s t) (v &&& 0x800007FF)

/-- A copy of the active page of set s to its standby page starts (R199). -/
def Dev.tsiCopy (s : Nat) (d : Dev) : Dev :=
  (d.setBit Reg.FRM_TSI_PAGE_CTL (8 + s)).setBit Reg.FRM_TSI_PAGE_STATUS (4 + s)

/-- Copy the active page of set s into its standby page. -/
def Dev.copyPage (d : Dev) (s : Nat) : Dev :=
  Dev.forUpTo 640 (fun d t => d.setReg (Reg.FRM_TSI_SBY s t) (d.reg (Reg.FRM_TSI_ACT s t))) d

/-- Cancel the copy of set s. -/
def Dev.endCopy (d : Dev) (s : Nat) : Dev :=
  (d.clrBit Reg.FRM_TSI_PAGE_CTL (8 + s)).clrBit Reg.FRM_TSI_PAGE_STATUS (4 + s)
/-- Cancel the swap of set s. -/
def Dev.endSwap (d : Dev) (s : Nat) : Dev := (d.clrBit Reg.FRM_TSI_PAGE_CTL s).clrBit Reg.FRM_TSI_PAGE_STATUS s

/-- A copy completes (R199). -/
def Dev.tsiCopyDone (s : Nat) (d : Dev) : Dev := if d.copyPending s then (d.copyPage s).endCopy s else d

/-- Whether the standby page of set s passes the check of R200. -/
def Dev.swapOk (d : Dev) (s : Nat) : Bool :=
  let x := s / 2
  let used := (List.range 640).filter (fun t => d.isSet (Fld.FRM_TSI_SBY.VALID s t))
  let flow (t : Nat) : Nat := d.get (Fld.FRM_TSI_SBY.FLOW s t)
  used.all (fun t => decide (t < 20 * d.nAct x) &&
    (match d.flowOf (flow t) with
     | some w => w.onPort x && decide (w.slots ≤ (used.filter (fun u => flow u == flow t)).length)
     | none => false))

/-- A swap is refused (R200). -/
def Dev.refuseSwap (d : Dev) (s : Nat) : Dev :=
  (((d.endSwap s).setBitOf Fld.FRM_TSI_PAGE_STATUS.REFUSED s true).setInt intFRM 1).raise 179

/-- A swap of set s is requested (R200). -/
def Dev.tsiSwap (s : Nat) (d : Dev) : Dev :=
  if d.swapPending s then d
  else if d.swapOk s then (d.setBit Reg.FRM_TSI_PAGE_CTL s).setBit Reg.FRM_TSI_PAGE_STATUS s
  else d.refuseSwap s

/-- The pages of set s exchange roles (R201). -/
def Dev.exchangePages (d : Dev) (s : Nat) : Dev :=
  let d := Dev.forUpTo 640 (fun d t =>
    let a := d.reg (Reg.FRM_TSI_ACT s t)
    (d.setReg (Reg.FRM_TSI_ACT s t) (d.reg (Reg.FRM_TSI_SBY s t))).setReg (Reg.FRM_TSI_SBY s t) a) d
  ((((d.endSwap s).setBitOf Fld.FRM_TSI_PAGE_STATUS.DONE s true).setBitOf Fld.FRM_TSI_PAGE_STATUS.ACTIVE s
    (!d.bitAt Reg.FRM_TSI_PAGE_STATUS (8 + s))).setInt intFRM 0)

/-- What follows new active pages: INCOMPLETE of the flows and MSIM (R190, R195). -/
def Dev.pagesChanged (d : Dev) : Dev := ((d.flowCheck).plmCheck 0).plmCheck 1

/-- At the multiframe boundary a pending swap takes effect (R201). -/
def Dev.tsiSwapApply (s : Nat) (d : Dev) : Dev := if d.swapPending s then (d.exchangePages s).pagesChanged else d

/-- At the end of a FRAMER commit every set is treated as though SWAP had been written; a set that fails gets an active page
with every entry invalid; then the active page is copied into the standby page (R202). -/
def Dev.tsiCommit (d : Dev) : Dev :=
  (Dev.forUpTo 4 (fun d s =>
    let d := (d.endSwap s).endCopy s
    let d := if d.swapOk s then d.exchangePages s
      else Dev.forUpTo 640 (fun d t => d.setReg (Reg.FRM_TSI_ACT s t) 0) (d.refuseSwap s)
    d.copyPage s) d).pagesChanged

/-! ### The frame boundary (R175, R178, R179, R210) -/

/-- The port whose frame boundary a register of FRM follows; none for a register that is not shadowed. -/
def Dev.frmKeyPort (d : Dev) (a : Nat) : Option Nat :=
  let o := keyAddr a % 0x100000
  if keyBlock a ≠ 5 then none
  else if 0x1000 ≤ o ∧ o < 0x3000 then some (o / 0x1000 - 1)
  else if 0x40000 ≤ o then some (d.flowPort ((o - 0x40000) / 0x40))
  else none

/-- The framer of port x stands in OOF with nothing searched; where it does not work it reports no fault (R179). -/
def Dev.framerReset (d : Dev) (x : Fin 2) : Dev :=
  let a := d.aligner (.port x)
  d.setAligner (.port x) (if d.frmRxOn x then a.lost else { barred := a.barred })

/-- The causes of SM_TIM, SM_BDI and PLM_MSIM of port x: present with their status while the receive framer works (R179, R190, R209). -/
def Dev.smCauses (d : Dev) (x : Nat) : Dev :=
  ((d.timCheck x).plmCheck x).causeIs (fFRM x 3) (d.isSet (Fld.FRM_x_SM_STATUS.BDI x) && d.frmRxOn x)

/-- Every flow that port x carries loses its alignment with the port's framer switched off or restarted; its registers and events follow. -/
def Dev.flowsReset (d : Dev) (x : Fin 2) : Dev :=
  d.flows.foldl (fun d w => if h : w.flow < 1280 then
    (if w.onPort x then d.setAligner (.flow ⟨w.flow, h⟩ x) { barred := (d.aligner (.flow ⟨w.flow, h⟩ x)).barred } else d) else d) d

/-- What follows the active copies of the FRM fields of port x, and n and RX_EN as they were before. -/
def Dev.frmApply (x : Fin 2) (d : Dev) : Dev :=
  let n := d.otuN x
  let was := d.frmRxOn x
  let changed := decide (n ≠ d.nAct x)
  let d := d.put (Fld.FRM_x_OTU_STATUS.N_ACT x) n
  let d := if changed then
      { d with frm := { d.frm with txMfas := Sparse.put 0 d.frm.txMfas x.val 0, txOmfi := Sparse.put 0 d.frm.txOmfi x.val 0 } }
    else d
  let d := if changed || was != d.frmRxOn x || !d.frmRxOn x then (d.framerReset x).flowsReset x else d
  let d := d.flows.foldl (fun d w => if d.flowPort w.flow = x.val then d.flowPlm w.flow else d) d
  (d.smCauses x).flowCheck

/-- The transmit framer of port x, where it works, begins a frame: MFAS and OMFI count on, or stand at 0 where n has changed (R178, R191). -/
def Dev.txFrame (d : Dev) (x : Fin 2) (fresh : Bool) : Dev :=
  if !d.frmTxOn x then d else
    let next (l : List (Nat × Nat)) (m : Nat) : List (Nat × Nat) :=
      Sparse.put 0 l x.val (if fresh then 0 else (Sparse.get 0 l x.val + 1) % m)
    let d := { d with frm := { d.frm with txMfas := next d.frm.txMfas 256, txOmfi := next d.frm.txOmfi 20 } }
    d.otuFrameStart x true (Sparse.get 0 d.frm.txMfas x.val)

/-- An OTUCn frame of port x begins: pending fields become active together, then n and what follows it, then the transmitted frame. -/
def Dev.frmBoundary (x : Fin 2) (d : Dev) : Dev :=
  let was := d.frmRxOn x
  let d1 := if d.held? 5 then d else d.copyShadow (fun a => d.frmKeyPort a == some x.val)
  let d1 := if was && !d1.frmRxOn x then (d1.framerReset x).flowsReset x else d1
  let fresh := decide (d1.otuN x ≠ d1.nAct x)
  (d1.frmApply x).txFrame x fresh

/-! ### Maintenance signals and consequent actions (R205 to R208): what the framer sends, read off the state -/

/-- What a flow carries: its own content or a maintenance signal (Table 7). -/
inductive OduSignal where
  | content | ais | lck | oci
  deriving DecidableEq, Repr

/-- Whether a port is in a condition of Table 8 that stops every flow of it, or its receive framer is off (R179). -/
def Dev.portAis (d : Dev) (x : Fin 2) : Bool :=
  let a := d.aligner (.port x)
  !d.frmRxOn x || a.lof || a.lom || (d.feeds 2 (0x500 + x.val) noInst).isNone ||
    (d.isSet (Fld.FRM_x_SM_STATUS.TIM x) && d.isSet (Fld.FRM_x_SM_CTL.TIM_ACT x)) || d.isSet (Fld.FRM_x_SM_STATUS.PLM x)

/-- Whether ODUCn-AIS is received on port x: its accepted ODUCn PM STAT is AIS (Table 7). -/
def Dev.oducnAis (d : Dev) (x : Nat) : Bool := d.frm.pmStat.any (fun e => e.1 == x && e.2 == 7)

/-- Whether the consequent actions of Table 8 apply to flow f on port x for the flow's own sake. -/
def Dev.flowFails (d : Dev) (f : Fin 1280) (x : Fin 2) : Bool :=
  let a := d.aligner (.flow f x)
  a.lof || a.lom || (match d.flowOf f with | some w => d.rxShort w x || d.incompleteOn w x | none => true)

/-- What flow f delivers to its ODU-level sinks from port x (Table 8): a consequent action before the content received. -/
def Dev.flowDelivers (d : Dev) (f : Fin 1280) (x : Fin 2) : OduSignal :=
  if d.portAis x || d.oducnAis x || d.flowFails f x then .ais
  else if d.isSet (Fld.FRM_FLOW_STATUS.AIS f) then .ais
  else if d.isSet (Fld.FRM_FLOW_STATUS.LCK f) then .lck
  else if d.isSet (Fld.FRM_FLOW_STATUS.OCI f) then .oci
  else .content

/-- The source of what flow f sends on port x: that of FRM.ODU_TX, of a protected flow MRG.DUP_W on port A and MRG.DUP_P on port B (R235),
unless a record gives DUP_P to Horug (R236). -/
def Dev.sendsFrom (d : Dev) (f : Fin 1280) (x : Fin 2) : Option (Nat × Nat) :=
  match d.feeds 3 0x505 f.val with
  | some (0x704, i) =>
    if x = 0 then some (0x704, i)
    else if d.connections.any (fun c => c.src == 0x705 && c.srcInst == f.val) then none else some (0x705, i)
  | o => o

/-- What flow f is sent as on port x (R195, R208): FORCE first, then ODU-AIS of an INCOMPLETE flow, then an unconnected sink's ODU-OCI. -/
def Dev.flowSent (d : Dev) (f : Fin 1280) (x : Fin 2) : OduSignal :=
  match d.get (Fld.FRM_FLOW_CTL.FORCE f) with
  | 1 => .ais
  | 2 => .lck
  | 3 => .oci
  | _ => if (match d.flowOf f with | some w => d.incompleteOn w x | none => true) then .ais
    else if (d.sendsFrom f x).isNone then .oci else .content

/-- Whether port x sends SM BDI (Table 8). -/
def Dev.sendsSmBdi (d : Dev) (x : Fin 2) : Bool := d.isSet (Fld.FRM_x_SM_CTL.BDI_EN x) && d.frmRxOn x && d.portAis x

/-- Whether flow f is sent with PM BDI (Table 8). -/
def Dev.sendsPmBdi (d : Dev) (f : Fin 1280) (x : Fin 2) : Bool :=
  d.flowFails f x || d.isSet (Fld.FRM_FLOW_STATUS.AIS f) ||
    d.isSet (Fld.FRM_FLOW_STATUS.LCK f) || d.isSet (Fld.FRM_FLOW_STATUS.OCI f)

/-- The payload type sent for flow f: PT_TX, or for 0x00 the one G.709 assigns (Table 19). -/
def Dev.sentPt (d : Dev) (f : Nat) : BitVec 8 :=
  let v := d.get (Fld.FRM_FLOW_CTL.PT_TX f)
  if v = 0 then d.g709PtOf f else BitVec.ofNat 8 v

/-! ### Meanings -/

/-- FAS_MATCH (R181). -/
def execFasMatch (unit : AlignUnit) (offset : Nat) (head : List Byte) (errs : FrameErrs) :=
  runDev (Dev.fasMatch unit offset head errs)
/-- FAS_MISS (R181). -/
def execFasMiss (unit : AlignUnit) (seen : FrameSeen) := runDev (Dev.fasMiss unit seen)
/-- MF_CHECK_FRAME (R182). -/
def execMfCheckFrame (unit : AlignUnit) (head : List Byte) := runDev (Dev.mfCheckFrame unit head)
/-- REVOKE (R183). -/
def execRevoke (unit : AlignUnit) := runDev (Dev.revoke unit)
/-- BAR_EXPIRY (R183). -/
def execBarExpiry (unit : AlignUnit) (offset : Nat) := runDev (Dev.barExpiry unit offset)
/-- OOF (R184). -/
def execOof (unit : AlignUnit) := runDev (Dev.outOfFrame unit)
/-- OOM_SET (R184). -/
def execOomSet (unit : AlignUnit) := runDev (Dev.oomSet unit)
/-- OOM_CLEAR (R184). -/
def execOomClear (unit : AlignUnit) := runDev (Dev.oomClear unit)
/-- LOF_CHANGE (R185). -/
def execLofChange (unit : AlignUnit) := runDev (Dev.lofChange unit)
/-- LOM_CHANGE (R185). -/
def execLomChange (unit : AlignUnit) := runDev (Dev.lomChange unit)
/-- OH_ACCEPT (R188). -/
def execOhAccept (item : OhItem) := runDev (Dev.ohAccept item)
/-- APS_ACCEPT (R189). -/
def execApsAccept (f : Fin 1280) (oh : ApsBytes) := runDev (Dev.apsAccept f oh)
/-- MAP_ERR (R195). -/
def execMapErr (f : Fin 1280) := runDev (Dev.mapErr f)
/-- TSI_SBY_WRITE (R198). -/
def execTsiSbyWrite (req : Requester) (set : Fin 4) (slot : Fin 640) (value : Word) :=
  runWrite req 5 (Dev.tsiSbyWrite set slot value)
/-- TSI_COPY (R199). -/
def execTsiCopy (req : Requester) (set : Fin 4) := runWrite req 5 (Dev.tsiCopy set)
/-- TSI_COPY_DONE (R199). -/
def execTsiCopyDone (set : Fin 4) := runDev (Dev.tsiCopyDone set)
/-- TSI_SWAP (R200). -/
def execTsiSwap (req : Requester) (set : Fin 4) := runWrite req 5 (Dev.tsiSwap set)
/-- TSI_SWAP_APPLY (R201). -/
def execTsiSwapApply (set : Fin 4) := runDev (Dev.tsiSwapApply set)

end Sys2Proof.Machine
end

