-- ==== Sys2Proof/Machine/Crypto.lean ====
section
/-! DEFINITION. Block CRY: key slots, encryption and decryption of flows, randomness (07_payload_encryption.md). Memory-to-memory
jobs stand in Machine/CryptoJobs.lean. -/

namespace Sys2Proof.Machine

/-- The flows declared with ENCRYPT = 1, in ascending flow id (R215). -/
def Dev.encFlows (d : Dev) : List Nat :=
  (List.range 1280).filter (fun f => match d.flowOf f with | some w => w.encrypt | none => false)

/-- The number e of flow f, none for a flow that does not encrypt. -/
def Dev.eIndex (d : Dev) (f : Nat) : Option Nat := if f ∈ d.encFlows then some (d.encFlows.idxOf f) else none

/-- State of slot s: 0 EMPTY, 1 READY, 2 EXHAUSTED. -/
def Dev.slotState (d : Dev) (s : Nat) : Nat := d.get (Fld.CRY_KS_STATE.STATE s)
/-- Whether slot s is active (R216). -/
def Dev.slotActive (d : Dev) (s : Nat) : Bool := d.isSet (Fld.CRY_KS_STATE.TX_ACT s) || d.isSet (Fld.CRY_KS_STATE.RX_ACT s)
/-- The key, salt and replay state of slot s. -/
def Dev.keySlot (d : Dev) (s : Nat) : KeySlot := Sparse.get {} d.cry.slots s
/-- Replace the key, salt and replay state of slot s. -/
def Dev.setKeySlot (d : Dev) (s : Nat) (k : KeySlot) : Dev := { d with cry := { d.cry with slots := Sparse.put {} d.cry.slots s k } }
/-- COUNT of slot s. -/
def Dev.slotCount (d : Dev) (s : Nat) : Nat := d.reg64 (Reg.CRY_KS_CNT_LO s)
/-- Flow f in CRY. -/
def Dev.cryFlow (d : Dev) (f : Nat) : CryFlow := Sparse.get {} d.cry.flows f
/-- Replace flow f in CRY. -/
def Dev.setCryFlow (d : Dev) (f : Nat) (v : CryFlow) : Dev := { d with cry := { d.cry with flows := Sparse.put {} d.cry.flows f v } }

/-- Causes that depend on slots and flows: TX_LCK, RX_LCK, COUNT_WARN, EXHAUSTED (R233). -/
def Dev.cryCauses (d : Dev) : Dev :=
  let anyFlow (p : Nat → Fld) : Bool := d.encFlows.any (fun f => d.isSet (p f))
  let anySlot (p : Nat → Bool) : Bool := (List.range 512).any p
  (((d.causeIs 197 (anyFlow Fld.CRY_FLOW_STATUS.TX_LCK)).causeIs 198 (anyFlow Fld.CRY_FLOW_STATUS.RX_LCK)).causeIs 199
    (anySlot (fun s => d.isSet (Fld.CRY_KS_STATE.WARN s)))).causeIs 200 (anySlot (fun s => d.slotState s == 2))

/-! ### Cores and randomness (R226, R228) -/

/-- A value below n from the DRBG: salts and masks are its only uses (R228). The DRBG, while healthy, reseeds with the request that is its
2^24th since the last reseed, or that comes a second after it; stopped, each core has a generator of its own (R229). -/
def Dev.drbgTake (d : Dev) (n : Nat) : Nat × Dev :=
  let due := d.isSet Fld.CRY_STATUS.DRBG_OK && (decide (2 ^ 24 ≤ d.cry.requests + 1) || decide (d.cry.seeded + 1120000000 ≤ d.ticks))
  let d := if due then { d with cry := { d.cry with requests := 0, seeded := d.ticks } }
    else { d with cry := { d.cry with requests := d.cry.requests + 1 } }
  d.draw n

/-- Core ticks of a block of n plaintext bytes (R226, Table 4). -/
def coreTicks (n : Nat) : Nat := (n + 31) / 32 + 24

/-- The ticks at which cores in use come free, latest first. -/
def Dev.coreStops (d : Dev) : List Nat :=
  (((d.cry.uses.map (·.stop)).filter (fun t => decide (d.ticks < t))).mergeSort (fun a b => decide (b ≤ a)))

/-- Whether one of the 48 cores is free. -/
def Dev.coreFree (d : Dev) : Bool := decide (d.coreStops.length < 48)

/-- A core takes work of some ticks under a key: at once, or a line block when the first core comes free (R226). The key is copied in as two
shares under 512 fresh mask bits (R228). Uses that ended more than 1 ms ago are forgotten. -/
def Dev.takeCore (d : Dev) (job : Bool) (ticks : Nat) (key : List Byte) : Dev :=
  let start := d.coreStops.getD 47 d.ticks
  let (m, d) := d.drbgTake (2 ^ 512)
  let mask := (beBytes 64 m).take key.length
  { d with cry := { d.cry with uses := d.cry.uses.filter (fun u => decide (d.ticks < u.stop + 1120000)) ++
      [{ start := start, stop := start + ticks, job := job, share0 := List.zipWith (· ^^^ ·) key mask, share1 := mask }] } }

/-- Cores that process now, 0 to 48 (Table 10). -/
def Dev.coresBusy (d : Dev) : Nat :=
  min 48 (d.cry.uses.filter (fun u => decide (u.start ≤ d.ticks) && decide (d.ticks < u.stop))).length

/-- Core capacity used by jobs, or by line blocks, over the last millisecond, in 0.1 % units (Table 10). -/
def Dev.coreUtil (d : Dev) (job : Bool) : Nat :=
  let from_ := d.ticks - 1120000
  let used := (d.cry.uses.filter (fun u => u.job == job)).foldl (fun n u => n + (min u.stop d.ticks - max u.start from_)) 0
  min 1000 (used * 1000 / (48 * 1120000))

/-- Change the state of a slot; a change sets KEY_STATE. -/
def Dev.setSlotState (d : Dev) (s st : Nat) : Dev :=
  if d.slotState s = st then d else (d.put (Fld.CRY_KS_STATE.STATE s) st).setInt intCRY 0

/-- Overwrite a slot and set it EMPTY (R219, R225). -/
def Dev.wipeSlot (d : Dev) (s : Nat) : Dev :=
  let d := (d.setKeySlot s {}).setReg64 (Reg.CRY_KS_CNT_LO s) 0
  let d := (((d.put (Fld.CRY_KS_STATE.TX_ACT s) 0).put (Fld.CRY_KS_STATE.RX_ACT s) 0).put (Fld.CRY_KS_STATE.WARN s) 0).put
    (Fld.CRY_KS_STATE.ROLE s) 0
  d.setSlotState s 0

/-- The flow that owns slot s. -/
def Dev.slotOwner (d : Dev) (s : Nat) : Option Nat := d.encFlows[s / 2]?

/-- KEY_LOAD of a slot with a role and a wrapped key under the key-encryption key (R217): the reply code, and the slot changed
in one step on OK. -/
def Dev.keyLoad (d : Dev) (kek : Option (List Byte)) (slot : Nat) (role : Bool) (wrapped : List Byte) : Nat × Dev :=
  if 511 < slot then (3, d)
  else if d.slotActive slot || d.restructuring 3 then (1, d.raise 204)
  else if !d.isSet Fld.CRY_STATUS.DRBG_OK then (10, d)
  else match kek.bind (fun k => Config.keyUnwrap k wrapped) with
    | none => (11, d)
    | some key =>
      let (salt, d) := d.drbgTake (2 ^ 32)
      let d := (d.setKeySlot slot { key := key, salt := BitVec.ofNat 32 salt, lastCount := none }).setReg64
        (Reg.CRY_KS_CNT_LO slot) 0
      let d := (d.put (Fld.CRY_KS_STATE.ROLE slot) (bit role)).put (Fld.CRY_KS_STATE.WARN slot) 0
      (0, (d.setSlotState slot 1).cryCauses)

/-- KEY_ERASE of a slot from 0 to 511 (R219): a flow that used it sends, or outputs, ODU-LCK from its next block. -/
def Dev.keyErase (d : Dev) (slot : Nat) : Dev :=
  let rx := d.isSet (Fld.CRY_KS_STATE.RX_ACT slot)
  let tx := d.isSet (Fld.CRY_KS_STATE.TX_ACT slot)
  let d := d.wipeSlot slot
  let d := match d.slotOwner slot with
    | some f =>
      let d := if rx then (d.setCryFlow f { d.cryFlow f with erased := some slot }).put (Fld.CRY_FLOW_STATUS.RX_LCK f) 1 else d
      if tx then d.put (Fld.CRY_FLOW_STATUS.TX_SLOT f) 2 else d
    | none => d
  d.cryCauses

/-! ### Transmit (R211 to R214, R220 to R222) -/

/-- The byte that an ODU maintenance signal repeats (Table 7 of 06_otn_framing_and_tsi.md). -/
def OduSignal.fill : OduSignal → Byte
  | .lck => 0x55
  | .oci => 0x66
  | _ => 0xFF

/-- STAT of an ODU signal: of a maintenance signal the low bits of its fill. -/
def OduSignal.stat : OduSignal → BitVec 3
  | .content => 1
  | .ais => 7
  | .lck => 5
  | .oci => 6

/-- Whether a frame's STAT is AIS, LCK or OCI. -/
def odMaint (w : OduFrame) : Bool := w.stat == 7 || w.stat == 5 || w.stat == 6

/-- Payload bytes of a frame of an encrypted flow (R211). -/
def framePayload : Nat := 15184

/-- A frame of a maintenance signal: its fill everywhere but in the FA OH (R205). -/
def maintenanceFrame (s : OduSignal) : OduFrame :=
  { stat := s.stat, overhead := List.replicate 48 s.fill, payload := List.replicate framePayload s.fill, oh := List.replicate 42 s.fill }

/-- What a path gives out for pieces of a stream, each with its number of frames: one piece as it is, several frame by frame. -/
def joinOut (l : List (CryOut × Nat)) : CryOut :=
  match l with
  | [p] => p.1
  | l => .frames (l.flatMap (fun p => match p.1 with
    | .frames w => w
    | .ais => List.replicate p.2 (maintenanceFrame .ais)
    | .lck => List.replicate p.2 (maintenanceFrame .lck)))

/-- Bytes 4 to 19 of the overhead of a frame (Table 1): VER, CB, KI, 0, BC, SALT. -/
def cryHeader (size pos ki bc : Nat) (salt : BitVec 32) : List Byte :=
  [1, BitVec.ofNat 8 (size * 64 + pos * 8 + ki / 256), BitVec.ofNat 8 ki, 0] ++ beBytes 8 bc ++ beBytes 4 salt.toNat

/-- The IV of a block: SALT, then BC (R213). -/
def cryIv (bc : Nat) (salt : BitVec 32) : List Byte := beBytes 4 salt.toNat ++ beBytes 8 bc

/-- BC of a role and a COUNT (Table 1). -/
def blockCounter (role : Bool) (count : Nat) : Nat := bit role * 2 ^ 63 + count

/-- The overhead of a frame with its encryption fields: bytes 0 to 3 are those of the merge. -/
def withHeader (oh : List Byte) (header tagp : List Byte) : List Byte :=
  sliceBytes oh 0 4 ++ header ++ tagp ++ List.replicate 12 0

/-- The slot a flow transmits a new block with (R221), and whether SEL_REFUSED fires. -/
def Dev.chooseSlot (d : Dev) (f e : Nat) : Option Nat × Bool :=
  let sel := 2 * e + d.get (Fld.CRY_FLOW_CTL.TX_SEL f)
  let prev := d.get (Fld.CRY_FLOW_STATUS.TX_SLOT f)
  if d.slotState sel = 1 then (some sel, false)
  else if prev ≤ 1 ∧ d.slotState (2 * e + prev) = 1 then (some (2 * e + prev), (d.cryFlow f).selFresh)
  else (none, false)

/-- A slot gives its COUNT to a block (R222): WARN at 2^47, EXHAUSTED at 2^48. -/
def Dev.takeCount (d : Dev) (s : Nat) : Nat × Dev :=
  let c := d.slotCount s
  let d := d.setReg64 (Reg.CRY_KS_CNT_LO s) (c + 1)
  let d := if 2 ^ 47 ≤ c + 1 then d.put (Fld.CRY_KS_STATE.WARN s) 1 else d
  (c, if 2 ^ 48 ≤ c + 1 then (d.setSlotState s 2).put (Fld.CRY_KS_STATE.TX_ACT s) 0 else d)

/-- TX_SLOT and TX_ACT of flow f follow the slot in use; a change sets SEL_DONE. -/
def Dev.useTxSlot (d : Dev) (f e : Nat) (s : Option Nat) : Dev :=
  let old := d.get (Fld.CRY_FLOW_STATUS.TX_SLOT f)
  let new := match s with | some t => t - 2 * e | none => 2
  let d := (d.put (Fld.CRY_KS_STATE.TX_ACT (2 * e)) (bit (s == some (2 * e)))).put (Fld.CRY_KS_STATE.TX_ACT (2 * e + 1))
    (bit (s == some (2 * e + 1)))
  let d := d.put (Fld.CRY_FLOW_STATUS.TX_SLOT f) new
  if old = new ∨ new = 2 then d else d.setInt intCRY 2

/-- A block of flow f under slot s: its frames and its tag (R212, R213). -/
def Dev.encryptBlock (d : Dev) (f s count : Nat) (frames : List OduFrame) : List OduFrame × List Byte :=
  let k := d.keySlot s
  let size := d.get (Fld.CRY_FLOW_CTL.SIZE f)
  let bc := blockCounter (d.isSet (Fld.CRY_KS_STATE.ROLE s)) count
  let iv := cryIv bc k.salt
  let cipher := Config.gcmCrypt k.key iv (frames.flatMap (fun w => sliceBytes w.payload 0 framePayload))
  let tagp (pos : Nat) : List Byte := if pos = 0 then sliceBytes ((d.cryFlow f).tagPrev.getD []) 0 16 else List.replicate 16 0
  (frames.zipIdx.map (fun e => { e.1 with
      overhead := withHeader e.1.overhead (cryHeader size e.2 s bc k.salt) (tagp e.2),
      payload := sliceBytes cipher (framePayload * e.2) framePayload }),
   Config.gcmTag k.key iv (cryHeader size 0 s bc k.salt) cipher)

/-- Frames of a block of flow f, at whose boundary the transmitter chooses its slot (R221): they are encrypted under it, or ODU-LCK replaces
them. A block that is not whole has been interrupted: it is abandoned and keeps its COUNT, and its tag is never sent (R214). -/
def Dev.cryTxBlock (d : Dev) (f e : Nat) (frames : List OduFrame) (whole : Bool) : Dev × CryOut :=
  let (slot, refused) := d.chooseSlot f e
  let d := if refused then d.raise 201 else d
  let d := d.useTxSlot f e slot
  let give (d : Dev) (tag : Option (List Byte)) (lck : Nat) : Dev :=
    ((d.setCryFlow f { d.cryFlow f with tagPrev := tag, selFresh := false }).put (Fld.CRY_FLOW_STATUS.TX_LCK f) lck).cryCauses
  match slot with
  | none => (give d none 1, .lck)
  | some s =>
    let d := d.takeCore false (coreTicks (framePayload * 2 ^ d.get (Fld.CRY_FLOW_CTL.SIZE f))) (d.keySlot s).key
    let (count, d) := d.takeCount s
    let r := d.encryptBlock f s count frames
    (give d (if whole then some r.2 else none) 0, .frames r.1)

/-- The frames of flow f from a block boundary on, piece by piece (R214): maintenance frames pass unchanged and abandon the block before them;
the others form blocks of n frames. -/
def Dev.cryTxRun (f e n : Nat) : Nat → List OduFrame → Dev → List (CryOut × Nat) → Dev × List (CryOut × Nat)
  | 0, _, d, out => (d, out)
  | fuel + 1, frames, d, out =>
    let m := frames.takeWhile odMaint
    if !m.isEmpty then
      Dev.cryTxRun f e n fuel (frames.drop m.length) (d.setCryFlow f { d.cryFlow f with tagPrev := none }) (out ++ [(.frames m, m.length)])
    else
      let block := (frames.takeWhile (fun w => !odMaint w)).take n
      if block.isEmpty then (d, out) else
        let r := d.cryTxBlock f e block (decide (block.length = n))
        Dev.cryTxRun f e n fuel (frames.drop block.length) r.1 (out ++ [(r.2, block.length)])

/-- A block boundary of flow f and the frames up to another: the transmitter encrypts blocks of F frames, where F is 2^SIZE (R211, R221).
Frames that end within a block do not reach a boundary. -/
def Dev.cryptoBlockTx (f : Nat) (frames : List OduFrame) (d : Dev) : Dev :=
  match d.eIndex f with
  | none => d
  | some e =>
    let n := 2 ^ d.get (Fld.CRY_FLOW_CTL.SIZE f)
    if !d.regionRuns 3 || frames.isEmpty || (frames.reverse.takeWhile (fun w => !odMaint w)).length % n ≠ 0 then d else
      let r := Dev.cryTxRun f e n frames.length frames d []
      r.1.setCryFlow f { r.1.cryFlow f with txOut := joinOut r.2 }

/-! ### Receive (R223, R224) -/

/-- The KI the far end uses for this end's slot A: as written, or 2e (R223). -/
def Dev.rxKiBase (d : Dev) (f e : Nat) : Nat :=
  if f ∈ d.cry.kiWritten then d.get (Fld.CRY_FLOW_CTL.RX_KI_BASE f) else 2 * e

/-- Byte b of a frame's device overhead as a number. -/
def odAt (w : OduFrame) (b : Nat) : Nat := (w.overhead.getD b 0).toNat
/-- SIZE, POS, KI, BC and SALT of a frame. -/
def odSize (w : OduFrame) : Nat := odAt w 5 / 64
/-- POS of a frame. -/
def odPos (w : OduFrame) : Nat := odAt w 5 / 8 % 8
/-- KI of a frame. -/
def odKi (w : OduFrame) : Nat := odAt w 5 % 2 * 256 + odAt w 6
/-- BC of a frame. -/
def odBc (w : OduFrame) : Nat := beNat (sliceBytes w.overhead 8 8)

/-- Check 1 of Table 3. -/
def headerOk (frames : List OduFrame) : Bool :=
  match frames with
  | [] => false
  | w :: _ => decide (frames.length = 2 ^ odSize w) && decide (odBc w / 2 ^ 48 % 2 ^ 15 = 0) &&
      frames.zipIdx.all (fun e => odAt e.1 4 == 1 && odSize e.1 == odSize w && odPos e.1 == e.2 && odKi e.1 == odKi w &&
        odBc e.1 == odBc w && sliceBytes e.1.overhead 16 4 == sliceBytes w.overhead 16 4)

/-- Why a block is rejected (Table 3). -/
inductive CryReject where
  | hdr | ki | role | replay | auth
  deriving DecidableEq, Repr

/-- The checks of Table 3 in order: the slot and the plaintext of an accepted block, or the first failure, with the slot and the
unverified plaintext where there is a slot. -/
def Dev.cryCheck (d : Dev) (f e : Nat) (frames : List OduFrame) (following : OduFrame) :
    Option CryReject × Option Nat × List Byte :=
  match frames with
  | [] => (some .hdr, none, [])
  | w :: _ =>
    if !headerOk frames then (some .hdr, none, []) else
      let base := d.rxKiBase f e
      let s := 2 * e + (odKi w - base)
      if odKi w < base ∨ base + 1 < odKi w ∨ d.slotState s = 0 then (some .ki, none, []) else
        let k := d.keySlot s
        let cipher := frames.flatMap (fun w => sliceBytes w.payload 0 framePayload)
        let iv := sliceBytes w.overhead 16 4 ++ sliceBytes w.overhead 8 8
        let plain := Config.gcmCrypt k.key iv cipher
        let count := odBc w % 2 ^ 48
        if d.isSet (Fld.CRY_FLOW_CTL.ROLE_CHK f) && (decide (odBc w / 2 ^ 63 = 1) == d.isSet (Fld.CRY_KS_STATE.ROLE s)) then
          (some .role, some s, plain)
        else if (match k.lastCount with | some c => decide (count ≤ c) | none => false) then (some .replay, some s, plain)
        else if sliceBytes (Config.gcmTag k.key iv (sliceBytes w.overhead 4 16) cipher) 0 16 = sliceBytes following.overhead 20 16 then
          (none, some s, plain)
        else (some .auth, some s, plain)

/-- Count and report a rejection (Table 3). -/
def Dev.cryRejected (d : Dev) (f : Nat) (r : CryReject) : Dev :=
  (match r with
   | .hdr => (d.incSat (Fld.CRY_FLOW_REJ_CNT.HDR f)).raise 196
   | .ki => (d.incSat (Fld.CRY_FLOW_REJ_CNT.KI f)).raise 193
   | .role => (d.incSat (Fld.CRY_FLOW_REJ_CNT.ROLE f)).raise 195
   | .replay => (d.incSat (Fld.CRY_FLOW_REJ_CNT.REPLAY f)).raise 194
   | .auth => (d.incSat (Fld.CRY_FLOW_AUTH_CNT.BLOCKS f)).raise 192).setInt intCRY 1

/-- The frames of a block with a payload in place of theirs. -/
def withPayload (frames : List OduFrame) (plain : List Byte) : CryOut :=
  .frames (frames.zipIdx.map (fun e => { e.1 with payload := sliceBytes plain (framePayload * e.2) framePayload }))

/-- Whether a maintenance signal of flow f has been accepted (R188): where the framer receives the flow, as FLOW_STATUS shows; a flow from
Horug has no filter and its STAT counts as it comes. -/
def Dev.maintAccepted (d : Dev) (f : Nat) : Bool :=
  match d.feeds 3 0x600 f with
  | some (0xE00, _) => true
  | _ => d.isSet (Fld.FRM_FLOW_STATUS.AIS f) || d.isSet (Fld.FRM_FLOW_STATUS.LCK f) || d.isSet (Fld.FRM_FLOW_STATUS.OCI f)

/-- Frames of an interrupted block (R214): those of a maintenance signal pass unchanged once it is accepted, ODU-AIS replaces the others. -/
def Dev.rxInterrupted (d : Dev) (f : Nat) (frames : List OduFrame) : CryOut :=
  if d.maintAccepted f && frames.all odMaint then .frames frames
  else if d.maintAccepted f && frames.any odMaint then
    .frames (frames.map (fun w => if odMaint w then w else maintenanceFrame .ais))
  else .ais

/-- A complete received block of flow f, with the frame that follows it (R223, R224). Frames of a maintenance signal abandon the block they
interrupt and the one before, and no error counts for it (R214). -/
def Dev.cryptoBlockRx (f : Nat) (frames : List OduFrame) (following : OduFrame) (d : Dev) : Dev :=
  match d.eIndex f with
  | none => d
  | some e =>
    if !d.regionRuns 3 then d else
    let give (d : Dev) (o : CryOut) : Dev := d.setCryFlow f { d.cryFlow f with rxOut := o }
    let locked := d.isSet (Fld.CRY_FLOW_STATUS.RX_LCK f)
    if frames.any odMaint || odMaint following then give d (d.rxInterrupted f frames)
    else
      let d := d.setCryFlow f { d.cryFlow f with rxSize := frames.head?.map odSize }
      let d := match (d.cryCheck f e frames following).2.1 with
        | some s => d.takeCore false (coreTicks (framePayload * frames.length)) (d.keySlot s).key
        | none => d
      match d.cryCheck f e frames following with
      | (none, some s, plain) =>
        let w := frames.head?.getD following
        let d := d.setKeySlot s { d.keySlot s with lastCount := some (odBc w % 2 ^ 48) }
        let d := (d.put (Fld.CRY_KS_STATE.RX_ACT (2 * e)) (bit (s == 2 * e))).put (Fld.CRY_KS_STATE.RX_ACT (2 * e + 1))
          (bit (s == 2 * e + 1))
        let d := d.put (Fld.CRY_FLOW_STATUS.RX_SLOT f) (s - 2 * e)
        if locked ∧ (d.cryFlow f).erased = some s then (give d .lck).cryCauses
        else
          let d := (d.put (Fld.CRY_FLOW_STATUS.RX_LCK f) 0).setCryFlow f { d.cryFlow f with erased := none }
          (give d (withPayload frames plain)).cryCauses
      | (some r, _, plain) =>
        let d := d.cryRejected f r
        let unverified := d.isSet (Fld.CRY_FLOW_CTL.FAIL_ACT f) && decide (r ≠ .hdr) && decide (r ≠ .ki)
        give d (if locked then .lck else if unverified then withPayload frames plain else .ais)
      | (none, none, _) => d

/-- A line block misses its deadline (R226). -/
def Dev.cryptoLate (f : Nat) (tx : Bool) (d : Dev) : Dev :=
  if (d.eIndex f).isNone || !d.regionRuns 3 then d else
    let v := d.cryFlow f
    (d.setCryFlow f (if tx then { v with txOut := .ais, tagPrev := none } else { v with rxOut := .ais })).raise 205

/-! ### Structure, boundaries and randomness (R225, R228, R229) -/

/-- The flow a CRY register belongs to. -/
def cryKeyFlow (a : Nat) : Option Nat :=
  let o := keyAddr a % 0x100000
  if keyBlock a = 6 ∧ 0x40000 ≤ o then some ((o - 0x40000) / 0x20) else none

/-- RX_KI_BASE of flow f has been given a value: its default of 2e ends (R223). -/
def Dev.kiKnown (d : Dev) (f : Nat) : Dev :=
  if f ∈ d.cry.kiWritten then d else { d with cry := { d.cry with kiWritten := d.cry.kiWritten ++ [f] } }

/-- A crypto block of flow f begins: its pending fields become active together (R234). -/
def Dev.cryBoundary (f : Nat) (d : Dev) : Dev :=
  if d.held? 6 then d else
    let fresh := Sparse.has d.shadow (Reg.CRY_FLOW_CTL f)
    let d := d.copyShadow (fun a => cryKeyFlow a == some f)
    let d := if fresh && !Sparse.has d.shadow (Reg.CRY_FLOW_CTL f) then d.kiKnown f else d
    if fresh then d.setCryFlow f { d.cryFlow f with selFresh := true } else d

/-- The owner of each slot in old flows (R215). -/
def ownersOf (enc : List Nat) (s : Nat) : Option Nat := enc[s / 2]?

/-- At the end of a FRAMER commit: slots whose owner has changed from the flows old are erased; E, e and the owners are shown
(R225). -/
def Dev.reownSlots (old : List Nat) (d : Dev) : Dev :=
  let now := d.encFlows
  let d := Dev.forUpTo 512 (fun d s => if ownersOf old s = ownersOf now s then d else d.wipeSlot s) d
  let d := Dev.forUpTo 512 (fun d s => d.put (Fld.CRY_KS_STATE.FLOW s) ((ownersOf now s).getD 0x7FF)) d
  let d := d.put Fld.CRY_STATUS.E now.length
  let d := Dev.forUpTo 1280 (fun d f => match d.eIndex f with
    | some e => (d.put (Fld.CRY_FLOW_STATUS.ENC f) 1).put (Fld.CRY_FLOW_STATUS.E_IDX f) e
    | none => d.setReg (Reg.CRY_FLOW_STATUS f) (resetWordOf (Reg.CRY_FLOW_STATUS f))) d
  d.cryCauses

/-- A block reset of CRY keeps every slot and restarts every flow at a block with TAGP = 0 (R225). -/
def Dev.cryRestart (d : Dev) : Dev :=
  { d with cry := { d.cry with flows := d.cry.flows.map (fun e => (e.1, { e.2 with tagPrev := none })), jobs := [], uses := [] } }

/-- The DRBG reseeds from a healthy entropy source (R228, R229). -/
def Dev.drbgReseed (d : Dev) : Dev :=
  ((({ d with cry := { d.cry with requests := 0, seeded := d.ticks } } : Dev).put Fld.CRY_STATUS.DRBG_OK 1).causeOff 203).causeOff 485
/-- The entropy source fails its health tests and the DRBG stops (R229, R502). -/
def Dev.entropyFail (d : Dev) : Dev := ((d.put Fld.CRY_STATUS.DRBG_OK 0).causeOn 203).causeOn 485

/-! ### Meanings -/

/-- CRYPTO_BLOCK_TX (R221). -/
def execCryptoBlockTx (f : Fin 1280) (frames : List OduFrame) := runBlock 6 (Dev.cryptoBlockTx f frames)
/-- CRYPTO_BLOCK_RX (R223). -/
def execCryptoBlockRx (f : Fin 1280) (frames : List OduFrame) (following : OduFrame) :=
  runBlock 6 (Dev.cryptoBlockRx f frames following)
/-- CRYPTO_LATE (R226). -/
def execCryptoLate (f : Fin 1280) (tx : Bool) := runBlock 6 (Dev.cryptoLate f tx)
/-- DRBG_RESEED (R228). -/
def execDrbgReseed := runDev Dev.drbgReseed
/-- ENTROPY_FAIL (R229). -/
def execEntropyFail := runDev Dev.entropyFail

end Sys2Proof.Machine
end

