-- ==== Sys2Proof/Machine/LaneCode.lean ====
section
/-! DEFINITION. The coding of host lanes as pure functions: symbols and levels, precoding, the transmit FIR, scrambling, stuffing, and the
PRBS generators and checkers (R258, R259, R261, R273 to R276 of 09_host_lanes.md). -/

namespace Sys2Proof.Machine

/-! ### Symbols and levels (R258, R259) -/

/-- The Gray map of a pair of bits, the first more significant (R258). -/
def grayMap (a b : Bool) : Fin 4 :=
  match a, b with
  | false, false => 0
  | false, true => 1
  | true, true => 2
  | true, false => 3

/-- The pair of bits of a symbol. -/
def grayBits (s : Fin 4) : List Bool :=
  match s with
  | 0 => [false, false]
  | 1 => [false, true]
  | 2 => [true, true]
  | 3 => [true, false]

/-- The symbols of a bit string, two bits each. -/
def graySymbols : List Bool → List (Fin 4)
  | a :: b :: r => grayMap a b :: graySymbols r
  | _ => []

/-- The level of a symbol: -3, -1, +1, +3; a polarity bit maps level x to -x (R258). -/
def symbolLevel (inv : Bool) (s : Fin 4) : Int := (2 * (s.val : Int) - 3) * (if inv then -1 else 1)

/-- The output of a transmit FIR for the levels x(n + 3) to x(n - 2), newest first, and its taps c(-3) to c(2), in 1/64 (R261). -/
def firOutput (taps levels : List Int) : Int := (List.zipWith (· * ·) taps levels).foldl (· + ·) 0

/-- The transmitter's precoder over symbols, from P = prev (R259). -/
def precodeTx (prev : Fin 4) : List (Fin 4) → List (Fin 4)
  | [] => []
  | g :: r => (g - prev) :: precodeTx (g - prev) r

/-- The receiver's precoder over symbols, from P = prev (R259). -/
def precodeRx (prev : Fin 4) : List (Fin 4) → List (Fin 4)
  | [] => []
  | p :: r => (p + prev) :: precodeRx p r

/-- A history of bits, the newest in bit 0, with one more; n are kept. -/
def pushBit (n hist : Nat) (b : Bool) : Nat := (2 * hist + bit b) % 2 ^ n

/-- The self-synchronous scrambler x^58 + x^39 + 1 over its last 58 output bits (R275): the output and the bits it ends with. -/
def scramble (hist : Nat) : List Bool → List Bool × Nat
  | [] => ([], hist)
  | d :: r =>
    let s := xor d (xor (hist.testBit 38) (hist.testBit 57))
    let o := scramble (pushBit 58 hist s) r
    (s :: o.1, o.2)

/-- The descrambler (R275). -/
def descramble (hist : Nat) : List Bool → List Bool × Nat
  | [] => ([], hist)
  | s :: r =>
    let o := descramble (pushBit 58 hist s) r
    (xor s (xor (hist.testBit 38) (hist.testBit 57)) :: o.1, o.2)

/-- Stuff symbols inserted after precoding: after 31 equal symbols of level L, one of level L + 2 (R276). run counts the
symbols of level last sent so far. -/
def stuff (last : Fin 4) (run : Nat) : List (Fin 4) → List (Fin 4)
  | [] => []
  | p :: r =>
    let n := if p = last then run + 1 else 1
    if n = 31 then p :: (p + 2) :: stuff (p + 2) 0 r else p :: stuff p n r

/-- The symbols after the symbol that follows any 31 equal ones is discarded (R276). -/
def unstuff (last : Fin 4) (run : Nat) (drop : Bool) : List (Fin 4) → List (Fin 4)
  | [] => []
  | p :: r =>
    if drop then unstuff p 0 false r
    else
      let n := if p = last then run + 1 else 1
      p :: unstuff p n (decide (n = 31)) r

/-- What carries on from frame to frame in a transmitter or receiver of a spill or Horug lane: the scrambler's bits, the precoder's symbol,
the level last sent or received and its run. The spec gives no first scrambler bits. -/
structure LaneCoder where
  hist : Nat
  prev : Fin 4
  last : Fin 4
  run : Nat
  deriving DecidableEq, Repr

/-- The symbols a transmitter sends for the bytes of frames: most significant bit first through the scrambler, the Gray map, the precoder and
the stuffing (R275, R276). -/
def laneSymbols (c : LaneCoder) (l : List Byte) : List (Fin 4) :=
  let bits := l.flatMap (fun b => (List.range 8).map (fun i => b.getLsbD (7 - i)))
  stuff c.last c.run (precodeTx c.prev (graySymbols (scramble c.hist bits).1))

/-- The bits a receiver takes from symbols: the reverse of laneSymbols (R275, R276). -/
def laneBits (c : LaneCoder) (l : List (Fin 4)) : List Bool :=
  (descramble c.hist ((precodeRx c.prev (unstuff c.last c.run false l)).flatMap grayBits)).1

/-! ### PRBS (R273, R274) -/

/-- The feedback taps of a pattern: 0 PRBS9, 1 PRBS13, 2 PRBS15, 3 PRBS31 (R273). -/
def prbsTaps (pat : Nat) : List Nat :=
  match pat with
  | 0 => [9, 5]
  | 1 => [13, 12, 2, 1]
  | 2 => [15, 14]
  | _ => [31, 28]

/-- Bits that seed a pattern. -/
def prbsOrder (pat : Nat) : Nat := (prbsTaps pat).headD 31

/-- The bit that follows a history of bits, the newest in bit 0. -/
def prbsNext (pat hist : Nat) : Bool := (prbsTaps pat).foldl (fun b t => xor b (hist.testBit (t - 1))) false

/-- n bits of a pattern after a history. -/
def prbsRun (pat : Nat) : Nat → Nat → List Bool
  | _, 0 => []
  | hist, n + 1 => let b := prbsNext pat hist; b :: prbsRun pat (pushBit 31 hist b) n

/-- The history after the first bits of a list. -/
def seedOf (l : List Bool) : Nat := l.foldl (pushBit 31) 0

/-- The bits of SSPRQ from symbol k on, two a symbol. -/
def ssprqBits (k n : Nat) : List Bool := ((List.range ((n + 1) / 2)).flatMap (fun i => grayBits (Config.ssprq (k + i)))).take n

/-- The bits a checker expects after it has seeded itself from received bits: all of them where they are the pattern's. inv is CHK_INV. For
SSPRQ the seed is the phase at which the first bits fit. -/
def prbsFits (pat : Nat) (inv : Bool) (bits : List Bool) : Bool :=
  let l := bits.map (fun b => xor b inv)
  if pat = 4 then (List.range 65535).any (fun k => ssprqBits k l.length == l)
  else
    let n := prbsOrder pat
    decide (n ≤ l.length) && prbsRun pat (seedOf (l.take n)) (l.length - n) == l.drop n

/-- Received bits with which a checker declares lock: 1,024 without an error after those that seed it (R274). -/
def prbsLocks (pat : Nat) (inv : Bool) (bits : List Bool) : Bool :=
  decide ((if pat = 4 then 0 else prbsOrder pat) + 1024 ≤ bits.length) && prbsFits pat inv bits

end Sys2Proof.Machine
end

