-- ==== Sys2Proof/Machine/LinkState.lean ====
section
/-! DEFINITION. Block CHN: the state of the two Horug links, position and topology, and the chain lines learned over them
(R452, R456, R457, R459, R461). -/

namespace Sys2Proof.Machine

/-! ### Lanes -/

/-- Whether octet g is enabled. -/
def Dev.octetEn (d : Dev) (g : Nat) : Bool := d.isSet (Fld.HST_OCTET_CTL.EN g)
/-- The state code of lane l (Table 2). -/
def Dev.laneState (d : Dev) (l : Nat) : Nat := d.get (Fld.HST_LANE_STATUS.STATE l)
/-- Whether lane l is UP. -/
def Dev.laneUp (d : Dev) (l : Nat) : Bool := d.laneState l == 3

/-! ### Links -/

/-- Link k beside its registers. -/
def Dev.link (d : Dev) (k : Nat) : LinkSt := Sparse.get {} d.chn.links k
/-- Replace link k. -/
def Dev.setLink (d : Dev) (k : Nat) (v : LinkSt) : Dev := { d with chn := { d.chn with links := Sparse.put {} d.chn.links k v } }
/-- Whether link k is enabled; the block of an empty region is clock-gated (R54). -/
def Dev.linkOn (d : Dev) (k : Nat) : Bool := d.regionActive 7 && d.bitAt Reg.CHN_CTL k
/-- Whether link k is in RUN. -/
def Dev.linkRun (d : Dev) (k : Nat) : Bool := d.isSet (Fld.CHN_LINK_STATUS.RUN k)
/-- The lanes of link k that are UP (R452, R453). -/
def Dev.linkLanes (d : Dev) (k : Nat) : List Nat :=
  ((List.range 4).map (fun i => 8 * d.get Fld.CHN_CTL.OCTET + 4 * k + i)).filter (fun l => d.claimed l && d.octetEn (l / 8) && d.laneUp l)

/-- Whether the position is valid. -/
def Dev.posValid (d : Dev) : Bool := d.isSet Fld.CHN_STATUS.POS_VALID
/-- The position. -/
def Dev.chainPos (d : Dev) : Nat := d.get Fld.CHN_STATUS.POS
/-- Ring size N, 0 unknown. -/
def Dev.ringSize (d : Dev) : Nat := d.get Fld.CHN_STATUS.N

/-- Hops from this module to position q by link k: link 1 leads to the next position (R456). -/
def Dev.hops (d : Dev) (k q : Nat) : Nat :=
  let n := max 1 d.ringSize
  if k = 0 then (d.chainPos + n - q % n) % n else (q + n - d.chainPos % n) % n

/-- The link towards position q: of two in RUN the one with the shorter path, where they tie the given one; none without a
valid position or for the own position (R457, R458). -/
def Dev.routeTo (d : Dev) (tie q : Nat) : Option Nat :=
  if !d.posValid || d.chainPos == q || decide (d.ringSize ≤ q) then none
  else match d.linkRun 0, d.linkRun 1 with
    | false, false => none
    | true, false => some 0
    | false, true => some 1
    | true, true => if d.hops 0 q < d.hops 1 q then some 0 else if d.hops 1 q < d.hops 0 q then some 1 else some tie

/-- The link towards position 0; a tie takes link 0 (R458). -/
def Dev.upstream (d : Dev) : Option Nat := d.routeTo 0 0

/-- The drive of a chain line by the module at a position, on its event line at the instant at which it is applied (R378, R461). -/
def Dev.setRemote (d : Dev) (orig line : Nat) (on : Bool) : Dev :=
  d.withLinesAt 0 (fun d =>
    let w : BitVec 8 := Sparse.get 0 d.chainRemote orig
    { d with chainRemote := Sparse.put 0 d.chainRemote orig (if on then w ||| (1#8 <<< line) else w &&& ~~~(1#8 <<< line)) })

/-- Link k leaves RUN: drives learned only through it are deasserted (R461). -/
def Dev.unlearn (d : Dev) (k : Nat) : Dev :=
  let gone := (d.chn.learned.filter (fun (e : Nat × List Nat) => e.2 == [k])).map (·.1)
  let d := gone.foldl (fun d g => d.setRemote (g / 8) (g % 8) false) d
  { d with chn := { d.chn with learned :=
      (d.chn.learned.map (fun (e : Nat × List Nat) => (e.1, e.2.filter (fun j => j != k)))).filter (fun e => !e.2.isEmpty) } }

/-- LANES_UP and RUN of link k, and what follows a change (R457). -/
def Dev.linkCheck (d : Dev) (k : Nat) : Dev :=
  let up := (d.linkLanes k).length
  let was := d.linkRun k
  let run := d.linkOn k && decide (0 < up) && d.isSet (Fld.CHN_LINK_STATUS.NB_VALID k)
  let d := (d.put (Fld.CHN_LINK_STATUS.LANES_UP k) up).put (Fld.CHN_LINK_STATUS.RUN k) (bit run)
  let d := if was = run then d else d.setInt intCHN 0
  let d := if !was && run then d.setLink k { d.link k with runSince := d.ticks } else d
  let d := if was && !run then d.unlearn k else d
  d.causeIs (448 + k) (d.linkOn k && !run)

/-- TOPO (R456): 2 RING, 1 CHAIN, 0 NONE. -/
def Dev.topology (d : Dev) : Nat :=
  let ok (k : Nat) := d.isSet (Fld.CHN_LINK_STATUS.NB_VALID k)
  if ok 0 && ok 1 && (d.link 0).headId == (d.link 1).headId then 2
  else if d.linkRun 0 != d.linkRun 1 then 1 else 0

/-- Whether an error holds the position invalid. -/
def Dev.posError (d : Dev) : Bool :=
  d.isSet Fld.CHN_STATUS.SIZE_ERR || d.isSet Fld.CHN_STATUS.CABLE_ERR || d.isSet Fld.CHN_STATUS.HEAD_CONFLICT

/-- The position this module would have: 0 at the head, else one more than the neighbour's on link 0. -/
def Dev.wantedPos (d : Dev) : Option Nat :=
  if d.straps.chainHead then some 0
  else if d.isSet (Fld.CHN_LINK_STATUS.NB_VALID 0) then (d.link 0).nbPos.map (· + 1) else none

/-- The highest position this module knows. -/
def Dev.maxPos (d : Dev) : Nat :=
  [0, 1].foldl (fun m k => if d.isSet (Fld.CHN_LINK_STATUS.NB_VALID k) then max m (max (d.link k).maxPos ((d.link k).nbPos.getD 0)) else m)
    (if d.posValid then d.chainPos else 0)

/-- Position, size and topology (R456). A position once taken is kept until a HELLO gives another. -/
def Dev.posCheck (d : Dev) : Dev :=
  let old := (d.chainPos, d.ringSize, d.get Fld.CHN_STATUS.TOPO)
  let d := match d.wantedPos with
    | some p => if 3 < p then d.put Fld.CHN_STATUS.SIZE_ERR 1 else (d.put Fld.CHN_STATUS.POS p).put Fld.CHN_STATUS.POS_VALID 1
    | none => d
  let d := if d.posError then d.put Fld.CHN_STATUS.POS_VALID 0 else d
  let d := d.put Fld.CHN_STATUS.N (if d.posValid then min 4 (d.maxPos + 1) else 0)
  let d := d.put Fld.CHN_STATUS.TOPO d.topology
  let d := if old = (d.chainPos, d.ringSize, d.get Fld.CHN_STATUS.TOPO) then d else d.setInt intCHN 1
  ((d.causeIs 450 (d.isSet Fld.CHN_STATUS.HEAD_CONFLICT)).causeIs 451 (d.isSet Fld.CHN_STATUS.CABLE_ERR)).causeIs 452
    (d.isSet Fld.CHN_STATUS.SIZE_ERR)

/-- The chain clock: candidate 10 is offered while a lane of the upstream link gives it and the link is in RUN (R459). -/
def Dev.chainClock (d : Dev) : Dev :=
  if d.upstream.isSome then d.offerRef 10 1660156250
  else if d.refHz 10 = 0 then d else d.withdrawRef 10

/-- The upstream link that this module's time follows (R458). -/
def Dev.following (d : Dev) : Option Nat :=
  if d.isSet Fld.CHN_CTL.TIME_FOLLOW && d.posValid && d.chainPos != 0 then d.upstream else none

/-- Without an upstream link in RUN that the time follows, CHN.09 has no cause (R458). -/
def Dev.alignCause (d : Dev) : Dev := if d.following.isSome then d else d.causeOff 457

/-- Bring links, position and chain clock up to date. -/
def Dev.linksCheck (d : Dev) : Dev := ((((d.linkCheck 0).linkCheck 1).posCheck).chainClock).alignCause

end Sys2Proof.Machine
end

