-- ==== Sys2Proof/Machine/RegStore.lean ====
section
/-! DEFINITION. How written values reach the RW fields of a register: at once, or through the shadow copy (R12, R13, R35). -/

namespace Sys2Proof.Machine

/-- A word with the fields of an access code taken from a written word, each normalised by its own rule (R14). -/
def RegDesc.storeInto (r : RegDesc) (acc : Access) (old v : Word) : Word :=
  r.fields.foldl (fun w f => if f.acc = acc then
    setBits w f.hi f.lo (f.norm.store (f.hi - f.lo + 1) (getBits v f.hi f.lo)) else w) old

/-- Store a whole written word in the RW fields of the register with key a: fields that are not shadowed at once, shadowed
fields in the shadow copy (R35). -/
def Dev.storeRw (d : Dev) (a : Nat) (v : Word) : Dev :=
  match regAt (keyAddr a) with
  | none => d
  | some r =>
    let d := d.setReg a (r.storeInto .rw (d.reg a) v)
    if r.shadowMask = 0 then d else d.setShadow a (r.storeInto .rws (d.shadowReg a) v)

end Sys2Proof.Machine
end

