-- ==== Sys2Proof/Machine/HostLanes.lean ====
section
/-! DEFINITION. Block HST: octets, lane roles and states, training, equalisers, clients and PRBS checkers
(09_host_lanes.md). Lane l is HLl; octet g has lanes 8g to 8g + 7. -/

namespace Sys2Proof.Machine

/-! ### Octets, roles, clients (R254 to R257) -/

/-- Whether octet g runs at 106.25 Gbit/s a lane. -/
def Dev.octetHalf (d : Dev) (g : Nat) : Bool := d.isSet (Fld.HST_OCTET_CTL.RATE g)
/-- Whether the PLL of octet g is locked. -/
def Dev.octetLocked (d : Dev) (g : Nat) : Bool := d.bitAt Reg.HST_OCTET_STATUS g

/-- The role that CHAIN's claim or ROLE gives lane l: 0 OFF, 1 CLIENT, 2 SPILL, 3 Horug (R255). A lane of an empty HOST has none (R54). -/
def Dev.laneGiven (d : Dev) (l : Nat) : Nat :=
  if d.claimed l then 3 else if d.regionActive 4 then d.get (Fld.HST_LANE_CTL.ROLE l) else 0

/-- The role of lane l: OFF where its octet has EN = 0 (R255). -/
def Dev.laneRole (d : Dev) (l : Nat) : Nat := if d.octetEn (l / 8) then d.laneGiven l else 0

/-- Lanes of a client by its type and whether the octet runs at 106.25 Gbit/s (Table 1); none where not supported. -/
def clientWidth (type : Nat) (half : Bool) : Option Nat :=
  match type, half with
  | 0x0001, false => some 2
  | 0x0001, true => some 4
  | 0x0002, false => some 4
  | 0x0002, true => some 8
  | 0x0003, false => some 8
  | 0x0010, true => some 1
  | 0x0011, false => some 1
  | _, _ => none

/-- Lanes of client c; one where Table 1 gives it none. -/
def Dev.clientW (d : Dev) (c : Nat) : Nat := (clientWidth (d.clientType c) (d.octetHalf (c / 8))).getD 1
/-- Whether client c is configured and occupies lane l. -/
def Dev.clientHas (d : Dev) (c l : Nat) : Bool :=
  decide (d.clientType c ≠ 0) && decide (c ≤ l) && decide (l < c + d.clientW c)
/-- The configured client of lane l. -/
def Dev.clientOf (d : Dev) (l : Nat) : Option Nat := (List.range 48).find? (fun c => d.clientHas c l)

/-- Whether the configuration of client c breaks R256. -/
def Dev.clientBad (d : Dev) (c : Nat) : Bool :=
  match clientWidth (d.clientType c) (d.octetHalf (c / 8)) with
  | none => true
  | some w => decide (c % w ≠ 0) ||
      (List.range w).any (fun i => decide (d.laneGiven (c + i) ≠ 1) ||
        (List.range 48).any (fun e => decide (e ≠ c) && d.clientHas e (c + i)))

/-- Whether lane l trains (R265). -/
def Dev.trains (d : Dev) (l : Nat) : Bool :=
  match d.laneRole l with
  | 2 => true
  | 3 => true
  | 1 => match d.clientOf l with
    | some c => isEthernet (d.clientType c) && d.isSet (Fld.HST_CLIENT_CTL.LT_EN c)
    | none => false
  | _ => false

/-- Lane l beside its registers. -/
def Dev.hl (d : Dev) (l : Nat) : LaneState := Sparse.get {} d.hst.lanes l
/-- Replace lane l. -/
def Dev.setHl (d : Dev) (l : Nat) (v : LaneState) : Dev :=
  { d with hst := { d.hst with lanes := Sparse.put {} d.hst.lanes l v } }

/-! ### What follows the lane states -/

/-- The partner entry of lane l becomes invalid (R283). -/
def Dev.partnerOff (d : Dev) (l : Nat) : Dev :=
  if d.isSet (Fld.HST_TSU_STATUS.PARTNER l) then
    ((d.put (Fld.HST_TSU_STATUS.PARTNER l) 0).raise 265).setInt intHST 3
  else d

/-- Spill group of lane l. -/
def Dev.laneGroup (d : Dev) (l : Nat) : Nat := d.get (Fld.HST_LANE_CTL.GROUP l)
/-- Lanes of spill group g whose partner entries are valid (R284). -/
def Dev.partneredLanes (d : Dev) (g : Nat) : List Nat :=
  (List.range 48).filter (fun l => decide (d.laneRole l = 2) && decide (d.laneGroup l = g) &&
    d.isSet (Fld.HST_TSU_STATUS.PARTNER l))
/-- Identifier of the partner of lane l. -/
def Dev.partnerId (d : Dev) (l : Nat) : Nat := d.reg64 (Reg.HST_TSU_PARTNER_LO l)
/-- Whether lane l is excluded from its group: its partner is not that of the group's lowest lane with an entry (R284). -/
def Dev.groupExcludes (d : Dev) (l : Nat) : Bool :=
  match d.partneredLanes (d.laneGroup l) with
  | m :: r => decide (l ∈ m :: r) && decide (d.partnerId l ≠ d.partnerId m)
  | [] => false

/-- Whether client c signals failure to its mapper (R271). -/
def Dev.clientFails (d : Dev) (c : Nat) : Bool :=
  decide (d.clientType c ≠ 0) && (d.isSet (Fld.HST_CLIENT_STATUS.CFG_ERR c) ||
    (List.range (d.clientW c)).any (fun i => !d.laneUp (c + i)) ||
    (isEthernet (d.clientType c) && (!d.isSet (Fld.HST_CLIENT_STATUS.ALIGN c) || d.isSet (Fld.HST_CLIENT_STATUS.HI_SER c))))

/-- The status of client c (R256, R271). -/
def Dev.clientCheck (d : Dev) (c : Nat) : Dev :=
  let on := decide (d.clientType c ≠ 0)
  let d := d.put (Fld.HST_CLIENT_STATUS.CFG_ERR c) (bit (on && d.clientBad c))
  let d := d.put (Fld.HST_CLIENT_STATUS.LANES_UP c)
    (if on then ((List.range (d.clientW c)).filter (fun i => d.laneUp (c + i))).length else 0)
  let was := d.isSet (Fld.HST_CLIENT_STATUS.FAIL c)
  let now := d.clientFails c
  let d := d.put (Fld.HST_CLIENT_STATUS.FAIL c) (bit now)
  if was = now then d else d.setInt intHST 2

/-- The recovered clock of octet g: offered while its clock lane is UP (R257, R425). -/
def Dev.octetClock (d : Dev) (g : Nat) : Dev :=
  let on := d.octetEn g && d.laneUp (8 * g + d.get (Fld.HST_OCTET_CTL.CLK_LANE g))
  if on then d.offerRef (4 + g) (if d.octetHalf g then 830078125 else 1660156250)
  else if d.refHz (4 + g) = 0 then d else d.withdrawRef (4 + g)

/-- The precoding in use (R259): always on for spill and Horug lanes, by training where it decides, else as written. -/
def Dev.precodeAct (d : Dev) (l : Nat) : Nat :=
  if 2 ≤ d.laneRole l then 3
  else if d.trains l then (d.hl l).precode
  else 2 * d.get (Fld.HST_LANE_CTL.RX_PRECODE l) + d.get (Fld.HST_LANE_CTL.TX_PRECODE l)

/-- Bring links, clients, groups, clocks and the causes of HST.01, .02, .03, .06, .10 and .11 up to date. -/
def Dev.hstCheck (d : Dev) : Dev :=
  let d := Dev.forUpTo 48 Dev.clientCheck d
  let d := Dev.forUpTo 48 (fun d l => (d.put (Fld.HST_TSU_STATUS.MISMATCH l) (bit (d.groupExcludes l))).put
    (Fld.HST_LANE_STATUS.PRECODE_ACT l) (d.precodeAct l)) d
  let d := Dev.forUpTo 6 Dev.octetClock d.linksCheck
  let lanes := List.range 48
  let d := d.causeIs 257 (lanes.any (fun l => decide (d.laneRole l ≠ 0) && !d.laneUp l))
  let d := d.causeIs 258 ((List.range 6).any (fun g => d.octetEn g && !d.octetLocked g))
  let d := d.causeIs 259 (lanes.any (fun c => d.isSet (Fld.HST_CLIENT_STATUS.FAIL c)))
  let d := d.causeIs 262 (lanes.any (fun l => decide (d.laneRole l = 2) && d.laneUp l &&
    !d.isSet (Fld.HST_TSU_STATUS.FRAME_LOCK l)))
  let d := d.causeIs 266 (lanes.any (fun l => d.isSet (Fld.HST_TSU_STATUS.MISMATCH l)))
  d.causeIs 267 (lanes.any (fun c => d.isSet (Fld.HST_CLIENT_STATUS.CFG_ERR c)))

/-! ### Lane states (R265 to R269) -/

/-- Whether the FFE (or the DFE) of lane l adapts now: enabled, not frozen, in TRAIN or UP (R260). -/
def Dev.adapts (d : Dev) (l : Nat) (dfe : Bool) : Bool :=
  d.isSet (if dfe then Fld.HST_LANE_RX_EQ.DFE_ADAPT l else Fld.HST_LANE_RX_EQ.FFE_ADAPT l) && !d.isSet (Fld.HST_LANE_RX_EQ.FREEZE l) &&
    (d.laneState l == 2 || d.laneState l == 3)

/-- What adapts now and no longer does in d' keeps its value of this tick; so does the SNR, which is measured in UP, and a transmit FIR that
training was setting (R260, R262). -/
def Dev.holdEq (d : Dev) (l : Nat) (d' : Dev) : Dev :=
  let v := d'.hl l
  d'.setHl l { v with
    ffeAt := if d.adapts l false && !d'.adapts l false then some d.ticks else v.ffeAt,
    dfeAt := if d.adapts l true && !d'.adapts l true then some d.ticks else v.dfeAt,
    snrAt := if d.laneState l = 3 ∧ d'.laneState l ≠ 3 then some d.ticks else v.snrAt,
    firAt := if d.laneState l = 2 ∧ d'.laneState l = 1 then some d.ticks else v.firAt }

/-- The CTLE code of lane l on entry to UP or in training: the receiver's choice with CTLE_ADAPT = 1 (R260); where the command gives none, a
free value. -/
def Dev.setCtle (d : Dev) (l : Nat) (eq : Option LaneEq) : Dev :=
  if !d.isSet (Fld.HST_LANE_RX_EQ.CTLE_ADAPT l) || d.isSet (Fld.HST_LANE_RX_EQ.FREEZE l) then d
  else match eq with
    | some e => (d.put (Fld.HST_LANE_RX_EQ.CTLE l) (min e.ctle 32)).setHl l { d.hl l with ctleAt := none }
    | none => d.setHl l { d.hl l with ctleAt := some d.ticks }

/-- The length of a frame of 544 bytes on lane l, in 10^-4 tick. -/
def Dev.frameTime (d : Dev) (l : Nat) : Nat := if d.octetHalf (l / 8) then 458752 else 229376

/-- IDLE frames that have filled lane l since its last frame, while it carries Tsucor (R281). -/
def Dev.idleFrames (d : Dev) (l : Nat) : Nat :=
  if d.laneRole l = 2 ∧ d.laneUp l then (10000 * d.ticks - (d.hl l).filledTo) / d.frameTime l else 0

/-- The IDLE frames that have filled lane l are sent: they take SEQ of the lane (R280, R281). -/
def Dev.fillIdle (d : Dev) (l : Nat) : Dev :=
  let n := d.idleFrames l
  if n = 0 then d else
    let v := d.hl l
    let d := d.setHl l { v with
      txSeq := (v.txSeq + n) % 2 ^ 32, frames := v.frames + n, filledTo := v.filledTo + n * d.frameTime l }
    { d with hst := { d.hst with sent := d.hst.sent ++ [TsuSent.idle l v.txSeq n] } }

/-- The checker of lane l ends its lock: the bits compared count, and the errors among them (R274). -/
def Dev.prbsEnd (d : Dev) (l bits : Nat) : Dev :=
  let v := d.hl l
  match v.prbsSince with
  | none => d
  | some t => (d.setReg64 (Reg.HST_LANE_BITS_LO l) bits).setHl l { v with prbsSince := none, errSpans := v.errSpans ++ [(t, d.ticks)] }

/-- Bits compared in lock since the checker locked or its counters were cleared: the lane rate over 1.12 GHz a tick. -/
def Dev.prbsBits (d : Dev) (l : Nat) : Nat :=
  match (d.hl l).prbsSince with
  | some t => (d.ticks - t) * (if d.octetHalf (l / 8) then 10625 else 21250) / 112
  | none => 0

/-- BITS of lane l: the bits counted before and those of the present lock, saturating at 48 ones. -/
def Dev.prbsTotal (d : Dev) (l : Nat) : Nat := min (d.reg64 (Reg.HST_LANE_BITS_LO l) + d.prbsBits l) (2 ^ 48 - 1)

/-- ERRS of lane l: the errors counted with a loss of lock, and those of the other spans in lock, which are free (R274). -/
def Dev.prbsErrTotal (d : Dev) (l : Nat) : Nat :=
  let v := d.hl l
  let now : List (Nat × Nat) := match v.prbsSince with | some t => [(t, d.ticks)] | none => []
  min (d.reg64 (Reg.HST_LANE_ERRS_LO l) + (v.errSpans ++ now).foldl (fun n e => n + Config.prbsErrors l e.1 e.2) 0) (2 ^ 48 - 1)

/-- Lane l takes a state: leaving UP counts LINK_DOWN and loses its partner and frame lock (R254, R283); leaving TEST loses
PRBS lock, whose bits and errors count; what adapted keeps its values. -/
def Dev.laneTo (d : Dev) (l st : Nat) : Dev :=
  let old := d.laneState l
  if old = st then d else
    let d0 := d
    let d := if old = 3 then d.fillIdle l else d
    let d := d.put (Fld.HST_LANE_STATUS.STATE l) st
    let d := if old = 3 then
        (((d.incSat (Fld.HST_LANE_TRAIN_CNT.LINK_DOWN l)).setInt intHST 1).put (Fld.HST_TSU_STATUS.FRAME_LOCK l) 0).partnerOff l
      else d
    let d := if old = 4 then (d.prbsEnd l (d.prbsTotal l)).put (Fld.HST_LANE_STATUS.PRBS_LOCK l) 0 else d
    let d := d.setHl l { d.hl l with ready := false, good := 0, badSync := 0 }
    let d := d0.holdEq l d
    if st = 3 then (d.setHl l { d.hl l with filledTo := 10000 * d.ticks }).setInt intHST 0 else d

/-- Lane l enters UP. -/
def Dev.laneUpEnter (d : Dev) (l : Nat) (eq : Option LaneEq) : Dev := (d.setCtle l eq).laneTo l 3

/-- From LISTEN with signal detect, the retry interval over and its octet's PLL locked, a lane goes to TRAIN, or one that does
not train straight to UP (Table 2; the PLL: DEDUCED, notes/assumptions/8.md). -/
def Dev.laneGo (d : Dev) (l : Nat) (eq : Option LaneEq := none) : Dev :=
  if d.laneState l = 1 ∧ d.isSet (Fld.HST_LANE_STATUS.SD l) ∧ !(d.hl l).retry ∧ d.octetLocked (l / 8) then
    (if d.trains l then d.laneTo l 2 else d.laneUpEnter l eq)
  else d

/-- Training of lane l aborts (R266): counted; a Horug lane waits for its retry interval (R267). -/
def Dev.trainAbort (d : Dev) (l : Nat) : Dev :=
  ((d.incSat (Fld.HST_LANE_TRAIN_CNT.ABORT l)).raise 256).setHl l { d.hl l with retry := decide (d.laneRole l = 3) }

/-- The state a lane's role and octet give it while nothing is received: OFF, LISTEN or TEST. -/
def Dev.laneHome (d : Dev) (l : Nat) : Nat :=
  if !d.octetEn (l / 8) then 0
  else if d.laneRole l ≠ 0 then 1
  else if d.regionActive 4 && (d.isSet (Fld.HST_LANE_PRBS_CTL.GEN_EN l) || d.isSet (Fld.HST_LANE_PRBS_CTL.CHK_EN l)) then 4
  else 0

/-- Lane l returns to LISTEN, or to OFF or TEST where its role gives that; a lane in TRAIN aborts (R254, R263, R266). -/
def Dev.laneBack (d : Dev) (l : Nat) : Dev :=
  let d := if d.laneState l = 2 then d.trainAbort l else d
  let d := if d.laneHome l = 1 ∧ d.laneRole l = 3 then d else d.setHl l { d.hl l with retry := false }
  ((d.put (Fld.HST_LANE_STATUS.CLAIMED l) (bit (d.claimed l))).laneTo l (d.laneHome l)).laneGo l

/-- Bring lane l in line with its role, claim and octet without restarting one that may stay. -/
def Dev.laneCheck (d : Dev) (l : Nat) : Dev :=
  let st := d.laneState l
  if d.laneHome l = 1 ∧ 1 ≤ st ∧ st ≤ 3 ∧ d.isSet (Fld.HST_LANE_STATUS.CLAIMED l) = d.claimed l then d.laneGo l
  else d.laneBack l

/-- Every lane and what follows the lanes. -/
def Dev.lanesCheck (d : Dev) : Dev := (Dev.forUpTo 48 Dev.laneCheck d).hstCheck

/-- A write of OCTET_CTL (R254): a change of RATE or EN relocks the PLL and returns every lane of the octet to LISTEN. -/
def Dev.octetWrite (g : Nat) (v : Word) (d : Dev) : Dev :=
  let en := d.octetEn g
  let half := d.octetHalf g
  let d := d.storeRw (Reg.HST_OCTET_CTL g) v
  if d.octetEn g = en ∧ d.octetHalf g = half then d.hstCheck
  else (Dev.forUpTo 8 (fun d i => d.laneBack (8 * g + i)) (d.clrBit Reg.HST_OCTET_STATUS g)).hstCheck

/-- The octet's PLL locks; lanes that wait in LISTEN with signal detect go on. -/
def Dev.octetLock (g : Nat) (d : Dev) : Dev :=
  if d.octetEn g && !d.octetLocked g then
    (Dev.forUpTo 8 (fun d i => d.laneGo (8 * g + i)) (d.setBit Reg.HST_OCTET_STATUS g)).hstCheck
  else d

/-- The PLL of an enabled octet loses lock on its own. -/
def Dev.octetUnlock (g : Nat) (d : Dev) : Dev :=
  if d.octetEn g && d.octetLocked g then (d.clrBit Reg.HST_OCTET_STATUS g).hstCheck else d

/-- Signal detect asserts (R264, R265). -/
def Dev.signalDetect (l : Nat) (eq : LaneEq) (d : Dev) : Dev :=
  ((d.put (Fld.HST_LANE_STATUS.SD l) 1).laneGo l (some eq)).hstCheck

/-- Signal detect deasserts: an UP lane goes to LISTEN, a training lane aborts (R265, R266). -/
def Dev.signalLoss (l : Nat) (d : Dev) : Dev :=
  let d := d.put (Fld.HST_LANE_STATUS.SD l) 0
  (if d.laneState l = 2 ∨ d.laneState l = 3 then d.laneBack l else d).hstCheck

/-- The taps of the TX FIR in the order c(-3) to c(2). -/
def Dev.firTaps (d : Dev) (l : Nat) : List Int :=
  [d.getInt (Fld.HST_LANE_TX_FIR0.CM3 l), d.getInt (Fld.HST_LANE_TX_FIR0.CM2 l), d.getInt (Fld.HST_LANE_TX_FIR0.CM1 l),
   d.getInt (Fld.HST_LANE_TX_FIR0.C0 l), d.getInt (Fld.HST_LANE_TX_FIR1.CP1 l), d.getInt (Fld.HST_LANE_TX_FIR1.CP2 l)]

/-- The transmit FIR of lane l as training has set it at a tick (R262): free taps whose magnitudes sum to 64 at most. -/
def trainTaps (l tick : Nat) : List Int :=
  ((List.range 6).foldl (fun (a : List Int × Int) i =>
    let c := clampInt (-a.2) a.2 (toSigned 16 (Config.laneAdapts l (37 + i) tick).toNat)
    (a.1 ++ [c], a.2 - c.natAbs)) ([], 64)).1

/-- The taps in use: in TRAIN and after an abort those of the training exchange, else those of the registers (R262). -/
def Dev.firInUse (d : Dev) (l : Nat) : List Int :=
  if d.laneState l = 2 then trainTaps l d.ticks
  else match (d.hl l).firAt with
    | some t => trainTaps l t
    | none => d.firTaps l

/-- Sum of the magnitudes of taps. -/
def firSum (t : List Int) : Nat := t.foldl (fun n c => n + c.natAbs) 0

/-- Taps scaled so that their magnitudes sum to 64 (R261): each the scaled magnitude rounded down, and the units that are then
missing go to inexact taps in an order the spec leaves open, from the k-th on. -/
def firScale (k : Nat) (t : List Int) : List Int :=
  let s := firSum t
  let low := t.map (fun c => c.natAbs * 64 / s)
  let inexact := (List.range 6).filter (fun i => (t.getD i 0).natAbs * 64 % s != 0)
  let order := inexact.drop (k % max 1 inexact.length) ++ inexact.take (k % max 1 inexact.length)
  let up := order.take (64 - low.foldl (· + ·) 0)
  (List.range 6).map (fun i =>
    let m : Nat := low.getD i 0 + (if i ∈ up then 1 else 0)
    if t.getD i 0 < 0 then -(m : Int) else (m : Int))

/-- Put taps into the FIR registers, scaled where they exceed the peak swing (R261). -/
def Dev.setFir (d : Dev) (l : Nat) (t : List Int) : Dev :=
  let excess := decide (64 < firSum t)
  let d := d.setHl l { d.hl l with firAt := none }
  let (k, d) := if excess then d.draw 6 else (0, d)
  let t := if excess then firScale k t else t
  let p (d : Dev) (f : Fld) (i : Nat) : Dev := d.put f (ofSigned 8 (t.getD i 0))
  (p (p (p (p (p (p d (Fld.HST_LANE_TX_FIR0.CM3 l) 0) (Fld.HST_LANE_TX_FIR0.CM2 l) 1) (Fld.HST_LANE_TX_FIR0.CM1 l) 2)
    (Fld.HST_LANE_TX_FIR0.C0 l) 3) (Fld.HST_LANE_TX_FIR1.CP1 l) 4) (Fld.HST_LANE_TX_FIR1.CP2 l) 5).put
    (Fld.HST_LANE_STATUS.FIR_SCALED l) (bit excess)

/-- Taps written to a TX FIR register (R261). -/
def Dev.txFirStore (l reg : Nat) (v : Word) (d : Dev) : Dev :=
  let c (i : Nat) : Int := toSigned 8 (v.toNat / 256 ^ i)
  let t := d.firInUse l
  d.setFir l (if reg = 0 then [c 0, c 1, c 2, c 3, t.getD 4 0, t.getD 5 0]
    else [t.getD 0 0, t.getD 1 0, t.getD 2 0, t.getD 3 0, c 0, c 1])

/-- A write of a TX FIR register (R261, R262): discarded in TRAIN. -/
def Dev.txFirWrite (l reg : Nat) (v : Word) (d : Dev) : Dev :=
  if d.laneState l = 2 then d.put (Fld.HST_LANE_STATUS.FIR_REFUSED l) 1 else d.txFirStore l reg v

/-- The lanes that train with lane l: those of its Ethernet client, else the lane on its own (R268). -/
def Dev.trainsWith (d : Dev) (l : Nat) : List Nat :=
  if d.laneRole l = 1 then (match d.clientOf l with
    | some c => (List.range 48).filter (fun m => d.clientHas c m)
    | none => [l])
  else [l]

/-- Both receivers of lane l are ready (R265); the training exchange has set its TX FIR, precoding and CTLE (R259, R260, R262). The lane goes to
UP with the last lane that trains with it (R268). -/
def Dev.trainDone (l : Nat) (eq : LaneEq) (d : Dev) : Dev :=
  if d.laneState l = 2 then
    let d := (d.setFir l eq.fir).setCtle l (some eq)
    let d := d.setHl l { d.hl l with ready := true, precode := eq.precode.toNat }
    let group := d.trainsWith l
    (if group.all (fun m => d.laneUp m || (d.hl m).ready) then
      group.foldl (fun d m => if d.laneState m = 2 then d.laneTo m 3 else d) d else d).hstCheck
  else d

/-- The max-wait timer expires (R266), of every lane that trains with lane l. -/
def Dev.trainTimeout (l : Nat) (d : Dev) : Dev :=
  if d.laneState l = 2 then ((d.trainsWith l).foldl (fun d m => if d.laneState m = 2 then d.laneBack m else d) d).hstCheck else d

/-- The Horug retry interval ends (R267). -/
def Dev.retryTimer (l : Nat) (d : Dev) : Dev := ((d.setHl l { d.hl l with retry := false }).laneGo l).hstCheck

/-- RESTART returns a lane to LISTEN (Table 11); that is no abort of R266. -/
def Dev.laneRestart (l : Nat) (d : Dev) : Dev :=
  if 1 ≤ d.laneState l ∧ d.laneState l ≤ 3 then ((d.laneTo l 1).laneGo l).hstCheck else d

/-- A write of LANE_CTL (R263): GROUP goes to the shadow copy; a change of role or coding returns the lane to LISTEN. -/
def Dev.laneCtl (l : Nat) (v : Word) (d : Dev) : Dev :=
  let old := d.reg (Reg.HST_LANE_CTL l)
  let d := d.storeRw (Reg.HST_LANE_CTL l) v
  let d := if d.reg (Reg.HST_LANE_CTL l) = old then d else d.laneBack l
  if v.getLsbD 31 then d.laneRestart l else d.hstCheck

/-- CNT_CLR of client c clears CW, CORR and UNCORR in one cycle (R271). -/
def Dev.clientCntClr (c : Nat) (d : Dev) : Dev := Dev.forUpTo 3 (fun d i => d.setReg64 (Reg.HST_CLIENT_CW_LO c + 8 * i) 0) d

/-- A write of CLIENT_CTL (R263): a change of TYPE, LT_EN or AN_EN returns the lanes of the client, as they were and as they
are, to LISTEN. -/
def Dev.clientCtl (c : Nat) (v : Word) (d : Dev) : Dev :=
  let old := d.reg (Reg.HST_CLIENT_CTL c)
  let had := (List.range 48).filter (fun l => d.clientHas c l)
  let d := d.storeRw (Reg.HST_CLIENT_CTL c) v
  let d := if d.reg (Reg.HST_CLIENT_CTL c) = old then d
    else ((List.range 48).filter (fun l => decide (l ∈ had) || d.clientHas c l)).foldl
      (fun d l => if d.laneRole l = 1 then d.laneBack l else d) d
  (if v.getLsbD 31 then d.clientCntClr c else d).hstCheck

/-- LANE_CTL_WRITE (R263). -/
def Dev.laneCtlWrite (w : LaneWrite) (d : Dev) : Dev :=
  match w with
  | .lane l v => d.laneCtl l v
  | .client c v => d.clientCtl c v

/-! ### PRBS and clients (R271, R274) -/

/-- Whether the checker of lane l compares (R273). -/
def Dev.prbsChecks (d : Dev) (l : Nat) : Bool := decide (d.laneState l = 4) && d.isSet (Fld.HST_LANE_PRBS_CTL.CHK_EN l)

/-- The checker declares lock: 1,024 bits without error follow those that seed it (R274). -/
def Dev.prbsLock (seen : PrbsBits) (d : Dev) : Dev :=
  let l := seen.lane
  if d.prbsChecks l ∧ !d.isSet (Fld.HST_LANE_STATUS.PRBS_LOCK l) ∧
      prbsLocks (d.get (Fld.HST_LANE_PRBS_CTL.CHK_PAT l)) (d.isSet (Fld.HST_LANE_PRBS_CTL.CHK_INV l)) seen.bits then
    (d.put (Fld.HST_LANE_STATUS.PRBS_LOCK l) 1).setHl l { d.hl l with prbsSince := some d.ticks }
  else d

/-- 512 or more of 4,096 bits are in error: the checker loses lock and seeds itself again (R274). -/
def Dev.prbsLoss (l : Nat) (errs : PrbsErrs) (d : Dev) : Dev :=
  if d.isSet (Fld.HST_LANE_STATUS.PRBS_LOCK l) ∧ 512 ≤ errs.window then
    let d := d.setReg64 (Reg.HST_LANE_BITS_LO l) (d.prbsTotal l)
    let d := d.incWide (Reg.HST_LANE_ERRS_LO l) 48 errs.total
    ((d.put (Fld.HST_LANE_STATUS.PRBS_LOCK l) 0).setHl l { d.hl l with prbsSince := none }).raise 261
  else d

/-- CNT_CLR clears BITS and ERRS in one cycle (R274). -/
def Dev.prbsCntClr (l : Nat) (d : Dev) : Dev :=
  ((d.setReg64 (Reg.HST_LANE_BITS_LO l) 0).setReg64 (Reg.HST_LANE_ERRS_LO l) 0).setHl l
    { d.hl l with prbsSince := (d.hl l).prbsSince.map (fun _ => d.ticks), errSpans := [] }

/-- A write of PRBS_CTL: the enables take a lane without a role to TEST or OFF (Table 2). -/
def Dev.prbsCtl (l : Nat) (v : Word) (d : Dev) : Dev :=
  let d := d.storeRw (Reg.HST_LANE_PRBS_CTL l) v
  let d := if d.isSet (Fld.HST_LANE_PRBS_CTL.CHK_EN l) then d
    else (d.prbsEnd l (d.prbsTotal l)).put (Fld.HST_LANE_STATUS.PRBS_LOCK l) 0
  let d := if v.getLsbD 31 then d.prbsCntClr l else d
  (d.laneCheck l).hstCheck

/-- A write of RX_EQ (R260): CTLE is the value in use, which a write sets while CTLE_ADAPT = 0; what stops adapting keeps its value. -/
def Dev.rxEqWrite (l : Nat) (v : Word) (d : Dev) : Dev :=
  let d' := d.storeRw (Reg.HST_LANE_RX_EQ l) (if v.getLsbD 8 then setBits v 5 0 (d.get (Fld.HST_LANE_RX_EQ.CTLE l)) else v)
  d.holdEq l (if v.getLsbD 8 then d' else d'.setHl l { d'.hl l with ctleAt := none })

/-- An RS(544,514) codeword of an Ethernet client (R271). -/
def Dev.rsCodeword (c : Nat) (corrected uncorrected : Bool) (d : Dev) : Dev :=
  if !isEthernet (d.clientType c) then d else
    let d := d.incWide (Reg.HST_CLIENT_CW_LO c) 48 1
    if uncorrected then (d.incWide (Reg.HST_CLIENT_UNCORR_LO c) 48 1).raise 260
    else if corrected then d.incWide (Reg.HST_CLIENT_CORR_LO c) 48 1
    else d

/-- The PCS of an Ethernet client gains or loses lane alignment, the degraded-SER condition, or a remote fault (R271). -/
def Dev.pcsAlignment (c : Nat) (aligned hiSer rf : Bool) (d : Dev) : Dev :=
  if !isEthernet (d.clientType c) then d else
    (((d.put (Fld.HST_CLIENT_STATUS.ALIGN c) (bit aligned)).put (Fld.HST_CLIENT_STATUS.HI_SER c) (bit hiSer)).put
      (Fld.HST_CLIENT_STATUS.RF_RX c) (bit rf)).hstCheck

/-! ### Frame lock and boundary (R279, R263) -/

/-- What the delineation of lane l counts (R279). -/
def Dev.setSync (d : Dev) (l good badSync : Nat) : Dev := d.setHl l { d.hl l with good := good, badSync := badSync }

/-- Three valid frames declare FRAME_LOCK on a spill lane in UP (R279). -/
def Dev.frameLock (l : Nat) (d : Dev) : Dev :=
  if d.laneRole l = 2 ∧ d.laneUp l ∧ 3 ≤ (d.hl l).good then ((d.put (Fld.HST_TSU_STATUS.FRAME_LOCK l) 1).setSync l 0 0).hstCheck else d

/-- Eight frames with bad SYNC lose FRAME_LOCK, and the search begins again (R279). -/
def Dev.frameLockLoss (l : Nat) (d : Dev) : Dev :=
  if 8 ≤ (d.hl l).badSync then ((d.put (Fld.HST_TSU_STATUS.FRAME_LOCK l) 0).setSync l 0 0).hstCheck else d

/-- The Tsucor frame boundary of lane l: its pending GROUP and pending HELLO_CTL become active (R263). -/
def Dev.hstBoundary (l : Nat) (d : Dev) : Dev :=
  if d.held? 8 then d else
    (d.copyShadow (fun a => a == Reg.HST_LANE_CTL l || a == Reg.HST_HELLO_CTL)).hstCheck

/-- What a block reset or a restructuring HOST leaves of the lanes: each in LISTEN or OFF, no partner, no frame lock (R269). -/
def Dev.lanesReset (d : Dev) : Dev :=
  let d := { d with hst := { d.hst with lanes := [] } }
  (Dev.forUpTo 48 (fun d l => (d.partnerOff l).laneBack l) d).hstCheck

/-! ### Meanings -/

/-- OCTET_RELOCK (R254). -/
def execOctetRelock (req : Requester) (g : Fin 6) (value : Word) := runWrite req 8 (Dev.octetWrite g value)
/-- OCTET_LOCK (R254). -/
def execOctetLock (g : Fin 6) := runBlock 8 (Dev.octetLock g)
/-- OCTET_UNLOCK (R254). -/
def execOctetUnlock (g : Fin 6) := runBlock 8 (Dev.octetUnlock g)
/-- SIGNAL_DETECT (R264). -/
def execSignalDetect (l : Fin 48) (eq : LaneEq) := runBlock 8 (Dev.signalDetect l eq)
/-- SIGNAL_LOSS (R264). -/
def execSignalLoss (l : Fin 48) := runBlock 8 (Dev.signalLoss l)
/-- TRAIN_DONE (R265). -/
def execTrainDone (l : Fin 48) (eq : LaneEq) := runBlock 8 (Dev.trainDone l eq)
/-- TRAIN_TIMEOUT (R266). -/
def execTrainTimeout (l : Fin 48) := runBlock 8 (Dev.trainTimeout l)
/-- RETRY_TIMER (R267). -/
def execRetryTimer (l : Fin 48) := runBlock 8 (Dev.retryTimer l)
/-- LANE_RESTART (R265). -/
def execLaneRestart (req : Requester) (l : Fin 48) := runWrite req 8 (Dev.laneRestart l)
/-- LANE_CTL_WRITE (R263). -/
def execLaneCtlWrite (req : Requester) (w : LaneWrite) := runWrite req 8 (Dev.laneCtlWrite w)
/-- TX_FIR_WRITE (R262). -/
def execTxFirWrite (req : Requester) (l : Fin 48) (reg : Fin 2) (value : Word) := runWrite req 8 (Dev.txFirWrite l reg value)
/-- PRBS_LOCK (R274). -/
def execPrbsLock (seen : PrbsBits) := runBlock 8 (Dev.prbsLock seen)
/-- PRBS_LOSS (R274). -/
def execPrbsLoss (l : Fin 48) (errs : PrbsErrs) := runBlock 8 (Dev.prbsLoss l errs)
/-- PRBS_CNT_CLR (R274). -/
def execPrbsCntClr (req : Requester) (l : Fin 48) := runWrite req 8 (Dev.prbsCntClr l)
/-- RS_CODEWORD (R271). -/
def execRsCodeword (c : Fin 48) (corrected uncorrected : Bool) := runBlock 8 (Dev.rsCodeword c corrected uncorrected)
/-- CLIENT_CNT_CLR (R271). -/
def execClientCntClr (req : Requester) (c : Fin 48) := runWrite req 8 (Dev.clientCntClr c)
/-- PCS_LANE_ALIGNMENT (R271). -/
def execPcsLaneAlignment (c : Fin 48) (aligned hiSer remoteFault : Bool) := runBlock 8 (Dev.pcsAlignment c aligned hiSer remoteFault)
/-- FRAME_LOCK (R279). -/
def execFrameLock (l : Fin 48) := runBlock 8 (Dev.frameLock l)
/-- FRAME_LOCK_LOSS (R279). -/
def execFrameLockLoss (l : Fin 48) := runBlock 8 (Dev.frameLockLoss l)

end Sys2Proof.Machine
end

