-- ==== Sys2Proof/Machine/TsucorFrame.lean ====
section
/-! DEFINITION. The Tsucor frame: CRC-32C, its bytes, sending it on a lane (R277 to R281). -/

namespace Sys2Proof.Machine

/-- One bit of the reflected CRC-32C register (R278). -/
def crcBit (c : Word) : Word := if c.getLsbD 0 then (c >>> 1) ^^^ 0x82F63B78 else c >>> 1

/-- One byte of CRC-32C. -/
def crcByte (c : Word) (b : Byte) : Word :=
  crcBit (crcBit (crcBit (crcBit (crcBit (crcBit (crcBit (crcBit (c ^^^ b.setWidth 32))))))))

/-- CRC-32C of a byte string (R278). -/
def crc32c (l : List Byte) : Word := ~~~(l.foldl crcByte 0xFFFFFFFF)

/-- Bytes 0 to 539 of a frame (Table 4 of 09_host_lanes.md). -/
def TsuFrame.body (f : TsuFrame) : List Byte :=
  [0x7D#8, 0x2B#8, BitVec.ofNat 8 f.kind,
    (if f.first then 0x80#8 else 0#8) ||| (if f.last then 0x40#8 else 0#8)] ++
  beBytes 2 f.queue ++ beBytes 2 f.len ++ beBytes 4 f.seq ++ beBytes 4 f.page ++ beBytes 2 f.offset ++ beBytes 2 f.tag ++
  beBytes 4 f.arg ++ beBytes 4 0 ++ sliceBytes (f.data.take f.len) 0 512

/-- The 544 bytes of a frame. -/
def TsuFrame.bytes (f : TsuFrame) : List Byte := f.body ++ beBytes 4 (crc32c f.body).toNat

/-- The big-endian number in n bytes at an offset. -/
def beAt (l : List Byte) (off n : Nat) : Nat := beNat (sliceBytes l off n)

/-- Whether received bytes are a whole frame with a valid CRC. -/
def tsuCrcOk (l : List Byte) : Bool :=
  decide (l.length = 544) && decide (beAt l 540 4 = (crc32c (l.take 540)).toNat)

/-- The frame that received bytes spell. -/
def tsuParse (l : List Byte) : TsuFrame :=
  { kind := beAt l 2 1, first := (l.getD 3 0).getLsbD 7, last := (l.getD 3 0).getLsbD 6, queue := beAt l 4 2,
    len := beAt l 6 2, seq := beAt l 8 4, page := beAt l 12 4, offset := beAt l 16 2 % 4096, tag := beAt l 18 2,
    arg := beAt l 20 4, data := sliceBytes l 28 (min 512 (beAt l 6 2)) }

/-- Whether a kind is numbered per queue: STREAM, PAGE_WRITE and PAGE_DATA (R280). -/
def dataBearing (k : Nat) : Bool := k == 1 || k == 2 || k == 4

/-- A frame is accepted on lane l (Table 14). -/
def Dev.countRx (d : Dev) (l : Nat) : Dev := d.incWide (Reg.HST_TSU_RX_LO l) 48 1
/-- A frame is dropped on lane l (R282). -/
def Dev.tsuDrop (d : Dev) (l : Nat) : Dev := (d.incSat (Fld.HST_TSU_ERR_CNT.DROP l)).raise 264

/-- Count a frame sent on lane l (Table 14). -/
def Dev.countTx (d : Dev) (l n : Nat) : Dev := d.incWide (Reg.HST_TSU_TX_LO l) 48 n

/-- n frames go out on lane l: IDLE frames have filled it up to now (R281), and these fill it further. -/
def Dev.lineFill (d : Dev) (l n : Nat) : Dev :=
  let d := d.fillIdle l
  let v := d.hl l
  d.setHl l { v with frames := v.frames + n, filledTo := v.filledTo + n * d.frameTime l }

/-- All frames that lane l has sent up to now. -/
def Dev.framesNow (d : Dev) (l : Nat) : Nat := (d.hl l).frames + d.idleFrames l

/-- Stuff symbols that lane l has sent since STUFF was last read (R276): a frame of 2,176 symbols has at most 70. -/
def Dev.stuffCount (d : Dev) (l : Nat) : Nat :=
  min 4095 ((List.range (d.framesNow l - (d.hl l).stuffFrom)).foldl (fun n i => n + min 70 (Config.stuffed l ((d.hl l).stuffFrom + i))) 0)

/-- A read of STUFF clears it. -/
def Dev.stuffRead (d : Dev) (l : Nat) : Dev := d.setHl l { d.hl l with stuffFrom := d.framesNow l }

/-- Send a frame on lane l: it takes its SEQ (R280) and counts as sent unless IDLE. -/
def Dev.tsuSend (d : Dev) (l : Nat) (f : TsuFrame) : Dev :=
  let d := d.lineFill l 1
  if dataBearing f.kind then
    let n := Sparse.get 0 d.hst.queueSeq f.queue
    { d with hst := { d.hst with
        queueSeq := Sparse.put 0 d.hst.queueSeq f.queue ((n + 1) % 2 ^ 32),
        sent := d.hst.sent ++ [TsuSent.frame l { f with seq := n }] } }.countTx l 1
  else
    let v := d.hl l
    let d := d.setHl l { v with txSeq := (v.txSeq + 1) % 2 ^ 32 }
    let d := { d with hst := { d.hst with sent := d.hst.sent ++ [TsuSent.frame l { f with seq := v.txSeq }] } }
    if f.kind = 0 then d else d.countTx l 1

/-- Whether a partner's ROLE serves page traffic, or stream traffic (Table 6 of 09_host_lanes.md). -/
def roleServes (role : Nat) (paging : Bool) : Bool := role == 3 || (if paging then role == 1 else role == 2)

/-- The lanes of group g that count under R308 for paging, or for streams: UP, in FRAME_LOCK, not excluded, with a partner
that serves the traffic. -/
def Dev.groupLanes (d : Dev) (g : Nat) (paging : Bool) : List Nat :=
  (d.partneredLanes g).filter (fun l => d.laneUp l && d.isSet (Fld.HST_TSU_STATUS.FRAME_LOCK l) &&
    !d.isSet (Fld.HST_TSU_STATUS.MISMATCH l) && roleServes (d.get (Fld.HST_TSU_STATUS.PROLE l)) paging)

/-- The rate of lane l in Gbit/s of data (R307). -/
def Dev.laneRate (d : Dev) (l : Nat) : Nat := if d.octetHalf (l / 8) then 100 else 200

/-- The lanes of forwarded group g (R467): lanes with the SPILL role and that group that CHAIN claims. -/
def Dev.forwardLanes (d : Dev) (g : Nat) : List Nat :=
  (List.range 48).filter (fun l => d.claimed l && d.octetEn (l / 8) && decide (d.get (Fld.HST_LANE_CTL.ROLE l) = 2) &&
    decide (d.laneGroup l = g))

/-- Whether group g is forwarded over Horug. -/
def Dev.groupForwarded (d : Dev) (g : Nat) : Bool :=
  d.isSet (Fld.CHN_SPILL_MAP.EN g) && !(d.forwardLanes g).isEmpty

end Sys2Proof.Machine
end

