-- ==== Sys2Proof/Machine/Firmware.lean ====
section
/-! DEFINITION. Block SEC: fuses, signers, firmware images, the boot flash (R66, R67, R478 to R482, R495). -/

namespace Sys2Proof.Machine

/-! ### Signers (R66, R67) -/

/-- Whether customer key k is enrolled and not revoked. -/
def Fuses.keyGood (f : Fuses) (k : Nat) : Bool := f.enrolled.getLsbD k && !f.revoked.getLsbD k
/-- The public key of a customer. -/
def Fuses.customerKey (f : Fuses) (k : Nat) : List Byte := Sparse.get [] f.keys k
/-- Whether R66 accepts a signer: Naiskyn unless CUST_ONLY is burnt, customer k - 1 while its key is good. A SIGNER above 4, for which the
spec names no error code, is not accepted: an image that bears one is refused with KEY (0x08) at offset 0x0D (DESIGN CHOICE,
notes/assumptions/31.md). -/
def Fuses.accepts (f : Fuses) (signer : Nat) : Bool :=
  if signer = 0 then !f.custOnly else decide (signer ≤ 4) && f.keyGood (signer - 1)
/-- The public key of a signer. -/
def Fuses.signerKey (f : Fuses) (signer : Nat) : List Byte :=
  if signer = 0 then Config.naiskynKey else f.customerKey (signer - 1)

/-- The digest field of an image (Table 4, and Table 2 of 02_structure_images.md). -/
def imageDigest (x : List Byte) : List Byte := sliceBytes x (x.length - 144) 48
/-- Whether an image's digest matches. -/
def digestOk (x : List Byte) : Bool := Config.sha384 (x.take (x.length - 144)) == imageDigest x
/-- Whether an image's signature verifies under a key. -/
def signatureOk (key x : List Byte) : Bool :=
  Config.ecdsaVerify key (x.take (x.length - 144)) (sliceBytes x (x.length - 96) 96)

/-! ### Firmware images (R481, R482) -/

/-- Bytes of a bank of a type: 1 Lyfate, 2 application firmware (Table 3). -/
def fwBankSize (type : Nat) : Nat := if type = 1 then 0x100000 else 0x800000
/-- Flash offset of a bank (Table 3). -/
def fwBankAt (type bank : Nat) : Nat := if type = 1 then 0x20000 + 0x100000 * bank else 0x220000 + 0x800000 * bank
/-- LENGTH of an image. -/
def fwLength (x : List Byte) : Nat := leAt x 8 4
/-- VERSION of an image. -/
def fwVersion (x : List Byte) : Nat := leAt x 16 4
/-- SECVER of an image. -/
def fwSecver (x : List Byte) : Nat := leAt x 14 2
/-- SIGNER of an image. -/
def fwSigner (x : List Byte) : Nat := leAt x 12 1

/-- Whether the header of an image of a type follows Table 4. -/
def fwHeaderOk (type : Nat) (x : List Byte) : Bool :=
  decide (208 ≤ x.length) && leAt x 0 4 == 0x57464250 && leAt x 4 2 == 0x0100 && leAt x 6 1 == type && leAt x 7 1 == 0xB0 &&
  fwLength x == x.length && x.length % 8 == 0 && decide (x.length ≤ fwBankSize type) && decide (fwSigner x ≤ 4) &&
  leAt x 13 1 == 0 && (sliceBytes x 0x20 32).all (· == 0) && (type == 2 || fwSigner x == 0)

/-- The counter an image of a type is held against. -/
def Fuses.counter (f : Fuses) (type : Nat) : Nat := if type = 1 then f.lyfSecver else f.secver

/-- The status of an image of a type (R482, Table 6): 0 valid, 0x27 IMAGE, 0x28 ROLLBACK, 0x29 KEY; checked in the order of Table 10
of 02_structure_images.md (DEDUCED, notes/assumptions/15.md). -/
def Fuses.fwCheck (f : Fuses) (type : Nat) (x : List Byte) : Nat :=
  if !fwHeaderOk type x || !digestOk x then 0x27
  else if type = 2 ∧ !f.accepts (fwSigner x) then 0x29
  else if !signatureOk (f.signerKey (fwSigner x)) x then 0x27
  else if fwSecver x < f.counter type then 0x28
  else 0

/-! ### The boot flash (R478 to R480) -/

/-- n bytes of the flash from an offset. -/
def Dev.flashRead (d : Dev) (a n : Nat) : List Byte := (List.range n).map (fun i => Sparse.get (0xFF : Byte) d.sec.flash (a + i))
/-- Bytes written to the flash from an offset on. -/
def flashStore (m : List (Nat × Byte)) (a : Nat) : List Byte → List (Nat × Byte)
  | [] => m
  | b :: r => flashStore (Sparse.put (0xFF : Byte) m a b) (a + 1) r
/-- Erase n bytes of the flash from an offset. -/
def flashErase (m : List (Nat × Byte)) (a n : Nat) : List (Nat × Byte) := m.filter (fun e => !(decide (a ≤ e.1) && decide (e.1 < a + n)))
/-- Erase a range of the flash and program it. -/
def Dev.flashProgram (d : Dev) (a size : Nat) (x : List Byte) : Dev :=
  { d with sec := { d.sec with flash := flashStore (flashErase d.sec.flash a size) a x } }
/-- A range of the flash whose erase, program or read-back failed holds free values. -/
def Dev.flashSpoil (d : Dev) (a size : Nat) : Dev :=
  { d with fresh := d.fresh + 1 }.flashProgram a size ((List.range size).map (Config.freeByte (d.fresh + 1)))

/-- The image in a bank: as many bytes as its LENGTH says; only its first words where that exceeds the bank. -/
def Dev.bankImage (d : Dev) (type bank : Nat) : List Byte :=
  let head := d.flashRead (fwBankAt type bank) 16
  if fwBankSize type < fwLength head then head else d.flashRead (fwBankAt type bank) (fwLength head)

/-- A copy of the bank-select record: SEQ, LYF_BANK, APP_BANK; none where it is not valid (R480). -/
def Dev.bankCopy (d : Dev) (c : Nat) : Option (Nat × Nat × Nat) :=
  let x := d.flashRead (0x10000 * c) 16
  if leAt x 0 4 = 0x52534250 ∧ leAt x 12 4 = (crc32c (x.take 12)).toNat then some (leAt x 4 4, leAt x 8 1, leAt x 9 1) else none

/-- Whether sequence number a is higher than b in serial-number arithmetic. -/
def serialAfter (a b : Nat) : Bool := decide (a ≠ b) && decide ((a + 2 ^ 32 - b) % 2 ^ 32 < 2 ^ 31)

/-- The copy in force and the record it holds. -/
def Dev.bankRecord (d : Dev) : Option (Nat × (Nat × Nat × Nat)) :=
  match d.bankCopy 0, d.bankCopy 1 with
  | some a, some b => if serialAfter b.1 a.1 then some (1, b) else some (0, a)
  | some a, none => some (0, a)
  | none, some b => some (1, b)
  | none, none => none

/-- The bank of a type that the record prefers; bank 0 without a valid record. -/
def Dev.preferredBank (d : Dev) (type : Nat) : Nat :=
  match d.bankRecord with
  | some (_, _, l, a) => (if type = 1 then l else a) % 2
  | none => 0

/-- Which bank of a type boots: the preferred one, else the other; with whether it is the fallback. None where both fail
(R475). -/
def Dev.bootBank (d : Dev) (type : Nat) : Option (Nat × Bool) :=
  let p := d.preferredBank type
  let ok (b : Nat) : Bool := d.sec.fuses.fwCheck type (d.bankImage type b) == 0
  if ok p then some (p, false) else if ok (1 - p) then some (1 - p, true) else none

end Sys2Proof.Machine
end

