-- ==== Sys2Proof/Machine/Boot.lean ====
section
/-! DEFINITION. Block SEC: boot and the watchdog (R472 to R477, R484, 16_boot_firmware_identity.md). -/

namespace Sys2Proof.Machine

/-- Enter a boot stage (Table 2). -/
def Dev.setStage (d : Dev) (n : Nat) : Dev := d.put Fld.SEC_BOOT_STATUS.STAGE n

/-- The ROM waits for RECOVER (R477). -/
def Dev.enterRecovery (d : Dev) : Dev := (d.put Fld.SEC_BOOT_STATUS.RECOVERY 1).setStage 6

/-- A Lyfate image is about to run. -/
def Dev.takeLyfate (d : Dev) (x : List Byte) : Dev :=
  ({ d with sec := { d.sec with lyfDigest := imageDigest x } }.setReg Reg.SEC_LYF_VER (BitVec.ofNat 32 (fwVersion x))).setStage 1

/-- Stage 0: the ROM fetches and verifies a Lyfate bank, or goes to recovery (R472, R475). -/
def Dev.bootRomFetch (d : Dev) : Dev :=
  if d.stage ≠ 0 then d
  else
    let d := d.put Fld.SEC_BOOT_STATUS.BOOT_SEL d.straps.bootSel.toNat
    if d.straps.bootSel = 1 then d.enterRecovery
    else
      let fallback (d : Dev) : Dev := (d.put Fld.SEC_BOOT_STATUS.LYF_FALLBACK 1).causeOn 480
      match d.bootBank 1 with
      | some (b, f) =>
        let d := if f then fallback d else d
        (d.put Fld.SEC_BOOT_STATUS.LYF_BANK b).takeLyfate (d.bankImage 1 b)
      | none => (fallback d).enterRecovery

/-- The identity digest of the module (R403). -/
def identityDigest : Nat := beNat ((Config.sha384 Config.deviceCert).take 8)

/-- Lyfate runs: the DRBG is seeded from a healthy entropy source, the identity digest is written (R473). -/
def Dev.trustedBootComplete (d : Dev) : Dev :=
  if d.stage ≠ 1 then d
  else
    let d := d.setStage 2
    let d := if d.live? 485 then d else d.put Fld.CRY_STATUS.DRBG_OK 1
    (d.setReg64 (Reg.CLP_x_ID_LO 0) identityDigest).setReg64 (Reg.CLP_x_ID_LO 1) identityDigest

/-- Application firmware runs: AC0 to AC3 are released. -/
def Dev.runApp (d : Dev) (x : List Byte) : Dev :=
  ({ d with sec := { d.sec with appDigest := imageDigest x } }.setReg Reg.SEC_APP_VER (BitVec.ofNat 32 (fwVersion x))).setStage 4

/-- Stages 2 and 3: Lyfate verifies the application firmware and releases or holds the cores (R472, R475); in a recovery boot by
BOOT_SEL it reads no bank (R477). -/
def Dev.appLoadDone (d : Dev) : Dev :=
  if (d.stage ≠ 2 ∧ d.stage ≠ 3) ∨ d.straps.bootSel = 1 then d
  else if d.straps.bootSel = 2 then d.setStage 5
  else
    let fallback (d : Dev) : Dev := (d.put Fld.SEC_BOOT_STATUS.APP_FALLBACK 1).causeOn 488
    match d.bootBank 2 with
    | some (b, f) =>
      let d := if f then fallback d else d
      (d.put Fld.SEC_BOOT_STATUS.APP_BANK b).runApp (d.bankImage 2 b)
    | none => ((fallback d).setStage 5).causeOn 487

/-- A kick of the watchdog; any other KEY is ignored (R484). -/
def Dev.wdtKick (key : Nat) (d : Dev) : Dev :=
  if key = 0xA5C3 then { d with sec := { d.sec with kick := d.ticks } }.causeOff 481 else d

/-- The tick at which the watchdog's period ends: PERIOD ms after the last kick, or after EN was set (R484). -/
def Dev.wdtDue (d : Dev) : Nat := d.sec.kick + d.get Fld.SEC_WDT_CTL.PERIOD * 1120000

/-- The watchdog's period ends without a kick (R484). -/
def Dev.wdtExpiry (d : Dev) : Dev :=
  if d.isSet Fld.SEC_WDT_CTL.EN && decide (d.wdtDue ≤ d.ticks) then (d.causeOn 481).setIntSEC 8 else d

/-! ### Meanings -/

/-- BOOT_ROM_FETCH (R475). -/
def execBootRomFetch := runDev Dev.bootRomFetch
/-- TRUSTED_BOOT_COMPLETE (R473). -/
def execTrustedBootComplete := runDev Dev.trustedBootComplete
/-- APP_LOAD_DONE (R475). -/
def execAppLoadDone := runDev Dev.appLoadDone
/-- WDT_KICK (R484). -/
def execWdtKick (req : Requester) (key : BitVec 16) := runWrite req 15 (Dev.wdtKick key.toNat)
/-- WDT_EXPIRY (R484). -/
def execWdtExpiry := runDev Dev.wdtExpiry

end Sys2Proof.Machine
end

