-- ==== Sys2Proof/Machine/Latency.lean ====
section
/-! DEFINITION. Latencies the device reports: converters (R111), DSP (R150) and FEC (R170). -/

namespace Sys2Proof.Machine

/-- Converter latency of port x at its current M, receive or transmit (R111). -/
def Dev.cnvTicks (d : Dev) (x : Nat) (dac : Bool) : Nat := (Config.latency (16 * x + bit dac) 0 (d.lnM x) 0).toNat

/-- DSP latency of port x for its mode, in FREE for its M and decimation (R150). -/
def Dev.dspTicks (d : Dev) (x : Nat) (tx : Bool) : Nat :=
  let free := decide (d.lnMode x = 6)
  (Config.latency (16 * x + 2 + bit tx) (d.lnMode x) (if free then d.lnM x else 0) (if free then d.lnDecim x else 0)).toNat

/-- FEC latency of port x in ticks of 1.12 GHz: n superframes of 2^18 symbols plus a number of ns (R170). -/
def Dev.fecTicks (d : Dev) (x n ns : Nat) : Nat :=
  let r := max 1 (d.symbolRate x)
  let num := 112 * (n * 2 ^ 18 * 1000000000 + ns * r)
  let den := 100 * r
  num / den + (if num % den ≠ 0 ∧ Config.roundUp num den then 1 else 0)

/-- Encode latency of port x. -/
def Dev.encTicks (d : Dev) (x : Nat) : Nat := d.fecTicks x 1 200
/-- Decode latency of port x. -/
def Dev.decTicks (d : Dev) (x : Nat) : Nat := d.fecTicks x 2 600

end Sys2Proof.Machine
end

