-- ==== Sys2Proof/Machine/CaptureTaps.lean ====
section
/-! DEFINITION. Block CAP: taps, their streams and latencies, buffers of capture SRAM, decimation chains
(12_capture_and_pattern.md). -/

namespace Sys2Proof.Machine

/-! ### Taps (R357 to R362) -/

/-- The port of a port tap, none for the taps from T48 on. -/
def tapPort (t : Nat) : Option Nat := if t < 48 then some (t / 24) else none

/-- FMT of a tap's own stream (Tables 1 and 2); client taps use ETH or BYTE by the client. -/
def Dev.tapFmt (d : Dev) (t : Nat) : Nat :=
  if t < 48 then
    let o := t % 24
    if o < 2 ∨ o = 20 ∨ o = 21 then 1
    else if o < 4 ∨ o = 19 then 2
    else if o = 4 then 3
    else if o < 7 ∨ o = 17 ∨ o = 18 then 4
    else if o = 11 ∨ o = 12 then 10
    else if o = 22 ∨ o = 23 then 8
    else 5
  else if t < 60 then 6
  else if t < 76 then (if isEthernet (d.clientType (d.get (Fld.CAP_TAP_SEL.SEL t))) then 7 else 5)
  else if t < 88 then 5
  else if t = 92 ∨ t = 93 then 7
  else 8

/-- Whether a tap takes its data from the device's own event or Calliope entries. -/
def Dev.isEventTap (d : Dev) (t : Nat) : Bool := d.tapFmt t == 8 || d.tapFmt t == 10

/-- Whether a tap is a transmit tap (R362). -/
def tapTx (t : Nat) : Bool :=
  if t < 48 then decide (12 ≤ t % 24) && decide (t % 24 ≠ 22)
  else (decide (54 ≤ t) && decide (t < 60)) || (decide (68 ≤ t) && decide (t < 76)) || (decide (80 ≤ t) && decide (t < 84)) ||
    t == 86 || t == 87 || t == 93

/-- Peak rate of a tap in units of 10 Mbit/s (Table 1); 0 where it gives none. -/
def tapPeak (t : Nat) : Nat :=
  if t < 48 then
    let o := t % 24
    if o < 2 ∨ o = 20 ∨ o = 21 then 1075000
    else if o < 4 ∨ o = 19 then 860000
    else if o = 4 then 2125000
    else if o = 18 then 423000
    else if o = 11 ∨ o = 12 ∨ o = 22 ∨ o = 23 then 0
    else 337000
  else if t < 60 then 170000
  else if t < 76 then 161000
  else if t < 84 then 337000
  else if t < 88 then 85000
  else if t = 92 ∨ t = 93 then 1000
  else 0

/-- Whether a tap delivers units (Table 1). -/
def tapUnits (t : Nat) : Bool :=
  if t < 48 then decide (2 ≤ t % 24) && decide (t % 24 ≠ 20) && decide (t % 24 ≠ 21) else !(decide (t < 60))

/-- The region of the block at a tap's point of observation; none for event taps and management Ethernet. -/
def tapRegion (t : Nat) : Option Nat :=
  if t < 48 then
    let o := t % 24
    if o = 22 ∨ o = 23 then none
    else if (6 ≤ o ∧ o ≤ 10) ∨ (13 ≤ o ∧ o ≤ 17) then some 3
    else some (1 + t / 24)
  else if t < 76 then some 4
  else if t < 84 then some 3
  else if t < 88 then some 7
  else none

/-- The block at a tap's point of observation; none for event taps and management Ethernet. -/
def tapBlock (t : Nat) : Option Nat :=
  if t < 48 then
    let o := t % 24
    if o = 22 ∨ o = 23 then none
    else if o = 5 ∨ o = 18 then some 4
    else if (6 ≤ o ∧ o ≤ 10) ∨ (13 ≤ o ∧ o ≤ 17) then some 5
    else if o = 11 ∨ o = 12 then some 12
    else some (2 + t / 24)
  else if t < 76 then some 8
  else if t < 84 then some 5
  else if t < 88 then some 14
  else none

/-- Whether what a selectable tap selects exists (R360). -/
def Dev.tapSelected (d : Dev) (t : Nat) : Bool :=
  let sel := d.get (Fld.CAP_TAP_SEL.SEL t)
  let slot := d.isSet (Fld.CAP_TAP_SEL.SLOT t)
  if t < 48 then
    let o := t % 24
    if (7 ≤ o ∧ o ≤ 10) ∨ (13 ≤ o ∧ o ≤ 16) then
      (if slot then decide (sel < 20 * d.nAct (t / 24)) else (d.flowOf sel).isSome)
    else true
  else if 60 ≤ t ∧ t < 76 then decide (sel < 48) && decide (d.clientType sel ≠ 0)
  else if 76 ≤ t ∧ t < 84 then (d.flowOf sel).isSome
  else true

/-- Tap t beside its registers. -/
def Dev.tap (d : Dev) (t : Nat) : TapState := Sparse.get {} d.cap.taps t
/-- Replace tap t. -/
def Dev.setTap (d : Dev) (t : Nat) (v : TapState) : Dev := { d with cap := { d.cap with taps := Sparse.put {} d.cap.taps t v } }
/-- State code of tap t: 0 IDLE, 1 CAPTURING, 2 WAITING, 3 POST. -/
def Dev.tapState (d : Dev) (t : Nat) : Nat := d.get (Fld.CAP_TAP_STATUS.STATE t)
/-- Destination of tap t. -/
def Dev.tapDest (d : Dev) (t : Nat) : Nat := d.get (Fld.CAP_TAP_STATUS.DEST t)

/-- Whether the source of tap t exists and works: its region runs, its block is not in reset (R51) and what it selects exists (R360). -/
def Dev.tapSourceHere (d : Dev) (t : Nat) : Bool :=
  (match tapRegion t with | some r => d.regionRuns r | none => true) &&
    (match tapBlock t with | some b => !d.inReset b | none => true) && d.tapSelected t

/-- Whether the source of tap t produces data (R360, R372). -/
def Dev.tapSourceOk (d : Dev) (t : Nat) : Bool := d.tapSourceHere t && !(d.tap t).lost

/-- Whether the output of a source endpoint comes from source endpoint want through the ODU-level blocks CRY and MRG. -/
def Dev.tracesTo (d : Dev) (want : Nat) : Nat → Nat → Nat → Bool
  | 0, _, _ => false
  | n + 1, src, inst =>
    src == want ||
      (let sinks : List Nat := match src with
        | 0x600 => [0x600]
        | 0x601 => [0x601]
        | 0x700 => [0x701, 0x702]
        | 0x704 => [0x703]
        | 0x705 => [0x703]
        | _ => []
       sinks.any (fun k => match d.feeds 3 k inst with
        | some (s, i) => Dev.tracesTo d want n s i
        | none => false))

/-- Whether the sink of flow f at the ODU level gets data from a source endpoint. -/
def Dev.sinkTraces (d : Dev) (want sink f : Nat) : Bool :=
  match d.feeds 3 sink f with
  | some (s, i) => d.tracesTo want 8 s i
  | none => false

/-- Whether the samples of port x's ADCs reach its DSP. -/
def Dev.rxPathDsp (d : Dev) (x : Nat) : Bool := d.feeds 0 (0x201 + 0x100 * x) noInst == some (0x200 + 0x100 * x, noInst)
/-- Whether they reach its FEC decoder. -/
def Dev.rxPathDec (d : Dev) (x : Nat) : Bool := d.rxPathDsp x && d.feeds 1 (0x400 + x) noInst == some (0x204 + 0x100 * x, noInst)
/-- Whether they reach its framer. -/
def Dev.rxPathOtu (d : Dev) (x : Nat) : Bool := d.rxPathDec x && d.feeds 2 (0x500 + x) noInst == some (0x400 + x, noInst)
/-- Whether port x's DSP feeds its DACs. -/
def Dev.txPathDsp (d : Dev) (x : Nat) : Bool := d.feeds 0 (0x203 + 0x100 * x) noInst == some (0x202 + 0x100 * x, noInst)
/-- Whether its FEC encoder does through the mapper. -/
def Dev.txPathEnc (d : Dev) (x : Nat) : Bool := d.txPathDsp x && d.feeds 1 (0x205 + 0x100 * x) noInst == some (0x402 + x, noInst)
/-- Whether its framer does through the encoder. -/
def Dev.txPathOtu (d : Dev) (x : Nat) : Bool := d.txPathEnc x && d.feeds 2 (0x402 + x) noInst == some (0x502 + x, noInst)

/-- LAT_VALID of tap t (R361). -/
def Dev.latValid (d : Dev) (t : Nat) : Bool :=
  let x := t / 24
  let f := d.get (Fld.CAP_TAP_SEL.SEL t)
  if t < 48 then
    match t % 24 with
    | 0 => d.regionRuns (1 + x)
    | 1 => d.rxPathDsp x
    | 2 => d.rxPathDsp x
    | 3 => d.rxPathDsp x
    | 4 => d.rxPathDsp x
    | 5 => d.rxPathDec x
    | 6 => d.rxPathOtu x
    | 7 => d.rxPathOtu x
    | 8 => d.rxPathOtu x
    | 9 => d.rxPathOtu x
    | 10 => d.rxPathOtu x
    | 11 => d.regionRuns (1 + x)
    | 12 => d.regionRuns (1 + x)
    | 18 => d.txPathEnc x
    | 19 => d.txPathDsp x
    | 20 => d.txPathDsp x
    | 21 => d.regionRuns (1 + x)
    | 22 => d.regionRuns (1 + x)
    | 23 => d.regionRuns (1 + x)
    | _ => d.txPathOtu x
  else if 76 ≤ t ∧ t < 80 then d.rxPathOtu (d.flowPort f) && d.sinkTraces 0x504 0x507 f
  else if 80 ≤ t ∧ t < 84 then d.txPathOtu (d.flowPort f) && d.sinkTraces 0x506 0x505 f
  else true

/-- The latency L of tap t to its reference plane in fabric ticks (Table 3); c is 8 ticks and f a fixed part of the tap. -/
def Dev.tapTicks (d : Dev) (t : Nat) : Nat :=
  let f := (Config.latency (64 + t) 0 0 0).toNat
  let x := if t < 48 then t / 24 else d.flowPort (d.get (Fld.CAP_TAP_SEL.SEL t))
  let a := d.cnvTicks x false
  let dc := d.cnvTicks x true
  let rxDec := a + d.dspTicks x false + 8 + d.decTicks x
  let txEnc := dc + 8 + d.dspTicks x true + 8
  let txOtu := txEnc + 8 + d.encTicks x
  if t < 48 then
    match t % 24 with
    | 0 => a
    | 1 => a + f
    | 2 => a + f
    | 3 => a + f
    | 4 => a + d.dspTicks x false
    | 5 => rxDec
    | 6 => rxDec + 8 + f
    | 7 => rxDec + 8 + f
    | 8 => rxDec + 8 + f
    | 9 => rxDec + 8 + f
    | 10 => rxDec + 8 + f
    | 11 => a + f
    | 12 => dc + 8 + f
    | 17 => txOtu
    | 18 => txEnc
    | 19 => dc + 8 + f
    | 20 => dc + 8
    | 21 => dc
    | 22 => a + f
    | 23 => dc + 8 + f
    | _ => txOtu + f
  else if 76 ≤ t ∧ t < 80 then rxDec + 8 + f
  else if 80 ≤ t ∧ t < 84 then txOtu + f
  else f

/-- Windows of tap t at pre-matcher x, x = 16t + m: compared while the tap produces data (R351); a tap without units has no window numbers
(R348). -/
def Dev.pmWindows (x : Nat) (ws : List (Option Nat × BitVec 512)) (d : Dev) : Dev :=
  if !d.tapSourceOk (x / 16) then d
  else d.pmTick x (if tapUnits (x / 16) then ws else ws.map (fun w => (none, w.2)))

/-- PM_MATCH (R350). -/
def execPmMatch (matcher : Fin 1536) (windows : List (Option Nat × BitVec 512)) := runDev (Dev.pmWindows matcher windows)

/-! ### Windows (R358, R359) -/

/-- A component of 8 bits in two's complement, saturated (Table 2). -/
def sampleByte (v : Int) : Byte := BitVec.ofInt 8 (clampInt (-128) 127 v)

/-- A window's bits as bytes, its first bit the most significant of its first byte (R358). -/
def packBits (l : List Bool) : List Byte :=
  (List.range 64).map (fun j => (List.range 8).foldl (fun b i => 2 * b + (if l.getD (8 * j + i) false then 1 else 0)) 0)

/-- The 64 bytes of a window (R358, Table 2); what is missing of the last window of a unit is zero. -/
def windowBytes : WindowData → List Byte
  | .samples l => sliceBytes (l.flatMap (fun s => [sampleByte s.xi, sampleByte s.xq, sampleByte s.yi, sampleByte s.yq])) 0 64
  | .llrs l => packBits (((l.take 102).flatMap (fun v => (List.range 5).map (fun i => v.getLsbD (4 - i)))))
  | .bits l => packBits l
  | .lanes l => packBits ((List.range 8).flatMap (fun i => (List.range 64).map (fun j => (l.getD i []).getD j false)))
  | .octets l => sliceBytes l 0 64

/-- Whether a tap of a format delivers such windows: S8 and Y8 samples, L5, BIT, LANE, BYTE. -/
def windowFits (w : WindowData) (fmt : Nat) : Bool :=
  match w with
  | .samples _ => fmt == 1 || fmt == 2
  | .llrs _ => fmt == 3
  | .bits _ => fmt == 4
  | .lanes _ => fmt == 6
  | .octets _ => fmt == 5

/-- LSB of a Y8 component for one grid unit (Table 2). -/
def gridLsb (fmt : Nat) : Nat := if fmt = 0 then 28 else if fmt = 1 then 14 else 7

/-- A symbol pair in grid units at a Y8 tap, as the mapper sends it (Table 2, R119). -/
def symbolSample (fmt : Nat) (x y : Int × Int) : Sample4 :=
  { xi := gridLsb fmt * x.1, xq := gridLsb fmt * x.2, yi := gridLsb fmt * y.1, yq := gridLsb fmt * y.2 }

/-- Windows of a unit of tap t (R359); none where the tap has no unit, or each frame and entry is one of its own. -/
def Dev.unitWindows (d : Dev) (t : Nat) : Option Nat :=
  let up (n : Nat) : Nat := (n + 511) / 512
  if t < 48 then
    let x := t / 24
    let p := packing (d.fecFmt x)
    match t % 24 with
    | 2 => some 16384
    | 3 => some 16384
    | 19 => some 16384
    | 4 => some ((superDims * p.m + 101) / 102)
    | 5 => some (up p.otuBits)
    | 18 => some (up (superDims * p.m))
    | 6 => some (239 * d.nAct x)
    | 17 => some (239 * d.nAct x)
    | 7 | 8 | 9 | 10 | 13 | 14 | 15 | 16 => some (if d.isSet (Fld.CAP_TAP_SEL.SLOT t) then 238 else 239)
    | _ => none
  else if 60 ≤ t ∧ t < 76 then (if d.tapFmt t = 5 then some 64 else none)
  else if 76 ≤ t ∧ t < 84 then some 239
  else if 84 ≤ t ∧ t < 88 then some 17
  else none

/-- Whether a window of an index is one of a unit of tap t. -/
def Dev.inUnit (d : Dev) (t uoff : Nat) : Bool :=
  match d.unitWindows t with
  | some n => decide (uoff < n)
  | none => true

/-- The codes that stand at tap t where its point of observation gives code 0: RX_ADC for an ADC in OFF or LOCKING (R91), TX_DAC for a sink
that is unconnected or fed by a transmit half that is off (R30, R145). Byte j of an S8 window belongs to dimension j mod 4. -/
def Dev.tapBytes (d : Dev) (t : Nat) (l : List Byte) : List Byte :=
  if t < 48 ∧ t % 24 = 0 then l.mapIdx (fun j b => d.adcCode (t / 24) (j % 4) b)
  else if t < 48 ∧ t % 24 = 21 ∧ d.dacIdle (t / 24) then l.map (fun _ => 0)
  else l

/-- The samples that enter a decimation chain at tap t, likewise. -/
def Dev.tapSamples (d : Dev) (t : Nat) (l : List Sample4) : List Sample4 :=
  let off (c : Nat) : Bool := decide (t < 48) && (decide (t % 24 = 0 ∧ d.cnvState (t / 24) c ≤ 1) || (t % 24 == 21 && d.dacIdle (t / 24)))
  l.map (fun s => { xi := if off 0 then 0 else s.xi, xq := if off 1 then 0 else s.xq, yi := if off 2 then 0 else s.yi,
                    yq := if off 3 then 0 else s.yq })

/-- The timestamp of data of tap t with tap time u, and whether it is raw (R362). -/
def Dev.stamp (d : Dev) (t u : Nat) : Nat × Bool :=
  if !d.latValid t then (u, true)
  else if tapTx t then (u + ticksTime (d.tapTicks t), false)
  else (u - ticksTime (d.tapTicks t), false)

/-! ### Buffers of capture SRAM (R363 to R365) -/

/-- Bytes of a bank. -/
def bankBytes : Nat := 0x1000000
/-- BANKS of buffer b. -/
def Dev.bufBanks (d : Dev) (b : Nat) : Nat := max 1 (d.get (Fld.CAP_SBUF_CTL.BANKS b))
/-- FIRST of buffer b. -/
def Dev.bufFirst (d : Dev) (b : Nat) : Nat := d.get (Fld.CAP_SBUF_CTL.FIRST b)
/-- Payload bytes of buffer b (R370). -/
def Dev.bufCapacity (d : Dev) (b : Nat) : Nat := d.bufBanks b * bankBytes - 64
/-- Capture SRAM address of byte a of buffer b (R363). -/
def Dev.bufAddr (d : Dev) (b a : Nat) : Nat :=
  let n := d.bufBanks b
  (d.bufFirst b + a / 512 % n) * bankBytes + a / (512 * n) * 512 + a % 512
/-- OWNER of buffer b: a tap, 128 + a player, or 0xFF. -/
def Dev.bufOwner (d : Dev) (b : Nat) : Nat := d.get (Fld.CAP_SBUF_STATUS.OWNER b)
/-- Whether buffer b is enabled and without CFG_ERR. -/
def Dev.bufUsable (d : Dev) (b : Nat) : Bool := d.isSet (Fld.CAP_SBUF_CTL.EN b) && !d.isSet (Fld.CAP_SBUF_STATUS.CFG_ERR b)

/-- Whether an enabled buffer breaks R364. -/
def Dev.bufBad (d : Dev) (b : Nat) : Bool :=
  let lo (i : Nat) := d.bufFirst i
  let hi (i : Nat) := d.bufFirst i + d.bufBanks i
  d.isSet (Fld.CAP_SBUF_CTL.EN b) && (decide (12 < hi b) ||
    (List.range 16).any (fun c => decide (c ≠ b) && d.isSet (Fld.CAP_SBUF_CTL.EN c) && decide (lo b < hi c) && decide (lo c < hi b)))

/-- CFG_ERR of every buffer and CAP.04 (R364). -/
def Dev.bufCheck (d : Dev) : Dev :=
  let bad := (List.range 16).map d.bufBad
  (Dev.forUpTo 16 (fun d b => d.put (Fld.CAP_SBUF_STATUS.CFG_ERR b) (bit (bad.getD b false))) d).causeIs 356 (bad.any id)

/-- Fields of buffer b that were held while it had an owner take effect (R394). -/
def Dev.bufBoundary (d : Dev) (b : Nat) : Dev :=
  if d.held? 11 || d.bufOwner b != 0xFF then d
  else (d.copyShadow (fun a => a == Reg.CAP_SBUF_CTL b || a == Reg.CAP_SBUF_POST b)).bufCheck

/-- The boundary of every buffer without an owner: none is in use, so that fields pending after a hold take effect at the block's next
boundary (R37, R39). -/
def Dev.freeBufBoundary (d : Dev) : Dev := Dev.forUpTo 16 Dev.bufBoundary d

/-- Buffer b becomes free. -/
def Dev.bufFree (d : Dev) (b : Nat) : Dev := (d.put (Fld.CAP_SBUF_STATUS.OWNER b) 0xFF).bufBoundary b

/-- Write bytes into buffer b from buffer byte a on. -/
def State.bufWrite (b a : Nat) : List Byte → State → State
  | [], s => s
  | v :: r, s => State.bufWrite b (a + 1) r { s with sram := s.sram.write (s.dev.bufAddr b a) v }

/-- n bytes of buffer b from buffer byte a on. -/
def State.bufRead (s : State) (b a : Nat) : Nat → List Byte
  | 0 => []
  | n + 1 => s.sram.read (s.dev.bufAddr b a) :: s.bufRead b (a + 1) n

/-! ### Decimation chains (R380 to R385) -/

/-- Whether a tap may take a chain (R380). -/
def mayDecimate (t : Nat) : Bool := decide (t < 48) && (decide (t % 24 < 4) || decide (19 ≤ t % 24 ∧ t % 24 ≤ 21))
/-- Whether tap t records the output of a chain. -/
def Dev.decimates (d : Dev) (t : Nat) : Bool := mayDecimate t && d.isSet (Fld.CAP_TAP_CTL.DEC_EN t)
/-- k in use of chain c. -/
def Dev.chainK (d : Dev) (c : Nat) : Nat := clampNat 1 10 (d.get (Fld.CAP_DEC_CTL.K c))
/-- The tap that chain c serves: one that captures through it, else the lowest that selects it (DEDUCED,
notes/assumptions/13.md). -/
def Dev.chainTap (d : Dev) (c : Nat) : Option Nat :=
  let l := (List.range 48).filter (fun t => d.decimates t && d.get (Fld.CAP_TAP_CTL.DEC t) == c)
  match l.find? (fun t => d.tapState t != 0) with
  | some t => some t
  | none => l.head?

/-- Input samples or symbols of a tap in a second. -/
def Dev.tapRate (d : Dev) (t : Nat) : Nat :=
  let x := t / 24
  if t % 24 = 2 ∨ t % 24 = 3 ∨ t % 24 = 19 then d.symbolRate x
  else if t % 24 = 1 ∨ t % 24 = 20 then d.lnM x * 6720000000 / d.lnDecim x
  else d.lnM x * 6720000000

/-- Unsettled outputs after a reset (R383). -/
def unsettledOutputs (k : Nat) : Nat := 140 - 45 / 2 ^ k

/-- Outputs of chain c formed since its reset. -/
def Dev.chainOutputs (d : Dev) (c : Nat) : Nat :=
  match d.chainTap c with
  | some t => (d.ticks - Sparse.get 0 d.cap.resetAt c) * d.tapRate t * 25 / (28 * 10 ^ 9) / 2 ^ d.chainK c + 1
  | none => 1

/-- UNSET_LEFT of chain c. -/
def Dev.unsetLeft (d : Dev) (c : Nat) : Nat := unsettledOutputs (d.chainK c) - d.chainOutputs c

/-- Half-band tap n of Table 7, in 2^-17. -/
def halfBand (n : Nat) : Int :=
  match n with
  | 0 => 65536
  | 1 => 41429
  | 3 => -13052
  | 5 => 6987
  | 7 => -4194
  | 9 => 2572
  | 11 => -1547
  | 13 => 890
  | 15 => -479
  | 17 => 233
  | 19 => -97
  | 21 => 29
  | 23 => -3
  | _ => 0

/-- The taps of Table 8 from n = 0, in 2^-17. -/
def finalFir : List Int :=
  [111412, 18908, -16759, 13520, -9645, 5646, -2017, -855, 2737, -3578, 3494, -2725, 1581, -371, -648, 1312] ++
  [-1562, 1436, -1040, 516, 0, -400, 626, -669, 562, -363, 138, 60, -194, 251, -239, 180] ++
  [-100, 22, 36, -67, 73, -61, 39, -17, 0, 9, -12, 10, -6, 2, 0, 0]

/-- A symmetric filter of 2m + 1 taps applied at the head of a sequence. -/
def firAt (h : Nat → Int) (m : Nat) (l : List Int) : Int :=
  (List.range (2 * m + 1)).foldl (fun a i => a + h (max i m - min i m) * l.getD i 0) 0

/-- A half-band stage that keeps every second output. -/
def halfBandStage (l : List Int) : List Int :=
  (List.range ((l.length - 46 + 1) / 2)).map (fun j => firAt halfBand 23 (l.drop (2 * j)))

/-- The final filter at the output rate. -/
def finalStage (l : List Int) : List Int :=
  (List.range (l.length - 94)).map (fun j => firAt (fun n => finalFir.getD n 0) 47 (l.drop j))

/-- k half-band stages and the final filter: values in units of 2^(-17(k+1)) input LSB. -/
def chainFilter : Nat → List Int → List Int
  | 0, l => finalStage l
  | k + 1, l => chainFilter k (halfBandStage l)

/-- The quotient of an exact value by a positive number, to the nearest integer, ties away from zero. -/
def roundAway (v : Int) (n : Nat) : Int :=
  if 0 ≤ v then (2 * v + n) / (2 * n) else -((2 * (-v) + n) / (2 * n))

/-- The output of a chain for an exact value, before saturation: 256 × the value in input LSB, rounded (R380). -/
def chainRound (k : Nat) (v : Int) : Int := roundAway (256 * v) (131072 ^ (k + 1))

/-- A signed 16-bit value in stream order. -/
def be16 (i : Int) : List Byte := beBytes 2 (ofSigned 16 i)

/-- The exact outputs of chain c from its input samples, in 1/256 input LSB before saturation, the first output being number m (R380, R383):
inputs numbered 0 or below count as zero. -/
def Dev.decimateExact (d : Dev) (c m : Nat) (l : List Sample4) : List Sample4 :=
  let k := d.chainK c
  let before := (140 * 2 ^ k - 46 + 1) - min (140 * 2 ^ k - 46 + 1) (m * 2 ^ k)
  let l := l.zipIdx.map (fun (e : Sample4 × Nat) => if e.2 < before then { xi := 0, xq := 0, yi := 0, yq := 0 } else e.1)
  let out (xi xq yi yq : List Int) : List Sample4 :=
    (List.range xi.length).map (fun j => { xi := xi.getD j 0, xq := xq.getD j 0, yi := yi.getD j 0, yq := yq.getD j 0 })
  if d.isSet (Fld.CAP_DEC_CTL.NCO_EN c) then
    let f := d.get (Fld.CAP_DEC_NCO.FREQ c)
    let n := (l.length - (140 * 2 ^ k - 46) + 2 ^ k - 1) / 2 ^ k
    let x := (Config.decShifted f k m (l.map (fun s => (s.xi, s.xq)))).take n
    let y := Config.decShifted f k m (l.map (fun s => (s.yi, s.yq)))
    out (x.map (·.1)) (x.map (·.2)) (y.map (·.1)) (y.map (·.2))
  else
    let comp (f : Sample4 → Int) : List Int := (chainFilter k (l.map f)).map (chainRound k)
    out (comp (·.xi)) (comp (·.xq)) (comp (·.yi)) (comp (·.yq))

/-- An output of a chain saturated to ±32,767 (R380). -/
def satOutput (v : Int) : Int := clampInt (-32767) 32767 v

/-- The D16 outputs of chain c from its input samples, the first output being number m (R380). -/
def Dev.decimateFrom (d : Dev) (c m : Nat) (l : List Sample4) : List (List Byte) :=
  (d.decimateExact c m l).map (fun s => be16 (satOutput s.xi) ++ be16 (satOutput s.xq) ++ be16 (satOutput s.yi) ++ be16 (satOutput s.yq))

/-- Whether some output of chain c saturates (R380). -/
def Dev.decSaturates (d : Dev) (c m : Nat) (l : List Sample4) : Bool :=
  (d.decimateExact c m l).any (fun s => [s.xi, s.xq, s.yi, s.yq].any (fun v => decide (satOutput v ≠ v)))

/-- Chain c saturates: SAT is set and CAP.05 fires (R380). -/
def Dev.decSat (d : Dev) (c : Nat) : Dev := (d.put (Fld.CAP_DEC_STATUS.SAT c) 1).raise 357

/-- The time that output m of chain c lies before its newest input, in 2^-40 ns (R384). -/
def Dev.chainDelay (d : Dev) (c t : Nat) : Nat :=
  (70 * 2 ^ d.chainK c - 23) * 10 ^ 9 * 2 ^ 40 / max 1 (d.tapRate t)

/-- Pending CAP_DEC_CTL and CAP_DEC_NCO take effect at a chain's reset (R382), unless held. -/
def Dev.chainBoundary (d : Dev) (c : Nat) : Dev :=
  if d.held? 11 then d else d.copyShadow (fun a => a == Reg.CAP_DEC_CTL c || a == Reg.CAP_DEC_NCO c)

end Sys2Proof.Machine
end

