-- ==== Sys2Proof/Machine/Ringmaster.lean ====
section
/-! DEFINITION. Block RMS: pages, queues, positions, doorbells, windows and the Carousel (10_ringmaster.md). What no register
holds of queue q is its QueueSt; descriptor, state, events and positions stand in its queue-window registers. -/

namespace Sys2Proof.Machine

/-- Granules (64 bytes) in a logical page (R291). -/
def pageGranules : Nat := 32768
/-- Pages of the HBM (R287). -/
def hbmPages : Nat := 12288
/-- Bytes of the HBM. -/
def hbmBytes : Nat := hbmPages * pageBytes
/-- Bytes of capture SRAM. -/
def sramBytes : Nat := 192 * 0x100000

/-! ### Queues (R290 to R293) -/

/-- Queue q beside its registers. -/
def Dev.q (d : Dev) (q : Nat) : QueueSt := Sparse.get { region := 0 } d.rms.queues q
/-- Replace queue q. -/
def Dev.setQ (d : Dev) (q : Nat) (v : QueueSt) : Dev :=
  { d with rms := { d.rms with queues := Sparse.insert q v d.rms.queues } }
/-- TYPE of queue q, 0 for an absent queue. -/
def Dev.qType (d : Dev) (q : Nat) : Nat := d.get (Fld.RMS_Q_DESC0.TYPE q)
/-- POLICY of queue q: 0 HOLD, 1 WRAP, 2 PAGE. -/
def Dev.qPolicy (d : Dev) (q : Nat) : Nat := d.get (Fld.RMS_Q_DESC0.POLICY q)
/-- Whether queue q is a Carousel. -/
def Dev.isCarousel (d : Dev) (q : Nat) : Bool := d.isSet (Fld.RMS_Q_DESC0.CAROUSEL q)
/-- QUOTA of queue q. -/
def Dev.qQuota (d : Dev) (q : Nat) : Nat := d.get (Fld.RMS_Q_DESC1.QUOTA q)
/-- RESERVE of queue q. -/
def Dev.qReserve (d : Dev) (q : Nat) : Nat := d.get (Fld.RMS_Q_DESC1.RESERVE q)
/-- State code of queue q (Tables 7 and 16). -/
def Dev.qState (d : Dev) (q : Nat) : Nat := d.get (Fld.RMS_Q_STATE.STATE q)
/-- HEAD of queue q. -/
def Dev.qHead (d : Dev) (q : Nat) : Nat := d.reg64 (Reg.RMS_Q_HEAD_LO q)
/-- CONS of queue q. -/
def Dev.qCons (d : Dev) (q : Nat) : Nat := d.reg64 (Reg.RMS_Q_CONS_LO q)
/-- TAIL of queue q. -/
def Dev.qTail (d : Dev) (q : Nat) : Nat := d.reg64 (Reg.RMS_Q_TAIL_LO q)
/-- Whether queue q takes producer data: ACTIVE, ARMED or TRIGGERED. -/
def Dev.qTakes (d : Dev) (q : Nat) : Bool := d.qState q == 2 || d.qState q == 4 || d.qState q == 5

/-- The admission kind of queue q (Table 1). -/
def Dev.qKind (d : Dev) (q : Nat) : Nat :=
  match d.qType q with
  | 1 => 2
  | 2 => if d.isSet (Fld.RMS_Q_DESC0.RT q) then 1 else 3
  | 4 => 0
  | 5 => 2
  | _ => 3

/-- Set event bit i of queue q; a 0-to-1 transition is reported by interrupt, by the queue's MSIX and on the QUEUE tap. -/
def Dev.qEvt (d : Dev) (q i : Nat) : Dev :=
  if d.bitAt (Reg.RMS_Q_EVT q) i then d else
    let d := ((d.setBit (Reg.RMS_Q_EVT q) i).setInt intRMS 0).tapEvent (0x6000 + i) q
    let v := d.get (Fld.RMS_Q_DESC7.MSIX q)
    if d.bitAt (Reg.RMS_Q_EVT_EN q) i ∧ v ≠ 0 then d.sendMsix v else d

/-! ### Pages (R287 to R289, R292) -/

/-- Pages queue q holds, queue and cache pages together. -/
def QueueSt.held (v : QueueSt) : Nat := v.pages.length + v.cache.length
/-- The physical pages in use. -/
def Dev.usedPages (d : Dev) : List Nat :=
  d.rms.queues.flatMap (fun e => e.2.pages.map (·.phys) ++ e.2.cache.map (·.2)) ++
    (d.rms.transfers.filter (fun t => !t.out)).map (·.phys)
/-- Cache pages queue q has requested and not yet received. -/
def Dev.pagesComing (d : Dev) (q : Nat) : Nat := (d.rms.transfers.filter (fun t => !t.out && t.queue == q)).length
/-- Pages queue q counts against its QUOTA. -/
def Dev.qHeld (d : Dev) (q : Nat) : Nat := (d.q q).held + d.pagesComing q
/-- Free pages. -/
def Dev.freePages (d : Dev) : Nat := hbmPages - d.usedPages.length
/-- Pool pages: free pages that no reservation still needs (R289). -/
def Dev.poolPages (d : Dev) : Nat :=
  d.freePages - (d.rms.queues.foldl (fun n e => n + (d.qReserve e.1 - d.qHeld e.1)) 0)

/-- Whether queue q can obtain n pages (R289). -/
def Dev.canTake (d : Dev) (q n : Nat) : Bool :=
  decide (n = 0) || (decide (d.qHeld q + n ≤ d.qQuota q) &&
    decide (n - min n (d.qReserve q - d.qHeld q) ≤ d.poolPages) && decide (n ≤ d.freePages))

/-- The v-th free page, used pages given in rising order. -/
def freePage (v : Nat) (used : List Nat) : Nat := used.foldl (fun v u => if u ≤ v then v + 1 else v) v

/-- A page from the free list; which one is a free value. -/
def Dev.drawPage (d : Dev) : Nat × Dev :=
  let (v, d') := d.draw (max 1 d.freePages)
  (freePage v (d.usedPages.mergeSort (fun a b => decide (a ≤ b))), d')

/-- WM_HI and WM_LO of queue q, which held before resident pages (Table 16). -/
def Dev.watermarks (d : Dev) (q before : Nat) : Dev :=
  let now := (d.q q).pages.length
  let d := if before ≤ d.get (Fld.RMS_Q_DESC2.WM_HI q) ∧ d.get (Fld.RMS_Q_DESC2.WM_HI q) < now then d.qEvt q 1 else d
  if d.get (Fld.RMS_Q_DESC2.WM_LO q) < before ∧ now ≤ d.get (Fld.RMS_Q_DESC2.WM_LO q) then d.qEvt q 2 else d

/-- Put a queue page in position order (R295). -/
def insertPage (p : QPage) : List QPage → List QPage
  | [] => [p]
  | x :: r => if p.lpage < x.lpage then p :: x :: r else x :: insertPage p r

/-- Queue q takes a free page for logical page k. -/
def Dev.takePage (d : Dev) (q k : Nat) : Dev :=
  let (p, d) := d.drawPage
  let v := d.q q
  (d.setQ q { v with pages := insertPage { lpage := k, phys := p } v.pages }).watermarks q v.pages.length

/-- A page returns to the free list; the pool may be no longer empty (R288, Table 11). -/
def Dev.freeOne (d : Dev) (p : Nat) : Dev := { d with rms := { d.rms with freed := d.rms.freed ++ [p] } }
/-- RMS.11 ends once the pool holds a page. -/
def Dev.poolCheck (d : Dev) : Dev :=
  if d.rms.poolShort && decide (0 < d.poolPages) then
    { d with rms := { d.rms with poolShort := false } }.causeOff 299
  else d

/-- Queue q releases logical page k: its queue page or its external page, and a cache page with a copy or one that a page-in of it is
filling (R292); EXT_FULL ends once a handle is free (R315). -/
def Dev.releasePage (d : Dev) (q k : Nat) : Dev :=
  let v := d.q q
  let gone := (v.pages.filter (fun p => p.lpage == k)).map (·.phys) ++ (v.cache.filter (fun c => c.1 == k)).map (·.2) ++
    (d.rms.transfers.filter (fun t => !t.out && t.queue == q && t.lpage == k)).map (·.phys)
  let d := d.setQ q { v with
    pages := v.pages.filter (fun p => p.lpage != k), ext := v.ext.filter (fun e => e.lpage != k),
    cache := v.cache.filter (fun c => c.1 != k), holes := v.holes.filter (fun g => g / pageGranules != k) }
  let d := { d with rms := { d.rms with transfers := d.rms.transfers.filter (fun t => !(t.queue == q && t.lpage == k)) } }
  let d := if (d.q q).ext.length < (d.reg (Reg.RMS_Q_DESC6 q)).toNat then d.put (Fld.RMS_Q_STATE.EXT_FULL q) 0 else d
  ((gone.foldl Dev.freeOne d).watermarks q v.pages.length).poolCheck

/-- The logical pages queue q holds, resident or external. -/
def QueueSt.lpages (v : QueueSt) : List Nat := v.ext.map (·.lpage) ++ v.pages.map (·.lpage)

/-- Move HEAD of queue q to a position and release what it passed (R292). -/
def Dev.moveHead (d : Dev) (q pos : Nat) : Dev :=
  let d := d.setReg64 (Reg.RMS_Q_HEAD_LO q) pos
  ((d.q q).lpages.filter (fun k => decide (k < pos / pageGranules))).foldl (fun d k => d.releasePage q k) d

/-- Whether a device consumer is attached to queue q: a job queue of CRY, or a segment that consumes it (R291; DEDUCED,
notes/assumptions/9.md). -/
def Dev.deviceConsumer (d : Dev) (q : Nat) : Bool :=
  (List.range 4).any (fun j => d.isSet (Fld.CRY_JOBQ_CTL.EN j) && d.get (Fld.CRY_JOBQ_CTL.QUEUE j) == q) ||
  (List.range 1024).any (fun g => d.get (Fld.CAP_SEG0.SRC g) == 1 && d.get (Fld.CAP_SEG0.BUF g) == q &&
    d.isSet (Fld.CAP_SEG4.CONSUME g))

/-- CONS of queue q is TAIL where the queue has no device consumer (R291). -/
def Dev.followCons (d : Dev) (q : Nat) : Dev :=
  if d.qType q = 0 ∨ d.deviceConsumer q then d else d.setReg64 (Reg.RMS_Q_CONS_LO q) (d.qTail q)

/-- The device consumers of the declared queues may have changed (R291). -/
def Dev.consCheck (d : Dev) : Dev := d.rms.queues.foldl (fun d e => d.followCons e.1) d

/-- Move TAIL of queue q to the producer's position; CONS follows where there is no device consumer. Pages whose last granule
is now written become FULL (R295). -/
def Dev.setWb (d : Dev) (q wb : Nat) : Dev :=
  let v := d.q q
  let newly := (v.pages.filter (fun p => !p.full && decide ((p.lpage + 1) * pageBytes ≤ wb))).length
  let d := d.setQ q { v with
    wb := wb, pages := v.pages.map (fun (p : QPage) => if (p.lpage + 1) * pageBytes ≤ wb then { p with full := true } else p),
    ahead := v.ahead.filter (fun e => decide (wb < e.1 + e.2)) }
  let tail := (wb + 63) / 64
  let d := d.setReg64 (Reg.RMS_Q_TAIL_LO q) tail
  let d := if d.deviceConsumer q then d else d.setReg64 (Reg.RMS_Q_CONS_LO q) tail
  if newly = 0 then d else d.qEvt q 0

/-- The contents of the pages released in this command become undefined (R288). -/
def State.settle (s : State) : State :=
  { s with hbm := s.dev.rms.freed.foldl Memory.forgetPage s.hbm,
           dev := { s.dev with rms := { s.dev.rms with freed := [] } } }

/-- A change of the device that may release pages. -/
def State.onDev (f : Dev → Dev) (s : State) : State := ({ s with dev := f s.dev } : State).settle

/-- The outcome of an event of block RMS that may release pages. -/
def runQ (f : Dev → Dev) : State → Host.Outcome State Fault Refusal :=
  runState (State.onDev (fun d => if d.inReset 9 then d else f d))

/-- The HBM byte address of byte b of queue q, in a queue page or in a cache page; none where it has none. -/
def Dev.qAddr (d : Dev) (q b : Nat) : Option Nat :=
  let k := b / pageBytes
  match (d.q q).pages.find? (fun p => p.lpage == k) with
  | some p => some (p.phys * pageBytes + b % pageBytes)
  | none => ((d.q q).cache.find? (fun c => c.1 == k)).map (fun c => c.2 * pageBytes + b % pageBytes)

/-- Write bytes into queue q from byte b on; bytes without a page are lost. -/
def State.qStore (q b : Nat) : List Byte → State → State
  | [], s => s
  | v :: r, s =>
    State.qStore q (b + 1) r (match s.dev.qAddr q b with
      | some a => { s with hbm := s.hbm.write a v }
      | none => s)

/-- n bytes of queue q from byte b on; bytes without a page read 0. -/
def State.qLoad (s : State) (q b : Nat) : Nat → List Byte
  | 0 => []
  | n + 1 => (match s.dev.qAddr q b with | some a => s.hbm.read a | none => 0) :: s.qLoad q (b + 1) n

/-! ### Doorbells (R296) -/

/-- A doorbell is refused. -/
def Dev.doorbellError (d : Dev) (q : Nat) : Dev := (if d.qType q = 0 then d else d.qEvt q 8).raise 294

/-- The logical pages below the end of byte e from byte b on that queue q has not allocated. -/
def Dev.missingPages (d : Dev) (q b e : Nat) : List Nat :=
  ((List.range ((e + pageBytes - 1) / pageBytes - b / pageBytes)).map (fun i => b / pageBytes + i)).filter
    (fun k => k ∉ (d.q q).lpages)

/-- A producer doorbell. -/
def Dev.dbProd (q n : Nat) (d : Dev) : Dev :=
  if n = 0 then d else
    let t := d.qTail q + n
    let need := d.missingPages q (d.qTail q * 64) (t * 64)
    if d.qType q = 0 ∨ d.qType q = 1 ∨ d.qType q = 4 ∨ d.qType q = 5 ∨
        d.qHead q + pageGranules * d.qQuota q < t ∨ !d.canTake q need.length then d.doorbellError q
    else (need.foldl (fun d k => d.takePage q k) d).setWb q (t * 64)

/-- A consumer doorbell. -/
def Dev.dbCons (q n : Nat) (d : Dev) : Dev :=
  if n = 0 then d
  else if d.qType q = 0 ∨ d.qCons q < d.qHead q + n then d.doorbellError q
  else d.moveHead q (d.qHead q + n)

/-! ### Windows (R297, R298) -/

/-- The requester of window r. -/
def windowReq (r : Fin 5) : Requester :=
  match r with
  | 0 => .pcie
  | 1 => .ac 0
  | 2 => .ac 1
  | 3 => .ac 2
  | 4 => .ac 3

/-- A window access misses (R298). -/
def Dev.winMiss (d : Dev) (r : Nat) : Dev := (d.incSat (Fld.RMS_WIN_MISS.ACCESSES r)).raise 298

/-- Whether byte b of queue q can be read through a window: in a queue page, before TAIL or written through a window, and not in a
granule that is reserved and not yet written (R292, R298). -/
def Dev.winReadable (d : Dev) (q b : Nat) : Bool :=
  (d.q q).pages.any (fun p => p.lpage == b / pageBytes) && decide (b / 64 ∉ (d.q q).holes) &&
    (decide (b < 64 * d.qTail q) || (d.q q).ahead.any (fun e => decide (e.1 ≤ b) && decide (b < e.1 + e.2)))

/-- The operations of an access to n bytes at byte a: each lies within 512 aligned bytes (R287, R297). -/
def opsOf (a n : Nat) : List (Nat × Nat) :=
  if n = 0 then [] else (List.range ((a + n + 511) / 512 - a / 512)).map (fun i =>
    let lo := max a (512 * (a / 512 + i))
    (lo, min (a + n) (512 * (a / 512 + i + 1)) - lo))

/-- Operations of window r at HBM addresses wait for their pseudo-channels, which serve them in the excess tier (R297). -/
def Dev.winIssue (d : Dev) (r : Fin 5) (write : Bool) (addrs : List Nat) : Dev :=
  { d with rms := { d.rms with
    winOps := d.rms.winOps ++ addrs.map (fun a => { src := .window r, addr := a, write := write }) } }

/-- The bytes of memory a window shows, 0 outside it (Table 4); an operation with uncorrectable data reads all ones
(R322). -/
def State.winBytes (s : State) (mem : Memory) (size : Nat) (ecc : Bool) (a : Nat) : Nat → List Byte
  | 0 => []
  | n + 1 =>
    (if size ≤ a then 0 else if ecc && decide (a / 512 ∈ s.dev.rms.bad) then 0xFF else mem.read a) ::
      s.winBytes mem size ecc (a + 1) n

/-- The bytes a QUEUE window shows. -/
def State.winQueue (s : State) (q b : Nat) : Nat → List Byte
  | 0 => []
  | n + 1 =>
    (if s.dev.winReadable q b then
      (match s.dev.qAddr q b with
       | some a => if a / 512 ∈ s.dev.rms.bad then 0xFF else s.hbm.read a
       | none => 0)
     else 0) :: s.winQueue q (b + 1) n

/-- BASE of window r. -/
def Dev.winBase (d : Dev) (r : Nat) : Nat := d.reg64 (Reg.RMS_WIN_BASE_LO r)

/-- The HBM addresses of the operations of a window access of n bytes at offset off: none in SRAM, outside the HBM, or where a queue has
no page. -/
def Dev.winAddrs (d : Dev) (r off n : Nat) : List Nat :=
  match d.get (Fld.RMS_WIN_CTL.MODE r) with
  | 1 => []
  | 2 => (opsOf (64 * d.winBase r + off) n).filterMap (fun p =>
      if (d.q (d.get (Fld.RMS_WIN_CTL.QUEUE r))).pages.any (fun x => x.lpage == p.1 / pageBytes)
      then d.qAddr (d.get (Fld.RMS_WIN_CTL.QUEUE r)) p.1 else none)
  | _ => ((opsOf (d.winBase r + off) n).map (·.1)).filter (fun a => decide (a < hbmBytes))

/-- What window r shows in n bytes from offset off, and whether the read misses. -/
def State.winRead (s : State) (r off n : Nat) : List Byte × Bool :=
  let d := s.dev
  match d.get (Fld.RMS_WIN_CTL.MODE r) with
  | 1 => (s.winBytes s.sram sramBytes false (d.winBase r + off) n, false)
  | 2 =>
    let q := d.get (Fld.RMS_WIN_CTL.QUEUE r)
    let b := 64 * d.winBase r + off
    ((opsOf b n).flatMap (fun p => s.winQueue q p.1 p.2), (List.range n).any (fun i => !d.winReadable q (b + i)))
  | _ => ((opsOf (d.winBase r + off) n).flatMap (fun p => s.winBytes s.hbm hbmBytes true p.1 p.2), false)

/-- A window read: the data reaches the window's requester. Its operations have their effect with the command and wait for their
pseudo-channels as load (DESIGN CHOICE, notes/assumptions/28.md). -/
def State.windowRead (r : Fin 5) (off n : Nat) (s : State) : State :=
  if !s.dev.reaches (windowReq r) 9 then s else
    let (l, miss) := s.winRead r off n
    let d := { s.dev with rms := { s.dev.rms with winData := Sparse.insert r.val l s.dev.rms.winData } }
    let d := d.winIssue r false (d.winAddrs r off n)
    { s with dev := if miss then d.winMiss r else d }

/-- Write bytes of memory through a window, those outside it discarded (Table 4). -/
def winStore (m : Memory) (size a : Nat) : List Byte → Memory
  | [] => m
  | v :: r => winStore (if a < size then m.write a v else m) size (a + 1) r

/-- Whether a write of byte b beyond TAIL may allocate its page (R298). -/
def Dev.winMayAlloc (d : Dev) (q b : Nat) : Bool :=
  decide (d.qType q ≠ 0) && decide (d.qTail q * 64 ≤ b) && decide (b < (d.qHead q + pageGranules * d.qQuota q) * 64) &&
    decide (b / pageBytes ∉ (d.q q).lpages) && d.canTake q 1

/-- A byte of queue q beyond TAIL has been written through a window. -/
def Dev.markAhead (d : Dev) (q b : Nat) : Dev :=
  let v := d.q q
  if b < 64 * d.qTail q then d
  else d.setQ q { v with ahead := match v.ahead.reverse with
    | (a, n) :: r => if b = a + n then ((a, n + 1) :: r).reverse else v.ahead ++ [(b, 1)]
    | [] => [(b, 1)] }

/-- Write bytes into a queue through a window, and whether some were discarded. -/
def State.winQueueStore (q b : Nat) : List Byte → State × Bool → State × Bool
  | [], r => r
  | v :: l, (s, miss) =>
    let s := if s.dev.winMayAlloc q b then s.onDev (fun d => d.takePage q (b / pageBytes)) else s
    if (s.dev.q q).pages.any (fun p => p.lpage == b / pageBytes) then
      let s := s.qStore q b [v]
      State.winQueueStore q (b + 1) l ({ s with dev := s.dev.markAhead q b }, miss)
    else State.winQueueStore q (b + 1) l (s, true)

/-- A window write. -/
def State.windowWrite (r : Fin 5) (off : Nat) (l : List Byte) (s : State) : State :=
  let d := s.dev
  if !d.mayWrite (windowReq r) 9 then s else
    match d.get (Fld.RMS_WIN_CTL.MODE r) with
    | 1 => { s with sram := winStore s.sram sramBytes (d.winBase r + off) l }
    | 2 =>
      let (s, miss) := State.winQueueStore (d.get (Fld.RMS_WIN_CTL.QUEUE r)) (64 * d.winBase r + off) l (s, false)
      s.onDev (fun d =>
        let d := d.winIssue r true (d.winAddrs r off l.length)
        if miss then d.winMiss r else d)
    | _ => { s with dev := d.winIssue r true (d.winAddrs r off l.length), hbm := winStore s.hbm hbmBytes (d.winBase r + off) l }

/-! ### Carousel states (R312, R313) -/

/-- Mark the record start a trigger waits for. -/
def Dev.markTrigger (d : Dev) (q pos : Nat) : Dev :=
  ((d.setReg64 (Reg.RMS_Q_TRIG_LO q) pos).put (Fld.RMS_Q_STATE.TRIG_VALID q) 1).setQ q { d.q q with trigPend := false }

/-- Queue q takes a state; on entry to STOPPED a trigger that still waits takes TAIL (R313). -/
def Dev.setQState (d : Dev) (q st : Nat) : Dev :=
  if d.qState q = st then d else
    let d := d.put (Fld.RMS_Q_STATE.STATE q) st
    if st = 6 then (if (d.q q).trigPend then d.markTrigger q (d.qTail q) else d).qEvt q 4 else d

/-- A Carousel's ARM (Table 7): TO_HOST descriptors it overtakes end SHORT (R313). -/
def Dev.qArm (q : Nat) (d : Dev) : Dev :=
  if d.isCarousel q ∧ (d.qState q = 3 ∨ d.qState q = 6) then
    let d := (d.q q).lpages.foldl (fun d k => d.releasePage q k) d
    let t := d.qTail q
    let d := (d.setReg64 (Reg.RMS_Q_HEAD_LO q) t).setReg64 (Reg.RMS_Q_CONS_LO q) t
    let d := (d.setReg64 (Reg.RMS_Q_TRIG_LO q) 0).put (Fld.RMS_Q_STATE.TRIG_VALID q) 0
    let d := d.setQ q { d.q q with trigPend := false, wb := t * 64, holes := [], ahead := [] }
    let d := { d with rms := { d.rms with jobs := d.rms.jobs.map (fun (e : Nat × DmaJob) =>
      if d.get (Fld.RMS_DMA_CTL.QUEUE e.1) = q ∧ d.get (Fld.RMS_DMA_CTL.DIR e.1) = 0 then
        (e.1, { e.2 with overtaken := true }) else e) } }
    d.setQState q 4
  else d

/-- A Carousel's TRIGGER (Table 7, R313). -/
def Dev.qTrigger (q : Nat) (d : Dev) : Dev :=
  if d.isCarousel q ∧ d.qState q = 4 then
    let d := (d.setReg64 (Reg.RMS_Q_TRIG_LO q) 0).put (Fld.RMS_Q_STATE.TRIG_VALID q) 0
    let d := d.setQ q { d.q q with trigPend := true, postAct := d.get (Fld.RMS_Q_DESC4.POST q) }
    (d.setQState q 5).qEvt q 3
  else d

/-- A Carousel's STOP (Table 7). -/
def Dev.qStop (q : Nat) (d : Dev) : Dev :=
  if d.isCarousel q ∧ (d.qState q = 4 ∨ d.qState q = 5) then d.setQState q 6 else d

/-- The state EN gives queue q (R312). -/
def Dev.qEnState (d : Dev) (q : Nat) : Dev :=
  d.setQState q (if d.isSet (Fld.RMS_Q_DESC0.EN q) then (if d.isCarousel q then 3 else 2) else 1)

/-! ### Capture data (R310, R313, R314) -/

/-- Release resident pages without a record start after the oldest; HEAD moves to the first record start, or to TAIL (R314). -/
def Dev.wrapOn (q : Nat) : List QPage → Dev → Dev
  | [], d => d.moveHead q (d.qTail q)
  | p :: r, d =>
    match p.firstRec with
    | some g => d.moveHead q (min (p.lpage * pageGranules + g) (d.qTail q))
    | none => if p.lpage = d.qTail q / pageGranules then d.moveHead q (d.qTail q) else Dev.wrapOn q r (d.releasePage q p.lpage)

/-- Queue q wraps: its oldest logical page is released (R314). -/
def Dev.wrap (d : Dev) (q : Nat) : Dev :=
  match (d.q q).pages with
  | p :: r => Dev.wrapOn q r (d.releasePage q p.lpage)
  | [] => d

/-- Whether a page for queue q can be had, by wrapping where WRAP allows it. -/
def Dev.mayObtain (d : Dev) (q : Nat) : Bool :=
  d.canTake q 1 || (decide (d.qPolicy q = 1) && !(d.q q).pages.isEmpty)

/-- Queue q obtains logical page k, wrapping first where it must; RMS.11 while the pool is empty for it. -/
def Dev.obtain (d : Dev) (q k : Nat) : Dev :=
  if d.canTake q 1 then d.takePage q k else
    let d := if d.qReserve q ≤ d.qHeld q ∧ d.qHeld q < d.qQuota q then
      { d with rms := { d.rms with poolShort := true } }.causeOn 299 else d
    if d.qPolicy q = 1 then
      let d := d.wrap q
      if d.canTake q 1 then d.takePage q k else d
    else d

/-- Obtain the pages for bytes b to e of queue q as far as they can be had; the end reached. -/
def Dev.growFrom (q e : Nat) : Nat → Nat → Dev → Nat × Dev
  | 0, _, d => (e, d)
  | n + 1, k, d =>
    if e ≤ k * pageBytes then (e, d)
    else if (d.q q).pages.any (fun p => p.lpage == k) then Dev.growFrom q e n (k + 1) d
    else
      let d := d.obtain q k
      if (d.q q).pages.any (fun p => p.lpage == k) then Dev.growFrom q e n (k + 1) d else (k * pageBytes, d)

/-- How queue q takes data: all of it; part of it, truncated; refused by its state. -/
inductive Offer where
  | taken | truncated | refused
  deriving DecidableEq, Repr

/-- A refusal of R310: TRUNC counts, the event and RMS.02. -/
def Dev.qTruncate (d : Dev) (q : Nat) : Dev := ((d.incSat (Fld.RMS_Q_CNT.TRUNC q)).qEvt q 5).raise 290

/-- Reserve the header granule of a record at granule g (R298, R313, R295). -/
def Dev.startRecord (d : Dev) (q g : Nat) : Dev :=
  let d := if (d.q q).trigPend then d.markTrigger q g else d
  let v := d.q q
  d.setQ q { v with
    holes := v.holes ++ [g],
    pages := v.pages.map (fun (p : QPage) => if p.lpage = g / pageGranules then
      { p with firstRec := some (p.firstRec.getD (g % pageGranules)), recs := p.recs ++ [g % pageGranules] } else p) }

/-- What an offer of data to a queue comes to: the device, the outcome, the first byte's position, how many payload bytes are
taken, and the record's header granule. -/
structure Offered where
  dev : Dev
  res : Offer
  pos : Nat
  taken : Nat
  header : Option Nat

/-- Offer n payload bytes to queue q, after a header granule where a record starts (R310). full tells that the queue's write
buffer is full (case 2). A spill queue takes what its egress buffer holds when the record is complete (R320). -/
def Dev.offer (d : Dev) (q n : Nat) (start full : Bool) : Offered :=
  if !d.qTakes q then { dev := d.incSat (Fld.RMS_Q_CNT.DROP q), res := .refused, pos := 0, taken := 0, header := none }
  else if full then { dev := d.qTruncate q, res := .truncated, pos := 0, taken := 0, header := none }
  else
    let wb := (d.q q).wb
    let b := if start then (wb + 63) / 64 * 64 else wb
    let e := b + n + (if start then 64 else 0)
    let trig := if (d.q q).trigPend then (if start then some (b / 64) else none)
      else if d.qState q = 5 then some (d.reg64 (Reg.RMS_Q_TRIG_LO q)) else none
    let stop := if d.qState q = 5 then
      trig.map (fun t => (t / pageGranules + (d.q q).postAct + 1) * pageBytes) else none
    let lim := match stop with | some x => min e x | none => e
    let (got, d) := Dev.growFrom q lim ((lim + pageBytes - 1) / pageBytes + 1 - b / pageBytes) (b / pageBytes) d
    let got := if start ∧ got < b + 64 then b else max b got
    let d := if b < got then
        let d := if start then d.startRecord q (b / 64) else d
        d.setWb q got else d
    let taken := if start then got - b - 64 else got - b
    let header := if start ∧ b < got then some (b / 64) else none
    let pos := if start then b + 64 else b
    match stop with
    | some x =>
      if x ≤ got then
        let d := d.setQState q 6
        { dev := if got < e then d.incSat (Fld.RMS_Q_CNT.DROP q) else d, res := .refused, pos := pos, taken := taken, header := header }
      else if got < e then { dev := d.qTruncate q, res := .truncated, pos := pos, taken := taken, header := header }
      else { dev := d, res := .taken, pos := pos, taken := taken, header := header }
    | none =>
      if got < e then { dev := d.qTruncate q, res := .truncated, pos := pos, taken := taken, header := header }
      else { dev := d, res := .taken, pos := pos, taken := taken, header := header }

/-- A reserved granule of queue q is written (R369). -/
def Dev.fillHole (d : Dev) (q g : Nat) : Dev := d.setQ q { d.q q with holes := (d.q q).holes.filter (fun h => h != g) }

/-- Whether Ringmaster can accept the start of a record now (R560). -/
def Dev.canStart (d : Dev) (q : Nat) : Bool :=
  let k := ((d.q q).wb + 63) / 64 * 64 / pageBytes
  (d.q q).pages.any (fun p => p.lpage == k) || d.mayObtain q

/-! ### Meanings -/

/-- DB_PROD (R296). -/
def execDbProd (req : Requester) (q : Fin 65536) (n : BitVec 24) :=
  runState (State.onDev (fun d => if d.mayWrite req 9 then d.dbProd q n.toNat else d))
/-- DB_CONS (R296). -/
def execDbCons (req : Requester) (q : Fin 65536) (n : BitVec 24) :=
  runState (State.onDev (fun d => if d.mayWrite req 9 then d.dbCons q n.toNat else d))
/-- WINDOW_READ (R298). -/
def execWindowRead (r : Fin 5) (offset len : Nat) := runState (State.windowRead r offset len)
/-- WINDOW_WRITE (R298). -/
def execWindowWrite (r : Fin 5) (offset : Nat) (data : List Byte) := runState (State.windowWrite r offset data)

end Sys2Proof.Machine
end

