-- ==== Sys2Proof/Machine/Paging.lean ====
section
/-! DEFINITION. Block RMS: paging to the external page store, spill queues and STREAM reception (R315 to R321). -/

namespace Sys2Proof.Machine

/-- Spill group of queue q. -/
def Dev.qGroup (d : Dev) (q : Nat) : Nat := d.get (Fld.RMS_Q_DESC7.GROUP q)
/-- EXT_QUOTA of queue q. -/
def Dev.extQuota (d : Dev) (q : Nat) : Nat := (d.reg (Reg.RMS_Q_DESC6 q)).toNat
/-- Transfers outstanding on a group. -/
def Dev.groupTransfers (d : Dev) (g : Nat) : Nat := (d.rms.transfers.filter (fun t => d.qGroup t.queue == g)).length
/-- Whether a group may start another transfer (R315): below MAX_OUT and with a lane that counts; without one it pauses
(R318). -/
def Dev.mayTransfer (d : Dev) (g : Nat) : Bool :=
  decide (d.groupTransfers g < d.get Fld.RMS_PAGE_CTL.MAX_OUT) && !(d.groupLanes g true).isEmpty

/-- RMS.03 is present while any queue's paging is halted (R317). -/
def Dev.haltCause (d : Dev) : Dev := d.causeIs 291 (d.rms.queues.any (fun e => d.isSet (Fld.RMS_Q_STATE.PAGE_HALT e.1)))

/-- A new transfer tag. -/
def Dev.newTag (d : Dev) : Nat × Dev :=
  (d.rms.nextTag, { d with rms := { d.rms with nextTag := (d.rms.nextTag + 1) % 65536 } })
/-- Keep a transfer as outstanding. -/
def Dev.addTransfer (d : Dev) (t : PageTransfer) : Dev := { d with rms := { d.rms with transfers := d.rms.transfers ++ [t] } }
/-- A transfer is no longer outstanding. -/
def Dev.dropTransfer (d : Dev) (tag : Nat) : Dev :=
  { d with rms := { d.rms with transfers := d.rms.transfers.filter (fun t => t.tag != tag) } }

/-- Send the 4,096 PAGE_WRITE frames of a transfer round robin over the group's lanes (R315), after the IDLE frames that have filled them. -/
def Dev.sendPage (d : Dev) (t : PageTransfer) : Dev :=
  let lanes := d.groupLanes (d.qGroup t.queue) true
  let n := Sparse.get 0 d.hst.queueSeq t.queue
  let d := lanes.foldl Dev.fillIdle d
  let d := { d with hst := { d.hst with
    queueSeq := Sparse.put 0 d.hst.queueSeq t.queue ((n + 4096) % 2 ^ 32),
    sent := d.hst.sent ++ [TsuSent.page lanes t.queue t.handle t.tag n t.phys] } }
  (List.range lanes.length).foldl (fun d i =>
    let n := 4096 / lanes.length + (if i < 4096 % lanes.length then 1 else 0)
    (d.lineFill (lanes.getD i 0) n).countTx (lanes.getD i 0) n) d

/-- Send the PAGE_READ_REQ of a transfer for the whole page (R319). -/
def Dev.sendRead (d : Dev) (t : PageTransfer) : Dev :=
  match d.groupLanes (d.qGroup t.queue) true with
  | l :: _ => d.tsuSend l { kind := 3, queue := t.queue, page := t.handle, tag := t.tag, arg := 4096 }
  | [] => d

/-- The oldest full resident page of queue q that no transfer holds; a page with a record header that is still to be written waits
(DEDUCED from R292, notes/assumptions/10.md). -/
def Dev.pageOutNext (d : Dev) (q : Nat) : Option QPage :=
  (d.q q).pages.find? (fun p => p.full && !(d.q q).holes.any (fun g => g / pageGranules == p.lpage) &&
    !d.rms.transfers.any (fun t => t.out && t.queue == q && t.lpage == p.lpage))

/-- A PAGE Carousel, ARMED or TRIGGERED, whose external pages reach EXT_QUOTA releases its oldest one; HEAD moves to the next record
start (R314). -/
def Dev.wrapExt (d : Dev) (q : Nat) : Dev :=
  match (d.q q).ext with
  | e :: r =>
    let d := d.releasePage q e.lpage
    Dev.wrapOn q (r.map (fun x => { lpage := x.lpage, phys := 0, firstRec := x.firstRec, recs := x.recs }) ++ (d.q q).pages) d
  | [] => d

/-- Page-out of queue q sends its next page (R315). With every handle in use an ARMED or TRIGGERED Carousel wraps, a Carousel in another
state keeps its pages resident, and another queue sets EXT_FULL. -/
def Dev.pageOut (q : Nat) (d : Dev) : Dev :=
  let v := d.q q
  let res := v.pages.length
  if d.qPolicy q ≠ 2 ∨ d.isSet (Fld.RMS_Q_STATE.PAGE_HALT q) ∨ !d.mayTransfer (d.qGroup q) then d
  else if !(decide (d.get (Fld.RMS_Q_DESC2.WM_HI q) < res) || (v.paging && decide (d.get (Fld.RMS_Q_DESC2.WM_LO q) < res))) then
    d.setQ q { v with paging := false }
  else
    match d.pageOutNext q with
    | none => d.setQ q { v with paging := true }
    | some p =>
      let waiting := (d.rms.transfers.filter (fun t => t.out && t.queue == q)).length
      let full := decide (d.extQuota q ≤ v.ext.length + waiting)
      if full ∧ !d.isCarousel q then (d.put (Fld.RMS_Q_STATE.EXT_FULL q) 1).setQ q { v with paging := false }
      else if full ∧ d.qState q ≠ 4 ∧ d.qState q ≠ 5 then d.setQ q { v with paging := true }
      else
        let d := if full then d.wrapExt q else d
        let v := d.q q
        let (tag, d) := d.newTag
        let t : PageTransfer := {
          tag := tag, queue := q, lpage := p.lpage, out := true, phys := p.phys,
          handle := (d.reg (Reg.RMS_Q_DESC5 q)).toNat + v.sentOut % max 1 (d.extQuota q) }
        ((d.setQ q { v with paging := true, sentOut := v.sentOut + 1 }).addTransfer t).sendPage t

/-- QPOS of a descriptor: where the first byte moved lies in the queue. With no byte moved Table 5 gives it no value: free. -/
def Dev.dmaQpos (d : Dev) (j : DmaJob) : Nat × Dev :=
  match j.start with
  | some p => (p, d)
  | none => d.draw (2 ^ 64)

/-- End the DMA descriptor in progress on channel ch (R301): bytes 12 to 31 reach host memory, STATUS last; CONS advances;
DMA_DONE with IRQ; a status other than OK and SHORT is an error. -/
def Dev.endDma (d : Dev) (ch status : Nat) : Dev :=
  match d.rms.jobs.find? (fun e => e.1 == ch) with
  | none => d
  | some (_, j) =>
    let done := j.done
    let (qpos, d) := d.dmaQpos j
    let cons := d.get (Fld.RMS_DMA_STATUS.CONS ch)
    let at_ := d.reg64 (Reg.RMS_DMA_RING_LO ch) + 32 * (cons % 2 ^ d.get (Fld.RMS_DMA_CTL.RING_LOG2 ch)) + 12
    let flags : Nat := bit j.irq + 2 * bit j.shortOk
    let bytes := [BitVec.ofNat 8 flags, BitVec.ofNat 8 status, 0, 0] ++ leBytes 8 qpos ++ leBytes 4 done ++ leBytes 4 0
    let q := d.get (Fld.RMS_DMA_CTL.QUEUE ch)
    let d := { d with rms := { d.rms with
      hostWrites := d.rms.hostWrites ++ [(at_, bytes)], jobs := d.rms.jobs.filter (fun e => e.1 != ch) } }
    let d := ((d.put (Fld.RMS_DMA_STATUS.CONS ch) (cons + 1)).put (Fld.RMS_DMA_STATUS.BUSY ch) 0).put
      (Fld.RMS_DMA_STATUS.WAIT ch) 0
    let d := d.incSat (Fld.RMS_DMA_DONE_CNT.DESCS ch)
    let d := if j.irq && d.qType q != 0 then d.qEvt q 7 else d
    if status ≤ 1 then d else (d.put (Fld.RMS_DMA_STATUS.ERR ch) 1).raise 295

/-- The TO_HOST descriptors that wait on queue q for a page end with a status. -/
def Dev.endReaders (d : Dev) (q status : Nat) : Dev :=
  (d.rms.jobs.filter (fun e => d.get (Fld.RMS_DMA_CTL.QUEUE e.1) == q && !d.isSet (Fld.RMS_DMA_CTL.DIR e.1))).foldl
    (fun d e => d.endDma e.1 status) d

/-- A transfer ends in PAGE_ERR (R317): the queue's paging halts; a failed page-in ends the waiting descriptor (R319). -/
def Dev.pageError (d : Dev) (t : PageTransfer) : Dev :=
  let d := (((d.dropTransfer t.tag).put (Fld.RMS_Q_STATE.PAGE_HALT t.queue) 1).qEvt t.queue 6).haltCause
  if t.out then d else ((d.freeOne t.phys).endReaders t.queue 5).raise 292

/-- A transfer is sent or requested again with a new tag, or fails after RETRY further times (R317). -/
def Dev.pageRetry (d : Dev) (t : PageTransfer) : Dev :=
  if d.get Fld.RMS_PAGE_CTL.RETRY ≤ t.tries then d.pageError t else
    let d := d.dropTransfer t.tag
    let (tag, d) := d.newTag
    let t' : PageTransfer := { t with tag := tag, tries := t.tries + 1, got := [] }
    let d := d.addTransfer t'
    if t.out then d.sendPage t' else d.sendRead t'

/-- Put an external page in position order. -/
def insertExt (e : ExtPage) : List ExtPage → List ExtPage
  | [] => [e]
  | x :: r => if e.lpage < x.lpage then e :: x :: r else x :: insertExt e r

/-- A page-out is acknowledged: its queue page is released and the page is external. -/
def Dev.pageStored (d : Dev) (t : PageTransfer) : Dev :=
  let v := d.q t.queue
  let page := v.pages.find? (fun p => p.lpage == t.lpage)
  let d := (d.dropTransfer t.tag).setQ t.queue { v with
    pages := v.pages.filter (fun p => p.lpage != t.lpage),
    ext := insertExt { lpage := t.lpage, handle := t.handle, firstRec := page.bind (·.firstRec),
                       recs := (page.map (·.recs)).getD [] } v.ext }
  ((d.freeOne t.phys).watermarks t.queue v.pages.length).poolCheck

/-- The first frame of a kind that waits, taken from the frames received. -/
def Dev.takeInbox (d : Dev) (kind : Nat) : Option TsuFrame × Dev :=
  match d.rms.inbox.find? (fun f => f.kind == kind) with
  | some f => (some f, { d with rms := { d.rms with inbox := removeFirst f d.rms.inbox } })
  | none => (none, d)

/-- A PAGE_ACK reaches Ringmaster (R317, Table 8). -/
def Dev.pageAck (d : Dev) : Dev :=
  match d.takeInbox 5 with
  | (none, d) => d
  | (some f, d) =>
    match d.rms.transfers.find? (fun t => t.out && t.tag == f.tag) with
    | none => d.raise 300
    | some t =>
      if f.arg = 0 then d.pageStored t
      else if f.arg = 1 then d.pageRetry t
      else d.pageError t

/-- ACK_TMO of a transfer expires (R317); it does not run without a lane (R318). -/
def Dev.pageTimeout (tag : Nat) (d : Dev) : Dev :=
  match d.rms.transfers.find? (fun t => t.tag == tag) with
  | none => d
  | some t => if (d.groupLanes (d.qGroup t.queue) true).isEmpty then d else d.pageRetry t

/-- A page for the cache of queue q (R319): a free one under R289, else its least recently read cache page. -/
def Dev.cachePage (d : Dev) (q : Nat) : Option (Nat × Dev) :=
  if d.canTake q 1 then some d.drawPage
  else match (d.q q).cache with
    | (_, p) :: r => some (p, (d.setQ q { d.q q with cache := r }).freeOne p)
    | [] => none

/-- Request external logical page k of queue q, unless it is cached or requested already (R319). -/
def Dev.pageInOne (d : Dev) (q k : Nat) : Dev :=
  match (d.q q).ext.find? (fun e => e.lpage == k) with
  | none => d
  | some e =>
    if (d.q q).cache.any (fun c => c.1 == k) ∨ d.rms.transfers.any (fun t => !t.out && t.queue == q && t.lpage == k) ∨
        !d.mayTransfer (d.qGroup q) then d
    else match d.cachePage q with
      | none => d
      | some (p, d) =>
        let (tag, d) := d.newTag
        let t : PageTransfer := { tag := tag, queue := q, lpage := k, handle := e.handle, out := false, phys := p }
        (d.addTransfer t).sendRead t

/-- A consumer's read position reaches external page k; PREFETCH further pages are requested (R319). -/
def Dev.pageIn (q k : Nat) (d : Dev) : Dev :=
  if d.isSet (Fld.RMS_Q_STATE.PAGE_HALT q) ∨ !(d.q q).ext.any (fun e => e.lpage == k) then d
  else Dev.forUpTo (d.get (Fld.RMS_Q_DESC7.PREFETCH q) + 1) (fun d i => d.pageInOne q (k + i)) d

/-- The record headers of a page that comes back from the store get PAGED in their FLAGS (R375): the page holds them at the granules at which
captures reserved them. -/
def State.markPaged (phys : Nat) : List Nat → State → State
  | [], s => s
  | g :: r, s =>
    let a := phys * pageBytes + 64 * g + 4
    State.markPaged phys r { s with hbm := s.hbm.write a (s.hbm.read a ||| 8) }

/-- A PAGE_DATA frame reaches Ringmaster (R317): its bytes go into the cache page; the 4,096th completes the transfer, and the headers in the
page tell that it was paged (R375). -/
def State.pageData (s : State) : State :=
  match s.dev.takeInbox 4 with
  | (none, _) => s
  | (some f, d) =>
    match d.rms.transfers.find? (fun t => !t.out && t.tag == f.tag) with
    | none => { s with dev := d.raise 300 }
    | some t =>
      if f.offset ∈ t.got then { s with dev := d } else
        let s := { s with hbm := s.hbm.writeBytes (t.phys * pageBytes + 512 * f.offset) f.data }
        let d := d.dropTransfer t.tag
        let t' : PageTransfer := { t with got := t.got ++ [f.offset] }
        if t'.got.length = 4096 then
          let recs := (((d.q t.queue).ext.find? (fun e => e.lpage == t.lpage)).map (·.recs)).getD []
          State.markPaged t.phys recs { s with dev := d.setQ t.queue { d.q t.queue with cache := (d.q t.queue).cache ++ [(t.lpage, t.phys)] } }
        else { s with dev := d.addTransfer t' }

/-- RESUME restarts halted paging (Table 16). -/
def Dev.pagingResume (q : Nat) (d : Dev) : Dev := (d.put (Fld.RMS_Q_STATE.PAGE_HALT q) 0).haltCause

/-! ### Spill queues and STREAM (R310, R320, R321) -/

/-- Bytes that wait in the egress buffer of spill queue q. -/
def Dev.egressBytes (d : Dev) (q : Nat) : Nat := (d.q q).egress.foldl (fun n r => n + r.length) 0

/-- A complete record of n bytes fits the egress buffer of 32 KiB; an empty buffer takes any record (DEDUCED,
notes/assumptions/10.md). -/
def Dev.egressFits (d : Dev) (q n : Nat) : Bool := (d.q q).egress.isEmpty || decide (d.egressBytes q + n ≤ 32768)

/-- A complete record enters the egress buffer, or is refused (R310 case 3). -/
def Dev.egressPut (d : Dev) (q : Nat) (r : List Byte) : Dev × Bool :=
  if d.egressFits q r.length then
    ((d.setQ q { d.q q with egress := (d.q q).egress ++ [r] }).setWb q ((d.q q).wb + r.length), true)
  else (d.qTruncate q, false)

/-- The STREAM frames of a record (R320). -/
def streamFrames (q : Nat) (r : List Byte) : List TsuFrame :=
  let n := max 1 ((r.length + 511) / 512)
  (List.range n).map (fun i =>
    { kind := 1, queue := q, first := i == 0, last := i + 1 == n, len := min 512 (r.length - 512 * i),
      data := (r.drop (512 * i)).take 512 })

/-- Send frames round robin over lanes. -/
def Dev.sendRound (d : Dev) (lanes : List Nat) (fs : List TsuFrame) : Dev :=
  (List.range fs.length).foldl (fun d i =>
    match fs[i]? with
    | some f => d.tsuSend (lanes.getD (i % lanes.length) 0) f
    | none => d) d

/-- STREAM frames of a forwarded group take their SEQ and wait to travel as SPILL cells (R467). -/
def Dev.forwardRecord (d : Dev) (q : Nat) (fs : List TsuFrame) : Dev :=
  let n := Sparse.get 0 d.hst.queueSeq q
  let out := (List.range fs.length).map (fun i => { fs.getD i { kind := 1 } with seq := (n + i) % 2 ^ 32 })
  { d with hst := { d.hst with queueSeq := Sparse.put 0 d.hst.queueSeq q ((n + fs.length) % 2 ^ 32) },
           spillOut := d.spillOut ++ out.map (fun f => (d.qGroup q, f)) }

/-- A spill queue sends its oldest complete record (R320). -/
def Dev.spillSend (q : Nat) (d : Dev) : Dev :=
  let v := d.q q
  let lanes := d.groupLanes (d.qGroup q) false
  match v.egress with
  | r :: rest =>
    if d.qType q ≠ 5 then d
    else if d.groupForwarded (d.qGroup q) then
      ((d.setQ q { v with egress := rest }).setReg64 (Reg.RMS_Q_HEAD_LO q) (d.qHead q + (r.length + 63) / 64)).forwardRecord q
        (streamFrames q r)
    else if lanes.isEmpty then d
    else ((d.setQ q { v with egress := rest }).setReg64 (Reg.RMS_Q_HEAD_LO q) (d.qHead q + (r.length + 63) / 64)).sendRound
      lanes (streamFrames q r)
  | [] => d

/-- Whether queue q accepts STREAM frames from a lane of group g (R321). -/
def Dev.streamTarget (d : Dev) (q g : Nat) : Bool :=
  (d.qType q == 2 || d.qType q == 6) && d.isSet (Fld.RMS_Q_DESC0.EN q) && d.qGroup q == g

/-- A STREAM frame of queue q is refused or skipped: the queue counts it, and HST on the lane that brought it (R282, R321). A frame that
never came counts on the first lane of the queue's group (DEDUCED, notes/assumptions/10.md); one from a forwarded group on none. -/
def Dev.streamDrop (d : Dev) (q : Nat) (lane : Option Nat) : Dev :=
  let d := d.incSat (Fld.RMS_Q_CNT.DROP q)
  match lane with
  | some l => d.tsuDrop l
  | none => d

/-- The first spill lane of queue q's group. -/
def Dev.groupFirst (d : Dev) (q : Nat) : Option Nat :=
  (List.range 48).find? (fun l => decide (d.laneRole l = 2) && decide (d.laneGroup l = d.qGroup q))

/-- Place the data of a STREAM frame at TAIL, padded with zeros to a whole granule; it counts as received. Without space it is dropped. -/
def State.streamPlace (q : Nat) (lane : Option Nat) (l : List Byte) (s : State) : State :=
  let d := s.dev
  let n := (l.length + 63) / 64
  let b := d.qTail q * 64
  let need := d.missingPages q b (b + 64 * n)
  if d.qHead q + pageGranules * d.qQuota q < d.qTail q + n ∨ !d.canTake q need.length then
    { s with dev := d.streamDrop q lane }
  else
    let s := State.qStore q b (sliceBytes l 0 (64 * n)) (s.onDev (fun d => need.foldl (fun d k => d.takePage q k) d))
    let d := s.dev.setWb q (b + 64 * n)
    { s with dev := match lane with | some m => d.countRx m | none => d }

/-- Place the held frames that follow in SEQ order, at most fuel of them. -/
def State.streamDrain (q : Nat) : Nat → State → State
  | 0, s => s
  | n + 1, s =>
    match (s.dev.q q).rxNext with
    | none => s
    | some x =>
      match (s.dev.q q).rxHeld.find? (fun e => e.1 == x) with
      | none => s
      | some (_, lane, l) =>
        let v := s.dev.q q
        let s := { s with dev := s.dev.setQ q { v with
          rxNext := some ((x + 1) % 2 ^ 32), rxHeld := v.rxHeld.filter (fun e => e.1 != x) } }
        State.streamDrain q n (s.streamPlace q lane l)

/-- A STREAM frame for queue q: held in the window of 64 frames and placed in SEQ order (R321). A frame behind or beyond the
window is refused. The first frame of a queue sets where the order starts (DEDUCED, notes/assumptions/10.md). -/
def State.streamAccept (q : Nat) (lane : Option Nat) (f : TsuFrame) (s : State) : State :=
  let v := s.dev.q q
  let x := v.rxNext.getD f.seq
  let ahead := (f.seq + 2 ^ 32 - x) % 2 ^ 32
  if 64 ≤ ahead ∨ v.rxHeld.any (fun e => e.1 == f.seq) then
    { s with dev := (s.dev.setQ q { v with rxNext := some x }).streamDrop q lane }
  else
    State.streamDrain q 64 { s with dev := s.dev.setQ q { v with
      rxNext := some x, rxHeld := v.rxHeld ++ [(f.seq, lane, f.data)] } }

/-- ACK_TMO passes with a SEQ missing: it is skipped and counted (R321). -/
def State.streamSkip (q : Nat) (s : State) : State :=
  let v := s.dev.q q
  match v.rxNext with
  | some x =>
    if v.rxHeld.isEmpty then s else
      let d := s.dev.setQ q { v with rxNext := some ((x + 1) % 2 ^ 32) }
      State.streamDrain q 64 { s with dev := d.streamDrop q (d.groupFirst q) }
  | none => s

/-! ### Meanings -/

/-- PAGE_OUT (R315). -/
def execPageOut (q : Fin 65536) := runQ (Dev.pageOut q)
/-- PAGE_ACK (R317). -/
def execPageAck := runQ Dev.pageAck
/-- PAGE_ACK_TIMEOUT (R317). -/
def execPageAckTimeout (tag : BitVec 16) := runQ (Dev.pageTimeout tag.toNat)
/-- PAGE_IN (R319). -/
def execPageIn (q : Fin 65536) (lpage : Nat) := runQ (Dev.pageIn q lpage)
/-- PAGE_DATA (R317). -/
def execPageData := runBlockState 9 State.pageData
/-- PAGING_RESUME (R317). -/
def execPagingResume (req : Requester) (q : Fin 65536) := runWrite req 9 (Dev.pagingResume q)
/-- SPILL_RECORD_SEND (R320). -/
def execSpillRecordSend (q : Fin 65536) := runBlock 9 (Dev.spillSend q)
/-- STREAM_SEQ_TIMEOUT (R321). -/
def execStreamSeqTimeout (q : Fin 65536) := runBlockState 9 (State.streamSkip q)

end Sys2Proof.Machine
end

