-- ==== Sys2Proof/Machine/RmsControl.lean ====
section
/-! DEFINITION. Block RMS: host DMA, the pseudo-channel scheduler, admission and grants, declaring and deleting queues
(R299 to R309, R322, R323, R82). -/

namespace Sys2Proof.Machine

/-! ### Host DMA (R299 to R302) -/

/-- A write of DMA_PROD (R299). -/
def Dev.dmaProd (ch v : Nat) (d : Dev) : Dev :=
  if 2 ^ d.get (Fld.RMS_DMA_CTL.RING_LOG2 ch) < (v + 65536 - d.get (Fld.RMS_DMA_STATUS.CONS ch)) % 65536 then
    d.put (Fld.RMS_DMA_STATUS.ERR ch) 1
  else d.put (Fld.RMS_DMA_PROD.PROD ch) v

/-- The queue channel ch is bound to. -/
def Dev.dmaQueue (d : Dev) (ch : Nat) : Nat := d.get (Fld.RMS_DMA_CTL.QUEUE ch)
/-- Whether channel ch is FROM_HOST. -/
def Dev.dmaFrom (d : Dev) (ch : Nat) : Bool := d.isSet (Fld.RMS_DMA_CTL.DIR ch)

/-- The status that ends a descriptor without moving data: TYPE or LENGTH (Table 6). -/
def Dev.dmaError (d : Dev) (ch addr len : Nat) : Option Nat :=
  let t := d.qType (d.dmaQueue ch)
  if t = 0 ∨ t = 4 ∨ t = 5 ∨ (d.dmaFrom ch ∧ t = 1) then some 8
  else if addr % 64 ≠ 0 ∨ len % 64 ≠ 0 ∨ len < 64 ∨ 16777216 < len then some 4
  else none

/-- The descriptor that 32 bytes of host memory spell (Table 5). -/
def Dev.dmaParse (d : Dev) (ch : Nat) (l : List Byte) : DmaJob :=
  { addr := leAt l 0 8, len := leAt l 8 4, irq := (l.getD 12 0).getLsbD 0, shortOk := (l.getD 12 0).getLsbD 1,
    error := d.dmaError ch (leAt l 0 8) (leAt l 8 4) }

/-- Bytes between HEAD and CONS of queue q. -/
def Dev.qAvailable (d : Dev) (q : Nat) : Nat := (d.qCons q - d.qHead q) * 64

/-- Of those, the bytes that can be read: up to the first granule that is reserved and not yet written (R292). -/
def Dev.qLegible (d : Dev) (q : Nat) : Nat :=
  (d.q q).holes.foldl (fun n g => if d.qHead q ≤ g then min n ((g - d.qHead q) * 64) else n) (d.qAvailable q)

/-- Whether a TO_HOST descriptor ends with what is available: PARTIAL, a STOPPED queue, or one that an ARM overtook (R300, R313). -/
def Dev.dmaShort (d : Dev) (ch : Nat) (j : DmaJob) : Bool :=
  j.shortOk || j.overtaken || decide (d.qState (d.dmaQueue ch) = 6)

/-- Whether a descriptor must wait for what it has not yet moved (R300). -/
def Dev.dmaWaits (d : Dev) (ch : Nat) (j : DmaJob) : Bool :=
  let q := d.dmaQueue ch
  if j.error.isSome then false
  else if d.dmaFrom ch then
    decide (d.qHead q + pageGranules * d.qQuota q < d.qTail q + j.len / 64) ||
      !d.canTake q (d.missingPages q (d.qTail q * 64) (d.qTail q * 64 + j.len)).length
  else decide (d.qAvailable q < j.len - j.done) && !d.dmaShort ch j

/-- Keep the descriptor of channel ch in progress. -/
def Dev.setJob (d : Dev) (ch : Nat) (j : DmaJob) : Dev :=
  let d := { d with rms := { d.rms with jobs := Sparse.insert ch j d.rms.jobs } }
  (d.put (Fld.RMS_DMA_STATUS.BUSY ch) 1).put (Fld.RMS_DMA_STATUS.WAIT ch) (bit j.waiting)

/-- Channel ch starts its next descriptor, read from its ring, or one that waited goes on (R300). -/
def Dev.dmaDescriptor (ch : Nat) (desc : List Byte) (d : Dev) : Dev :=
  match d.rms.jobs.find? (fun e => e.1 == ch) with
  | some (_, j) => if j.waiting then d.setJob ch { j with waiting := d.dmaWaits ch j } else d
  | none =>
    if !d.isSet (Fld.RMS_DMA_CTL.EN ch) ∨ d.get (Fld.RMS_DMA_PROD.PROD ch) = d.get (Fld.RMS_DMA_STATUS.CONS ch) then d
    else
      let j := d.dmaParse ch desc
      d.setJob ch { j with waiting := d.dmaWaits ch j }

/-- Whether logical page k of queue q has a page in HBM. -/
def Dev.pagePresent (d : Dev) (q k : Nat) : Bool :=
  (d.q q).pages.any (fun p => p.lpage == k) || (d.q q).cache.any (fun c => c.1 == k)

/-- How many of n bytes of queue q from byte b on lie in pages in HBM, up to the first that is external. -/
def Dev.qPresent (d : Dev) (q b n : Nat) : Nat :=
  match (List.range ((b + n + pageBytes - 1) / pageBytes - b / pageBytes)).find? (fun i => !d.pagePresent q (b / pageBytes + i)) with
  | some i => (b / pageBytes + i) * pageBytes - b
  | none => n

/-- Whether some operation of bytes b to b + n of queue q has uncorrectable data (R322). -/
def Dev.qBad (d : Dev) (q b n : Nat) : Bool :=
  (List.range ((n + 511) / 512)).any (fun i => match d.qAddr q (b + 512 * i) with
    | some a => decide (a / 512 ∈ d.rms.bad)
    | none => false)

/-- The cache pages of queue q with page k moved to the end as most recently read. -/
def Dev.touchCache (d : Dev) (q k : Nat) : Dev :=
  let v := d.q q
  d.setQ q { v with cache := v.cache.filter (fun c => c.1 != k) ++ v.cache.filter (fun c => c.1 == k) }

/-- n more bytes of the descriptor of channel ch have been moved, at queue granule p. -/
def Dev.jobMoved (d : Dev) (ch p n : Nat) (j : DmaJob) : Dev :=
  if n = 0 then d else d.setJob ch { j with done := j.done + n, start := some (j.start.getD p) }

/-- The descriptor of channel ch has moved all it could: it ends when nothing is left of it, or SHORT when no more is to come; dry tells that
nothing readable was left. -/
def Dev.dmaDone (d : Dev) (ch left : Nat) (dry : Bool) (j : DmaJob) : Dev :=
  if left = 0 then d.endDma ch 0 else if dry && d.dmaShort ch j then d.endDma ch 1 else d

/-- A TO_HOST descriptor moves the data that it can read now, and HEAD with it (R300, R301): up to an external page, which is then paged
in, or a granule still to be written. It ends when all is moved, or SHORT when no more is to come. -/
def State.dmaToHost (ch : Nat) (j : DmaJob) (busError : Bool) (s : State) : State :=
  let d := s.dev
  let q := d.dmaQueue ch
  let head := d.qHead q
  let want := if j.overtaken then 0 else min (j.len - j.done) (d.qLegible q)
  let n := d.qPresent q (head * 64) want
  if busError then { s with dev := d.endDma ch 3 }
  else if d.qBad q (head * 64) n then { s with dev := d.endDma ch 6 }
  else
    let l := s.qLoad q (head * 64) n
    s.onDev (fun d =>
      let d := { d with rms := { d.rms with
        hostWrites := if n = 0 then d.rms.hostWrites else d.rms.hostWrites ++ [(j.addr + j.done, l)] } }
      (((d.touchCache q (head / pageGranules)).moveHead q (head + n / 64)).jobMoved ch head n j).dmaDone ch (j.len - j.done - n)
        (n == want) j)

/-- A FROM_HOST descriptor appends the bytes read from host memory at TAIL; where they no longer fit or their pages cannot be had it
waits again (R300). -/
def State.dmaFromHost (ch : Nat) (j : DmaJob) (l : List Byte) (busError : Bool) (s : State) : State :=
  let d := s.dev
  let q := d.dmaQueue ch
  let b := d.qTail q * 64
  if busError then { s with dev := d.endDma ch 3 }
  else if d.dmaWaits ch j then { s with dev := d.setJob ch { j with waiting := true } }
  else
    let s := s.onDev (fun d => (d.missingPages q b (b + j.len)).foldl (fun d k => d.takePage q k) d)
    let s := State.qStore q b (sliceBytes l 0 j.len) s
    { s with dev := ((s.dev.setWb q (b + j.len)).jobMoved ch (b / 64) j.len j).endDma ch 0 }

/-- The descriptor in progress on channel ch completes (R301). -/
def State.dmaComplete (ch : Nat) (l : List Byte) (busError : Bool) (s : State) : State :=
  match s.dev.rms.jobs.find? (fun e => e.1 == ch) with
  | none => s
  | some (_, j) =>
    if j.waiting then s else
      match j.error with
      | some e => { s with dev := s.dev.endDma ch e }
      | none => if s.dev.dmaFrom ch then s.dmaFromHost ch j l busError else s.dmaToHost ch j busError

/-- Clearing EN aborts the descriptor in progress (R302). -/
def Dev.dmaAbort (ch : Nat) (d : Dev) : Dev :=
  (d.put (Fld.RMS_DMA_CTL.EN ch) 0).endDma ch 7

/-- A write of DMA_CTL: a cleared EN aborts. -/
def Dev.dmaCtl (ch : Nat) (v : Word) (d : Dev) : Dev :=
  let on := d.isSet (Fld.RMS_DMA_CTL.EN ch)
  let e := d.storeRw (Reg.RMS_DMA_CTL ch) v
  if on ∧ !e.isSet (Fld.RMS_DMA_CTL.EN ch) then (d.dmaAbort ch).storeRw (Reg.RMS_DMA_CTL ch) v else e

/-! ### Loads (R306) -/

/-- The flow whose merge buffer is queue q. -/
def Dev.mergeFlow (d : Dev) (q : Nat) : Option FlowDecl :=
  d.flows.find? (fun w => w.isProtected && d.isSet (Fld.MRG_FLOW_QUEUE.EN w.flow) && d.get (Fld.MRG_FLOW_QUEUE.QUEUE w.flow) == q)

/-- The ODUflex rate of a flow that carries the device overhead area, in bit/s times 15184 (R193). -/
def FlowDecl.rate15184 (w : FlowDecl) : Nat := oduRate w.ctype w.slots * 15232
/-- That rate rounded up to a whole Gbit/s (R306). -/
def FlowDecl.gbit (w : FlowDecl) : Nat := (w.rate15184 + 15184 * 10 ^ 9 - 1) / (15184 * 10 ^ 9)

/-- The HBM load of queue q in Gbit/s (R306). -/
def Dev.hbmLoad (d : Dev) (q : Nat) : Nat :=
  match d.qType q with
  | 4 => match d.mergeFlow q with | some w => 2 * w.gbit | none => 0
  | 5 => 0
  | _ => d.get (Fld.RMS_Q_DESC3.RATE_W q) + d.get (Fld.RMS_Q_DESC3.RATE_R q) + d.get (Fld.RMS_Q_DESC4.PAGE_RATE q)

/-- The group load of queue q. -/
def Dev.groupLoad (d : Dev) (q : Nat) : Nat :=
  if d.qType q = 5 then d.get (Fld.RMS_Q_DESC3.RATE_W q)
  else if d.qPolicy q = 2 then d.get (Fld.RMS_Q_DESC4.PAGE_RATE q) else 0

/-! ### Grants (R308, R309) -/

/-- A queue's claim on a capacity: queue, kind, class, load, and whether its traffic is paging. -/
structure Claim where
  q : Nat
  kind : Nat
  cls : Nat
  load : Nat
  page : Bool := false

/-- The load of the claims of kind k and class c that are paging, or that are not. -/
def claimTotal (l : List Claim) (k c : Nat) (page : Bool) : Nat :=
  (l.filter (fun x => x.kind == k && x.cls == c && x.page == page)).foldl (fun n x => n + x.load) 0

/-- A capacity: of all, what kind 2 may have of it, what serves paging and what serves other traffic (R308). -/
structure Capacity where
  all : Nat
  kind2 : Nat
  page : Nat
  other : Nat

/-- What a kind and class is granted: its number 8k + c, its load and its grant, and the factors, as numerator and denominator, by which
its paging and its other queues are scaled. -/
structure Granted where
  key : Nat
  load : Nat
  got : Nat
  page : Nat × Nat
  other : Nat × Nat

/-- What each kind and class is granted in the fixed order, from the capacity that those before it leave (R308). -/
def grantOrder (l : List Claim) : List Nat → Capacity → List Granted
  | [], _ => []
  | n :: r, c =>
    let p := claimTotal l (n / 8) (n % 8) true
    let o := claimTotal l (n / 8) (n % 8) false
    let p' := min p c.page
    let o' := min o c.other
    let got := min (p' + o') (if n / 8 = 2 then min c.all c.kind2 else c.all)
    { key := n, load := p + o, got := got, page := (p' * got, p * (p' + o')), other := (o' * got, o * (p' + o')) } ::
      grantOrder l r { all := c.all - got, kind2 := if n / 8 = 2 then c.kind2 - got else c.kind2,
                       page := c.page - p', other := c.other - o' }

/-- A load scaled by a factor; whether a share that is no whole Gbit/s is rounded up is a free value. -/
def share (load : Nat) (f : Nat × Nat) : Nat :=
  if f.2 = 0 then 0 else load * f.1 / f.2 + (if load * f.1 % f.2 ≠ 0 ∧ Config.roundUp load f.2 then 1 else 0)

/-- The claims of the declared queues on HBM. -/
def Dev.hbmClaims (d : Dev) : List Claim :=
  d.rms.queues.map (fun e => { q := e.1, kind := d.qKind e.1, cls := d.get (Fld.RMS_Q_DESC0.CLASS e.1), load := d.hbmLoad e.1 })
/-- The claims of the declared queues on group g. -/
def Dev.groupClaims (d : Dev) (g : Nat) : List Claim :=
  (d.rms.queues.filter (fun e => d.qGroup e.1 == g)).map (fun e =>
    { q := e.1, kind := d.qKind e.1, cls := d.get (Fld.RMS_Q_DESC0.CLASS e.1), load := d.groupLoad e.1,
      page := d.qPolicy e.1 == 2 })

/-- The lanes of group g that count for its queues' traffic. -/
def Dev.capacityLanes (d : Dev) (g : Nat) : List Nat :=
  let paged := d.rms.queues.any (fun e => d.qGroup e.1 == g && d.qPolicy e.1 == 2)
  let streams := d.rms.queues.any (fun e => d.qGroup e.1 == g && d.qType e.1 == 5)
  (List.range 48).filter (fun l => (decide (l ∈ d.groupLanes g true) && (paged || !streams)) ||
    (decide (l ∈ d.groupLanes g false) && (streams || !paged)))

/-- The capacity of a forwarded group (R467): its lanes while their link is in RUN and the exit group has capacity. -/
def Dev.forwardCapacity (d : Dev) (g : Nat) : Nat :=
  if g ∈ d.rms.exits then
    200 * ((d.forwardLanes g).filter (fun l => d.isSet (Fld.CHN_LINK_STATUS.RUN (l % 8 / 4)))).length else 0

/-- The summed rate of lanes. -/
def Dev.lanesRate (d : Dev) (l : List Nat) : Nat := l.foldl (fun n l => n + d.laneRate l) 0

/-- The present capacity of group g (R308): its lanes that count for its queues' traffic. Paging has none over Horug (R467). -/
def Dev.groupCapacity (d : Dev) (g : Nat) : Capacity :=
  let cap2 := d.get Fld.RMS_TR_CAP.CAP
  if d.groupForwarded g then { all := d.forwardCapacity g, kind2 := cap2, page := 0, other := d.forwardCapacity g }
  else { all := d.lanesRate (d.capacityLanes g), kind2 := cap2, page := d.lanesRate (d.groupLanes g true),
         other := d.lanesRate (d.groupLanes g false) }

/-- Grants of one resource: for each claim its queue and grant. -/
def grantEach (l : List Claim) (c : Capacity) : List (Nat × Nat) :=
  let order := grantOrder l (List.range 32) c
  l.map (fun x => match order.find? (fun e => e.key == 8 * x.kind + x.cls) with
    | some e => (x.q, share x.load (if x.page then e.page else e.other))
    | none => (x.q, 0))

/-- The capacity of the HBM: ADM_LIMIT, and RMS_TR_CAP for kind 2 (R308). -/
def Dev.hbmCapacity (d : Dev) : Capacity :=
  let n := d.get Fld.RMS_ADM_LIMIT.LIMIT
  { all := n, kind2 := d.get Fld.RMS_TR_CAP.CAP, page := n, other := n }

/-- The level of a token bucket in 1/28 bit (R303): it fills at the queue's grant, 25/28 bit a tick for each Gbit/s, up to 64
operations. -/
def Dev.bucket (d : Dev) (q dir : Nat) : Nat :=
  let (level, t) := Sparse.get (Config.bucketStart (2 * q + dir), d.ticks) d.rms.buckets (2 * q + dir)
  min (28 * 262144) (level + (d.ticks - t) * 25 * d.get (Fld.RMS_Q_GRANT.GRANT_HBM q))

/-- The levels of all buckets up to now, before the grants they fill at change. -/
def Dev.settleBuckets (d : Dev) : Dev :=
  { d with rms := { d.rms with buckets := d.rms.queues.foldl (fun l e =>
      Sparse.insert (2 * e.1 + 1) (d.bucket e.1 1, d.ticks) (Sparse.insert (2 * e.1) (d.bucket e.1 0, d.ticks) l)) d.rms.buckets } }

/-- Regrant the HBM: Q_GRANT, ADM_KIND and RMS.00. -/
def Dev.regrantHbm (d : Dev) : Dev :=
  let d := d.settleBuckets
  let l := d.hbmClaims
  let order := grantOrder l (List.range 32) d.hbmCapacity
  let short := order.any (fun e => decide (e.got < e.load))
  let d := (grantEach l d.hbmCapacity).foldl (fun d e => d.put (Fld.RMS_Q_GRANT.GRANT_HBM e.1) e.2) d
  let sum (k : Nat) (f : Granted → Nat) : Nat := (order.filter (fun e => e.key / 8 == k)).foldl (fun n e => n + f e) 0
  let d := Dev.forUpTo 4 (fun d k =>
    let was := d.get (Fld.RMS_ADM_KIND.GRANTED k)
    let d := (d.put (Fld.RMS_ADM_KIND.GRANTED k) (sum k (·.got))).put (Fld.RMS_ADM_KIND.RESERVED k) (min 4095 (sum k (·.load)))
    if was = sum k (·.got) then d else d.setInt intRMS 1) d
  d.causeIs 288 short

/-- The load of a group's queues whose traffic is paging, or is not. -/
def Dev.trafficLoad (d : Dev) (g : Nat) (page : Bool) : Nat :=
  ((d.groupClaims g).filter (fun x => x.page == page)).foldl (fun n x => n + x.load) 0

/-- Whether the present capacity of group g is below its load (R309): as a whole, or for one kind of its traffic. -/
def Dev.groupShort (d : Dev) (g : Nat) : Bool :=
  let c := d.groupCapacity g
  decide (c.page < d.trafficLoad g true) || decide (c.other < d.trafficLoad g false) ||
    decide (c.all < d.trafficLoad g true + d.trafficLoad g false)

/-- Regrant every group: Q_GRANT, GRP and RMS.01. -/
def Dev.regrantGroups (d : Dev) : Dev :=
  let short := (List.range 16).any d.groupShort
  let d' := Dev.forUpTo 16 (fun e g =>
    let cap := d.groupCapacity g
    let was := e.get (Fld.RMS_GRP.CAPACITY g)
    let e := (e.put (Fld.RMS_GRP.LOAD g) (d.trafficLoad g true + d.trafficLoad g false)).put (Fld.RMS_GRP.CAPACITY g) cap.all
    let e := (grantEach (d.groupClaims g) cap).foldl (fun e x => e.put (Fld.RMS_Q_GRANT.GRANT_GRP x.1) x.2) e
    if was = cap.all then e else e.setInt intRMS 2) d
  d'.causeIs 289 short

/-- The rates of merge queues as their descriptors show them (R306). -/
def Dev.mergeRates (d : Dev) : Dev :=
  d.rms.queues.foldl (fun d e =>
    if d.qType e.1 = 4 then
      let r := match d.mergeFlow e.1 with | some w => w.gbit | none => 0
      (d.put (Fld.RMS_Q_DESC3.RATE_W e.1) r).put (Fld.RMS_Q_DESC3.RATE_R e.1) r
    else d) d

/-- Grant every reservation anew (R308). -/
def Dev.regrant (d : Dev) : Dev := (d.mergeRates.regrantHbm).regrantGroups

/-- Grant anew, with the forwarded groups whose exit group has capacity now (R467). -/
def Dev.regrantWith (exits : List (Fin 16)) (d : Dev) : Dev :=
  ({ d with rms := { d.rms with exits := exits.map (·.val) } } : Dev).regrant

/-- A write of ADM_LIMIT: above 3,100 stores 3,100, below the load of kinds 0 and 1 that load (R309); in use at the next
operation taken (R305). -/
def Dev.admLimit (v : Nat) (d : Dev) : Dev :=
  let floor := (d.hbmClaims.filter (fun x => decide (x.kind ≤ 1))).foldl (fun n x => n + x.load) 0
  d.setShadow Reg.RMS_ADM_LIMIT (BitVec.ofNat 32 (max floor (min v 3100)))

/-- The pending global fields of RMS become active. -/
def Dev.rmsGlobal (d : Dev) : Dev :=
  if d.held? 9 then d else
    d.copyShadow (fun a => a == Reg.RMS_ADM_LIMIT || a == Reg.RMS_CLASS_W0 || a == Reg.RMS_CLASS_W1)

/-- The pending fields of queue q become active (R305), and what EN changes (R312). -/
def Dev.rmsQueue (q : Nat) (d : Dev) : Dev :=
  if d.held? 9 then d else
    let en := d.isSet (Fld.RMS_Q_DESC0.EN q)
    let d := d.copyShadow (fun a => decide (Reg.RMS_Q_DESC0 q ≤ a) && decide (a < Reg.RMS_Q_DESC0 (q + 1)))
    if d.isSet (Fld.RMS_Q_DESC0.EN q) = en then d else d.qEnState q

/-- Whether queue q has an operation waiting at a pseudo-channel. -/
def Dev.qWaiting (d : Dev) (q : Nat) : Bool := d.rms.waitOps.any (fun e => decide (q ∈ e.2))

/-- The fields of queue q have been written: they take effect at its next operation, or at once with none waiting (R305). -/
def Dev.rmsWritten (q : Nat) (d : Dev) : Dev := if d.qWaiting q then d else d.rmsQueue q

/-! ### The scheduler (R303 to R305, R322) -/

/-- Number of a source in round robin: queues, then windows. -/
def sourceNum : HbmSource → Nat
  | .queue q => q
  | .window r => 65536 + r

/-- The class of a waiting operation. -/
def Dev.opClass (d : Dev) (w : HbmWait) : Nat :=
  match w.src with
  | .queue q => d.get (Fld.RMS_Q_DESC0.CLASS q.val)
  | .window r => d.get (Fld.RMS_WIN_CTL.CLASS r.val)


/-- Whether a waiting operation may be taken from the guaranteed tier as one of kind k: a queue with a reservation and a
token. -/
def Dev.guaranteed (d : Dev) (k : Nat) (w : HbmWait) : Bool :=
  match w.src with
  | .queue q => decide (d.qKind q = k) && decide (d.hbmLoad q ≠ 0) && decide (28 * 4096 ≤ d.bucket q (bit (!w.write)))
  | .window _ => false

/-- The next source round robin after the last one served: the smallest above it, else the smallest. -/
def nextRound (last : Nat) (l : List HbmWait) : Option HbmWait :=
  let best (l : List HbmWait) : Option HbmWait := l.foldl (fun m w => match m with
    | none => some w
    | some x => if sourceNum w.src < sourceNum x.src then some w else some x) none
  match best (l.filter (fun w => decide (last < sourceNum w.src))) with
  | some w => some w
  | none => best l

/-- The excess tier (R303): deficit round robin over the classes, n turns left. -/
def Dev.excess (d : Dev) (l : List HbmWait) : Nat → PseudoChannel → Option HbmWait × PseudoChannel
  | 0, p => (none, p)
  | n + 1, p =>
    let cls (c : Nat) : List HbmWait := l.filter (fun w => d.opClass w == c)
    let c := p.cur
    let def_ (p : PseudoChannel) (c : Nat) : Nat := Sparse.get 0 p.deficit c
    if !(cls c).isEmpty ∧ 0 < def_ p c then
      let p : PseudoChannel := { p with deficit := Sparse.put 0 p.deficit c (def_ p c - 1) }
      match nextRound (Sparse.get 131071 p.last (4 + c)) (cls c) with
      | some w => (some w, { p with last := Sparse.insert (4 + c) (sourceNum w.src) p.last })
      | none => (none, p)
    else
      let p : PseudoChannel := if (cls c).isEmpty then { p with deficit := Sparse.put 0 p.deficit c 0 } else p
      let e := (c + 1) % 8
      let weight := getBits (d.reg (if e < 4 then Reg.RMS_CLASS_W0 else Reg.RMS_CLASS_W1)) (8 * (e % 4) + 7) (8 * (e % 4))
      let p : PseudoChannel := { p with cur := e }
      let p : PseudoChannel := if (cls e).isEmpty then p else { p with deficit := Sparse.put 0 p.deficit e (def_ p e + weight) }
      d.excess l n p

/-- The guaranteed tier by kind (R303). -/
def Dev.guaranteedPick (d : Dev) (l : List HbmWait) (p : PseudoChannel) : Option (Nat × HbmWait) :=
  (List.range 4).findSome? (fun k =>
    (nextRound (Sparse.get 131071 p.last k) (l.filter (d.guaranteed k))).map (fun w => (k, w)))

/-- An operation costs its queue's bucket 4,096 bits (R303). -/
def Dev.charge (d : Dev) (w : HbmWait) : Dev :=
  match w.src with
  | .queue q =>
    let dir := bit (!w.write)
    { d with rms := { d.rms with
      buckets := Sparse.insert (2 * q.val + dir) (d.bucket q dir - 28 * 4096, d.ticks) d.rms.buckets } }
  | .window _ => d

/-- The copy that the next slot of a merged flow would send counts as not held (R322). -/
def Dev.mergeLost (d : Dev) (f : Nat) : Dev :=
  let m := Sparse.get {} d.mrg.flows f
  let n := (d.reg (Reg.MRG_FLOW_OUTSQ f)).toNat
  { d with mrg := { d.mrg with
      flows := Sparse.put {} d.mrg.flows f { m with held := m.held.filter (fun h => h.sq != n) } } }

/-- The outcome of ECC for the operation taken (R322). -/
def Dev.eccOf (d : Dev) (w : HbmWait) (ecc : EccResult) : Dev :=
  match ecc with
  | .clean => { d with rms := { d.rms with bad := d.rms.bad.filter (fun a => a != w.addr / 512) } }
  | .corrected => ((d.incSat Fld.RMS_ECC_CNT.CE).setInt intRMS 3).raise 296
  | .uncorrectable =>
    let d := ((d.incSat Fld.RMS_ECC_CNT.UE).setInt intRMS 3).raise 297
    if w.write then d else
      let d := { d with rms := { d.rms with bad := d.rms.bad ++ [w.addr / 512] } }
      match w.src with
      | .queue q => if d.qType q.val = 4 then (match d.mergeFlow q.val with | some x => d.mergeLost x.flow | none => d) else d
      | .window _ => d

/-- Operations in flight on all pseudo-channels (R304). -/
def Dev.opsInFlight (d : Dev) : Nat := d.rms.pcs.foldl (fun n e => n + e.2.inflight) 0

/-- Operation w is taken, of those in l: the operations of queues that are left wait on; those of windows leave the list of theirs; pending
fields of the queue take effect (R305). -/
def Dev.hbmTake (d : Dev) (pc : Nat) (l : List HbmWait) (w : Option HbmWait) : Dev :=
  let left := match w with | some w => removeFirst w l | none => l
  let queues := left.filterMap (fun x => match x.src with | .queue q => some q.val | .window _ => none)
  let d := { d with rms := { d.rms with
    waitOps := Sparse.put [] d.rms.waitOps pc queues,
    winOps := match w with | some w => removeFirst w d.rms.winOps | none => d.rms.winOps } }
  match w with
  | some { src := .queue q, .. } => d.rmsQueue q.val
  | _ => d

/-- Operations of the queues that wait for pseudo-channel pc, and those of the windows (R287, R297). -/
def Dev.hbmWaiting (d : Dev) (pc : Nat) (waiting : List HbmWait) : List HbmWait :=
  (waiting.filter (fun w => (match w.src with | .queue _ => true | .window _ => false)) ++ d.rms.winOps).filter
    (fun w => decide (w.addr / 512 % 16 = pc) && decide (w.addr < hbmBytes))

/-- Pseudo-channel pc takes its next operation from those that wait for it (R287, R303), after done of its operations have
completed; pending weights and ADM_LIMIT take effect (R305). waiting gives the operations of queues. -/
def Dev.hbmOp (pc : Nat) (waiting : List HbmWait) (done : Nat) (ecc : EccResult) (d : Dev) : Dev :=
  let d := d.rmsGlobal
  let l := d.hbmWaiting pc waiting
  let p0 := Sparse.get {} d.rms.pcs pc
  let p : PseudoChannel := { p0 with inflight := p0.inflight - done }
  let put (d : Dev) (p : PseudoChannel) : Dev := { d with rms := { d.rms with pcs := Sparse.insert pc p d.rms.pcs } }
  let shown (d : Dev) : Dev :=
    let n := d.opsInFlight
    (d.put Fld.RMS_INFLIGHT.OPS n).put Fld.RMS_INFLIGHT.PEAK (max n (d.get Fld.RMS_INFLIGHT.PEAK))
  if 256 ≤ p.inflight then shown ((put d p).hbmTake pc l none) else
    match d.guaranteedPick l p with
    | some (k, w) =>
      let d := put (d.charge w) { p with inflight := p.inflight + 1, last := Sparse.insert k (sourceNum w.src) p.last }
      (shown (d.hbmTake pc l (some w))).eccOf w ecc
    | none =>
      if 192 ≤ p.inflight then shown ((put d p).hbmTake pc l none) else
        match d.excess l 16 p with
        | (some w, p) => (shown ((put d { p with inflight := p.inflight + 1 }).hbmTake pc l (some w))).eccOf w ecc
        | (none, p) => shown ((put d p).hbmTake pc l none)

/-! ### Declaring, keeping and deleting queues (R82, R312), block reset (R323) -/

/-- The words of a descriptor in the queue-window registers of queue q. -/
def Dev.setDesc (d : Dev) (q : Nat) (desc : List Word) : Dev :=
  Dev.forUpTo 8 (fun d w => d.setReg (Reg.RMS_Q_DESC0 q + 4 * w) (desc.getD w 0)) d

/-- Queue q is deleted: its pages return to the free list, outstanding descriptors end QUEUE_DELETED, its registers read 0. -/
def Dev.deleteQueue (d : Dev) (q : Nat) : Dev :=
  let gone := (d.q q).pages.map (·.phys) ++ (d.q q).cache.map (·.2) ++
    (d.rms.transfers.filter (fun t => !t.out && t.queue == q)).map (·.phys)
  let chs := (d.rms.jobs.filter (fun e => d.dmaQueue e.1 == q)).map (·.1)
  let d := gone.foldl Dev.freeOne d
  let d := { d with
    regs := d.regs.filter (fun e => !(decide (Reg.RMS_Q_DESC0 q ≤ e.1) && decide (e.1 < Reg.RMS_Q_DESC0 (q + 1)))),
    shadow := d.shadow.filter (fun e => !(decide (Reg.RMS_Q_DESC0 q ≤ e.1) && decide (e.1 < Reg.RMS_Q_DESC0 (q + 1)))),
    rms := { d.rms with
      queues := d.rms.queues.filter (fun e => e.1 != q),
      buckets := d.rms.buckets.filter (fun e => e.1 / 2 != q),
      transfers := d.rms.transfers.filter (fun t => t.queue != q) } }
  ((chs.foldl (fun d ch => d.endDma ch 2) d).poolCheck).haltCause

/-- Region r declares queue q with a descriptor (R82): kept with its contents where number and type agree, else new. A kept queue keeps its
state unless EN changes (R312) or it becomes a Carousel or ceases to be one (DEDUCED, notes/assumptions/27.md). -/
def Dev.declareQueue (d : Dev) (r : Nat) (x : QueueDecl) : Dev :=
  let q := x.queue
  let type := (x.desc.getD 0 0).toNat % 256
  let keep := decide (d.qType q = type)
  let en := d.isSet (Fld.RMS_Q_DESC0.EN q)
  let d := if keep then d else if d.qType q = 0 then d else d.deleteQueue q
  let round := d.isCarousel q
  let d := d.setDesc q x.desc
  if keep then
    let d := d.setQ q { d.q q with region := r }
    if d.isSet (Fld.RMS_Q_DESC0.EN q) = en ∧ d.isCarousel q = round then d else d.qEnState q
  else (d.setQ q { region := r }).qEnState q

/-- The queues of the regions in maps that no map of them declares with their number and type (R82). -/
def Dev.queuesGone (d : Dev) (maps : List (Nat × List QueueDecl)) : List Nat :=
  (d.rms.queues.filter (fun e => maps.any (fun m => m.1 == e.2.region) &&
    !maps.any (fun m => m.2.any (fun x => x.queue == e.1 && decide ((x.desc.getD 0 0).toNat % 256 = d.qType e.1))))).map (·.1)

/-- The queue maps of regions are installed together: queues that no map keeps are deleted, and a kept queue belongs to the region that
now declares it (R82). -/
def Dev.installQueues (d : Dev) (maps : List (Nat × List QueueDecl)) : Dev :=
  maps.foldl (fun d m => m.2.foldl (fun d x => d.declareQueue m.1 x) d) ((d.queuesGone maps).foldl Dev.deleteQueue d)

/-- A block reset of RMS (R323): operations in flight are aborted, outstanding transfers are sent again, descriptors in progress
end ABORTED; queues keep everything. -/
def Dev.rmsReset (d : Dev) : Dev :=
  let d := (d.rms.jobs.map (·.1)).foldl (fun d ch => d.endDma ch 7) d
  let d := { d with rms := { d.rms with pcs := [], buckets := [], inbox := [], waitOps := [], winOps := [] } }
  d.rms.transfers.foldl (fun d t => if t.out then d.sendPage t else d.sendRead t) d

/-! ### Meanings -/

/-- DMA_PROD (R299). -/
def execDmaProd (req : Requester) (ch : Fin 64) (prod : BitVec 16) := runWrite req 9 (Dev.dmaProd ch prod.toNat)
/-- DMA_DESCRIPTOR (R300). -/
def execDmaDescriptor (ch : Fin 64) (desc : List Byte) := runBlock 9 (Dev.dmaDescriptor ch desc)
/-- DMA_COMPLETE (R301). -/
def execDmaComplete (ch : Fin 64) (data : List Byte) (busError : Bool) := runBlockState 9 (State.dmaComplete ch data busError)
/-- DMA_ABORT (R302). -/
def execDmaAbort (req : Requester) (ch : Fin 64) := runWrite req 9 (Dev.dmaAbort ch)
/-- HBM_OP (R303). -/
def execHbmOp (pc : Fin 16) (waiting : List HbmWait) (done : Nat) (ecc : EccResult) := runBlock 9 (Dev.hbmOp pc waiting done ecc)
/-- GRANT_RECOMPUTE (R308). -/
def execGrantRecompute (exits : List (Fin 16)) := runDev (Dev.regrantWith exits)
/-- ADM_LIMIT_WRITE (R309). -/
def execAdmLimitWrite (req : Requester) (limit : BitVec 12) := runWrite req 9 (Dev.admLimit limit.toNat)

end Sys2Proof.Machine
end

