-- ==== Sys2Proof/Machine/Tsucor.lean ====
section
/-! DEFINITION. Block HST: receiving and sending Tsucor frames, the partner table (R282 to R284). -/

namespace Sys2Proof.Machine

/-- The delineation of lane l sees a frame (R279): outside FRAME_LOCK one with SYNC and a valid CRC counts, in it one without SYNC. -/
def Dev.tsuSync (d : Dev) (l : Nat) (bytes : List Byte) : Dev :=
  let sync := decide (bytes.take 2 = [0x7D, 0x2B])
  if d.isSet (Fld.HST_TSU_STATUS.FRAME_LOCK l) then d.setSync l 0 (if sync then 0 else (d.hl l).badSync + 1)
  else if d.laneRole l = 2 ∧ d.laneUp l then d.setSync l (if sync && tsuCrcOk bytes then (d.hl l).good + 1 else 0) 0
  else d

/-- A HELLO updates the partner entry of lane l (R283, Table 6). -/
def Dev.tsuHello (d : Dev) (l : Nat) (x : List Byte) : Dev :=
  let was := d.isSet (Fld.HST_TSU_STATUS.PARTNER l)
  let d := d.setReg64 (Reg.HST_TSU_PARTNER_LO l) (beAt x 0 8)
  let d := (((d.put (Fld.HST_TSU_STATUS.PROLE l) (beAt x 8 1)).put (Fld.HST_TSU_STATUS.PLANE l) (beAt x 9 1)).put
    (Fld.HST_TSU_STATUS.PGROUP l) (beAt x 10 1)).put (Fld.HST_TSU_STATUS.PLANES l) (beAt x 11 1)
  let d := d.setHl l { d.hl l with partnerPages := beAt x 12 4, partnerInterval := beAt x 16 2 }
  let d := d.put (Fld.HST_TSU_STATUS.PARTNER l) 1
  (if was then d else d.setInt intHST 3).hstCheck

/-- A frame received on lane l (R282): outside FRAME_LOCK nothing is accepted (R279); a bad CRC discards the frame whole. -/
def State.tsucorRx (l : Nat) (bytes : List Byte) (s : State) : State :=
  let d := s.dev.tsuSync l bytes
  let s : State := { s with dev := d }
  if !d.isSet (Fld.HST_TSU_STATUS.FRAME_LOCK l) then s
  else if !tsuCrcOk bytes then { s with dev := (d.incSat (Fld.HST_TSU_ERR_CNT.CRC l)).raise 263 }
  else
    let f := tsuParse bytes
    match f.kind with
    | 0 => s
    | 1 => if d.streamTarget f.queue (d.laneGroup l) ∧ !d.inReset 9 then s.streamAccept f.queue (some l) f
      else { s with dev := d.tsuDrop l }
    | 4 => { s with dev := { d.countRx l with rms := { d.rms with inbox := d.rms.inbox ++ [f] } } }
    | 5 => { s with dev := { d.countRx l with rms := { d.rms with inbox := d.rms.inbox ++ [f] } } }
    | 6 => { s with dev := (d.countRx l).tsuHello l f.data }
    | _ => { s with dev := d.tsuDrop l }

/-- The data of the HELLO sent on lane l (Table 6). -/
def Dev.helloData (d : Dev) (l : Nat) : List Byte :=
  beBytes 8 Config.dieId.toNat ++ beBytes 1 0 ++ beBytes 1 l ++ beBytes 1 (d.laneGroup l) ++
    beBytes 1 ((List.range 48).filter (fun m => decide (d.laneRole m = 2) && decide (d.laneGroup m = d.laneGroup l))).length ++
    beBytes 4 0 ++ beBytes 2 (d.get Fld.HST_HELLO_CTL.HELLO_INT)

/-- HELLO goes out on every spill lane in UP (R283). -/
def Dev.helloTx (d : Dev) : Dev :=
  Dev.forUpTo 48 (fun d l => if d.laneRole l = 2 ∧ d.laneUp l then
    d.tsuSend l { kind := 6, len := 32, data := d.helloData l } else d) d

/-- No valid HELLO arrived in time: the partner entry of lane l becomes invalid (R283). -/
def Dev.partnerTimeout (l : Nat) (d : Dev) : Dev := (d.partnerOff l).hstCheck

/-! ### Meanings -/

/-- TSUCOR_FRAME_RX (R282). -/
def execTsucorFrameRx (l : Fin 48) (frame : List Byte) := runBlockState 8 (State.tsucorRx l frame)
/-- TSU_HELLO_TX (R283). -/
def execTsuHelloTx := runBlock 8 Dev.helloTx
/-- PARTNER_TIMEOUT (R283). -/
def execPartnerTimeout (l : Fin 48) := runBlock 8 (Dev.partnerTimeout l)

end Sys2Proof.Machine
end

