-- ==== Sys2Proof/Machine/Merge.lean ====
section
/-! DEFINITION. Block MRG: numbering, the checks on copies, path states, anchors, slots and heartbeats
(08_hitless_merge.md). -/

namespace Sys2Proof.Machine

/-! ### Flows and joins (R235, R236, R241, R251) -/

/-- Flow f beside its registers. -/
def Dev.mf (d : Dev) (f : Nat) : MergeFlow := Sparse.get {} d.mrg.flows f
/-- Replace flow f. -/
def Dev.setMf (d : Dev) (f : Nat) (v : MergeFlow) : Dev := { d with mrg := { d.mrg with flows := Sparse.put {} d.mrg.flows f v } }

/-- A path as a number: 0 W, 1 P. -/
def pathNum : MergePath → Nat
  | .pathW => 0
  | .pathP => 1
/-- The other path. -/
def otherPath : MergePath → MergePath
  | .pathW => .pathP
  | .pathP => .pathW

/-- Path p of a flow beside its registers. -/
def MergeFlow.path (m : MergeFlow) : MergePath → MergePathState
  | .pathW => m.w
  | .pathP => m.p
/-- Replace a path. -/
def MergeFlow.setPath (m : MergeFlow) (p : MergePath) (v : MergePathState) : MergeFlow :=
  match p with
  | .pathW => { m with w := v }
  | .pathP => { m with p := v }

/-- The declaration of a protected flow. -/
def Dev.protectedFlow (d : Dev) (f : Nat) : Option FlowDecl := (d.flowOf f).filter (·.isProtected)
/-- The protected flows. -/
def Dev.protectedFlows (d : Dev) : List FlowDecl := d.flows.filter (·.isProtected)
/-- Whether a flow is in RELAY (R251). -/
def Dev.relay (d : Dev) (f : Nat) : Bool := d.isSet (Fld.MRG_FLOW_CTL.MODE f)

/-- Whether the P path of flow f comes through Horug (R236). -/
def Dev.pViaChn (d : Dev) (f : Nat) : Bool :=
  match d.sourceOf 3 0x0702 f with
  | some (src, _) => src == 0x0E00
  | none => false
/-- The Horug link of flow f. -/
def Dev.pLink (d : Dev) (f : Nat) : Nat := d.get (Fld.CHN_ODU_ROUTE.LINK f)

/-- Whether a path has its join: of a port path also slots on the port's active receive page (Table 1). -/
def Dev.hasJoin (d : Dev) (f : Nat) (p : MergePath) : Bool :=
  (d.protectedFlow f).isSome &&
    (if p = .pathP && d.pViaChn f then true else decide (d.slotsOf (2 * pathNum p) f ≠ 0))

/-- Whether a path has signal fail (R241). -/
def Dev.signalFail (d : Dev) (f : Fin 1280) (p : MergePath) : Bool :=
  if p = .pathP && d.pViaChn f then !d.isSet (Fld.CHN_LINK_STATUS.RUN (d.pLink f)) else
    let x : Fin 2 := match p with | .pathW => 0 | .pathP => 1
    let port := d.aligner (.port x)
    let a := d.aligner (.flow f x)
    d.live? (fLN x 8) || port.lof || port.lom || (d.feeds 2 (0x500 + x.val) noInst).isNone || a.lof || a.lom ||
      (match d.flowOf f with | some w => d.incompleteOn w x | none => true) || decide (d.slotsOf (2 * x) f = 0)

/-- Field of a path in FLOW_STATUS: STATE. -/
def fldState (f : Nat) : MergePath → Fld
  | .pathW => Fld.MRG_FLOW_STATUS.STATE_W f
  | .pathP => Fld.MRG_FLOW_STATUS.STATE_P f
/-- CAUSE of a path. -/
def fldCause (f : Nat) : MergePath → Fld
  | .pathW => Fld.MRG_FLOW_STATUS.CAUSE_W f
  | .pathP => Fld.MRG_FLOW_STATUS.CAUSE_P f
/-- CLASS of a path. -/
def fldClass (f : Nat) : MergePath → Fld
  | .pathW => Fld.MRG_FLOW_STATUS.CLASS_W f
  | .pathP => Fld.MRG_FLOW_STATUS.CLASS_P f
/-- INV_CNT of a path. -/
def fldInv (f : Nat) : MergePath → Fld
  | .pathW => Fld.MRG_FLOW_INV_CNT.W f
  | .pathP => Fld.MRG_FLOW_INV_CNT.P f

/-- State code of a path (Table 1). -/
def Dev.pathState (d : Dev) (f : Nat) (p : MergePath) : Nat := d.get (fldState f p)
/-- Whether FORCE_PATH allows a path. -/
def Dev.forceAllows (d : Dev) (f : Nat) (p : MergePath) : Bool :=
  match d.get (Fld.MRG_FLOW_CTL.FORCE_PATH f), p with
  | 1, .pathP => false
  | 2, .pathW => false
  | _, _ => true

/-! ### Delays and the window (R246, R247) -/

/-- The merge-buffer queue of flow f, where it has one. -/
def Dev.mergeQueue (d : Dev) (f : Nat) : Option Nat :=
  let q := d.get (Fld.MRG_FLOW_QUEUE.QUEUE f)
  if d.isSet (Fld.MRG_FLOW_QUEUE.EN f) ∧ d.qType q = 4 then some q else none

/-- Bits of an ODUflex frame. -/
def oduFrameBits : Nat := 122368
/-- Granules of an ODUflex frame. -/
def oduFrameGranules : Nat := 239

/-- Bits DELAY_MAX spans, times 15184: the lesser of 10 ms and QUOTA - 1 pages (R246). -/
def Dev.delayMaxBits (d : Dev) (w : FlowDecl) : Nat :=
  match d.mergeQueue w.flow with
  | some q => min (w.rate15184 / 100) ((d.qQuota q - 1) * 16777216 * 15184)
  | none => 0

/-- DELAY_MAX in µs, rounded down. -/
def Dev.delayMaxUs (d : Dev) (w : FlowDecl) : Nat := d.delayMaxBits w * 1000000 / max 1 w.rate15184
/-- DELAY_ACT in fabric ticks. -/
def Dev.delayTicks (d : Dev) (w : FlowDecl) : Nat :=
  min (d.get (Fld.MRG_FLOW_DELAY.DELAY w.flow) * 1120) (d.delayMaxBits w * 1120000000 / max 1 w.rate15184)
/-- W_MAX (R247). -/
def Dev.wMax (d : Dev) (w : FlowDecl) : Nat := d.delayMaxBits w / (oduFrameBits * 15184)
/-- The nominal frame period of a flow in 2^-32 tick. -/
def FlowDecl.period (w : FlowDecl) : Nat := oduFrameBits * 1120000000 * 15184 * 2 ^ 32 / max 1 w.rate15184

/-- The frame period recovered from the serving path, in 2^-32 tick (R245): the mean over the arrivals that the path keeps; with fewer than
two, the nominal one (DEDUCED, notes/assumptions/11.md). -/
def Dev.recovered (d : Dev) (w : FlowDecl) : Nat :=
  let m := d.mf w.flow
  let l := (m.path (if d.isSet (Fld.MRG_FLOW_STATUS.SERVING w.flow) then .pathP else .pathW)).arrived
  match l.head?, l.getLast? with
  | some a, some b =>
    let n := (b.1 + 2 ^ 32 - a.1) % 2 ^ 32
    if n = 0 ∨ b.2 ≤ a.2 then w.period else (b.2 - a.2) * 2 ^ 32 / n
  | _, _ => w.period

/-- The tick at which the slot of the frame n after N_out begins. -/
def Dev.slotAt (d : Dev) (w : FlowDecl) (n : Nat) : Nat :=
  (d.mf w.flow).slotTick + ((d.mf w.flow).slotFrac + n * d.recovered w) / 2 ^ 32

/-- The slot of N_out is over: the next follows one frame period after it (R245). -/
def Dev.nextSlot (d : Dev) (w : FlowDecl) : Dev :=
  let m := d.mf w.flow
  d.setMf w.flow { m with slotTick := d.slotAt w 1, slotFrac := (m.slotFrac + d.recovered w) % 2 ^ 32 }

/-- (int32)(a - b) modulo 2^32. -/
def serialDiff (a b : Nat) : Int := toSigned 32 ((a + 2 ^ 32 - b % 2 ^ 32) % 2 ^ 32)

/-- N_out of flow f. -/
def Dev.nOut (d : Dev) (f : Nat) : Nat := (d.reg (Reg.MRG_FLOW_OUTSQ f)).toNat
/-- Whether the output of flow f is anchored. -/
def Dev.anchored (d : Dev) (f : Nat) : Bool := d.isSet (Fld.MRG_FLOW_STATUS.ANCHORED f)

/-- Whether a copy with number sq lies outside the window (R247): behind N_out, less than 64 ticks before its slot, or beyond
W_MAX. Before the anchor there is no window. -/
def Dev.outsideWindow (d : Dev) (w : FlowDecl) (sq : Nat) : Bool :=
  let off := serialDiff sq (d.nOut w.flow)
  d.anchored w.flow && (decide (off < 0) ||
    decide (d.slotAt w off.toNat < d.ticks + 64) ||
    decide ((d.wMax w : Int) < off))

/-! ### Events and causes (R249, R252) -/

/-- Set bit i of a flow's EVT: FLOW_EVT follows. -/
def Dev.mergeEvt (d : Dev) (f i : Nat) : Dev := (d.setBit (Reg.MRG_FLOW_EVT f) i).setInt intMRG 1

/-- Whether some path of a protected flow satisfies a condition. -/
def Dev.anyPath (d : Dev) (c : Nat → MergePath → Bool) : Bool :=
  d.protectedFlows.any (fun w => c w.flow .pathW || c w.flow .pathP)

/-- The causes of MRG.00, .01, .03, .04 and .05, DELAY_MAX of every flow and the slots of protected flows. -/
def Dev.mrgCheck (d : Dev) : Dev :=
  let d := d.protectedFlows.foldl (fun d w => d.put (Fld.MRG_FLOW_DMAX.DMAX w.flow) (d.delayMaxUs w)) d
  let d := d.put Fld.MRG_STATUS.SLOTS (d.protectedFlows.foldl (fun n w => n + w.slots) 0)
  let d := d.causeIs 224 (d.protectedFlows.any (fun w => d.pathState w.flow .pathW == 3))
  let d := d.causeIs 225 (d.protectedFlows.any (fun w => d.pathState w.flow .pathP == 3))
  let d := d.causeIs 227 (d.anyPath (fun f p => d.get (fldCause f p) == 3))
  let d := d.causeIs 228 (d.anyPath (fun f p => d.get (fldClass f p) == 2))
  d.causeIs 229 (d.protectedFlows.any (fun w => !d.relay w.flow && decide (d.delayMaxBits w = 0)))

/-! ### Anchors (R245, R246) -/

/-- The held copies of flow f leave its queue. -/
def Dev.dropHeld (d : Dev) (f : Nat) : Dev :=
  let d := d.setMf f { d.mf f with held := [] }
  match d.mergeQueue f with
  | some q => d.moveHead q (d.qTail q)
  | none => d

/-- The anchor of flow f is dropped: N_out reads 0 until the next one. -/
def Dev.dropAnchor (d : Dev) (f : Nat) : Dev :=
  (d.put (Fld.MRG_FLOW_STATUS.ANCHORED f) 0).setReg (Reg.MRG_FLOW_OUTSQ f) 0

/-- Whether some path of flow f is OK. -/
def Dev.someOk (d : Dev) (f : Nat) : Bool := d.pathState f .pathW == 2 || d.pathState f .pathP == 2

/-- When no path is OK the anchor is dropped (R246). -/
def Dev.anchorCheck (d : Dev) (f : Nat) : Dev := if d.someOk f then d else (d.dropAnchor f).dropHeld f

/-- The earliest held copy in serial order. -/
def earliest : List HeldFrame → Option HeldFrame
  | [] => none
  | h :: r => match earliest r with
    | none => some h
    | some e => if serialDiff e.sq h.sq < 0 then some e else some h

/-- The output of flow f anchors (R245): the earliest stored SQ becomes N_out, its slot lies DELAY_ACT after its arrival. A flow
in RELAY, with DELAY_MAX 0 or without a stored copy does not anchor. -/
def Dev.formAnchor (d : Dev) (f : Nat) : Dev :=
  match d.protectedFlow f, earliest (d.mf f).held with
  | some w, some h =>
    if d.relay f ∨ d.delayMaxBits w = 0 then d else
      let again := (d.mf f).anchoredOnce
      let d := d.setMf f { d.mf f with slotTick := h.tick + d.delayTicks w, slotFrac := 0, anchoredOnce := true }
      let d := (((d.put (Fld.MRG_FLOW_STATUS.ANCHORED f) 1).setReg (Reg.MRG_FLOW_OUTSQ f) (BitVec.ofNat 32 h.sq)).mergeEvt f 5)
      if again then d.raise 230 else d
  | _, _ => d

/-- Both paths are OK (R245). -/
def Dev.anchorBoth (f : Nat) (d : Dev) : Dev :=
  if d.pathState f .pathW = 2 ∧ d.pathState f .pathP = 2 ∧ !d.anchored f then d.formAnchor f else d
/-- One path has been OK for 20 ms (R245). -/
def Dev.anchorOne (f : Nat) (d : Dev) : Dev := if d.someOk f ∧ !d.anchored f then d.formAnchor f else d

/-! ### Path states (R242 to R244, R249) -/

/-- A path enters FAILED with a cause; its class is UNKNOWN at first. -/
def Dev.pathFail (d : Dev) (f : Nat) (p : MergePath) (cause : Nat) : Dev :=
  let d := ((d.put (fldState f p) 3).put (fldCause f p) cause).put (fldClass f p) 0
  let m := d.mf f
  let d := d.setMf f (m.setPath p { m.path p with run := 0, failed := none })
  ((d.mergeEvt f (pathNum p)).anchorCheck f).mrgCheck

/-- A path leaves FAILED, or ABSENT, for a state: CAUSE and CLASS read 0. -/
def Dev.pathTo (d : Dev) (f : Nat) (p : MergePath) (st : Nat) : Dev :=
  let d := ((d.put (fldState f p) st).put (fldCause f p) 0).put (fldClass f p) 0
  let m := d.mf f
  ((d.setMf f (m.setPath p { m.path p with run := 0, failed := none })).anchorCheck f).mrgCheck

/-- A path takes the state its join and FORCE_PATH demand (Table 1). -/
def Dev.pathJoin (d : Dev) (f : Nat) (p : MergePath) : Dev :=
  let st := d.pathState f p
  if !d.hasJoin f p then (if st = 0 then d else d.pathTo f p 0)
  else
    let d := if st = 0 then d.pathTo f p 1 else d
    if !d.forceAllows f p ∧ d.pathState f p ≠ 3 then d.pathFail f p 0 else d

/-- Eight frame periods without a valid copy (R242, R244): the cause is that of the last copy received in them, SIGNAL where none
arrived. -/
def Dev.pathTimeout (f : Fin 1280) (p : MergePath) (d : Dev) : Dev :=
  if d.pathState f p = 2 then
    d.pathFail f p (if d.signalFail f p then 1 else (((d.mf f).path p).failed).getD 1)
  else d

/-- Signal fail is present (R243). -/
def Dev.pathSignalFail (f : Fin 1280) (p : MergePath) (d : Dev) : Dev :=
  if (d.pathState f p = 1 ∨ d.pathState f p = 2) ∧ d.signalFail f p then d.pathFail f p 1 else d

/-- Signal fail is absent and FORCE_PATH allows the path (R242). -/
def Dev.pathSignalClear (f : Fin 1280) (p : MergePath) (d : Dev) : Dev :=
  if d.pathState f p = 3 ∧ !d.signalFail f p ∧ d.forceAllows f p then d.pathTo f p 1 else d

/-- Whether the heartbeat of a path is present (R249). -/
def Dev.hbPresent (d : Dev) (f : Nat) (p : MergePath) : Bool :=
  match p with
  | .pathW => d.isSet Fld.MRG_STATUS.HB_A
  | .pathP => if d.pViaChn f then decide (d.pLink f ∈ d.mrg.chnHb) else d.isSet Fld.MRG_STATUS.HB_B

/-- HB_LOSS × 100 ms after a path entered FAILED (R249). -/
def Dev.pathClass (f : Nat) (p : MergePath) (d : Dev) : Dev :=
  if d.pathState f p = 3 ∧ d.get (fldClass f p) = 0 then
    (d.put (fldClass f p) (if d.hbPresent f p then 2 else 1)).mrgCheck
  else d

/-- Failed paths whose heartbeat is absent take CLASS LINE (R249). -/
def Dev.classLine (d : Dev) : Dev :=
  let one (d : Dev) (f : Nat) (p : MergePath) : Dev :=
    if d.pathState f p = 3 ∧ d.get (fldClass f p) = 0 ∧ !d.hbPresent f p then d.put (fldClass f p) 1 else d
  (d.protectedFlows.foldl (fun d w => one (one d w.flow .pathW) w.flow .pathP) d).mrgCheck

/-- The heartbeat flag of a source. -/
def Dev.setHb (d : Dev) (src : HbSource) (on : Bool) : Dev :=
  match src with
  | .link k => { d with mrg := { d.mrg with
      chnHb := if on then (if k.val ∈ d.mrg.chnHb then d.mrg.chnHb else d.mrg.chnHb ++ [k.val])
        else d.mrg.chnHb.filter (fun j => j != k.val) } }
  | .port x =>
    let f := if x = 0 then Fld.MRG_STATUS.HB_A else Fld.MRG_STATUS.HB_B
    if d.isSet f = on then d else (d.put f (bit on)).setInt intMRG 0

/-- A source's heartbeat has been absent for HB_LOSS × 100 ms (R249). -/
def Dev.heartbeatLoss (src : HbSource) (d : Dev) : Dev := (d.setHb src false).classLine

/-! ### Numbering and copies (R237 to R240, R247) -/

/-- SQ of a frame: bytes 0 to 3 of the device overhead area (R237). -/
def oduSq (x : OduFrame) : Nat := beAt x.overhead 0 4
/-- A frame with a number. -/
def oduWithSq (x : OduFrame) (n : Nat) : OduFrame :=
  { x with overhead := beBytes 4 n ++ x.overhead.drop 4 }

/-- MRG.DUP numbers a frame and sends it on both paths (R238); in RELAY the number passes unchanged (R251). -/
def Dev.mergeDup (f : Nat) (x : OduFrame) (d : Dev) : Dev :=
  if (d.protectedFlow f).isNone || !d.regionRuns 3 then d else
    let n := if d.relay f then oduSq x else ((d.reg (Reg.MRG_FLOW_TXSQ f)).toNat + 1) % 2 ^ 32
    (d.setReg (Reg.MRG_FLOW_TXSQ f) (BitVec.ofNat 32 n)).setMf f { d.mf f with dup := some (oduWithSq x n) }

/-- Whether a copy is in frame and no consequent ODU-AIS (checks 1 and 3 of R239). -/
def Dev.copyFramed (d : Dev) (f : Fin 1280) (p : MergePath) : Bool :=
  if p = .pathP && d.pViaChn f then d.isSet (Fld.CHN_LINK_STATUS.RUN (d.pLink f)) else
    let x : Fin 2 := match p with | .pathW => 0 | .pathP => 1
    let a := d.aligner (.flow f x)
    decide (a.state = 3) && !a.oom && !d.portAis x && !d.oducnAis x && !d.flowFails f x

/-- The cause a failing copy stands for, by R244; none for a valid copy. -/
def Dev.copyFails (d : Dev) (w : FlowDecl) (f : Fin 1280) (p : MergePath) (x : OduFrame) (uncorrected : Bool) : Option Nat :=
  if ((d.mf f).path p).prev.map (fun n => (n + 1) % 2 ^ 32) ≠ some (oduSq x) then some 2
  else if !d.relay f && d.outsideWindow w (oduSq x) then some 3
  else if uncorrected || !d.copyFramed f p then some 1
  else none

/-- Copies that wait before the anchor leave when DELAY_ACT has passed since their arrival (DEDUCED, notes/assumptions/11.md). -/
def Dev.ageHeld (d : Dev) (w : FlowDecl) : Dev :=
  let f := w.flow
  if d.anchored f then d else
    let old := (d.mf f).held.filter (fun h => decide (h.tick + d.delayTicks w < d.ticks))
    if old.isEmpty then d else
      let d := d.setMf f { d.mf f with held := (d.mf f).held.filter (fun h => !decide (h.tick + d.delayTicks w < d.ticks)) }
      match d.mergeQueue f with
      | some q => d.moveHead q (min (d.qTail q) (d.qHead q + oduFrameGranules * old.length))
      | none => d

/-- A copy is stored in the merge-buffer queue (R247): the first of its SQ; of two in one tick the W copy. -/
def Dev.storeCopy (d : Dev) (f : Nat) (p : MergePath) (x : OduFrame) : Dev :=
  let m := d.mf f
  match m.held.find? (fun h => h.sq == oduSq x) with
  | some h =>
    if p = .pathW ∧ h.path = 1 ∧ h.tick = d.ticks then
      d.setMf f { m with held := m.held.map (fun (e : HeldFrame) => if e.sq = oduSq x then { e with path := 0, frame := x } else e) }
    else d
  | none =>
    match d.mergeQueue f with
    | none => d
    | some q =>
      let b := d.qTail q * 64
      let e := b + oduFrameGranules * 64
      let (got, d) := Dev.growFrom q e 3 (b / pageBytes) d
      if got < e then d else
        (d.setWb q e).setMf f { m with held := m.held ++ [{ sq := oduSq x, path := pathNum p, tick := d.ticks, frame := x }] }

/-- FLOW_SKEW takes the arrival of P minus that of W for one SQ, while both paths are OK (Table 7). -/
def Dev.skew (d : Dev) (f : Nat) (p : MergePath) (sq : Nat) : Dev :=
  if d.pathState f .pathW = 2 ∧ d.pathState f .pathP = 2 then
    match ((d.mf f).path (otherPath p)).arrived.find? (fun e => e.1 == sq) with
    | some (_, t) =>
      let v : Int := match p with | .pathP => (d.ticks : Int) - t | .pathW => (t : Int) - d.ticks
      d.putIntSat (Fld.MRG_FLOW_SKEW.TICKS f) v
    | none => d
  else d

/-- A copy is valid: it counts towards OK, and from a path in OK it is stored. -/
def Dev.copyValid (d : Dev) (f : Nat) (p : MergePath) (x : OduFrame) : Dev :=
  let st := d.pathState f p
  let m := d.mf f
  let run := (m.path p).run + 1
  let d := d.setMf f (m.setPath p { m.path p with run := run, failed := none })
  if st = 2 then (if d.relay f then d else d.storeCopy f p x)
  else if st = 1 ∧ 32 ≤ run then ((d.put (fldState f p) 2).mergeEvt f (2 + pathNum p))
  else d

/-- A copy is invalid (R240). -/
def Dev.copyInvalid (d : Dev) (f : Nat) (p : MergePath) (cause : Nat) : Dev :=
  let m := d.mf f
  (d.setMf f (m.setPath p { m.path p with run := 0, failed := some cause })).incSat (fldInv f p)

/-- A frame of a protected flow is received on a path (R239, R247). In RELAY every frame is forwarded (R251). -/
def Dev.mergeCopy (f : Fin 1280) (p : MergePath) (x : OduFrame) (uncorrected : Bool) (d : Dev) : Dev :=
  match d.protectedFlow f with
  | none => d
  | some w =>
    if !d.hasJoin f p || !d.regionRuns 3 then d else
      let d := d.ageHeld w
      let fails := d.copyFails w f p x uncorrected
      let m := d.mf f
      let v := m.path p
      let recent := v.arrived.filter (fun e => decide (d.ticks ≤ e.2 + 11200000))
      let d := d.setMf f (m.setPath p { v with prev := some (oduSq x), arrived := recent ++ [(oduSq x, d.ticks)] })
      let d := if d.relay f then d.setMf f { d.mf f with sel := some (.frame x) } else d
      let d := match fails with
        | none => d.copyValid f p x
        | some c => d.copyInvalid f p c
      d.skew f p (oduSq x)

/-- A slot without a copy sends ODU-AIS (R247). -/
def Dev.slotMiss (d : Dev) (f : Nat) : Dev :=
  (((d.setMf f { d.mf f with sel := some .ais }).incSat (Fld.MRG_FLOW_MISS_CNT.SLOTS f)).mergeEvt f 4).raise 226

/-- An output slot of flow f (R247): before the anchor ODU-AIS; then the held copy, or ODU-AIS where none is held or RMS is in
reset (R323). -/
def Dev.mergeSlot (f : Nat) (d : Dev) : Dev :=
  match d.protectedFlow f with
  | none => d
  | some w =>
  if d.relay f || !d.regionRuns 3 then d
  else if !d.anchored f then d.setMf f { d.mf f with sel := some .ais }
  else
    let n := d.nOut f
    let m := d.mf f
    let d := match m.held.find? (fun h => h.sq == n), d.inReset 9 with
      | some h, false =>
        let d := (d.setMf f { m with sel := some (.frame h.frame) }).put (Fld.MRG_FLOW_STATUS.SERVING f) h.path
        match d.mergeQueue f with
        | some q => d.moveHead q (min (d.qTail q) (d.qHead q + oduFrameGranules))
        | none => d
      | _, _ => d.slotMiss f
    let d := (d.setMf f { d.mf f with held := (d.mf f).held.filter (fun h => h.sq != n) }).nextSlot w
    d.setReg (Reg.MRG_FLOW_OUTSQ f) (BitVec.ofNat 32 ((n + 1) % 2 ^ 32))

/-! ### Boundary, commit and reset -/

/-- REALIGN drops and re-forms the anchor (R245). -/
def Dev.doRealign (d : Dev) (f : Nat) : Dev :=
  let d := (d.put (Fld.MRG_FLOW_CTL.REALIGN f) 0).dropAnchor f
  if d.someOk f then d.formAnchor f else d

/-- A write of REALIGN: it acts at the next frame boundary (R253); without PROTECT = 1 it has no effect. -/
def Dev.mergeRealign (f : Nat) (d : Dev) : Dev :=
  if (d.protectedFlow f).isNone then d else d.put (Fld.MRG_FLOW_CTL.REALIGN f) 1

/-- An ODUflex frame boundary of flow f: pending fields become active; REALIGN, FORCE_PATH, joins and DELAY_MAX follow. -/
def Dev.mrgBoundary (f : Nat) (d : Dev) : Dev :=
  let d := if d.held? 7 then d else
    d.copyShadow (fun a => a == Reg.MRG_FLOW_CTL f || a == Reg.MRG_FLOW_DELAY f || a == Reg.MRG_FLOW_QUEUE f || a == Reg.MRG_HB_CTL)
  let d := if d.isSet (Fld.MRG_FLOW_CTL.REALIGN f) then d.doRealign f else d
  ((d.pathJoin f .pathW).pathJoin f .pathP).mrgCheck

/-- Every protected flow begins anew: numbering from 0, paths by their joins, no anchor (R238, R246). once tells whether an
anchor counts as the first since the commit. -/
def Dev.mrgStart (d : Dev) (commit : Bool) : Dev :=
  let once := d.mrg.flows.filter (fun e => e.2.anchoredOnce && !commit)
  let d := { d with mrg := { d.mrg with flows := once.map (fun (e : Nat × MergeFlow) => (e.1, { anchoredOnce := true })) } }
  let d := (List.range 1280).foldl (fun d f =>
    (d.setReg (Reg.MRG_FLOW_TXSQ f) 0).setReg (Reg.MRG_FLOW_STATUS f) 0 |>.setReg (Reg.MRG_FLOW_OUTSQ f) 0) d
  (d.protectedFlows.foldl (fun d w => (((d.dropHeld w.flow).pathJoin w.flow .pathW).pathJoin w.flow .pathP)) d).mrgCheck

/-! ### Meanings -/

/-- An event of MRG, which may release pages of a merge-buffer queue. -/
def runMrg (f : Dev → Dev) : State → Host.Outcome State Fault Refusal := runBlockState 7 (State.onDev f)

/-- MERGE_DUP (R238). -/
def execMergeDup (f : Fin 1280) (frame : OduFrame) := runBlock 7 (Dev.mergeDup f frame)
/-- MERGE_COPY (R247). -/
def execMergeCopy (f : Fin 1280) (path : MergePath) (frame : OduFrame) (uncorrected : Bool) :=
  runMrg (Dev.mergeCopy f path frame uncorrected)
/-- MERGE_SLOT (R247). -/
def execMergeSlot (f : Fin 1280) := runMrg (Dev.mergeSlot f)
/-- PATH_TIMEOUT (R242). -/
def execPathTimeout (f : Fin 1280) (path : MergePath) := runMrg (Dev.pathTimeout f path)
/-- PATH_SIGNAL_FAIL (R243). -/
def execPathSignalFail (f : Fin 1280) (path : MergePath) := runMrg (Dev.pathSignalFail f path)
/-- PATH_SIGNAL_CLEAR (R242). -/
def execPathSignalClear (f : Fin 1280) (path : MergePath) := runMrg (Dev.pathSignalClear f path)
/-- ANCHOR (R245). -/
def execAnchor (f : Fin 1280) := runBlock 7 (Dev.anchorBoth f)
/-- ANCHOR_TIMEOUT (R245). -/
def execAnchorTimeout (f : Fin 1280) := runBlock 7 (Dev.anchorOne f)
/-- REALIGN (R245). -/
def execRealign (req : Requester) (f : Fin 1280) := runWrite req 7 (Dev.mergeRealign f)
/-- HEARTBEAT_LOSS (R249). -/
def execHeartbeatLoss (src : HbSource) := runBlock 7 (Dev.heartbeatLoss src)
/-- PATH_CLASS_TIMEOUT (R249). -/
def execPathClassTimeout (f : Fin 1280) (path : MergePath) := runBlock 7 (Dev.pathClass f path)

end Sys2Proof.Machine
end

