-- ==== Sys2Proof/Machine/Calliope.lean ====
section
/-! DEFINITION. Block CLP: Calliope codes, packets, sending, receiving and partners (13_calliope_channel.md). Port x is A (0) or
B (1). -/

namespace Sys2Proof.Machine

/-! ### Codes and packets (R395, R396, R400, R401) -/

/-- Bit i of the m-sequence u: a shift register of the last ten bits, oldest first (R396). -/
def mSeq : Nat → List Bool → List Bool
  | 0, _ => []
  | n + 1, h => (h.getD 0 false) :: mSeq n (h.drop 1 ++ [xor (h.getD 7 false) (h.getD 0 false)])

/-- The m-sequence u of length 1,023. -/
def seqU : List Bool := mSeq 1023 (true :: List.replicate 9 false)

/-- Chip bit i of code k (R396). -/
def goldBit (u : List Bool) (k i : Nat) : Bool :=
  let v (i : Nat) : Bool := u.getD (5 * i % 1023) false
  if k = 0 then u.getD i false
  else if k = 1 then v i
  else xor (u.getD i false) (v ((i + k - 2) % 1023))

/-- The value of chip i of a bit b under code k (R395). -/
def chipValue (u : List Bool) (k i : Nat) (b : Bool) : Int :=
  (if goldBit u k i then -1 else 1) * (if b then -1 else 1)

/-- One bit of CRC-16/CCITT (R401). -/
def crc16Bit (c : BitVec 16) : BitVec 16 := if c.getLsbD 15 then (c <<< 1) ^^^ 0x1021 else c <<< 1
/-- One byte of CRC-16/CCITT. -/
def crc16Byte (c : BitVec 16) (b : Byte) : BitVec 16 :=
  crc16Bit (crc16Bit (crc16Bit (crc16Bit (crc16Bit (crc16Bit (crc16Bit (crc16Bit (c ^^^ (b.setWidth 16 <<< 8)))))))))
/-- CRC-16/CCITT of a byte string (R401). -/
def crc16 (l : List Byte) : BitVec 16 := l.foldl crc16Byte 0xFFFF

/-- Header and payload of a packet. -/
def ClpPacket.body (p : ClpPacket) : List Byte := beBytes 2 (p.type % 16 * 4096 + p.payload.length % 128) ++ p.payload
/-- A packet from its header through its CRC. -/
def ClpPacket.bytes (p : ClpPacket) : List Byte := p.body ++ beBytes 2 (crc16 p.body).toNat
/-- The bits of a packet, preamble and sync word first, most significant bit first (R400). -/
def ClpPacket.bits (p : ClpPacket) : List Bool :=
  (beBytes 4 0xAAAAAAAA ++ beBytes 4 0x5E39B2C7 ++ p.bytes).flatMap
    (fun b => (List.range 8).map (fun i => b.getLsbD (7 - i)))

/-- n bit times in units of the time counter: 1,023 chips at 21.0 Mchip/s (R395). -/
def bitTimes (n : Nat) : Nat := n * 1023 * 1000000000 * 2 ^ 40 / 21000000

/-- The sync word of a packet (Table 1). -/
def clpSync : BitVec 32 := 0x5E39B2C7

/-- Bit positions in which two words differ. -/
def bitErrors (a b : BitVec 32) : Nat := ((List.range 32).filter (fun i => (a ^^^ b).getLsbD i)).length

/-- Whether the last 32 bit decisions match the sync word with at most 2 errors: as it is, or inverted (R411). -/
def syncMatch (w : BitVec 32) : Option Bool :=
  if bitErrors w clpSync ≤ 2 then some false else if bitErrors w (~~~clpSync) ≤ 2 then some true else none

/-- Whether the despread outputs of 8 successive bit periods declare a preamble: they alternate in sign and each exceeds 4 times the noise
(R409). -/
def preambleSeen (noise : Nat) (l : List Int) : Bool :=
  decide (l.length = 8) && l.all (fun v => decide (4 * noise < v.natAbs)) &&
    (List.range 7).all (fun i => decide (l.getD i 0 * l.getD (i + 1) 0 < 0))

/-- A chip transition: a raised cosine over one eighth of a chip (R398), u in 1/3600 of it. -/
def chipRamp (a b : Int) (u : Nat) : Rat := (a : Rat) + ((b - a : Int) : Rat) * (1 - Config.cosine u) / 2

/-- The equaliser's output: 8 FFE taps on received chips, newest first, main cursor at tap 2, and 4 DFE taps on reconstructed chips; taps in
1/4096 (R414). -/
def eqOutput (taps rx dfe : List Int) : Int :=
  (List.range 8).foldl (fun a i => a + taps.getD i 0 * rx.getD i 0) 0 - (List.range 4).foldl (fun a i => a + taps.getD (8 + i) 0 * dfe.getD i 0) 0

/-- One LMS step of a tap by an error and the tap's input, of size 2^-mu (R414). -/
def lmsStep (mu : Nat) (tap err inp : Rat) : Rat := tap + err * inp / (2 ^ mu : Nat)

/-- Ticks of n bit times: 1,023 chips at 21.0 Mchip/s are 54,560 ticks (R395). -/
def bitTicks (n : Nat) : Nat := 54560 * n

/-! ### State -/

/-- Port x beside its registers. -/
def Dev.cp (d : Dev) (x : Nat) : ClpPort := Sparse.get {} d.clp x
/-- Replace port x, with the FIFO levels its status shows. -/
def Dev.setCp (d : Dev) (x : Nat) (v : ClpPort) : Dev :=
  let d := { d with clp := Sparse.put {} d.clp x v }
  (d.put (Fld.CLP_x_STATUS.RX_FIFO x) v.rxFifo.length).put (Fld.CLP_x_STATUS.TX_FIFO x) v.txFifo.length

/-- Receive state of port x (Table 3). -/
def Dev.clpRxState (d : Dev) (x : Nat) : Nat := d.get (Fld.CLP_x_STATUS.RX_STATE x)
/-- Transmit state of port x: 0 OFF, 1 IDLE, 2 SENDING. -/
def Dev.clpTxState (d : Dev) (x : Nat) : Nat := d.get (Fld.CLP_x_STATUS.TX_STATE x)
/-- Whether port x may send (R399). -/
def Dev.clpMaySend (d : Dev) (x : Nat) : Bool :=
  d.txActive x && d.isSet (Fld.CLP_x_CTL.TX_EN x) && !d.restructuring (1 + x)
/-- Whether the receiver of port x may run (R408). -/
def Dev.clpMayRun (d : Dev) (x : Nat) : Bool :=
  d.isSet (Fld.CLP_x_CTL.RX_EN x) && decide (2 ≤ d.rxState x)

/-- The own DIGEST of port x. -/
def Dev.clpDigest (d : Dev) (x : Nat) : Nat := d.reg64 (Reg.CLP_x_ID_LO x)

/-! ### Sending (R405 to R407) -/

/-- OFF and IDLE follow the conditions of R399 between packets. -/
def Dev.clpTxCheck (d : Dev) (x : Nat) : Dev :=
  if d.clpTxState x = 2 then d else d.put (Fld.CLP_x_STATUS.TX_STATE x) (bit (d.clpMaySend x))

/-- PUSH queues the staged packet or is refused (R406). -/
def Dev.clpPush (x : Nat) (d : Dev) : Dev :=
  let type := d.get (Fld.CLP_x_TX_HDR.TYPE x)
  let len := d.get (Fld.CLP_x_TX_HDR.LEN x)
  let v := d.cp x
  if 8 ≤ v.txFifo.length ∨ 64 < len ∨ type = 0 then d.incSat (Fld.CLP_x_TX_CNT.REFUSED x)
  else
    let bytes := ((List.range 16).flatMap (fun w => beBytes 4 (d.reg (Reg.CLP_x_TX_DATA x w)).toNat)).take len
    d.setCp x { v with txFifo := v.txFifo ++ [{ type := type, payload := bytes }] }

/-- A HELLO falls due; it replaces one that still waits (R405). -/
def Dev.clpHelloTimer (x : Nat) (d : Dev) : Dev :=
  if d.isSet (Fld.CLP_x_CTL.HELLO_EN x) then d.setCp x { d.cp x with hello := true } else d

/-- The HELLO of port x (Table 2). -/
def Dev.clpHello (d : Dev) (x : Nat) : ClpPacket :=
  { type := 0, payload := beBytes 8 (d.clpDigest x) ++ beBytes 1 x ++ beBytes 4 (d.reg (Reg.CLP_x_CAPS x)).toNat ++
      beBytes 2 (d.get (Fld.CLP_x_HELLO_CTL.HELLO_INT x)) ++ [0] }

/-- The packet of highest priority and the port without it: ECHO reply, HELLO, FIFO (R405). -/
def Dev.clpNext (d : Dev) (x : Nat) : Option (ClpPacket × ClpPort) :=
  let v := d.cp x
  match v.echo, v.hello, v.txFifo with
  | some l, _, _ => some ({ type := 2, payload := l }, { v with echo := none })
  | none, true, _ => some (d.clpHello x, { v with hello := false })
  | none, false, p :: r => some (p, { v with txFifo := r })
  | none, false, [] => none

/-- Whether GAP bit times without dither have passed since the last packet (R405). -/
def Dev.clpGapOver (d : Dev) (x : Nat) : Bool :=
  match (d.cp x).quietSince with
  | some t => decide (t + bitTicks (d.get (Fld.CLP_x_CTL.GAP x)) ≤ d.ticks)
  | none => true

/-- The factor m of the dither: 10^(-DEPTH/40) while a packet is being sent, else 0 (R398). -/
def Dev.ditherDepth (d : Dev) (x : Nat) : Rat :=
  if d.clpTxState x = 2 then Config.dbFactor (-50 * (d.get (Fld.CLP_x_CTL.DEPTH x) : Int)) else 0

/-- Transmit stage 5: a sample with the dither of a chip value (R398). -/
def Dev.dithered (d : Dev) (x : Nat) (chip v : Rat) : Rat := (1 + d.ditherDepth x * chip) * v

/-- The chips of the packet that port x is sending, under TX_CODE (R395, R397). -/
def Dev.sentChips (d : Dev) (x : Nat) : List Int :=
  match (d.cp x).sending with
  | some (p, _) => p.bits.flatMap (fun b => (List.range 1023).map (fun i => chipValue seqU (d.get (Fld.CLP_x_CODE.TX_CODE x)) i b))
  | none => []

/-- The transmitter starts a packet at a code-period boundary, GAP bit times after the last one (R405). -/
def Dev.clpTxPacket (x : Nat) (d : Dev) : Dev :=
  let d := d.clpTxCheck x
  if d.clpTxState x ≠ 1 ∨ !d.clpMaySend x ∨ !d.clpGapOver x then d else
    match d.clpNext x with
    | none => d
    | some (p, v) =>
      let emptied := decide ((d.cp x).txFifo ≠ []) && v.txFifo.isEmpty
      let d := (d.setCp x { v with sending := some (p, d.tc) }).put (Fld.CLP_x_STATUS.TX_STATE x) 2
      if emptied then d.setInt (intCLP x) 4 else d

/-- A Calliope entry of a tap (R404). -/
def Dev.clpEntry (d : Dev) (x : Nat) (rx : Bool) (rssi : Int) (p : ClpPacket) (time : Nat) : Dev :=
  { d with clpLog := d.clpLog ++ [{ port := x, rx := rx, rssi := rssi, bytes := p.bytes, time := time }] }

/-- Active copies of the masked bits of a register take their pending values (R35, R421). -/
def Dev.copyMasked (d : Dev) (a : Nat) (mask : Word) : Dev :=
  let v := mergeShadow mask (d.reg a) (d.shadowReg a)
  let rest := d.shadowReg a
  let d := d.setReg a v
  if rest = v then { d with shadow := d.shadow.filter (fun e => e.1 != a) } else d

/-- The transmit fields of port x take effect: all of CTL but RX_EN, TX_CODE, HELLO_INT and CAPS. -/
def Dev.clpTxFields (d : Dev) (x : Nat) : Dev :=
  if d.held? 12 then d else
    ((((d.copyMasked (Reg.CLP_x_CTL x) 0xFFFFFFFD).copyMasked (Reg.CLP_x_CODE x) 0x0000FFFF).copyMasked
      (Reg.CLP_x_HELLO_CTL x) 0x0000FFFF).copyMasked (Reg.CLP_x_CAPS x) 0xFFFFFFFF).clpTxCheck x
/-- The receive fields of port x take effect: RX_EN, RX_CODE, HELLO_LOSS and RX_CTL. -/
def Dev.clpRxFields (d : Dev) (x : Nat) : Dev :=
  if d.held? 12 then d else
    (((d.copyMasked (Reg.CLP_x_CTL x) 0x00000002).copyMasked (Reg.CLP_x_CODE x) 0xFFFF0000).copyMasked
      (Reg.CLP_x_HELLO_CTL x) 0xFFFF0000).copyMasked (Reg.CLP_x_RX_CTL x) 0xFFFFFFFF
/-- Pending fields take effect at once between packets (R421). -/
def Dev.clpFields (d : Dev) (x : Nat) : Dev :=
  let d := if d.clpTxState x = 2 then d else d.clpTxFields x
  if 2 ≤ d.clpRxState x then d else d.clpRxFields x

/-- A packet has been sent whole (R405); the fields of its direction take effect. -/
def Dev.clpTxDone (x : Nat) (d : Dev) : Dev :=
  match (d.cp x).sending with
  | none => d
  | some (p, t) =>
    let d := (d.setCp x { d.cp x with sending := none, quietSince := some d.ticks }).put (Fld.CLP_x_STATUS.TX_STATE x) 1
    let d := (d.incSat (Fld.CLP_x_TX_CNT.SENT x)).clpEntry x false 0 p (tcMax.min (t + bitTimes 32))
    d.clpTxFields x

/-- Sending conditions fail: the packet is cut (R407). -/
def Dev.clpTxAbort (x : Nat) (d : Dev) : Dev :=
  if d.clpMaySend x then d else
    match (d.cp x).sending with
    | none => d.clpTxCheck x
    | some _ =>
      let d := (d.setCp x { d.cp x with sending := none, quietSince := some d.ticks }).put (Fld.CLP_x_STATUS.TX_STATE x) 0
      ((d.incSat (Fld.CLP_x_TX_CNT.ABORTED x)).raise (fCLP x 4)).clpTxFields x

/-! ### Receiving (R408 to R416) -/

/-- The receiver leaves its packet: equaliser restored (R414), AGC released (R410), INV clear. -/
def Dev.clpAbandon (d : Dev) (x : Nat) : Dev :=
  let v := d.cp x
  let d := d.setCp x { v with taps := if v.saved.isEmpty then v.taps else v.saved, saved := [] }
  ((d.put (Fld.CLP_x_STATUS.AGC_FROZEN x) 0).put (Fld.CLP_x_STATUS.INV x) 0)

/-- The receiver's run conditions fail: OFF, any packet abandoned (R408). -/
def Dev.clpRxOff (x : Nat) (d : Dev) : Dev :=
  if d.clpMayRun x ∨ d.clpRxState x = 0 then d else
    let d := if 2 ≤ d.clpRxState x then (d.clpAbandon x).setInt (intCLP x) 2 else d
    (d.put (Fld.CLP_x_STATUS.RX_STATE x) 0).clpRxFields x

/-- The run conditions hold: SEARCH. -/
def Dev.clpRxOn (x : Nat) (d : Dev) : Dev :=
  if d.clpMayRun x ∧ d.clpRxState x = 0 then d.put (Fld.CLP_x_STATUS.RX_STATE x) 1 else d

/-- The AGC moves towards a gain (0.1 dB) by at most 1.5 dB within 0 to 60 dB, unless frozen (R410). -/
def Dev.agcUpdate (x : Nat) (wanted : Int) (d : Dev) : Dev :=
  if d.clpRxState x = 0 ∨ d.isSet (Fld.CLP_x_STATUS.AGC_FROZEN x) then d else
    let g : Int := d.get (Fld.CLP_x_RSSI.GAIN x)
    d.put (Fld.CLP_x_RSSI.GAIN x) (clampInt 0 600 (clampInt (g - 15) (g + 15) wanted)).toNat

/-- The receiver takes a preamble at a code phase: SYNC_WAIT, AGC frozen, equaliser saved. -/
def Dev.takePreamble (d : Dev) (x phase : Nat) : Dev :=
  let v := d.cp x
  let d := d.setCp x { v with phase := phase, saved := if v.saved.isEmpty then v.taps else v.saved }
  (((d.put (Fld.CLP_x_STATUS.AGC_FROZEN x) 1).put (Fld.CLP_x_STATUS.INV x) 0).put (Fld.CLP_x_STATUS.RX_STATE x) 2)

/-- Whether two code phases in half chips lie within ±2 chips of each other (R409). -/
def phaseNear (a b : Nat) : Bool := decide ((a + 2046 - b) % 2046 ≤ 4) || decide ((b + 2046 - a) % 2046 ≤ 4)

/-- A preamble is detected (R409, R415, R416): power in the units of RSSI, gain what the AGC takes from it on a capture. -/
def Dev.preamble (x phase : Nat) (power : Int) (gain : Nat) (d : Dev) : Dev :=
  match d.clpRxState x with
  | 1 => d.takePreamble x phase
  | 2 => if phaseNear phase (d.cp x).phase then d
    else (d.incSat (Fld.CLP_x_RX_CNT3.RESTART x)).takePreamble x phase
  | 3 => if phaseNear phase (d.cp x).phase then d
    else if d.getInt (Fld.CLP_x_RSSI.LAST x) + 2 * (d.get (Fld.CLP_x_RX_CTL.CAP_THR x) : Int) ≤ power then
      let d := (((d.incSat (Fld.CLP_x_RX_CNT2.CAPTURED x)).raise (fCLP x 1)).setInt (intCLP x) 2).clpAbandon x
      ((d.put (Fld.CLP_x_RSSI.GAIN x) (min gain 600)).clpRxFields x).takePreamble x phase
    else ((d.incSat (Fld.CLP_x_RX_CNT2.LOST x)).raise (fCLP x 1)).setInt (intCLP x) 2
  | _ => d

/-- The last 32 bit decisions match the sync word, inverted or not, with at most 2 bit errors (R411); RSSI is latched (R412) and the entry's
time is that of the sync word's first bit (R404). -/
def Dev.syncWord (x : Nat) (decided : BitVec 32) (rssi : Int) (d : Dev) : Dev :=
  if d.clpRxState x ≠ 2 then d else
    match syncMatch decided with
    | none => d
    | some inverted =>
    let d := d.putIntSat (Fld.CLP_x_RSSI.LAST x) (clampInt (-320) 0 rssi)
    let d := (d.put (Fld.CLP_x_STATUS.INV x) (bit inverted)).put (Fld.CLP_x_STATUS.RX_STATE x) 3
    d.setCp x { d.cp x with syncTime := d.tc - bitTimes 32 }

/-- The receiver returns to SEARCH; pending receive fields take effect. -/
def Dev.clpSearch (d : Dev) (x : Nat) : Dev := (d.put (Fld.CLP_x_STATUS.RX_STATE x) 1).clpRxFields x

/-- No sync word within 64 bits (R411). -/
def Dev.syncTmo (x : Nat) (d : Dev) : Dev :=
  if d.clpRxState x ≠ 2 then d else
    (((d.incSat (Fld.CLP_x_RX_CNT1.SYNC_TMO x)).setInt (intCLP x) 2).clpAbandon x).clpSearch x

/-! ### Partners (R417 to R419) -/

/-- Whether entry i of port x is valid. -/
def Dev.ptValid (d : Dev) (x i : Nat) : Bool := d.isSet (Fld.CLP_x_PT_STATUS.VALID x i)

/-- An accepted HELLO (R417). -/
def Dev.clpHelloRx (d : Dev) (x : Nat) (l : List Byte) : Dev :=
  let digest := beAt l 0 8
  let port := beAt l 8 1 % 2
  let fill (d : Dev) (i : Nat) : Dev :=
    ((d.setReg (Reg.CLP_x_PT_CAPS x i) (BitVec.ofNat 32 (beAt l 9 4))).put (Fld.CLP_x_PT_STATUS.INTERVAL x i) (beAt l 13 2))
  match (List.range 16).find? (fun i => d.ptValid x i && decide (d.reg64 (Reg.CLP_x_PT_DIGEST_LO x i) = digest) &&
      decide (d.get (Fld.CLP_x_PT_STATUS.PORT x i) = port)) with
  | some i => fill d i
  | none =>
    match (List.range 16).find? (fun i => !d.ptValid x i) with
    | some i =>
      let d := (d.setReg64 (Reg.CLP_x_PT_DIGEST_LO x i) digest).put (Fld.CLP_x_PT_STATUS.PORT x i) port
      let d := ((d.put (Fld.CLP_x_PT_STATUS.SELF x i) (bit (digest == d.clpDigest x))).setReg (Reg.CLP_x_PT_HB x i) 0)
      ((fill d i).put (Fld.CLP_x_PT_STATUS.VALID x i) 1).setInt (intCLP x) 3
    | none => d.raise (fCLP x 3)

/-- The valid entry of port x a HEARTBEAT's DIGEST names, the lowest-numbered one (DEDUCED, notes/assumptions/12.md: the payload
holds no PORT). -/
def Dev.hbEntry (d : Dev) (x : Nat) (l : List Byte) : Option Nat :=
  (List.range 16).find? (fun i => d.ptValid x i && decide (d.reg64 (Reg.CLP_x_PT_DIGEST_LO x i) = beAt l 0 8))

/-- The entry MRG_HB_CTL names for port x. -/
def Dev.hbPartner (d : Dev) (x : Nat) : Nat :=
  if x = 0 then d.get Fld.MRG_HB_CTL.PARTNER_A else d.get Fld.MRG_HB_CTL.PARTNER_B

/-- A matched HEARTBEAT (R418): counted, reported to MRG for the partner it names, and sent over Horug from HB_PORT (R466). -/
def Dev.clpHeartbeat (d : Dev) (x : Port) (i : Nat) (l : List Byte) : Dev :=
  let d := (d.incSat (Fld.CLP_x_PT_HB.BEATS x i)).setInt (intCLP x) 1
  if d.hbPartner x ≠ i then d else
    let d := if d.inReset 7 then d else d.setHb (.port x) true
    if d.get Fld.CHN_CTL.HB_PORT = x.val then
      { d with hbOut := d.hbOut ++ [(beAt l 0 8, d.get (Fld.CLP_x_PT_STATUS.PORT x i), beAt l 8 4)] }
    else d

/-- An accepted packet (R413, R405, R417, R418); its timestamp is the time at which the sync word crossed the reference plane (R404, R362). -/
def Dev.clpAccept (d : Dev) (x : Port) (p : ClpPacket) (inv : Bool) : Dev :=
  let rssi := d.getInt (Fld.CLP_x_RSSI.LAST x)
  let tapTime := (d.cp x).syncTime
  let time := (d.stamp (24 * x.val + 11) tapTime).1
  let d := (d.incSat (Fld.CLP_x_RX_CNT0.ACCEPTED x)).clpEntry x true rssi p tapTime
  let entry := if p.type = 1 ∧ p.payload.length = 12 then d.hbEntry x p.payload else none
  let d := if p.type = 0 ∧ p.payload.length = 16 then d.clpHelloRx x p.payload else d
  let d := match entry with
    | some i => d.clpHeartbeat x i p.payload
    | none => d
  let d := if p.type = 2 ∧ d.isSet (Fld.CLP_x_CTL.ECHO_EN x) ∧ p.payload.head? = some 0 ∧ (d.cp x).echo = none then
      d.setCp x { d.cp x with echo := some (1#8 :: p.payload.drop 1) } else d
  let v := d.cp x
  if 16 ≤ v.rxFifo.length then (d.incSat (Fld.CLP_x_RX_CNT3.FIFO_DROP x)).raise (fCLP x 5)
  else (d.setCp x { v with rxFifo := v.rxFifo ++ [{ packet := p, rssi := rssi, inv := inv, time := time, partner := entry }] }).setInt
    (intCLP x) 0

/-- A packet ends (R413): header, payload and CRC as decided, inverted where INV is set (R411); taps are the coefficients the
equaliser adapted to (R414). -/
def Dev.packet (x : Port) (header : BitVec 16) (payload : List Byte) (crc : BitVec 16) (taps : List Int) (d : Dev) : Dev :=
  if d.clpRxState x ≠ 3 then d else
    let inv := d.isSet (Fld.CLP_x_STATUS.INV x)
    let h := if inv then ~~~header else header
    let type := h.toNat / 4096
    let len := h.toNat % 128
    if 3 < type ∨ 64 < len then
      ((((d.incSat (Fld.CLP_x_RX_CNT1.HDR_ERR x)).raise (fCLP x 0)).setInt (intCLP x) 2).clpAbandon x).clpSearch x
    else
      let l := sliceBytes (if inv then payload.map (fun b => ~~~b) else payload) 0 len
      if crc16 (beBytes 2 h.toNat ++ l) ≠ (if inv then ~~~crc else crc) then
        ((((d.incSat (Fld.CLP_x_RX_CNT0.CRC_ERR x)).raise (fCLP x 0)).setInt (intCLP x) 2).clpAbandon x).clpSearch x
      else
        let d := d.clpAccept x { type := type, payload := l } inv
        let v := d.cp x
        let d := d.setCp x { v with
          taps := if d.isSet (Fld.CLP_x_RX_CTL.EQ_ADAPT x) then taps else v.taps, saved := [] }
        ((d.put (Fld.CLP_x_STATUS.AGC_FROZEN x) 0).put (Fld.CLP_x_STATUS.INV x) 0).clpSearch x

/-- A partner entry times out (R417). -/
def Dev.partnerExpiry (x i : Nat) (d : Dev) : Dev :=
  if d.ptValid x i then ((d.put (Fld.CLP_x_PT_STATUS.VALID x i) 0).raise (fCLP x 2)).setInt (intCLP x) 3 else d

/-- POP removes the head of the receive FIFO (Table 9). -/
def Dev.clpPop (x : Nat) (d : Dev) : Dev := d.setCp x { d.cp x with rxFifo := (d.cp x).rxFifo.drop 1 }

/-- EQ_RESET: the FFE main cursor becomes 1.0, every other tap 0 (R414). -/
def Dev.eqReset (x : Nat) (d : Dev) : Dev := d.setCp x { d.cp x with taps := ({} : ClpPort).taps, saved := [] }

/-- A block reset of LNx empties the transmit FIFO, resets the equaliser and invalidates every partner entry (R407, R414,
R417). -/
def Dev.clpLineReset (x : Nat) (d : Dev) : Dev :=
  let d := d.setCp x { d.cp x with txFifo := [], taps := ({} : ClpPort).taps, saved := [] }
  Dev.forUpTo 16 (fun d i => d.partnerExpiry x i) d

/-! ### Meanings -/

/-- CLP_PUSH (R406). -/
def execClpPush (req : Requester) (x : Port) := runWrite req 12 (Dev.clpPush x)
/-- CLP_HELLO_TIMER (R405). -/
def execClpHelloTimer (x : Port) := runBlock 12 (Dev.clpHelloTimer x)
/-- CLP_TX_PACKET (R405). -/
def execClpTxPacket (x : Port) := runBlock 12 (Dev.clpTxPacket x)
/-- CLP_TX_DONE (R405). -/
def execClpTxDone (x : Port) := runBlock 12 (Dev.clpTxDone x)
/-- CLP_TX_ABORT (R407). -/
def execClpTxAbort (x : Port) := runBlock 12 (Dev.clpTxAbort x)
/-- CLP_RX_OFF (R408). -/
def execClpRxOff (x : Port) := runBlock 12 (Dev.clpRxOff x)
/-- CLP_RX_ON (R408). -/
def execClpRxOn (x : Port) := runBlock 12 (Dev.clpRxOn x)
/-- AGC_UPDATE (R410). -/
def execAgcUpdate (x : Port) (wanted : Int) := runBlock 12 (Dev.agcUpdate x wanted)
/-- PREAMBLE_DETECT (R409). -/
def execPreambleDetect (x : Port) (phase : Fin 2046) (power : Int) (gain : Nat) :=
  runBlock 12 (Dev.preamble x phase power gain)
/-- SYNC_WORD_FOUND (R411). -/
def execSyncWordFound (x : Port) (decided : BitVec 32) (rssi : Int) := runBlock 12 (Dev.syncWord x decided rssi)
/-- SYNC_TMO (R411). -/
def execSyncTmo (x : Port) := runBlock 12 (Dev.syncTmo x)
/-- PACKET_RECEIVED (R413). -/
def execPacketReceived (x : Port) (header : BitVec 16) (payload : List Byte) (crc : BitVec 16) (taps : List Int) :=
  runBlock 12 (Dev.packet x header payload crc taps)
/-- PARTNER_EXPIRY (R417). -/
def execPartnerExpiry (x : Port) (i : Fin 16) := runBlock 12 (Dev.partnerExpiry x i)
/-- CLP_POP (R406). -/
def execClpPop (req : Requester) (x : Port) := runWrite req 12 (Dev.clpPop x)
/-- EQ_RESET (R414). -/
def execEqReset (req : Requester) (x : Port) := runWrite req 12 (Dev.eqReset x)

end Sys2Proof.Machine
end

