-- ==== Sys2Proof/Machine/CaptureRecords.lean ====
section
/-! DEFINITION. Block CAP: captures and their records (R366 to R379, R559, R560, 12_capture_and_pattern.md). -/

namespace Sys2Proof.Machine

/-! ### Record headers (R374, R375) -/

/-- FLAGS of a record. -/
def recordFlags (r : OpenRecord) (unsettled overrange truncated ring : Bool) : Nat :=
  bit unsettled + 2 * bit overrange + 4 * bit truncated + 16 * bit r.gap + 32 * bit r.aligned + 64 * bit ring + 128 * bit r.raw

/-- The 64-byte header of a record (Table 4). -/
def recordHeader (t : Nat) (r : OpenRecord) (flags time wrap trigPos : Nat) : List Byte :=
  leBytes 2 0x7E51 ++ leBytes 1 t ++ leBytes 1 r.fmt ++ leBytes 2 flags ++ leBytes 1 r.decim ++ leBytes 1 r.chain ++
  leBytes 8 r.seq ++ leBytes 4 (tNs time) ++ leBytes 6 (tSec time) ++ leBytes 2 r.unset ++ leBytes 4 r.len ++ leBytes 8 r.unit ++
  leBytes 4 r.uoff ++ leBytes 4 (r.mark.getD 0) ++ leBytes 4 (if r.marks = 0 then 0xFFFFFFFF else r.markPos) ++ leBytes 2 r.sel ++
  leBytes 2 r.marks ++ leBytes 4 wrap ++ leBytes 4 trigPos

/-- Whether an overrange mark of the port fell within a record (R375). -/
def Dev.recordOverrange (d : Dev) (t : Nat) (r : OpenRecord) : Bool :=
  decide (t < 48) && decide (t % 24 < 4) && decide (r.ovr < (d.ln (t / 24)).ovrMarks)

/-- Payload bytes a record may hold. -/
def Dev.recordLimit (d : Dev) (t : Nat) : Nat := 512 * max 1 (d.get (Fld.CAP_TAP_CTL.RECLEN t))

/-! ### Data at a tap -/

/-- A piece of data for a record: its bytes, unit, index in the unit, timestamp, RAWTIME, and how many unsettled outputs are
left at its start. -/
structure Piece where
  bytes : List Byte
  unit : Nat
  uoff : Nat
  arrived : Nat
  time : Nat
  raw : Bool
  unset : Nat := 0
  frame : Option (Bool × List Byte) := none
  deriving DecidableEq, Repr

/-- The 16 bytes of an event entry (R378). -/
def eventBytes (e : TapEvent) : List Byte :=
  leBytes 4 (tNs e.time) ++ leBytes 6 (tSec e.time) ++ leBytes 2 e.code ++ leBytes 4 e.data

/-- The 128 bytes of a Calliope entry (R378); the packet type is the first byte of its header. -/
def clpBytes (e : ClpEntry) : List Byte :=
  let code := 0x8000 + leAt e.bytes 0 1
  let data := if e.rx then ofSigned 16 e.rssi else 0
  sliceBytes (eventBytes { tap := 0, code := code, data := data, time := e.time } ++ e.bytes) 0 128

/-- The timestamp of an entry of tap t: the entries of a port's Calliope and timing taps hold the tap time, those of other event taps the time
at their land or block (R362, R378, R404). -/
def Dev.entryStamp (d : Dev) (t u : Nat) : Nat × Bool := if t < 48 then d.stamp t u else (u, false)

/-- The next entry of event tap t: its place in the log, its bytes and its tap time. -/
def Dev.nextEvent (d : Dev) (t : Nat) : Option (Nat × List Byte × Nat) :=
  let v := d.tap t
  if d.tapFmt t = 10 then
    ((d.clpLog.zipIdx.drop v.seen).find? (fun (e : ClpEntry × Nat) =>
      decide (e.1.port = t / 24) && e.1.rx == decide (t % 24 = 11) && decide (v.since ≤ e.1.time))).map
      (fun e => (e.2, clpBytes { e.1 with time := (d.entryStamp t e.1.time).1 }, e.1.time))
  else
    ((d.tapLog.zipIdx.drop v.seen).find? (fun (e : TapEvent × Nat) => decide (e.1.tap = t) && decide (v.since ≤ e.1.time))).map
      (fun e => (e.2, eventBytes { e.1 with time := (d.entryStamp t e.1.time).1 }, e.1.time))

/-- Entries of event tap t among the first n of its log. -/
def Dev.entriesBefore (d : Dev) (t n : Nat) : Nat :=
  if d.tapFmt t = 10 then
    ((d.clpLog.take n).filter (fun e => decide (e.port = t / 24) && e.rx == decide (t % 24 = 11))).length
  else ((d.tapLog.take n).filter (fun e => decide (e.tap = t))).length

/-- The bytes of a client frame entry (Table 6) of a frame, cut where it is longer than a record (R376). -/
def frameEntry (limit tso : Nat) (fcsErr : Bool) (f : List Byte) : List Byte :=
  let cut := decide (limit < 8 + (f.length + 7) / 8 * 8)
  let body := if cut then f.take (limit - 8) else f
  leBytes 2 f.length ++ leBytes 1 (bit fcsErr + 2 * bit (decide (f.length < 64)) + 4 * bit cut) ++ [0] ++ leBytes 4 tso ++
    sliceBytes body 0 ((body.length + 7) / 8 * 8)

/-- What reaches tap t as a piece of a record, and the device that has given it; none where the tap does not take it. Its tap time is a value
the device time counter has had (R22, R362): none later than the present one. -/
def Dev.piece (d : Dev) (t : Nat) (item : TapItem) : Option (Piece × Dev) :=
  match item with
  | .window unit uoff tapTime data =>
    if d.decimates t || !windowFits data (d.tapFmt t) || !d.inUnit t uoff then none else
      let time := min tapTime d.tc
      let (ts, raw) := d.stamp t time
      some ({ bytes := d.tapBytes t (windowBytes data), unit := unit, uoff := if tapUnits t then uoff else 0xFFFFFFFF, arrived := time,
              time := ts, raw := raw }, d)
  | .frame unit tapTime fcsErr bytes =>
    if d.tapFmt t ≠ 7 then none else
      let time := min tapTime d.tc
      let (ts, raw) := d.stamp t time
      some ({ bytes := frameEntry (d.recordLimit t) 0 fcsErr bytes, unit := unit, uoff := 0, arrived := time, time := ts,
              raw := raw, frame := some (fcsErr, bytes) }, d)
  | .outputs unit uoff first tapTime inputs =>
    if !d.decimates t then none else
      let time := min tapTime d.tc
      let c := d.get (Fld.CAP_TAP_CTL.DEC t)
      let (ts, raw) := d.stamp t time
      let d := if d.decSaturates c first (d.tapSamples t inputs) then d.decSat c else d
      some ({ bytes := (d.decimateFrom c first (d.tapSamples t inputs)).flatten, unit := unit, uoff := if tapUnits t then uoff else 0xFFFFFFFF,
              arrived := time, time := ts - d.chainDelay c t, raw := raw,
              unset := unsettledOutputs (d.chainK c) - first }, d)
  | .entry =>
    if !d.isEventTap t then none else
      (d.nextEvent t).map (fun e =>
        ({ bytes := e.2.1, unit := d.entriesBefore t (e.1 + 1) - (d.tap t).unitBase, uoff := 0, arrived := e.2.2, time := (d.entryStamp t e.2.2).1,
           raw := (d.entryStamp t e.2.2).2 },
         d.setTap t { d.tap t with seen := e.1 + 1 }))

/-! ### Beginning and ending records -/

/-- Pending fields of tap t take effect (R394), unless held. -/
def Dev.tapBoundary (d : Dev) (t : Nat) : Dev :=
  if d.held? 11 then d else d.copyShadow (fun a => a == Reg.CAP_TAP_CTL t || a == Reg.CAP_TAP_SEL t)

/-- The number a tap gives its next record (R377). -/
def Dev.takeSeq (d : Dev) (t : Nat) : Nat × Dev :=
  let n := d.reg64 (Reg.CAP_TAP_SEQ_LO t)
  (n, d.setReg64 (Reg.CAP_TAP_SEQ_LO t) ((n + 1) % 2 ^ 64))

/-- A record begins with a piece, its header at granule g of a queue (R369, R371, R374). -/
def Dev.openRecord (d : Dev) (t g : Nat) (p : Piece) : Dev :=
  let (seq, d) := d.takeSeq t
  let v := d.tap t
  let dec := d.decimates t
  let c := d.get (Fld.CAP_TAP_CTL.DEC t)
  let r : OpenRecord := {
    seq := seq, start := g, time := p.time, raw := p.raw, unit := p.unit, uoff := p.uoff,
    gap := d.isSet (Fld.CAP_TAP_STATUS.GAP_PEND t), aligned := decide (p.uoff = 0), unset := p.unset,
    mark := v.heldMark.map (·.1), marks := (v.heldMark.map (·.2)).getD 0, opened := d.ticks,
    ovr := if t < 48 then (d.ln (t / 24)).ovrMarks else 0, sel := (d.reg (Reg.CAP_TAP_SEL t)).toNat % 2 ^ 16,
    decim := if dec then d.chainK c else 0, chain := if dec then c else 0xFF, fmt := if dec then 9 else d.tapFmt t }
  (d.setTap t { v with record := some r, heldMark := none, refusing := false, toUnit := false }).put
    (Fld.CAP_TAP_STATUS.GAP_PEND t) 0

/-- A truncated record counts (R372). -/
def Dev.truncated (d : Dev) (t : Nat) : Dev :=
  let d := ((d.incSat (Fld.CAP_TAP_CNT.TRUNC t)).raise 352).setInt intCAP 1
  let d := d.put (Fld.CAP_TAP_STATUS.GAP_PEND t) 1
  d.setTap t { d.tap t with toUnit := d.isSet (Fld.CAP_TAP_CTL.ALIGN t) }

/-- The record boundary of tap t: pending fields and a new destination take effect. -/
def Dev.recordBoundary (d : Dev) (t : Nat) : Dev :=
  let v := d.tap t
  let d := match v.nextDest with
    | some q => (d.put (Fld.CAP_TAP_STATUS.DEST t) q).setTap t { v with nextDest := none }
    | none => d
  d.tapBoundary t

/-- Tap t is IDLE: its capture has ended. -/
def Dev.endCapture (d : Dev) (t : Nat) : Dev :=
  let d := (d.put (Fld.CAP_TAP_STATUS.STATE t) 0).put (Fld.CAP_TAP_STATUS.GAP_PEND t) 0
  let v := d.tap t
  (d.setTap t { v with record := none, nextDest := none, heldMark := none, refusing := false, toUnit := false,
                       toBuffer := false }).tapBoundary t

/-- The record in progress of a capture to a queue closes: its header is written, its payload padded with zeros to a whole granule
(R369, R372, R374). A spill queue takes the whole record (R310 case 3, R320). -/
def State.closeRecord (t : Nat) (truncated : Bool) (s : State) : State :=
  let d := s.dev
  match (d.tap t).record with
  | none => s
  | some r =>
    let q := d.tapDest t
    let head := recordHeader t r (recordFlags r (decide (r.unset ≠ 0)) (d.recordOverrange t r) truncated false) r.time 0 0xFFFFFFFF
    let pad := List.replicate ((r.len + 63) / 64 * 64 - r.len) 0
    let d := d.setTap t { d.tap t with record := none }
    let s : State :=
      if d.qType q = 5 then
        let (d, ok) := d.egressPut q (head ++ r.data ++ pad)
        { s with dev := if ok || truncated then d else d.truncated t }
      else
        let s : State := { s with dev := (d.setWb q ((d.q q).wb + pad.length)).fillHole q r.start }
        (s.qStore q (64 * r.start) head).qStore q (64 * r.start + 64 + r.len) pad
    { s with dev := (if truncated then s.dev.truncated t else s.dev).recordBoundary t }

/-- The capture of tap t ends with its record closed. -/
def State.endQueueCapture (t : Nat) (truncated : Bool) (s : State) : State :=
  let s := s.closeRecord t truncated
  { s with dev := s.dev.endCapture t }

/-! ### Captures to a queue (R369, R372, R373, R560) -/

/-- Payload bytes enter the record in progress. -/
def Dev.growRecord (d : Dev) (t n : Nat) (l : List Byte) : Dev :=
  let v := d.tap t
  match v.record with
  | some r => d.setTap t { v with record := some { r with len := r.len + n, data := r.data ++ l } }
  | none => d

/-- A piece with the time to its frame from the record's first, where it is a client frame (Table 6). -/
def Piece.timed (p : Piece) (limit base : Nat) : List Byte :=
  match p.frame with
  | some (e, f) => frameEntry limit ((p.time - base) / tcNs) e f
  | none => p.bytes

/-- A piece for the record in progress. -/
def State.continueRecord (t : Nat) (p : Piece) (full : Bool) (s : State) : State :=
  let d := s.dev
  let q := d.tapDest t
  let base := ((d.tap t).record.map (·.time)).getD 0
  let l := p.timed (d.recordLimit t) base
  if d.qType q = 5 then
    if d.qTakes q then { s with dev := d.growRecord t l.length l }
    else { s with dev := d.incSat (Fld.RMS_Q_CNT.DROP q) }.endQueueCapture t false
  else
    let o := d.offer q l.length false full
    let s := ({ s with dev := o.dev.growRecord t o.taken [] } : State).settle.qStore q o.pos (l.take o.taken)
    match o.res with
    | .taken => s
    | .truncated => s.closeRecord t true
    | .refused => s.endQueueCapture t false

/-- A piece that begins a record, where the capture begins one now (R368, R560). -/
def State.beginRecord (t : Nat) (p : Piece) (full : Bool) (s : State) : State :=
  let d := s.dev
  let v := d.tap t
  let q := d.tapDest t
  if (v.toUnit && tapUnits t && decide (p.uoff ≠ 0)) || (v.refusing && (full || !d.canStart q)) then s
  else if d.qType q = 5 then
    if d.qTakes q then { s with dev := (d.openRecord t 0 p).growRecord t p.bytes.length p.bytes }
    else { s with dev := (d.incSat (Fld.RMS_Q_CNT.DROP q)).endCapture t }
  else
    let o := d.offer q p.bytes.length true full
    match o.header with
    | some g =>
      let s := ({ s with dev := (o.dev.openRecord t g p).growRecord t o.taken [] } : State).settle.qStore q o.pos
        (p.bytes.take o.taken)
      (match o.res with
       | .taken => s
       | .truncated => s.closeRecord t true
       | .refused => s.endQueueCapture t false)
    | none =>
      let s := ({ s with dev := o.dev } : State).settle
      let d := s.dev
      (match o.res with
       | .refused => { s with dev := d.endCapture t }
       | _ =>
         let d := (d.takeSeq t).2.incSat (Fld.CAP_TAP_CNT.REFUSED t)
         let d := d.put (Fld.CAP_TAP_STATUS.GAP_PEND t) 1
         { s with dev := d.setTap t { d.tap t with refusing := true, toUnit := d.isSet (Fld.CAP_TAP_CTL.ALIGN t) } })

/-- A piece for a capture to a queue; one that does not fit the record in progress closes it first (R369, R376). -/
def State.pieceToQueue (t : Nat) (p : Piece) (full : Bool) (s : State) : State :=
  match (s.dev.tap t).record with
  | some r =>
    if s.dev.recordLimit t < r.len + p.bytes.length then (s.closeRecord t false).beginRecord t p full else s.continueRecord t p full
  | none => s.beginRecord t p full

/-! ### Captures to a buffer (R370) -/

/-- Post-trigger bytes of buffer b. -/
def Dev.bufPost (d : Dev) (b : Nat) : Nat := min (64 * d.get (Fld.CAP_SBUF_POST.POST b)) (d.bufCapacity b)

/-- Payload bytes the capture of tap t may still write to its buffer; none where it writes on without end. -/
def Dev.bufRoom (d : Dev) (t : Nat) (r : OpenRecord) : Option Nat :=
  let b := d.tapDest t % 16
  if d.isSet (Fld.CAP_SBUF_CTL.RING b) then r.stopAt.map (fun n => n + d.bufPost b - r.len)
  else some (d.bufCapacity b - r.len)

/-- A byte string into a buffer's payload space from stream offset n on; a ring wraps. -/
def State.ringWrite (b cap n : Nat) : List Byte → State → State
  | [], s => s
  | v :: l, s => State.ringWrite b cap (n + 1) l (s.bufWrite b (64 + n % max 1 cap) [v])

/-- The times of pieces that still have a retained byte. -/
def retainedTimes (oldest : Nat) : List (Nat × Nat × Bool) → List (Nat × Nat × Bool)
  | a :: b :: r => if b.1 ≤ oldest then retainedTimes oldest (b :: r) else a :: b :: r
  | l => l

/-- A piece for a capture to a buffer. -/
def State.pieceToBuffer (t : Nat) (p : Piece) (s : State) : State :=
  let d := s.dev
  let b := d.tapDest t % 16
  let v := d.tap t
  if v.record.isNone && v.toUnit && tapUnits t && decide (p.uoff ≠ 0) then s else
    let d := if v.record.isNone then d.openRecord t 0 p else d
    match (d.tap t).record with
    | none => s
    | some r =>
      let l := match d.bufRoom t r with | some n => (p.timed (d.bufCapacity b) r.time).take n | none => p.timed (d.bufCapacity b) r.time
      let cap := d.bufCapacity b
      let total := r.len + l.length
      let times := if d.isSet (Fld.CAP_SBUF_CTL.RING b) then retainedTimes (total - min total cap) (r.times ++ [(r.len, p.time, p.raw)])
        else []
      let d := d.setTap t { d.tap t with record := some { r with len := total, times := times } }
      let d := d.put (Fld.CAP_SBUF_FILL.BYTES b) (min total cap)
      State.ringWrite b cap r.len l { s with dev := d }

/-- Whether a capture to a buffer is complete: full in ONE_SHOT mode, or POST bytes written after STOP in RING mode. -/
def Dev.bufComplete (d : Dev) (t : Nat) : Bool :=
  match (d.tap t).record with
  | some r => d.bufRoom t r == some 0
  | none => false

/-- The record of a capture to a buffer: one that has received nothing has no time, a free value. -/
def Dev.bufRecord (d : Dev) (t : Nat) : OpenRecord × Dev :=
  match (d.tap t).record with
  | some r => (r, d)
  | none =>
    let (v, d) := d.draw tcMax
    let d := d.openRecord t 0 { bytes := [], unit := 0, uoff := 0xFFFFFFFF, arrived := 0, time := v, raw := true }
    (((d.tap t).record).getD { seq := 0 }, d)

/-- A capture to a buffer ends: the header is written, the buffer is DONE and free (R370). -/
def State.endBufferCapture (t : Nat) (truncated : Bool) (s : State) : State :=
  let b := s.dev.tapDest t % 16
  let (r, d) := s.dev.bufRecord t
  let cap := d.bufCapacity b
  let ring := d.isSet (Fld.CAP_SBUF_CTL.RING b)
  let oldest := r.len - min r.len cap
  let (time, raw) := match r.times with | e :: _ => (e.2.1, e.2.2) | [] => (r.time, r.raw)
  let pos := r.markPos % max 1 cap
  let r' : OpenRecord := { r with len := min r.len cap, raw := raw, markPos := pos, unset := r.unset - oldest / 8 }
  let head := recordHeader t r' (recordFlags r' (decide (r'.unset ≠ 0)) (d.recordOverrange t r) truncated ring)
    time (if ring then oldest % max 1 cap else 0) (match r.stopAt with | some n => n - oldest | none => 0xFFFFFFFF)
  let d := (d.put (Fld.CAP_SBUF_STATUS.STATE b) 3).setInt intCAP 0
  let s := State.bufWrite b 0 head { s with dev := d }
  let d := (s.dev.bufFree b).put (Fld.CAP_SBUF_FILL.BYTES b) r'.len
  { s with dev := (if truncated then d.truncated t else d).endCapture t }

/-- The capture of tap t ends. -/
def State.endAny (t : Nat) (truncated : Bool) (s : State) : State :=
  if s.dev.tapState t = 0 then s
  else if (s.dev.tap t).toBuffer then s.endBufferCapture t truncated
  else if truncated && (s.dev.tap t).record.isNone then { s with dev := s.dev.endCapture t }
  else s.endQueueCapture t truncated

/-- Every capture ends (R372): a CAPTURE restructure, or a block reset of CAP. -/
def State.endCaptures (s : State) : State := (List.range 96).foldl (fun s t => s.endAny t true) s

/-! ### Queues that stop or go (R373, R559) -/

/-- The taps that capture to queue q. -/
def Dev.tapsOf (d : Dev) (q : Nat) : List Nat :=
  (List.range 96).filter (fun t => decide (d.tapState t ≠ 0) && !(d.tap t).toBuffer && d.tapDest t == q)

/-- Queue q no longer accepts data because of its own state: captures to it end without truncation (R373). -/
def State.queueClosed (q : Nat) (s : State) : State :=
  if s.dev.qTakes q then s else (s.dev.tapsOf q).foldl (fun s t => s.endQueueCapture t false) s

/-- A commit deletes queue q: captures to it end and their records are lost (R559). -/
def Dev.queueLost (q : Nat) (d : Dev) : Dev :=
  (d.tapsOf q).foldl (fun d t => (if (d.tap t).record.isSome then d.truncated t else d).endCapture t) d

/-! ### The commands of the probe engines (R366 to R371) -/

/-- Whether tap t may capture to queue q. -/
def Dev.queueValid (d : Dev) (q : Nat) : Bool := d.qType q == 1 || d.qType q == 5

/-- The rate tap t writes, in bit/s (R367). -/
def Dev.tapWriteRate (d : Dev) (t : Nat) : Nat :=
  if d.decimates t then d.tapRate t * 64 / 2 ^ d.chainK (d.get (Fld.CAP_TAP_CTL.DEC t)) else tapPeak t * 10 ^ 7

/-- Whether tap t may capture to buffer b. -/
def Dev.bufValid (d : Dev) (t v : Nat) : Bool :=
  decide (v < 16) && d.bufUsable v && d.bufOwner v == 0xFF && decide (d.tapWriteRate t ≤ d.bufBanks v * 2 * 10 ^ 12)

/-- Whether a chain that tap t would take serves another capturing tap (R380). -/
def Dev.chainBusy (d : Dev) (t : Nat) : Bool :=
  d.decimates t && (List.range 48).any (fun u => decide (u ≠ t) && decide (d.tapState u ≠ 0) && d.decimates u &&
    d.get (Fld.CAP_TAP_CTL.DEC u) == d.get (Fld.CAP_TAP_CTL.DEC t))

/-- START reaches tap t. -/
def Dev.tapStart (t v : Nat) (d : Dev) : Dev :=
  let d := d.arrive (.capStart t v)
  let buf := d.isSet (Fld.CAP_TAP_CTL.DKIND t)
  if decide (d.tapState t ≠ 0) || !d.isSet (Fld.CAP_TAP_CTL.EN t) || d.chainBusy t ||
      !(if buf then d.bufValid t v else d.queueValid v) then d.cmdRefused
  else
    let old := d.tap t
    let since := d.tc - ticksTime (d.get (Fld.CAP_TAP_CTL.LOOKBACK t))
    let d := d.setTap t { seen := 0, unitBase := old.unitBase, lost := old.lost, toBuffer := buf, since := since,
                          toUnit := d.isSet (Fld.CAP_TAP_CTL.ALIGN t) }
    let d := (d.put (Fld.CAP_TAP_STATUS.STATE t) 1).put (Fld.CAP_TAP_STATUS.DEST t) v
    if buf then ((d.put (Fld.CAP_SBUF_STATUS.OWNER v) t).put (Fld.CAP_SBUF_STATUS.STATE v) 1).put (Fld.CAP_SBUF_FILL.BYTES v) 0
    else d

/-- STOP reaches tap t (R370). -/
def State.tapStop (t : Nat) (s : State) : State :=
  let s : State := { s with dev := s.dev.arrive (.capStop t) }
  let d := s.dev
  let v := d.tap t
  if d.tapState t = 0 ∨ d.tapState t = 3 then s
  else if !v.toBuffer then s.endQueueCapture t false
  else if !d.isSet (Fld.CAP_SBUF_CTL.RING (d.tapDest t % 16)) then s.endBufferCapture t false
  else
    let (r, d) := d.bufRecord t
    let d := d.setTap t { d.tap t with record := some { r with stopAt := some r.len } }
    { s with dev := (d.put (Fld.CAP_TAP_STATUS.STATE t) 3).put (Fld.CAP_SBUF_STATUS.STATE (d.tapDest t % 16)) 2 }

/-- MARK reaches tap t (R371). -/
def Dev.tapMark (t value : Nat) (d : Dev) : Dev :=
  let d := d.arrive (.capMark t value)
  if d.tapState t = 0 then d.cmdRefused else
    let v := d.tap t
    match v.record with
    | some r => d.setTap t { v with record := some { r with mark := some value, markPos := r.len, marks := min 0xFFFF (r.marks + 1) } }
    | none => d.setTap t { v with heldMark := some (value, min 0xFFFF ((v.heldMark.map (·.2)).getD 0 + 1)) }

/-- DEST reaches tap t (R366, R367). -/
def Dev.tapDestCmd (t q : Nat) (d : Dev) : Dev :=
  let d := d.arrive (.capDest t q)
  let v := d.tap t
  if decide (d.tapState t = 0) || v.toBuffer || !d.queueValid q then d.cmdRefused
  else if v.record.isSome then d.setTap t { v with nextDest := some q }
  else d.put (Fld.CAP_TAP_STATUS.DEST t) q

/-! ### What arrives and what happens at a tap -/

/-- Data reaches tap t and its capture takes it. Data before the capture's span, of a source that does not run, or of a tap that
waits is not recorded (R360, R368, R372). -/
def State.tapData (t : Nat) (item : TapItem) (full : Bool) (s : State) : State :=
  let d := s.dev
  if decide (d.tapState t ≠ 1 ∧ d.tapState t ≠ 3) || !d.regionRuns 6 || !d.tapSourceOk t then s else
    match d.piece t item with
    | none => s
    | some (p, d) =>
      let s : State := { s with dev := d }
      if p.arrived < (d.tap t).since then s
      else if (d.tap t).toBuffer then (if d.bufComplete t then s.endBufferCapture t false else s.pieceToBuffer t p)
      else s.pieceToQueue t p full

/-- The least payload a piece adds to a record of tap t. -/
def Dev.leastPiece (d : Dev) (t : Nat) : Nat :=
  if d.decimates t then 8 else match d.tapFmt t with | 7 => 8 | 8 => 16 | 10 => 128 | _ => 64

/-- A record with no room for another piece closes (R369). -/
def State.recordFull (t : Nat) (s : State) : State :=
  match (s.dev.tap t).record with
  | some r => if !(s.dev.tap t).toBuffer && decide (s.dev.recordLimit t < r.len + s.dev.leastPiece t) then s.closeRecord t false else s
  | none => s

/-- Whether the record in progress of event tap t has held its first entry for 2^FLUSH µs, of 1,120 ticks each. -/
def Dev.flushDue (d : Dev) (t : Nat) : Bool :=
  match (d.tap t).record with
  | some r => decide (r.opened + 1120 * 2 ^ d.get (Fld.CAP_TAP_CTL.FLUSH t) ≤ d.ticks)
  | none => false

/-- A record of an event tap that has held its first entry for 2^FLUSH µs closes (R369). -/
def State.recordFlush (t : Nat) (s : State) : State :=
  if s.dev.isEventTap t && !(s.dev.tap t).toBuffer && s.dev.flushDue t then s.closeRecord t false else s

/-- Data at a tap whose last attempt was refused (R560). -/
def State.tapRetry (t : Nat) (item : TapItem) (s : State) : State := if (s.dev.tap t).refusing then s.tapData t item false else s

/-- The source of tap t stops (R372). -/
def State.sourceLoss (t : Nat) (s : State) : State :=
  let s : State := { s with dev := s.dev.setTap t { s.dev.tap t with lost := true } }
  if s.dev.tapState t = 0 then s
  else if (s.dev.tap t).toBuffer then s.endBufferCapture t true
  else
    let s := s.closeRecord t true
    let d := s.dev.setTap t { s.dev.tap t with toUnit := s.dev.isSet (Fld.CAP_TAP_CTL.ALIGN t) }
    { s with dev := d.put (Fld.CAP_TAP_STATUS.STATE t) 2 }

/-- The source of tap t returns. -/
def Dev.sourceReturn (t : Nat) (d : Dev) : Dev :=
  let d := d.setTap t { d.tap t with lost := false }
  if d.tapState t = 2 ∧ d.tapSourceOk t then d.put (Fld.CAP_TAP_STATUS.STATE t) 1 else d

/-- A buffer capture is complete. -/
def State.bufferEnd (t : Nat) (s : State) : State :=
  if (s.dev.tap t).toBuffer && s.dev.bufComplete t then s.endBufferCapture t false else s

/-- The stream of tap t exceeds its buffer's write rate. -/
def State.sramOvf (t : Nat) (s : State) : State :=
  if (s.dev.tap t).toBuffer then ({ s with dev := s.dev.raise 353 } : State).endBufferCapture t true else s

/-! ### Chains (R382, R385) -/

/-- Chain c resets: pending values take effect, its history is lost, and a decimated record in progress closes; with it
ends a capture to a buffer, which is one record. -/
def State.chainReset (c : Nat) (s : State) : State :=
  let s := match s.dev.chainTap c with
    | some t => if (s.dev.tap t).toBuffer then s.endBufferCapture t false else s.closeRecord t false
    | none => s
  let d := s.dev.chainBoundary c
  { s with dev := { d with cap := { d.cap with resetAt := Sparse.put 0 d.cap.resetAt c d.ticks } } }

/-- Chains reset by a mask. -/
def State.chainsReset (mask : Nat) (s : State) : State :=
  (List.range 8).foldl (fun s c => if mask.testBit c then s.chainReset c else s) s

/-! ### Carousel commands and EN of a queue, with the captures they end (R312, R313, R373) -/

/-- A command reaches a queue: from software through the queue window, from a probe engine as QCMD, which is refused for a queue
that is absent or no Carousel (R340). -/
def State.queueCommand (src : CmdSource) (q : Nat) (c : ProbeCmd) (f : Dev → Dev) (s : State) : State :=
  match src with
  | .sw req => if s.dev.mayWrite req 9 then (s.onDev f).queueClosed q else s
  | .probe =>
    let d := s.dev.arrive c
    if d.inReset 9 then { s with dev := d }
    else if d.isCarousel q then (({ s with dev := d } : State).onDev f).queueClosed q
    else { s with dev := d.cmdRefused }

/-- EN of queue q is written (R312). -/
def State.queueEnable (req : Requester) (q : Nat) (en : Bool) (s : State) : State :=
  if !s.dev.mayWrite req 9 || s.dev.qType q == 0 then s
  else (s.onDev (fun d => (d.setShadow (Reg.RMS_Q_DESC0 q) (setBits (d.shadowReg (Reg.RMS_Q_DESC0 q)) 24 24 (bit en))).rmsWritten
    q)).queueClosed q

/-! ### Meanings -/

/-- QUEUE_CAPTURE_WRITE (R310). -/
def execQueueCaptureWrite (t : Fin 96) (item : TapItem) (bufferFull : Bool) := runBlockState 11 (State.tapData t.val item bufferFull)
/-- CAROUSEL_ARM (R312). -/
def execCarouselArm (src : CmdSource) (q : Fin 65536) := runState (State.queueCommand src q.val (.qArm q.val) (Dev.qArm q.val))
/-- CAROUSEL_TRIGGER (R313). -/
def execCarouselTrigger (src : CmdSource) (q : Fin 65536) :=
  runState (State.queueCommand src q.val (.qTrigger q.val) (Dev.qTrigger q.val))
/-- CAROUSEL_STOP (R312). -/
def execCarouselStop (src : CmdSource) (q : Fin 65536) := runState (State.queueCommand src q.val (.qStop q.val) (Dev.qStop q.val))
/-- Q_EN_WRITE (R312). -/
def execQEnWrite (req : Requester) (q : Fin 65536) (en : Bool) := runState (State.queueEnable req q.val en)
/-- TAP_START (R366). -/
def execTapStart (t : Fin 96) (dest : BitVec 16) := runBlock 11 (Dev.tapStart t.val dest.toNat)
/-- TAP_STOP (R370). -/
def execTapStop (t : Fin 96) := runBlockState 11 (State.tapStop t.val)
/-- TAP_MARK (R371). -/
def execTapMark (t : Fin 96) (value : BitVec 32) := runBlock 11 (Dev.tapMark t.val value.toNat)
/-- TAP_DEST (R366). -/
def execTapDest (t : Fin 96) (dest : BitVec 16) := runBlock 11 (Dev.tapDestCmd t.val dest.toNat)
/-- RECORD_CLOSE (R369). -/
def execRecordClose (t : Fin 96) := runBlockState 11 (State.recordFull t.val)
/-- RECORD_FLUSH (R369). -/
def execRecordFlush (t : Fin 96) := runBlockState 11 (State.recordFlush t.val)
/-- TAP_RETRY (R560). -/
def execTapRetry (t : Fin 96) (item : TapItem) := runBlockState 11 (State.tapRetry t.val item)
/-- TAP_SOURCE_LOSS (R372). -/
def execTapSourceLoss (t : Fin 96) := runBlockState 11 (State.sourceLoss t.val)
/-- TAP_SOURCE_RETURN (R372). -/
def execTapSourceReturn (t : Fin 96) := runBlock 11 (Dev.sourceReturn t.val)
/-- BUFFER_CAPTURE_END (R370). -/
def execBufferCaptureEnd (t : Fin 96) := runBlockState 11 (State.bufferEnd t.val)
/-- SRAM_OVF (R372). -/
def execSramOvf (t : Fin 96) := runBlockState 11 (State.sramOvf t.val)
/-- DEC_RESET (R382). -/
def execDecReset (c : Fin 8) := runBlockState 11 (State.chainReset c.val)
/-- CAP_SYNC_RESET (R382). -/
def execCapSyncReset (req : Requester) (mask : BitVec 8) :=
  runState (fun s => if s.dev.mayWrite req 11 then s.chainsReset mask.toNat else s)
/-- DEC_SATURATION (R381). -/
def execDecSaturation (c : Fin 8) := runBlock 11 (fun d => d.decSat c.val)

end Sys2Proof.Machine
end

