-- ==== Sys2Proof/Machine/Image.lean ====
section
/-! DEFINITION. Structure images: their layout, and the checks of a load up to BAD_SECTION, in the order of Table 10 of
02_structure_images.md. A failed check answers an error code and the offset of the offending item. -/

namespace Sys2Proof.Machine

/-- STR_ERR_DETAIL where no single item is at fault (R71). -/
def noItem : Nat := 0xFFFFFFFF

/-- A region body as an image holds it: every record with its image offset. A flow stands with its FLAGS byte. oversize is the offset
of a PRESET section over 512 KiB (R64). -/
structure Parsed where
  connects : List (Nat × Connect) := []
  presets : List (Nat × Preset) := []
  flows : List (Nat × (FlowDecl × Nat)) := []
  programs : List (Nat × (Nat × List Word)) := []
  queues : List (Nat × QueueDecl) := []
  oversize : Option Nat := none

/-- The body of an active region, whose records have no place in a staged image. -/
def RegionBody.parsed (b : RegionBody) : Parsed :=
  { connects := b.connects.map (fun x => (noItem, x)), presets := b.presets.map (fun x => (noItem, x)),
    flows := b.flows.map (fun x => (noItem, (x, 0))), programs := b.programs.map (fun x => (noItem, x)),
    queues := b.queues.map (fun x => (noItem, x)) }

/-- The structure a commit installs. -/
def Parsed.body (p : Parsed) (img : Word) : RegionBody :=
  { imgId := img, connects := p.connects.map (·.2), presets := p.presets.map (·.2), flows := p.flows.map (·.2.1),
    programs := p.programs.map (·.2), queues := p.queues.map (·.2) }

/-! ### Header and region table (Tables 2 to 4) -/

/-- IMG_ID. -/
def imgId (x : List Byte) : Nat := leAt x 0x10 4
/-- SIGNER. -/
def imgSigner (x : List Byte) : Nat := leAt x 0x0D 1
/-- SECVER. -/
def imgSecver (x : List Byte) : Nat := leAt x 0x0E 2
/-- REGIONS. -/
def imgRegions (x : List Byte) : Nat := leAt x 0x0C 1
/-- OFFSET of region r. -/
def imgOffset (x : List Byte) (r : Nat) : Nat := leAt x (0x44 + 16 * r) 4
/-- LENGTH of region r. -/
def imgLength (x : List Byte) (r : Nat) : Nat := leAt x (0x48 + 16 * r) 4
/-- The regions an image holds. -/
def imgPresent (x : List Byte) : List Nat := (List.range 8).filter (fun r => (imgRegions x).testBit r)

/-- Whether n bytes from an offset are all 0. -/
def zeros (x : List Byte) (off n : Nat) : Bool := (sliceBytes x off n).all (· == 0)

/-- Whether the region table entry of region r breaks R57 or Table 4; len is L. -/
def entryBad (x : List Byte) (len r : Nat) : Bool :=
  let e := 0x40 + 16 * r
  let off := imgOffset x r
  let n := imgLength x r
  leAt x e 1 != r || !zeros x (e + 1) 3 || !zeros x (e + 12) 4 || ((imgRegions x).testBit r != (n != 0)) ||
  (n == 0 && off != 0) ||
  (n != 0 && (off % 8 != 0 || n % 8 != 0 || decide (off < 0xC0) || decide (len < off + n + 144) ||
    (List.range r).any (fun q => imgLength x q != 0 && decide (off < imgOffset x q + imgLength x q) && decide (imgOffset x q < off + n))))

/-- The offset at which the header or the region table breaks a rule of BAD_TABLE. -/
def tableBad (x : List Byte) (len : Nat) : Option Nat :=
  if !zeros x 7 1 then some 7
  else if imgRegions x = 0 then some 0x0C
  else if imgId x = 0 then some 0x10
  else if !zeros x 0x20 32 then some 0x20
  else ((List.range 8).find? (entryBad x len)).map (fun r => 0x40 + 16 * r)

/-! ### Sections (R58, Table 5) -/

/-- A section: TYPE, its two reserved bytes, the offset of its header, PLEN. -/
structure Sect where
  type : Nat
  rsv : Nat
  pos : Nat
  plen : Nat

/-- A length padded to a multiple of 8. -/
def pad8 (n : Nat) : Nat := (n + 7) / 8 * 8

/-- The first n sections from an offset that begin below stop. -/
def sectionsAt (x : List Byte) (stop : Nat) : Nat → Nat → List Sect
  | 0, _ => []
  | n + 1, pos =>
    if stop < pos + 8 then [] else
      let s : Sect := { type := leAt x pos 2, rsv := leAt x (pos + 2) 2, pos := pos, plen := leAt x (pos + 4) 4 }
      s :: sectionsAt x stop n (pos + 8 + pad8 s.plen)

/-- The sections of a body at an offset. -/
def sectionsOf (x : List Byte) (off len : Nat) : List Sect := sectionsAt x (off + len) (leAt x (off + 1) 1) (off + 8)

/-- The section types each region allows (Table 1). -/
def sectionAllowed (r type : Nat) : Bool :=
  match type with
  | 1 => r == 1 || r == 2 || r == 3 || r == 4 || r == 7
  | 2 => true
  | 3 => r == 3
  | 4 => r == 5
  | 5 => r != 0 && r != 5
  | _ => false

/-- Record size of a section type, 0 for PROGRAM (Table 5). -/
def recordSize (type : Nat) : Nat :=
  match type with
  | 3 => 8
  | 4 => 0
  | 5 => 36
  | _ => 12

/-- The offsets of a section's records. -/
def Sect.records (s : Sect) : List Nat := (List.range (s.plen / recordSize s.type)).map (fun i => s.pos + 8 + recordSize s.type * i)

/-- The engine blocks of a PROGRAM payload, by offset; a block may run beyond the payload. -/
def engineBlocks (x : List Byte) (stop : Nat) : Nat → Nat → List Nat
  | 0, _ => []
  | n + 1, pos => if stop ≤ pos then [] else pos :: engineBlocks x stop n (pos + 4 + 4 * leAt x (pos + 2) 2)

/-- The engine blocks of a section. -/
def Sect.blocks (s : Sect) (x : List Byte) : List Nat := engineBlocks x (s.pos + 8 + s.plen) (s.plen / 4 + 1) (s.pos + 8)

/-- Whether the payload is a whole number of records or engine blocks. -/
def Sect.whole (s : Sect) (x : List Byte) : Bool :=
  if s.type = 4 then (s.blocks x).all (fun b => decide (b + 4 + 4 * leAt x (b + 2) 2 ≤ s.pos + 8 + s.plen))
  else s.plen % recordSize s.type == 0

/-- The offset at which a section breaks R58; seen are the types of the sections before it. -/
def Sect.bad (s : Sect) (x : List Byte) (r stop : Nat) (seen : List Nat) : Option Nat :=
  let last := s.pos + 8 + s.plen
  if !sectionAllowed r s.type || seen.contains s.type || s.rsv != 0 || decide (stop < s.pos + 8 + pad8 s.plen) ||
      !zeros x last (pad8 s.plen - s.plen) || !s.whole x then some s.pos
  else match s.type with
    | 1 => s.records.find? (fun o => !zeros x (o + 1) 3)
    | 4 => (s.blocks x).find? (fun o => !zeros x (o + 1) 1)
    | 5 => s.records.find? (fun o => !zeros x (o + 2) 2)
    | _ => none

/-- The first section of a list that breaks R58. -/
def sectionsBad (x : List Byte) (r stop : Nat) : List Nat → List Sect → Option Nat
  | _, [] => none
  | seen, s :: l => match s.bad x r stop seen with
    | some o => some o
    | none => sectionsBad x r stop (s.type :: seen) l

/-- Where a body ends by its sections. -/
def sectionsEnd (off : Nat) (l : List Sect) : Nat := l.foldl (fun _ s => s.pos + 8 + pad8 s.plen) (off + 8)

/-- The offset at which the body of region r breaks R58. -/
def bodyBad (x : List Byte) (r : Nat) : Option Nat :=
  let off := imgOffset x r
  let len := imgLength x r
  let l := sectionsOf x off len
  if leAt x off 1 ≠ r ∨ leAt x (off + 2) 2 ≠ 0 ∨ leAt x (off + 4) 4 ≠ len then some off
  else match sectionsBad x r (off + len) [] l with
    | some o => some o
    | none =>
      if l.length ≠ leAt x (off + 1) 1 ∨ sectionsEnd off l ≠ off + len then some (min (off + len) (sectionsEnd off l)) else none

/-! ### Records (Tables 6, 8 and 9, R293) -/

/-- A CONNECT record. -/
def connectAt (x : List Byte) (o : Nat) : Connect :=
  { level := leAt x o 1, src := leAt x (o + 4) 2, srcInst := leAt x (o + 6) 2, sink := leAt x (o + 8) 2, sinkInst := leAt x (o + 10) 2 }

/-- A PRESET record. -/
def presetAt (x : List Byte) (o : Nat) : Preset :=
  { addr := leAt x o 4, mask := BitVec.ofNat 32 (leAt x (o + 4) 4), value := BitVec.ofNat 32 (leAt x (o + 8) 4) }

/-- A FLOWS record with its FLAGS. -/
def flowAt (x : List Byte) (o : Nat) : FlowDecl × Nat :=
  let f := leAt x (o + 3) 1
  ({ flow := leAt x o 2, home := leAt x (o + 2) 1, encrypt := f.testBit 0, isProtected := f.testBit 1, slots := leAt x (o + 4) 2,
     ctype := leAt x (o + 6) 2 }, f)

/-- n little-endian words from an offset. -/
def wordsAt (x : List Byte) (o n : Nat) : List Word := (List.range n).map (fun i => BitVec.ofNat 32 (leAt x (o + 4 * i) 4))

/-- The body of region r. -/
def parseBody (x : List Byte) (r : Nat) : Parsed :=
  let l := sectionsOf x (imgOffset x r) (imgLength x r)
  let recs (t : Nat) : List Nat := (l.filter (fun s => s.type == t)).flatMap Sect.records
  { connects := (recs 1).map (fun o => (o, connectAt x o)),
    presets := (recs 2).map (fun o => (o, presetAt x o)),
    flows := (recs 3).map (fun o => (o, flowAt x o)),
    programs := ((l.filter (fun s => s.type == 4)).flatMap (fun s => s.blocks x)).map
      (fun o => (o, (leAt x o 1, wordsAt x (o + 4) (leAt x (o + 2) 2)))),
    queues := (recs 5).map (fun o => (o, { queue := leAt x o 2, desc := wordsAt x (o + 4) 8 })),
    oversize := (l.find? (fun s => s.type == 2 && decide (0x80000 < s.plen))).map (·.pos) }

/-- The bodies of an image, by region. -/
def imageBodies (x : List Byte) : List (Nat × Parsed) := (imgPresent x).map (fun r => (r, parseBody x r))

/-! ### Checks 0x02 to 0x0C (Table 10) -/

/-- The first of the checks of format, signature and sections that an image fails; len is STR_LOAD_LEN. Which item a failure of the
header or of the signature names is DEDUCED (notes/assumptions/31.md). -/
def formatCheck (f : Fuses) (len : Nat) (x : List Byte) : Option (Nat × Nat) :=
  let signer := imgSigner x
  if leAt x 0 4 ≠ 0x49534250 then some (0x02, 0)
  else if leAt x 4 2 ≠ 0x0100 then some (0x03, 4)
  else if leAt x 6 1 ≠ 0xB0 then some (0x04, 6)
  else if leAt x 8 4 ≠ len ∨ len % 8 ≠ 0 ∨ len < 336 ∨ 16777216 < len then some (0x05, 8)
  else match tableBad x len with
  | some o => some (0x06, o)
  | none =>
  if !digestOk x then some (0x07, len - 144)
  else if signer ≠ 0 ∧ !f.accepts signer then some (0x08, 0x0D)
  else if !signatureOk (f.signerKey signer) x then some (0x09, len - 96)
  else if signer = 0 ∧ f.custOnly then some (0x0A, 0x0D)
  else if imgSecver x < f.secver then some (0x0B, 0x0E)
  else ((imgPresent x).findSome? (bodyBad x)).map (fun o => (0x0C, o))

end Sys2Proof.Machine
end

