-- ==== Sys2Proof/Machine/ImageChecks.lean ====
section
/-! DEFINITION. The checks of a structure: connections, presets, flows, programs, queue maps, resources, lanes (R28, R29, R58 to R65,
R256, R294, R307, R332, R452, R468; Table 10 of 02_structure_images.md, codes 0x0D to 0x16). A check answers the image offset of the
offending item. Regions whose bodies stand in the staged image are named; the bodies of others carry no offset. -/

namespace Sys2Proof.Machine

/-! ### Endpoints (R27, R59 to R61) -/

/-- Source endpoints of a level (Table 2 of 01_planes_and_datapath.md, Table 7). -/
def levelSources (level : Nat) : List Nat :=
  match level with
  | 0 => [0x200, 0x300, 0x202, 0x302, 0xB00, 0xB01]
  | 1 => [0x204, 0x304, 0x402, 0x403]
  | 2 => [0x400, 0x401, 0x502, 0x503]
  | 3 => [0x504, 0x506, 0x600, 0x601, 0x700, 0x704, 0x705, 0xE00, 0xB02]
  | 4 => [0x800, 0x507, 0xB03]
  | _ => []

/-- Sink endpoints of a level. -/
def levelSinks (level : Nat) : List Nat :=
  match level with
  | 0 => [0x201, 0x301, 0x203, 0x303]
  | 1 => [0x400, 0x401, 0x205, 0x305]
  | 2 => [0x500, 0x501, 0x402, 0x403]
  | 3 => [0x505, 0x507, 0x600, 0x601, 0x701, 0x702, 0x703, 0xE01]
  | 4 => [0x506, 0x801]
  | _ => []

/-- Whether an endpoint may carry an instance at a level (R60). -/
def instanceOk (level code inst : Nat) : Bool :=
  match level with
  | 3 => decide (inst < 1280)
  | 4 => decide (inst < if code = 0xB03 then 16 else 48)
  | _ => inst == noInst

/-- The flows of a structure. -/
def flowsOf (l : List (Nat × Parsed)) : List FlowDecl := l.flatMap (fun e => e.2.flows.map (·.2.1))

/-- Whether a record of region r is good: endpoints, instances, owner (R59 to R61), and no receive or transmit side of a protected flow
(R235). -/
def connectOk (flows : List FlowDecl) (r : Nat) (c : Connect) : Bool :=
  (levelSources c.level).contains c.src && (levelSinks c.level).contains c.sink && instanceOk c.level c.src c.srcInst &&
  instanceOk c.level c.sink c.sinkInst && sinkRegion c.sink == r &&
  !flows.any (fun w => w.isProtected && ((c.src == 0x504 && c.srcInst == w.flow) || (c.sink == 0x505 && c.sinkInst == w.flow)))

/-- BAD_ENDPOINT among the named regions. -/
def endpointBad (named l : List (Nat × Parsed)) : Option Nat :=
  named.findSome? (fun e => (e.2.connects.find? (fun c => !connectOk (flowsOf l) e.1 c.2)).map (·.1))

/-- All records of a structure, those of regions that are not named first. -/
def recordsOf {α : Type} (f : Parsed → List (Nat × α)) (l : List (Nat × Parsed)) : List (Nat × α) :=
  let all := l.flatMap (fun e => f e.2)
  all.filter (fun e => e.1 == noItem) ++ all.filter (fun e => e.1 != noItem)

/-- The joins of a protected flow that need no record (R235), less those that Horug replaces (R236); 0xFFFF and 0xFFFE stand for the
transmit sides of the ports. -/
def protectJoins (cs : List (Nat × Connect)) (w : FlowDecl) : List (Nat × Connect) :=
  let j (s k : Nat) : Nat × Connect := (noItem, { level := 3, src := s, srcInst := w.flow, sink := k, sinkInst := w.flow })
  let has (s k : Nat) : Bool := cs.any (fun c => c.2.src == s && c.2.sink == k &&
    (if s = 0x705 then c.2.srcInst == w.flow else c.2.sinkInst == w.flow))
  if !w.isProtected then [] else
    [j 0x504 0x701, j 0x704 0xFFFF] ++ (if has 0xE00 0x702 then [] else [j 0x504 0x702]) ++
      (if has 0x705 0xE01 then [] else [j 0x705 0xFFFE])

/-- The first record that gives a sink a second source or a source a third sink (R28); seen are the records before it. -/
def fanoutFrom (seen : List Connect) : List (Nat × Connect) → Option Nat
  | [] => none
  | (o, c) :: r =>
    if seen.any (fun a => a.level == c.level && a.sink == c.sink && a.sinkInst == c.sinkInst) ||
        decide (2 ≤ (seen.filter (fun a => a.level == c.level && a.src == c.src && a.srcInst == c.srcInst)).length) then some o
    else fanoutFrom (c :: seen) r

/-- FANOUT. -/
def fanoutBad (l : List (Nat × Parsed)) : Option Nat :=
  let cs := recordsOf Parsed.connects l
  fanoutFrom [] ((flowsOf l).flatMap (protectJoins cs) ++ cs)

/-! ### Presets (R62) -/

/-- The bits of RW fields of a register. -/
def RegDesc.rwMask (r : RegDesc) : Word :=
  r.fields.foldl (fun w f => if f.acc = .rw ∨ f.acc = .rws then w ||| maskBits f.hi f.lo else w) 0

/-- The RW bits of an address, none where nothing is allocated. -/
def rwMaskAt (a : Nat) : Word := match regAt a with | some r => r.rwMask | none => 0

/-- Whether a preset of region r obeys R62. -/
def presetOk (claimed : Nat → Bool) (r : Nat) (p : Preset) : Bool :=
  p.addr % 4 == 0 && addrRegion claimed p.addr == some r && p.mask &&& ~~~(rwMaskAt p.addr) == 0

/-- PRESET among the named regions; within a region the lower offset. -/
def presetBad (claimed : Nat → Bool) (named : List (Nat × Parsed)) : Option Nat :=
  named.findSome? (fun e => match e.2.oversize with
    | some o => some o
    | none => (e.2.presets.find? (fun p => !presetOk claimed e.1 p.2)).map (·.1))

/-! ### The structure that would result (R75) -/

/-- A preset value in its register, as a write stores it. -/
def Dev.presetPlain (d : Dev) (p : Preset) : Dev :=
  match regAt p.addr with
  | none => d
  | some r =>
    let old := d.reg p.addr
    let v := (old &&& ~~~p.mask) ||| (p.value &&& p.mask)
    d.setReg p.addr (r.storeInto .rws (r.storeInto .rw old v) v)

/-- The device with the structure and the presets of the named regions as the image gives them, and its other regions as they are;
alone removes the others. -/
def Dev.wouldBe (named : List (Nat × Parsed)) (alone : Bool) (d : Dev) : Dev :=
  let out (r : Nat) : Bool := named.any (fun e => e.1 == r) || alone
  let queues (r : Nat) : List QueueDecl := ((named.find? (fun e => e.1 == r)).map (fun e => e.2.queues.map (·.2))).getD []
  let d : Dev := { d with str := { d.str with
    active := d.str.active.filter (fun e => !out e.1) ++ named.map (fun e => (e.1, e.2.body 0)) } }
  let d := Dev.forUpTo 8 (fun d r => (d.setReg Reg.STR_ACTIVE (d.reg Reg.STR_ACTIVE &&& ~~~(if out r then placeBits r r 1 else 0)))) d
  let d := named.foldl (fun d e => d.setBit Reg.STR_ACTIVE e.1) d
  let d := d.installQueues (((List.range 8).filter out).map (fun r => (r, queues r)))
  named.foldl (fun d e => e.2.presets.foldl (fun d p => d.presetPlain p.2) d) d

/-! ### Rates (R29) -/

/-- The line port whose rate an endpoint of the SAMPLE, SYMBOL or OTU level carries. -/
def endpointPort (code : Nat) : Nat := if code / 256 = 2 then 0 else if code / 256 = 3 then 1 else code % 2

/-- The rate and format of a port of structure d: M, D and format; none in MODE_ERR (R116, R117). -/
def Dev.portRate (d : Dev) (x : Nat) : Option (Nat × Nat × Nat) :=
  if d.modeErrCond x then none else some (d.lnM x, d.symbolRate x, d.lnFmt x)

/-- The rate and format of a flow (R192, R193). -/
def FlowDecl.rateFormat (w : FlowDecl) : Nat × Nat × Bool := (clientCode w.ctype, oduRate w.ctype w.slots, w.encrypt || w.isProtected)

/-- The client type of a CLIENT-level endpoint: of the lanes, or of the flow mapped; none where neither is known. -/
def Dev.clientRate (d : Dev) (flows : List FlowDecl) (code c : Nat) : Option Nat :=
  if code / 256 = 8 then (if d.clientType c = 0 then none else some (d.clientType c))
  else if code / 256 = 5 then (d.flowOfClient flows c).map (fun w => clientCode w.ctype)
  else none

/-- What an endpoint of the SYMBOL level carries: LLRs (DEMAP to DEC) or coded bits (ENC to MAP). -/
def symbolFormat (code : Nat) : Bool := decide (code ∈ [0x204, 0x304, 0x400, 0x401])

/-- Whether a connection joins a source and a sink of one rate and format in the structure d (R29): ports by M at the SAMPLE level, by
rate and format above it (at the SYMBOL level LLRs or coded bits), flows by ODUflex rate and overhead area, clients by type. What the structure does not give is not compared
(DEDUCED, notes/assumptions/31.md). -/
def Dev.rateOk (d : Dev) (flows : List FlowDecl) (c : Connect) : Bool :=
  let p := endpointPort c.src
  let q := endpointPort c.sink
  let known := d.regionActive (1 + p) && d.regionActive (1 + q)
  match c.level with
  | 3 => match flows.find? (fun w => w.flow == c.srcInst), flows.find? (fun w => w.flow == c.sinkInst) with
    | some a, some b => a.rateFormat == b.rateFormat
    | _, _ => true
  | 4 => match d.clientRate flows c.src c.srcInst, d.clientRate flows c.sink c.sinkInst with
    | some a, some b => a == b
    | _, _ => true
  | 0 => p == q || !known || d.lnM p == d.lnM q
  | 1 => symbolFormat c.src == symbolFormat c.sink && (p == q || !known || d.portRate p == d.portRate q)
  | _ => p == q || !known || d.portRate p == d.portRate q

/-- RATE. -/
def Dev.rateBad (d : Dev) (l : List (Nat × Parsed)) : Option Nat :=
  ((recordsOf Parsed.connects l).find? (fun c => !d.rateOk (flowsOf l) c.2)).map (·.1)

/-! ### Flows, programs, queue maps (R65, R332, R294) -/

/-- The first flow record that is bad: a duplicate, a field out of Table 9, R65 broken, or one that takes a port beyond 640 slots; a and
b are the slots of the ports so far. -/
def flowBadFrom (seen : List Nat) (a b : Nat) : List (Nat × (FlowDecl × Nat)) → Option Nat
  | [] => none
  | (o, (w, flags)) :: r =>
    let a := if w.home = 1 then a else a + w.slots
    let b := if w.home = 0 then b else b + w.slots
    if seen.contains w.flow || decide (1280 ≤ w.flow) || decide (2 < w.home) || decide (4 ≤ flags) || w.slots == 0 ||
        decide (640 < w.slots) || w.isProtected != (w.home == 2) || decide (640 < a) || decide (640 < b) then some o
    else flowBadFrom (w.flow :: seen) a b r

/-- FLOW. -/
def flowBad (named : List (Nat × Parsed)) : Option Nat := named.findSome? (fun e => flowBadFrom [] 0 0 e.2.flows)

/-- The first engine block that is not valid (R332). -/
def programBadFrom (seen : List Nat) : List (Nat × (Nat × List Word)) → Option Nat
  | [] => none
  | (o, (n, ws)) :: r =>
    if seen.contains n || decide (64 ≤ n) || !programOk ws then some o else programBadFrom (n :: seen) r

/-- PROGRAM. -/
def programBad (named : List (Nat × Parsed)) : Option Nat := named.findSome? (fun e => programBadFrom [] e.2.programs)

/-- A field of a queue descriptor: n bytes at an offset (Table 2 of 10_ringmaster.md). -/
def descField (x : QueueDecl) (off n : Nat) : Nat := (x.desc.getD (off / 4) 0).toNat / 256 ^ (off % 4) % 256 ^ n

/-- Whether a descriptor is valid by itself (R294). -/
def descOk (x : QueueDecl) : Bool :=
  let type := descField x 0 1
  let policy := descField x 2 1
  let flags := descField x 3 1
  let quota := descField x 4 2
  let reserve := descField x 6 2
  let page := policy == 2
  let ext := descField x 24 4
  decide (1 ≤ type) && decide (type ≤ 6) && decide (descField x 1 1 ≤ 7) &&
  (match type with | 1 => decide (policy ≤ 2) | 2 => policy == 0 || policy == 2 | _ => policy == 0) &&
  decide (flags ≤ 7) && descField x 31 1 == 0 &&
  (if type = 5 then quota == 0 else decide (1 ≤ quota) && decide (quota ≤ 12288) && decide (descField x 10 2 ≤ descField x 8 2) &&
    decide (descField x 8 2 ≤ quota)) &&
  decide (reserve ≤ quota) &&
  (descField x 16 2 != 0) == page && (ext != 0) == page && (!page || decide (descField x 20 4 + ext ≤ 2 ^ 32)) &&
  decide (descField x 28 1 ≤ 15) == (page || type == 5) &&
  (!flags.testBit 1 || (type == 1 && policy != 0 && reserve == quota &&
    decide (descField x 18 2 + 2 ≤ if page then quota + ext else quota))) &&
  (!flags.testBit 2 || type == 2) && (descField x 29 1 == 0 || decide (32 ≤ descField x 29 1))

/-- Whether the handle ranges of two PAGE queues of one group overlap. -/
def handlesClash (a b : QueueDecl) : Bool :=
  descField a 2 1 == 2 && descField b 2 1 == 2 && descField a 28 1 == descField b 28 1 &&
  decide (descField a 20 4 < descField b 20 4 + descField b 24 4) && decide (descField b 20 4 < descField a 20 4 + descField a 24 4)

/-- The first queue map entry that is invalid, declares a queue again or clashes with another. -/
def queueBadFrom (seen : List QueueDecl) : List (Nat × QueueDecl) → Option Nat
  | [] => none
  | (o, x) :: r =>
    if !descOk x || seen.any (fun y => y.queue == x.queue || handlesClash y x) then some o else queueBadFrom (x :: seen) r

/-- QUEUE_MAP. -/
def queueBad (l : List (Nat × Parsed)) : Option Nat := queueBadFrom [] (recordsOf Parsed.queues l)

/-! ### Resources and lanes (R215, R250, R307, R468, R256, R452) -/

/-- What the HOST presets of a structure make of the register at address a; CHAIN's those of its lanes (R62). -/
def hostPreset (l : List (Nat × Parsed)) (a : Nat) : Word :=
  ((l.filter (fun e => e.1 == 4 || e.1 == 7)).flatMap (fun e => e.2.presets)).foldl
    (fun w p => if p.2.addr = a then (w &&& ~~~p.2.mask) ||| (p.2.value &&& p.2.mask) else w) (resetWordOf a)

/-- A field of a register as the HOST presets of a structure give it. -/
def hostField (l : List (Nat × Parsed)) (f : Fld) : Nat := getBits (hostPreset l f.addr) f.hi f.lo

/-- The nominal capacity of group g: lanes that the HOST presets give the role SPILL and that group, in enabled octets (R307, R467). -/
def nominalCapacity (l : List (Nat × Parsed)) (g : Nat) : Nat :=
  ((List.range 48).filter (fun n => hostField l (Fld.HST_OCTET_CTL.EN (n / 8)) == 1 && hostField l (Fld.HST_LANE_CTL.ROLE n) == 2 &&
    hostField l (Fld.HST_LANE_CTL.GROUP n) == g)).foldl
    (fun r n => r + if hostField l (Fld.HST_OCTET_CTL.RATE (n / 8)) = 1 then 100 else 200) 0

/-- The checks of R307, in the structure d, for a load or commit whose named bodies declare or keep queues; hosts are the bodies that give
the lanes. -/
def Dev.queuesBad (d : Dev) (named hosts : List (Nat × Parsed)) : Bool :=
  let qs := d.rms.queues.map (·.1)
  named.any (fun e => !e.2.queues.isEmpty) &&
  (decide (d.get Fld.RMS_ADM_LIMIT.LIMIT < (qs.map d.hbmLoad).foldl (· + ·) 0) ||
   (List.range 16).any (fun g => decide (nominalCapacity hosts g <
     ((qs.filter (fun q => d.get (Fld.RMS_Q_DESC7.GROUP q) == g)).map d.groupLoad).foldl (· + ·) 0)) ||
   decide (12288 < (qs.map (fun q => max (d.qReserve q) (d.qHeld q))).foldl (· + ·) 0))

/-- The sum of a list of numbers. -/
def sumOf (l : List Nat) : Nat := l.foldl (· + ·) 0

/-- Whether link k is loaded beyond 760 Gbit/s (R468). -/
def Dev.linkOver (d : Dev) (flows : List FlowDecl) (k : Nat) : Bool :=
  let routed := flows.filter (fun w => d.isSet (Fld.CHN_ODU_ROUTE.EN w.flow) && d.get (Fld.CHN_ODU_ROUTE.LINK w.flow) == k)
  let odu : Nat := sumOf (routed.map (fun (w : FlowDecl) => if w.encrypt || w.isProtected then w.rate15184 else oduRate w.ctype w.slots * 15184))
  let spill : Nat := sumOf ((d.rms.queues.filter (fun e => d.qType e.1 == 5 && d.isSet (Fld.CHN_SPILL_MAP.EN (d.get (Fld.RMS_Q_DESC7.GROUP e.1))) &&
    (d.forwardLanes (d.get (Fld.RMS_Q_DESC7.GROUP e.1))).any (fun l => l % 8 / 4 == k))).map (fun e => d.get (Fld.RMS_Q_DESC3.RATE_W e.1)))
  decide (760000000000 * 15184 < odu + spill * 1000000000 * 15184)

/-- RESOURCE, in the structure d; the load of the links is checked where CHAIN is named (R468). At a load the lanes are those of the image's
HOST body where it has one, and of the active one otherwise (DEDUCED, notes/assumptions/31.md). -/
def Dev.resourceBad (d : Dev) (named l hosts : List (Nat × Parsed)) : Bool :=
  let flows := flowsOf l
  decide (256 < (flows.filter (fun w => w.encrypt)).length) ||
  decide (240 < sumOf ((flows.filter (fun w => w.isProtected)).map (·.slots))) ||
  d.queuesBad named hosts ||
  (named.any (fun e => e.1 == 7) && (d.linkOver flows 0 || d.linkOver flows 1))

/-- Presets of OCTET_CTL that give an octet two rates. -/
def twoRates (named : List (Nat × Parsed)) : Option Nat :=
  let ps := (recordsOf Parsed.presets named).filter (fun p =>
    decide (Reg.HST_OCTET_CTL 0 ≤ p.2.addr) && decide (p.2.addr < Reg.HST_OCTET_CTL 6) &&
    p.2.mask.getLsbD (Fld.HST_OCTET_CTL.RATE 0).lo)
  (ps.find? (fun p => ps.any (fun q => q.2.addr == p.2.addr && q.2.value.getLsbD (Fld.HST_OCTET_CTL.RATE 0).lo !=
    p.2.value.getLsbD (Fld.HST_OCTET_CTL.RATE 0).lo))).map (·.1)

/-- LANE_CONFLICT, in the structure d: a client that breaks R256 or shares a lane, or CHAIN claiming lanes of an octet that does not
run at 212.5 Gbit/s (R452). -/
def Dev.lanesBad (d : Dev) (named : List (Nat × Parsed)) : Option Nat :=
  let touches := named.any (fun e => e.1 == 4 || e.1 == 7)
  let claims := d.linkOn 0 || d.linkOn 1
  match twoRates named with
  | some o => some o
  | none =>
    if touches && ((List.range 48).any (fun c => d.clientType c != 0 && d.clientBad c) ||
        (claims && d.octetHalf (d.get Fld.CHN_CTL.OCTET))) then some noItem else none

/-! ### Dangling connections -/

/-- Whether the source of a connection would exist in the structure d: its region has a structure; at the ODU level a FRAMER source
has its flow; at the CLIENT level a lane client is configured, a demapper has a flow with that client (DEDUCED,
notes/assumptions/31.md). -/
def Dev.sourceExists (d : Dev) (l : List (Nat × Parsed)) (c : Connect) : Bool :=
  l.any (fun e => e.1 == endpointRegion c.src) &&
  (match c.level with
   | 3 => endpointRegion c.src != 3 || (flowsOf l).any (fun w => w.flow == c.srcInst)
   | 4 => c.src == 0xB03 || (d.clientRate (flowsOf l) c.src c.srcInst).isSome
   | _ => true)

/-- DANGLING. -/
def Dev.dangling (d : Dev) (l : List (Nat × Parsed)) : Option Nat :=
  ((recordsOf Parsed.connects l).find? (fun c => !d.sourceExists l c.2)).map (·.1)

/-! ### The checks of a load and of a commit (Table 10) -/

/-- The first answer of a list of checks, with its code. -/
def firstFailure (l : List (Nat × Option Nat)) : Option (Nat × Nat) := l.findSome? (fun e => e.2.map (fun o => (e.1, o)))

/-- The structure a commit of the named regions would give: the named bodies, and the active ones of the other regions. -/
def Dev.resulting (d : Dev) (named : List (Nat × Parsed)) : List (Nat × Parsed) :=
  (d.str.active.filter (fun e => !named.any (fun n => n.1 == e.1))).map (fun e => (e.1, e.2.parsed)) ++ named

/-- The structural checks of a load (R71). The claims of lanes are those of the image where it holds CHAIN (R62). -/
def Dev.loadCheck (d : Dev) (named : List (Nat × Parsed)) : Option (Nat × Nat) :=
  let w := d.wouldBe named true
  let claims := (d.wouldBe (named.filter (fun e => e.1 == 7)) false).claimed
  firstFailure [(0x0D, endpointBad named named), (0x0E, fanoutBad named), (0x0F, w.rateBad named), (0x10, presetBad claims named),
    (0x11, flowBad named), (0x12, programBad named), (0x13, queueBad named),
    (0x14, if w.resourceBad named named (d.resulting named) then some noItem else none), (0x15, w.lanesBad named)]

/-- The checks of a commit of the named regions of the staged image (R75). -/
def Dev.commitCheck (d : Dev) (named : List (Nat × Parsed)) : Option (Nat × Nat) :=
  let l := d.resulting named
  let w := d.wouldBe named false
  firstFailure [(0x0E, fanoutBad l), (0x0F, w.rateBad l), (0x10, presetBad w.claimed l), (0x13, queueBad l),
    (0x14, if w.resourceBad named l l then some noItem else none), (0x15, w.lanesBad named), (0x16, w.dangling l)]

end Sys2Proof.Machine
end

