-- ==== Sys2Proof/Machine/Mailbox.lean ====
section
/-! DEFINITION. Block SEC: the mailbox, its commands, fuses, key-encryption keys, firmware update, attestation, debug access
(R485 to R500, 16_boot_firmware_identity.md). -/

namespace Sys2Proof.Machine

/-! ### Channels (R485 to R487) -/

/-- Channel c beside its registers. -/
def Dev.chan (d : Dev) (c : Nat) : MbChannel := Sparse.get {} d.sec.chans c
/-- Replace channel c. -/
def Dev.setChan (d : Dev) (c : Nat) (v : MbChannel) : Dev := { d with sec := { d.sec with chans := Sparse.put {} d.sec.chans c v } }
/-- Whether channel c has a command in progress. -/
def Dev.mbBusy (d : Dev) (c : Nat) : Bool := d.isSet (Fld.SEC_MB_STATUS.BUSY c)

/-- The request buffer of channel c (R486). -/
def Dev.mbRequest (d : Dev) (c : Nat) : List Byte := (List.range 256).flatMap (fun w => leBytes 4 (d.reg (Reg.SEC_MB_REQ c w)).toNat)

/-- GO of channel c (R487). -/
def Dev.mbGo (c : Nat) (d : Dev) : Dev :=
  if d.mbBusy c then d.put (Fld.SEC_MB_STATUS.OVERRUN c) 1
  else
    let d := Dev.forUpTo 256 (fun d w => d.setReg (Reg.SEC_MB_RSP c w) 0) d
    (d.setChan c { d.chan c with req := some (d.mbRequest c), reply := none, discard := false }).put (Fld.SEC_MB_STATUS.BUSY c) 1

/-- CMD of a request. -/
def mbCmd (x : List Byte) : Nat := leAt x 0 2
/-- LEN of a request. -/
def mbLen (x : List Byte) : Nat := leAt x 2 2

/-- Payload bytes of a command; none for a CMD that Table 5 does not have. -/
def mbSize (cmd : Nat) : Option Nat :=
  match cmd with
  | 0x0001 => some 0
  | 0x0002 => some 4
  | 0x0003 => some 32
  | 0x0004 => some 0
  | 0x0010 => some 96
  | 0x0011 => some 44
  | 0x0012 => some 2
  | 0x0020 => some 200
  | 0x0021 => some 104
  | 0x0022 => some 100
  | 0x0023 => some 104
  | 0x0030 => some 16
  | 0x0031 => some 2
  | 0x0040 => some 104
  | 0x0050 => some 16
  | _ => none

/-- Whether Lyfate, or in RECOVERY_WAIT the ROM, serves channel c now (R473, R477). -/
def Dev.mbServes (d : Dev) (c : Nat) : Bool := (2 ≤ d.stage && d.stage ≤ 5) || (d.stage == 6 && c == 0)

/-- The status with which a request is refused before its command is looked at: in RECOVERY_WAIT, for an unknown CMD, for a wrong
LEN. -/
def Dev.mbRefusal (d : Dev) (x : List Byte) : Option Nat :=
  let cmd := mbCmd x
  if d.stage = 6 ∧ cmd ≠ 1 ∧ cmd ≠ 2 ∧ cmd ≠ 0x50 then some 0x2A
  else match mbSize cmd with
    | none => some 0x20
    | some n => if mbLen x = n then none else some 0x21

/-- Lyfate has a reply for channel c: STATUS and payload. -/
def Dev.mbReply (d : Dev) (c st : Nat) (payload : List Byte := []) : Dev :=
  d.setChan c { d.chan c with reply := some (st, payload) }

/-- Channel c's request of a command, where one waits and may be served: its payload. A request that is refused at once gets its
reply here. -/
def Dev.mbTake (d : Dev) (c cmd : Nat) : Sum Dev (List Byte) :=
  match (d.chan c).req, (d.chan c).reply with
  | some x, none =>
    if !d.mbServes c || mbCmd x != cmd then .inl d
    else match d.mbRefusal x with
      | some st => .inl (d.mbReply c st)
      | none => .inr (sliceBytes x 8 (mbLen x))
  | _, _ => .inl d

/-- Serve channel c's request of a command that changes the device alone. -/
def Dev.mbServe (c cmd : Nat) (f : List Byte → Dev → Dev) (d : Dev) : Dev :=
  match d.mbTake c cmd with
  | .inl d => d
  | .inr x => f x d

/-- Lyfate writes the reply, clears BUSY and sets DONE (R486, R487); a reply to be discarded only clears
BUSY. A request with an unknown CMD is refused here. -/
def Dev.mbComplete (c : Nat) (d : Dev) : Dev :=
  let v := d.chan c
  let reply := match v.reply, v.req with
    | some r, _ => some r
    | none, some x => if d.mbServes c && (mbSize (mbCmd x)).isNone then (d.mbRefusal x).map (fun st => (st, [])) else none
    | none, none => none
  match v.req, reply with
  | some x, some (st, payload) =>
    let d := if d.sec.flashBusy = some c then
        ((({ d with sec := { d.sec with flashBusy := none } }.put Fld.SEC_FLASH_STATUS.BUSY 0).put Fld.SEC_FLASH_STATUS.OP 0).setIntSEC 7)
      else d
    let d := { d with sec := { d.sec with fuseBusy := if d.sec.fuseBusy = some c then none else d.sec.fuseBusy } }
    let d := if st = 0x2B then d.raise 486 else d
    let d := d.setChan c { v with req := none, reply := none, discard := false }
    if v.discard then d.put (Fld.SEC_MB_STATUS.BUSY c) 0 else
      let out := leBytes 4 (mbCmd x + 2 ^ 16 * payload.length) ++ leBytes 4 (leAt x 4 4) ++ leBytes 4 st ++ payload
      let d := Dev.forUpTo 256 (fun d w => d.setReg (Reg.SEC_MB_RSP c w) (BitVec.ofNat 32 (leAt out (4 * w) 4))) d
      (((d.put (Fld.SEC_MB_STATUS.BUSY c) 0).put (Fld.SEC_MB_STATUS.DONE c) 1)).setIntSEC c
  | _, _ => d

/-! ### Information and identity (R488, R498, R499) -/

/-- FLAGS of Table 7. -/
def Dev.secFlags (d : Dev) : Nat :=
  let f := d.sec.fuses
  d.get Fld.SEC_BOOT_STATUS.DEBUG + 4 * bit f.custOnly + 8 * d.get Fld.SEC_BOOT_STATUS.RECOVERY + 16 * f.enrolled.toNat +
    256 * f.revoked.toNat + 2 ^ 12 * d.get Fld.SEC_BOOT_STATUS.LYF_FALLBACK + 2 ^ 13 * d.get Fld.SEC_BOOT_STATUS.APP_FALLBACK

/-- GET_INFO. -/
def Dev.getInfo (c : Nat) (d : Dev) : Dev :=
  let f := d.sec.fuses
  d.mbReply c 0 (leBytes 4 (d.reg Reg.SEC_LYF_VER).toNat ++ leBytes 4 (d.reg Reg.SEC_APP_VER).toNat ++
    leBytes 1 (d.get Fld.SEC_BOOT_STATUS.LYF_BANK) ++ leBytes 1 (d.get Fld.SEC_BOOT_STATUS.APP_BANK) ++ leBytes 2 d.secFlags ++
    leBytes 1 f.secver ++ leBytes 1 f.lyfSecver ++ [0, 0] ++ leBytes 8 Config.dieId.toNat)

/-- GET_CERT: INDEX and OFFSET. -/
def Dev.getCert (c : Nat) (x : List Byte) (d : Dev) : Dev :=
  let cert := if leAt x 0 1 = 0 then Config.deviceCert else Config.caCert
  let off := leAt x 2 2
  if 1 < leAt x 0 1 ∨ cert.length < off then d.mbReply c 0x24
  else d.mbReply c 0 (leBytes 2 cert.length ++ [0, 0] ++ (cert.drop off).take 1008)

/-- Whether the DRBG delivers (R229). -/
def Dev.drbgOk (d : Dev) : Bool := d.isSet Fld.CRY_STATUS.DRBG_OK

/-- A fresh draw of the DRBG. -/
def Dev.drbg (d : Dev) : Nat × Dev := (d.fresh, { d with fresh := d.fresh + 1 })

/-- The report of ATTEST without its signature (Table 7). -/
def Dev.report (d : Dev) (nonce : List Byte) : List Byte :=
  let f := d.sec.fuses
  leBytes 4 0x52414250 ++ leBytes 2 0x0100 ++ leBytes 2 d.secFlags ++ leBytes 8 Config.dieId.toNat ++ sliceBytes nonce 0 32 ++
    leBytes 4 (tNs d.tc) ++ leBytes 6 (tSec d.tc) ++ leBytes 1 f.secver ++ leBytes 1 f.lyfSecver ++ leBytes 4 d.sec.boots ++
    sliceBytes d.sec.lyfDigest 0 48 ++ sliceBytes d.sec.appDigest 0 48 ++
    (List.range 8).flatMap (fun r => sliceBytes (Sparse.get [] d.sec.regionDigest r) 0 48)

/-- ATTEST. -/
def Dev.attest (c : Nat) (nonce : List Byte) (d : Dev) : Dev :=
  if !d.drbgOk then d.mbReply c 0x0A else
    let (n, d) := d.drbg
    let r := d.report nonce
    d.mbReply c 0 (r ++ sliceBytes (Config.identitySign n r) 0 96)

/-- GET_CHALLENGE: a new challenge replaces the old one (R490). -/
def Dev.getChallenge (c : Nat) (d : Dev) : Dev :=
  if !d.drbgOk then d.mbReply c 0x0A else
    let (n, d) := d.drbg
    let x := (List.range 32).map (Config.freeByte n)
    (d.setChan c { d.chan c with challenge := some x }).mbReply c 0 x

/-- KEK_EXCHANGE (R494). -/
def Dev.kekExchange (c : Nat) (qr : List Byte) (d : Dev) : Dev :=
  if !d.drbgOk then d.mbReply c 0x0A else
    let (n, d) := d.drbg
    match Config.ecdh n qr with
    | none => d.mbReply c 0x21
    | some (qd, z) =>
      let die := beBytes 8 Config.dieId.toNat
      let label := [0x50, 0x42, 0x36, 0x34, 0x33, 0x32, 0x2D, 0x4B, 0x45, 0x4B]
      let kek := (Config.sha384 ([0, 0, 0, 1] ++ z ++ label ++ die ++ qr ++ qd)).take 32
      let (m, d) := d.drbg
      (d.setChan c { d.chan c with kek := some kek }).mbReply c 0
        (sliceBytes qd 0 96 ++ sliceBytes (Config.identitySign m (qr ++ qd ++ die)) 0 96)

/-- KEY_LOAD (R217); at debug level 2 it is refused with BUSY (R500). -/
def Dev.mbKeyLoad (c : Nat) (x : List Byte) (d : Dev) : Dev :=
  if d.get Fld.SEC_BOOT_STATUS.DEBUG = 2 then (d.raise 204).mbReply c 1 else
    let (st, d) := d.keyLoad (d.chan c).kek (leAt x 0 2) (leAt x 2 1 % 2 == 1) (sliceBytes x 4 40)
    d.mbReply c st

/-- KEY_ERASE (R219). -/
def Dev.mbKeyErase (c : Nat) (x : List Byte) (d : Dev) : Dev :=
  if 511 < leAt x 0 2 then d.mbReply c 3 else (d.keyErase (leAt x 0 2)).mbReply c 0

/-! ### Authorisation and fuses (R490 to R493) -/

/-- Check an AUTH block of a command: 0, or the status that refuses it; the challenge is consumed (R490). -/
def Dev.authorise (d : Dev) (c cmd : Nat) (before auth : List Byte) : Nat × Dev :=
  match (d.chan c).challenge with
  | none => (0x23, d)
  | some ch =>
    let d := d.setChan c { d.chan c with challenge := none }
    let s := leAt auth 0 1
    let msg := beBytes 8 Config.dieId.toNat ++ ch ++ beBytes 2 cmd ++ before
    if !d.sec.fuses.accepts s then (0x29, d.raise 483)
    else if !Config.ecdsaVerify (d.sec.fuses.signerKey s) msg (sliceBytes auth 4 96) then (0x22, d.raise 483)
    else (0, d)

/-- The first enrolment of CK0 needs no signature: SIGNER 0xFF, SIG zero, the challenge consumed (R491). -/
def Dev.authoriseFirst (d : Dev) (c : Nat) (auth : List Byte) : Nat × Dev :=
  match (d.chan c).challenge with
  | none => (0x23, d)
  | some _ =>
    let d := d.setChan c { d.chan c with challenge := none }
    if leAt auth 0 1 = 0xFF ∧ (sliceBytes auth 4 96).all (· == 0) then (0, d) else (0x22, d.raise 483)

/-- Burn fuses: only one fuse command runs at a time (R487); fuses that do not verify leave the earlier state in force
(R493). -/
def Dev.burn (d : Dev) (c st : Nat) (burnt : Bool) (f : Fuses) : Dev :=
  if st ≠ 0 then d.mbReply c st
  else if !burnt then { d with sec := { d.sec with fuseBusy := some c } }.mbReply c 0x26
  else { d with sec := { d.sec with fuses := f, fuseBusy := some c } }.mbReply c 0

/-- Whether another channel's fuse command runs. -/
def Dev.fuseBusy (d : Dev) : Bool := d.sec.fuseBusy.isSome

/-- ENROLL_KEY. -/
def Dev.enrollKey (c : Nat) (burnt : Bool) (x : List Byte) (d : Dev) : Dev :=
  if d.fuseBusy then d.mbReply c 1 else
    let f := d.sec.fuses
    let k := leAt x 0 1
    let (st, d) := if f.enrolled = 0 ∧ k = 0 then d.authoriseFirst c (sliceBytes x 100 100)
      else d.authorise c 0x20 (sliceBytes x 0 100) (sliceBytes x 100 100)
    let st := if st ≠ 0 then st else if 3 < k ∨ f.enrolled.getLsbD k then 0x24 else 0
    d.burn c st burnt { f with keys := Sparse.insert k (sliceBytes x 4 96) f.keys, enrolled := f.enrolled ||| (1#4 <<< k) }

/-- Whether some customer key is good. -/
def Fuses.someKey (f : Fuses) : Bool := (List.range 4).any f.keyGood

/-- REVOKE_KEY. -/
def Dev.revokeKey (c : Nat) (burnt : Bool) (x : List Byte) (d : Dev) : Dev :=
  if d.fuseBusy then d.mbReply c 1 else
    let f := d.sec.fuses
    let k := leAt x 0 1
    let g : Fuses := { f with revoked := f.revoked ||| (1#4 <<< k) }
    let (st, d) := d.authorise c 0x21 (sliceBytes x 0 4) (sliceBytes x 4 100)
    let st := if st ≠ 0 then st else if 3 < k ∨ !f.keyGood k then 0x24 else if f.custOnly && !g.someKey then 0x25 else 0
    d.burn c st burnt g

/-- Whether the bank of a type selected for the next boot holds an image. -/
def Dev.nextImage (d : Dev) (type : Nat) : Option (List Byte) :=
  let x := d.bankImage type (d.preferredBank type)
  if leAt x 0 4 = 0x57464250 then some x else none

/-- SET_CUST_ONLY. -/
def Dev.setCustOnly (c : Nat) (burnt : Bool) (x : List Byte) (d : Dev) : Dev :=
  if d.fuseBusy then d.mbReply c 1 else
    let f := d.sec.fuses
    let (st, d) := d.authorise c 0x22 [] x
    let naiskyn := match d.nextImage 2 with | some y => fwSigner y == 0 | none => false
    let st := if st ≠ 0 then st else if !f.someKey || naiskyn then 0x25 else 0
    d.burn c st burnt { f with custOnly := true }

/-- ADVANCE_SECVER. -/
def Dev.advanceSecver (c : Nat) (burnt : Bool) (x : List Byte) (d : Dev) : Dev :=
  if d.fuseBusy then d.mbReply c 1 else
    let f := d.sec.fuses
    let lyf := decide (leAt x 0 1 = 1)
    let v := leAt x 1 1
    let (st, d) := d.authorise c 0x23 (sliceBytes x 0 4) (sliceBytes x 4 100)
    let now := if lyf then f.lyfSecver else f.secver
    let above := match d.nextImage (if lyf then 1 else 2) with | some y => decide (fwSecver y < v) | none => false
    let st := if st ≠ 0 then st
      else if 1 < leAt x 0 1 ∨ v ≤ now ∨ (if lyf then 32 else 64) < v then 0x24
      else if above then 0x25 else 0
    d.burn c st burnt (if lyf then { f with lyfSecver := v } else { f with secver := v })

/-! ### Firmware update (R495 to R497) -/

/-- Whether a structure image is being fetched from the flash. -/
def Dev.flashLoading (d : Dev) : Bool := d.get Fld.STR_STATE.STAGE == 1 && d.str.load.any (fun l => l.1 == 2)

/-- A flash operation starts. -/
def Dev.flashStart (d : Dev) (c op kib : Nat) : Dev :=
  let d := { d with sec := { d.sec with flashBusy := some c } }
  ((d.put Fld.SEC_FLASH_STATUS.BUSY 1).put Fld.SEC_FLASH_STATUS.OP op).put Fld.SEC_FLASH_STATUS.DONE_KIB kib

/-- Whether a bank of a type is the one that runs; in recovery none does. -/
def Dev.bankRuns (d : Dev) (type bank : Nat) : Bool :=
  !d.isSet Fld.SEC_BOOT_STATUS.RECOVERY &&
    (if type = 1 then d.get Fld.SEC_BOOT_STATUS.LYF_BANK == bank
     else d.stage == 4 && d.get Fld.SEC_BOOT_STATUS.APP_BANK == bank)

/-- FW_WRITE; while a load from the flash fetches, it waits. -/
def State.fwWrite (c : Nat) (ok : Bool) (s : State) : State :=
  if s.dev.flashLoading then s else
    match s.dev.mbTake c 0x30 with
    | .inl d => { s with dev := d }
    | .inr x =>
      let d := s.dev
      let type := leAt x 0 1
      let bank := leAt x 1 1
      let src := leAt x 4 8
      let len := leAt x 12 4
      let refuse (st : Nat) : State := { s with dev := d.mbReply c st }
      if d.sec.flashBusy.isSome then refuse 1
      else if (type ≠ 1 ∧ type ≠ 2) ∨ 1 < bank then refuse 0x24
      else if d.bankRuns type bank then refuse 0x2A
      else if fwBankSize type < len then refuse 0x27
      else if hbmBytes < src + len ∨ (List.range len).any (fun i => decide ((src + i) / 512 ∈ d.rms.bad)) then refuse 0x2C
      else
        let img := s.hbm.readBytes src len
        let st := d.sec.fuses.fwCheck type img
        if st ≠ 0 then refuse st
        else
          let d := d.flashStart c 1 (len / 1024)
          let a := fwBankAt type bank
          { s with dev := if ok then (d.flashProgram a (fwBankSize type) img).mbReply c 0
                          else (d.flashSpoil a (fwBankSize type)).mbReply c 0x2B }

/-- A bank-select record (R480). -/
def bankRecordBytes (seq lyf app : Nat) : List Byte :=
  let x := leBytes 4 0x52534250 ++ leBytes 4 seq ++ leBytes 1 lyf ++ leBytes 1 app ++ [0, 0]
  x ++ leBytes 4 (crc32c x).toNat

/-- FW_SELECT. Without a valid copy, the number and the place of the new record are free values. -/
def Dev.fwSelect (c : Nat) (ok : Bool) (d : Dev) : Dev :=
  if d.flashLoading then d else
    Dev.mbServe c 0x31 (fun x d =>
      let lyf := leAt x 0 1
      let app := leAt x 1 1
      let bad (v : Nat) : Bool := decide (1 < v) && v != 0xFF
      let fails (type v : Nat) : Bool := v != 0xFF && d.sec.fuses.fwCheck type (d.bankImage type v) != 0
      if d.sec.flashBusy.isSome then d.mbReply c 1
      else if bad lyf || bad app then d.mbReply c 0x24
      else if fails 1 lyf || fails 2 app then d.mbReply c 0x27
      else
        let (copy, seq, d) := match d.bankRecord with
          | some (k, n, _, _) => (1 - k, (n + 1) % 2 ^ 32, d)
          | none =>
            let (k, d) := d.draw 2
            let (n, d) := d.draw (2 ^ 32)
            (k, n, d)
        let rec_ := bankRecordBytes seq (if lyf = 0xFF then d.preferredBank 1 else lyf) (if app = 0xFF then d.preferredBank 2 else app)
        let d := d.flashStart c 2 0
        if ok then (d.flashProgram (0x10000 * copy) 0x10000 rec_).mbReply c 0
        else (d.flashSpoil (0x10000 * copy) 16).mbReply c 0x2B) d

/-! ### Debug access and recovery (R477, R500) -/

/-- DEBUG_UNLOCK. Before level 2 opens, every key slot and every key-encryption key is erased. -/
def Dev.debugUnlock (c : Nat) (x : List Byte) (d : Dev) : Dev :=
  let level := leAt x 0 1
  let (st, d) := d.authorise c 0x40 (sliceBytes x 0 4) (sliceBytes x 4 100)
  if st ≠ 0 then d.mbReply c st
  else if level ≤ d.get Fld.SEC_BOOT_STATUS.DEBUG then d.mbReply c 0
  else if 2 < level then d.mbReply c 0x24
  else
    let d := if level = 2 then
        Dev.forUpTo 5 (fun d c => d.setChan c { d.chan c with kek := none }) (Dev.forUpTo 512 (fun d k => d.keyErase k) d)
      else d
    ((d.put Fld.SEC_BOOT_STATUS.DEBUG level).causeOn 484).mbReply c 0

/-- RECOVER: in RECOVERY_WAIT a Lyfate image is loaded and run; once Lyfate runs in a recovery boot, application firmware. The image
passes through configuration SRAM. -/
def Dev.recover (c : Nat) (image : Option (List Byte)) (x : List Byte) (d : Dev) : Dev :=
  let type := leAt x 0 1
  let may := if d.stage = 6 then type == 1
    else type == 2 && d.isSet Fld.SEC_BOOT_STATUS.RECOVERY && d.stage != 4
  if type ≠ 1 ∧ type ≠ 2 then d.mbReply c 0x24
  else if !may then d.mbReply c 0x2A
  else match image with
    | none => d.mbReply c 0x2C
    | some img =>
      let img := sliceBytes img 0 (leAt x 12 4)
      let d := ({ d with str := { d.str with cfgSram := img, load := none } }.put Fld.STR_STATE.STAGE 0).put Fld.STR_LOAD_CTL.START 0
      let st := d.sec.fuses.fwCheck type img
      if st ≠ 0 then d.mbReply c st
      else if type = 1 then (d.takeLyfate img).mbReply c 0
      else ((d.runApp img).causeOff 487).mbReply c 0

/-! ### Meanings -/

/-- KEY_LOAD (R217). -/
def execKeyLoad (ch : Fin 5) := runDev (Dev.mbServe ch.val 0x11 (Dev.mbKeyLoad ch.val))
/-- KEY_ERASE (R219). -/
def execKeyErase (ch : Fin 5) := runDev (Dev.mbServe ch.val 0x12 (Dev.mbKeyErase ch.val))
/-- GET_INFO (R488). -/
def execGetInfo (ch : Fin 5) := runDev (Dev.mbServe ch.val 0x01 (fun _ => Dev.getInfo ch.val))
/-- GET_CERT (R488). -/
def execGetCert (ch : Fin 5) := runDev (Dev.mbServe ch.val 0x02 (Dev.getCert ch.val))
/-- ATTEST (R499). -/
def execAttest (ch : Fin 5) := runDev (Dev.mbServe ch.val 0x03 (Dev.attest ch.val))
/-- GET_CHALLENGE (R490). -/
def execGetChallenge (ch : Fin 5) := runDev (Dev.mbServe ch.val 0x04 (fun _ => Dev.getChallenge ch.val))
/-- KEK_EXCHANGE (R494). -/
def execKekExchange (ch : Fin 5) := runDev (Dev.mbServe ch.val 0x10 (Dev.kekExchange ch.val))
/-- ENROLL_KEY (R492). -/
def execEnrollKey (ch : Fin 5) (burnt : Bool) := runDev (Dev.mbServe ch.val 0x20 (Dev.enrollKey ch.val burnt))
/-- REVOKE_KEY (R492). -/
def execRevokeKey (ch : Fin 5) (burnt : Bool) := runDev (Dev.mbServe ch.val 0x21 (Dev.revokeKey ch.val burnt))
/-- SET_CUST_ONLY (R492). -/
def execSetCustOnly (ch : Fin 5) (burnt : Bool) := runDev (Dev.mbServe ch.val 0x22 (Dev.setCustOnly ch.val burnt))
/-- ADVANCE_SECVER (R492). -/
def execAdvanceSecver (ch : Fin 5) (burnt : Bool) := runDev (Dev.mbServe ch.val 0x23 (Dev.advanceSecver ch.val burnt))
/-- FW_WRITE (R495). -/
def execFwWrite (ch : Fin 5) (flashOk : Bool) := runState (State.fwWrite ch.val flashOk)
/-- FW_SELECT (R496). -/
def execFwSelect (ch : Fin 5) (flashOk : Bool) := runDev (Dev.fwSelect ch.val flashOk)
/-- DEBUG_UNLOCK (R500). -/
def execDebugUnlock (ch : Fin 5) := runDev (Dev.mbServe ch.val 0x40 (Dev.debugUnlock ch.val))
/-- RECOVER (R477). -/
def execRecover (ch : Fin 5) (image : Option (List Byte)) := runDev (Dev.mbServe ch.val 0x50 (Dev.recover ch.val image))
/-- MB_COMPLETE (R487). -/
def execMbComplete (ch : Fin 5) := runDev (Dev.mbComplete ch.val)

end Sys2Proof.Machine
end

