-- ==== Sys2Proof/Machine/CryptoJobs.lean ====
section
/-! DEFINITION. Memory-to-memory jobs of block CRY (R230 to R232, 07_payload_encryption.md). -/

namespace Sys2Proof.Machine

/-- The Ringmaster queue that job queue j is bound to. -/
def Dev.jobQueue (d : Dev) (j : Nat) : Nat := d.get (Fld.CRY_JOBQ_CTL.QUEUE j)

/-- Whether job queue j has a job to take: enabled, bound to a queue of type host DMA ring or firmware (R230), none of its jobs
in progress (R232), a core that line blocks leave free (R226), and a descriptor not yet consumed. -/
def Dev.jobWaits (d : Dev) (j : Nat) : Bool :=
  let q := d.jobQueue j
  d.isSet (Fld.CRY_JOBQ_CTL.EN j) && (d.qType q == 3 || d.qType q == 6) && !d.cry.jobs.any (fun e => e.1 == j) &&
    d.coreFree && decide (d.qCons q < d.qTail q) && (d.qAddr q (64 * d.qCons q)).isSome

/-- The job queue whose turn it is: round robin after the one last served (R232). -/
def Dev.nextJobQueue (d : Dev) : Option Nat := ([1, 2, 3, 4].map (fun i => (d.cry.jobLast + i) % 4)).find? d.jobWaits

/-- Whether n bytes from address a lie in the HBM. -/
def inHbm (a n : Nat) : Bool := decide (a + n ≤ hbmBytes)

/-- The codes of Table 5 that a descriptor's fields and its slot call for. -/
def Dev.jobErrors (d : Dev) (x : List Byte) : List Nat :=
  let op := leAt x 0 1
  let slot := leAt x 2 2
  let len := leAt x 4 4
  let src := leAt x 8 8
  let dst := leAt x 16 8
  let overlap := decide (src ≠ dst) && decide (src < dst + len) && decide (dst < src + len)
  (if op = 1 ∨ op = 2 then [] else [9]) ++
  (if len = 0 ∨ 16777216 < len ∨ 4096 < leAt x 32 2 then [2] else []) ++
  (if 511 < slot then [3]
   else (if slot < 2 * d.encFlows.length then [4] else []) ++
     (if d.slotState slot = 0 then [5] else []) ++
     (if op = 1 ∧ d.slotState slot = 2 then [6] else []) ++
     (if d.slotActive slot then [1] else [])) ++
  (if d.restructuring 3 then [1] else []) ++
  (if !inHbm src len || !inHbm dst len || !inHbm (leAt x 24 8) (leAt x 32 2) || overlap then [8] else [])

/-- The work of a job without an error (R231), in chunks of 64 KiB (R232): the state and STATUS. On AUTH_FAIL the destination holds zeros. -/
def State.jobWork (s : State) (at_ : Nat) (x : List Byte) : State × Nat :=
  let slot := leAt x 2 2
  let len := leAt x 4 4
  let dst := leAt x 16 8
  let k := s.dev.keySlot slot
  let s : State := { s with dev := s.dev.takeCore true ((len + 31) / 32 + 24 * ((len + 65535) / 65536)) k.key }
  let input := s.hbm.readBytes (leAt x 8 8) len
  let aad := s.hbm.readBytes (leAt x 24 8) (leAt x 32 2)
  if leAt x 0 1 = 1 then
    let (c, d) := s.dev.takeCount slot
    let iv := cryIv (blockCounter (d.isSet (Fld.CRY_KS_STATE.ROLE slot)) c) k.salt
    let out := Config.gcmCrypt k.key iv input
    let hbm := (s.hbm.writeBytes dst (sliceBytes out 0 len)).writeBytes (at_ + 36)
      (iv ++ sliceBytes (Config.gcmTag k.key iv aad out) 0 16)
    ({ s with dev := d.cryCauses, hbm := hbm }, 0)
  else
    let iv := sliceBytes x 36 12
    if sliceBytes (Config.gcmTag k.key iv aad input) 0 16 = sliceBytes x 48 16 then
      ({ s with hbm := s.hbm.writeBytes dst (sliceBytes (Config.gcmCrypt k.key iv input) 0 len) }, 0)
    else ({ s with hbm := s.hbm.writeBytes dst (List.replicate len 0) }, 7)

/-- A job is taken from the job queue whose turn it is and processed up to its STATUS. Where several codes apply, which one is
returned is a free value. -/
def State.cryptoJob (s : State) : State :=
  match s.dev.nextJobQueue with
  | none => s
  | some j =>
    let q := s.dev.jobQueue j
    match s.dev.qAddr q (64 * s.dev.qCons q) with
    | none => s
    | some a =>
      let x := s.hbm.readBytes a 64
      let errs := s.dev.jobErrors x
      let (s, st) :=
        if errs.isEmpty then s.jobWork a x
        else
          let (v, d) := s.dev.draw errs.length
          (({ s with dev := d } : State), errs.getD v 0)
      { s with dev := { s.dev with cry := { s.dev.cry with
          jobLast := j, jobs := Sparse.insert j { queue := q, desc := a, status := st } s.dev.cry.jobs } } }

/-- The job of job queue j completes: STATUS is written, CONS passes the descriptor, the job counts, and the queue event is
raised. The spec names no bit of RMS_Q_EVT for it: which one is a free value. -/
def State.cryptoJobDone (j : Nat) (s : State) : State :=
  match s.dev.cry.jobs.find? (fun e => e.1 == j) with
  | none => s
  | some (_, job) =>
    let d := { s.dev with cry := { s.dev.cry with jobs := s.dev.cry.jobs.filter (fun e => e.1 != j) } }
    let d := d.incSat (Fld.CRY_JOB_CNT.JOBS)
    let d := if job.status = 0 then d else (d.incSat (Fld.CRY_JOB_ERR_CNT.JOBS)).raise 202
    let d := d.setReg64 (Reg.RMS_Q_CONS_LO job.queue) (min (d.qTail job.queue) (d.qCons job.queue + 1))
    let (i, d) := d.draw 9
    { s with hbm := s.hbm.write (job.desc + 1) (BitVec.ofNat 8 job.status), dev := d.qEvt job.queue i }

/-! ### Meanings -/

/-- CRYPTO_JOB (R231). -/
def execCryptoJob := runBlockState 6 State.cryptoJob
/-- CRYPTO_JOB_DONE (R231). -/
def execCryptoJobDone (j : Fin 4) := runBlockState 6 (State.cryptoJobDone j.val)

end Sys2Proof.Machine
end

