-- ==== Sys2Proof/Machine/Horug.lean ====
section
/-! DEFINITION. Block CHN: link frames, cells, chain events, time alignment, forwarded control and spill
(15_horug_chain.md). FWD_EXECUTE stands in Machine/Forward.lean. -/

namespace Sys2Proof.Machine

/-! ### Frames (R453, R454) -/

/-- Bytes of an event record at frame time t (Table 2); AGE stays at its largest value. -/
def ChainEvent.bytes (e : ChainEvent) (t : Nat) : List Byte :=
  let age := min 0xFFFF ((t - e.origin) * 28 / (25 * 2 ^ 40))
  beBytes 4 (e.line * 2 ^ 28 + bit e.rise * 2 ^ 27 + e.orig % 4 * 2 ^ 25 + e.seq % 512 * 2 ^ 16 + age)

/-- An event record read from 32 bits, none for 0xFFFF_FFFF. -/
def chainEventOf (v t : Nat) : Option ChainEvent :=
  if v = 0xFFFFFFFF then none
  else some { line := v / 2 ^ 28, rise := v.testBit 27, orig := v / 2 ^ 25 % 4, seq := v / 2 ^ 16 % 512,
              origin := t - ticksTime (v % 2 ^ 16) }

/-- Bytes of a cell descriptor (Table 3). -/
def ChainCell.desc (c : ChainCell) : List Byte :=
  [BitVec.ofNat 8 c.kind, BitVec.ofNat 8 (c.dst % 4)] ++ beBytes 2 c.id ++ beBytes 2 c.len ++ [BitVec.ofNat 8 c.flags, 0] ++ beBytes 4 c.seq

/-- A cell from its descriptor and its 512 bytes. -/
def chainCellOf (desc data : List Byte) : ChainCell :=
  let len := min 512 (beAt desc 4 2)
  { kind := beAt desc 0 1, dst := beAt desc 1 1 % 4, id := beAt desc 2 2, len := len, flags := beAt desc 6 1, seq := beAt desc 8 4,
    data := sliceBytes data 0 len }

/-- The 16 bytes of a transaction. -/
def CtrlTrans.bytes (x : CtrlTrans) : List Byte :=
  [BitVec.ofNat 8 x.op, BitVec.ofNat 8 x.req] ++ beBytes 2 x.tag ++ beBytes 4 x.addr ++ beBytes 4 x.data.toNat ++
    [BitVec.ofNat 8 x.status, 0, 0, 0]

/-- The transactions of a CTRL cell. -/
def transOf (l : List Byte) : List CtrlTrans :=
  (List.range (l.length / 16)).map (fun i =>
    let x := sliceBytes l (16 * i) 16
    { op := beAt x 0 1, req := beAt x 1 1, tag := beAt x 2 2, addr := beAt x 4 4, data := BitVec.ofNat 32 (beAt x 8 4), status := beAt x 12 1 })

/-! ### Sending (R453 to R455, R460, R465, R466) -/

/-- This module's changes of chain lines become event records for the links in RUN; without a valid position none is sent
(R460). -/
def Dev.numberEdges (d : Dev) : Dev :=
  let d' := { d with chainOut := [] }
  if !d.posValid then d' else
    d.chainOut.foldl (fun d (e : Nat × Bool × Nat) =>
      let n := d.chn.evSeq
      let ev : ChainEvent := { line := e.1, rise := e.2.1, orig := d.chainPos, seq := n, origin := e.2.2 }
      let d := { d with chn := { d.chn with evSeq := (n + 1) % 512 } }
      Dev.forUpTo 2 (fun d k => if d.linkRun k then d.setLink k { d.link k with events := (d.link k).events ++ [ev] } else d) d) d'

/-- HB cells wait on both links (R466). -/
def Dev.spreadHb (d : Dev) : Dev :=
  Dev.forUpTo 2 (fun d k => if d.linkRun k then d.setLink k { d.link k with hb := (d.link k).hb ++ d.hbOut } else d) d |>
    fun d => { d with hbOut := [] }

/-- The die identifier of the head this module knows, or 0 (R454). -/
def Dev.headId (d : Dev) : Nat :=
  if d.straps.chainHead then Config.dieId.toNat
  else if d.isSet (Fld.CHN_LINK_STATUS.NB_VALID 0) ∧ (d.link 0).headId ≠ 0 then (d.link 0).headId
  else if d.isSet (Fld.CHN_LINK_STATUS.NB_VALID 1) then (d.link 1).headId else 0

/-- The HELLO cell of link k (R454). -/
def Dev.helloCell (d : Dev) (k : Nat) : ChainCell :=
  { kind := 4, len := 32, data := beBytes 8 Config.dieId.toNat ++ beBytes 8 d.headId ++
      [BitVec.ofNat 8 (if d.posValid then d.chainPos else 0), BitVec.ofNat 8 d.maxPos, BitVec.ofNat 8 k] ++ List.replicate 5 0 ++
      beBytes 8 (ofSigned 64 (d.link k).offset) }

/-- The CTRL cell that waits for link k: up to 32 transactions to one destination, and those left. -/
def Dev.ctrlCell (d : Dev) (k : Nat) : Option (ChainCell × List (Nat × CtrlTrans)) :=
  match d.chn.ctrlOut.find? (fun e => d.routeTo 1 e.1 == some k) with
  | none => none
  | some (dst, _) =>
    let all := d.chn.ctrlOut.filter (fun e => e.1 == dst)
    let now := all.take 32
    some ({ kind := 2, dst := dst, len := 16 * now.length, data := now.flatMap (fun e => e.2.bytes) },
      d.chn.ctrlOut.filter (fun e => e.1 != dst) ++ all.drop 32)

/-- A STREAM frame of a forwarded group as a SPILL cell (R454, R467). -/
def Dev.spillCell (d : Dev) (g : Nat) (f : TsuFrame) : ChainCell :=
  { kind := 3, dst := d.get (Fld.CHN_SPILL_MAP.EXIT g), id := f.queue, len := f.len,
    flags := 128 * bit f.first + 64 * bit f.last + d.get (Fld.CHN_SPILL_MAP.EXIT_GROUP g), seq := f.seq, data := f.data }

/-- Whether flow f is sent as ODU cells on link k: an unconnected CHN.ODU_TX sends nothing (R465). -/
def Dev.oduRouted (d : Dev) (k f : Nat) : Bool :=
  d.isSet (Fld.CHN_ODU_ROUTE.EN f) && d.get (Fld.CHN_ODU_ROUTE.LINK f) == k && (d.sourceOf 3 0x0E01 f).isSome

/-- The bytes that an ODU cell of flow f carries: those of the flow's frames, or of ODU-OCI while what CHN.ODU_TX is connected to delivers
nothing (R51, R81); its FA OH, the first seven bytes of a frame, stays (R205). -/
def Dev.oduData (d : Dev) (o : OduCell) : List Byte :=
  let l := o.data.take 512
  if (d.feeds 3 0x0E01 o.flow.val).isSome then l
  else (if o.first then l.take 7 else []) ++ (l.drop (if o.first then 7 else 0)).map (fun _ => OduSignal.oci.fill)

/-- The next cell of link k with what it takes from what waits, in the order of R455: CTRL, HELLO and HB; ODU; relayed SPILL;
own SPILL; IDLE. -/
def Dev.nextCell (d : Dev) (k : Nat) (odu : List OduCell) : ChainCell × Dev × List OduCell :=
  let l := d.link k
  match d.ctrlCell k with
  | some (c, rest) => (c, { d with chn := { d.chn with ctrlOut := rest } }, odu)
  | none =>
    if l.helloDue then (d.helloCell k, d.setLink k { l with helloDue := false }, odu)
    else match l.hb with
      | h :: r => ({ kind := 5, len := 13, data := beBytes 8 h.1 ++ beBytes 1 h.2.1 ++ beBytes 4 h.2.2 }, d.setLink k { l with hb := r }, odu)
      | [] =>
        match odu.filter (fun o => d.oduRouted k o.flow.val) with
        | o :: r =>
          let n := Sparse.get 0 d.chn.oduSeq o.flow.val
          let d := { d with chn := { d.chn with oduSeq := Sparse.put 0 d.chn.oduSeq o.flow.val ((n + 1) % 2 ^ 32) } }
          ({ kind := 1, id := o.flow.val, len := min 512 o.data.length, flags := 128 * bit o.first, seq := n, data := d.oduData o }, d, r)
        | [] =>
          match d.chn.relayed.find? (fun c => d.routeTo 1 c.dst == some k) with
          | some c => (c, { d with chn := { d.chn with relayed := removeFirst c d.chn.relayed } }, [])
          | none =>
            match d.spillOut.find? (fun (e : Nat × TsuFrame) => d.routeTo 1 (d.get (Fld.CHN_SPILL_MAP.EXIT e.1)) == some k) with
            | some e => (d.spillCell e.1 e.2, { d with spillOut := removeFirst e d.spillOut }, [])
            | none => ({ kind := 0 }, d, [])

/-- The level of chain line i as other modules see it: this module's own drive counts as sent (R81). -/
def Dev.chainShown (d : Dev) (i : Nat) : Bool := d.chainSent i || d.chainRemote.any (fun e => e.2.getLsbD i)

/-- Link k sends a frame (R453): two cells, up to four event records, the chain levels as this module knows them. -/
def Dev.linkFrameTx (k : Nat) (odu : List OduCell) (d : Dev) : Dev :=
  let lanes := d.linkLanes k
  if !d.linkOn k || lanes.isEmpty then d else
    let d := d.numberEdges.spreadHb
    let (c0, d, odu) := d.nextCell k odu
    let (c1, d, _) := d.nextCell k odu
    let l := d.link k
    let now := l.events.take 4
    let ct := (List.range 8).foldl (fun n i => n + bit (d.chainShown i) * 2 ^ i) 0
    let evs := now.flatMap (fun e => e.bytes d.tc) ++ List.replicate (16 - 4 * now.length) 0xFF
    let body := beBytes 2 0x4C93 ++ [BitVec.ofNat 8 (d.chainPos + 4 * bit d.posValid), BitVec.ofNat 8 ct] ++ beBytes 4 l.fseq ++
      beBytes 4 (tNs d.tc) ++ beBytes 6 (tSec d.tc) ++ [0, 0] ++ evs ++ c0.desc ++ c1.desc ++ sliceBytes c0.data 0 512 ++ sliceBytes c1.data 0 512
    let d := d.setLink k { l with fseq := (l.fseq + 1) % 2 ^ 32, lane := l.lane + 1, events := l.events.drop 4 }
    { d with chn := { d.chn with sent := d.chn.sent ++
        [(k, lanes.getD (l.lane % lanes.length) 0, body ++ beBytes 4 (crc32c body).toNat)] } }

/-- Each enabled link has a HELLO to send (R455). -/
def Dev.helloDue (d : Dev) : Dev :=
  Dev.forUpTo 2 (fun d k => if d.linkOn k then d.setLink k { d.link k with helloDue := true } else d) d

/-! ### Receiving (R453, R456, R460, R461, R464 to R467) -/

/-- The instant at which an event acts: its origin instant plus CHN_DLY (R461, R462). -/
def Dev.chainInstant (d : Dev) (origin : Nat) : Nat := origin + ticksTime (d.get Fld.CHN_DLY.TICKS)

/-- A remote event acts: an edge drives its line, a chain SYNC is the synchronising event where SRC = 1 (R461, R462). -/
def Dev.chainAct (d : Dev) (w : ChainWait) : Dev :=
  if w.event.line = 8 then
    (if d.isSet Fld.TIM_SYNC_CTL.SRC then { d with tim := { d.tim with syncDue := true } } else d)
  else if 8 < w.event.line then d
  else d.setRemote w.event.orig w.event.line w.event.rise

/-- A record that could not be applied in time counts as late. -/
def Dev.chainLate (d : Dev) (k : Nat) : Dev := (d.incSat (Fld.CHN_CNT.LATE k)).raise 453

/-- A remote drive was learned through link k, or has ended. -/
def Dev.learn (d : Dev) (k : Nat) (e : ChainEvent) : Dev :=
  let g := 8 * e.orig + e.line
  let l := Sparse.get [] d.chn.learned g
  let new := if !e.rise then [] else if k ∈ l then l else l ++ [k]
  if 8 ≤ e.line then d else { d with chn := { d.chn with learned := Sparse.put [] d.chn.learned g new } }

/-- An event record arrives on link k (R460, R461): the first copy is relayed and applied, later copies are discarded. -/
def Dev.chainRecord (k : Nat) (d : Dev) (e : ChainEvent) : Dev :=
  if d.posValid && e.orig == d.chainPos then d
  else if (e.orig, e.seq) ∈ d.chn.applied then d.learn k e
  else
    let j := 1 - k
    let d := { d with chn := { d.chn with applied := ((e.orig, e.seq) :: d.chn.applied).take 256 } }.learn k e
    let nbIsOrigin := d.isSet (Fld.CHN_LINK_STATUS.NB_VALID j) && d.get (Fld.CHN_LINK_STATUS.NB_POS j) == e.orig
    let d := if d.posValid && d.linkRun j && !nbIsOrigin then d.setLink j { d.link j with events := (d.link j).events ++ [e] } else d
    let w : ChainWait := { event := e, time := d.chainInstant e.origin, link := some k }
    if w.time < d.tc then (d.chainLate k).chainAct w
    else if 64 ≤ (d.chn.waiting.filter (fun x => x.link == some k)).length then
      (d.chainLate k).setLink k { d.link k with resync := (d.link k).resync ++ (if e.line < 8 then [8 * e.orig + e.line] else []) }
    else { d with chn := { d.chn with waiting := d.chn.waiting ++ [w] } }

/-- Drives whose records were lost take their level from CT. -/
def Dev.chainResync (d : Dev) (k ct : Nat) : Dev :=
  let l := d.link k
  l.resync.foldl (fun d g => d.setRemote (g / 8) (g % 8) (ct.testBit (g % 8))) (d.setLink k { l with resync := [] })

/-- A HELLO arrives on link k (R456, R457); valid tells whether the sender's position is. -/
def Dev.chainHello (k : Nat) (valid : Bool) (x : List Byte) (d : Dev) : Dev :=
  let head := beAt x 8 8
  let d := d.setReg64 (Reg.CHN_NB_ID_LO k) (beAt x 0 8)
  let d := d.setLink k { d.link k with
    headId := head, nbPos := if valid then some (beAt x 16 1) else none, maxPos := beAt x 17 1, meas := toSigned 64 (beAt x 24 8) }
  let d := (d.put (Fld.CHN_LINK_STATUS.NB_VALID k) 1).put (Fld.CHN_LINK_STATUS.NB_POS k) (beAt x 16 1)
  let d := if beAt x 18 1 = k then d.put Fld.CHN_STATUS.CABLE_ERR 1 else d
  let d := if d.straps.chainHead ∧ head ≠ 0 ∧ head ≠ Config.dieId.toNat then d.put Fld.CHN_STATUS.HEAD_CONFLICT 1 else d
  d.linksCheck

/-- Frames that wait at the exit leave on their group's lanes, in order (R467). -/
def Dev.exitSend (d : Dev) : Dev :=
  let now := d.chn.exitWait
  now.foldl (fun d (e : Nat × TsuFrame) =>
    match d.groupLanes e.1 false with
    | [] => { d with chn := { d.chn with exitWait := d.chn.exitWait ++ [e] } }
    | lanes =>
      let l := lanes.getD (d.hst.sent.length % lanes.length) 0
      let d := d.lineFill l 1
      { d with hst := { d.hst with sent := d.hst.sent ++ [TsuSent.frame l e.2] } }.countTx l 1)
    { d with chn := { d.chn with exitWait := [] } }

/-- A SPILL cell for this module leaves through its exit group; beyond 64 frames that wait it is dropped (R467). -/
def Dev.spillExit (k : Nat) (c : ChainCell) (d : Dev) : Dev :=
  let f : TsuFrame := { kind := 1, first := c.flags.testBit 7, last := c.flags.testBit 6, queue := c.id, len := c.len, seq := c.seq, data := c.data }
  if 64 ≤ d.chn.exitWait.length then (d.incSat (Fld.CHN_CNT.DROP k)).raise 455
  else { d with chn := { d.chn with exitWait := d.chn.exitWait ++ [(c.flags % 16, f)] } }.exitSend

/-- A cell arrives on link k. A cell for another position is relayed; without a valid position nothing is (R456). -/
def Dev.chainCell (k : Nat) (valid : Bool) (d : Dev) (c : ChainCell) : Dev :=
  let mine := d.posValid && c.dst == d.chainPos
  match c.kind with
  | 1 => { d with chn := { d.chn with oduRx := Sparse.insert c.id (c.flags.testBit 7, c.data) d.chn.oduRx } }
  | 2 =>
    let l := transOf c.data
    if mine then { d with chn := { d.chn with
        ctrlIn := d.chn.ctrlIn ++ l.filter (fun x => x.op == 1 || x.op == 2),
        done := d.chn.done ++ l.filter (fun x => x.op == 3 || x.op == 4) } }
    else if d.posValid then { d with chn := { d.chn with ctrlOut := d.chn.ctrlOut ++ l.map (fun x => (c.dst, x)) } }
    else d
  | 3 =>
    if mine then d.spillExit k c
    else if d.posValid then { d with chn := { d.chn with relayed := d.chn.relayed ++ [c] } }
    else d
  | 4 => if c.len = 32 then d.chainHello k valid c.data else d
  | 5 => (d.setHb (.link (if k = 0 then 0 else 1)) true).classLine
  | _ => d

/-- A frame arrives on link k (R453): one with a bad CRC is discarded and counted. -/
def Dev.linkFrameRx (k : Nat) (x : List Byte) (d : Dev) : Dev :=
  if (d.linkLanes k).isEmpty then d
  else if x.length ≠ 1088 ∨ (crc32c (x.take 1084)).toNat ≠ beAt x 1084 4 then (d.incSat (Fld.CHN_CNT.CRC k)).raise 456
  else if beAt x 0 2 ≠ 0x4C93 then d
  else
    let t := beAt x 12 6 * tcSecond + beAt x 8 4 * tcNs
    let valid := (beAt x 2 1).testBit 2
    let d := d.setLink k { d.link k with offset := ((d.tc : Int) - t) * 1000 / (2 ^ 40 : Nat) }
    let d := d.chainResync k (beAt x 3 1)
    let d := ((List.range 4).filterMap (fun i => chainEventOf (beAt x (20 + 4 * i) 4) t)).foldl (Dev.chainRecord k) d
    let cells := [chainCellOf (sliceBytes x 36 12) (sliceBytes x 60 512), chainCellOf (sliceBytes x 48 12) (sliceBytes x 572 512)]
    (cells.foldl (Dev.chainCell k valid) d).exitSend

/-- No valid HELLO for 4 ms on link k (R457). -/
def Dev.linkHelloTimeout (k : Nat) (d : Dev) : Dev := (d.put (Fld.CHN_LINK_STATUS.NB_VALID k) 0).linksCheck

/-- What CHN.ODU_RX gives of flow f: the last cell received, or ODU-AIS while its link is not in RUN (R465). -/
def Dev.oduFromLink (d : Dev) (f : Nat) : Option (Bool × List Byte) :=
  if d.linkRun (d.get (Fld.CHN_ODU_ROUTE.LINK f)) then (d.chn.oduRx.find? (fun e => e.1 == f)).map (·.2) else none

/-- The cause of a position error has been absent for 4 ms (R456). -/
def Dev.chnErrorClear (e : ChainError) (d : Dev) : Dev :=
  (match e with
   | .headConflict => d.put Fld.CHN_STATUS.HEAD_CONFLICT 0
   | .cable => d.put Fld.CHN_STATUS.CABLE_ERR 0
   | .size => d.put Fld.CHN_STATUS.SIZE_ERR 0).linksCheck

/-! ### Chain events at their instant (R461, R462) -/

/-- The remote event with the earliest instant. -/
def Dev.nextChainWait (d : Dev) : Option ChainWait :=
  match d.chn.waiting with
  | [] => none
  | w :: r => some (r.foldl (fun a b => if b.time < a.time then b else a) w)

/-- The earliest remote event that waits acts. -/
def Dev.chainEdgeApply (d : Dev) : Dev :=
  match d.nextChainWait with
  | none => d
  | some w => { d with chn := { d.chn with waiting := removeFirst w d.chn.waiting } }.chainAct w

/-- A chain SYNC record originates (R462): from an accepted SYNC_IN with ORIG = 1, or from SYNC_GO with ORIG = 2. It acts here, too,
CHN_DLY after its origin instant; it is sent from a valid position (R460). -/
def Dev.chainSyncOriginate (sw : Option Requester) (d : Dev) : Dev :=
  let go := match sw with
    | some req => d.mayWrite req 14 && d.get Fld.CHN_CTL.ORIG == 2
    | none => d.get Fld.CHN_CTL.ORIG == 1 && d.tim.syncIn.level
  if !go then d else
    let origin := match sw with
      | some _ => d.tc
      | none => (d.get Fld.TIM_SYNC_TS_MID1.SEC + d.get Fld.TIM_SYNC_TS_HI.SEC * 2 ^ 32) * tcSecond + d.get Fld.TIM_SYNC_TS_MID0.NS * tcNs +
          d.get Fld.TIM_SYNC_TS_LO.FRAC * 2 ^ 24
    let d := if d.posValid then { d with chainOut := d.chainOut ++ [(8, true, origin)] } else d
    let e : ChainEvent := { line := 8, rise := true, orig := d.chainPos, seq := 0, origin := origin }
    { d with chn := { d.chn with waiting := d.chn.waiting ++ [{ event := e, time := d.chainInstant origin, link := none }] } }

/-! ### Time (R458) -/

/-- θ in ps: the upstream neighbour's time minus this module's, with the link delay removed; a half ps is dropped. -/
def Dev.theta (d : Dev) (k : Nat) : Int :=
  ((d.link k).offset - (d.link k).meas) / 2 - toSigned 32 (d.reg Reg.CHN_ASYM).toNat

/-- A following module aligns its counter to its upstream neighbour: a step above 1 µs, else a pull. -/
def Dev.timeAlign (d : Dev) : Dev :=
  match d.following with
  | none => d
  | some k =>
    if !d.linkRun k then d else
      let th := d.theta k
      let d := d.setReg Reg.CHN_TOFF (BitVec.ofNat 32 (ofSigned 32 (clampInt (-(2 ^ 31 : Nat)) ((2 ^ 31 : Nat) - 1) th)))
      let units := th * (2 ^ 40 : Nat) / 1000
      let late := decide (112 * 10 ^ 8 ≤ d.ticks - (d.link k).runSince)
      let d := if 1000000 < th.natAbs then d.tcWrite ((d.tc : Int) + units) else { d with tim := { d.tim with pull := units } }.pullCause
      d.causeIs 457 (late && decide (50000 < 28 * th.natAbs))

/-! ### Forwarded control (R464) -/

/-- A transaction of a requester ends: DONE, STATUS and, for a read, DATA. -/
def Dev.fwdEnd (d : Dev) (r st : Nat) (data : Option Word) : Dev :=
  let d := { d with chn := { d.chn with pendingTag := d.chn.pendingTag.filter (fun e => e.1 != r) } }
  let d := match data with | some v => d.setReg (Reg.CHN_FWD_DATA r) v | none => d
  (((d.put (Fld.CHN_FWD_CTL.GO r) 0).put (Fld.CHN_FWD_CTL.DONE r) 1).put (Fld.CHN_FWD_CTL.STATUS r) st).setInt intCHN 2

/-- GO sends one transaction to position DST; while one is outstanding it is ignored. WRITE is written with it. -/
def Dev.fwdGo (r : Nat) (write : Bool) (d : Dev) : Dev :=
  if d.chn.pendingTag.any (fun e => e.1 == r) then d else
    let d := (d.put (Fld.CHN_FWD_CTL.WRITE r) (bit write)).put (Fld.CHN_FWD_CTL.STATUS r) 0
    let dst := d.get (Fld.CHN_FWD_ADDR.DST r)
    if (d.routeTo 1 dst).isNone then d.fwdEnd r 1 none else
      let x : CtrlTrans := { op := if write then 2 else 1, req := r, tag := d.chn.tag, addr := d.get (Fld.CHN_FWD_ADDR.ADDR r),
                             data := d.reg (Reg.CHN_FWD_DATA r) }
      { d with chn := { d.chn with
          ctrlOut := d.chn.ctrlOut ++ [(dst, x)], tag := (d.chn.tag + 1) % 65536,
          pendingTag := Sparse.insert r x.tag d.chn.pendingTag } }.put (Fld.CHN_FWD_CTL.GO r) 1

/-- The oldest completion received ends its transaction; one of no outstanding transaction is dropped. -/
def Dev.fwdComplete (d : Dev) : Dev :=
  match d.chn.done with
  | [] => d
  | x :: rest =>
    let d := { d with chn := { d.chn with done := rest } }
    if (d.chn.pendingTag.any (fun e => e.1 == x.req && e.2 == x.tag)) then
      d.fwdEnd x.req x.status (if x.op = 3 then some x.data else none)
    else d

/-- No completion within 100 µs. -/
def Dev.fwdTimeout (r : Nat) (d : Dev) : Dev :=
  if d.chn.pendingTag.any (fun e => e.1 == r) then (d.fwdEnd r 2 none).raise 454 else d

/-! ### Meanings -/

/-- LINK_FRAME_TX (R455). -/
def execLinkFrameTx (k : Fin 2) (odu : List OduCell) := runBlock 14 (Dev.linkFrameTx k.val odu)
/-- LINK_FRAME_RX (R453). -/
def execLinkFrameRx (k : Fin 2) (bytes : List Byte) := runBlock 14 (Dev.linkFrameRx k.val bytes)
/-- HORUG_HELLO_TX (R455). -/
def execHorugHelloTx := runBlock 14 Dev.helloDue
/-- LINK_HELLO_TIMEOUT (R457). -/
def execLinkHelloTimeout (k : Fin 2) := runBlock 14 (Dev.linkHelloTimeout k.val)
/-- CHN_ERROR_CLEAR (R456). -/
def execChnErrorClear (e : ChainError) := runBlock 14 (Dev.chnErrorClear e)
/-- TIME_ALIGN (R458). -/
def execTimeAlign := runBlock 14 Dev.timeAlign
/-- CHAIN_EDGE_APPLY (R461). -/
def execChainEdgeApply := runBlock 14 Dev.chainEdgeApply
/-- CHAIN_SYNC_ORIGINATE (R462). -/
def execChainSyncOriginate (sw : Option Requester) := runBlock 14 (Dev.chainSyncOriginate sw)
/-- FWD_GO (R464). -/
def execFwdGo (req : Requester) (write : Bool) := runWrite req 14 (Dev.fwdGo req.code write)
/-- FWD_COMPLETE (R464). -/
def execFwdComplete := runBlock 14 Dev.fwdComplete
/-- FWD_TIMEOUT (R464). -/
def execFwdTimeout (req : Requester) := runBlock 14 (Dev.fwdTimeout req.code)

end Sys2Proof.Machine
end

