-- ==== Sys2Proof/Machine/Tightrope.lean ====
section
/-! DEFINITION. Tightrope: what it measures, adaptation to the channel, shedding and restoring, the decision log
(18_power_and_housekeeping.md). Port x is A (0) or B (1). -/

namespace Sys2Proof.Machine

/-! ### The decision log (R534) -/

/-- A log entry (Table 5). -/
def Dev.logEntry (d : Dev) (action arg : Nat) : List Byte :=
  leBytes 4 (tNs d.tc) ++ leBytes 6 (tSec d.tc) ++ leBytes 2 action ++ leBytes 4 arg ++ leBytes 2 (d.get Fld.PWR_PIN.P) ++
    leBytes 2 (d.get Fld.PWR_TJ.TJ) ++ leBytes 1 (d.get Fld.PWR_STATUS.STEP) ++ List.replicate 11 0

/-- An action is logged: a POWER tap entry, and with LOG_EN = 1 an entry of the TYPE 6 queue, which counts as dropped where the
queue cannot take it. -/
def State.logAction (action arg : Nat) (s : State) : State :=
  let d := s.dev.tapEvent (0x7000 + action) arg
  if !d.isSet Fld.PWR_LOG_CTL.LOG_EN then { s with dev := d } else
    let q := d.get Fld.PWR_LOG_CTL.LOG_QUEUE
    let o := d.offer q 32 false false
    if d.qType q = 6 ∧ !d.inReset 9 ∧ o.taken = 32 then
      (State.qStore q o.pos (d.logEntry action arg) { s with dev := o.dev.incSat Fld.PWR_LOG_CNT.ENTRIES }).settle
    else { s with dev := d.incSat Fld.PWR_LOG_CNT.DROP }

/-! ### Causes and the status register -/

/-- The step of a decision (Table 4). -/
def ShedStep.num : ShedStep → Nat
  | .gate _ => 1
  | .capture _ => 2
  | .taps => 3
  | .iter => 4
  | .port _ => 5

/-- Whether step 3 (R528). -/
def Dev.tapsShed (d : Dev) : Bool := d.pwr.steps.any (fun a => a == .taps)
/-- Whether step 4. -/
def Dev.iterShed (d : Dev) : Bool := d.pwr.steps.any (fun a => a == .iter)

/-- Tj in 0.1 °C. -/
def Dev.tj (d : Dev) : Int := d.getInt Fld.PWR_TJ.TJ

/-- ALERT_N is driven low (R527): Tj at ALERT_T, THROTTLE, INPUT_LIMIT, or traffic shed. -/
def Dev.alertSync (d : Dev) : Dev :=
  d.put Fld.PWR_STATUS.ALERT (bit (decide (((d.get Fld.PWR_THERM.ALERT_T * 10 : Nat) : Int) ≤ d.tj) ||
    d.isSet Fld.PWR_STATUS.THROTTLE || d.isSet Fld.PWR_STATUS.INPUT_LIMIT || d.get Fld.PWR_STATUS.SHED_PORTS != 0))

/-- Replace the decisions in force: STEP, SHED_PORTS with the cause of PWR.02, and STEP_CHG where one changes. -/
def Dev.setSteps (d : Dev) (l : List ShedStep) : Dev :=
  let step := l.foldl (fun n a => max n a.num) 0
  let ports := (if l.any (fun a => a == .port 0) then 1 else 0) + (if l.any (fun a => a == .port 1) then 2 else 0)
  let same := d.get Fld.PWR_STATUS.STEP == step && d.get Fld.PWR_STATUS.SHED_PORTS == ports
  let d : Dev := { d with pwr := { d.pwr with steps := l } }
  let d := (d.put Fld.PWR_STATUS.STEP step).put Fld.PWR_STATUS.SHED_PORTS ports
  let d := d.causeIs 546 (ports != 0)
  if same then d else d.setInt intPWR 0

/-! ### Adaptation to the channel (R528, R529) -/

/-- The smallest tap count, coded 0 to 3 for 15 to 63, whose DGD tolerance is at least num/den of the measured DGD (R128,
R528). -/
def Dev.tapsFor (d : Dev) (x num den : Nat) : Nat :=
  ((List.range 4).find? (fun k =>
    decide (num * d.get (Fld.LNx_MON_PMD.DGD x) * d.symbolRate x ≤ (12 + 16 * k) * 268800000000 * 10 * den))).getD 3

/-- Pre-FEC thresholds in 1/1000 by iteration count (Table 4 of 05_shaping_and_fec.md). -/
def iterThresholds : List (Nat × Nat) := [(4, 15), (6, 19), (8, 22), (10, 24), (12, 25)]

/-- The smallest iteration count whose threshold is at least num/den of the measured error rate (R528). -/
def Dev.iterFor (d : Dev) (x num den : Nat) : Nat :=
  ((iterThresholds.find? (fun e => decide (num * d.get (Fld.FEC_x_MON_CORR.CORR x) * 1000 ≤
    e.2 * d.get (Fld.FEC_x_MON_CW.CW x) * 9216 * den))).map (·.1)).getD 12

/-- TAPS_ACT of port x is re-evaluated; without adaptation only a shed step limits it (R529). -/
def Dev.adaptTaps (d : Dev) (x : Nat) : Dev :=
  if d.rxState x ≠ 8 then d else
    let cap := if d.tapsShed then d.tapsFor x 5 4 else if d.pwr.adaptEn then d.tapsFor x 2 1 else 3
    d.setLn x { d.ln x with tapsCap := cap }

/-- ITER_ACT of port x is re-evaluated, unless an uncorrected interval holds it at ITER_MAX (R529). An interval without a codeword has
no error rate: the count is then a free value. -/
def Dev.adaptIter (d : Dev) (x : Nat) : Dev :=
  if d.rxState x ≠ 8 ∨ d.ticks < Sparse.get 0 d.pwr.iterHold x then d
  else if !d.iterShed && !d.pwr.adaptEn then d.setFec x { d.fecOf x with iterCap := 12 }
  else if d.get (Fld.FEC_x_MON_CW.CW x) = 0 then
    let (k, d) := d.draw 5
    d.setFec x { d.fecOf x with iterCap := 4 + 2 * k }
  else d.setFec x { d.fecOf x with iterCap := if d.iterShed then d.iterFor x 5 4 else d.iterFor x 2 1 }

/-- A monitor update of port x in TRACK (R141, R172, R528, R529). -/
def Dev.monUpdate (x : Nat) (m : LineMeas) (d : Dev) : Dev :=
  if d.rxState x ≠ 8 then d else
    let d := d.dspMonitors x m
    let d := if d.inReset 4 then d else d.fecMonitors x
    let d := if d.get (Fld.FEC_x_MON_UNCORR.UNCORR x) = 0 then d else
      ({ d with pwr := { d.pwr with iterHold := Sparse.insert x (d.ticks + secondTicks) d.pwr.iterHold } } : Dev).setFec x
        { d.fecOf x with iterCap := 12 }
    (d.adaptTaps x).adaptIter x

/-- Log entries for what TAPS_ACT and ITER_ACT of port x changed from d0 (R534). -/
def State.logAdapt (d0 : Dev) (x : Nat) (s : State) : State :=
  let shed (b : Bool) : Nat := if b then 2 ^ 31 else 0
  let t := s.dev.get (Fld.LNx_MIMO_STATUS.TAPS_ACT x)
  let s := if d0.get (Fld.LNx_MIMO_STATUS.TAPS_ACT x) = t then s
    else s.logAction 3 (shed s.dev.tapsShed + 65536 * x + 15 + 16 * t)
  let i := s.dev.get (Fld.FEC_x_DEC_STATUS.ITER_ACT x)
  if d0.get (Fld.FEC_x_DEC_STATUS.ITER_ACT x) = i then s else s.logAction 4 (shed s.dev.iterShed + 65536 * x + i)

/-! ### Measurements (R521, R523, R526) -/

/-- Whether Tightrope throttles at Tj: from THROTTLE_T on, until Tj is more than 3 °C below it (R526). -/
def Dev.throttles (d : Dev) (tj : Int) : Bool :=
  decide (((d.pwr.throttleT * 10 : Nat) : Int) ≤ tj) ||
    (d.isSet Fld.PWR_STATUS.THROTTLE && decide (((d.pwr.throttleT * 10 : Nat) : Int) - 30 ≤ tj))

/-- Readings of the 32 sensors, the first of them the lowest-numbered; a sensor that the list does not reach keeps its
reading. -/
def Dev.putTemps (d : Dev) (temps : List (BitVec 16)) : Dev :=
  Dev.forUpTo 32 (fun d i => match temps[i]? with | some v => d.put (Fld.PWR_TEMP.T i) v.toNat | none => d) d

/-- The highest reading and its sensor; which of several equally hot sensors is named is a free value. -/
def Dev.hottest (d : Dev) : Int × Nat × Dev :=
  let t (i : Nat) : Int := d.getInt (Fld.PWR_TEMP.T i)
  let top := (List.range 31).foldl (fun m i => max m (t (i + 1))) (t 0)
  match (List.range 32).filter (fun i => t i == top) with
  | [i] => (top, i, d)
  | l => let (k, d) := d.draw l.length; (top, l.getD k 0, d)

/-- A temperature sample with the chip running: the sensors, Tj, throttle, alert, CAL_LAG of both ports; room to restore ends where
Tj is too high (R530). -/
def State.tempSample (temps : List (BitVec 16)) (s : State) : State :=
  let (top, i, d) := (s.dev.putTemps temps).hottest
  let d := (d.put Fld.PWR_TJ.TJ (ofSigned 16 top)).put Fld.PWR_TJ.SENSOR i
  let d : Dev := { d with hk := { d.hk with tj := top, sensor := i } }
  let was := d.isSet Fld.PWR_STATUS.THROTTLE
  let now := d.throttles top
  let d := ((d.put Fld.PWR_STATUS.THROTTLE (bit now)).causeIs 544 now).alertSync
  let d := if top ≤ ((d.pwr.throttleT * 10 : Nat) : Int) - 30 then d else { d with pwr := { d.pwr with room := 0 } }
  let d := (d.lagCheck 0).lagCheck 1
  let s : State := { s with dev := if was = now then d else d.setInt intPWR 1 }
  if was = now then s else s.logAction (if now then 7 else 8) (65536 * i + ofSigned 16 top)

/-- A temperature sample while a thermal trip holds the chip: the housekeeping domain alone. -/
def Dev.tempHold (temps : List (BitVec 16)) (d : Dev) : Dev :=
  let (top, i, d') := (d.putTemps temps).hottest
  { d with hk := { d.hk with tj := top, sensor := i, cool := if top < 900 then d.hk.cool + 1 else 0 }, fresh := d'.fresh }

/-- A power sample (R521, R523): VIN in 10 mV, input current in mA, current and power of the domains in the layout of PWR_DOM, whether
the current limit acts. The input's power, domain 0, enters the average of the period. -/
def Dev.powerSample (vin iin : BitVec 16) (doms : List (BitVec 32)) (limited : Bool) (d : Dev) : Dev :=
  let d : Dev := { d with hk := { d.hk with vin := vin.toNat, iin := iin.toNat },
                          pwr := { d.pwr with sum := d.pwr.sum + (doms.getD 0 0).toNat % 65536,
                                              samples := d.pwr.samples + min 1 doms.length, limited := d.pwr.limited || limited } }
  if d.thermHold then d else
    let d := (d.put Fld.PWR_IN.VIN vin.toNat).put Fld.PWR_IN.IIN iin.toNat
    let d := Dev.forUpTo 12 (fun d i => match doms[i]? with | some v => d.setReg (Reg.PWR_DOM i) v | none => d) d
    d.causeIs 547 (decide (vin.toNat < 900) || decide (6000 < vin.toNat))

/-! ### Shedding and restoring (R530 to R533) -/

/-- The clusters that are idle (R331). -/
def Dev.idleClusters (d : Dev) : BitVec 8 :=
  BitVec.ofNat 8 (((List.range 8).filter (fun k =>
    (List.range 8).all (fun i => d.engState (8 * k + i) != 2 && d.engState (8 * k + i) != 3))).foldl (fun m k => m + 2 ^ k) 0)

/-- The kind 2 reservation in Gbit/s. -/
def Dev.kind2Load (d : Dev) : Nat := (d.hbmClaims.filter (fun c => c.kind == 2)).foldl (fun n c => n + c.load) 0

/-- RMS_TR_CAP takes a value, and the HBM is regranted (R308). -/
def Dev.setTrCap (d : Dev) (v : Nat) : Dev := (d.put Fld.RMS_TR_CAP.CAP v).regrantHbm

/-- A port's halves are gated or take part again (R531): the receive state follows, and a DSP_MODE written meanwhile takes
effect. -/
def Dev.portGated (d : Dev) (x : Nat) : Dev :=
  if d.portShed x then d.rxCheck x
  else (d.dspApply x (d.copyShadow (fun a => a == Reg.LNx_DSP_MODE x))).rxCheck x

/-- Take the next step of Table 4 that has something left to give; none: CAP_EXCEED where a setting forbids the rest (R532). A step
that lowers margins gives once (DEDUCED, notes/assumptions/29.md). -/
def State.shedNext (s : State) : State :=
  let d := s.dev
  let idle := d.idleClusters &&& ~~~d.gated
  let push (a : ShedStep) (d : Dev) : Dev := (d.setSteps (a :: d.pwr.steps)).raise 545
  let cap := d.get Fld.RMS_TR_CAP.CAP
  let load := d.kind2Load
  let first := if d.pwr.aFirst then 0 else 1
  let exceed := s.logAction 9 (d.get Fld.PWR_PIN.P)
  if !d.pwr.shedEn then exceed
  else if idle ≠ 0 then
    let d' : Dev := { d with gated := d.gated ||| idle }
    ({ s with dev := push (.gate d.gated) d' } : State).logAction 0 (d.gated ||| idle).toNat
  else if load ≠ 0 ∧ cap ≠ 0 then
    let new := min cap load - (load + 3) / 4
    ({ s with dev := (push (.capture cap) d).setTrCap new } : State).logAction 2 new
  else if !d.tapsShed then
    { s with dev := ((push .taps d).adaptTaps 0).adaptTaps 1 }
  else if !d.iterShed then
    { s with dev := ((push .iter d).adaptIter 0).adaptIter 1 }
  else if d.pwr.trafficEn then
    match [first, 1 - first].find? (fun x => !d.portShed x) with
    | some x => ({ s with dev := (d.setSteps (.port x :: d.pwr.steps)).portGated x } : State).logAction 5 x
    | none => s
  else exceed

/-- Undo the most recent decision. -/
def State.shedUndo (s : State) : State :=
  let d := s.dev
  match d.pwr.steps with
  | [] => s
  | a :: r =>
    let d := d.setSteps r
    match a with
    | .gate before =>
      let g := d.gated &&& before
      ({ s with dev := { d with gated := g } } : State).logAction 1 g.toNat
    | .capture before => ({ s with dev := d.setTrCap before } : State).logAction 2 before
    | .taps => { s with dev := (d.adaptTaps 0).adaptTaps 1 }
    | .iter => { s with dev := (d.adaptIter 0).adaptIter 1 }
    | .port x => ({ s with dev := d.portGated x } : State).logAction 6 x

/-- The average input power of the period in 10 mW, as a sum and a count; a period without a sample has none. -/
def Dev.endPeriod (d : Dev) : Dev :=
  let p := if d.pwr.samples = 0 then d.hk.power else d.pwr.sum / (10 * d.pwr.samples)
  { d with hk := { d.hk with power := p } }

/-- The settings in use from this decision on (R533). -/
def Dev.takeSettings (d : Dev) : Dev :=
  { d with pwr := { d.pwr with
      cap := d.get Fld.PWR_CAP.WATTS, throttleT := d.get Fld.PWR_THERM.THROTTLE_T,
      adaptEn := d.isSet Fld.PWR_TR_CTL.ADAPT_EN, shedEn := d.isSet Fld.PWR_TR_CTL.SHED_EN,
      trafficEn := d.isSet Fld.PWR_TR_CTL.TRAFFIC_EN, aFirst := d.isSet Fld.PWR_TR_CTL.TRAFFIC_ORDER } }

/-- A decision (R530). The compared power is exact; PWR_PIN shows it in 0.1 W, its fraction dropped. -/
def State.decision (s : State) : State :=
  let d := s.dev.endPeriod.takeSettings
  let n := d.pwr.samples
  let d := if n = 0 then d else
    let p := min 4095 d.hk.power
    (d.put Fld.PWR_PIN.P p).put Fld.PWR_PIN.PMAX (max p (d.get Fld.PWR_PIN.PMAX))
  let above := decide (d.pwr.cap * 100 * n < d.pwr.sum)
  let limit := above || d.pwr.limited
  let t := ((d.pwr.throttleT * 10 : Nat) : Int) - 30
  let roomy := n != 0 && decide (d.pwr.sum + 500 * n ≤ d.pwr.cap * 100 * n) && decide (d.tj ≤ t)
  let d := (d.put Fld.PWR_STATUS.INPUT_LIMIT (bit limit)).causeIs 548 limit
  let d : Dev := { d with pwr := { d.pwr with sum := 0, samples := 0, limited := false } }
  let run := if roomy then d.pwr.room + 1 else 0
  let s : State := { s with dev := d }
  let room (r : Nat) (s : State) : State := { s with dev := { s.dev with pwr := { s.dev.pwr with room := r } } }
  let s := if above || d.isSet Fld.PWR_STATUS.THROTTLE then room 0 s.shedNext
    else if 100 ≤ run then room 0 s.shedUndo
    else room run s
  { s with dev := s.dev.alertSync }

/-- The end of a period while a thermal trip holds the chip: the housekeeping domain alone. -/
def Dev.periodHold (d : Dev) : Dev :=
  let d := d.endPeriod
  { d with pwr := { d.pwr with sum := 0, samples := 0, limited := false } }

/-! ### Meanings -/

/-- MON_UPDATE (R141). -/
def execMonUpdate (x : Port) (m : LineMeas) := runBlock (2 + x.val) (Dev.monUpdate x.val m)
/-- TEMP_SAMPLE (R523). -/
def execTempSample (temps : List (BitVec 16)) (s : State) : Host.Outcome State Fault Refusal :=
  .next (if !s.dev.powered then s
    else if s.dev.thermHold then { s with dev := s.dev.tempHold temps } else s.tempSample temps)
/-- POWER_SAMPLE (R523). -/
def execPowerSample (vin iin : BitVec 16) (doms : List (BitVec 32)) (limited : Bool) (s : State) : Host.Outcome State Fault Refusal :=
  .next (if s.dev.powered then { s with dev := s.dev.powerSample vin iin doms limited } else s)
/-- RAIL_FAULT (R524): a rail has stayed outside its tolerance for more than 10 µs, or every rail is back within it. -/
def execRailFault (out : Bool) := runDev (fun d => d.causeIs 549 out)
/-- TIGHTROPE_DECISION (R530). -/
def execTightropeDecision (s : State) : Host.Outcome State Fault Refusal :=
  .next (if !s.dev.powered then s
    else if s.dev.thermHold then { s with dev := s.dev.periodHold } else s.decision)

end Sys2Proof.Machine
end

