-- ==== Sys2Proof/Machine/Housekeeping.lean ====
section
/-! DEFINITION. The housekeeping ADC (R535 to R538) and the I2C status target (R548, R549). -/

namespace Sys2Proof.Machine

/-! ### The housekeeping ADC -/

/-- Whether a conversion or a calibration runs. -/
def Dev.hkBusy (d : Dev) : Bool := d.isSet Fld.PWR_HK_CTL.CONV_BUSY || d.isSet Fld.PWR_HK_CTL.CAL_BUSY

/-- A conversion of a channel starts. -/
def Dev.hkConvert (d : Dev) (ch : Nat) : Dev :=
  let d : Dev := { d with pwr := { d.pwr with conv := some ch, next := none } }
  ((d.put Fld.PWR_HK_CTL.CONV_BUSY 1).put Fld.PWR_HK_CTL.START 0).put Fld.PWR_HK_CTL.PEND 0

/-- A calibration starts: PWR_HK_DATA goes STALE (R537). -/
def Dev.hkCalibrate (d : Dev) : Dev :=
  ((d.put Fld.PWR_HK_CTL.CAL_BUSY 1).put Fld.PWR_HK_CTL.CAL_NOW 0).put Fld.PWR_HK_DATA.STALE 1

/-- Work that waits begins when the running work ends (R535): the pending START before a CAL_NOW that waits (DEDUCED,
notes/assumptions/30.md). -/
def Dev.hkNext (d : Dev) : Dev :=
  match d.pwr.next with
  | some ch => d.hkConvert ch
  | none => if d.isSet Fld.PWR_HK_CTL.CAL_NOW then d.hkCalibrate else d

/-- A START: at once, or as the pending START, which replaces an earlier one (R535). -/
def Dev.hkStart (ch : Nat) (d : Dev) : Dev :=
  let d := d.put Fld.PWR_HK_CTL.CH ch
  if d.hkBusy then
    (({ d with pwr := { d.pwr with next := some ch } } : Dev).put Fld.PWR_HK_CTL.START 1).put Fld.PWR_HK_CTL.PEND 1
  else d.hkConvert ch

/-- A conversion ends with an input of value LSBs of its channel (R535, R536). -/
def Dev.hkConversionDone (value : Int) (d : Dev) : Dev :=
  match d.pwr.conv with
  | none => d
  | some ch =>
    let range := decide (value ≤ 0) || decide (4095 ≤ value)
    let d := d.put Fld.PWR_HK_DATA.OVR (d.get Fld.PWR_HK_DATA.VALID)
    let d := ((d.put Fld.PWR_HK_DATA.VALID 1).put Fld.PWR_HK_DATA.STALE 0).put Fld.PWR_HK_DATA.RANGE (bit range)
    let d := (d.put Fld.PWR_HK_DATA.SETTLE (bit d.pwr.settle)).put Fld.PWR_HK_DATA.CH ch
    let d := d.put Fld.PWR_HK_DATA.CODE (clampInt 0 4095 value).toNat
    let d : Dev := { d with pwr := { d.pwr with conv := none, settle := range } }
    let d := (d.put Fld.PWR_HK_CTL.CONV_BUSY 0).setInt intPWR 2
    (if range then d.raise 550 else d).hkNext

/-- A read of PWR_HK_DATA clears VALID and OVR (R535). -/
def Dev.hkDataClear (d : Dev) : Dev := (d.put Fld.PWR_HK_DATA.VALID 0).put Fld.PWR_HK_DATA.OVR 0

/-- CAL_NOW: during a calibration it has no effect, during a conversion it waits (R537). -/
def Dev.hkCalNow (d : Dev) : Dev :=
  if d.isSet Fld.PWR_HK_CTL.CAL_BUSY then d
  else if d.isSet Fld.PWR_HK_CTL.CONV_BUSY then d.put Fld.PWR_HK_CTL.CAL_NOW 1
  else d.hkCalibrate

/-- A calibration ends: its count and time (R538). The one that follows PWRGOOD needs no CAL_NOW (R537). -/
def Dev.hkCalDone (d : Dev) : Dev :=
  let d := if d.pwr.calDue && !d.hkBusy then d.hkCalibrate else d
  if !d.isSet Fld.PWR_HK_CTL.CAL_BUSY then d else
    let d : Dev := { d with pwr := { d.pwr with calDue := false } }
    let d := ((d.put Fld.PWR_HK_CTL.CAL_BUSY 0).incWide Reg.PWR_HK_CAL_CNT_LO 48 1).stampSeconds Reg.PWR_HK_CAL_SEC_LO
    (d.setInt intPWR 3).hkNext

/-! ### The I2C status target -/

/-- Whether any source with ERR has STICKY = 1: ERR_N is driven low (Table 1 of 17_fault_handling.md). -/
def Dev.errN (d : Dev) : Bool := (List.range 576).any (fun f => d.isSet (Fld.FLT_SRC.STICKY f) && d.isSet (Fld.FLT_SRC.ERR f))

/-- Byte 3 of the status block (Table 7 of 19_pins_package_electrical.md). -/
def Dev.statusFlags (d : Dev) : Nat :=
  let b (i : Nat) (v : Bool) : Nat := if v then 2 ^ i else 0
  b 0 d.powered + b 1 d.thermHold + b 2 (d.thermHold || d.isSet Fld.PWR_STATUS.ALERT) + b 3 (!d.thermHold && d.errN) +
    (if d.thermHold then 0 else b 4 (2 ≤ d.stage) + b 5 (d.isSet Fld.PWR_STATUS.THROTTLE) +
      b 6 (d.isSet Fld.PWR_STATUS.INPUT_LIMIT) + b 7 (d.get Fld.PWR_STATUS.SHED_PORTS != 0))

/-- The status block (Table 7): the bytes of the die rails read 0 while a thermal trip holds the chip. -/
def Dev.statusBlock (d : Dev) : List Byte :=
  let die (l : List Byte) : List Byte := if d.thermHold then l.map (fun _ => 0) else l
  leBytes 2 0x6432 ++ [0xB0, BitVec.ofNat 8 d.statusFlags] ++ die (leBytes 8 Config.dieId.toNat) ++
  leBytes 2 d.hk.vin ++ leBytes 2 d.hk.iin ++ leBytes 2 d.hk.power ++ leBytes 2 (ofSigned 16 d.hk.tj) ++ leBytes 1 d.hk.sensor ++
  die (leBytes 1 d.stage ++ leBytes 1 (d.get Fld.PWR_STATUS.STEP) ++ leBytes 1 (d.reg Reg.GLB_RESET_CAUSE).toNat ++
    leBytes 2 (d.get Fld.FLT_FIRST.ID + 32768 * d.get Fld.FLT_FIRST.FIRST_VALID) ++
    leBytes 2 (d.get Fld.FLT_RST_ID.ID + 32768 * d.get Fld.FLT_RST_ID.VALID) ++ leBytes 4 (tSec d.tc)) ++
  List.replicate 32 0

/-- Which bytes of a block come from the housekeeping domain (R549). -/
def hkByte (i : Nat) : Bool := decide (i < 4) || (decide (12 ≤ i) && decide (i ≤ 20))

/-- What a START takes a copy of: the block as last refreshed; while the die rails are off the other bytes, and bits 7 to 4 of byte 3,
read 0 (R549). -/
def Dev.servedBlock (d : Dev) : List Byte :=
  (List.range 64).map (fun i =>
    let v : Byte := d.i2c.block.getD i 0
    if !d.thermHold then v else if i = 3 then v &&& 0x0F else if hkByte i then v else 0)

/-- Whether the target answers an address: 0x48 and the strap (R548), with VIN valid. -/
def Dev.i2cAnswers (d : Dev) (addr : BitVec 7) : Bool := d.powered && addr == 0x48#7 + d.straps.i2cAddr.zeroExtend 7

/-- A write: the first byte sets the offset (R549). stop tells whether a STOP ends the transfer. -/
def Dev.i2cWrite (addr : BitVec 7) (bytes : List Byte) (stop : Bool) (d : Dev) : Dev :=
  if !d.i2cAnswers addr then d else
    let off := match bytes with | b :: _ => b.toNat % 64 | [] => d.i2c.offset
    { d with i2c := { d.i2c with copy := d.servedBlock, offset := off, active := !stop } }

/-- A read of n bytes from the offset, which stays where the read leaves it (DEDUCED, notes/assumptions/30.md). -/
def Dev.i2cRead (addr : BitVec 7) (n : Nat) (stop : Bool) (d : Dev) : Dev :=
  if !d.i2cAnswers addr then d else
    let c := d.servedBlock
    { d with i2c := { d.i2c with
        copy := c, out := (List.range n).map (fun i => c.getD ((d.i2c.offset + i) % 64) 0),
        offset := (d.i2c.offset + n) % 64, active := !stop } }

/-! ### Meanings -/

/-- HK_START (R535). -/
def execHkStart (req : Requester) (ch : BitVec 6) := runWrite req 17 (Dev.hkStart ch.toNat)
/-- HK_CONVERSION_DONE (R535). -/
def execHkConversionDone (value : Int) := runDev (Dev.hkConversionDone value)
/-- HK_CAL_NOW (R537). -/
def execHkCalNow (req : Requester) := runWrite req 17 Dev.hkCalNow
/-- HK_CAL_DONE (R537). -/
def execHkCalDone := runDev Dev.hkCalDone
/-- I2C_WRITE (R549). -/
def execI2cWrite (addr : BitVec 7) (bytes : List Byte) (stop : Bool) (s : State) : Host.Outcome State Fault Refusal :=
  .next { s with dev := s.dev.i2cWrite addr bytes stop }
/-- I2C_READ (R549). -/
def execI2cRead (addr : BitVec 7) (n : Nat) (stop : Bool) (s : State) : Host.Outcome State Fault Refusal :=
  .next { s with dev := s.dev.i2cRead addr n stop }
/-- I2C_REFRESH (R549). -/
def execI2cRefresh (s : State) : Host.Outcome State Fault Refusal :=
  .next (if s.dev.powered then { s with dev := { s.dev with i2c := { s.dev.i2c with block := s.dev.statusBlock } } } else s)
/-- I2C_TIMEOUT (R548): the target releases SDA and is idle. -/
def execI2cTimeout (s : State) : Host.Outcome State Fault Refusal :=
  .next (if s.dev.powered then { s with dev := { s.dev with i2c := { s.dev.i2c with active := false, copy := [] } } } else s)

end Sys2Proof.Machine
end

