-- ==== Sys2Proof/Machine/Players.lean ====
section
/-! DEFINITION. Block CAP: players and the segment table (R386 to R392), and the synchronising event (R445). -/

namespace Sys2Proof.Machine

/-! ### Segments (R387, R390) -/

/-- START of segment g, in bytes. -/
def Dev.segStart (d : Dev) (g : Nat) : Nat := d.get (Fld.CAP_SEG2.START g) * 2 ^ 32 + d.get (Fld.CAP_SEG1.START g)
/-- LEN of segment g. -/
def Dev.segLen (d : Dev) (g : Nat) : Nat := d.get (Fld.CAP_SEG3.LEN g)
/-- The buffer of segment g, where its source is one. -/
def Dev.segBuffer (d : Dev) (g : Nat) : Option Nat :=
  if d.get (Fld.CAP_SEG0.SRC g) = 0 then some (d.get (Fld.CAP_SEG0.BUF g) % 16) else none

/-- Bytes in a unit of an output kind (R387). -/
def playUnit (out : Nat) : Nat := if out = 2 then 15296 else 64

/-- The output rate of a binding in bit/s, where it can exceed what one bank reads (R390). -/
def Dev.playRate (d : Dev) (out inst : Nat) : Nat :=
  match out with
  | 2 => (match d.flowOf inst with
    | some w => if w.encrypt || w.isProtected then w.rate15184 / 15184 else oduRate w.ctype w.slots
    | none => 0)
  | 3 => 0
  | x => d.lnM x * 6720000000 * 32

/-- Whether player p may play segment g with an output kind and instance (R365, R390). -/
def Dev.segValid (d : Dev) (p g out inst : Nat) : Bool :=
  let fits (n : Nat) : Bool := decide (d.segStart g + d.segLen g ≤ n)
  decide (g < 1024) && decide (d.segStart g % 64 = 0) && decide (d.segLen g % playUnit out = 0) &&
    (match d.get (Fld.CAP_SEG0.SRC g) with
     | 0 =>
       let b := d.get (Fld.CAP_SEG0.BUF g) % 16
       d.bufUsable b && (d.bufOwner b == 0xFF || d.bufOwner b == 128 + p) && fits (d.bufCapacity b) &&
         decide (d.playRate out inst ≤ d.bufBanks b * 2 * 10 ^ 12)
     | 1 =>
       let q := d.get (Fld.CAP_SEG0.BUF g)
       d.qType q == 2 && fits (64 * d.qTail q)
     | _ => false)

/-! ### What a segment holds (R386, R387) -/

/-- The bytes of one pass of segment g: from a buffer's payload space or from the pages of a queue. -/
def State.segBytes (s : State) (g : Nat) : List Byte :=
  match s.dev.segBuffer g with
  | some b => s.bufRead b (64 + s.dev.segStart g) (s.dev.segLen g)
  | none => (List.range (s.dev.segLen g)).map (fun i =>
      match s.dev.qAddr (s.dev.get (Fld.CAP_SEG0.BUF g)) (s.dev.segStart g + i) with
      | some a => s.hbm.read a
      | none => 0)

/-- A client frame that a player sends, with the idle bytes it adds after it (Table 6, TSO). -/
structure PlayFrame where
  frame : List Byte
  idle : Nat
  deriving DecidableEq, Repr

/-- The frames of ETH entries, at most fuel of them: each entry is 8 bytes and its frame, padded to a multiple of 8. -/
def ethEntries : Nat → List Byte → List PlayFrame
  | 0, _ => []
  | n + 1, l =>
    let len := leAt l 0 2
    if l.length < 8 ∨ len = 0 then []
    else { frame := sliceBytes l 8 len, idle := leAt l 4 4 } :: ethEntries n (l.drop (8 + (len + 7) / 8 * 8))

/-- What stands on the client's line for a frame: preamble and start delimiter, the frame, and idle bytes: the inter-packet gap of 12 bytes of
IEEE 802.3 (PRESUMED, notes/assumptions/14.md) and the entry's TSO. -/
def PlayFrame.onLine (f : PlayFrame) : List Byte × Nat := (List.replicate 7 0x55 ++ [0xD5] ++ f.frame, 12 + f.idle)

/-- Instants of S8 content as DAC codes: bytes XI, XQ, YI, YQ of each. -/
def playCodes (l : List Byte) : List Sample4 :=
  (List.range (l.length / 4)).map (fun i =>
    let c (j : Nat) : Int := (l.getD (4 * i + j) 0).toInt
    { xi := c 0, xq := c 1, yi := c 2, yq := c 3 })

/-- What a player sends from a pass (R386), or in place of data that is not resident (R391). -/
inductive PlaySignal where
  /-- DAC codes. -/
  | wave (codes : List Sample4)
  /-- ODUflex frames of 15,296 bytes, row by row; the framer replaces the FA OH. -/
  | odu (frames : List (List Byte))
  /-- Frames of an Ethernet client. -/
  | frames (l : List PlayFrame)
  /-- Bytes of a CBR client as they stand. -/
  | cbr (bytes : List Byte)
  /-- The signal of Table 2 of 01_planes_and_datapath.md or ODU-AIS in place of the content. -/
  | instead (sig : Signal)
  /-- ODU-AIS (R391). -/
  | oduAis
  deriving DecidableEq, Repr

/-- The content of one pass of segment g at an output kind; eth tells whether the client of a CLIENT source is an Ethernet one. -/
def State.segSignal (s : State) (out g : Nat) (eth : Bool) : PlaySignal :=
  let l := s.segBytes g
  match out with
  | 2 => .odu ((List.range (l.length / 15296)).map (fun i => sliceBytes l (15296 * i) 15296))
  | 3 => if eth then .frames (ethEntries (l.length / 8) l) else .cbr l
  | _ => .wave (playCodes l)

/-- What a player sends for the time of data that is not resident (R391). -/
def underrunSignal (out ctype : Nat) : PlaySignal :=
  match out with
  | 2 => .oduAis
  | 3 => .instead (replacementOf ctype)
  | _ => .instead .codeZero

/-! ### Players -/

/-- State code of player p: 0 IDLE, 1 ARMED, 2 RUNNING. -/
def Dev.playState (d : Dev) (p : Nat) : Nat := d.get (Fld.CAP_PLY_STATUS.STATE p)
/-- OUT of player p. -/
def Dev.playOut (d : Dev) (p : Nat) : Nat := d.get (Fld.CAP_PLY_CTL.OUT p)
/-- INST of player p; a WAVE source has none. -/
def Dev.playInst (d : Dev) (p : Nat) : Nat := if d.playOut p < 2 then noInst else d.get (Fld.CAP_PLY_CTL.INST p)
/-- Segment of player p. -/
def Dev.playCur (d : Dev) (p : Nat) : Nat := d.get (Fld.CAP_PLY_STATUS.CUR p)

/-- Whether the active structure joins the source of player p's binding; while CAPTURE restructures its sources are absent (R81). -/
def Dev.playJoined (d : Dev) (p : Nat) : Bool :=
  d.regionRuns 6 && d.connections.any (fun c => decide (c.src = 0xB00 + d.playOut p) && decide (c.srcInst = d.playInst p))

/-- Whether another running player drives the source of player p's binding. -/
def Dev.playTaken (d : Dev) (p : Nat) : Bool :=
  (List.range 64).any (fun e => decide (e ≠ p) && decide (d.playState e = 2) && decide (d.playOut e = d.playOut p) &&
    decide (d.playInst e = d.playInst p))

/-- The buffers player p owns become free. -/
def Dev.playRelease (d : Dev) (p : Nat) : Dev := Dev.forUpTo 16 (fun d b => if d.bufOwner b = 128 + p then d.bufFree b else d) d

/-- Player p holds segment g: it owns its buffer. -/
def Dev.playHold (d : Dev) (p g : Nat) : Dev :=
  let d := d.playRelease p
  let d := match d.segBuffer g with | some b => d.put (Fld.CAP_SBUF_STATUS.OWNER b) (128 + p) | none => d
  (d.put (Fld.CAP_PLY_STATUS.CUR p) g).put (Fld.CAP_PLY_STATUS.QUEUED p) 0x7FF

/-- Player p begins a pass of its segment (R386). -/
def Dev.playPass (d : Dev) (p : Nat) : Dev :=
  { d with cap := { d.cap with played := d.cap.played ++
    [{ player := p, out := d.playOut p, inst := d.playInst p, seg := d.playCur p }] } }

/-- Player p plays segment g from its first pass. -/
def Dev.playBegin (d : Dev) (p g : Nat) : Dev :=
  let d := (d.playHold p g).put (Fld.CAP_PLY_STATUS.STATE p) 2
  { d with cap := { d.cap with passes := Sparse.put 0 d.cap.passes p 0 } }.playPass p

/-- Player p returns to IDLE. -/
def Dev.playIdle (d : Dev) (p : Nat) : Dev :=
  let d := ((d.playRelease p).put (Fld.CAP_PLY_STATUS.STATE p) 0).put (Fld.CAP_PLY_STATUS.CUR p) 0x7FF
  d.put (Fld.CAP_PLY_STATUS.QUEUED p) 0x7FF

/-- Player p stops (R388, R389). -/
def Dev.playEnd (d : Dev) (p : Nat) : Dev := (d.playIdle p).setInt intCAP 2

/-- START reaches player p: its fields take effect, and it begins, or waits for the synchronising event (R389, R394). -/
def Dev.playStart (p g : Nat) (d : Dev) : Dev :=
  let d := d.arrive (.playStart p g)
  let next := if d.held? 11 then d else d.copyShadow (fun a => a == Reg.CAP_PLY_CTL p)
  if !next.playJoined p || next.playTaken p || !next.segValid p g (next.playOut p) (next.playInst p) then d.cmdRefused
  else if next.playState p ≠ 2 ∧ next.isSet (Fld.CAP_PLY_CTL.SYNC_START p) then
    (next.playHold p g).put (Fld.CAP_PLY_STATUS.STATE p) 1
  else next.playBegin p g

/-- NEXT reaches player p (R388, R390). -/
def Dev.playNext (p g : Nat) (d : Dev) : Dev :=
  let d := d.arrive (.playNext p g)
  if d.playState p ≠ 2 ∨ !d.segValid p g (d.playOut p) (d.playInst p) then d.cmdRefused
  else d.put (Fld.CAP_PLY_STATUS.QUEUED p) g

/-- STOP reaches player p (R389). -/
def Dev.playStop (p : Nat) (d : Dev) : Dev :=
  let d := d.arrive (.playStop p)
  if d.playState p = 0 then d else d.playEnd p

/-- CONS of the queue of a segment moves to its end when its last pass ends (R387). -/
def Dev.segConsume (d : Dev) (g : Nat) : Dev :=
  let q := d.get (Fld.CAP_SEG0.BUF g)
  if d.get (Fld.CAP_SEG0.SRC g) = 1 ∧ d.isSet (Fld.CAP_SEG4.CONSUME g) then
    d.setReg64 (Reg.RMS_Q_CONS_LO q) (max (d.qCons q) (min (d.qTail q) ((d.segStart g + d.segLen g) / 64)))
  else d

/-- Player p goes on to segment g, or stops where it cannot play it (DESIGN CHOICE, notes/assumptions/14.md). -/
def Dev.playGo (d : Dev) (p g : Nat) : Dev :=
  if d.segValid p g (d.playOut p) (d.playInst p) then d.playBegin p g else d.playEnd p

/-- A pass of player p ends (R388). -/
def Dev.playPassEnd (p : Nat) (d : Dev) : Dev :=
  if d.playState p ≠ 2 then d else
    let g := d.playCur p
    let n := d.get (Fld.CAP_SEG4.LOOPS g)
    let done := Sparse.get 0 d.cap.passes p + 1
    let queued := d.get (Fld.CAP_PLY_STATUS.QUEUED p)
    let d := (d.incSat (Fld.CAP_PLY_CNT.PASSES p)).assertEvent (0x2800 + p)
    if queued ≠ 0x7FF then (d.segConsume g).playGo p queued
    else if n = 0 ∨ done < n then
      { d with cap := { d.cap with passes := Sparse.put 0 d.cap.passes p done } }.playPass p
    else
      let d := d.segConsume g
      let next := d.get (Fld.CAP_SEG0.NEXT g)
      if next = 0x7FF then d.playEnd p else d.playGo p next

/-- Queue data is not resident when player p needs it: CAP.02 and RMS.05 (R319, R391). -/
def Dev.playUnderrun (p : Nat) (d : Dev) : Dev :=
  if d.playState p ≠ 2 ∨ d.get (Fld.CAP_SEG0.SRC (d.playCur p)) ≠ 1 then d
  else ((d.incSat (Fld.CAP_PLY_CNT.UNDERRUN p)).raise 354 |>.raise 293).setInt intCAP 3

/-- Word w of segment g. -/
def segReg (w g : Nat) : Nat :=
  match w with
  | 0 => Reg.CAP_SEG0 g
  | 1 => Reg.CAP_SEG1 g
  | 2 => Reg.CAP_SEG2 g
  | 3 => Reg.CAP_SEG3 g
  | _ => Reg.CAP_SEG4 g

/-- A write to a segment entry: refused while it is the current or queued segment of a RUNNING player (R392). -/
def Dev.segWrite (g w : Nat) (v : Word) (d : Dev) : Dev :=
  if (List.range 64).any (fun p => decide (d.playState p = 2) && (decide (d.playCur p = g) ||
      decide (d.get (Fld.CAP_PLY_STATUS.QUEUED p) = g))) then
    ((d.incSat Fld.CAP_SEG_REFUSED.WRITES).raise 355).setInt intCAP 4
  else d.storeRw (segReg w g) v

/-- Receivers, host clients and protected flows are judged anew by what the stage switch carries (R30, R51, R81). -/
def Dev.switchCheck (d : Dev) : Dev :=
  let d := d.rxCheckAll
  let d := if d.inReset 8 then d else d.hstCheck
  if d.inReset 7 then d else d.mrgCheck

/-- The sources of block CAP that players send. -/
def Dev.playedSources (d : Dev) : List (Nat × Nat) :=
  ((List.range 64).filter (fun p => decide (d.playState p = 2))).map (fun p => (d.playOut p, d.playInst p))

/-- A change at the players: where the sources they send change, the sinks of those sources are judged anew (R386). -/
def Dev.playChange (f : Dev → Dev) (d : Dev) : Dev :=
  let e := f d
  if e.playedSources = d.playedSources then e else e.switchCheck

/-- Every player returns to IDLE (R372). -/
def Dev.playersIdle (d : Dev) : Dev := Dev.forUpTo 64 (fun d p => if d.playState p = 0 then d else d.playIdle p) d

/-! ### The synchronising event (R382, R389, R439, R443, R445) -/

/-- Armed players start. -/
def Dev.playersStart (d : Dev) : Dev := Dev.forUpTo 64 (fun d p => if d.playState p = 1 then d.playBegin p (d.playCur p) else d) d

/-- What the event does in block TIM: a due load, the generator's alignment, SYNC_OUT, its interrupt and its tap entry. -/
def Dev.syncTime (d : Dev) : Dev :=
  let d := { d with tim := { d.tim with syncDue := false } }
  let d := if d.isSet Fld.TIM_TC_CTL.LOAD_SYNC then (d.put Fld.TIM_TC_CTL.LOAD_SYNC 0).tcSet else d
  let d := d.syncGenerator
  let d := if d.isSet Fld.TIM_SYNC_CTL.OUT_EN then
      ({ d with tim := { d.tim with syncOutHigh := true } }.tapEventAt (d.tc + ticksTime 20) 0x2021 0).pulseUntil 2
        (d.ticks + 20 + d.get Fld.TIM_SYNC_CTL.OUT_PW) else d
  (d.tapEvent 0x3005 0).setInt intTIM 3

/-- The chains with SYNC_EN. -/
def Dev.syncMask (d : Dev) : Nat :=
  (List.range 8).foldl (fun m c => if d.isSet (Fld.CAP_DEC_CTL.SYNC_EN c) then m + 2 ^ c else m) 0

/-- A synchronising event that is due takes place. -/
def State.syncEvent (s : State) : State :=
  if !s.dev.tim.syncDue then s else
    let s := if s.dev.inReset 11 then s else
      let s := s.chainsReset s.dev.syncMask
      { s with dev := (s.dev.incSat Fld.CAP_SYNC.EVENTS).playChange Dev.playersStart }
    { s with dev := s.dev.syncTime }

/-! ### Meanings -/

/-- PLAYER_START (R389). -/
def execPlayerStart (p : Fin 64) (seg : BitVec 64) := runBlock 11 (Dev.playChange (Dev.playStart p.val seg.toNat))
/-- PLAYER_NEXT (R388). -/
def execPlayerNext (p : Fin 64) (seg : BitVec 64) := runBlock 11 (Dev.playNext p.val seg.toNat)
/-- PLAYER_STOP (R389). -/
def execPlayerStop (p : Fin 64) := runBlock 11 (Dev.playChange (Dev.playStop p.val))
/-- PLAYER_PASS_END (R388). -/
def execPlayerPassEnd (p : Fin 64) := runBlock 11 (Dev.playChange (Dev.playPassEnd p.val))
/-- PLAYER_UNDERRUN (R391). -/
def execPlayerUnderrun (p : Fin 64) := runBlock 11 (Dev.playUnderrun p.val)
/-- SEG_WRITE (R392). -/
def execSegWrite (req : Requester) (seg : Fin 1024) (word : Fin 5) (value : Word) :=
  runWrite req 11 (Dev.segWrite seg.val word.val value)
/-- SYNC_EVENT (R445). -/
def execSyncEvent := runBlockState 13 State.syncEvent

end Sys2Proof.Machine
end

