-- ==== Sys2Proof/Machine/Reset.lean ====
section
/-! DEFINITION. Block reset and chip reset: what each clears and what survives it (R40, R51, R79, R471, Table 1 of
16_boot_firmware_identity.md). -/

namespace Sys2Proof.Machine

/-! ### Block reset: its beginning -/

/-- The regions a block belongs to (R53). -/
def blockRegions : Nat → List Nat
  | 2 => [1]
  | 3 => [2]
  | 4 => [1, 2]
  | 5 => [3]
  | 6 => [3]
  | 7 => [3]
  | 8 => [4, 7]
  | 9 => [6]
  | 10 => [5]
  | 11 => [6]
  | 12 => [1, 2]
  | 13 => [0]
  | 14 => [7]
  | _ => []

/-- The registers of block b that a block reset leaves alone: calibration records of the converters (R95, R104), active slot
pages (R51), key slots and their owners (R225), queues and grants (R323), the lengths of the probe programs (R354), record
numbers (R377), the identity digest (R403), what the DPLL and its candidates have come to (R562). -/
def survivesReset (b a : Nat) : Bool :=
  let o := keyAddr a % 0x100000
  let within (lo hi : Nat) : Bool := decide (lo ≤ o) && decide (o < hi)
  match b with
  | 2 => within 0x100 0x200
  | 3 => within 0x100 0x200
  | 5 => within 0x20000 0x24000
  | 6 => o == 0 || within 0x10000 0x12000 || (decide (0x40000 ≤ o) && o % 0x20 == 4)
  | 9 => decide (queueBase ≤ a) || o == 4 || within 0x10 0x24 || within 0x140 0x180
  | 10 => within 0x10000 0x14000 && o % 0x100 == 0x10
  | 11 => within 0x10000 0x11800 && (o % 0x40 == 0x10 || o % 0x40 == 0x14)
  | 12 => o % 0x80000 == 0x18 || o % 0x80000 == 0x1C
  | 13 => o == 4 || o == 8 || (within 0x100 0x1C0 && o % 0x10 != 0 && o != 0x10C && o != 0x11C)
  | _ => false

/-- Block b loses its registers, its pending shadow values (R40) and its held writes. -/
def Dev.clearBlock (b : Nat) (d : Dev) : Dev :=
  { d with regs := d.regs.filter (fun e => keyBlock e.1 != b || survivesReset b e.1),
           shadow := d.shadow.filter (fun e => keyBlock e.1 != b),
           held := d.held.filter (fun e => keyBlock e.1 != b) }

/-- What port x loses beside its registers: not the slices of its converters (R95), nor the overrange marks that its samples have
taken into records (R108). -/
def Dev.clearLine (x : Nat) (d : Dev) : Dev :=
  let l := d.ln x
  d.setLn x { convs := l.convs.map (fun e => (e.1, { e.2 with steps := 0, inStep := false })), ovrMarks := l.ovrMarks }

/-- What block b loses beside its registers. -/
def Dev.clearUnit (b : Nat) (d : Dev) : Dev :=
  match b with
  | 2 => d.clearLine 0
  | 3 => d.clearLine 1
  | 4 => { d with fec := [] }
  | 5 => { d with frm := {} }
  | 6 => ({ d with cry := { d.cry with kiWritten := [] } } : Dev).cryRestart
  | 7 =>
    let once := d.mrg.flows.filter (fun e => e.2.anchoredOnce)
    { d with mrg := { flows := once.map (fun (e : Nat × MergeFlow) => (e.1, { anchoredOnce := true })) } }
  | 8 => { d with hst := { sent := d.hst.sent } }
  | 10 => { d with prb := { engines := d.prb.engines.map (fun e => (e.1, { prog := e.2.prog })), inFlight := d.prb.inFlight } }
  | 11 =>
    let taps := d.cap.taps.map (fun (e : Nat × TapState) => (e.1, ({ seen := e.2.seen, unitBase := e.2.unitBase } : TapState)))
    { d with cap := { taps := taps, units := d.cap.units, played := d.cap.played } }
  | 12 => { d with clp := [] }
  | 13 =>
    { d with tim := { genOff := d.tim.genOff, pull := d.tim.pull, good := d.tim.good, xoOk := d.tim.xoOk,
                      rootLocked := d.tim.rootLocked, ptpStamped := d.tim.ptpStamped, wtrSince := d.tim.wtrSince,
                      dpllSince := d.tim.dpllSince, hoSince := d.tim.hoSince } }
  | 14 => { d with chn := { sent := d.chn.sent }, chainRemote := [] }
  | _ => d

/-- Whether the cause of source f outlives a reset of its block, since what it tells of does: keys and queues, the DPLL, and the retired
slices and DEGRADED converters of a port (LNx.03, LNx.04, R95, R101). -/
def keepsCause (f : Nat) : Bool :=
  let b := f / 32
  b == 6 || b == 9 || b == 13 || ((b == 2 || b == 3) && (f % 32 == 3 || f % 32 == 4))

/-- The receiver of port x loses TRACK with its block: its line clock is withdrawn (R125, R425). -/
def Dev.leaveTrack (x : Nat) (d : Dev) : Dev := if d.rxState x = 8 then d.withdrawRef (2 + x) else d

/-- What block b does before it is reset: captures end with their headers written (R372), outstanding descriptors end ABORTED
(R323), engines halt and release their drives (R354), the merge buffer is emptied (R246), drives learned over Horug end
(R461), Calliope loses its queue and partners with its line port (R407, R414, R417), and the receiver leaves TRACK, its line clock no
longer offered (R125). -/
def State.resetActions (b : Nat) (s : State) : State :=
  match b with
  | 2 => { s with dev := (s.dev.clpLineReset 0).leaveTrack 0 }
  | 3 => { s with dev := (s.dev.clpLineReset 1).leaveTrack 1 }
  | 7 => s.onDev (fun d => d.protectedFlows.foldl (fun d w => d.dropHeld w.flow) d)
  | 9 => s.onDev Dev.rmsReset
  | 10 => { s with dev := s.dev.stopEngines }
  | 11 => let s := s.endCaptures
          { s with dev := s.dev.playersIdle }
  | 14 => { s with dev := (s.dev.unlearn 0).unlearn 1 }
  | _ => s

/-- The inputs that keep their level through a block reset: DEGRADED of the converters (R95), the selected slot pages (R51),
signal detect of the host lanes. -/
def Dev.keepLevels (b : Nat) (old d : Dev) : Dev :=
  match b with
  | 2 => d.setReg (Reg.LNx_CNV_STATE 0) (old.reg (Reg.LNx_CNV_STATE 0) &&& 0x44444444)
  | 3 => d.setReg (Reg.LNx_CNV_STATE 1) (old.reg (Reg.LNx_CNV_STATE 1) &&& 0x44444444)
  | 5 => d.put Fld.FRM_TSI_PAGE_STATUS.ACTIVE (old.get Fld.FRM_TSI_PAGE_STATUS.ACTIVE)
  | 8 => (Dev.forUpTo 48 (fun d l => d.put (Fld.HST_LANE_STATUS.SD l) (old.get (Fld.HST_LANE_STATUS.SD l))) d).hstCheck
  | _ => d

/-- The taps that had a source in d and have none now lose it (R372). -/
def State.lostSources (d : Dev) (s : State) : State :=
  (List.range 96).foldl (fun s t => if d.tapSourceOk t && !s.dev.tapSourceOk t then s.sourceLoss t else s) s

/-- What follows a change of what the stage switch carries, from d0: its sinks take the signals of Table 2 or their sources again, and taps
lose their source or get it back (R30, R51, R81, R372). -/
def State.switchChanged (d0 : Dev) (s : State) : State :=
  let s := ({ s with dev := s.dev.switchCheck } : State).lostSources d0
  { s with dev := Dev.forUpTo 96 (fun d t => if !d0.tapSourceHere t && d.tapSourceHere t then d.sourceReturn t else d) s.dev }

/-- Block b enters block reset: its sinks and sources carry the signals of Table 2 of 01_planes_and_datapath.md (R51). -/
def State.startReset (b : Nat) (s : State) : State :=
  let d0 := s.dev
  let s := s.resetActions b
  let old := s.dev
  let d := (old.clearBlock b).clearUnit b
  let d := { d with causes := d.causes.filter (fun f => f / 32 != b || keepsCause f) }
  ({ s with dev := ((old.keepLevels b d).setBit Reg.GLB_BLK_RESET b).consCheck } : State).switchChanged d0

/-- Whether a commit of a region of block b runs (R79). -/
def Dev.commitOf (d : Dev) (b : Nat) : Bool := (blockRegions b).any (fun r => d.str.committing.any (· == r))

/-- A block reset is asked for, by GLB_BLK_RESET or a fault reaction: a block already in reset takes no second one, and one whose
region is being committed waits (R51, R79, Table 1 of 17_fault_handling.md). -/
def State.blockReset (b : Nat) (s : State) : State :=
  if b < 2 ∨ 14 < b ∨ s.dev.inReset b then s
  else if s.dev.commitOf b then
    (if b ∈ s.dev.resetWait then s else { s with dev := { s.dev with resetWait := s.dev.resetWait ++ [b] } })
  else s.startReset b

/-! ### Chip reset -/

/-- What a chip reset leaves of the device (Table 1 of 16_boot_firmware_identity.md): fuses and flash, GLB_RESET_CAUSE with the
new cause (bit i), FLT_RST_ID (R516), what stands outside the chip (straps, power, XO, the housekeeping domain and its I2C
target) and what has left it. -/
def Dev.afterReset (i : Nat) (d : Dev) : Dev :=
  let e : Dev := {
    fresh := d.fresh, rdata := d.rdata, msix := d.msix, traps := d.traps, coreInts := d.coreInts, powered := d.powered,
    thermHold := d.thermHold, straps := d.straps, hk := d.hk, i2c := d.i2c,
    sec := { fuses := d.sec.fuses, flash := d.sec.flash, boots := d.sec.boots + 1 },
    tim := { xoOk := d.tim.xoOk, rootLocked := d.tim.rootLocked }, pwr := { calDue := d.pwr.calDue } }
  let e := (e.setReg Reg.GLB_RESET_CAUSE (d.reg Reg.GLB_RESET_CAUSE ||| placeBits i i 1)).setReg Reg.FLT_RST_ID (d.reg Reg.FLT_RST_ID)
  let e := (e.causeIs 423 (!d.tim.xoOk)).causeIs 424 (!d.tim.rootLocked)
  e.linksCheck

/-- A chip reset with a cause (R52, R54, R471): memory contents become undefined; waiting commands still wait. -/
def State.chipReset (i : Nat) (s : State) : State :=
  { dev := s.dev.afterReset i, hbm := s.hbm.forgetAll, sram := s.sram.forgetAll, pending := s.pending }

end Sys2Proof.Machine
end

