-- ==== Sys2Proof/Machine/Load.lean ====
section
/-! DEFINITION. Block STR: loading an image and starting a commit (R69 to R75, 02_structure_images.md). -/

namespace Sys2Proof.Machine

/-- A failed load or a refused commit: ERR and its detail, the interrupt bit, the fault source. -/
def Dev.strFail (d : Dev) (code detail int fault : Nat) : Dev :=
  (((d.put Fld.STR_STATE.ERR code).setReg Reg.STR_ERR_DETAIL (BitVec.ofNat 32 detail)).setInt intSTR int).raise fault

/-! ### Loading (R69 to R72) -/

/-- A load ends: START clears. -/
def Dev.loadEnd (d : Dev) (stage : Nat) : Dev :=
  (({ d with str := { d.str with load := none } } : Dev).put Fld.STR_LOAD_CTL.START 0).put Fld.STR_STATE.STAGE stage

/-- A load fails: the staged image is lost. -/
def Dev.loadFail (d : Dev) (code detail : Nat) : Dev :=
  ({ d with str := { d.str with cfgSram := [] } }.loadEnd 4).strFail code detail 1 32

/-- Whether a load must be refused with BUSY (R72), a GLOBAL commit that waits for trusted boot included (R80). -/
def Dev.loadBusy (d : Dev) : Bool :=
  d.get Fld.STR_STATE.COMMIT != 0 || d.get Fld.STR_STATE.STAGE == 1 || d.get Fld.STR_STATE.STAGE == 2 || d.str.globalPending

/-- Whether a load's source, address and length are refused with FETCH (code 0x01 of Table 10). -/
def fetchBad (src addr len : Nat) : Bool :=
  src == 3 || addr % 8 != 0 || (src == 2 && decide (2 ^ 32 ≤ addr)) || decide (len < 336) || decide (16777216 < len) || len % 8 != 0 ||
  (src == 1 && decide (hbmBytes < addr + len))

/-- START is written 1 with SRC (R69). -/
def Dev.loadStart (src : Nat) (d : Dev) : Dev :=
  let d := d.put Fld.STR_LOAD_CTL.SRC src
  if d.loadBusy then d.strFail 0x1A noItem 1 32
  else
    let addr := d.reg64 Reg.STR_LOAD_ADDR_LO
    let len := d.get Fld.STR_LOAD_LEN.LEN
    let d : Dev := { d with str := { d.str with cfgSram := [], load := some (src, addr, len), loadFuses := d.sec.fuses } }
    if fetchBad src addr len then d.loadFail 0x01 noItem
    else (d.put Fld.STR_LOAD_CTL.START 1).put Fld.STR_STATE.STAGE 1

/-- The fetch of a load completes: data is what host memory gave, none a source whose read failed. A load from flash waits for
the flash (R497). -/
def State.loadFetched (data : Option (List Byte)) (s : State) : State :=
  let d := s.dev
  if d.get Fld.STR_STATE.STAGE ≠ 1 then s else
    match d.str.load, data with
    | none, _ => s
    | some (src, addr, len), got =>
      if src = 2 ∧ d.sec.flashBusy.isSome then s
      else match got with
        | none => { s with dev := d.loadFail 0x01 noItem }
        | some l =>
          let x := if src = 0 then sliceBytes l 0 len else if src = 1 then s.hbm.readBytes addr len else d.flashRead addr len
          { s with dev := ({ d with str := { d.str with cfgSram := x } } : Dev).put Fld.STR_STATE.STAGE 2 }

/-- The checks of a load on the bytes in configuration SRAM, with the fuses as they stood when the load started: a later fuse state
applies from the next load, not to the image staged, which a GLOBAL commit verifies again (R66, R68, R71, R80). -/
def Dev.verifyImage (d : Dev) (len : Nat) : Option (Nat × Nat) :=
  match formatCheck d.str.loadFuses len d.str.cfgSram with
  | some e => some e
  | none => d.loadCheck (imageBodies d.str.cfgSram)

/-- Verification ends (R71). -/
def Dev.loadVerified (d : Dev) : Dev :=
  if d.get Fld.STR_STATE.STAGE ≠ 2 then d else
    match d.str.load with
    | none => d
    | some (_, _, len) =>
      match d.verifyImage len with
      | some (c, o) => d.loadFail c o
      | none => (d.loadEnd 3).setInt intSTR 0

/-! ### Starting a commit (R74, R75) -/

/-- A write of STR_COMMIT (R74): any KEY but 0x5A17 is ignored; while COMMIT is not IDLE it is refused with BUSY. -/
def Dev.commitStart (key mask : Nat) (d : Dev) : Dev :=
  if key ≠ 0x5A17 then d
  else if d.get Fld.STR_STATE.COMMIT ≠ 0 ∨ d.str.globalPending then d.strFail 0x1A noItem 3 33
  else
    ({ d with str := { d.str with committing := (List.range 8).filter (fun r => mask.testBit r) } } : Dev).put Fld.STR_STATE.COMMIT 1

/-! ### Meanings -/

/-- LOAD_START (R69). -/
def execLoadStart (req : Requester) (src : BitVec 2) := runWrite req 1 (Dev.loadStart src.toNat)
/-- LOAD_FETCH_DONE (R69). -/
def execLoadFetchDone (data : Option (List Byte)) := runState (State.loadFetched data)
/-- LOAD_VERIFY_DONE (R71). -/
def execLoadVerifyDone := runDev Dev.loadVerified
/-- COMMIT (R74). -/
def execCommit (req : Requester) (key : BitVec 16) (mask : BitVec 8) := runWrite req 1 (Dev.commitStart key.toNat mask.toNat)

end Sys2Proof.Machine
end

