-- ==== Sys2Proof/Machine/FaultCollector.lean ====
section
/-! DEFINITION. Block FLT: the fault collector and its reactions (17_fault_handling.md). -/

namespace Sys2Proof.Machine

/-! ### Causes at the collector -/

/-- Whether the real cause of source f is present at the collector: present, and no longer on its way. -/
def Dev.realAt (d : Dev) (f : Nat) : Bool := d.live? f && !d.arising.any (fun e => e.1 == f)
/-- Whether an injection of source f is held. -/
def Dev.injHeld (d : Dev) (f : Nat) : Bool := d.isSet (Fld.FLT_SRC.INJ_HOLD f)
/-- Whether any injection is held: the cause of FLT.00 (Table 3 of 17_fault_handling.md). -/
def Dev.anyHold (d : Dev) : Bool := (List.range 576).any d.injHeld
/-- INT_PEND: some source with INT has STICKY = 1. -/
def Dev.intPend (d : Dev) : Bool := (List.range 576).any (fun f => d.isSet (Fld.FLT_SRC.INT f) && d.isSet (Fld.FLT_SRC.STICKY f))

/-- An effective cause of a source in one tick: its source, and whether a real cause and an injection are present. -/
structure Effective where
  src : Nat
  real : Bool
  inj : Bool
  deriving DecidableEq, Repr

/-- STICKY and its qualifiers take an effective cause, and whether the source fires (R505, R506). -/
def Dev.stick (d : Dev) (c : Effective) : Bool × Dev :=
  if !populated c.src || !d.isSet (Fld.FLT_SRC.EN c.src) then (false, d)
  else
    let fires := !d.isSet (Fld.FLT_SRC.STICKY c.src) || (c.real && !d.isSet (Fld.FLT_SRC.REAL c.src))
    let d := d.put (Fld.FLT_SRC.STICKY c.src) 1
    let d := if c.real then d.put (Fld.FLT_SRC.REAL c.src) 1 else d
    (fires, if c.inj then d.put (Fld.FLT_SRC.INJD c.src) 1 else d)

/-- What a firing of source f records: FLT_FIRE_CNT, a FAULT tap entry (R506), FLT_FIRST with its time or OVF (R509, R510); the
cause of FLT.01 arises from OVF. -/
def Dev.recordFiring (t : Nat) (d : Dev) (f : Nat) : Dev :=
  let d := (d.incSat Fld.FLT_FIRE_CNT.FIRINGS).tapEvent (0x4000 + f) (d.get (Fld.FLT_SRC.INJD f))
  if d.isSet Fld.FLT_FIRST.FIRST_VALID then (d.put Fld.FLT_STATUS.OVF 1).causeOn 513
  else
    let d := (((d.put Fld.FLT_FIRST.ID f).put Fld.FLT_FIRST.INJ (d.get (Fld.FLT_SRC.INJD f))).put Fld.FLT_FIRST.REAL
      (d.get (Fld.FLT_SRC.REAL f))).put Fld.FLT_FIRST.FIRST_VALID 1
    d.setTime4 Reg.FLT_FIRST_TS_LO t

/-- The trap of a firing: a non-maskable interrupt to each core of TRAP_CORES that is released (Table 1). -/
def Dev.trapCores (d : Dev) : Dev :=
  if d.coreReleased then
    { d with traps := d.traps ++ (List.range 4).filter (fun c => (d.get Fld.FLT_CTL.TRAP_CORES).testBit c) }
  else d

/-- The reactions of a firing of source f where no chip reset has started (R512, R515). -/
def State.react (s : State) (f : Nat) : State :=
  let d := s.dev
  let d := if d.isSet (Fld.FLT_SRC.CHIP_RST f) then d.put Fld.FLT_STATUS.CHIP_SUPPRESSED 1 else d
  let d := if d.isSet (Fld.FLT_SRC.INT f) && d.isSet Fld.FLT_CTL.INT_MSI then { d with msiDue := true } else d
  let d := if d.isSet (Fld.FLT_SRC.TRAP f) then d.trapCores else d
  let s := { s with dev := d }
  if d.isSet (Fld.FLT_SRC.BLK_RST f) then s.blockReset (f / 32) else s

/-- The effective causes of one tick, in the order of their identifiers, with the time at which they arose: sources stick and fire, and
the reactions run. A firing with CHIP_RST resets the chip while CHIP_ARM = 1, the lowest such source standing in FLT_RST_ID, and
then no other reaction starts (R514, R515). -/
def State.collect (l : List Effective) (t : Nat) (s : State) : State :=
  let (fired, d) := l.foldl (fun (a : List Nat × Dev) c =>
    let (fires, d) := a.2.stick c
    (if fires then a.1 ++ [c.src] else a.1, d)) ([], s.dev)
  let d := fired.foldl (fun d f => d.recordFiring t f) d
  match fired.find? (fun f => d.isSet (Fld.FLT_SRC.CHIP_RST f) && d.isSet Fld.FLT_STATUS.CHIP_ARM) with
  | some f =>
    let d := (d.put Fld.FLT_RST_ID.ID f).put Fld.FLT_RST_ID.VALID 1
    ({ s with dev := d } : State).chipReset 3
  | none => fired.foldl State.react { s with dev := d }

/-- A cause reaches the collector, with those that arose in the same tick (R505, R510, R514): the event lines of their sources are
asserted, and they take effect together, in the order of their identifiers. -/
def State.faultCause (f : Nat) (s : State) : State :=
  match s.dev.arising.find? (fun e => e.1 == f) with
  | none => s
  | some (_, t) =>
    let now := (List.range 576).filter (fun g => s.dev.arising.any (fun e => e.1 == g && e.2 == t))
    let d := { s.dev with arising := s.dev.arising.filter (fun e => e.2 != t) }
    let d := now.foldl (fun d g => d.assertEvent (0x2400 + g)) d
    ({ s with dev := d } : State).collect (now.map (fun g => ⟨g, true, d.injHeld g⟩)) t

/-- The message of vector 18 for the firings that wait for one: at most one message per 1 µs (Table 1). -/
def Dev.faultMsi (d : Dev) : Dev :=
  if d.msiDue && decide (d.msiFrom ≤ d.ticks) then { d.sendMsix 18 with msiDue := false, msiFrom := d.ticks + 1120 } else d

/-! ### Writes -/

/-- What a write of FLT_SRCn stores in its RW fields: BLK_RST = 1 stores 0 where the block cannot be reset (R513). -/
def Dev.fltStore (f : Nat) (v : Word) (d : Dev) : Dev :=
  let v := if f / 32 < 2 ∨ 14 < f / 32 then setBits v 10 10 0 else v
  d.setReg (Reg.FLT_SRC f) ((d.reg (Reg.FLT_SRC f) &&& 0xFFFEE0FE) ||| (v &&& 0x00011F01))

/-- A write of FLT_SRCn (R504 to R507, R513, R517): v holds the RW fields that result, clear and pulse tell whether STICKY and
INJ_PULSE are written 1. The cause of FLT.00 arises with the first injection held, in the same tick. -/
def State.fltWrite (f : Nat) (v : Word) (clear pulse : Bool) (s : State) : State :=
  if !populated f then s else
    let d := s.dev
    let held := d.anyHold
    let was := d.injHeld f
    let en := d.isSet (Fld.FLT_SRC.EN f)
    let d := d.fltStore f v
    let d := if clear then d.setReg (Reg.FLT_SRC f) (d.reg (Reg.FLT_SRC f) &&& 0x1FFFFFFF) else d
    let inj := d.injHeld f || pulse
    let rises := pulse || (d.injHeld f && !was)
    let acts := rises || ((clear || (!en && d.isSet (Fld.FLT_SRC.EN f))) && (d.realAt f || inj))
    let first := d.anyHold && !held
    let d := if d.anyHold then (if first then { d with causes := removeFirst 512 d.causes ++ [512] } else d) else d.causeOff 512
    let d := if rises then d.assertEvent (0x2400 + f) else d
    let d := if first then d.assertEvent (0x2400 + 512) else d
    let own : List Effective := if acts then [⟨f, d.realAt f, inj⟩] else []
    let zero : List Effective := if first && !(f == 512 && acts) then [⟨512, true, d.injHeld 512⟩] else []
    ({ s with dev := d } : State).collect (if f < 512 then own ++ zero else zero ++ own) d.tc

/-- The word of FLT_SRCn with a bit set as asked and the other RW fields as they are. -/
def Dev.fltWord (d : Dev) (f i : Nat) (on : Bool) : Word := setBits (d.reg (Reg.FLT_SRC f)) i i (bit on)

/-- FLT_FIRST is cleared and armed (R511); a clear also zeroes the other fields and the timestamp (Table 6). -/
def Dev.firstClear (d : Dev) : Dev := (d.setReg Reg.FLT_FIRST 0).setTime4 Reg.FLT_FIRST_TS_LO 0

/-- OVF is cleared: the cause of FLT.01 ends. -/
def Dev.ovfClear (d : Dev) : Dev := (d.put Fld.FLT_STATUS.OVF 0).causeOff 513

/-- CLR_ALL (R511): every STICKY, FLT_FIRST, OVF and CHIP_SUPPRESSED in one tick; sources whose effective cause is present set again. -/
def State.clrAll (s : State) : State :=
  let d := Dev.forUpTo 576 (fun d f => d.setReg (Reg.FLT_SRC f) (d.reg (Reg.FLT_SRC f) &&& 0x1FFFFFFF)) s.dev
  let d := (d.firstClear.ovfClear).put Fld.FLT_STATUS.CHIP_SUPPRESSED 0
  let l := (List.range 576).filterMap (fun f =>
    if d.realAt f || d.injHeld f then some (⟨f, d.realAt f, d.injHeld f⟩ : Effective) else none)
  ({ s with dev := d } : State).collect l d.tc

/-- ARM and DISARM of one write: DISARM takes precedence (R515). -/
def Dev.armWrite (arm disarm : Bool) (d : Dev) : Dev :=
  if disarm then d.put Fld.FLT_STATUS.CHIP_ARM 0 else if arm then d.put Fld.FLT_STATUS.CHIP_ARM 1 else d

/-- A requester's write to block b that may change memory: no effect where it is not answered or the block is in reset. -/
def runWriteState (req : Requester) (b : Nat) (f : State → State) (s : State) : Host.Outcome State Fault Refusal :=
  runState (fun s => if s.dev.mayWrite req b then f s else s) s

/-! ### Meanings -/

/-- FAULT_CAUSE (R505). -/
def execFaultCause (f : Fin 576) := runState (State.faultCause f.val)
/-- FAULT_MSI (R512). -/
def execFaultMsi := runDev Dev.faultMsi
/-- STICKY_CLEAR (R507). -/
def execStickyClear (req : Requester) (f : Fin 576) :=
  runWriteState req 16 (fun s => s.fltWrite f.val (s.dev.reg (Reg.FLT_SRC f.val)) true false)
/-- FIRST_CLEAR (R511). -/
def execFirstClear (req : Requester) := runWrite req 16 Dev.firstClear
/-- CLR_ALL (R511). -/
def execClrAll (req : Requester) := runWriteState req 16 State.clrAll
/-- ARM (R515). -/
def execArm (req : Requester) := runWrite req 16 (Dev.armWrite true false)
/-- DISARM (R515). -/
def execDisarm (req : Requester) := runWrite req 16 (Dev.armWrite false true)
/-- INJ_PULSE (R517). -/
def execInjPulse (req : Requester) (f : Fin 576) :=
  runWriteState req 16 (fun s => s.fltWrite f.val (s.dev.reg (Reg.FLT_SRC f.val)) false true)
/-- INJ_HOLD (R517). -/
def execInjHold (req : Requester) (f : Fin 576) (on : Bool) :=
  runWriteState req 16 (fun s => s.fltWrite f.val (s.dev.fltWord f.val 16 on) false false)
/-- FLT_EN_WRITE (R505). -/
def execFltEnWrite (req : Requester) (f : Fin 576) (en : Bool) :=
  runWriteState req 16 (fun s => s.fltWrite f.val (s.dev.fltWord f.val 0 en) false false)

end Sys2Proof.Machine
end

