-- ==== Sys2Proof/Machine/RegView.lean ====
section
/-! DEFINITION. What a read of a register returns: the registers that the device computes from its state, and the full read with
its clearing of RC fields and its snapshots (R12, R15, R18 to R20, R38). -/

namespace Sys2Proof.Machine

/-! ### Keys -/

/-- Whether a register is kept per requester: GLB_FENCE (R46), RMS_QSEL (R325), PRB_IMEM_SEL (R356), the forwarding registers of CHN
(R463). -/
def perRequester (a : Nat) : Bool :=
  a == 0x10 || a == 0x900200 || a == 0xA00070 || a == 0xE00030 || a == 0xE00034 || a == 0xE00038

/-- The key under which a requester reaches an address: its own copy, or the queue that its RMS_QSEL names. -/
def Dev.keyOf (d : Dev) (req : Requester) (a : Nat) : Nat :=
  if perRequester a then reqBase * (req.code + 1) + a
  else if 0x900400 ≤ a ∧ a < 0x900460 then
    queueBase + 0x100 * (d.reg (Reg.RMS_QSEL req.code)).toNat + (a - 0x900400)
  else a

/-- The place of an address in a wide value: its index from the _LO register, and the registers of the value. -/
def partOf (a : Nat) : Option (Nat × Nat) :=
  wideRegs.findSome? (fun (w : Nat × List (Nat × Nat) × Nat) =>
    ((List.range w.2.2).find? (fun i => decide (w.1 + 4 * i ≤ a) && dimsMatch w.2.1 (a - w.1 - 4 * i))).map (fun i => (i, w.2.2)))

/-! ### Registers computed from the state -/

/-- A word from fields given as (lowest bit, value). -/
def wordOf (l : List (Nat × Nat)) : Word := BitVec.ofNat 32 (l.foldl (fun n e => n + e.2 * 2 ^ e.1) 0)
/-- A word whose bit i tells p i. -/
def bitsOf (p : Nat → Bool) : Word := wordOf ((List.range 32).map (fun i => (i, bit (p i))))
/-- The word of a signed value that saturates at 32 bits. -/
def word32 (i : Int) : Word := BitVec.ofNat 32 (ofSigned 32 (clampInt (-2147483648) 2147483647 i))
/-- The register of a time in the four-register layout of R451. -/
def timeWord (t i : Nat) : Word :=
  BitVec.ofNat 32 (match i with
    | 0 => tFrac t
    | 1 => tNs t
    | 2 => tSec t
    | _ => tSec t / 2 ^ 32 % 2 ^ 16)

/-- Ticks num / den as a whole number; the spec does not say how it is rounded. -/
def wholeTicks (num den : Nat) : Nat := num / max 1 den + (if num % max 1 den ≠ 0 ∧ Config.roundUp num den then 1 else 0)

/-- LAT_ENC and LAT_DEC of encrypting flow w in fabric ticks (R227). -/
def Dev.cryLatency (d : Dev) (w : FlowDecl) : Nat × Nat :=
  let num := oduFrameBits * 1120000000 * 15184
  let den := max 1 w.rate15184
  let lat (size extra : Nat) : Nat :=
    let f := 2 ^ size
    wholeTicks (max (f * num) (((15184 * f + 31) / 32 + 24) * den) + extra * num + 448 * den) den
  (lat (d.get (Fld.CRY_FLOW_CTL.SIZE w.flow)) 0,
    lat ((d.cryFlow w.flow).rxSize.getD (d.get (Fld.CRY_FLOW_CTL.SIZE w.flow))) 1)

/-- The entry of physical page p in the page table (R295). -/
def Dev.pageEntry (d : Dev) (p : Nat) : Word × Word :=
  let chain (l : List QPage) (i : Nat) : Nat := (l[i + 1]?.map (·.phys)).getD 0x3FFF
  let queue := d.rms.queues.findSome? (fun (e : Nat × QueueSt) =>
    match e.2.pages.findIdx? (fun x => x.phys == p) with
    | some i => (e.2.pages[i]?).map (fun x => (wordOf [(16, e.1), (14, 1), (0, chain e.2.pages i)],
        wordOf [(17, x.lpage % 2 ^ 15), (16, bit x.full), (0, x.firstRec.getD 0xFFFF)]))
    | none => (e.2.cache.find? (fun c => c.2 == p)).map (fun c => (wordOf [(16, e.1), (14, 2), (0, 0x3FFF)],
        wordOf [(17, c.1 % 2 ^ 15), (16, 1), (0, ((e.2.ext.find? (fun x => x.lpage == c.1)).bind (·.firstRec)).getD 0xFFFF)])))
  match queue with
  | some w => w
  | none => match d.rms.transfers.find? (fun t => !t.out && t.phys == p) with
    | some t => (wordOf [(16, t.queue), (14, 2), (0, 0x3FFF)], wordOf [(17, t.lpage % 2 ^ 15), (0, 0xFFFF)])
    | none => (0, 0)

/-- Computed registers of GLB and STR. -/
def Dev.viewGlb (d : Dev) (a : Nat) : Option Word :=
  if a = 0x08 then some (BitVec.ofNat 32 Config.dieId.toNat)
  else if a = 0x0C then some (BitVec.ofNat 32 (Config.dieId.toNat / 2 ^ 32))
  else if a = 0x24 then some (bitsOf (fun b => decide (b < 16) && d.shadow.any (fun e => keyBlock e.1 == b)))
  else if a = 0x30 then some (bitsOf (fun b => d.inReset b || decide (b ∈ d.resetWait)))
  else if a = 0x100024 ∨ a = 0x100028 then
    (if d.get Fld.STR_STATE.STAGE ≠ 3 then some 0
    else if a = 0x100024 then
      some (wordOf [(16, leAt d.str.cfgSram 0x0E 2), (8, leAt d.str.cfgSram 0x0D 1 % 8), (0, leAt d.str.cfgSram 0x0C 1)])
    else some (BitVec.ofNat 32 (leAt d.str.cfgSram 0x10 4)))
  else none

/-- Computed registers of LNA (x = 0) and LNB (R105, R111, R145, R150). -/
def Dev.viewLn (d : Dev) (x o : Nat) : Option Word :=
  let runs (dac : Bool) : Bool := (List.range 4).any (fun c => decide (2 ≤ d.cnvState x (c + 4 * bit dac)))
  if o = 0x0C then some (wordOf [(16, if runs true then d.cnvTicks x true else 0), (0, if runs false then d.cnvTicks x false else 0)])
  else if o = 0x48 then some (wordOf [(24, 1), (16, (Config.factTemp x).toNat), (8, 50)])
  else if o = 0x50 then some (BitVec.ofNat 32 (Config.factSec x).toNat)
  else if o = 0x54 then some (BitVec.ofNat 32 ((Config.factSec x).toNat / 2 ^ 32))
  else if o = 0x1004 then
    some (setBits (d.reg (Reg.LNx_DSP_STATE x)) 14 14 (bit (d.txActive x)))
  else if o = 0x1008 then
    some (wordOf [(16, if d.txEn x && !d.modeErr x then d.dspTicks x true else 0),
      (0, if d.rxEn x && !d.modeErr x then d.dspTicks x false else 0)])
  else none

/-- Computed registers of FRM: flows with events, MAP_ERR for 1 ms after a mapping error. -/
def Dev.viewFrm (d : Dev) (o : Nat) : Option Word :=
  if 0x100 ≤ o ∧ o < 0x1A0 then some (bitsOf (fun j => d.reg (Reg.FRM_FLOW_EVT (8 * (o - 0x100) + j)) != 0))
  else if 0x40000 ≤ o ∧ o < 0x40000 + 0x40 * 1280 ∧ o % 0x40 = 4 then
    let f := (o - 0x40000) / 0x40
    let late := match d.frm.mapErrAt.find? (fun e => e.1 == f) with
      | some (_, t) => decide (d.ticks < t + 1120000)
      | none => false
    some (setBits (d.reg (Reg.FRM_FLOW_STATUS f)) 12 12 (bit late))
  else none

/-- Computed registers of CRY: RX_KI_BASE resets to 2e, the latencies follow R227; one of more than 65,535 ticks does not fit its field and
reads a free value (notes/assumptions/26.md). -/
def Dev.viewCry (d : Dev) (o : Nat) : Option Word :=
  if o = 0 then some (setBits (d.reg Reg.CRY_STATUS) 5 0 d.coresBusy)
  else if o = 4 then some (wordOf [(16, d.coreUtil true), (0, d.coreUtil false)])
  else if 0x40000 ≤ o ∧ o < 0x40000 + 0x20 * 1280 then
    let f := (o - 0x40000) / 0x20
    if o % 0x20 = 0 then
      (if f ∈ d.cry.kiWritten ∨ Sparse.has d.shadow (Reg.CRY_FLOW_CTL f) then none
      else (d.eIndex f).map (fun e => setBits (mergeShadow (shadowMaskOf (Reg.CRY_FLOW_CTL f)) (d.reg (Reg.CRY_FLOW_CTL f))
        (d.shadowReg (Reg.CRY_FLOW_CTL f))) 24 16 (2 * e)))
    else if o % 0x20 = 8 then
      (match d.flowOf f with
      | some w =>
        let fit (i n : Nat) : Nat := if n < 65536 then n else (Config.latency 4 i n 0).toNat
        if w.encrypt then some (wordOf [(16, fit 1 (d.cryLatency w).2), (0, fit 0 (d.cryLatency w).1)]) else none
      | none => none)
    else none
  else none

/-- Computed registers of MRG; those of flows without PROTECT read 0 (R253). -/
def Dev.viewMrg (d : Dev) (o : Nat) : Option Word :=
  if 0x100 ≤ o ∧ o < 0x1A0 then some (bitsOf (fun j =>
    (d.protectedFlow (8 * (o - 0x100) + j)).isSome && d.reg (Reg.MRG_FLOW_EVT (8 * (o - 0x100) + j)) != 0))
  else if 0x40000 ≤ o ∧ o < 0x40000 + 0x40 * 1280 ∧ (d.protectedFlow ((o - 0x40000) / 0x40)).isNone then some 0
  else none

/-- Computed registers of a lane: what the receiver adapts and training sets are free values (R260, R262), those of the tick at which they
stopped, or of now; BITS and ERRS (R274). -/
def Dev.viewLane (d : Dev) (l o : Nat) : Option Word :=
  let v := d.hl l
  let adapted (k : Nat) (now : Bool) (held : Option Nat) : Option Word :=
    if now then some ((Config.laneAdapts l k d.ticks).setWidth 32) else held.map (fun t => (Config.laneAdapts l k t).setWidth 32)
  let fir (i n : Nat) : Option Word :=
    if d.laneState l = 2 ∨ v.firAt.isSome then some (wordOf ((List.range n).map (fun j => (8 * j, ofSigned 8 ((d.firInUse l).getD (i + j) 0)))))
    else none
  if o = 0x04 then (adapted 35 (d.laneState l == 3) v.snrAt).map (fun w => setBits (d.reg (Reg.HST_LANE_STATUS l)) 31 16 w.toNat)
  else if o = 0x08 then v.ctleAt.map (fun t => setBits (d.reg (Reg.HST_LANE_RX_EQ l)) 5 0 ((Config.laneAdapts l 36 t).toNat % 33))
  else if o = 0x10 then fir 0 4
  else if o = 0x14 then fir 4 2
  else if o = 0x20 then some (BitVec.ofNat 32 (d.prbsTotal l))
  else if o = 0x24 then some (BitVec.ofNat 32 (d.prbsTotal l / 2 ^ 32))
  else if o = 0x28 then some (BitVec.ofNat 32 (d.prbsErrTotal l))
  else if o = 0x2C then some (BitVec.ofNat 32 (d.prbsErrTotal l / 2 ^ 32))
  else if 0x40 ≤ o ∧ o < 0x4C then adapted (32 + (o - 0x40) / 4) (d.adapts l true) v.dfeAt
  else if 0x80 ≤ o then adapted ((o - 0x80) / 4) (d.adapts l false) v.ffeAt
  else none

/-- Computed registers of HST: those of lanes, and the stuff symbols sent. -/
def Dev.viewHst (d : Dev) (o : Nat) : Option Word :=
  if 0x10000 ≤ o ∧ o < 0x13000 then d.viewLane ((o - 0x10000) / 0x100) (o % 0x100)
  else if 0x30000 ≤ o ∧ o < 0x30C00 ∧ o % 0x40 = 0xC then
    some (setBits (d.reg (Reg.HST_TSU_ERR_CNT ((o - 0x30000) / 0x40))) 31 20 (d.stuffCount ((o - 0x30000) / 0x40)))
  else none

/-- Computed registers of RMS; a is the key, o the offset. -/
def Dev.viewRms (d : Dev) (a o : Nat) : Option Word :=
  if queueBase ≤ a then
    let q := (a - queueBase) / 0x100
    if d.qType q = 0 then some 0
    else if o = 0x450 then some (wordOf [(16, (d.q q).cache.length), (0, (d.q q).pages.length)])
    else if o = 0x454 then some (BitVec.ofNat 32 (d.q q).ext.length)
    else none
  else if o = 0x100 then some (wordOf [(16, d.poolPages), (0, d.freePages)])
  else if 0x10000 ≤ o ∧ o < 0x12000 then some (bitsOf (fun j => d.reg (Reg.RMS_Q_EVT (8 * (o - 0x10000) + j)) != 0))
  else if 0x40000 ≤ o ∧ o < 0x40000 + 8 * hbmPages then
    let e := d.pageEntry ((o - 0x40000) / 8)
    some (if o % 8 = 0 then e.1 else e.2)
  else none

/-- Computed registers of PRB (R356). -/
def Dev.viewPrb (d : Dev) (r o : Nat) : Option Word :=
  let count (st : Nat) : Nat := ((List.range 64).filter (fun n => d.engState n == st)).length
  if o = 0x00 then some (wordOf [(16, count 4), (8, count 3), (0, count 2)])
  else if o = 0x28 ∨ o = 0x2C then some (bitsOf (fun j => d.reg (Reg.PRB_ENG_EVT (8 * (o - 0x28) + j)) != 0))
  else if o = 0x60 ∨ o = 0x64 then some (bitsOf (fun j => d.lineValue (8 * (o - 0x60) + j)))
  else if o = 0x68 then
    some (bitsOf (fun j => (decide (j < 4) && d.pinValue j) || (decide (8 ≤ j ∧ j < 16) && d.chainValue (j - 8))))
  else if o = 0x74 then
    some ((d.eng (d.get (Fld.PRB_IMEM_SEL.ENGINE r))).prog.getD (d.get (Fld.PRB_IMEM_SEL.WORD r)) 0)
  else if 0x10000 ≤ o ∧ o < 0x14000 ∧ o % 0x100 = 0x10 then
    some (BitVec.ofNat 32 (d.eng ((o - 0x10000) / 0x100)).prog.length)
  else none

/-- Computed registers of CAP (R361, R372, R383, R394). -/
def Dev.viewCap (d : Dev) (o : Nat) : Option Word :=
  if o = 0x00 then
    let owned (j : Nat) : Bool := (List.range 16).any (fun b => d.bufOwner b != 0xFF && decide (d.bufFirst b ≤ j) &&
      decide (j < d.bufFirst b + d.bufBanks b))
    some (wordOf [(24, ((List.range 96).filter (fun t => d.tapState t != 0)).length),
      (16, ((List.range 64).filter (fun p => d.playState p != 0)).length)] |||
      bitsOf (fun j => decide (j < 12) && owned j))
  else if 0x200 ≤ o ∧ o < 0x280 ∧ o % 0x10 = 8 then
    let c := (o - 0x200) / 0x10
    some (setBits (setBits (setBits (d.reg (Reg.CAP_DEC_STATUS c)) 31 24 ((d.chainTap c).getD 0xFF)) 15 8 (d.unsetLeft c)) 7 4
      (d.chainK c))
  else if 0x10000 ≤ o ∧ o < 0x11800 ∧ o % 0x40 = 8 then
    let t := (o - 0x10000) / 0x40
    some (setBits (d.reg (Reg.CAP_TAP_STATUS t)) 4 4 (bit (d.tapSourceOk t)))
  else if 0x10000 ≤ o ∧ o < 0x11800 ∧ o % 0x40 = 0xC then
    let t := (o - 0x10000) / 0x40
    some (wordOf [(31, bit (d.latValid t)), (30, bit (tapTx t)), (0, d.tapTicks t % 2 ^ 20)])
  else none

/-- The head of the receive FIFO of Calliope port x (Table 9 of 13_calliope_channel.md). -/
def Dev.viewClp (d : Dev) (x o : Nat) : Option Word :=
  if o < 0x100 ∨ 0x160 ≤ o ∨ o = 0x110 then none
  else match (d.cp x).rxFifo with
    | [] => some 0
    | e :: _ =>
      let n := e.packet.payload.length
      if o = 0x100 then
        some (wordOf [(31, 1), (30, bit e.inv), (20, e.partner.getD 0), (19, bit e.partner.isSome), (12, e.packet.type), (0, n)])
      else if o < 0x110 then some (timeWord e.time ((o - 0x104) / 4 + 1))
      else if o = 0x114 then some (BitVec.ofNat 32 (ofSigned 16 e.rssi))
      else if 0x120 ≤ o then some (BitVec.ofNat 32 (beNat (sliceBytes e.packet.payload (o - 0x120) 4)))
      else none

/-- A PTP FIFO's head (R447). -/
def ptpWord (l : List PtpEntry) (i : Nat) : Word :=
  match l with
  | [] => 0
  | e :: _ => if i = 0 then wordOf [(31, 1), (24, e.msgType.toNat), (16, e.domain.toNat), (0, e.seqId.toNat)]
              else timeWord e.time (i - 1)

/-- Computed registers of TIM: time, pull, pulse difference, PTP heads; the output offset is 0 in FREE_RUN and a free value
otherwise. -/
def Dev.viewTim (d : Dev) (o : Nat) : Option Word :=
  if 0x100 ≤ o ∧ o < 0x1C0 ∧ o % 0x10 = 4 then
    let i := (o - 0x100) / 0x10
    some (setBits (d.reg (Reg.TIM_REF_STATUS i)) 31 16 (d.wtrLeft i))
  else
  if o = 0x0C then some (if d.dpll = 0 then 0 else BitVec.ofNat 32 (Config.freeNat d.fresh))
  else if o = 0x1C then some (word32 ((d.tim.pull * 1000).tdiv (2 ^ 40 : Nat)))
  else if 0x200 ≤ o ∧ o < 0x210 then some (timeWord d.tc ((o - 0x200) / 4))
  else if o = 0x250 then some (word32 (d.tim.genOff.tdiv (2 ^ 40 : Nat)))
  else if 0x304 ≤ o ∧ o < 0x318 then some (ptpWord d.tim.ptpTx ((o - 0x304) / 4))
  else if 0x320 ≤ o ∧ o < 0x334 then some (ptpWord d.tim.ptpRx ((o - 0x320) / 4))
  else none

/-- Computed registers of FLT (R504, R518, R519). -/
def Dev.viewFlt (d : Dev) (o : Nat) : Option Word :=
  if o = 4 then some (setBits (d.reg Reg.FLT_STATUS) 1 1 (bit d.intPend))
  else if 0x100 ≤ o ∧ o < 0x148 then some (bitsOf (fun j => d.isSet (Fld.FLT_SRC.STICKY (8 * (o - 0x100) + j))))
  else if 0x180 ≤ o ∧ o < 0x1C8 then some (bitsOf (fun j => d.live? (8 * (o - 0x180) + j)))
  else if 0x10000 ≤ o ∧ o < 0x10000 + 4 * 576 then
    let f := (o - 0x10000) / 4
    some (if populated f then setBits (d.reg (Reg.FLT_SRC f)) 28 28 (bit (d.live? f)) else 0)
  else none

/-- The registers that the device computes from its state, by key; r is the requester's code. -/
def Dev.computed (d : Dev) (r a : Nat) : Option Word :=
  let o := keyAddr a % 0x100000
  match keyBlock a with
  | 0 => d.viewGlb a
  | 1 => d.viewGlb a
  | 2 => d.viewLn 0 o
  | 3 => d.viewLn 1 o
  | 4 =>
    let x := o / 0x80000
    if o % 0x80000 = 8 then
      some (wordOf [(16, if d.isSet (Fld.FEC_x_CTL.ENC_EN x) && !d.modeErr x then d.encTicks x else 0),
        (0, if d.isSet (Fld.FEC_x_CTL.DEC_EN x) && !d.modeErr x then d.decTicks x else 0)])
    else none
  | 5 => d.viewFrm o
  | 6 => d.viewCry o
  | 7 => d.viewMrg o
  | 8 => d.viewHst o
  | 9 => d.viewRms a o
  | 10 => d.viewPrb r o
  | 11 => d.viewCap o
  | 12 => d.viewClp (o / 0x80000) (o % 0x80000)
  | 13 => d.viewTim o
  | 15 =>
    if o = 0x00 then some (setBits (d.reg Reg.SEC_BOOT_STATUS) 23 22 d.straps.bootSel.toNat)
    else if o = 0x0C then
      let f := d.sec.fuses
      some (wordOf [(24, bit f.custOnly), (16, f.secver), (8, f.lyfSecver), (4, f.revoked.toNat), (0, f.enrolled.toNat)])
    else none
  | 16 => d.viewFlt o
  | 17 =>
    if o = 0x318 then some (wordOf [(24, 1), (16, (Config.factTemp 2).toNat)])
    else if o = 0x320 then some (BitVec.ofNat 32 (Config.factSec 2).toNat)
    else if o = 0x324 then some (BitVec.ofNat 32 ((Config.factSec 2).toNat / 2 ^ 32))
    else none
  | _ => none

/-- How many free values the reading of a register takes: one of TIM_DPLL_FOFF. -/
def freeReads (a : Nat) : Nat := if a = 0xD0000C then 1 else 0

/-- Whether the reset value of the register with key a comes from outside the register table: from fuses (FACT_INFO and FACT_SEC,
Table 22 of 03_line_converters.md), or from a flow's number (RX_KI_BASE, Table 10 of 07_payload_encryption.md). -/
def computedReset (a : Nat) : Bool :=
  let o := keyAddr a % 0x100000
  match keyBlock a with
  | 2 => o == 0x48 || o == 0x50 || o == 0x54
  | 3 => o == 0x48 || o == 0x50 || o == 0x54
  | 6 => decide (0x40000 ≤ o) && o % 0x20 == 0
  | _ => false

/-- The value of the register with key a as requester r sees it: a block in reset shows reset values, a shadowed field its shadow
value (R38). -/
def Dev.view (d : Dev) (r a : Nat) : Word :=
  if d.inReset (keyBlock a) then (if computedReset a then (d.computed r a).getD (resetWordOf a) else resetWordOf a)
  else match d.computed r a with
    | some w => w
    | none => mergeShadow (shadowMaskOf a) (d.reg a) (d.shadowReg a)

/-! ### The full read -/

/-- The mailbox channel an address belongs to (R485). -/
def channelOf (a : Nat) : Option Nat := if 0xF10000 ≤ a ∧ a < 0xF15000 then some ((a - 0xF10000) / 0x1000) else none
/-- Whether a requester owns a channel: PCIe channel 0, AC(c) channel c + 1 (R485). -/
def ownsChannel (req : Requester) (c : Nat) : Bool :=
  match req with
  | .pcie => c == 0
  | .ac k => c == k.val + 1
  | _ => false
/-- Whether an access is foreign to the mailbox channel it reaches. -/
def foreign (req : Requester) (a : Nat) : Bool :=
  match channelOf a with
  | some c => !ownsChannel req c
  | none => false

/-- The mask of the RC fields of a register. -/
def RegDesc.rcMask (r : RegDesc) : Word := r.fields.foldl (fun w f => if f.acc = .rc then w ||| maskBits f.hi f.lo else w) 0

/-- The RC fields of the register with key a are cleared (R12); of HST_TSU_ERR_CNT also STUFF. -/
def Dev.clearRc (d : Dev) (a : Nat) : Dev :=
  let d := if 0x830000 ≤ a ∧ a < 0x830C00 ∧ a % 0x40 = 0xC then d.stuffRead ((a - 0x830000) / 0x40) else d
  match regAt (keyAddr a) with
  | some r => if r.rcMask = 0 then d else d.setReg a (d.reg a &&& ~~~r.rcMask)
  | none => d

/-- The key of a requester's snapshot of a register. -/
def snapKey (req : Requester) (a : Nat) : Nat := req.code * reqBase + a

/-- Keep the data a requester's read returns. -/
def Dev.readData (d : Dev) (req : Requester) (w : Word) : Dev := { d with rdata := Sparse.insert req.code w d.rdata }

/-- A requester reads an address: a _MID or _HI register gives its snapshot, 0 where none was taken (R18, R20); any other its value, a
_LO register with snapshots of the higher parts (R18), and RC fields are cleared. A foreign access to a mailbox channel reads 0 and
raises SEC.02 (R485). -/
def Dev.readReg (d : Dev) (req : Requester) (addr : Nat) : Dev :=
  if foreign req addr then (d.raise 482).readData req 0
  else
    match partOf addr with
    | some (_i + 1, _) => d.readData req (Sparse.get 0 d.snaps (snapKey req addr))
    | p =>
      let a := d.keyOf req addr
      let w := if (regAt addr).isNone then 0 else d.view req.code a
      let parts := match p with
        | some (_, n) => n
        | none => 1
      let d' := (List.range (parts - 1)).foldl (fun (e : Dev) i =>
        { e with snaps := Sparse.insert (snapKey req (addr + 4 * (i + 1))) (d.view req.code (d.keyOf req (addr + 4 * (i + 1)))) e.snaps }) d
      let d' := if d.inReset (addr / 0x100000) then d' else { d'.clearRc a with fresh := d'.fresh + freeReads addr }
      d'.readData req w

/-- A read by a requester whose access the device answers. -/
def Dev.read (req : Requester) (addr : Nat) (d : Dev) : Dev := if d.reaches req (addr / 0x100000) then d.readReg req addr else d

/-! ### Meanings -/

/-- Whether a register has an RC field. -/
def hasRc (addr : Nat) : Bool := match regAt addr with
  | some r => r.rcMask != 0
  | none => false

/-- RC_READ (R15). -/
def execRcRead (req : Requester) (addr : Nat) := runDev (fun d => if hasRc addr then d.read req addr else d)
/-- LO_READ_SNAPSHOT (R18). -/
def execLoReadSnapshot (req : Requester) (addr : Nat) :=
  runDev (fun d => if (partOf addr).any (fun p => p.1 == 0) then d.read req addr else d)
/-- HK_DATA_READ (R535). -/
def execHkDataRead (req : Requester) := runDev (Dev.read req 0x1100304)

end Sys2Proof.Machine
end

