-- ==== Sys2Proof/Machine/RegWrite.lean ====
section
/-! DEFINITION. A write to a register: what each access code makes of it (R12, R17), held parts of wide values (R21), and the effects
the chapters give writes to particular registers. Presets of images use the same writes (R63). -/

namespace Sys2Proof.Machine

/-! ### By access code -/

/-- The mask of the fields of an access code. -/
def RegDesc.accMask (r : RegDesc) (k : Access) : Word :=
  r.fields.foldl (fun w f => if f.acc = k then w ||| maskBits f.hi f.lo else w) 0

/-- The mask of the fields of an access code of the register with key a. -/
def accMaskAt (a : Nat) (k : Access) : Word :=
  match regAt (keyAddr a) with
  | some r => r.accMask k
  | none => 0

/-- W1C bits written 1 are cleared (R12). -/
def Dev.clearW1c (a : Nat) (v : Word) (d : Dev) : Dev :=
  let m := v &&& accMaskAt a .w1c
  if m = 0 then d else d.setReg a (d.reg a &&& ~~~m)

/-- An interrupt enable that rises over a set status bit signals the block's message (DEDUCED, notes/assumptions/4.md). -/
def Dev.enRises (a : Nat) (old : Word) (d : Dev) : Dev :=
  if a = Reg.SEC_INT_EN then
    let m := d.reg Reg.SEC_INT_STATUS &&& d.reg a &&& ~~~old
    let d : Dev := { d with coreInts := d.coreInts ++ ([1, 2, 3, 4].filter (fun i => m.getLsbD i)).map (fun i => i - 1) }
    if m &&& 0x181 = 0 then d else d.sendMsix 15
  else match intBanks.find? (fun b => b.enable == a) with
    | some b => if d.reg b.status &&& d.reg a &&& ~~~old = 0 then d else d.sendMsix b.vector
    | none => d

/-- A write of a whole word to the register with key a, for what has no effect of its own: RW fields store, W1C bits clear. -/
def Dev.writePlain (a : Nat) (v : Word) (d : Dev) : Dev := ((d.storeRw a v).clearW1c a v).enRises a (d.reg a)

/-! ### Wide values (R21) -/

/-- What was last written to the register with key a: the pending shadow value of shadowed fields. -/
def Dev.lastWritten (d : Dev) (a : Nat) : Word := mergeShadow (shadowMaskOf a) (d.reg a) (d.shadowReg a)

/-- The held write of a part, else what it holds. -/
def Dev.heldPart (d : Dev) (a : Nat) : Word := Sparse.get (d.lastWritten a) d.held a

/-- Hold a write of a _LO or _MID register that can be written. -/
def Dev.holdPart (a : Nat) (v : Word) (d : Dev) : Dev :=
  if accMaskAt a .rw ||| accMaskAt a .rws ||| accMaskAt a .w1s = 0 then d else { d with held := Sparse.insert a v d.held }

/-- The held parts of the value of n registers from lo on are used up. -/
def Dev.unhold (lo n : Nat) (d : Dev) : Dev :=
  { d with held := d.held.filter (fun e => !(decide (lo ≤ e.1) && decide (e.1 < lo + 4 * n))) }

/-- A write to the _HI register of a value of n registers from lo on applies all parts. Registers of engines change only while the
engine is HALTED (Table 14 of 11_probe_engines.md). -/
def Dev.writeWide (lo n : Nat) (v : Word) (d : Dev) : Dev :=
  let both := v.toNat * 2 ^ 32 + (d.heldPart lo).toNat
  let e := d.unhold lo n
  if lo = Reg.PRB_RUN_LO then e.runMask (BitVec.ofNat 64 both)
  else if lo = Reg.PRB_HALT_LO then e.haltMask (BitVec.ofNat 64 both)
  else if 0xA20000 ≤ lo ∧ lo < 0xA28000 then
    let i := (lo - 0xA20000) / 0x200
    if d.engState i = 1 then e.setX i (lo % 0x200 / 8) both else e
  else if 0xA30000 ≤ lo ∧ lo < 0xA30800 then d.prbCntWrite ((lo - 0xA30000) / 8) v
  else if lo = Reg.TIM_STEP_LO then d.tcStep v.toNat
  else if lo = Reg.TIM_ADDEND_LO then
    let a := addendStore (both % 2 ^ 48)
    (e.setShadow lo (BitVec.ofNat 32 a)).setShadow (lo + 4) (BitVec.ofNat 32 (a / 2 ^ 32))
  else (List.range n).foldl (fun e i => e.writePlain (lo + 4 * i) (if i + 1 = n then v else d.heldPart (lo + 4 * i))) e

/-! ### Blocks

In what follows a is a register's address, o its offset in its block, v the word written; p tells that the write is a preset, which no
refusal by the block's state hinders (R63). -/

/-- Writes to GLB. -/
def State.writeGlb (req : Requester) (a : Nat) (v : Word) (s : State) : State :=
  if keyAddr a = 0x10 then { s with dev := (s.dev.put (Fld.GLB_FENCE.TOKEN req.code) v.toNat).put (Fld.GLB_FENCE.DONE req.code) 0 }
  else if a = 0x30 then (List.range 13).foldl (fun s i => if v.getLsbD (i + 2) then s.blockReset (i + 2) else s) s
  else if a = 0x34 then (if v.toNat / 2 ^ 16 = 0x6B1D ∧ v.getLsbD 0 then s.chipReset 2 else s)
  else { s with dev := s.dev.writePlain a v }

/-- Writes to STR. -/
def Dev.writeStr (a : Nat) (v : Word) (d : Dev) : Dev :=
  if a = 0x100004 then (let d := d.storeRw a v; if v.getLsbD 31 then d.loadStart (getBits v 1 0) else d)
  else if a = 0x100020 then d.commitStart (getBits v 31 16) (getBits v 7 0)
  else d.writePlain a v

/-- Writes to LNA (x = 0) and LNB. -/
def Dev.writeLn (p : Bool) (x a o : Nat) (v : Word) (d : Dev) : Dev :=
  if o = 0 then d.cnvRateWrite x (getBits v 5 0)
  else if o = 4 then d.cnvEnWrite x (getBits v 7 0)
  else if o = 0x10 then
    let d := d.writePlain a v
    d.setReg a (d.reg a ||| (d.reg a <<< 8 &&& 0xF00))
  else if o = 0x40 then
    let d := (d.storeRw a v).freezeWrite x (v.getLsbD 8)
    if v.getLsbD 0 then d.calNow x else d
  else if o = 0x44 then (d.storeRw a v).lagCheck x
  else if 0x4000 ≤ o then
    (if p then d.setReg a (BitVec.ofNat 32 (getBits v 15 0))
     else d.pdCoefWrite x ((o - 0x4000) / 0x400) (o % 0x400 / 0x100) (o % 0x100 / 4) (BitVec.ofNat 16 v.toNat))
  else if o = 0x1000 then (let d := d.storeRw a v; if v.getLsbD 31 then d.dspRestart x else d)
  else d.writePlain a v

/-- Writes to FEC. -/
def Dev.writeFec (a o : Nat) (v : Word) (d : Dev) : Dev :=
  if o % 0x80000 = 0 then (let d := d.storeRw a v; if v.getLsbD 31 then d.fecCntClr (o / 0x80000) else d) else d.writePlain a v

/-- Writes to FRM. -/
def Dev.writeFrm (p : Bool) (a o : Nat) (v : Word) (d : Dev) : Dev :=
  if o = 0 then
    let d := Dev.forUpTo 4 (fun d s => if v.getLsbD s then d.tsiSwap s else d) d
    Dev.forUpTo 4 (fun d s => if v.getLsbD (8 + s) then d.tsiCopy s else d) d
  else if 0x10000 ≤ o ∧ o < 0x14000 then
    (if p then d.setReg a (v &&& 0x800007FF) else d.tsiSbyWrite ((o - 0x10000) / 0x1000) (o % 0x1000 / 4) v)
  else d.writePlain a v

/-- Writes to CRY. -/
def Dev.writeCry (a _o : Nat) (v : Word) (d : Dev) : Dev := (d.writePlain a v).consCheck

/-- Writes to MRG; those to a flow without PROTECT have no effect (R253). -/
def Dev.writeMrg (a o : Nat) (v : Word) (d : Dev) : Dev :=
  if o < 0x40000 then d.writePlain a v
  else
    let f := (o - 0x40000) / 0x40
    if (d.protectedFlow f).isNone then d
    else if o % 0x40 = 0 then (let d := d.storeRw a v; if v.getLsbD 31 then d.mergeRealign f else d)
    else d.writePlain a v

/-- Writes to HST. -/
def Dev.writeHst (p : Bool) (a o : Nat) (v : Word) (d : Dev) : Dev :=
  if o < 0x18 then d.octetWrite (o / 4) v
  else if 0x10000 ≤ o ∧ o < 0x13000 then
    let l := (o - 0x10000) / 0x100
    match o % 0x100 with
    | 0x00 => d.laneCtl l v
    | 0x08 => d.rxEqWrite l v
    | 0x10 => if p then d.txFirStore l 0 v else d.txFirWrite l 0 v
    | 0x14 => if p then d.txFirStore l 1 v else d.txFirWrite l 1 v
    | 0x18 => d.prbsCtl l v
    | _ => d.writePlain a v
  else if 0x20000 ≤ o ∧ o < 0x20C00 ∧ o % 0x40 = 0 then d.clientCtl ((o - 0x20000) / 0x40) v
  else d.writePlain a v

/-- What the RW fields of a queue descriptor word store (Table 15 of 10_ringmaster.md): WM_HI within QUOTA, WM_LO within the WM_HI
of the same write, POST within R294, MSIX 0 or 32 to 255. -/
def Dev.queueWord (d : Dev) (q off : Nat) (v : Word) : Word :=
  let quota := d.qQuota q
  match off with
  | 0x408 =>
    let hi := min (getBits v 15 0) quota
    wordOf [(16, min (getBits v 31 16) hi), (0, hi)]
  | 0x410 =>
    let depth := if d.qPolicy q = 2 then quota + d.extQuota q else quota
    if d.isCarousel q then setBits v 31 16 (min (getBits v 31 16) (depth - 2)) else v
  | 0x41C => if getBits v 15 8 < 32 then setBits v 15 8 0 else v
  | _ => v

/-- Writes to the window of queue q at offset off (R325): commands in the order ARM, TRIGGER, STOP, RESUME; descriptor fields take effect at
the queue's next operation, or at once with none waiting, unless held (R305). -/
def State.writeQueue (req : Requester) (q a off : Nat) (v : Word) (s : State) : State :=
  if s.dev.qType q = 0 then s
  else if off = 0x424 then
    let go (i : Nat) (f : Dev → Dev) (s : State) : State :=
      if v.getLsbD i then s.queueCommand (.sw req) q (.qArm q) f else s
    go 3 (Dev.pagingResume q) (go 2 (Dev.qStop q) (go 1 (Dev.qTrigger q) (go 0 (Dev.qArm q) s)))
  else if off < 0x420 then
    (s.onDev (fun d => (d.storeRw a (d.queueWord q off v)).rmsWritten q)).queueClosed q
  else { s with dev := s.dev.writePlain a v }

/-- Writes to the other registers of RMS. -/
def Dev.writeRms (a o : Nat) (v : Word) (d : Dev) : Dev :=
  if o = 0 then d.admLimit (getBits v 11 0)
  else if 0x20000 ≤ o ∧ o < 0x21000 then
    let ch := (o - 0x20000) / 0x40
    match o % 0x40 with
    | 0x00 => d.dmaCtl ch v
    | 0x0C => d.dmaProd ch (getBits v 15 0)
    | _ => d.writePlain a v
  else if 0x80000 ≤ o then
    let q := (o - 0x80000) / 8
    if o % 8 = 0 then d.dbProd q (getBits v 23 0) else d.dbCons q (getBits v 23 0)
  else d.writePlain a v

/-- Whether a code is one of Table 3 of 11_probe_engines.md (R347). -/
def eventCode (c : Nat) : Bool :=
  let span (base n : Nat) : Bool := decide (base ≤ c) && decide (c < base + n)
  span 0x1000 1536 || span 0x2000 64 || span 0x2100 4 || span 0x2200 8 || span 0x2300 2 || span 0x2400 576 || span 0x2800 64

/-- Writes to PRB. -/
def Dev.writePrb (a o : Nat) (v : Word) (d : Dev) : Dev :=
  if 0x400 ≤ o ∧ o < 0xC00 then d.storeRw a (if eventCode (getBits v 15 0) then v else 0)
  else if o = 0x30 then
    let d := d.storeRw a v
    d.setReg Reg.PRB_TRIG_IN_STATUS (d.reg Reg.PRB_TRIG_IN_STATUS &&& d.reg a)
  else if 0x10000 ≤ o ∧ o < 0x14000 ∧ 0x40 ≤ o % 0x100 ∧ o % 0x100 < 0x80 then
    (d.storeRw a v).unlatch ((o - 0x10000) / 0x100) (2 ^ ((o % 0x100 - 0x40) / 4))
  else if 0x10000 ≤ o ∧ o < 0x14000 ∧ o % 0x100 = 0 then
    let n := (o - 0x10000) / 0x100
    let d := d.storeRw a v
    let d := if v.getLsbD 30 then d.restartEng n else d
    if v.getLsbD 31 then d.stepEng n else d
  else if 0x40000 ≤ o ∧ o % 0x100 = 0 then
    let x := (o - 0x40000) / 0x100
    let d := d.storeRw a v
    let d := if v.getLsbD 31 then d.pmLoadOp x else d
    if v.getLsbD 30 then d.pmHitsClrOp x else d
  else d.writePlain a v

/-- Writes to CAP (R394). -/
def State.writeCap (a o : Nat) (v : Word) (s : State) : State :=
  let d := s.dev
  if o = 4 then s.chainsReset (getBits v 23 16)
  else if 0x100 ≤ o ∧ o < 0x200 then { s with dev := (d.storeRw a v).bufBoundary ((o - 0x100) / 0x10) }
  else if 0x10000 ≤ o ∧ o < 0x11800 then
    let t := (o - 0x10000) / 0x40
    let d := d.writePlain a v
    { s with dev := if d.tapState t = 0 then d.tapBoundary t else d }
  else if 0x30000 ≤ o ∧ o < 0x38000 then { s with dev := (d.segWrite ((o - 0x30000) / 0x20) (o % 0x20 / 4) v).consCheck }
  else { s with dev := d.writePlain a v }

/-- Writes to CLP (R421). -/
def Dev.writeClp (a o : Nat) (v : Word) (d : Dev) : Dev :=
  let x := o / 0x80000
  match o % 0x80000 with
  | 0x0C4 => if v.getLsbD 0 then d.clpPush x else d
  | 0x110 => if v.getLsbD 0 then d.clpPop x else d
  | 0x00C =>
    let d := d.storeRw a v
    (if v.getLsbD 31 then d.eqReset x else d).clpFields x
  | 0x000 => (d.storeRw a v).clpFields x
  | 0x004 => (d.storeRw a v).clpFields x
  | 0x008 => (d.storeRw a v).clpFields x
  | 0x028 => (d.storeRw a v).clpFields x
  | _ => d.writePlain a v

/-- Writes to TIM (R451): W1S fields act at once, RW fields at the next tick. -/
def Dev.writeTim (a o : Nat) (v : Word) (d : Dev) : Dev :=
  match o with
  | 0x014 => d.storeRw a (setBits v 7 0 (min (getBits v 7 0) (getBits v 15 8)))
  | 0x210 =>
    let d := if v.getLsbD 1 then d.put Fld.TIM_TC_CTL.LOAD_SYNC 1 else d
    if v.getLsbD 0 then d.tcSet else d
  | 0x240 => (let d := d.storeRw a v; if v.getLsbD 31 then d.realign 0 else d)
  | 0x260 =>
    let d := d.storeRw a v
    if v.getLsbD 31 then { d with tim := { d.tim with syncDue := true } } else d
  | 0x318 => if v.getLsbD 0 then d.ptpPop false else d
  | 0x334 => if v.getLsbD 0 then d.ptpPop true else d
  | _ => d.writePlain a v

/-- Writes to CHN; a is the key. -/
def Dev.writeChn (req : Requester) (a o : Nat) (v : Word) (d : Dev) : Dev :=
  if o = 0 then (let d := d.storeRw a v; if v.getLsbD 31 then d.chainSyncOriginate (some req) else d)
  else if o = 0x38 then
    let d := d.writePlain a v
    if v.getLsbD 31 then d.fwdGo req.code (v.getLsbD 30) else d
  else d.writePlain a v

/-- Writes to SEC: a request buffer that a command uses is not written (R487). -/
def Dev.writeSec (a o : Nat) (v : Word) (d : Dev) : Dev :=
  if o = 0x20 then
    let was := d.isSet Fld.SEC_WDT_CTL.EN
    let d := d.storeRw a v
    if !was && d.isSet Fld.SEC_WDT_CTL.EN then { d with sec := { d.sec with kick := d.ticks } } else d
  else if o = 0x24 then d.wdtKick (getBits v 15 0)
  else if 0x10000 ≤ o then
    let c := (o - 0x10000) / 0x1000
    let r := o % 0x1000
    if r = 0 then (if v.getLsbD 0 then d.mbGo c else d)
    else if 0x400 ≤ r ∧ r < 0x800 ∧ d.mbBusy c then d.put (Fld.SEC_MB_STATUS.OVERRUN c) 1
    else d.writePlain a v
  else d.writePlain a v

/-- Writes to FLT. -/
def State.writeFlt (a o : Nat) (v : Word) (s : State) : State :=
  if o = 0 then
    let s := { s with dev := (s.dev.storeRw a v).armWrite (v.getLsbD 30) (v.getLsbD 29) }
    if v.getLsbD 31 then s.clrAll else s
  else if o = 4 then
    let d := if v.getLsbD 2 then s.dev.put Fld.FLT_STATUS.CHIP_SUPPRESSED 0 else s.dev
    { s with dev := if v.getLsbD 0 then d.ovfClear else d }
  else if o = 8 then (if v.getLsbD 31 then { s with dev := s.dev.firstClear } else s)
  else if 0x10000 ≤ o then s.fltWrite ((o - 0x10000) / 4) v (v.getLsbD 31) (v.getLsbD 17)
  else s

/-- Writes to PWR. -/
def Dev.writePwr (a o : Nat) (v : Word) (d : Dev) : Dev :=
  if o = 0x0C then (d.storeRw a v).alertSync
  else if o = 0x300 then
    let ch := getBits v 5 0
    let d := if v.getLsbD 31 then d.hkStart ch else d.put Fld.PWR_HK_CTL.CH ch
    if v.getLsbD 30 then d.hkCalNow else d
  else d.writePlain a v

/-! ### The whole write -/

/-- A write of a word to the register at an address by a requester, applied. Unallocated offsets discard it (R8), as does a block in
reset (R47); a foreign write to a mailbox channel is discarded and raises SEC.02 (R485). -/
def State.writeReg (p : Bool) (req : Requester) (addr : Nat) (v : Word) (s : State) : State :=
  let d := s.dev
  let b := addr / 0x100000
  let o := addr % 0x100000
  let a := d.keyOf req addr
  if foreign req addr then { s with dev := d.raise 482 }
  else if (regAt addr).isNone || d.inReset b then s
  else match partOf addr with
    | some (i, n) =>
      if i + 1 < n then { s with dev := d.holdPart addr v }
      else s.onDev (fun d => d.writeWide (addr - 4 * i) n v)
    | none =>
      if queueBase ≤ a then s.writeQueue req ((a - queueBase) / 0x100) a (o % 0x1000) v
      else match b with
        | 0 => s.writeGlb req a v
        | 1 => { s with dev := d.writeStr a v }
        | 2 => { s with dev := d.writeLn p 0 a o v }
        | 3 => { s with dev := d.writeLn p 1 a o v }
        | 4 => { s with dev := d.writeFec a o v }
        | 5 => { s with dev := d.writeFrm p a o v }
        | 6 => { s with dev := d.writeCry a o v }
        | 7 => { s with dev := d.writeMrg a o v }
        | 8 => { s with dev := d.writeHst p a o v }
        | 9 => s.onDev (fun d => d.writeRms a o v)
        | 10 => { s with dev := d.writePrb a o v }
        | 11 => s.writeCap a o v
        | 12 => { s with dev := d.writeClp a o v }
        | 13 => { s with dev := d.writeTim a o v }
        | 14 => { s with dev := d.writeChn req a o v }
        | 15 => { s with dev := d.writeSec a o v }
        | 16 => s.writeFlt a o v
        | 17 => { s with dev := d.writePwr a o v }
        | _ => s

/-- The address that GLB_ACC_ERR_ADDR shows for a requester's access: block-relative for a core (Table 17 of
01_planes_and_datapath.md). -/
def accErrAddr (req : Requester) (addr : Nat) : Nat :=
  match req with
  | .ac _ => addr % 0x100000
  | .trusted => addr % 0x100000
  | _ => addr

/-- An access that is not 32 bits wide and aligned (R7): a write is discarded, a read returns 0; GLB.00, and the record of the first
such access. -/
def Dev.badAccess (req : Requester) (acc : RegAccess) (d : Dev) : Dev :=
  let d := if acc.data.isNone then d.readData req 0 else d
  let d := if d.isSet Fld.GLB_ACC_ERR_INFO.VALID then d
    else (d.setReg Reg.GLB_ACC_ERR_ADDR (BitVec.ofNat 32 (accErrAddr req acc.addr))).setReg Reg.GLB_ACC_ERR_INFO
      (wordOf [(31, 1), (8, req.code), (4, bit acc.data.isSome), (0, acc.be.toNat)])
  d.raise 0

/-- A register access by a requester: every access that the device answers takes effect at once, in the order of the queue (R44,
R45). -/
def State.access (req : Requester) (acc : RegAccess) (s : State) : State :=
  let d := s.dev
  if !d.reaches req (acc.addr / 0x100000) then s
  else if acc.width ≠ 4 ∨ acc.addr % 4 ≠ 0 ∨ acc.be ≠ 0xF then { s with dev := d.badAccess req acc }
  else match acc.data with
    | none => { s with dev := d.readReg req acc.addr }
    | some v => s.writeReg false req acc.addr v

/-! ### Meanings -/

/-- REGISTER_WRITE (R12): an access to a register of any kind. -/
def execRegisterWrite (req : Requester) (acc : RegAccess) := runState (State.access req acc)

/-- HI_WRITE_APPLY (R21). -/
def execHiWriteApply (req : Requester) (addr : Nat) (value : Word) :=
  runState (fun s => if s.dev.reaches req (addr / 0x100000) ∧ (partOf addr).any (fun p => p.1 + 1 == p.2) then
    s.writeReg false req addr value else s)

/-- GLB_FENCE (R46, R48). -/
def execGlbFence (req : Requester) (token : BitVec 16) :=
  runState (fun s => if s.dev.reaches req 0 then s.writeGlb req 0x10 (token.zeroExtend 32) else s)

/-- FENCE_DONE (R46): every write is applied when its command ends, so none of the requester's is outstanding. -/
def execFenceDone (req : Requester) := runDev (fun d => d.put (Fld.GLB_FENCE.DONE req.code) 1)

/-- SHADOW_HOLD_CLEAR (R37): the pending fields wait for the block's next boundary. -/
def execShadowHoldClear (req : Requester) (block : Fin 18) :=
  runWrite req 0 (fun d => d.setReg Reg.GLB_SHADOW_HOLD (d.reg Reg.GLB_SHADOW_HOLD &&& ~~~(placeBits block.val block.val 1)))

end Sys2Proof.Machine
end

