-- ==== Sys2Proof/Machine/Restart.lean ====
section
/-! DEFINITION. Shadow boundaries, presets, the end of a block reset, and the resets of the chip and of the PCIe function (R35, R51, R52,
R62 to R64, R471, R520, R525, 02_structure_images.md, 16_boot_firmware_identity.md). -/

namespace Sys2Proof.Machine

/-! ### Shadow boundaries (Table 3 of 01_planes_and_datapath.md) -/

/-- The block of a shadow unit. -/
def unitBlock : ShadowUnit → Nat
  | .dsp x => 2 + x
  | .fec _ => 4
  | .frm _ => 5
  | .cry _ => 6
  | .mrg _ => 7
  | .hst _ => 8
  | .rms _ => 9
  | .rmsGlobal => 9
  | .capTap _ => 11
  | .clpTx _ => 12
  | .clpRx _ => 12
  | .tim => 13
  | .chn => 14

/-- The next Horug link frame: pending fields of CHN become active together, unless held. -/
def Dev.chnBoundary (d : Dev) : Dev :=
  if d.held? 14 then d else ((d.copyShadow (fun a => keyBlock a == 14)).lanesCheck).linksCheck

/-- A unit's boundary: pending shadow values are copied to the active copies together (R35, R36), and what follows. A tap has its
boundary while no record is open, buffers without an owner with it; Calliope while no packet of the direction is under way. -/
def State.boundary (u : ShadowUnit) (s : State) : State :=
  let d := s.dev
  match u with
  | .dsp x => ({ s with dev := d.dspBoundary x } : State).logAdapt d x
  | .fec x => ({ s with dev := d.fecBoundary x } : State).logAdapt d x
  | .frm x => { s with dev := d.frmBoundary x }
  | .cry f => { s with dev := d.cryBoundary f }
  | .mrg f => s.onDev (Dev.mrgBoundary f)
  | .hst l => { s with dev := d.hstBoundary l }
  | .rms q => (s.onDev (Dev.rmsQueue q)).queueClosed q
  | .rmsGlobal => { s with dev := d.rmsGlobal }
  | .capTap t => { s with dev := (if (d.tap t).record.isSome then d else d.tapBoundary t).freeBufBoundary }
  | .clpTx x => { s with dev := if d.clpTxState x = 2 then d else d.clpTxFields x }
  | .clpRx x => { s with dev := if 2 ≤ d.clpRxState x then d else d.clpRxFields x }
  | .tim => { s with dev := d.timBoundary }
  | .chn => { s with dev := d.chnBoundary }

/-! ### Presets (R63) -/

/-- The pending shadow values after a preset has given the registers with the keys ks new active values in the masked bits. -/
def Dev.presetPend (d : Dev) (ks : List Nat) (mask : Word) (pend : List (Nat × Word)) : List (Nat × Word) :=
  pend.map (fun e => if e.1 ∈ ks then (e.1, mergeShadow mask e.2 (d.reg e.1)) else e)

/-- One preset: a write of its value into its RW bits, as the trusted core's, whose shadowed fields become active at once; pend are the
shadow values that wait. GLB_SHADOW_HOLD is written apart (State.applyPresets). -/
def State.preset (a : State × List (Nat × Word)) (p : Preset) : State × List (Nat × Word) :=
  let s := a.1
  let d := s.dev
  if p.addr = Reg.GLB_SHADOW_HOLD then a
  else
    let k := d.keyOf .trusted p.addr
    let old := d.view Requester.trusted.code k
    let v := ((old &&& ~~~p.mask) ||| (p.value &&& p.mask)) &&& rwMaskAt p.addr
    let s := s.writeReg true .trusted p.addr v
    let (ks, mask) := match partOf p.addr with
      | some (i, n) => ((List.range n).map (fun j => p.addr - 4 * i + 4 * j), (0xFFFFFFFF : Word))
      | none => ([k], p.mask)
    let d := s.dev.copyShadow (fun x => decide (x ∈ ks))
    let d := match cryKeyFlow k with
      | some f => if p.addr % 0x20 = 0 ∧ p.mask &&& 0x01FF0000 ≠ 0 then d.kiKnown f else d
      | none => d
    let d := match cryKeyFlow k with
      | some f => if p.addr % 0x20 = 0 ∧ p.mask.getLsbD 0 then d.setCryFlow f { d.cryFlow f with selFresh := true } else d
      | none => d
    ({ s with dev := d }, d.presetPend ks mask a.2)

/-- The presets of one region, in record order; _LO and _MID presets without a later _HI have no effect. -/
def State.presetSection (a : State × List (Nat × Word)) (l : List Preset) : State × List (Nat × Word) :=
  let a := l.foldl State.preset a
  ({ a.1 with dev := { a.1.dev with held := [] } }, a.2)

/-- What follows new active copies of the fields of block b, from those of d0. -/
def State.applyBlock (d0 : Dev) (s : State) (b : Nat) : State :=
  let d := s.dev
  match b with
  | 2 => ({ s with dev := d0.dspApply 0 d } : State).logAdapt d0 0
  | 3 => ({ s with dev := d0.dspApply 1 d } : State).logAdapt d0 1
  | 4 => (({ s with dev := (d.fecApply 0).fecApply 1 } : State).logAdapt d0 0).logAdapt d0 1
  | 5 => { s with dev := (d.frmApply 0).frmApply 1 }
  | 8 => { s with dev := d.lanesCheck }
  | 9 => { s with dev := d.rmsGlobal.regrant }
  | 11 => { s with dev := d.bufCheck }
  | 12 => { s with dev := (d.clpFields 0).clpFields 1 }
  | 13 => { s with dev := d.ppsOffer.refreshRefs.timModes (d0.reg Reg.TIM_DPLL_CTL) }
  | 14 => { s with dev := d.lanesCheck.linksCheck }
  | _ => s

/-- Presets by region, and what they change in the blocks bs. They reach shadow and active copies whatever GLB_SHADOW_HOLD holds; other
pending shadow values and held writes stay as they are (R63, R78). -/
def State.applyPresets (sections : List (List Preset)) (bs : List Nat) (s : State) : State :=
  let d0 := s.dev
  let hold := sections.foldl (fun w l => l.foldl (fun (w : Word) p =>
    if p.addr = Reg.GLB_SHADOW_HOLD then (w &&& ~~~p.mask) ||| (p.value &&& p.mask) else w) w) (d0.reg Reg.GLB_SHADOW_HOLD)
  let s : State := { s with dev := ({ d0 with shadow := [], held := [] } : Dev).setReg Reg.GLB_SHADOW_HOLD 0 }
  let (s, pend) := sections.foldl State.presetSection (s, d0.shadow)
  let s := bs.foldl (State.applyBlock d0) s
  { s with dev := ({ s.dev with shadow := pend, held := d0.held } : Dev).setReg Reg.GLB_SHADOW_HOLD hold }

/-! ### The end of a block reset (R51, R64) -/

/-- The presets that reach block b, by region, from the preset store. -/
def Dev.presetsOf (d : Dev) (b : Nat) : List (List Preset) :=
  (List.range 8).map (fun r => match d.body r with
    | some x => x.presets.filter (fun p => decide (p.addr / 0x100000 = b))
    | none => [])

/-- Block b starts its work anew. -/
def State.restart (b : Nat) (s : State) : State :=
  let d := s.dev
  match b with
  | 2 => { s with dev := (d.cnvAfterReset 0).rxCheck 0 }
  | 3 => { s with dev := (d.cnvAfterReset 1).rxCheck 1 }
  | 6 => { s with dev := d.cryCauses }
  | 7 => { s with dev := d.mrgStart false }
  | 10 => { s with dev := d.clearProbeCounts.startEngines }
  | 11 => s.chainsReset 0xFF
  | 13 => { s with dev := d.refreshRefs.reselect }
  | _ => s

/-- The block reset of block b ends. -/
def State.resetDone (b : Nat) (s : State) : State :=
  if !s.dev.inReset b then s
  else
    let d0 := s.dev
    let s : State := { s with dev := s.dev.clrBit Reg.GLB_BLK_RESET b }
    ((s.applyPresets (s.dev.presetsOf b) [b]).restart b).switchChanged d0

/-! ### Power, chip and PCIe function (R52, R471, R520, R525) -/

/-- The strap lands: BOOT_SEL in bits 1 and 0, CHAIN_HEAD in bit 2, I2C_ADDR in bits 4 and 3. -/
def strapsOf (v : BitVec 5) : Straps := { bootSel := v.extractLsb' 0 2, chainHead := v.getLsbD 2, i2cAddr := v.extractLsb' 3 2 }

/-- VIN becomes valid (Table 1 of 16_boot_firmware_identity.md): everything but fuses and flash is as after power-on; what stands
outside the chip stays. A module that has power takes no second power-on. -/
def State.powerOn (v : BitVec 5) (s : State) : State :=
  let d := s.dev
  if d.powered then s
  else
    let e : Dev := {
      fresh := d.fresh, rdata := d.rdata, msix := d.msix, traps := d.traps, coreInts := d.coreInts,
      straps := strapsOf v, sec := { fuses := d.sec.fuses, flash := d.sec.flash },
      tim := { xoOk := d.tim.xoOk, rootLocked := d.tim.rootLocked } }
    { dev := ((e.causeIs 423 (!d.tim.xoOk)).causeIs 424 (!d.tim.rootLocked)).linksCheck,
      hbm := s.hbm.forgetAll, sram := s.sram.forgetAll, pending := s.pending }

/-- A PCIe function reset (Table 1 of 16_boot_firmware_identity.md): DMA enables, the snapshots and fence of the requester, mailbox
channel 0 with its key-encryption key. A mailbox command in progress runs on, its reply to be discarded; DMA descriptors in
progress end BUS_ERROR. -/
def Dev.functionReset (d : Dev) : Dev :=
  let busy := d.mbBusy 0
  let d := Dev.forUpTo 64 (fun d ch => (d.put (Fld.RMS_DMA_CTL.EN ch) 0).endDma ch 3) d
  let d : Dev := { d with
    regs := d.regs.filter (fun e => !(decide (0xF10000 ≤ e.1) && decide (e.1 < 0xF11000))),
    snaps := d.snaps.filter (fun e => decide (reqBase ≤ e.1)) }
  let d := d.setReg (Reg.GLB_FENCE Requester.pcie.code) (resetWordOf (Reg.GLB_FENCE Requester.pcie.code))
  let d := if busy then d.put (Fld.SEC_MB_STATUS.BUSY 0) 1 else d
  (d.setChan 0 { d.chan 0 with discard := busy, kek := none, challenge := none }).raise 2

/-! ### Meanings -/

/-- SHADOW_COPY (R35). -/
def execShadowCopy (unit : ShadowUnit) := runBlockState (unitBlock unit) (State.boundary unit)
/-- BLOCK_RESET (R51): a write of GLB_BLK_RESET. -/
def execBlockReset (req : Requester) (block : Fin 18) :=
  runState (fun s => if s.dev.reaches req 0 then s.blockReset block.val else s)
/-- BLOCK_RESET_DONE (R51). -/
def execBlockResetDone (block : Fin 18) := runState (State.resetDone block.val)
/-- CHIP_RESET (R52). -/
def execChipReset (req : Requester) (key : BitVec 16) (chip : Bool) :=
  runState (fun s => if s.dev.reaches req 0 ∧ key = 0x6B1D ∧ chip then s.chipReset 2 else s)
/-- POWER_ON (R520). -/
def execPowerOn (straps : BitVec 5) (s : State) : Host.Outcome State Fault Refusal := .next (s.powerOn straps)
/-- VIN_LOSS (R520): conversion stops. -/
def execVinLoss (s : State) : Host.Outcome State Fault Refusal := .next { s with dev := { s.dev with powered := false } }
/-- THERMTRIP (R525): the chip is held in reset. -/
def execThermtrip :=
  runState (fun s =>
    let s := s.chipReset 4
    { s with dev := { s.dev with thermHold := true, hk := { s.dev.hk with cool := 0 } } })
/-- THERMTRIP_RELEASE (R525): once every sensor has read below 90 °C for 1 s, which is 1,000 samples (R523). -/
def execThermtripRelease (s : State) : Host.Outcome State Fault Refusal :=
  .next (if 1000 ≤ s.dev.hk.cool then { s with dev := { s.dev with thermHold := false } } else s)
/-- PCIE_FUNCTION_RESET (R471). -/
def execPcieFunctionReset := runState (State.onDev Dev.functionReset)
/-- PCIE_DOWN (R518): only a link that has been up since the last chip reset. -/
def execPcieDown := runDev (fun d => if d.pcieSeen then d.causeOn 1 else d)
/-- PCIE_LINK_UP (R474). -/
def execPcieLinkUp := runDev (fun d => ({ d with pcieSeen := true } : Dev).causeOff 1)

end Sys2Proof.Machine
end

