-- ==== Sys2Proof/Machine/Commit.lean ====
section
/-! DEFINITION. A commit from the end of its checks to its own end (R75 to R83, 02_structure_images.md). -/

namespace Sys2Proof.Machine

/-! ### The checks (R75) -/

/-- The bodies of the staged image that a set of regions names. -/
def Dev.stagedBodies (d : Dev) (rs : List Nat) : List (Nat × Parsed) :=
  (imageBodies d.str.cfgSram).filter (fun e => decide (e.1 ∈ rs))

/-- What refuses the running commit, in the order of Table 10: what is wrong in the structure that would result, with the named regions
that the image holds; a region it lacks; a GLOBAL that names fewer than all. With no staged image no structure would result, so that
NOT_STAGED comes first (DEDUCED, notes/assumptions/31.md). -/
def Dev.commitBad (d : Dev) : Option (Nat × Nat) :=
  let rs := d.str.committing
  if d.get Fld.STR_STATE.STAGE ≠ 3 then some (0x17, noItem)
  else match d.commitCheck (d.stagedBodies rs) with
    | some e => some e
    | none =>
      if rs.isEmpty || rs.any (fun r => !decide (r ∈ imgPresent d.str.cfgSram)) then some (0x18, noItem)
      else if rs.contains 0 && rs.length != 8 then some (0x19, noItem)
      else none

/-- Block resets that have waited for a commit run (R79). -/
def State.runWaiting (s : State) : State :=
  s.dev.resetWait.foldl (fun s b => s.blockReset b) { s with dev := { s.dev with resetWait := [] } }

/-- The commit is refused: no region changes. -/
def State.refuseCommit (code detail : Nat) (s : State) : State :=
  let d := s.dev.strFail code detail 3 33
  let d : Dev := { d with str := { d.str with committing := [] } }
  ({ s with dev := d.put Fld.STR_STATE.COMMIT 0 } : State).runWaiting

/-! ### Maintenance (R76, R81) -/

/-- What region r does as it enters maintenance; before it, RSTR is set. -/
def State.enterRegion (s : State) (r : Nat) : State :=
  match r with
  | 1 => { s with dev := s.dev.clpTxCheck 0 }
  | 2 => { s with dev := s.dev.clpTxCheck 1 }
  | 3 => { s with dev := (s.dev.frmApply 0).frmApply 1 }
  | 5 => { s with dev := s.dev.stopEngines }
  | 6 => let s := s.endCaptures
         { s with dev := s.dev.playersIdle }
  | 7 => { s with dev := s.dev.linksCheck }
  | _ => s

/-- The regions rs of the running commit restructure together. -/
def State.enterMaintenance (s : State) : State :=
  let rs := s.dev.str.committing
  let d := (s.dev.put Fld.STR_STATE.COMMIT 2).withLines (fun d => rs.foldl (fun d r => d.setBit Reg.STR_STATE (24 + r)) d)
  (rs.foldl State.enterRegion { s with dev := d }).switchChanged s.dev

/-- The commit checks end (R75, R80). -/
def State.commitChecked (s : State) : State :=
  let d := s.dev
  if d.get Fld.STR_STATE.COMMIT ≠ 1 then s
  else match d.commitBad with
    | some (c, o) => s.refuseCommit c o
    | none =>
      if d.str.committing.contains 0 then { s with dev := d.put Fld.STR_STATE.COMMIT 3 } else s.enterMaintenance

/-! ### The end (R77) -/

/-- The blocks that hold registers of a region (Table 1). -/
def regionBlocks : Nat → List Nat
  | 0 => [9, 13]
  | 1 => [2, 4, 12]
  | 2 => [3, 4, 12]
  | 3 => [5, 6, 7]
  | 4 => [8]
  | 5 => [10]
  | 6 => [9, 11]
  | 7 => [14, 8]
  | _ => []

/-- The queue maps of the committed regions take effect together: captures to queues that go lose their records (R559). -/
def State.installMaps (s : State) (maps : List (Nat × List QueueDecl)) : State :=
  s.onDev (fun d => ((d.queuesGone maps).foldl (fun d q => d.queueLost q) d).installQueues maps)

/-- The programs of PROBE take effect: an engine without one is EMPTY. -/
def Dev.installPrograms (d : Dev) (l : List (Nat × List Word)) : Dev :=
  Dev.forUpTo 64 (fun d n => match l.find? (fun e => e.1 == n) with
    | some (_, ws) => d.setEng n { prog := ws }
    | none => (d.setEng n {}).setReg (Reg.PRB_ENG_STATUS n) 0) d

/-- The presets that name lane l (R81). -/
def Dev.lanePresets (d : Dev) (l : Nat) : List Preset :=
  [4, 7].flatMap (fun r => match d.body r with
    | some b => b.presets.filter (fun p => hostLaneOf p.addr == some l)
    | none => [])

/-- Lanes whose presets or claims differ from those of d restart training; the others keep their link (R81). -/
def Dev.retrainLanes (d0 d : Dev) : Dev :=
  (Dev.forUpTo 48 (fun d l =>
    if decide (d0.lanePresets l = d.lanePresets l) && d0.claimed l == d.claimed l then d
    else if 1 ≤ d.laneState l ∧ d.laneState l ≤ 3 then d.laneBack l else d) d).lanesCheck

/-- The buffer a bank of capture SRAM belongs to. -/
def Dev.bankUse (d : Dev) (j : Nat) : Option Nat :=
  (List.range 16).find? (fun b => d.isSet (Fld.CAP_SBUF_CTL.EN b) && decide (d.bufFirst b ≤ j) && decide (j < d.bufFirst b + d.bufBanks b))

/-- Banks that do not keep their use from d0 have undefined contents (R83); a bank has eight pages. -/
def State.renewBanks (d0 : Dev) (s : State) : State :=
  { s with sram := (List.range 12).foldl (fun m j =>
      if d0.bankUse j = s.dev.bankUse j ∧ (d0.bankUse j).isSome then m
      else (List.range 8).foldl (fun m i => m.forgetPage (8 * j + i)) m) s.sram }

/-- Region r starts its own acquisition after its presets; d0 is the device before the commit's end. -/
def State.startRegion (d0 : Dev) (s : State) (r : Nat) : State :=
  let d := s.dev
  match r with
  | 1 => { s with dev := (d.cnvCheck 0).clpTxCheck 0 }
  | 2 => { s with dev := (d.cnvCheck 1).clpTxCheck 1 }
  | 3 =>
    let keep (k : Nat) : Bool := decide (k < 2) || (d.flowOf ((k - 2) / 2)).isSome
    let d : Dev := { d with frm := { d.frm with align := d.frm.align.filter (fun e => keep e.1) } }
    s.onDev (fun _ => ((d.tsiCommit.reownSlots d0.encFlows).mrgStart true).hstCheck)
  | 4 => { s with dev := d0.retrainLanes d }
  | 5 => { s with dev := d.clearProbeCounts.startEngines }
  | 6 =>
    let s := (s.renewBanks d0).chainsReset 0xFF
    let d := Dev.forUpTo 96 (fun d t => d.setTap t { d.tap t with unitBase := d.entriesBefore t d.tapLog.length }) s.dev
    { s with dev := d.playersIdle }
  | 7 => { s with dev := (d0.retrainLanes d).linksCheck }
  | _ => s

/-- The running commit ends: connections, programs and queue maps are installed, then the presets are applied (R77). -/
def State.commitEnds (s : State) : State :=
  let d0 := s.dev
  if d0.get Fld.STR_STATE.COMMIT ≠ 2 then s
  else
    let rs := d0.str.committing
    let img := d0.str.cfgSram
    let bodies : List (Nat × RegionBody) := (d0.stagedBodies rs).map (fun e => (e.1, e.2.body (BitVec.ofNat 32 (imgId img))))
    let d : Dev := { d0 with
      str := { d0.str with
        active := bodies.foldl (fun l e => Sparse.insert e.1 e.2 l) d0.str.active, committing := [] },
      sec := { d0.sec with regionDigest := rs.foldl (fun l r => Sparse.insert r (imageDigest img) l) d0.sec.regionDigest } }
    let d := rs.foldl (fun d r => (d.setBit Reg.STR_ACTIVE r).setReg (Reg.STR_REGION_IMG r) (BitVec.ofNat 32 (imgId img))) d
    let d := (d.incSat Fld.STR_ACTIVE.COMMITS).setTime3 Reg.STR_CMT_TIME_LO d.tc
    let d := (d.withLines (fun d => d.put Fld.STR_STATE.RSTR 0)).put Fld.STR_STATE.COMMIT 0
    let d := bodies.foldl (fun d e => if e.1 = 5 then d.installPrograms e.2.programs else d) d
    let s : State := ({ s with dev := d } : State).installMaps (bodies.map (fun e => (e.1, e.2.queues)))
    let s := s.applyPresets (bodies.map (fun e => e.2.presets)) ((rs.flatMap regionBlocks).eraseDups)
    let s := rs.foldl (State.startRegion d0) s
    let s := s.switchChanged d0
    ({ s with dev := (s.dev.consCheck.regrant).setInt intSTR 2 } : State).runWaiting

/-! ### GLOBAL (R80) -/

/-- Lyfate resets the chip for a GLOBAL commit; configuration SRAM keeps the staged image. -/
def State.globalReset (s : State) : State :=
  if s.dev.get Fld.STR_STATE.COMMIT ≠ 3 then s
  else
    let img := s.dev.str.cfgSram
    let s := s.chipReset 5
    { s with dev := ({ s.dev with str := { s.dev.str with cfgSram := img, globalPending := true } } : Dev).put Fld.STR_STATE.STAGE 3 }

/-- After trusted boot Lyfate verifies the image again in full and commits all eight regions; where the verification fails every region
stays empty. -/
def State.globalAgain (s : State) : State :=
  let d := s.dev
  if !d.str.globalPending || decide (d.stage < 2) then s
  else
    let d : Dev := { d with str := { d.str with globalPending := false, committing := List.range 8 } }
    match d.verifyImage d.str.cfgSram.length with
    | some (c, o) => { s with dev := { d with str := { d.str with committing := [] } }.loadFail c o }
    | none => match d.commitBad with
      | some (c, o) => ({ s with dev := d } : State).refuseCommit c o
      | none => ({ s with dev := d } : State).enterMaintenance

/-! ### Meanings -/

/-- COMMIT_CHECKS_DONE (R75). -/
def execCommitChecksDone := runState State.commitChecked
/-- COMMIT_END (R77). -/
def execCommitEnd := runState State.commitEnds
/-- COMMIT_LATE (R76). -/
def execCommitLate := runDev (fun d => if d.get Fld.STR_STATE.COMMIT = 2 then d.raise 34 else d)
/-- GLOBAL_COMMIT_RESET (R80). -/
def execGlobalCommitReset := runState State.globalReset
/-- GLOBAL_RECOMMIT (R80). -/
def execGlobalRecommit := runState State.globalAgain

end Sys2Proof.Machine
end

