-- ==== Sys2Proof/Machine/Forward.lean ====
section
/-! DEFINITION. Control forwarded to this module over Horug: FWD_EXECUTE (R464, R44, R81; 15_horug_chain.md). -/

namespace Sys2Proof.Machine

/-- The access that a forwarded transaction makes here: a whole word; it never forwards again, so GO of CHN_FWD_CTL is not carried
(R464). -/
def CtrlTrans.access (x : CtrlTrans) : RegAccess :=
  { addr := x.addr, width := 4, be := 0xF,
    data := if x.op = 2 then some (if x.addr = 0xE00038 then x.data &&& 0x7FFFFFFF else x.data) else none }

/-- The completion of a forwarded transaction with its data; STATUS is OK. -/
def CtrlTrans.completion (x : CtrlTrans) (w : Word) : CtrlTrans := { x with op := x.op + 2, data := w, status := 0 }

/-- A completion waits for the link towards its origin. -/
def Dev.reply (d : Dev) (origin : Nat) (x : CtrlTrans) : Dev :=
  { d with chn := { d.chn with ctrlOut := d.chn.ctrlOut ++ [(origin, x)] } }

/-- The oldest forwarded transaction of position origin is executed as this module's PCIe requester, and its completion sent
(R464). The data of a write's completion is not stated: free. While CHAIN restructures the access is discarded and a read completes
with zero data (R81). The PCIe requester's own last read is not disturbed. -/
def State.fwdExecute (origin : Nat) (s : State) : State :=
  match s.dev.chn.ctrlIn with
  | [] => s
  | x :: rest =>
    let d := { s.dev with chn := { s.dev.chn with ctrlIn := rest } }
    if d.restructuring 7 then { s with dev := if x.op = 1 then d.reply origin (x.completion 0) else d }
    else if !d.reaches .pcie (x.addr / 0x100000) then { s with dev := d }
    else
      let s' := ({ s with dev := d } : State).access .pcie x.access
      let (v, d') := s'.dev.draw (2 ^ 32)
      let w := if x.op = 1 then Sparse.get 0 s'.dev.rdata Requester.pcie.code else BitVec.ofNat 32 v
      { s' with dev := { d' with rdata := s.dev.rdata }.reply origin (x.completion w) }

/-! ### Meaning -/

/-- FWD_EXECUTE (R464). -/
def execFwdExecute (origin : Fin 4) := runBlockState 14 (State.fwdExecute origin.val)

end Sys2Proof.Machine
end

