-- ==== Sys2Proof/Machine/Dispatch.lean ====
section
/-! DEFINITION. One arm for each command: a direct call of its meaning. -/

namespace Sys2Proof.Machine

/-- The effect of a command on everything but the queue of waiting commands. -/
def exec (i : Instr) (s : State) : Host.Outcome State Fault Refusal :=
  match i with
  | .registerWrite req acc => Sys2Proof.Machine.execRegisterWrite req acc s
  | .rcRead req addr => Sys2Proof.Machine.execRcRead req addr s
  | .loReadSnapshot req addr => Sys2Proof.Machine.execLoReadSnapshot req addr s
  | .hiWriteApply req addr value => Sys2Proof.Machine.execHiWriteApply req addr value s
  | .glbFence req token => Sys2Proof.Machine.execGlbFence req token s
  | .fenceDone req => Sys2Proof.Machine.execFenceDone req s
  | .shadowCopy unit => Sys2Proof.Machine.execShadowCopy unit s
  | .shadowHoldClear req block => Sys2Proof.Machine.execShadowHoldClear req block s
  | .blockReset req block => Sys2Proof.Machine.execBlockReset req block s
  | .blockResetDone block => Sys2Proof.Machine.execBlockResetDone block s
  | .chipReset req key chip => Sys2Proof.Machine.execChipReset req key chip s
  | .powerOn straps => Sys2Proof.Machine.execPowerOn straps s
  | .vinLoss => Sys2Proof.Machine.execVinLoss s
  | .pcieFunctionReset => Sys2Proof.Machine.execPcieFunctionReset s
  | .pcieDown => Sys2Proof.Machine.execPcieDown s
  | .loadStart req src => Sys2Proof.Machine.execLoadStart req src s
  | .loadFetchDone data => Sys2Proof.Machine.execLoadFetchDone data s
  | .loadVerifyDone => Sys2Proof.Machine.execLoadVerifyDone s
  | .commit req key mask => Sys2Proof.Machine.execCommit req key mask s
  | .commitChecksDone => Sys2Proof.Machine.execCommitChecksDone s
  | .commitEnd => Sys2Proof.Machine.execCommitEnd s
  | .commitLate => Sys2Proof.Machine.execCommitLate s
  | .globalCommitReset => Sys2Proof.Machine.execGlobalCommitReset s
  | .globalRecommit => Sys2Proof.Machine.execGlobalRecommit s
  | .cnvRateWrite req x m => Sys2Proof.Machine.execCnvRateWrite req x m s
  | .cnvEnWrite req x en => Sys2Proof.Machine.execCnvEnWrite req x en s
  | .converterLocked x c => Sys2Proof.Machine.execConverterLocked x c s
  | .cnvUnlock x => Sys2Proof.Machine.execCnvUnlock x s
  | .calStep x c est => Sys2Proof.Machine.execCalStep x c est s
  | .calNow req x => Sys2Proof.Machine.execCalNow req x s
  | .adcOverrange x a gap => Sys2Proof.Machine.execAdcOverrange x a gap s
  | .rxLosEnter x below => Sys2Proof.Machine.execRxLosEnter x below s
  | .losExit x below => Sys2Proof.Machine.execLosExit x below s
  | .cdSearchDone x coarse fine => Sys2Proof.Machine.execCdSearchDone x coarse fine s
  | .timingDone x => Sys2Proof.Machine.execTimingDone x s
  | .foAcqDone x => Sys2Proof.Machine.execFoAcqDone x s
  | .blindDone x => Sys2Proof.Machine.execBlindDone x s
  | .syncFound x word0 word1 => Sys2Proof.Machine.execSyncFound x word0 word1 s
  | .trackEnter x => Sys2Proof.Machine.execTrackEnter x s
  | .acqTimeout x => Sys2Proof.Machine.execAcqTimeout x s
  | .dspRestart req x => Sys2Proof.Machine.execDspRestart req x s
  | .syncLoss x pilots => Sys2Proof.Machine.execSyncLoss x pilots s
  | .monUpdate x m => Sys2Proof.Machine.execMonUpdate x m s
  | .guardWindow x obsX obsY => Sys2Proof.Machine.execGuardWindow x obsX obsY s
  | .cycleSlip x => Sys2Proof.Machine.execCycleSlip x s
  | .fadeDone x => Sys2Proof.Machine.execFadeDone x s
  | .pdCoefWrite req x bank dac tap coef => Sys2Proof.Machine.execPdCoefWrite req x bank dac tap coef s
  | .superframeEncode x bits => Sys2Proof.Machine.execSuperframeEncode x bits s
  | .superframeDecode x llrs => Sys2Proof.Machine.execSuperframeDecode x llrs s
  | .fecCntClr req x => Sys2Proof.Machine.execFecCntClr req x s
  | .fasMatch unit offset head errs => Sys2Proof.Machine.execFasMatch unit offset head errs s
  | .mfCheckFrame unit head => Sys2Proof.Machine.execMfCheckFrame unit head s
  | .revoke unit => Sys2Proof.Machine.execRevoke unit s
  | .barExpiry unit offset => Sys2Proof.Machine.execBarExpiry unit offset s
  | .oof unit => Sys2Proof.Machine.execOof unit s
  | .oomSet unit => Sys2Proof.Machine.execOomSet unit s
  | .oomClear unit => Sys2Proof.Machine.execOomClear unit s
  | .lofChange unit => Sys2Proof.Machine.execLofChange unit s
  | .lomChange unit => Sys2Proof.Machine.execLomChange unit s
  | .ohAccept item => Sys2Proof.Machine.execOhAccept item s
  | .apsAccept f oh => Sys2Proof.Machine.execApsAccept f oh s
  | .mapErr f => Sys2Proof.Machine.execMapErr f s
  | .tsiSbyWrite req set slot value => Sys2Proof.Machine.execTsiSbyWrite req set slot value s
  | .tsiCopy req set => Sys2Proof.Machine.execTsiCopy req set s
  | .tsiCopyDone set => Sys2Proof.Machine.execTsiCopyDone set s
  | .tsiSwap req set => Sys2Proof.Machine.execTsiSwap req set s
  | .tsiSwapApply set => Sys2Proof.Machine.execTsiSwapApply set s
  | .keyLoad ch => Sys2Proof.Machine.execKeyLoad ch s
  | .keyErase ch => Sys2Proof.Machine.execKeyErase ch s
  | .cryptoBlockTx f frames => Sys2Proof.Machine.execCryptoBlockTx f frames s
  | .cryptoBlockRx f frames following => Sys2Proof.Machine.execCryptoBlockRx f frames following s
  | .cryptoLate f tx => Sys2Proof.Machine.execCryptoLate f tx s
  | .cryptoJob => Sys2Proof.Machine.execCryptoJob s
  | .cryptoJobDone j => Sys2Proof.Machine.execCryptoJobDone j s
  | .drbgReseed => Sys2Proof.Machine.execDrbgReseed s
  | .entropyFail => Sys2Proof.Machine.execEntropyFail s
  | .mergeDup f frame => Sys2Proof.Machine.execMergeDup f frame s
  | .mergeCopy f path frame uncorrected => Sys2Proof.Machine.execMergeCopy f path frame uncorrected s
  | .mergeSlot f => Sys2Proof.Machine.execMergeSlot f s
  | .pathTimeout f path => Sys2Proof.Machine.execPathTimeout f path s
  | .pathSignalFail f path => Sys2Proof.Machine.execPathSignalFail f path s
  | .pathSignalClear f path => Sys2Proof.Machine.execPathSignalClear f path s
  | .anchor f => Sys2Proof.Machine.execAnchor f s
  | .anchorTimeout f => Sys2Proof.Machine.execAnchorTimeout f s
  | .realign req f => Sys2Proof.Machine.execRealign req f s
  | .heartbeatLoss src => Sys2Proof.Machine.execHeartbeatLoss src s
  | .octetRelock req g value => Sys2Proof.Machine.execOctetRelock req g value s
  | .octetLock g => Sys2Proof.Machine.execOctetLock g s
  | .signalDetect l eq => Sys2Proof.Machine.execSignalDetect l eq s
  | .signalLoss l => Sys2Proof.Machine.execSignalLoss l s
  | .trainDone l eq => Sys2Proof.Machine.execTrainDone l eq s
  | .trainTimeout l => Sys2Proof.Machine.execTrainTimeout l s
  | .retryTimer l => Sys2Proof.Machine.execRetryTimer l s
  | .laneRestart req l => Sys2Proof.Machine.execLaneRestart req l s
  | .laneCtlWrite req w => Sys2Proof.Machine.execLaneCtlWrite req w s
  | .txFirWrite req l reg value => Sys2Proof.Machine.execTxFirWrite req l reg value s
  | .prbsLock seen => Sys2Proof.Machine.execPrbsLock seen s
  | .prbsLoss l errs => Sys2Proof.Machine.execPrbsLoss l errs s
  | .prbsCntClr req l => Sys2Proof.Machine.execPrbsCntClr req l s
  | .rsCodeword c corrected uncorrected => Sys2Proof.Machine.execRsCodeword c corrected uncorrected s
  | .clientCntClr req c => Sys2Proof.Machine.execClientCntClr req c s
  | .frameLock l => Sys2Proof.Machine.execFrameLock l s
  | .frameLockLoss l => Sys2Proof.Machine.execFrameLockLoss l s
  | .tsucorFrameRx l frame => Sys2Proof.Machine.execTsucorFrameRx l frame s
  | .tsuHelloTx => Sys2Proof.Machine.execTsuHelloTx s
  | .partnerTimeout l => Sys2Proof.Machine.execPartnerTimeout l s
  | .dbProd req q n => Sys2Proof.Machine.execDbProd req q n s
  | .dbCons req q n => Sys2Proof.Machine.execDbCons req q n s
  | .windowRead r offset len => Sys2Proof.Machine.execWindowRead r offset len s
  | .windowWrite r offset data => Sys2Proof.Machine.execWindowWrite r offset data s
  | .dmaProd req ch prod => Sys2Proof.Machine.execDmaProd req ch prod s
  | .dmaDescriptor ch desc => Sys2Proof.Machine.execDmaDescriptor ch desc s
  | .dmaComplete ch data busError => Sys2Proof.Machine.execDmaComplete ch data busError s
  | .dmaAbort req ch => Sys2Proof.Machine.execDmaAbort req ch s
  | .hbmOp pc waiting done ecc => Sys2Proof.Machine.execHbmOp pc waiting done ecc s
  | .grantRecompute exits => Sys2Proof.Machine.execGrantRecompute exits s
  | .admLimitWrite req limit => Sys2Proof.Machine.execAdmLimitWrite req limit s
  | .queueCaptureWrite t item bufferFull => Sys2Proof.Machine.execQueueCaptureWrite t item bufferFull s
  | .carouselArm src q => Sys2Proof.Machine.execCarouselArm src q s
  | .carouselTrigger src q => Sys2Proof.Machine.execCarouselTrigger src q s
  | .carouselStop src q => Sys2Proof.Machine.execCarouselStop src q s
  | .pagingResume req q => Sys2Proof.Machine.execPagingResume req q s
  | .qEnWrite req q en => Sys2Proof.Machine.execQEnWrite req q en s
  | .pageOut q => Sys2Proof.Machine.execPageOut q s
  | .pageAck => Sys2Proof.Machine.execPageAck s
  | .pageAckTimeout tag => Sys2Proof.Machine.execPageAckTimeout tag s
  | .pageIn q lpage => Sys2Proof.Machine.execPageIn q lpage s
  | .pageData => Sys2Proof.Machine.execPageData s
  | .spillRecordSend q => Sys2Proof.Machine.execSpillRecordSend q s
  | .streamSeqTimeout q => Sys2Proof.Machine.execStreamSeqTimeout q s
  | .engineRun req mask => Sys2Proof.Machine.execEngineRun req mask s
  | .engineHalt req mask => Sys2Proof.Machine.execEngineHalt req mask s
  | .engineRestart req eng => Sys2Proof.Machine.execEngineRestart req eng s
  | .engineStep req eng => Sys2Proof.Machine.execEngineStep req eng s
  | .nop eng => Sys2Proof.Machine.execNop eng s
  | .halt eng => Sys2Proof.Machine.execHalt eng s
  | .alu eng => Sys2Proof.Machine.execAlu eng s
  | .addi eng => Sys2Proof.Machine.execAddi eng s
  | .ldi eng => Sys2Proof.Machine.execLdi eng s
  | .ins eng => Sys2Proof.Machine.execIns eng s
  | .br eng => Sys2Proof.Machine.execBr eng s
  | .jmp eng => Sys2Proof.Machine.execJmp eng s
  | .jal eng => Sys2Proof.Machine.execJal eng s
  | .jr eng => Sys2Proof.Machine.execJr eng s
  | .wait eng => Sys2Proof.Machine.execWait eng s
  | .waitRelease eng => Sys2Proof.Machine.execWaitRelease eng s
  | .evrd eng => Sys2Proof.Machine.execEvrd eng s
  | .evclr eng => Sys2Proof.Machine.execEvclr eng s
  | .esel eng => Sys2Proof.Machine.execEsel eng s
  | .tset eng => Sys2Proof.Machine.execTset eng s
  | .trd eng => Sys2Proof.Machine.execTrd eng s
  | .timerExpiry eng timer => Sys2Proof.Machine.execTimerExpiry eng timer s
  | .cntInc eng => Sys2Proof.Machine.execCntInc eng s
  | .cntAdd eng => Sys2Proof.Machine.execCntAdd eng s
  | .cntWr eng => Sys2Proof.Machine.execCntWr eng s
  | .cntRd eng => Sys2Proof.Machine.execCntRd eng s
  | .prbCntWrite req counter hi => Sys2Proof.Machine.execPrbCntWrite req counter hi s
  | .trigPulse eng => Sys2Proof.Machine.execTrigPulse eng s
  | .trigSet eng => Sys2Proof.Machine.execTrigSet eng s
  | .trigClr eng => Sys2Proof.Machine.execTrigClr eng s
  | .trigOutPulseEnd eng pin => Sys2Proof.Machine.execTrigOutPulseEnd eng pin s
  | .capStart eng => Sys2Proof.Machine.execCapStart eng s
  | .capStop eng => Sys2Proof.Machine.execCapStop eng s
  | .capMark eng => Sys2Proof.Machine.execCapMark eng s
  | .capDest eng => Sys2Proof.Machine.execCapDest eng s
  | .qcmdArm eng => Sys2Proof.Machine.execQcmdArm eng s
  | .qcmdTrigger eng => Sys2Proof.Machine.execQcmdTrigger eng s
  | .qcmdStop eng => Sys2Proof.Machine.execQcmdStop eng s
  | .playStart eng => Sys2Proof.Machine.execPlayStart eng s
  | .playNext eng => Sys2Proof.Machine.execPlayNext eng s
  | .playStop eng => Sys2Proof.Machine.execPlayStop eng s
  | .tsr eng => Sys2Proof.Machine.execTsr eng s
  | .get eng => Sys2Proof.Machine.execGet eng s
  | .put eng => Sys2Proof.Machine.execPut eng s
  | .sig eng => Sys2Proof.Machine.execSig eng s
  | .trigInAssert pin => Sys2Proof.Machine.execTrigInAssert pin s
  | .secondEvent => Sys2Proof.Machine.execSecondEvent s
  | .pmMatch matcher windows => Sys2Proof.Machine.execPmMatch matcher windows s
  | .pmLoad req matcher => Sys2Proof.Machine.execPmLoad req matcher s
  | .pmHitsClr req matcher => Sys2Proof.Machine.execPmHitsClr req matcher s
  | .tapStart t dest => Sys2Proof.Machine.execTapStart t dest s
  | .tapStop t => Sys2Proof.Machine.execTapStop t s
  | .tapMark t value => Sys2Proof.Machine.execTapMark t value s
  | .tapDest t dest => Sys2Proof.Machine.execTapDest t dest s
  | .recordClose t => Sys2Proof.Machine.execRecordClose t s
  | .recordFlush t => Sys2Proof.Machine.execRecordFlush t s
  | .tapRetry t item => Sys2Proof.Machine.execTapRetry t item s
  | .tapSourceLoss t => Sys2Proof.Machine.execTapSourceLoss t s
  | .tapSourceReturn t => Sys2Proof.Machine.execTapSourceReturn t s
  | .bufferCaptureEnd t => Sys2Proof.Machine.execBufferCaptureEnd t s
  | .sramOvf t => Sys2Proof.Machine.execSramOvf t s
  | .decReset c => Sys2Proof.Machine.execDecReset c s
  | .capSyncReset req mask => Sys2Proof.Machine.execCapSyncReset req mask s
  | .decSaturation c => Sys2Proof.Machine.execDecSaturation c s
  | .playerStart p seg => Sys2Proof.Machine.execPlayerStart p seg s
  | .playerNext p seg => Sys2Proof.Machine.execPlayerNext p seg s
  | .playerStop p => Sys2Proof.Machine.execPlayerStop p s
  | .playerPassEnd p => Sys2Proof.Machine.execPlayerPassEnd p s
  | .playerUnderrun p => Sys2Proof.Machine.execPlayerUnderrun p s
  | .segWrite req seg word value => Sys2Proof.Machine.execSegWrite req seg word value s
  | .clpPush req x => Sys2Proof.Machine.execClpPush req x s
  | .clpHelloTimer x => Sys2Proof.Machine.execClpHelloTimer x s
  | .clpTxPacket x => Sys2Proof.Machine.execClpTxPacket x s
  | .clpTxDone x => Sys2Proof.Machine.execClpTxDone x s
  | .clpTxAbort x => Sys2Proof.Machine.execClpTxAbort x s
  | .clpRxOff x => Sys2Proof.Machine.execClpRxOff x s
  | .clpRxOn x => Sys2Proof.Machine.execClpRxOn x s
  | .agcUpdate x wanted => Sys2Proof.Machine.execAgcUpdate x wanted s
  | .preambleDetect x phase power gain => Sys2Proof.Machine.execPreambleDetect x phase power gain s
  | .syncWordFound x decided rssi => Sys2Proof.Machine.execSyncWordFound x decided rssi s
  | .syncTmo x => Sys2Proof.Machine.execSyncTmo x s
  | .packetReceived x header payload crc taps => Sys2Proof.Machine.execPacketReceived x header payload crc taps s
  | .partnerExpiry x n => Sys2Proof.Machine.execPartnerExpiry x n s
  | .clpPop req x => Sys2Proof.Machine.execClpPop req x s
  | .eqReset req x => Sys2Proof.Machine.execEqReset req x s
  | .refActivityLoss cand => Sys2Proof.Machine.execRefActivityLoss cand s
  | .refActivityReturn cand => Sys2Proof.Machine.execRefActivityReturn cand s
  | .freqMeasure cand offset => Sys2Proof.Machine.execFreqMeasure cand offset s
  | .wtrExpiry cand => Sys2Proof.Machine.execWtrExpiry cand s
  | .refSelect phase => Sys2Proof.Machine.execRefSelect phase s
  | .dpllModeWrite req mode phase => Sys2Proof.Machine.execDpllModeWrite req mode phase s
  | .dpllLock phaseErr => Sys2Proof.Machine.execDpllLock phaseErr s
  | .dpllUnlock phaseErr => Sys2Proof.Machine.execDpllUnlock phaseErr s
  | .hoValidSet => Sys2Proof.Machine.execHoValidSet s
  | .xoFail => Sys2Proof.Machine.execXoFail s
  | .rootUnlock => Sys2Proof.Machine.execRootUnlock s
  | .pullDone => Sys2Proof.Machine.execPullDone s
  | .tcSet req => Sys2Proof.Machine.execTcSet req s
  | .tcStep req hi => Sys2Proof.Machine.execTcStep req hi s
  | .tcLoadSync req => Sys2Proof.Machine.execTcLoadSync req s
  | .pulseAlign req => Sys2Proof.Machine.execPulseAlign req s
  | .ppsOutPulse => Sys2Proof.Machine.execPpsOutPulse s
  | .frameOutPulse => Sys2Proof.Machine.execFrameOutPulse s
  | .syncInAssert => Sys2Proof.Machine.execSyncInAssert s
  | .ppsInAssert => Sys2Proof.Machine.execPpsInAssert s
  | .syncCmd req => Sys2Proof.Machine.execSyncCmd req s
  | .syncEvent => Sys2Proof.Machine.execSyncEvent s
  | .ptpTxMessage msg => Sys2Proof.Machine.execPtpTxMessage msg s
  | .ptpRxMessage msg => Sys2Proof.Machine.execPtpRxMessage msg s
  | .ptpPop req rx => Sys2Proof.Machine.execPtpPop req rx s
  | .linkFrameTx k odu => Sys2Proof.Machine.execLinkFrameTx k odu s
  | .linkFrameRx k bytes => Sys2Proof.Machine.execLinkFrameRx k bytes s
  | .horugHelloTx => Sys2Proof.Machine.execHorugHelloTx s
  | .linkHelloTimeout k => Sys2Proof.Machine.execLinkHelloTimeout k s
  | .chnErrorClear e => Sys2Proof.Machine.execChnErrorClear e s
  | .timeAlign => Sys2Proof.Machine.execTimeAlign s
  | .chainEdgeApply => Sys2Proof.Machine.execChainEdgeApply s
  | .chainSyncOriginate sw => Sys2Proof.Machine.execChainSyncOriginate sw s
  | .fwdGo req write => Sys2Proof.Machine.execFwdGo req write s
  | .fwdExecute origin => Sys2Proof.Machine.execFwdExecute origin s
  | .fwdComplete => Sys2Proof.Machine.execFwdComplete s
  | .fwdTimeout req => Sys2Proof.Machine.execFwdTimeout req s
  | .bootRomFetch => Sys2Proof.Machine.execBootRomFetch s
  | .trustedBootComplete => Sys2Proof.Machine.execTrustedBootComplete s
  | .appLoadDone => Sys2Proof.Machine.execAppLoadDone s
  | .getInfo ch => Sys2Proof.Machine.execGetInfo ch s
  | .getCert ch => Sys2Proof.Machine.execGetCert ch s
  | .attest ch => Sys2Proof.Machine.execAttest ch s
  | .getChallenge ch => Sys2Proof.Machine.execGetChallenge ch s
  | .kekExchange ch => Sys2Proof.Machine.execKekExchange ch s
  | .enrollKey ch burnt => Sys2Proof.Machine.execEnrollKey ch burnt s
  | .revokeKey ch burnt => Sys2Proof.Machine.execRevokeKey ch burnt s
  | .setCustOnly ch burnt => Sys2Proof.Machine.execSetCustOnly ch burnt s
  | .advanceSecver ch burnt => Sys2Proof.Machine.execAdvanceSecver ch burnt s
  | .fwWrite ch flashOk => Sys2Proof.Machine.execFwWrite ch flashOk s
  | .fwSelect ch flashOk => Sys2Proof.Machine.execFwSelect ch flashOk s
  | .debugUnlock ch => Sys2Proof.Machine.execDebugUnlock ch s
  | .recover ch image => Sys2Proof.Machine.execRecover ch image s
  | .mbComplete ch => Sys2Proof.Machine.execMbComplete ch s
  | .wdtKick req key => Sys2Proof.Machine.execWdtKick req key s
  | .wdtExpiry => Sys2Proof.Machine.execWdtExpiry s
  | .faultCause f => Sys2Proof.Machine.execFaultCause f s
  | .faultMsi => Sys2Proof.Machine.execFaultMsi s
  | .stickyClear req f => Sys2Proof.Machine.execStickyClear req f s
  | .firstClear req => Sys2Proof.Machine.execFirstClear req s
  | .clrAll req => Sys2Proof.Machine.execClrAll req s
  | .arm req => Sys2Proof.Machine.execArm req s
  | .disarm req => Sys2Proof.Machine.execDisarm req s
  | .injPulse req f => Sys2Proof.Machine.execInjPulse req f s
  | .injHold req f on => Sys2Proof.Machine.execInjHold req f on s
  | .fltEnWrite req f en => Sys2Proof.Machine.execFltEnWrite req f en s
  | .tempSample temps => Sys2Proof.Machine.execTempSample temps s
  | .powerSample vin iin doms limited => Sys2Proof.Machine.execPowerSample vin iin doms limited s
  | .railFault out => Sys2Proof.Machine.execRailFault out s
  | .thermtrip => Sys2Proof.Machine.execThermtrip s
  | .thermtripRelease => Sys2Proof.Machine.execThermtripRelease s
  | .tightropeDecision => Sys2Proof.Machine.execTightropeDecision s
  | .hkStart req ch => Sys2Proof.Machine.execHkStart req ch s
  | .hkConversionDone value => Sys2Proof.Machine.execHkConversionDone value s
  | .hkDataRead req => Sys2Proof.Machine.execHkDataRead req s
  | .hkCalNow req => Sys2Proof.Machine.execHkCalNow req s
  | .hkCalDone => Sys2Proof.Machine.execHkCalDone s
  | .i2cWrite addr bytes stop => Sys2Proof.Machine.execI2cWrite addr bytes stop s
  | .i2cRead addr n stop => Sys2Proof.Machine.execI2cRead addr n stop s
  | .i2cRefresh => Sys2Proof.Machine.execI2cRefresh s
  | .i2cTimeout => Sys2Proof.Machine.execI2cTimeout s
  | .fasMiss unit seen => Sys2Proof.Machine.execFasMiss unit seen s
  | .pathClassTimeout f path => Sys2Proof.Machine.execPathClassTimeout f path s
  | .octetUnlock g => Sys2Proof.Machine.execOctetUnlock g s
  | .pcsLaneAlignment c aligned hiSer remoteFault => Sys2Proof.Machine.execPcsLaneAlignment c aligned hiSer remoteFault s
  | .deassertionAccepted pin reverted => Sys2Proof.Machine.execDeassertionAccepted pin reverted s
  | .xoReturn => Sys2Proof.Machine.execXoReturn s
  | .rootRelock => Sys2Proof.Machine.execRootRelock s
  | .outputPulseEnd pin => Sys2Proof.Machine.execOutputPulseEnd pin s
  | .txClip x samples => Sys2Proof.Machine.execTxClip x samples s
  | .ovrLiveExpiry x adc => Sys2Proof.Machine.execOvrLiveExpiry x adc s
  | .pcieLinkUp => Sys2Proof.Machine.execPcieLinkUp s

end Sys2Proof.Machine
end

