-- ==== Sys2Proof/Machine/Tick.lean ====
section
/-! DEFINITION. One fabric tick with no command waiting: time passes (DESIGN CHOICE, notes/assumptions/2.md). -/

namespace Sys2Proof.Machine

/-- One fabric tick: pending fields of TIM take effect (R451); the counter advances by ADDEND and the pull's share, the generator
with it (R438, R436); a carry into the next second is a second event (R439); engine timers count, and bound counters count
asserted levels (R339). -/
def idleTick (d : Dev) : Dev :=
  if !d.alive then d else
    let d := d.timBoundary
    let e := d.passTicks 1
    let carry := decide (tSec d.tc < tSec e.tc)
    if carry then e.secondEvent else e

end Sys2Proof.Machine
end

