-- ==== Sys2Proof/Machine/Step.lean ====
section
/-! DEFINITION. One step of the block: the command at the front of the queue, or one fabric tick when none waits. -/

namespace Sys2Proof.Machine

/-- One step. The command at the front of the queue leaves it and has its effect. On an empty queue the block idles for one
fabric tick: time passes (DESIGN CHOICE, notes/assumptions/2.md). -/
def step (s : State) : Host.Outcome State Fault Refusal :=
  match s.pending with
  | [] => .next { s with dev := idleTick s.dev }
  | c :: rest => exec c { s with pending := rest }

/-- s with the command that the word spells in front of its queue; s itself where the word spells none. -/
def State.withFetchWord (s : State) (nbits w : Nat) : State :=
  match Sys2Proof.decodeTableWord nbits w with
  | some c => { s with pending := c :: s.pending }
  | none => s

end Sys2Proof.Machine
end

