-- ==== Sys2Proof/Safety.lean ====
section
/-! DEFINITION. What counts as a safe state of the block and the terms in which claims about commands are made: when a command is
taken, and what it leaves as it is. -/

namespace Sys2Proof.Machine

/-- A safe state: both memories stand in their one canonical form. -/
abbrev State.canonical (s : State) : Prop := s.hbm.wf = true ∧ s.sram.wf = true

/-- The chip has power and no thermal trip holds it in reset: its events happen. -/
abbrev Running (s : State) : Prop := s.dev.alive = true

/-- The chip runs and block b is not in block reset (R51): events of the block happen. -/
abbrev Working (b : Nat) (s : State) : Prop := s.dev.alive = true ∧ s.dev.inReset b = false

/-- The chip runs, the device answers the requester's access to block b, and the block is not in block reset: a write takes effect
(R47, R473, R474, R477, R501). -/
abbrev Writable (req : Requester) (b : Nat) (s : State) : Prop := s.dev.alive = true ∧ s.dev.mayWrite req b = true

/-- HBM, capture SRAM and the waiting commands are those of s. -/
abbrev SameMemory (s t : State) : Prop := t.hbm = s.hbm ∧ t.sram = s.sram ∧ t.pending = s.pending

/-- Every register outside a list of keys keeps its value. -/
def RegsKept (l : List Nat) (d e : Dev) : Prop := ∀ a, a ∉ l → e.reg a = d.reg a

/-- The command changes no memory and no register outside a list of keys. -/
def Frame (l : List Nat) (s t : State) : Prop := SameMemory s t ∧ RegsKept l s.dev t.dev

/-- The real cause of source f is present (R504). -/
abbrev Present (f : Nat) (d : Dev) : Prop := f ∈ d.causes

/-- A cause of source f is on its way to the collector (R512). -/
abbrev Arising (f : Nat) (d : Dev) : Prop := d.arising.any (fun e => e.1 == f) = true

/-! ### Shadow units, loads and commits -/

/-- The keys whose pending fields become active at the boundary of a unit (Table 3 of 01_planes_and_datapath.md): of the capture block a
tap's own, and those of the buffers without an owner. Calliope's registers, which pend in part by direction, have none here. -/
def unitKey (d : Dev) (u : ShadowUnit) (a : Nat) : Bool :=
  match u with
  | .dsp x => keyBlock a == 2 + x.val
  | .fec x => fecKey x.val a
  | .frm x => d.frmKeyPort a == some x.val
  | .cry f => cryKeyFlow a == some f.val
  | .mrg f => decide (a ∈ [Reg.MRG_FLOW_CTL f, Reg.MRG_FLOW_DELAY f, Reg.MRG_FLOW_QUEUE f, Reg.MRG_HB_CTL])
  | .hst l => decide (a ∈ [Reg.HST_LANE_CTL l, Reg.HST_HELLO_CTL])
  | .rms q => decide (Reg.RMS_Q_DESC0 q ≤ a) && decide (a < Reg.RMS_Q_DESC0 (q + 1))
  | .rmsGlobal => decide (a ∈ [Reg.RMS_ADM_LIMIT, Reg.RMS_CLASS_W0, Reg.RMS_CLASS_W1])
  | .capTap t => decide (a ∈ [Reg.CAP_TAP_CTL t, Reg.CAP_TAP_SEL t]) ||
      (List.range 16).any (fun b => d.bufOwner b == 0xFF && decide (a ∈ [Reg.CAP_SBUF_CTL b, Reg.CAP_SBUF_POST b]))
  | .clpTx _ => false
  | .clpRx _ => false
  | .tim => keyBlock a == 13
  | .chn => keyBlock a == 14

/-- A pending value of key a becomes active at the boundary of a unit: the key is the unit's, and its region does not restructure
(R35, R78). -/
def comesDue (d : Dev) (u : ShadowUnit) (a : Nat) : Bool := unitKey d u a && !d.waitsForCommit a

/-- A commit is refused with a code and its detail (R75): it is over, no region has changed, and STR.01 and its interrupt tell. -/
abbrev CommitRefused (code detail : Nat) (s t : State) : Prop :=
  t.dev.get Fld.STR_STATE.COMMIT = 0 ∧ t.dev.get Fld.STR_STATE.ERR = code % 256 ∧
    t.dev.reg Reg.STR_ERR_DETAIL = BitVec.ofNat 32 detail ∧ t.dev.str.committing = [] ∧ t.dev.str.active = s.dev.str.active ∧
    Arising 33 t.dev ∧ t.dev.bitAt Reg.STR_INT_STATUS 3 = true ∧
    (s.dev.resetWait = [] → Frame [Reg.STR_STATE, Reg.STR_ERR_DETAIL, Reg.STR_INT_STATUS] s t)

/-- The regions of a commit are in maintenance (R76): COMMIT and their RSTR bits tell, and nothing of the structure has changed yet. -/
abbrev InMaintenance (rs : List Nat) (s t : State) : Prop :=
  t.dev.get Fld.STR_STATE.COMMIT = 2 ∧ t.dev.str.active = s.dev.str.active ∧ t.dev.str.cfgSram = s.dev.str.cfgSram ∧
    t.dev.str.committing = rs ∧ ∀ r, r < 8 → (t.dev.restructuring r = true ↔ r ∈ rs ∨ s.dev.restructuring r = true)

/-! ### Framing -/

/-- The first bytes of a frame match the FAS for an aligner: all six bytes of slice 1, or bytes 2 to 5, as FAS_LEN selects (R180). -/
abbrev FasMatches (u : AlignUnit) (head : List Byte) (s : State) : Prop :=
  7 ≤ head.length ∧ (if s.dev.get (Fld.FRM_x_OTU_CTL.FAS_LEN (alignPort u)) = 1
    then sliceBytes head 0 6 = [0xF6, 0xF6, 0xF6, 0x28, 0x28, 0x28] else sliceBytes head 1 4 = [0xF6, 0xF6, 0x28, 0x28])

/-- The bytes match no FAS of either length. -/
abbrev NoFas (head : List Byte) : Prop := sliceBytes head 1 4 ≠ [0xF6, 0xF6, 0x28, 0x28]

/-- What an accepted overhead value shows (R190, Tables 16 and 19 of 06_otn_framing_and_tsi.md). -/
def AcceptedShows (i : OhItem) (s t : State) : Prop :=
  match i with
  | .smTti x bytes => ∀ k, k < 16 → t.dev.reg (Reg.FRM_x_TTI_RX x k) = BitVec.ofNat 32 (leAt bytes (4 * k) 4)
  | .smBdi x on => t.dev.get (Fld.FRM_x_SM_STATUS.BDI x) = bit on
  | .smIae x on => t.dev.get (Fld.FRM_x_SM_STATUS.IAE x) = bit on
  | .smBiae x on => t.dev.get (Fld.FRM_x_SM_STATUS.BIAE x) = bit on
  | .pmBdi x on => Sparse.get false t.dev.frm.pmBdi x.val = on
  | .pmStat x v => Sparse.get 0 t.dev.frm.pmStat x.val = v
  | .opuPt x v => t.dev.get (Fld.FRM_x_SM_STATUS.PLM x) = bit (v != 0x22)
  | .opuMsi x l => t.dev.get (Fld.FRM_x_SM_STATUS.MSIM x) = bit (l != s.dev.impliedMsi x)
  | .flowBdi f on => t.dev.get (Fld.FRM_FLOW_STATUS.BDI f) = bit on
  | .flowStat f v => t.dev.get (Fld.FRM_FLOW_STATUS.AIS f) = bit (v == 7) ∧ t.dev.get (Fld.FRM_FLOW_STATUS.LCK f) = bit (v == 5) ∧
      t.dev.get (Fld.FRM_FLOW_STATUS.OCI f) = bit (v == 6)
  | .flowPt f v => t.dev.get (Fld.FRM_FLOW_STATUS.PLM f) = bit (v != s.dev.expectedPt f)

/-! ### Payload encryption -/

/-- Flow f encrypts as number e, in a FRAMER structure that runs. -/
abbrev Encrypting (f : Fin 1280) (e : Nat) (s : State) : Prop :=
  Working 6 s ∧ s.dev.regionRuns 3 = true ∧ s.dev.eIndex f = some e

/-! ### Which commands are what -/

/-- The requester and the block of a command that is a requester's write to one block. -/
def writeOf : Instr → Option (Requester × Nat)
  | .shadowHoldClear req _ => some (req, 0)
  | .loadStart req _ => some (req, 1)
  | .commit req _ _ => some (req, 1)
  | .cnvRateWrite req x _ => some (req, 2 + x)
  | .cnvEnWrite req x _ => some (req, 2 + x)
  | .calNow req x => some (req, 2 + x)
  | .dspRestart req x => some (req, 2 + x)
  | .pdCoefWrite req x _ _ _ _ => some (req, 2 + x)
  | .fecCntClr req _ => some (req, 4)
  | .tsiSbyWrite req _ _ _ => some (req, 5)
  | .tsiCopy req _ => some (req, 5)
  | .tsiSwap req _ => some (req, 5)
  | .realign req _ => some (req, 7)
  | .octetRelock req _ _ => some (req, 8)
  | .laneRestart req _ => some (req, 8)
  | .laneCtlWrite req _ => some (req, 8)
  | .txFirWrite req _ _ _ => some (req, 8)
  | .prbsCntClr req _ => some (req, 8)
  | .clientCntClr req _ => some (req, 8)
  | .dmaProd req _ _ => some (req, 9)
  | .dmaAbort req _ => some (req, 9)
  | .admLimitWrite req _ => some (req, 9)
  | .pagingResume req _ => some (req, 9)
  | .engineRun req _ => some (req, 10)
  | .engineHalt req _ => some (req, 10)
  | .engineRestart req _ => some (req, 10)
  | .engineStep req _ => some (req, 10)
  | .prbCntWrite req _ _ => some (req, 10)
  | .pmLoad req _ => some (req, 10)
  | .pmHitsClr req _ => some (req, 10)
  | .segWrite req _ _ _ => some (req, 11)
  | .clpPush req _ => some (req, 12)
  | .clpPop req _ => some (req, 12)
  | .eqReset req _ => some (req, 12)
  | .dpllModeWrite req _ _ => some (req, 13)
  | .tcSet req => some (req, 13)
  | .tcStep req _ => some (req, 13)
  | .tcLoadSync req => some (req, 13)
  | .pulseAlign req => some (req, 13)
  | .syncCmd req => some (req, 13)
  | .ptpPop req _ => some (req, 13)
  | .fwdGo req _ => some (req, 14)
  | .wdtKick req _ => some (req, 15)
  | .stickyClear req _ => some (req, 16)
  | .firstClear req => some (req, 16)
  | .clrAll req => some (req, 16)
  | .arm req => some (req, 16)
  | .disarm req => some (req, 16)
  | .injPulse req _ => some (req, 16)
  | .injHold req _ _ => some (req, 16)
  | .fltEnWrite req _ _ => some (req, 16)
  | .hkStart req _ => some (req, 17)
  | .hkCalNow req => some (req, 17)
  | _ => none

/-- The block of a command that is an event of a block. -/
def eventOf : Instr → Option Nat
  | .shadowCopy unit => some (unitBlock unit)
  | .monUpdate x _ => some (2 + x.val)
  | .cryptoJob => some (6)
  | .cryptoJobDone _ => some (6)
  | .mergeDup _ _ => some (7)
  | .mergeCopy _ _ _ _ => some 7
  | .mergeSlot _ => some 7
  | .pathTimeout _ _ => some 7
  | .pathSignalFail _ _ => some 7
  | .pathSignalClear _ _ => some 7
  | .anchor _ => some (7)
  | .anchorTimeout _ => some (7)
  | .heartbeatLoss _ => some (7)
  | .octetLock _ => some (8)
  | .signalDetect _ _ => some (8)
  | .signalLoss _ => some (8)
  | .trainDone _ _ => some (8)
  | .trainTimeout _ => some (8)
  | .retryTimer _ => some (8)
  | .prbsLock _ => some (8)
  | .prbsLoss _ _ => some (8)
  | .rsCodeword _ _ _ => some (8)
  | .frameLock _ => some (8)
  | .frameLockLoss _ => some (8)
  | .tsucorFrameRx _ _ => some (8)
  | .tsuHelloTx => some (8)
  | .partnerTimeout _ => some (8)
  | .dmaDescriptor _ _ => some (9)
  | .dmaComplete _ _ _ => some (9)
  | .hbmOp _ _ _ _ => some (9)
  | .queueCaptureWrite _ _ _ => some (11)
  | .pageData => some (9)
  | .spillRecordSend _ => some (9)
  | .streamSeqTimeout _ => some (9)
  | .tapStart _ _ => some (11)
  | .tapStop _ => some (11)
  | .tapMark _ _ => some (11)
  | .tapDest _ _ => some (11)
  | .recordClose _ => some (11)
  | .recordFlush _ => some (11)
  | .tapRetry _ _ => some (11)
  | .tapSourceLoss _ => some (11)
  | .tapSourceReturn _ => some (11)
  | .bufferCaptureEnd _ => some (11)
  | .sramOvf _ => some (11)
  | .decReset _ => some (11)
  | .decSaturation _ => some (11)
  | .playerStart _ _ => some (11)
  | .playerNext _ _ => some (11)
  | .playerStop _ => some (11)
  | .playerPassEnd _ => some (11)
  | .playerUnderrun _ => some (11)
  | .clpHelloTimer _ => some (12)
  | .clpTxPacket _ => some (12)
  | .clpTxDone _ => some (12)
  | .clpTxAbort _ => some (12)
  | .clpRxOff _ => some (12)
  | .clpRxOn _ => some (12)
  | .agcUpdate _ _ => some (12)
  | .preambleDetect _ _ _ _ => some (12)
  | .syncWordFound _ _ _ => some (12)
  | .syncTmo _ => some (12)
  | .packetReceived _ _ _ _ _ => some (12)
  | .partnerExpiry _ _ => some (12)
  | .syncEvent => some (13)
  | .linkFrameTx _ _ => some (14)
  | .linkFrameRx _ _ => some (14)
  | .horugHelloTx => some (14)
  | .linkHelloTimeout _ => some (14)
  | .chnErrorClear _ => some (14)
  | .timeAlign => some (14)
  | .chainEdgeApply => some (14)
  | .chainSyncOriginate _ => some (14)
  | .fwdExecute _ => some (14)
  | .fwdComplete => some (14)
  | .fwdTimeout _ => some (14)
  | .pathClassTimeout _ _ => some (7)
  | .octetUnlock _ => some (8)
  | .pcsLaneAlignment _ _ _ _ => some (8)
  | _ => none

/-! ### The probe engines -/

/-- Engine n is RUNNING, the engines may issue, and instruction i stands at its PC. -/
abbrev Issuing (n : Fin 64) (i : EngIns) (s : State) : Prop :=
  Running s ∧ s.dev.enginesRun = true ∧ s.dev.engState n = 2 ∧ s.dev.insAt n = some i

/-- Another word stands after the one at the PC of engine n. -/
abbrev HasNext (n : Fin 64) (s : State) : Prop := s.dev.engPc n + 1 < (s.dev.eng n).prog.length

/-- The PC of engine n goes to the next word; PC is a 13-bit field. -/
abbrev Proceeds (n : Fin 64) (s t : State) : Prop := t.dev.engPc n = (s.dev.engPc n + 1) % 8192

/-- Register xi of engine n as a 64-bit number (R333). -/
def xOf (s : State) (n : Fin 64) (i : BitVec 6) : BitVec 64 := BitVec.ofNat 64 (s.dev.engX n i.toNat)

/-- The keys of register xi of engine n; x0 has none. -/
def xKeys (n : Fin 64) (i : BitVec 6) : List Nat :=
  if i = 0 then [] else [Reg.PRB_ENG_X_LO n i.toNat, Reg.PRB_ENG_X_LO n i.toNat + 4]

/-- An instruction of engine n writes v to register rd, which x0 discards (R333), and nothing else but the PC. -/
def WritesX (n : Fin 64) (rd : BitVec 6) (v : BitVec 64) (s t : State) : Prop :=
  xOf t n rd = (if rd = 0 then 0 else v) ∧ Frame (Reg.PRB_ENG_STATUS n :: xKeys n rd) s t

/-- A source with a code has asserted in every engine with a program: the latch of each input whose event line selects it is set (R337,
R347). -/
def Latches (code : Nat) (s t : State) : Prop :=
  (∀ e ∈ s.dev.prb.engines, e.1 < 64) → ∀ e ∈ s.dev.prb.engines, ∀ k < 16, (s.dev.reg (Reg.PRB_EVT_SRC (s.dev.get (Fld.PRB_ENG_SEL.EVENT e.1 k)))).toNat = code →
    (t.dev.engLatch e.1).testBit k = true

/-! ### Captures -/

/-- The record r in progress of tap t0's capture to a queue is closed (R369, R372, R374): to a spill queue with room it goes whole; else its
payload is padded to a granule and its header, with the tap's number, its SEQ and its length, stands in the granule kept for it. -/
def RecordClosed (t0 : Nat) (r : OpenRecord) (s t : State) : Prop :=
  let q := s.dev.tapDest t0
  let len := (r.len + 63) / 64 * 64
  (t.dev.tap t0).record = none ∧
  (s.dev.qType q = 5 → s.dev.egressFits q (64 + r.data.length + (len - r.len)) = true →
    (t.dev.q q).egress.dropLast = (s.dev.q q).egress ∧
      ((t.dev.q q).egress.getLastD []).length = 64 + r.data.length + (len - r.len) ∧ SameMemory s t) ∧
  (s.dev.qType q ≠ 5 → r.start ∉ (t.dev.q q).holes ∧ (t.dev.q q).wb = (s.dev.q q).wb + (len - r.len) ∧
    ∀ x, (s.dev.q q).pages.find? (fun p => p.lpage == 64 * r.start / pageBytes) = some x → r.len % 64 = 0 →
      let a := x.phys * pageBytes + 64 * r.start % pageBytes
      t.hbm.readBytes a 3 = leBytes 2 0x7E51 ++ leBytes 1 t0 ∧ t.hbm.readBytes (a + 8) 8 = leBytes 8 r.seq ∧
        t.hbm.readBytes (a + 28) 4 = leBytes 4 r.len)

/-! ### The mailbox -/

/-- Request x of a command waits on channel c, may be served, and is not refused before its command is looked at (R485 to R487). -/
abbrev Serving (c : Fin 5) (cmd : Nat) (x : List Byte) (s : State) : Prop :=
  Running s ∧ (s.dev.chan c).req = some x ∧ (s.dev.chan c).reply = none ∧ s.dev.mbServes c = true ∧ mbCmd x = cmd ∧
    s.dev.mbRefusal x = none

/-- Lyfate has a reply with a status and a payload for channel c. -/
abbrev Replied (c : Fin 5) (st : Nat) (p : List Byte) (t : State) : Prop := (t.dev.chan c).reply = some (st, p)

/-- The commands that act on a module without power: power-on, and the release of the thermal pin. -/
def aliveWithoutPower : Instr → Bool
  | .powerOn _ => true
  | .thermtripRelease => true
  | _ => false

/-- The commands that act on a chip that a thermal trip holds in reset: those of its supplies, of its I2C target and of its
housekeeping domain, and the release. -/
def aliveInThermalHold : Instr → Bool
  | .powerOn _ => true
  | .vinLoss => true
  | .thermtripRelease => true
  | .tempSample _ => true
  | .powerSample _ _ _ _ => true
  | .tightropeDecision => true
  | .i2cWrite _ _ _ => true
  | .i2cRead _ _ _ => true
  | .i2cRefresh => true
  | .i2cTimeout => true
  | _ => false

end Sys2Proof.Machine
end

