-- ==== Sys2Proof/Certificates/Slice0/Obligations.lean ====
section
/-! DEFINITION. The statements for the provers: what the rules of spec/ say the block PB6432 does, family by family. -/

open Sys2Proof Sys2Proof.Machine

/-! ### The machine as a whole -/

/-- One step of the block takes the command at the front of its queue and has exactly that command's effect, with the rest of
the queue waiting. -/
def Obligations.StepTakesFrontCommand : Prop :=
  ∀ (c : Instr) (rest : List Instr) (s : State), step { s with pending := c :: rest } = exec c { s with pending := rest }

/-- With no command waiting, a step is one fabric tick (the model's choice, notes/assumptions/2.md): a chip without power or held by
a thermal trip stays as it is; while it runs, the tick count grows by one, and where no field of TIM waits, no pull is under way and
no second ends, the time counter advances by ADDEND, saturating (R438, R439). Memory and queue stay. -/
def Obligations.IdleStepIsOneTick : Prop :=
  (∀ s : State, s.pending = [] → s.dev.alive = false → step s = .next s) ∧
  (∀ s : State, s.pending = [] → s.dev.alive = true → s.dev.shadow = [] → s.dev.tim.pull = 0 →
    tSec (tcSat ((s.dev.tc : Int) + (s.dev.addend : Int))) = tSec s.dev.tc →
    ∃ t, step s = .next t ∧ t.dev.ticks = s.dev.ticks + 1 ∧ t.dev.tc = tcSat ((s.dev.tc : Int) + (s.dev.addend : Int)) ∧
      SameMemory s t)

/-- After reset both memories stand in their canonical form. -/
def Obligations.CanonicalAtReset : Prop := State.reset.canonical

/-- Every step, of whatever command in whatever state, keeps both memories in canonical form. -/
def Obligations.StepKeepsCanonical : Prop := ∀ s t : State, s.canonical → step s = .next t → t.canonical

/-- Every command of the table answers a next state in every state, so none stops the block with a fault and none is refused, and no
command changes the queue of waiting commands. -/
def Obligations.EveryCommandAnswers : Prop :=
  ∀ (i : Instr) (s : State), ∃ t, exec i s = .next t ∧ t.pending = s.pending

/-- Where a command cannot act it changes nothing: a module without power takes only power-on and the release of the thermal pin; a
chip that a thermal trip holds in reset takes only what its housekeeping domain, its I2C target and its supplies do (R520, R525); a
requester's write that the device does not answer, or that reaches a block in reset, has no effect (R47, R473, R474); the events of a
block do not happen while it is in block reset (R51). -/
def Obligations.NothingHappensWhereNothingMay : Prop :=
  (∀ (i : Instr) (s : State), s.dev.powered = false → aliveWithoutPower i = false → exec i s = .next s) ∧
  (∀ (i : Instr) (s : State), s.dev.thermHold = true → aliveInThermalHold i = false → exec i s = .next s) ∧
  (∀ (i : Instr) (s : State) (req : Requester) (b : Nat), writeOf i = some (req, b) → s.dev.mayWrite req b = false →
    exec i s = .next s) ∧
  (∀ (i : Instr) (s : State) (b : Nat), eventOf i = some b → s.dev.inReset b = true → exec i s = .next s)

/-! ### Register accesses -/

/-- A register access of any width but 32 bits, or not aligned to 4 bytes, has no effect but GLB.00: a write is discarded, a read
completes with zero data; the registers that change are the record of the first such access (R7). -/
def Obligations.AccessesMustBeAlignedWords : Prop :=
  ∀ (s : State) (req : Requester) (acc : RegAccess), Running s → s.dev.reaches req (acc.addr / 0x100000) = true →
    (acc.width ≠ 4 ∨ acc.addr % 4 ≠ 0) →
    ∃ t, exec (.registerWrite req acc) s = .next t ∧ Arising 0 t.dev ∧
      Frame [Reg.GLB_ACC_ERR_ADDR, Reg.GLB_ACC_ERR_INFO] s t ∧ t.dev.shadow = s.dev.shadow ∧ t.dev.held = s.dev.held ∧
      (acc.data = none → Sparse.get 0 t.dev.rdata req.code = 0) ∧
      (acc.data.isSome = true → t.dev.rdata = s.dev.rdata)

/-- Offsets that no register has, and every address from 0x0120_0000 on, read as zero, and writes to them are discarded, without a
fault (R8). -/
def Obligations.UnallocatedOffsets : Prop :=
  (∀ addr : Nat, 0x1200000 ≤ addr → regAt addr = none ∧ partOf addr = none ∧ channelOf addr = none) ∧
  (∀ (s : State) (req : Requester) (addr : Nat), Running s → s.dev.reaches req (addr / 0x100000) = true →
    addr < 0x10000000 → addr % 4 = 0 → regAt addr = none → partOf addr = none → channelOf addr = none →
    (∀ v : Word, exec (.registerWrite req ⟨addr, 4, 0xF, some v⟩) s = .next s) ∧
    ∃ t, exec (.registerWrite req ⟨addr, 4, 0xF, none⟩) s = .next t ∧ Sparse.get 0 t.dev.rdata req.code = 0 ∧
      Frame [] s t ∧ t.dev.arising = s.dev.arising ∧ t.dev.causes = s.dev.causes)

/-- Access codes, each on a register that has it (R12): a write to RO bits (GLB_ID) is ignored, RW bits take the written value
(GLB_SHADOW_HOLD), W1C bits written 1 are cleared and written 0 kept (GLB_RESET_CAUSE), and a read of an RC counter (RUNS of ADC a of
port x) returns its value and clears it. -/
def Obligations.AccessCodes : Prop :=
  (∀ (s : State) (req : Requester) (v : Word), Writable req 0 s →
    ∃ t, exec (.registerWrite req ⟨0x0, 4, 0xF, some v⟩) s = .next t ∧ Frame [] s t) ∧
  (∀ (s : State) (req : Requester) (v : Word), Writable req 0 s →
    ∃ t, exec (.registerWrite req ⟨0x20, 4, 0xF, some v⟩) s = .next t ∧ Frame [Reg.GLB_SHADOW_HOLD] s t ∧
      t.dev.reg Reg.GLB_SHADOW_HOLD = (s.dev.reg Reg.GLB_SHADOW_HOLD &&& 0xFFFF8403) ||| (v &&& 0x7BFC)) ∧
  (∀ (s : State) (req : Requester) (v : Word), Writable req 0 s →
    ∃ t, exec (.registerWrite req ⟨0x38, 4, 0xF, some v⟩) s = .next t ∧ Frame [Reg.GLB_RESET_CAUSE] s t ∧
      t.dev.reg Reg.GLB_RESET_CAUSE = s.dev.reg Reg.GLB_RESET_CAUSE &&& ~~~(v &&& 0x3D)) ∧
  (∀ (s : State) (req : Requester) (x : Port) (a : Fin 4), Writable req (2 + x.val) s →
    ∃ t, exec (.rcRead req (Reg.LNx_OVR_CNT x.val a.val)) s = .next t ∧ Frame [Reg.LNx_OVR_CNT x.val a.val] s t ∧
      Sparse.get 0 t.dev.rdata req.code = s.dev.reg (Reg.LNx_OVR_CNT x.val a.val) ∧
      t.dev.reg (Reg.LNx_OVR_CNT x.val a.val) = 0)

/-- A read of the _LO register of a value of n registers returns its value and takes a snapshot of every higher part for that
requester alone (R18, R19); a read of a higher part returns the requester's snapshot, zero where it has none (R20). -/
def Obligations.WideReadsTakeSnapshots : Prop :=
  (∀ (s : State) (req : Requester) (addr n : Nat), Running s → s.dev.reaches req (addr / 0x100000) = true →
    partOf addr = some (0, n) → channelOf addr = none → (regAt addr).isSome = true → addr + 4 * n < reqBase →
    ∃ t, exec (.loReadSnapshot req addr) s = .next t ∧ SameMemory s t ∧
      Sparse.get 0 t.dev.rdata req.code = s.dev.view req.code (s.dev.keyOf req addr) ∧
      (∀ i, 1 ≤ i → i < n → Sparse.get 0 t.dev.snaps (snapKey req (addr + 4 * i)) =
        s.dev.view req.code (s.dev.keyOf req (addr + 4 * i))) ∧
      (∀ (other : Requester) (b : Nat), other ≠ req → b < reqBase →
        Sparse.get 0 t.dev.snaps (snapKey other b) = Sparse.get 0 s.dev.snaps (snapKey other b))) ∧
  (∀ (s : State) (req : Requester) (addr i n : Nat), Running s → s.dev.reaches req (addr / 0x100000) = true →
    addr % 4 = 0 → partOf addr = some (i + 1, n) → channelOf addr = none →
    ∃ t, exec (.registerWrite req ⟨addr, 4, 0xF, none⟩) s = .next t ∧ Frame [] s t ∧ t.dev.snaps = s.dev.snaps ∧
      Sparse.get 0 t.dev.rdata req.code = Sparse.get 0 s.dev.snaps (snapKey req addr))

/-- A write to the _LO part of a wide value is held and changes no register; the write to _HI then applies both parts together
(R21), here on the address of an image load. -/
def Obligations.WideWritesApplyTogether : Prop :=
  (∀ (s : State) (req : Requester) (lo : Word), Writable req 1 s →
    ∃ t, exec (.registerWrite req ⟨0x100008, 4, 0xF, some lo⟩) s = .next t ∧ Frame [] s t ∧
      ∀ d, Sparse.get d t.dev.held 0x100008 = lo) ∧
  (∀ (s : State) (req : Requester) (lo hi : Word), Writable req 1 s →
    (∀ d, Sparse.get d s.dev.held 0x100008 = lo) →
    ∃ t, exec (.hiWriteApply req 0x10000C hi) s = .next t ∧ RegsKept [0x100008, 0x10000C] s.dev t.dev ∧
      t.dev.reg64 Reg.STR_LOAD_ADDR_LO = hi.toNat * 2 ^ 32 + lo.toNat ∧ t.dev.held.all (fun e => e.1 != 0x100008) = true)

/-- A fence records its token and shows DONE = 0 for its requester alone; DONE is set when the writes of the requester are applied
(R46). -/
def Obligations.FencesCompletePerRequester : Prop :=
  (∀ (s : State) (req : Requester) (token : BitVec 16), Running s → s.dev.reaches req 0 = true →
    ∃ t, exec (.glbFence req token) s = .next t ∧ t.dev.get (Fld.GLB_FENCE.TOKEN req.code) = token.toNat ∧
      t.dev.get (Fld.GLB_FENCE.DONE req.code) = 0 ∧ Frame [Reg.GLB_FENCE req.code] s t) ∧
  (∀ (s : State) (req : Requester), Running s →
    ∃ t, exec (.fenceDone req) s = .next t ∧ t.dev.get (Fld.GLB_FENCE.DONE req.code) = 1 ∧
      t.dev.get (Fld.GLB_FENCE.TOKEN req.code) = s.dev.get (Fld.GLB_FENCE.TOKEN req.code) ∧ Frame [Reg.GLB_FENCE req.code] s t)

/-- At a boundary every pending shadow value of the keys concerned becomes active, all together, in its shadowed bits, and no other
register changes; pending values of other keys still wait (R35, R36). -/
def Obligations.ShadowCopiesTogether : Prop :=
  ∀ (d : Dev) (p : Nat → Bool), (d.shadow.map (·.1)).Nodup →
    (∀ a v, (a, v) ∈ d.shadow → p a = true → (d.copyShadow p).reg a = mergeShadow (shadowMaskOf a) (d.reg a) v) ∧
    (∀ a, (∀ v, (a, v) ∈ d.shadow → p a = false) → (d.copyShadow p).reg a = d.reg a) ∧
    (d.copyShadow p).shadow = d.shadow.filter (fun e => !p e.1)

/-- The boundary of a unit (R35, R36, R37, R78): every pending field of the unit becomes active in its shadowed bits, all together, and waits
no more, but for those of a region that restructures; pending fields of other units wait on. RESTART and REALIGN, which act at the boundary
and clear themselves, stand aside, as do units whose boundary is not now: a tap with a record open, a shed port. While
GLB_SHADOW_HOLD holds the unit's block everything waits. Clearing a hold bit copies nothing by itself. -/
def Obligations.BoundariesAndHolds : Prop :=
  (∀ (s : State) (u : ShadowUnit), Working (unitBlock u) s → s.dev.held? (unitBlock u) = false →
    (∀ x, u = .dsp x → s.dev.portShed x = false) → (∀ t, u = .capTap t → (s.dev.tap t).record = none) →
    (∀ x, u ≠ .clpTx x) → (∀ x, u ≠ .clpRx x) → (s.dev.shadow.map (·.1)).Nodup →
    ∃ t, exec (.shadowCopy u) s = .next t ∧
      (∀ e ∈ s.dev.shadow, comesDue s.dev u e.1 = true → (∀ x, e.1 ≠ Reg.LNx_DSP_MODE x) → (∀ f, e.1 ≠ Reg.MRG_FLOW_CTL f) →
        t.dev.reg e.1 &&& shadowMaskOf e.1 = e.2 &&& shadowMaskOf e.1) ∧
      t.dev.shadow = s.dev.shadow.filter (fun e => !comesDue s.dev u e.1)) ∧
  (∀ (s : State) (u : ShadowUnit), Working (unitBlock u) s → s.dev.held? (unitBlock u) = true →
    ∃ t, exec (.shadowCopy u) s = .next t ∧ t.dev.shadow = s.dev.shadow) ∧
  (∀ (s : State) (u : ShadowUnit), Working (unitBlock u) s → s.dev.held? (unitBlock u) = true →
    u = .tim ∨ u = .chn ∨ u = .rmsGlobal ∨ (∃ l, u = .hst l) ∨ (∃ f, u = .cry f) → exec (.shadowCopy u) s = .next s) ∧
  (∀ (s : State) (req : Requester) (b : Fin 18), Writable req 0 s →
    ∃ t, exec (.shadowHoldClear req b) s = .next t ∧ t.dev.held? b.val = false ∧ t.dev.shadow = s.dev.shadow ∧
      (∀ c, c ≠ b.val → t.dev.held? c = s.dev.held? c) ∧ Frame [Reg.GLB_SHADOW_HOLD] s t)

/-! ### Resets and power -/

/-- A block reset (R51): the block enters reset, every register of it but those that survive reads its reset value, its pending
shadow values and held writes are discarded (R40); one already in reset takes no second; one whose region is being committed waits
(R79). The end of a block reset: the block alone is out of reset, with the structure as it was, and takes the
presets of the active images that reach it (R51, R64), here the two enables of FEC from a preset of region LINE_A; for a block that is not in
reset nothing ends. The blocks of the first clause are 2 to 14 without 6 and 8, whose resets also bring inputs and key states up to
date. -/
def Obligations.BlockResetsClearAndEnd : Prop :=
  (∀ (s : State) (req : Requester) (b : Fin 18), Running s → s.dev.reaches req 0 = true → 2 ≤ b.val → b.val ≤ 14 → b.val ≠ 6 →
    b.val ≠ 8 → s.dev.inReset b.val = false → s.dev.commitOf b.val = false →
    ∃ t, exec (.blockReset req b) s = .next t ∧ t.dev.inReset b.val = true ∧
      (∀ a, keyBlock a = b.val → survivesReset b.val a = false →
        a ∉ [Reg.LNx_CNV_STATE 0, Reg.LNx_CNV_STATE 1, Reg.FRM_TSI_PAGE_STATUS] → t.dev.reg a = resetWordOf a) ∧
      t.dev.shadow.all (fun e => keyBlock e.1 != b.val) = true ∧ t.dev.held.all (fun e => keyBlock e.1 != b.val) = true) ∧
  (∀ (s : State) (req : Requester) (b : Fin 18), Running s → s.dev.inReset b.val = true →
    exec (.blockReset req b) s = .next s) ∧
  (∀ (s : State) (req : Requester) (b : Fin 18), Running s → s.dev.reaches req 0 = true → 2 ≤ b.val → b.val ≤ 14 →
    s.dev.inReset b.val = false → s.dev.commitOf b.val = true → b.val ∉ s.dev.resetWait →
    exec (.blockReset req b) s = .next { s with dev := { s.dev with resetWait := s.dev.resetWait ++ [b.val] } }) ∧
  (∀ (s : State) (b : Fin 18), Running s → s.dev.inReset b.val = true → 2 ≤ b.val → b.val ≤ 14 →
    ∃ t, exec (.blockResetDone b) s = .next t ∧ t.dev.inReset b.val = false ∧ t.dev.held = s.dev.held ∧
      (∀ c, c ≠ b.val → t.dev.inReset c = s.dev.inReset c) ∧ t.dev.str = s.dev.str ∧ t.pending = s.pending) ∧
  (∀ (s : State) (x : Port) (v : Word), Running s → s.dev.inReset 4 = true →
    s.dev.presetsOf 4 = [[], [⟨Reg.FEC_x_CTL x, 3, v⟩], [], [], [], [], [], []] →
    ∃ t, exec (.blockResetDone 4) s = .next t ∧ t.dev.get (Fld.FEC_x_CTL.DEC_EN x) = v.toNat % 2 ∧
      t.dev.get (Fld.FEC_x_CTL.ENC_EN x) = v.toNat / 2 % 2) ∧
  (∀ (s : State) (b : Fin 18), Running s → s.dev.inReset b.val = false → exec (.blockResetDone b) s = .next s)

/-- A write to GLB_RESET_CTL with KEY = 0x6B1D and CHIP = 1 resets the chip, any other is ignored (R52): the contents of both
memories become undefined, GLB_RESET_CAUSE takes SOFT, no region is active, fuses and flash keep what they hold. -/
def Obligations.ChipResetNeedsItsKey : Prop :=
  (∀ (s : State) (req : Requester), Running s → s.dev.reaches req 0 = true →
    ∃ t, exec (.chipReset req 0x6B1D true) s = .next t ∧ t.hbm = s.hbm.forgetAll ∧ t.sram = s.sram.forgetAll ∧
      t.pending = s.pending ∧ t.dev.bitAt Reg.GLB_RESET_CAUSE 2 = true ∧ t.dev.stage = 0 ∧ t.dev.reg Reg.STR_ACTIVE = 0 ∧
      t.dev.str.active = [] ∧ t.dev.sec.fuses = s.dev.sec.fuses ∧ t.dev.sec.flash = s.dev.sec.flash) ∧
  (∀ (s : State) (req : Requester) (key : BitVec 16) (chip : Bool), Running s → (key ≠ 0x6B1D ∨ chip = false) →
    exec (.chipReset req key chip) s = .next s)

/-- Power and the thermal pin (R520, R525): power-on samples the straps and starts from reset values with undefined memory, and does
nothing to a module that has power; loss of VIN ends power and nothing else; a thermal trip resets the chip with cause THERMTRIP and
holds it; the release lets it go once the sensors have read below 90 °C for 1,000 samples (notes/assumptions/30.md), and does nothing
before. -/
def Obligations.PowerAndThermalTrip : Prop :=
  (∀ (s : State) (v : BitVec 5), s.dev.powered = false →
    ∃ t, exec (.powerOn v) s = .next t ∧ t.dev.powered = true ∧ t.dev.thermHold = false ∧ t.dev.straps = strapsOf v ∧
      t.dev.reg Reg.GLB_RESET_CAUSE = 1 ∧ t.dev.stage = 0 ∧ t.hbm = s.hbm.forgetAll ∧ t.sram = s.sram.forgetAll ∧
      t.pending = s.pending ∧ t.dev.sec.fuses = s.dev.sec.fuses ∧ t.dev.sec.flash = s.dev.sec.flash) ∧
  (∀ (s : State) (v : BitVec 5), s.dev.powered = true → exec (.powerOn v) s = .next s) ∧
  (∀ s : State, exec .vinLoss s = .next { s with dev := { s.dev with powered := false } }) ∧
  (∀ s : State, Running s →
    ∃ t, exec .thermtrip s = .next t ∧ t.dev.thermHold = true ∧ t.dev.bitAt Reg.GLB_RESET_CAUSE 4 = true ∧ t.dev.stage = 0 ∧
      t.hbm = s.hbm.forgetAll ∧ t.sram = s.sram.forgetAll ∧ t.pending = s.pending) ∧
  (∀ s : State, 1000 ≤ s.dev.hk.cool → exec .thermtripRelease s = .next { s with dev := { s.dev with thermHold := false } }) ∧
  (∀ s : State, s.dev.hk.cool < 1000 → exec .thermtripRelease s = .next s)

/-- The PCIe link (R474, R518, R471): it comes up, which ends GLB.01; it goes down, which is GLB.01 only where it has been up since the
last chip reset; a function reset ends the function's snapshots, its fence and the key-encryption key and challenge of mailbox
channel 0, and is GLB.02. -/
def Obligations.PcieLinkAndFunctionReset : Prop :=
  (∀ s : State, Running s →
    ∃ t, exec .pcieLinkUp s = .next t ∧ t.dev.pcieSeen = true ∧ ¬ Present 1 t.dev ∧ (∀ f, f ≠ 1 → (Present f t.dev ↔ Present f s.dev)) ∧
      Frame [] s t) ∧
  (∀ s : State, Running s →
    ∃ t, exec .pcieDown s = .next t ∧ (Present 1 t.dev ↔ Present 1 s.dev ∨ s.dev.pcieSeen = true) ∧
      (∀ f, f ≠ 1 → (Present f t.dev ↔ Present f s.dev)) ∧ Frame [] s t) ∧
  (∀ s : State, Running s →
    ∃ t, exec .pcieFunctionReset s = .next t ∧ (∀ a, a < reqBase → Sparse.get 0 t.dev.snaps (snapKey .pcie a) = 0) ∧
      t.dev.reg (Reg.GLB_FENCE Requester.pcie.code) = resetWordOf (Reg.GLB_FENCE Requester.pcie.code) ∧
      (t.dev.chan 0).kek = none ∧ (t.dev.chan 0).challenge = none ∧ Arising 2 t.dev ∧ t.pending = s.pending)

/-! ### Images: loading and committing -/

/-- Loading an image (R69 to R72): START begins the fetch of the source, address and length that stand in the registers and empties
configuration SRAM; while a load or commit runs it is refused with BUSY and STR.00; the fetched bytes, from the host, from HBM or from flash,
stand in configuration SRAM; verification ends in STAGED with its interrupt, or in FAILED with the code and detail of the check that
failed. -/
def Obligations.LoadsStageAnImage : Prop :=
  (∀ (s : State) (req : Requester) (src : BitVec 2), Writable req 1 s → s.dev.loadBusy = false →
    fetchBad src.toNat (s.dev.reg64 Reg.STR_LOAD_ADDR_LO) (s.dev.get Fld.STR_LOAD_LEN.LEN) = false →
    ∃ t, exec (.loadStart req src) s = .next t ∧ t.dev.get Fld.STR_STATE.STAGE = 1 ∧ t.dev.get Fld.STR_LOAD_CTL.START = 1 ∧
      t.dev.str.load = some (src.toNat, s.dev.reg64 Reg.STR_LOAD_ADDR_LO, s.dev.get Fld.STR_LOAD_LEN.LEN) ∧ t.dev.str.cfgSram = [] ∧
      t.dev.str.active = s.dev.str.active ∧ Frame [Reg.STR_LOAD_CTL, Reg.STR_STATE] s t) ∧
  (∀ (s : State) (req : Requester) (src : BitVec 2), Writable req 1 s → s.dev.loadBusy = true →
    ∃ t, exec (.loadStart req src) s = .next t ∧ t.dev.get Fld.STR_STATE.ERR = 0x1A ∧ Arising 32 t.dev ∧ t.dev.str = s.dev.str ∧
      t.dev.get Fld.STR_STATE.STAGE = s.dev.get Fld.STR_STATE.STAGE ∧
      Frame [Reg.STR_LOAD_CTL, Reg.STR_STATE, Reg.STR_ERR_DETAIL, Reg.STR_INT_STATUS] s t) ∧
  (∀ (s : State) (addr len : Nat) (l : List Byte), Running s → s.dev.get Fld.STR_STATE.STAGE = 1 →
    (s.dev.str.load = some (0, addr, len) →
      ∃ t, exec (.loadFetchDone (some l)) s = .next t ∧ t.dev.get Fld.STR_STATE.STAGE = 2 ∧ t.dev.str.cfgSram = sliceBytes l 0 len ∧
        Frame [Reg.STR_STATE] s t) ∧
    (s.dev.str.load = some (1, addr, len) →
      ∃ t, exec (.loadFetchDone (some l)) s = .next t ∧ t.dev.get Fld.STR_STATE.STAGE = 2 ∧ t.dev.str.cfgSram = s.hbm.readBytes addr len ∧
        Frame [Reg.STR_STATE] s t) ∧
    (s.dev.str.load = some (2, addr, len) → s.dev.sec.flashBusy = none →
      ∃ t, exec (.loadFetchDone (some l)) s = .next t ∧ t.dev.get Fld.STR_STATE.STAGE = 2 ∧ t.dev.str.cfgSram = s.dev.flashRead addr len ∧
        Frame [Reg.STR_STATE] s t)) ∧
  (∀ (s : State) (src addr len : Nat), Running s → s.dev.get Fld.STR_STATE.STAGE = 1 → s.dev.str.load = some (src, addr, len) → src < 2 →
    ∃ t, exec (.loadFetchDone none) s = .next t ∧ t.dev.get Fld.STR_STATE.STAGE = 4 ∧ t.dev.get Fld.STR_STATE.ERR = 1 ∧
      t.dev.str.cfgSram = [] ∧ t.dev.str.load = none ∧ Arising 32 t.dev ∧
      Frame [Reg.STR_LOAD_CTL, Reg.STR_STATE, Reg.STR_ERR_DETAIL, Reg.STR_INT_STATUS] s t) ∧
  (∀ (s : State) (src addr len : Nat), Running s → s.dev.get Fld.STR_STATE.STAGE = 2 → s.dev.str.load = some (src, addr, len) →
    ∃ t, exec .loadVerifyDone s = .next t ∧ t.dev.str.load = none ∧ t.dev.get Fld.STR_LOAD_CTL.START = 0 ∧
      Frame [Reg.STR_LOAD_CTL, Reg.STR_STATE, Reg.STR_ERR_DETAIL, Reg.STR_INT_STATUS] s t ∧
      match s.dev.verifyImage len with
      | none => t.dev.get Fld.STR_STATE.STAGE = 3 ∧ t.dev.str.cfgSram = s.dev.str.cfgSram ∧ t.dev.bitAt Reg.STR_INT_STATUS 0 = true
      | some (code, detail) =>
        t.dev.get Fld.STR_STATE.STAGE = 4 ∧ t.dev.get Fld.STR_STATE.ERR = code % 256 ∧
          t.dev.reg Reg.STR_ERR_DETAIL = BitVec.ofNat 32 detail ∧ t.dev.str.cfgSram = [] ∧ Arising 32 t.dev)

/-- Committing (R74 to R77, R80): the key starts the checks of the regions of the mask, any other key is ignored, and while a commit runs
it is refused with BUSY and STR.01; a refused commit changes no region, a GLOBAL one waits for the chip reset, any other takes its
regions into maintenance; the end makes the regions active with the bodies of the staged image, whose presets name no register of STR, and none of FLT, where one might
reset the chip; a late end is STR.02; the chip reset of a GLOBAL commit keeps the staged image, and after trusted boot all eight regions are committed from it. -/
def Obligations.CommitsRunThroughTheirPhases : Prop :=
  (∀ (s : State) (req : Requester) (mask : BitVec 8), Writable req 1 s → s.dev.get Fld.STR_STATE.COMMIT = 0 →
    s.dev.str.globalPending = false →
    ∃ t, exec (.commit req 0x5A17 mask) s = .next t ∧ t.dev.get Fld.STR_STATE.COMMIT = 1 ∧
      (∀ r, r < 8 → (r ∈ t.dev.str.committing ↔ mask.getLsbD r = true)) ∧ t.dev.str.active = s.dev.str.active ∧ Frame [Reg.STR_STATE] s t) ∧
  (∀ (s : State) (req : Requester) (key : BitVec 16) (mask : BitVec 8), Writable req 1 s → key ≠ 0x5A17 →
    exec (.commit req key mask) s = .next s) ∧
  (∀ (s : State) (req : Requester) (mask : BitVec 8), Writable req 1 s → s.dev.get Fld.STR_STATE.COMMIT ≠ 0 →
    ∃ t, exec (.commit req 0x5A17 mask) s = .next t ∧ t.dev.get Fld.STR_STATE.ERR = 0x1A ∧ Arising 33 t.dev ∧ t.dev.str = s.dev.str ∧
      Frame [Reg.STR_STATE, Reg.STR_ERR_DETAIL, Reg.STR_INT_STATUS] s t) ∧
  (∀ s : State, Running s → s.dev.get Fld.STR_STATE.COMMIT = 1 →
    ∃ t, exec .commitChecksDone s = .next t ∧
      match s.dev.commitBad with
      | some (code, detail) => CommitRefused code detail s t
      | none => if 0 ∈ s.dev.str.committing
        then t.dev.get Fld.STR_STATE.COMMIT = 3 ∧ t.dev.str = s.dev.str ∧ Frame [Reg.STR_STATE] s t
        else InMaintenance s.dev.str.committing s t) ∧
  (∀ s : State, Running s → s.dev.get Fld.STR_STATE.COMMIT ≠ 2 → exec .commitEnd s = .next s) ∧
  (∀ s : State, Running s → s.dev.get Fld.STR_STATE.COMMIT = 2 →
    (∀ r ∈ s.dev.str.committing, r < 8) → ((s.dev.stagedBodies s.dev.str.committing).map (·.1)).Nodup →
    (∀ e ∈ s.dev.stagedBodies s.dev.str.committing, ∀ w, ∀ p ∈ (e.2.body w).presets, p.addr / 0x100000 ≠ 1 ∧ p.addr / 0x100000 ≠ 16) →
    ∃ t, exec .commitEnd s = .next t ∧ t.dev.get Fld.STR_STATE.COMMIT = 0 ∧ t.dev.str.committing = [] ∧
      (∀ r, r < 8 → t.dev.restructuring r = false) ∧
      (∀ r, r < 8 → (t.dev.regionActive r = true ↔ r ∈ s.dev.str.committing ∨ s.dev.regionActive r = true)) ∧
      (∀ e ∈ s.dev.stagedBodies s.dev.str.committing, t.dev.body e.1 = some (e.2.body (BitVec.ofNat 32 (imgId s.dev.str.cfgSram)))) ∧
      (∀ r, r ∉ s.dev.str.committing → t.dev.body r = s.dev.body r) ∧
      t.dev.get Fld.STR_ACTIVE.COMMITS = min (s.dev.get Fld.STR_ACTIVE.COMMITS + 1) (2 ^ 16 - 1) ∧
      t.dev.bitAt Reg.STR_INT_STATUS 2 = true) ∧
  (∀ s : State, Running s → s.dev.get Fld.STR_STATE.COMMIT = 2 →
    ∃ t, exec .commitLate s = .next t ∧ Arising 34 t.dev ∧ t.dev.str = s.dev.str ∧ Frame [] s t) ∧
  (∀ s : State, Running s → s.dev.get Fld.STR_STATE.COMMIT = 3 →
    ∃ t, exec .globalCommitReset s = .next t ∧ t.dev.str.cfgSram = s.dev.str.cfgSram ∧ t.dev.str.globalPending = true ∧
      t.dev.get Fld.STR_STATE.STAGE = 3 ∧ t.hbm = s.hbm.forgetAll ∧ t.sram = s.sram.forgetAll ∧ t.pending = s.pending) ∧
  (∀ s : State, Running s → s.dev.str.globalPending = true → 2 ≤ s.dev.stage →
    let d : Dev := { s.dev with str := { s.dev.str with globalPending := false, committing := List.range 8 } }
    ∃ t, exec .globalRecommit s = .next t ∧
      match d.verifyImage d.str.cfgSram.length, d.commitBad with
      | some _, _ => t.dev.get Fld.STR_STATE.STAGE = 4 ∧ t.dev.str.active = s.dev.str.active ∧ t.dev.str.committing = [] ∧ SameMemory s t
      | none, some (code, detail) => CommitRefused code detail s t
      | none, none => InMaintenance (List.range 8) s t)

/-! ### The line: converters -/

/-- The rate and the enables of the converters (R89, R91, R93, R94): a rate out of range is discarded and fires LNx.05, the rate in force
changes nothing, another one restarts LOCKING of every enabled converter; enabling takes a converter from OFF to LOCKING and disabling
takes it to OFF at once; a converter locks into CONVERGING, or into RUN where it is DEGRADED; loss of lock restarts LOCKING with LNx.01
present. -/
def Obligations.ConvertersFollowRateAndEnables : Prop :=
  (∀ (s : State) (req : Requester) (x : Port) (m : BitVec 6), Writable req (2 + x) s →
    (m.toNat < 20 ∨ 50 < m.toNat → exec (.cnvRateWrite req x m) s = .next { s with dev := s.dev.raise (fLN x 5) }) ∧
    (20 ≤ m.toNat → m.toNat ≤ 50 → m.toNat = s.dev.lnM x → exec (.cnvRateWrite req x m) s = .next s) ∧
    (20 ≤ m.toNat → m.toNat ≤ 50 → m.toNat ≠ s.dev.lnM x →
      ∃ t, exec (.cnvRateWrite req x m) s = .next t ∧ t.dev = (s.dev.put (Fld.LNx_CNV_RATE.M x) m.toNat).relock x ∧ SameMemory s t ∧
        t.dev.lnM x = m.toNat ∧ (t.dev.ln x).locked = false ∧
        ∀ c, c < 8 → s.dev.regionActive (1 + x) = true → s.dev.cnvEn x c = true → t.dev.cnvState x c = 1)) ∧
  (∀ (s : State) (req : Requester) (x : Port) (en : BitVec 8), Writable req (2 + x) s →
    ∃ t, exec (.cnvEnWrite req x en) s = .next t ∧ t.dev = (s.dev.put (Fld.LNx_CNV_EN.EN x) en.toNat).cnvCheck x ∧ SameMemory s t ∧
      t.dev.get (Fld.LNx_CNV_EN.EN x) = en.toNat ∧
      ∀ c, c < 8 →
        t.dev.cnvState x c = if en.getLsbD c && s.dev.regionActive (1 + x) then max 1 (s.dev.cnvState x c) else 0) ∧
  (∀ (s : State) (x : Port) (c : Fin 8), Running s →
    (s.dev.cnvState x c ≠ 1 → exec (.converterLocked x c) s = .next s) ∧
    (s.dev.cnvState x c = 1 →
      ∃ t, exec (.converterLocked x c) s = .next t ∧ SameMemory s t ∧ (t.dev.ln x).locked = true ∧ ¬ Present (fLN x 1) t.dev ∧
        t.dev.cnvState x c = (if s.dev.degraded x c then 3 else 2) ∧
        ∀ e, e < 8 → e ≠ c.val → t.dev.cnvState x e = s.dev.cnvState x e)) ∧
  (∀ (s : State) (x : Port), Running s → s.dev.regionActive (1 + x) = true → (s.dev.ln x).locked = true →
    (List.range 8).any (fun c => s.dev.cnvEn x c) = true →
    ∃ t, exec (.cnvUnlock x) s = .next t ∧ SameMemory s t ∧ (t.dev.ln x).locked = false ∧ Present (fLN x 1) t.dev ∧
      ∀ c, c < 8 → t.dev.cnvState x c = if s.dev.cnvEn x c then 1 else s.dev.cnvState x c)

/-- Slice rotation and overrange (R92, R96, R100, R108, R113): a step gives its position to the spare; the slice that leaves becomes the
spare, or is retired when its estimate is out of range; CAL_NOW takes every running converter back to CONVERGING; an overrange sample
sets the live and sticky bits of its ADC, counts the first of a run and makes LNx.00 present, which ends with the last live bit. -/
def Obligations.SlicesRotateAndOverrangesCount : Prop :=
  (∀ (s : State) (x : Port) (c : Fin 8) (est : SliceCorr), Running s → (s.dev.conv x c).inStep = true → 2 ≤ s.dev.cnvState x c →
    ∃ t, exec (.calStep x c est) s = .next t ∧ SameMemory s t ∧
      t.dev.get (Fld.LNx_CAL_INFO.POS x c) = (s.dev.get (Fld.LNx_CAL_INFO.POS x c) + 1) % 64 ∧
      (t.dev.conv x c).serve = (s.dev.conv x c).serve.set (s.dev.get (Fld.LNx_CAL_INFO.POS x c)) (s.dev.get (Fld.LNx_CAL_INFO.SPARE x c)) ∧
      t.dev.get (Fld.LNx_CAL_INFO.SPARE x c) = (if correctionInRange est
        then (s.dev.conv x c).serve.getD (s.dev.get (Fld.LNx_CAL_INFO.POS x c)) 0 % 128 else 127) ∧
      (correctionInRange est = false → t.dev.get (Fld.LNx_CAL_INFO.RETIRED x c) = 1 ∧ t.dev.degraded x c = true ∧
        t.dev.get (Fld.LNx_CAL_INFO.RET_SLICE x c) = (s.dev.conv x c).serve.getD (s.dev.get (Fld.LNx_CAL_INFO.POS x c)) 0 % 128 ∧
        (t.dev.conv x c).inStep = false)) ∧
  (∀ (s : State) (x : Port) (c : Fin 8) (est : SliceCorr), Running s → (s.dev.conv x c).inStep = false →
    exec (.calStep x c est) s = .next s) ∧
  (∀ (s : State) (req : Requester) (x : Port), Writable req (2 + x) s →
    ∃ t, exec (.calNow req x) s = .next t ∧ SameMemory s t ∧
      ∀ c, c < 8 → t.dev.cnvState x c =
        if s.dev.cnvEn x c && decide (2 ≤ s.dev.cnvState x c) then (if s.dev.degraded x c then 3 else 2) else s.dev.cnvState x c) ∧
  (∀ (s : State) (x : Port) (a : Fin 4) (gap : Nat), Running s →
    (s.dev.cnvState x a ≤ 1 → exec (.adcOverrange x a gap) s = .next s) ∧
    (2 ≤ s.dev.cnvState x a →
      ∃ t, exec (.adcOverrange x a gap) s = .next t ∧ t.dev.bitAt (Reg.LNx_OVR_STATUS x) a = true ∧
        t.dev.bitAt (Reg.LNx_OVR_STATUS x) (8 + a) = true ∧ Present (fLN x 0) t.dev ∧
        t.dev.get (Fld.LNx_OVR_CNT.RUNS x a) = (if (s.dev.conv x a).overranged && decide (gap < 64)
          then s.dev.get (Fld.LNx_OVR_CNT.RUNS x a) else min (s.dev.get (Fld.LNx_OVR_CNT.RUNS x a) + 1) (2 ^ 32 - 1)) ∧
        Frame [Reg.LNx_OVR_STATUS x, Reg.LNx_OVR_CNT x a] s t)) ∧
  (∀ (s : State) (x : Port) (a : Fin 4), Running s →
    ∃ t, exec (.ovrLiveExpiry x (some a)) s = .next t ∧ t.dev.bitAt (Reg.LNx_OVR_STATUS x) a = false ∧
      (Present (fLN x 0) t.dev ↔ t.dev.get (Fld.LNx_OVR_STATUS.OVR_LIVE x) ≠ 0) ∧ Frame [Reg.LNx_OVR_STATUS x] s t) ∧
  (∀ (s : State) (x : Port), Running s →
    ∃ t, exec (.ovrLiveExpiry x none) s = .next t ∧ ¬ Present (fLN x 16) t.dev ∧ Frame [] s t)

/-! ### The line: acquisition -/

/-- Acquisition goes through the states of Table 7 (R123, R135 to R139): each state's end leads to the next one; a measured dispersion
lies between the bounds and is kept; the same sync word on both outputs returns to BLIND, different ones go on with SWAP as found;
a timeout counts and starts again at the search or at TIMING; four superframes without the sync word in TRACK lead to BLIND. -/
def Obligations.AcquisitionFollowsItsStates : Prop :=
  (∀ (s : State) (x : Port) (below : Nat), Running s → 2 ≤ s.dev.rxState x →
    s.dev.get (Fld.LNx_RX_FE_CTL.LOS_THR x) * 10 < below →
    ∃ t, exec (.rxLosEnter x below) s = .next t ∧ SameMemory s t ∧ t.dev = s.dev.enterRx x 1 ∧ t.dev.rxState x = 1 ∧
      Present (fLN x 8) t.dev) ∧
  (∀ (s : State) (x : Port) (below : List Nat), Running s → s.dev.rxState x = 1 → s.dev.noInput x = false → 16 ≤ below.length →
    (∀ b ∈ below, b + 20 ≤ s.dev.get (Fld.LNx_RX_FE_CTL.LOS_THR x) * 10) →
    ∃ t, exec (.losExit x below) s = .next t ∧ SameMemory s t ∧ t.dev.rxState x = (if s.dev.cdSearches x then 2 else 3) ∧
      ¬ Present (fLN x 8) t.dev) ∧
  (∀ (s : State) (x : Port) (coarse : Nat) (fine : Int), Running s → s.dev.rxState x = 2 →
    s.dev.cdMin x + (coarse : Int) * (s.dev.get (Fld.LNx_CD_CTL.STEP x) : Int) ≤ s.dev.cdMax x →
    fine.natAbs ≤ s.dev.get (Fld.LNx_CD_CTL.STEP x) / max 1 (s.dev.get (Fld.LNx_CD_CTL.STEP x) / 10) →
    ∃ t, exec (.cdSearchDone x coarse fine) s = .next t ∧ SameMemory s t ∧ t.dev.rxState x = 3 ∧
      (t.dev.ln x).cdFound = some (clampInt (s.dev.cdMin x) (s.dev.cdMax x)
        (s.dev.cdMin x + (coarse : Int) * (s.dev.get (Fld.LNx_CD_CTL.STEP x) : Int) +
          fine * ((max 1 (s.dev.get (Fld.LNx_CD_CTL.STEP x) / 10) : Nat) : Int)))) ∧
  (∀ (s : State) (x : Port), Running s →
    (s.dev.rxState x = 3 → ∃ t, exec (.timingDone x) s = .next t ∧ SameMemory s t ∧ t.dev = s.dev.enterRx x 4 ∧ t.dev.rxState x = 4) ∧
    (s.dev.rxState x = 4 → ∃ t, exec (.foAcqDone x) s = .next t ∧ SameMemory s t ∧ t.dev = s.dev.enterRx x 5 ∧ t.dev.rxState x = 5) ∧
    (s.dev.rxState x = 5 → ∃ t, exec (.blindDone x) s = .next t ∧ SameMemory s t ∧ t.dev = s.dev.enterRx x 6 ∧ t.dev.rxState x = 6) ∧
    (s.dev.rxState x = 7 → ∃ t, exec (.trackEnter x) s = .next t ∧ SameMemory s t ∧ t.dev = s.dev.enterRx x 8 ∧ t.dev.rxState x = 8 ∧
      ¬ Present (fLN x 10) t.dev ∧ t.dev.bitAt (Reg.LNx_INT_STATUS x) 0 = true)) ∧
  (∀ (s : State) (x : Port) (w0 w1 : Port), Running s → s.dev.rxState x = 6 →
    (w0 = w1 → ∃ t, exec (.syncFound x w0 w1) s = .next t ∧ SameMemory s t ∧ t.dev = s.dev.enterRx x 5 ∧ t.dev.rxState x = 5) ∧
    (w0 ≠ w1 → ∃ t, exec (.syncFound x w0 w1) s = .next t ∧ SameMemory s t ∧ t.dev.rxState x = 7 ∧
      t.dev.get (Fld.LNx_MIMO_STATUS.SWAP x) = w0)) ∧
  (∀ (s : State) (x : Port), Running s → 3 ≤ s.dev.rxState x → s.dev.rxState x ≤ 7 →
    ∃ t, exec (.acqTimeout x) s = .next t ∧ SameMemory s t ∧ t.dev.rxState x = (if s.dev.cdSearches x then 2 else 3) ∧
      Arising (fLN x 9) t.dev ∧ t.dev.get (Fld.LNx_ACQ_CNT.FAIL x) = min (s.dev.get (Fld.LNx_ACQ_CNT.FAIL x) + 1) 0xFFFF) ∧
  (∀ (s : State) (req : Requester) (x : Port), Writable req (2 + x) s →
    ∃ t, exec (.dspRestart req x) s = .next t ∧ t.dev.get (Fld.LNx_DSP_MODE.RESTART x) = 1 ∧ Frame [Reg.LNx_DSP_MODE x] s t) ∧
  (∀ (s : State) (x : Port) (p : List (Nat × Nat)), Running s → s.dev.rxState x = 8 → 4 ≤ p.length →
    (∀ e ∈ p, syncMatches e = false) →
    ∃ t, exec (.syncLoss x p) s = .next t ∧ SameMemory s t ∧ t.dev.rxState x = 5 ∧ Arising (fLN x 11) t.dev ∧
      t.dev.get (Fld.LNx_SYNC_LOSS_CNT.LOSSES x) = min (s.dev.get (Fld.LNx_SYNC_LOSS_CNT.LOSSES x) + 1) (2 ^ 32 - 1))

/-- The low-entropy guard, monitors, slips, clips and pre-distortion (R129, R130, R133, R141, R144, R147, R148): a window that collapses
enters the guard when the run reaches ENTER_N; a monitor update shows the measured values; a slip and clipped samples are counted with
their faults; a fade's end makes its target the active bank; a coefficient of a bank in use is refused. -/
def Obligations.DspMonitorsAndBanks : Prop :=
  (∀ (s : State) (x : Port) (ox oy : GuardObs), Running s →
    (s.dev.rxState x < 7 ∨ s.dev.get (Fld.LNx_MIMO_CTL.ADAPT x) ≠ 0 → exec (.guardWindow x ox oy) s = .next s) ∧
    (7 ≤ s.dev.rxState x → s.dev.get (Fld.LNx_MIMO_CTL.ADAPT x) = 0 → s.dev.get (Fld.LNx_DSP_STATE.GUARD x) = 0 →
      (s.dev.collapsedPol x ox || s.dev.collapsedPol x oy) = true →
      s.dev.get (Fld.LNx_GUARD_HYST.ENTER_N x) ≤ (s.dev.ln x).enterRun + 1 →
      ∃ t, exec (.guardWindow x ox oy) s = .next t ∧ t.dev.get (Fld.LNx_DSP_STATE.GUARD x) = 1 ∧ Present (fLN x 13) t.dev ∧
        t.dev.get (Fld.LNx_MIMO_STATUS.PILOT_ONLY x) = 1 ∧
        t.dev.get (Fld.LNx_GUARD_CNT.ENTRIES x) = min (s.dev.get (Fld.LNx_GUARD_CNT.ENTRIES x) + 1) (2 ^ 32 - 1) ∧
        Frame [Reg.LNx_DSP_STATE x, Reg.LNx_MIMO_STATUS x, Reg.LNx_GUARD_CNT x] s t) ∧
    (7 ≤ s.dev.rxState x → s.dev.get (Fld.LNx_MIMO_CTL.ADAPT x) = 0 → s.dev.get (Fld.LNx_DSP_STATE.GUARD x) = 1 →
      (s.dev.collapsedPol x ox || s.dev.collapsedPol x oy) = false →
      s.dev.get (Fld.LNx_GUARD_HYST.EXIT_N x) ≤ (s.dev.ln x).exitRun + 1 →
      ∃ t, exec (.guardWindow x ox oy) s = .next t ∧ t.dev.get (Fld.LNx_DSP_STATE.GUARD x) = 0 ∧ ¬ Present (fLN x 13) t.dev ∧
        t.dev.get (Fld.LNx_MIMO_STATUS.PILOT_ONLY x) = 0 ∧ Frame [Reg.LNx_DSP_STATE x, Reg.LNx_MIMO_STATUS x] s t)) ∧
  (∀ (s : State) (x : Port) (m : LineMeas), Working (2 + x.val) s → s.dev.rxState x ≠ 8 → exec (.monUpdate x m) s = .next s) ∧
  (∀ (s : State) (x : Port) (m : LineMeas), Working (2 + x.val) s → s.dev.inReset 4 = true → s.dev.rxState x = 8 →
    ∃ t, exec (.monUpdate x m) s = .next t ∧ SameMemory s t ∧ t.dev.get (Fld.LNx_MON_SNR.SNR_X x) = m.snrX.toNat ∧
      t.dev.get (Fld.LNx_MON_SNR.SNR_Y x) = m.snrY.toNat ∧ t.dev.get (Fld.LNx_MON_PMD.DGD x) = m.dgd.toNat ∧
      t.dev.get (Fld.LNx_MON_PMD.PDL x) = m.pdl.toNat ∧ t.dev.bitAt (Reg.LNx_INT_STATUS x) 2 = true) ∧
  (∀ (s : State) (x : Port), Running s → 7 ≤ s.dev.rxState x →
    ∃ t, exec (.cycleSlip x) s = .next t ∧ Arising (fLN x 14) t.dev ∧
      t.dev.get (Fld.LNx_CPR_SLIP_CNT.SLIPS x) = min (s.dev.get (Fld.LNx_CPR_SLIP_CNT.SLIPS x) + 1) (2 ^ 32 - 1) ∧
      Frame [Reg.LNx_CPR_SLIP_CNT x] s t) ∧
  (∀ (s : State) (x : Port) (n : Nat), Running s → n ≠ 0 →
    ∃ t, exec (.txClip x n) s = .next t ∧ Present (fLN x 16) t.dev ∧
      t.dev.get (Fld.LNx_TX_CLIP_CNT.SAMPLES x) = min (s.dev.get (Fld.LNx_TX_CLIP_CNT.SAMPLES x) + n) (2 ^ 32 - 1) ∧
      Frame [Reg.LNx_TX_CLIP_CNT x] s t) ∧
  (∀ (s : State) (x : Port), Running s → s.dev.get (Fld.LNx_PD_STATUS.FADING x) = 1 →
    ∃ t, exec (.fadeDone x) s = .next t ∧ t.dev.get (Fld.LNx_PD_STATUS.ACTIVE x) = s.dev.get (Fld.LNx_PD_STATUS.TARGET x) ∧
      t.dev.get (Fld.LNx_PD_STATUS.FADING x) = 0 ∧ t.dev.bitAt (Reg.LNx_INT_STATUS x) 3 = true ∧
      Frame [Reg.LNx_PD_STATUS x, Reg.LNx_INT_STATUS x] s t) ∧
  (∀ (s : State) (req : Requester) (x : Port) (bank : Fin 2) (dac : Fin 4) (tap : Fin 64) (coef : BitVec 16), Writable req (2 + x) s →
    (s.dev.pdBusy x bank = false →
      ∃ t, exec (.pdCoefWrite req x bank dac tap coef) s = .next t ∧
        t.dev.get (Fld.LNx_PD_COEF.COEF x bank dac tap) = coef.toNat ∧ Frame [Reg.LNx_PD_COEF x bank dac tap] s t) ∧
    (s.dev.pdBusy x bank = true →
      ∃ t, exec (.pdCoefWrite req x bank dac tap coef) s = .next t ∧ Arising (fLN x 15) t.dev ∧
        t.dev.get (Fld.LNx_PD_REFUSED.WRITES x) = min (s.dev.get (Fld.LNx_PD_REFUSED.WRITES x) + 1) (2 ^ 32 - 1) ∧
        Frame [Reg.LNx_PD_REFUSED x] s t))

/-! ### FEC -/

/-- Encoding and decoding (R28, R156, R162, R167, R168, R171): with ENC_EN = 1 the superframe sent is the encoded input stream, a framer's after
what its other encoder has taken already, or a decoder's last superframe; with ENC_EN = 0 it is line idle from the PRBS; a superframe
fed by a port in TRACK is decoded and counted, any other gives zeros; CNT_CLR clears the four running counters. -/
def Obligations.SuperframesAreEncodedAndDecoded : Prop :=
  (∀ (s : State) (x : Port) (bits : List Bool), Running s →
    (s.dev.fecRuns x = false → exec (.superframeEncode x bits) s = .next s) ∧
    (∀ src, s.dev.fecRuns x = true → s.dev.get (Fld.FEC_x_CTL.ENC_EN x) = 1 → s.dev.feeds 2 (0x402 + x) noInst = some src →
      src.1 ≠ 0x400 → src.1 ≠ 0x401 →
      ∃ t, exec (.superframeEncode x bits) s = .next t ∧
        (t.dev.fecOf x).sent = encodeNet (packing (s.dev.fecFmt x)) (netStream (packing (s.dev.fecFmt x))
          (((s.dev.fecOf x).ahead ++ bits).take (packing (s.dev.fecFmt x)).otuBits)) ∧
        t.dev.get (Fld.FEC_x_STATUS.ENC_RUN x) = 1 ∧ Frame [Reg.FEC_x_STATUS x] s t) ∧
    (∀ (y : Port) (i : Nat), s.dev.fecRuns x = true → s.dev.get (Fld.FEC_x_CTL.ENC_EN x) = 1 →
      s.dev.feeds 2 (0x402 + x) noInst = some (0x400 + y.val, i) →
      ∃ t, exec (.superframeEncode x bits) s = .next t ∧
        (t.dev.fecOf x).sent = encodeNet (packing (s.dev.fecFmt x)) (netStream (packing (s.dev.fecFmt x)) (s.dev.fecOf y).received) ∧
        t.dev.get (Fld.FEC_x_STATUS.ENC_RUN x) = 1 ∧ Frame [Reg.FEC_x_STATUS x] s t) ∧
    (s.dev.fecRuns x = true → s.dev.get (Fld.FEC_x_CTL.ENC_EN x) = 1 → s.dev.feeds 2 (0x402 + x) noInst = none →
      ∃ t, exec (.superframeEncode x bits) s = .next t ∧ t.dev.get (Fld.FEC_x_STATUS.ENC_RUN x) = 1 ∧
        Frame [Reg.FEC_x_STATUS x] s t) ∧
    (s.dev.fecRuns x = true → s.dev.get (Fld.FEC_x_CTL.ENC_EN x) = 0 →
      ∃ t, exec (.superframeEncode x bits) s = .next t ∧
        (t.dev.fecOf x).sent = encodeNet (packing (s.dev.fecFmt x)) (prbs31Bits (packing (s.dev.fecFmt x)).netBits (s.dev.fecOf x).prbs).1 ∧
        (t.dev.fecOf x).prbs = (prbs31Bits (packing (s.dev.fecFmt x)).netBits (s.dev.fecOf x).prbs).2 ∧
        t.dev.get (Fld.FEC_x_STATUS.ENC_RUN x) = 0 ∧ Frame [Reg.FEC_x_STATUS x] s t)) ∧
  (∀ (s : State) (x : Port) (llrs : List (BitVec 5)), Running s →
    (s.dev.fecRuns x = false ∨
        s.dev.get (Fld.FEC_x_CTL.DEC_EN x) = 0 →
      ∃ t, exec (.superframeDecode x llrs) s = .next t ∧ t.dev.get (Fld.FEC_x_STATUS.DEC_RUN x) = 0 ∧ Frame [Reg.FEC_x_STATUS x] s t) ∧
    (s.dev.fecRuns x = true → s.dev.get (Fld.FEC_x_CTL.DEC_EN x) = 1 → s.dev.decodes x = false →
      ∃ t, exec (.superframeDecode x llrs) s = .next t ∧ t.dev.get (Fld.FEC_x_STATUS.DEC_RUN x) = 0 ∧
        (t.dev.fecOf x).received = List.replicate (packing (s.dev.fecFmt x)).otuBits false ∧ Frame [Reg.FEC_x_STATUS x] s t) ∧
    (s.dev.fecRuns x = true → s.dev.get (Fld.FEC_x_CTL.DEC_EN x) = 1 → s.dev.decodes x = true →
      ∃ t, exec (.superframeDecode x llrs) s = .next t ∧ SameMemory s t ∧ t.dev.get (Fld.FEC_x_STATUS.DEC_RUN x) = 1 ∧
        (t.dev.fecOf x).received = (rebuild (packing (s.dev.fecFmt x)) ((List.range (packing (s.dev.fecFmt x)).codewords).map
          (decodeCodeword (packing (s.dev.fecFmt x)) (s.dev.get (Fld.FEC_x_DEC_CTL.NORM x)) (s.dev.get (Fld.FEC_x_DEC_STATUS.ITER_ACT x))
            (s.dev.isSet (Fld.FEC_x_DEC_CTL.EARLY_STOP x)) llrs))).1 ∧
        (t.dev.fecOf x).cw = (s.dev.fecOf x).cw + (packing (s.dev.fecFmt x)).codewords ∧
        t.dev.reg64 (Reg.FEC_x_CNT_LO x 0) = min (s.dev.reg64 (Reg.FEC_x_CNT_LO x 0) + (packing (s.dev.fecFmt x)).codewords) (2 ^ 48 - 1))) ∧
  (∀ (s : State) (req : Requester) (x : Port), Writable req 4 s →
    ∃ t, exec (.fecCntClr req x) s = .next t ∧ (∀ i, i < 4 → t.dev.reg64 (Reg.FEC_x_CNT_LO x i) = 0) ∧
      Frame ((List.range 4).flatMap (fun i => [Reg.FEC_x_CNT_LO x i, Reg.FEC_x_CNT_LO x i + 4])) s t)

/-! ### Framing -/

/-- Frame alignment (R181 to R184): a match outside IF makes a new candidate, or is dropped and reported where 16 are held; in IF a match at
the expected position ends the misses and moves the phase on, a miss counts; a missing FAS discards a candidate; two increments in a
row confirm the checked candidate and the framer enters IF at its offset; an unconfirmed one is revoked, counted and barred for a
time; N_OUT misses lead to OOF without candidates and without a bar of its own. -/
def Obligations.FramersAlign : Prop :=
  (∀ (s : State) (u : AlignUnit) (o : Nat) (h : List Byte) (e : FrameErrs) (m : FrameSeen), Running s → s.dev.alignOn u = false →
    exec (.fasMatch u o h e) s = .next s ∧ exec (.fasMiss u m) s = .next s) ∧
  (∀ (s : State) (u : AlignUnit) (o : Nat) (h : List Byte) (e : FrameErrs), Running s → s.dev.alignOn u = true → FasMatches u h s →
    (s.dev.aligner u).state ≠ 3 → (s.dev.aligner u).cands.find? (fun c => c.offset == o) = none → o ∉ (s.dev.aligner u).barred →
    (s.dev.aligner u).cands.length < 16 →
    ∃ t, exec (.fasMatch u o h e) s = .next t ∧ SameMemory s t ∧
      (t.dev.aligner u).cands = (s.dev.aligner u).cands ++ [{ offset := o, count := 1, mfas := h.getD 6 0 }]) ∧
  (∀ (s : State) (x : Port) (o : Nat) (h : List Byte) (e : FrameErrs), Running s → s.dev.alignOn (.port x) = true →
    FasMatches (.port x) h s → (s.dev.aligner (.port x)).state ≠ 3 →
    (s.dev.aligner (.port x)).cands.find? (fun c => c.offset == o) = none →
    o ∉ (s.dev.aligner (.port x)).barred → 16 ≤ (s.dev.aligner (.port x)).cands.length →
    ∃ t, exec (.fasMatch (.port x) o h e) s = .next t ∧ t.dev.aligner (.port x) = s.dev.aligner (.port x) ∧ Arising 180 t.dev ∧
      t.dev.get (Fld.FRM_x_ALIGN_CNT.CAND_OVF x) = min (s.dev.get (Fld.FRM_x_ALIGN_CNT.CAND_OVF x) + 1) 0xFFF ∧
      Frame [Reg.FRM_x_ALIGN_CNT x, Reg.FRM_x_OTU_STATUS x] s t) ∧
  (∀ (s : State) (u : AlignUnit) (h : List Byte) (e : FrameErrs) (m : FrameSeen), Running s → s.dev.alignOn u = true →
    (s.dev.aligner u).state = 3 →
    (FasMatches u h s → ∃ t, exec (.fasMatch u (s.dev.aligner u).offset h e) s = .next t ∧ SameMemory s t ∧
      (t.dev.aligner u).misses = 0 ∧ (t.dev.aligner u).state = 3 ∧
      (t.dev.aligner u).phase = (if (s.dev.aligner u).oom then (s.dev.aligner u).phase else (s.dev.aligner u).phase + 1)) ∧
    (NoFas m.head → m.offset = (s.dev.aligner u).offset → ∃ t, exec (.fasMiss u m) s = .next t ∧ SameMemory s t ∧
      (t.dev.aligner u).misses = (s.dev.aligner u).misses + 1 ∧ (t.dev.aligner u).follow = 0)) ∧
  (∀ (s : State) (u : AlignUnit) (m : FrameSeen), Running s → s.dev.alignOn u = true → (s.dev.aligner u).state ≠ 3 → NoFas m.head →
    ((s.dev.aligner u).check.map (·.1)) ≠ some m.offset →
    ∃ t, exec (.fasMiss u m) s = .next t ∧ SameMemory s t ∧ (∀ c ∈ (t.dev.aligner u).cands, c.offset ≠ m.offset) ∧
      m.offset ∉ (t.dev.aligner u).eligible ∧ (t.dev.aligner u).barred = (s.dev.aligner u).barred) ∧
  (∀ (s : State) (x : Port) (h : List Byte) (o : Nat) (l : List (Option (BitVec 8))), Running s →
    s.dev.alignOn (.port x) = true → (s.dev.aligner (.port x)).check = some (o, l) → l.length < 5 →
    (FasMatches (.port x) h s → confirmed (l ++ [some (h.getD 6 0)]) = true → (s.dev.aligner (.port x)).state ≠ 3 →
      ∃ t, exec (.mfCheckFrame (.port x) h) s = .next t ∧ (t.dev.aligner (.port x)).state = 3 ∧
        (t.dev.aligner (.port x)).offset = o ∧ (t.dev.aligner (.port x)).phase = h.getD 6 0 ∧
        (t.dev.aligner (.port x)).barred = (s.dev.aligner (.port x)).barred ∧
        t.dev.get (Fld.FRM_x_OTU_STATUS.STATE x) = 3 ∧ t.dev.bitAt Reg.FRM_INT_STATUS (2 + x) = true ∧
        Frame [Reg.FRM_x_OTU_STATUS x, Reg.FRM_INT_STATUS] s t) ∧
    (FasMatches (.port x) h s → confirmed (l ++ [some (h.getD 6 0)]) = false →
      ∃ t, exec (.mfCheckFrame (.port x) h) s = .next t ∧
        (t.dev.aligner (.port x)).check = some (o, l ++ [some (h.getD 6 0)]) ∧ Frame [Reg.FRM_x_OTU_STATUS x] s t) ∧
    (NoFas h → ∃ t, exec (.mfCheckFrame (.port x) h) s = .next t ∧
        (t.dev.aligner (.port x)).check = some (o, l ++ [none]) ∧ Frame [Reg.FRM_x_OTU_STATUS x] s t)) ∧
  (∀ (s : State) (x : Port) (o : Nat) (l : List (Option (BitVec 8))), Running s → (s.dev.aligner (.port x)).check = some (o, l) →
    5 ≤ l.length →
    ∃ t, exec (.revoke (.port x)) s = .next t ∧ SameMemory s t ∧ Arising (fFRM x 5) t.dev ∧
      (∀ c ∈ (t.dev.aligner (.port x)).cands, c.offset ≠ o) ∧
      (t.dev.aligner (.port x)).barred = (s.dev.aligner (.port x)).barred ++ [o] ∧
      t.dev.get (Fld.FRM_x_ALIGN_CNT.REVOKE x) = min (s.dev.get (Fld.FRM_x_ALIGN_CNT.REVOKE x) + 1) 0x3FF) ∧
  (∀ (s : State) (u : AlignUnit) (o : Nat), Running s →
    ∃ t, exec (.barExpiry u o) s = .next t ∧ SameMemory s t ∧ o ∉ (t.dev.aligner u).barred ∧
      (t.dev.aligner u).cands = (s.dev.aligner u).cands) ∧
  (∀ (s : State) (x : Port), Running s → (s.dev.aligner (.port x)).state = 3 →
    s.dev.get (Fld.FRM_x_OTU_CTL.N_OUT x) ≤ (s.dev.aligner (.port x)).misses →
    ∃ t, exec (.oof (.port x)) s = .next t ∧ (t.dev.aligner (.port x)).state = 0 ∧ (t.dev.aligner (.port x)).cands = [] ∧
      (t.dev.aligner (.port x)).barred = (s.dev.aligner (.port x)).barred ∧
      t.dev.get (Fld.FRM_x_OTU_STATUS.STATE x) = 0 ∧
      t.dev.get (Fld.FRM_x_ALIGN_CNT.OOF x) = min (s.dev.get (Fld.FRM_x_ALIGN_CNT.OOF x) + 1) 0x3FF ∧
      Frame [Reg.FRM_x_OTU_STATUS x, Reg.FRM_x_ALIGN_CNT x, Reg.FRM_INT_STATUS] s t)

/-- Multiframe, LOF and LOM, overhead and flows (R184, R185, R188, R189, R195): OOM sets after five mismatches and clears after two frames
that follow the held phase; LOF and LOM follow the state that has lasted 3 ms, with their faults at a port; an overhead value is
accepted when its occurrences in a row reach the persistence of its kind; an APS value of the flow's level that is accepted is shown and signalled; a mapping
error counts. -/
def Obligations.AlarmsAndOverheadFollowTheirRules : Prop :=
  (∀ (s : State) (x : Port), Running s → (s.dev.aligner (.port x)).state = 3 →
    ((s.dev.aligner (.port x)).oom = false → 5 ≤ (s.dev.aligner (.port x)).mismatches →
      ∃ t, exec (.oomSet (.port x)) s = .next t ∧ t.dev.get (Fld.FRM_x_OTU_STATUS.OOM x) = 1 ∧
        (t.dev.aligner (.port x)).phase = (s.dev.aligner (.port x)).phase ∧ Frame [Reg.FRM_x_OTU_STATUS x] s t) ∧
    ((s.dev.aligner (.port x)).oom = true → 2 ≤ (s.dev.aligner (.port x)).follow →
      ∃ t, exec (.oomClear (.port x)) s = .next t ∧ t.dev.get (Fld.FRM_x_OTU_STATUS.OOM x) = 0 ∧
        (t.dev.aligner (.port x)).phase = (s.dev.aligner (.port x)).phase + BitVec.ofNat 8 (s.dev.aligner (.port x)).follow ∧
        Frame [Reg.FRM_x_OTU_STATUS x] s t)) ∧
  (∀ (s : State) (x : Port), Running s → s.dev.frmRxOn x = true →
    (∃ t, exec (.lofChange (.port x)) s = .next t ∧
      t.dev.get (Fld.FRM_x_OTU_STATUS.LOF x) = (if (s.dev.aligner (.port x)).state = 3 then 0 else 1) ∧
      (Present (fFRM x 0) t.dev ↔ (s.dev.aligner (.port x)).state ≠ 3) ∧ Frame [Reg.FRM_x_OTU_STATUS x] s t) ∧
    (∃ t, exec (.lomChange (.port x)) s = .next t ∧
      t.dev.get (Fld.FRM_x_OTU_STATUS.LOM x) = bit (s.dev.aligner (.port x)).oom ∧
      (Present (fFRM x 1) t.dev ↔ (s.dev.aligner (.port x)).oom = true) ∧ Frame [Reg.FRM_x_OTU_STATUS x] s t)) ∧
  (∀ (s : State) (f : Fin 1280) (x : Port), Running s → s.dev.frmRxOn x = true →
    (∃ t, exec (.lofChange (.flow f x)) s = .next t ∧ SameMemory s t ∧
      (t.dev.aligner (.flow f x)).lof = decide ((s.dev.aligner (.flow f x)).state ≠ 3)) ∧
    (∃ t, exec (.lomChange (.flow f x)) s = .next t ∧ SameMemory s t ∧
      (t.dev.aligner (.flow f x)).lom = (s.dev.aligner (.flow f x)).oom)) ∧
  (∀ (s : State) (i : OhItem), Running s → s.dev.ohInFrame i = false → exec (.ohAccept i) s = .next s) ∧
  (∀ (s : State) (i : OhItem) (n : Nat), Running s → s.dev.ohInFrame i = true →
    s.dev.frm.filters.find? (fun e => e.1 == ohKey i) = some (ohKey i, (i, n)) →
    (n + 1 < ohPersistence i → ∃ t, exec (.ohAccept i) s = .next t ∧ Frame [] s t ∧ t.dev.causes = s.dev.causes ∧
      t.dev.frm.filters.find? (fun e => e.1 == ohKey i) = some (ohKey i, (i, n + 1))) ∧
    (ohPersistence i ≤ n + 1 → ∃ t, exec (.ohAccept i) s = .next t ∧ SameMemory s t ∧ AcceptedShows i s t)) ∧
  (∀ (s : State) (x : Port) (on : Bool) (n : Nat), Running s → s.dev.ohInFrame (.smBdi x on) = true → 4 ≤ n →
    s.dev.frm.filters.find? (fun e => e.1 == ohKey (.smBdi x on)) = some (ohKey (.smBdi x on), (.smBdi x on, n)) →
    ∃ t, exec (.ohAccept (.smBdi x on)) s = .next t ∧ t.dev.get (Fld.FRM_x_SM_STATUS.BDI x) = bit on ∧
      (Present (fFRM x 3) t.dev ↔ on = true) ∧ Frame [Reg.FRM_x_SM_STATUS x] s t) ∧
  (∀ (s : State) (f : Fin 1280) (m : BitVec 8) (v : BitVec 32) (n : Nat), Running s → s.dev.ohInFrame (.flowBdi f false) = true →
    m.toNat % 8 = s.dev.get (Fld.FRM_FLOW_CTL.APS_LEVEL f) →
    (v = s.dev.reg (Reg.FRM_FLOW_APS_RX f) → ∃ t, exec (.apsAccept f ⟨m, v⟩) s = .next t ∧ Frame [] s t) ∧
    (v ≠ s.dev.reg (Reg.FRM_FLOW_APS_RX f) → s.dev.frm.aps.find? (fun e => e.1 == f.val) = some (f.val, { cand := v, count := n }) →
      s.dev.get (Fld.FRM_FLOW_CTL.APS_N f) ≤ n + 1 →
      ∃ t, exec (.apsAccept f ⟨m, v⟩) s = .next t ∧ t.dev.reg (Reg.FRM_FLOW_APS_RX f) = v ∧
        t.dev.bitAt (Reg.FRM_FLOW_EVT f) 0 = true ∧ t.dev.bitAt Reg.FRM_INT_STATUS 4 = true ∧ Arising 178 t.dev ∧
        Frame [Reg.FRM_FLOW_APS_RX f, Reg.FRM_FLOW_EVT f, Reg.FRM_INT_STATUS] s t)) ∧
  (∀ (s : State) (f : Fin 1280), Running s → (s.dev.flowOf f).isSome = true →
    ∃ t, exec (.mapErr f) s = .next t ∧ Arising 177 t.dev ∧ t.dev.bitAt (Reg.FRM_FLOW_EVT f) 2 = true ∧
      t.dev.get (Fld.FRM_FLOW_MAP_CNT.ERRORS f) = min (s.dev.get (Fld.FRM_FLOW_MAP_CNT.ERRORS f) + 1) (2 ^ 32 - 1) ∧
      Frame [Reg.FRM_FLOW_MAP_CNT f, Reg.FRM_FLOW_EVT f, Reg.FRM_INT_STATUS] s t)

/-- Slot interchange (R198 to R201): a standby entry takes the written value, or the write is refused and counted while a copy or swap is
pending; a copy makes the standby page equal the active one; a swap whose standby page fails the check is refused; one that passes
waits and at the boundary exchanges the pages entry by entry. -/
def Obligations.SlotPagesCopyAndSwap : Prop :=
  (∀ (s : State) (req : Requester) (k : Fin 4) (t : Fin 640) (v : Word), Writable req 5 s →
    ((s.dev.swapPending k || s.dev.copyPending k) = false →
      ∃ u, exec (.tsiSbyWrite req k t v) s = .next u ∧ u.dev.reg (Reg.FRM_TSI_SBY k t) = v &&& 0x800007FF ∧
        Frame [Reg.FRM_TSI_SBY k t] s u) ∧
    ((s.dev.swapPending k || s.dev.copyPending k) = true →
      ∃ u, exec (.tsiSbyWrite req k t v) s = .next u ∧ Arising 179 u.dev ∧
        u.dev.get Fld.FRM_CM_REFUSED.WRITES = min (s.dev.get Fld.FRM_CM_REFUSED.WRITES + 1) (2 ^ 32 - 1) ∧
        Frame [Reg.FRM_CM_REFUSED] s u)) ∧
  (∀ (s : State) (req : Requester) (k : Fin 4), Writable req 5 s →
    ∃ u, exec (.tsiCopy req k) s = .next u ∧ u.dev.copyPending k = true ∧ u.dev.bitAt Reg.FRM_TSI_PAGE_CTL (8 + k) = true ∧
      Frame [Reg.FRM_TSI_PAGE_CTL, Reg.FRM_TSI_PAGE_STATUS] s u) ∧
  (∀ (s : State) (k : Fin 4), Running s →
    (s.dev.copyPending k = false → exec (.tsiCopyDone k) s = .next s) ∧
    (s.dev.copyPending k = true →
      ∃ u, exec (.tsiCopyDone k) s = .next u ∧ u.dev.copyPending k = false ∧
        (∀ t, t < 640 → u.dev.reg (Reg.FRM_TSI_SBY k t) = s.dev.reg (Reg.FRM_TSI_ACT k t)) ∧
        Frame (Reg.FRM_TSI_PAGE_CTL :: Reg.FRM_TSI_PAGE_STATUS :: (List.range 640).map (fun t => Reg.FRM_TSI_SBY k t)) s u)) ∧
  (∀ (s : State) (req : Requester) (k : Fin 4), Writable req 5 s →
    (s.dev.swapPending k = true → exec (.tsiSwap req k) s = .next s) ∧
    (s.dev.swapPending k = false → s.dev.swapOk k = true →
      ∃ u, exec (.tsiSwap req k) s = .next u ∧ u.dev.swapPending k = true ∧
        Frame [Reg.FRM_TSI_PAGE_CTL, Reg.FRM_TSI_PAGE_STATUS] s u) ∧
    (s.dev.swapPending k = false → s.dev.swapOk k = false →
      ∃ u, exec (.tsiSwap req k) s = .next u ∧ u.dev.swapPending k = false ∧ Arising 179 u.dev ∧
        u.dev.bitAt Reg.FRM_TSI_PAGE_STATUS (24 + k) = true ∧ u.dev.bitAt Reg.FRM_INT_STATUS 1 = true ∧
        Frame [Reg.FRM_TSI_PAGE_CTL, Reg.FRM_TSI_PAGE_STATUS, Reg.FRM_INT_STATUS] s u)) ∧
  (∀ (s : State) (k : Fin 4), Running s →
    (s.dev.swapPending k = false → exec (.tsiSwapApply k) s = .next s) ∧
    (s.dev.swapPending k = true →
      ∃ u, exec (.tsiSwapApply k) s = .next u ∧ SameMemory s u ∧ u.dev.swapPending k = false ∧
        u.dev.bitAt Reg.FRM_TSI_PAGE_STATUS (16 + k) = true ∧
        u.dev.bitAt Reg.FRM_TSI_PAGE_STATUS (8 + k) = !s.dev.bitAt Reg.FRM_TSI_PAGE_STATUS (8 + k) ∧
        ∀ t, t < 640 → u.dev.reg (Reg.FRM_TSI_ACT k t) = s.dev.reg (Reg.FRM_TSI_SBY k t) ∧
          u.dev.reg (Reg.FRM_TSI_SBY k t) = s.dev.reg (Reg.FRM_TSI_ACT k t)))

/-! ### Payload encryption -/

/-- Encrypting (R212 to R214, R221, R222): frames of a maintenance signal pass as they are; with no usable slot the flow sends ODU-LCK; a
whole block is encrypted under the chosen slot, whose COUNT goes up by one, and after maintenance frames as a new block with no tag
before it; a late block is replaced and reported. -/
def Obligations.BlocksAreEncrypted : Prop :=
  (∀ (s : State) (f : Fin 1280) (l : List OduFrame), Running s → s.dev.eIndex f = none → exec (.cryptoBlockTx f l) s = .next s) ∧
  (∀ (s : State) (f : Fin 1280) (e : Nat) (m : List OduFrame), Encrypting f e s → m ≠ [] → (∀ w ∈ m, odMaint w = true) →
    ∃ t, exec (.cryptoBlockTx f m) s = .next t ∧ (t.dev.cryFlow f).txOut = .frames m ∧ (t.dev.cryFlow f).tagPrev = none ∧
      Frame [] s t) ∧
  (∀ (s : State) (f : Fin 1280) (e : Nat) (b : Bool) (l : List OduFrame), Encrypting f e s → e < 256 → (∀ w ∈ l, odMaint w = false) →
    l.length = 2 ^ s.dev.get (Fld.CRY_FLOW_CTL.SIZE f) → s.dev.chooseSlot f e = (none, b) →
    ∃ t, exec (.cryptoBlockTx f l) s = .next t ∧ (t.dev.cryFlow f).txOut = .lck ∧
      t.dev.get (Fld.CRY_FLOW_STATUS.TX_LCK f) = 1 ∧ t.dev.get (Fld.CRY_FLOW_STATUS.TX_SLOT f) = 2 ∧
      Frame [Reg.CRY_FLOW_STATUS f, Reg.CRY_KS_STATE (2 * e), Reg.CRY_KS_STATE (2 * e + 1)] s t) ∧
  (∀ (s : State) (f : Fin 1280) (e k : Nat) (b : Bool) (l : List OduFrame), Encrypting f e s → e < 256 → (∀ w ∈ l, odMaint w = false) →
    l.length = 2 ^ s.dev.get (Fld.CRY_FLOW_CTL.SIZE f) → s.dev.chooseSlot f e = (some k, b) →
    ∃ t, exec (.cryptoBlockTx f l) s = .next t ∧ SameMemory s t ∧
      (t.dev.cryFlow f).txOut = .frames (s.dev.encryptBlock f k (s.dev.slotCount k) l).1 ∧
      (t.dev.cryFlow f).tagPrev = some (s.dev.encryptBlock f k (s.dev.slotCount k) l).2 ∧
      t.dev.slotCount k = (s.dev.slotCount k + 1) % 2 ^ 64 ∧ t.dev.get (Fld.CRY_FLOW_STATUS.TX_LCK f) = 0) ∧
  (∀ (s : State) (f : Fin 1280) (e k : Nat) (b : Bool) (m l : List OduFrame), Encrypting f e s → e < 256 → m ≠ [] →
    (∀ w ∈ m, odMaint w = true) → (∀ w ∈ l, odMaint w = false) → l.length = 2 ^ s.dev.get (Fld.CRY_FLOW_CTL.SIZE f) →
    s.dev.chooseSlot f e = (some k, b) →
    let r := (s.dev.setCryFlow f { s.dev.cryFlow f with tagPrev := none }).encryptBlock f k (s.dev.slotCount k) l
    ∃ t, exec (.cryptoBlockTx f (m ++ l)) s = .next t ∧ SameMemory s t ∧ (t.dev.cryFlow f).txOut = .frames (m ++ r.1) ∧
      (t.dev.cryFlow f).tagPrev = some r.2 ∧ t.dev.slotCount k = (s.dev.slotCount k + 1) % 2 ^ 64) ∧
  (∀ (s : State) (f : Fin 1280) (e : Nat) (tx : Bool), Encrypting f e s →
    ∃ t, exec (.cryptoLate f tx) s = .next t ∧ Arising 205 t.dev ∧
      (if tx then (t.dev.cryFlow f).txOut = .ais ∧ (t.dev.cryFlow f).tagPrev = none else (t.dev.cryFlow f).rxOut = .ais) ∧ Frame [] s t)

/-- Decrypting a block (R214, R219, R223, R224): an accepted block delivers its plaintext, becomes the last COUNT of its slot and ends
RX_LCK; a rejected one counts, reports and delivers AIS, LCK or the unverified plaintext as FAIL_ACT says; frames of an accepted
maintenance signal pass among ODU-AIS, and before it is accepted ODU-AIS replaces what it interrupts. -/
def Obligations.BlocksAreDecryptedOrRejected : Prop :=
  (∀ (s : State) (f : Fin 1280) (l : List OduFrame) (n : OduFrame), Running s → s.dev.eIndex f = none →
    exec (.cryptoBlockRx f l n) s = .next s) ∧
  (∀ (s : State) (f : Fin 1280) (e : Nat) (l : List OduFrame) (n : OduFrame), Encrypting f e s → l.any odMaint = true →
    s.dev.maintAccepted f = true →
    ∃ t, exec (.cryptoBlockRx f l n) s = .next t ∧ Frame [] s t ∧
      (t.dev.cryFlow f).rxOut = .frames (l.map (fun w => if odMaint w then w else maintenanceFrame .ais))) ∧
  (∀ (s : State) (f : Fin 1280) (e : Nat) (l : List OduFrame) (n : OduFrame), Encrypting f e s →
    (l.any odMaint || odMaint n) = true → (l.any odMaint && s.dev.maintAccepted f) = false → l ≠ [] →
    ∃ t, exec (.cryptoBlockRx f l n) s = .next t ∧ (t.dev.cryFlow f).rxOut = .ais ∧ Frame [] s t) ∧
  (∀ (s : State) (f : Fin 1280) (e : Nat) (w : OduFrame) (l : List OduFrame) (n : OduFrame), Encrypting f e s →
    e < 256 → ((w :: l).any odMaint || odMaint n) = false →
    ∃ t, exec (.cryptoBlockRx f (w :: l) n) s = .next t ∧ SameMemory s t ∧
      match s.dev.cryCheck f e (w :: l) n with
      | (none, some k, plain) =>
        (t.dev.keySlot k).lastCount = some (odBc w % 2 ^ 48) ∧ t.dev.get (Fld.CRY_FLOW_STATUS.RX_SLOT f) = (k - 2 * e) % 4 ∧
          (if s.dev.get (Fld.CRY_FLOW_STATUS.RX_LCK f) = 1 ∧ (s.dev.cryFlow f).erased = some k then (t.dev.cryFlow f).rxOut = .lck
            else (t.dev.cryFlow f).rxOut = withPayload (w :: l) plain ∧ t.dev.get (Fld.CRY_FLOW_STATUS.RX_LCK f) = 0) ∧
          RegsKept [Reg.CRY_FLOW_STATUS f, Reg.CRY_KS_STATE (2 * e), Reg.CRY_KS_STATE (2 * e + 1)] s.dev t.dev
      | (none, none, _) => False
      | (some r, _, plain) =>
        t.dev.bitAt Reg.CRY_INT_STATUS 1 = true ∧
          Arising (match r with | .hdr => 196 | .ki => 193 | .role => 195 | .replay => 194 | .auth => 192) t.dev ∧
          (t.dev.cryFlow f).rxOut = (if s.dev.get (Fld.CRY_FLOW_STATUS.RX_LCK f) = 1 then .lck
            else if s.dev.get (Fld.CRY_FLOW_CTL.FAIL_ACT f) = 1 ∧ r ≠ .hdr ∧ r ≠ .ki then withPayload (w :: l) plain else .ais) ∧
          RegsKept [Reg.CRY_FLOW_REJ_CNT f, Reg.CRY_FLOW_AUTH_CNT f, Reg.CRY_INT_STATUS] s.dev t.dev)

/-- Jobs and randomness (R228 to R232): the job whose turn it is has its descriptor's work done in HBM and a STATUS kept for its end; with
errors it touches no memory and keeps one of their codes; a failed tag leaves zeros; the end writes STATUS, counts the job and frees its
queue; the DRBG's health shows in DRBG_OK and its two faults. -/
def Obligations.CryptoJobsAndRandomness : Prop :=
  (∀ s : State, Working 6 s → s.dev.nextJobQueue = none → exec .cryptoJob s = .next s) ∧
  (∀ (s : State) (j a : Nat), Working 6 s → s.dev.nextJobQueue = some j →
    s.dev.qAddr (s.dev.jobQueue j) (64 * s.dev.qCons (s.dev.jobQueue j)) = some a →
    s.dev.jobErrors (s.hbm.readBytes a 64) ≠ [] →
    ∃ t code, exec .cryptoJob s = .next t ∧ code ∈ s.dev.jobErrors (s.hbm.readBytes a 64) ∧
      (j, { queue := s.dev.jobQueue j, desc := a, status := code }) ∈ t.dev.cry.jobs ∧ t.dev.cry.jobLast = j ∧ Frame [] s t) ∧
  (∀ (s : State) (j a : Nat), Working 6 s → s.dev.nextJobQueue = some j →
    s.dev.qAddr (s.dev.jobQueue j) (64 * s.dev.qCons (s.dev.jobQueue j)) = some a →
    s.dev.jobErrors (s.hbm.readBytes a 64) = [] →
    let x := s.hbm.readBytes a 64
    let k := s.dev.keySlot (leAt x 2 2)
    let input := s.hbm.readBytes (leAt x 8 8) (leAt x 4 4)
    let good := sliceBytes (Config.gcmTag k.key (sliceBytes x 36 12) (s.hbm.readBytes (leAt x 24 8) (leAt x 32 2)) input) 0 16
      = sliceBytes x 48 16
    (leAt x 0 1 = 2 →
      ∃ t, exec .cryptoJob s = .next t ∧ t.sram = s.sram ∧ t.pending = s.pending ∧ RegsKept [] s.dev t.dev ∧
        t.hbm = s.hbm.writeBytes (leAt x 16 8)
          (if good then sliceBytes (Config.gcmCrypt k.key (sliceBytes x 36 12) input) 0 (leAt x 4 4) else List.replicate (leAt x 4 4) 0) ∧
        (j, { queue := s.dev.jobQueue j, desc := a, status := if good then 0 else 7 }) ∈ t.dev.cry.jobs) ∧
    (leAt x 0 1 = 1 →
      ∃ t, exec .cryptoJob s = .next t ∧ t.sram = s.sram ∧ t.pending = s.pending ∧ t.hbm = (s.jobWork a x).1.hbm ∧
        t.dev.slotCount (leAt x 2 2) = (s.dev.slotCount (leAt x 2 2) + 1) % 2 ^ 64 ∧
        (j, { queue := s.dev.jobQueue j, desc := a, status := 0 }) ∈ t.dev.cry.jobs)) ∧
  (∀ (s : State) (j : Fin 4) (b : CryJob), Working 6 s → s.dev.cry.jobs.find? (fun e => e.1 == j.val) = some (j.val, b) →
    ∃ t, exec (.cryptoJobDone j) s = .next t ∧ t.hbm = s.hbm.write (b.desc + 1) (BitVec.ofNat 8 b.status) ∧ t.sram = s.sram ∧
      t.pending = s.pending ∧ (∀ c, (j.val, c) ∉ t.dev.cry.jobs) ∧ (b.status ≠ 0 → Arising 202 t.dev) ∧
      t.dev.get Fld.CRY_JOB_CNT.JOBS = min (s.dev.get Fld.CRY_JOB_CNT.JOBS + 1) (2 ^ 32 - 1) ∧
      t.dev.get Fld.CRY_JOB_ERR_CNT.JOBS =
        min (s.dev.get Fld.CRY_JOB_ERR_CNT.JOBS + (if b.status = 0 then 0 else 1)) (2 ^ 32 - 1)) ∧
  (∀ s : State, Running s →
    (∃ t, exec .drbgReseed s = .next t ∧ t.dev.get Fld.CRY_STATUS.DRBG_OK = 1 ∧ ¬ Present 203 t.dev ∧ ¬ Present 485 t.dev ∧
      Frame [Reg.CRY_STATUS] s t) ∧
    (∃ t, exec .entropyFail s = .next t ∧ t.dev.get Fld.CRY_STATUS.DRBG_OK = 0 ∧ Present 203 t.dev ∧ Present 485 t.dev ∧
      Frame [Reg.CRY_STATUS] s t))

/-! ### Hitless merge -/

/-- Numbering and slots (R238, R239, R240, R247, R251): MRG.DUP gives the next number, in RELAY the number passes; a valid copy is the 32nd
in a row before its path is OK; an invalid one counts and ends the run; a slot sends the held copy of its number, and ODU-AIS with a
counted miss where none is held, and the output number goes on by one. -/
def Obligations.CopiesAreNumberedCheckedAndServed : Prop :=
  (∀ (s : State) (f : Fin 1280) (x : OduFrame), Working 7 s → s.dev.regionRuns 3 = true →
    (s.dev.protectedFlow f = none → exec (.mergeDup f x) s = .next s) ∧
    ((s.dev.protectedFlow f).isSome = true → s.dev.relay f = false →
      ∃ t, exec (.mergeDup f x) s = .next t ∧ t.dev.reg (Reg.MRG_FLOW_TXSQ f) = s.dev.reg (Reg.MRG_FLOW_TXSQ f) + 1 ∧
        (t.dev.mf f).dup = some (oduWithSq x (s.dev.reg (Reg.MRG_FLOW_TXSQ f) + 1).toNat) ∧ Frame [Reg.MRG_FLOW_TXSQ f] s t) ∧
    ((s.dev.protectedFlow f).isSome = true → s.dev.relay f = true →
      ∃ t, exec (.mergeDup f x) s = .next t ∧ (t.dev.mf f).dup = some (oduWithSq x (oduSq x)) ∧ Frame [Reg.MRG_FLOW_TXSQ f] s t)) ∧
  (∀ (s : State) (f : Fin 1280) (p : MergePath) (x : OduFrame) (u : Bool) (w : FlowDecl), Working 7 s → s.dev.regionRuns 3 = true →
    s.dev.protectedFlow f = some w →
    s.dev.hasJoin f p = true → s.dev.relay f = false → (s.dev.mf f).held = [] → s.dev.pathState f p = 1 →
    (s.dev.copyFails w f p x u = none → 31 ≤ ((s.dev.mf f).path p).run →
      ∃ t, exec (.mergeCopy f p x u) s = .next t ∧ t.dev.pathState f p = 2 ∧
        t.dev.bitAt (Reg.MRG_FLOW_EVT f) (2 + pathNum p) = true ∧ t.dev.bitAt Reg.MRG_INT_STATUS 1 = true ∧
        ((t.dev.mf f).path p).prev = some (oduSq x)) ∧
    (s.dev.copyFails w f p x u = none → ((s.dev.mf f).path p).run < 31 →
      ∃ t, exec (.mergeCopy f p x u) s = .next t ∧ t.dev.pathState f p = 1 ∧
        ((t.dev.mf f).path p).run = ((s.dev.mf f).path p).run + 1 ∧ ((t.dev.mf f).path p).prev = some (oduSq x)) ∧
    (∀ c, s.dev.copyFails w f p x u = some c →
      ∃ t, exec (.mergeCopy f p x u) s = .next t ∧ t.dev.pathState f p = 1 ∧ ((t.dev.mf f).path p).run = 0 ∧
        ((t.dev.mf f).path p).failed = some c ∧ t.dev.get (fldInv f p) = min (s.dev.get (fldInv f p) + 1) 0xFFFF)) ∧
  (∀ (s : State) (f : Fin 1280), Working 7 s → s.dev.regionRuns 3 = true → (s.dev.protectedFlow f).isSome = true →
    s.dev.relay f = false →
    (s.dev.anchored f = false →
      ∃ t, exec (.mergeSlot f) s = .next t ∧ (t.dev.mf f).sel = some .ais ∧ RegsKept [] s.dev t.dev) ∧
    (s.dev.anchored f = true → (s.dev.mf f).held.find? (fun h => h.sq == s.dev.nOut f) = none →
      ∃ t, exec (.mergeSlot f) s = .next t ∧ (t.dev.mf f).sel = some .ais ∧ Arising 226 t.dev ∧
        t.dev.reg (Reg.MRG_FLOW_OUTSQ f) = s.dev.reg (Reg.MRG_FLOW_OUTSQ f) + 1 ∧
        t.dev.get (Fld.MRG_FLOW_MISS_CNT.SLOTS f) = min (s.dev.get (Fld.MRG_FLOW_MISS_CNT.SLOTS f) + 1) (2 ^ 32 - 1) ∧
        t.dev.bitAt (Reg.MRG_FLOW_EVT f) 4 = true ∧
        RegsKept [Reg.MRG_FLOW_OUTSQ f, Reg.MRG_FLOW_MISS_CNT f, Reg.MRG_FLOW_EVT f, Reg.MRG_INT_STATUS] s.dev t.dev) ∧
    (∀ h, s.dev.anchored f = true → s.dev.inReset 9 = false →
      (s.dev.mf f).held.find? (fun h => h.sq == s.dev.nOut f) = some h →
      ∃ t, exec (.mergeSlot f) s = .next t ∧ (t.dev.mf f).sel = some (.frame h.frame) ∧
        t.dev.reg (Reg.MRG_FLOW_OUTSQ f) = s.dev.reg (Reg.MRG_FLOW_OUTSQ f) + 1 ∧
        t.dev.get (Fld.MRG_FLOW_STATUS.SERVING f) = h.path % 2 ∧
        ∀ e ∈ (t.dev.mf f).held, e.sq ≠ s.dev.nOut f))

/-- Path states, anchors and heartbeats (R242 to R245, R249): eight periods without a valid copy, or signal fail, take a path to FAILED
with its cause; with the signal back it acquires again; two OK paths, or one for 20 ms, anchor the output at the earliest held number;
REALIGN waits for the frame boundary; a lost heartbeat clears its flag; a failed path's class follows its heartbeat. -/
def Obligations.PathsFailRecoverAndAnchor : Prop :=
  (∀ (s : State) (f : Fin 1280) (p : MergePath), Working 7 s →
    (s.dev.pathState f p ≠ 2 → ∃ t, exec (.pathTimeout f p) s = .next t ∧ RegsKept [] s.dev t.dev) ∧
    (s.dev.pathState f p = 2 →
      ∃ t, exec (.pathTimeout f p) s = .next t ∧ t.dev.pathState f p = 3 ∧
        t.dev.get (fldCause f p) = (if s.dev.signalFail f p then 1 else (((s.dev.mf f).path p).failed).getD 1 % 4) ∧
        t.dev.get (fldClass f p) = 0 ∧ t.dev.bitAt (Reg.MRG_FLOW_EVT f) (pathNum p) = true)) ∧
  (∀ (s : State) (f : Fin 1280) (p : MergePath), Working 7 s → s.dev.signalFail f p = true →
    (s.dev.pathState f p = 1 ∨ s.dev.pathState f p = 2) →
    ∃ t, exec (.pathSignalFail f p) s = .next t ∧ t.dev.pathState f p = 3 ∧ t.dev.get (fldCause f p) = 1 ∧
      t.dev.get (fldClass f p) = 0 ∧ t.dev.bitAt (Reg.MRG_FLOW_EVT f) (pathNum p) = true) ∧
  (∀ (s : State) (f : Fin 1280) (p : MergePath), Working 7 s → s.dev.signalFail f p = false → s.dev.forceAllows f p = true →
    s.dev.pathState f p = 3 →
    ∃ t, exec (.pathSignalClear f p) s = .next t ∧ t.dev.pathState f p = 1 ∧ t.dev.get (fldCause f p) = 0 ∧
      t.dev.get (fldClass f p) = 0) ∧
  (∀ (s : State) (f : Fin 1280) (w : FlowDecl) (h : HeldFrame), Working 7 s → s.dev.protectedFlow f = some w →
    earliest (s.dev.mf f).held = some h → s.dev.relay f = false → s.dev.delayMaxBits w ≠ 0 → s.dev.anchored f = false →
    (s.dev.pathState f .pathW = 2 → s.dev.pathState f .pathP = 2 →
      ∃ t, exec (.anchor f) s = .next t ∧ t.dev.anchored f = true ∧ t.dev.reg (Reg.MRG_FLOW_OUTSQ f) = BitVec.ofNat 32 h.sq ∧
        (t.dev.mf f).slotTick = h.tick + s.dev.delayTicks w ∧ t.dev.bitAt (Reg.MRG_FLOW_EVT f) 5 = true ∧
        ((s.dev.mf f).anchoredOnce = true → Arising 230 t.dev) ∧
        Frame [Reg.MRG_FLOW_STATUS f, Reg.MRG_FLOW_OUTSQ f, Reg.MRG_FLOW_EVT f, Reg.MRG_INT_STATUS] s t) ∧
    (s.dev.someOk f = true →
      ∃ t, exec (.anchorTimeout f) s = .next t ∧ t.dev.anchored f = true ∧ t.dev.reg (Reg.MRG_FLOW_OUTSQ f) = BitVec.ofNat 32 h.sq ∧
        (t.dev.mf f).slotTick = h.tick + s.dev.delayTicks w ∧ t.dev.bitAt (Reg.MRG_FLOW_EVT f) 5 = true ∧
        Frame [Reg.MRG_FLOW_STATUS f, Reg.MRG_FLOW_OUTSQ f, Reg.MRG_FLOW_EVT f, Reg.MRG_INT_STATUS] s t)) ∧
  (∀ (s : State) (req : Requester) (f : Fin 1280), Writable req 7 s →
    (s.dev.protectedFlow f = none → exec (.realign req f) s = .next s) ∧
    ((s.dev.protectedFlow f).isSome = true →
      ∃ t, exec (.realign req f) s = .next t ∧ t.dev.get (Fld.MRG_FLOW_CTL.REALIGN f) = 1 ∧ Frame [Reg.MRG_FLOW_CTL f] s t)) ∧
  (∀ s : State, Working 7 s →
    (∃ t, exec (.heartbeatLoss (.port 0)) s = .next t ∧ t.dev.get Fld.MRG_STATUS.HB_A = 0 ∧ SameMemory s t ∧
      (s.dev.get Fld.MRG_STATUS.HB_A = 1 → t.dev.bitAt Reg.MRG_INT_STATUS 0 = true)) ∧
    (∃ t, exec (.heartbeatLoss (.port 1)) s = .next t ∧ t.dev.get Fld.MRG_STATUS.HB_B = 0 ∧ SameMemory s t ∧
      (s.dev.get Fld.MRG_STATUS.HB_B = 1 → t.dev.bitAt Reg.MRG_INT_STATUS 0 = true)) ∧
    (∀ k : Fin 2, ∃ t, exec (.heartbeatLoss (.link k)) s = .next t ∧ k.val ∉ t.dev.mrg.chnHb ∧ SameMemory s t)) ∧
  (∀ (s : State) (f : Fin 1280) (p : MergePath), Working 7 s → s.dev.pathState f p = 3 → s.dev.get (fldClass f p) = 0 →
    ∃ t, exec (.pathClassTimeout f p) s = .next t ∧ SameMemory s t ∧ t.dev.pathState f p = 3 ∧
      t.dev.get (fldClass f p) = if s.dev.hbPresent f p then 2 else 1)

/-! ### Host lanes -/

/-- Octets and lane states (R254, R257, R262, R264 to R267): an octet whose RATE or EN changes loses its lock until it locks again; a
listening lane with signal goes to TRAIN or, without training, UP; losing the signal takes an UP lane back with its link-down counted;
training ends UP, of a client's lanes together (R268), or aborts, counted, and a Horug lane then waits for its retry interval; a write of the TX FIR is refused in TRAIN. -/
def Obligations.LanesTrainAndComeUp : Prop :=
  (∀ (s : State) (req : Requester) (g : Fin 6) (v : Word), Writable req 8 s →
    let e := s.dev.storeRw (Reg.HST_OCTET_CTL g) v
    ∃ t, exec (.octetRelock req g v) s = .next t ∧ SameMemory s t ∧
      t.dev.reg (Reg.HST_OCTET_CTL g) = e.reg (Reg.HST_OCTET_CTL g) ∧
      (e.octetEn g ≠ s.dev.octetEn g ∨ e.octetHalf g ≠ s.dev.octetHalf g → t.dev.octetLocked g = false)) ∧
  (∀ (s : State) (g : Fin 6), Working 8 s → s.dev.octetEn g = true →
    (s.dev.octetLocked g = false → ∃ t, exec (.octetLock g) s = .next t ∧ SameMemory s t ∧ t.dev.octetLocked g = true) ∧
    (s.dev.octetLocked g = true → ∃ t, exec (.octetUnlock g) s = .next t ∧ SameMemory s t ∧ t.dev.octetLocked g = false ∧
      Present 258 t.dev)) ∧
  (∀ (s : State) (l : Fin 48) (q : LaneEq), Working 8 s → s.dev.laneState l = 1 → (s.dev.hl l).retry = false →
    s.dev.octetLocked (l.val / 8) = true →
    ∃ t, exec (.signalDetect l q) s = .next t ∧ SameMemory s t ∧ t.dev.get (Fld.HST_LANE_STATUS.SD l) = 1 ∧
      t.dev.laneState l = (if s.dev.trains l then 2 else 3)) ∧
  (∀ (s : State) (l : Fin 48), Working 8 s → s.dev.laneState l = 3 →
    ∃ t, exec (.signalLoss l) s = .next t ∧ SameMemory s t ∧ t.dev.get (Fld.HST_LANE_STATUS.SD l) = 0 ∧
      t.dev.laneState l = s.dev.laneHome l ∧
      t.dev.get (Fld.HST_LANE_TRAIN_CNT.LINK_DOWN l) = min (s.dev.get (Fld.HST_LANE_TRAIN_CNT.LINK_DOWN l) + 1) 0xFFFF ∧
      t.dev.bitAt Reg.HST_INT_STATUS 1 = true) ∧
  (∀ (s : State) (l : Fin 48) (q : LaneEq), Working 8 s →
    (s.dev.laneState l ≠ 2 → exec (.trainDone l q) s = .next s ∧ exec (.trainTimeout l) s = .next s) ∧
    (s.dev.laneState l = 2 →
      (∃ t, exec (.trainDone l q) s = .next t ∧ SameMemory s t ∧
        ((∀ m ∈ s.dev.trainsWith l, m ≠ l.val → s.dev.laneUp m = true ∨ (s.dev.hl m).ready = true) →
          t.dev.laneState l = 3 ∧ t.dev.bitAt Reg.HST_INT_STATUS 0 = true) ∧
        ((∃ m ∈ s.dev.trainsWith l, m ≠ l.val ∧ s.dev.laneUp m = false ∧ (s.dev.hl m).ready = false) →
          t.dev.laneState l = 2 ∧ (t.dev.hl l).ready = true) ∧
        t.dev.get (Fld.HST_LANE_STATUS.PRECODE_ACT l) = (if 2 ≤ s.dev.laneRole l then 3 else if s.dev.trains l then q.precode.toNat
          else 2 * s.dev.get (Fld.HST_LANE_CTL.RX_PRECODE l) + s.dev.get (Fld.HST_LANE_CTL.TX_PRECODE l)) ∧
        (q.fir.length = 6 → firSum q.fir ≤ 64 →
          t.dev.firTaps l = q.fir ∧ t.dev.get (Fld.HST_LANE_STATUS.FIR_SCALED l) = 0)) ∧
      (∃ t, exec (.trainTimeout l) s = .next t ∧ SameMemory s t ∧ Arising 256 t.dev ∧
        t.dev.get (Fld.HST_LANE_TRAIN_CNT.ABORT l) = min (s.dev.get (Fld.HST_LANE_TRAIN_CNT.ABORT l) + 1) 0xFFFF ∧
        (s.dev.laneRole l = 3 → t.dev.laneState l = 1 ∧ (t.dev.hl l).retry = true)))) ∧
  (∀ (s : State) (l : Fin 48), Working 8 s → s.dev.laneState l = 1 → s.dev.get (Fld.HST_LANE_STATUS.SD l) = 1 →
    s.dev.octetLocked (l.val / 8) = true → s.dev.trains l = true →
    ∃ t, exec (.retryTimer l) s = .next t ∧ SameMemory s t ∧ t.dev.laneState l = 2 ∧ (t.dev.hl l).retry = false) ∧
  (∀ (s : State) (req : Requester) (l : Fin 48), Writable req 8 s → 1 ≤ s.dev.laneState l → s.dev.laneState l ≤ 3 →
    s.dev.get (Fld.HST_LANE_STATUS.SD l) = 0 →
    ∃ t, exec (.laneRestart req l) s = .next t ∧ SameMemory s t ∧ t.dev.laneState l = 1) ∧
  (∀ (s : State) (req : Requester) (l : Fin 48) (v : Word), Writable req 8 s → s.dev.get (Fld.HST_LANE_STATUS.SD l) = 0 →
    v.getLsbD 31 = false →
    let e := s.dev.storeRw (Reg.HST_LANE_CTL l) v
    ∃ t, exec (.laneCtlWrite req (.lane l v)) s = .next t ∧ SameMemory s t ∧
      t.dev.reg (Reg.HST_LANE_CTL l) = e.reg (Reg.HST_LANE_CTL l) ∧
      t.dev.laneState l = (if e.reg (Reg.HST_LANE_CTL l) = s.dev.reg (Reg.HST_LANE_CTL l) then s.dev.laneState l else e.laneHome l)) ∧
  (∀ (s : State) (req : Requester) (c : Fin 48) (v : Word), Writable req 8 s →
    ∃ t, exec (.laneCtlWrite req (.client c v)) s = .next t ∧ SameMemory s t ∧
      t.dev.reg (Reg.HST_CLIENT_CTL c) = (s.dev.storeRw (Reg.HST_CLIENT_CTL c) v).reg (Reg.HST_CLIENT_CTL c)) ∧
  (∀ (s : State) (req : Requester) (l : Fin 48) (r : Fin 2) (v : Word), Writable req 8 s → s.dev.laneState l = 2 →
    ∃ t, exec (.txFirWrite req l r v) s = .next t ∧ t.dev.get (Fld.HST_LANE_STATUS.FIR_REFUSED l) = 1 ∧
      Frame [Reg.HST_LANE_STATUS l] s t) ∧
  (∀ (s : State) (req : Requester) (l : Fin 48) (v : Word), Writable req 8 s → s.dev.laneState l ≠ 2 → (s.dev.hl l).firAt = none →
    (firSum [toSigned 8 v.toNat, toSigned 8 (v.toNat / 256), toSigned 8 (v.toNat / 256 ^ 2), toSigned 8 (v.toNat / 256 ^ 3),
      s.dev.getInt (Fld.HST_LANE_TX_FIR1.CP1 l), s.dev.getInt (Fld.HST_LANE_TX_FIR1.CP2 l)] ≤ 64 →
      ∃ t, exec (.txFirWrite req l 0 v) s = .next t ∧ t.dev.reg (Reg.HST_LANE_TX_FIR0 l) = v ∧
        t.dev.get (Fld.HST_LANE_STATUS.FIR_SCALED l) = 0 ∧
        Frame [Reg.HST_LANE_TX_FIR0 l, Reg.HST_LANE_TX_FIR1 l, Reg.HST_LANE_STATUS l] s t) ∧
    (firSum (((s.dev.firTaps l).take 4) ++ [toSigned 8 v.toNat, toSigned 8 (v.toNat / 256)]) ≤ 64 →
      ∃ t, exec (.txFirWrite req l 1 v) s = .next t ∧
        t.dev.firTaps l = (s.dev.firTaps l).take 4 ++ [toSigned 8 v.toNat, toSigned 8 (v.toNat / 256)] ∧
        t.dev.get (Fld.HST_LANE_STATUS.FIR_SCALED l) = 0 ∧
        Frame [Reg.HST_LANE_TX_FIR0 l, Reg.HST_LANE_TX_FIR1 l, Reg.HST_LANE_STATUS l] s t))

/-- Checkers, clients and spill links (R271, R274, R279, R282, R283): a PRBS checker locks and loses lock, counts its errors and reports;
codewords and PCS conditions of a client are counted and shown; FRAME_LOCK follows the frames; a frame without lock is ignored, one with
a bad CRC is counted and dropped, a HELLO updates the partner entry; HELLO goes out on every spill lane that is UP; a silent partner's
entry becomes invalid. -/
def Obligations.ClientsCheckersAndSpillLinks : Prop :=
  (∀ (s : State) (seen : PrbsBits), Working 8 s →
    let l := seen.lane
    (prbsLocks (s.dev.get (Fld.HST_LANE_PRBS_CTL.CHK_PAT l)) (s.dev.isSet (Fld.HST_LANE_PRBS_CTL.CHK_INV l)) seen.bits = false →
      exec (.prbsLock seen) s = .next s) ∧
    (s.dev.laneState l = 4 → s.dev.get (Fld.HST_LANE_PRBS_CTL.CHK_EN l) = 1 → s.dev.get (Fld.HST_LANE_STATUS.PRBS_LOCK l) = 0 →
      prbsLocks (s.dev.get (Fld.HST_LANE_PRBS_CTL.CHK_PAT l)) (s.dev.isSet (Fld.HST_LANE_PRBS_CTL.CHK_INV l)) seen.bits = true →
      ∃ t, exec (.prbsLock seen) s = .next t ∧ t.dev.get (Fld.HST_LANE_STATUS.PRBS_LOCK l) = 1 ∧ Frame [Reg.HST_LANE_STATUS l] s t)) ∧
  (∀ (s : State) (l : Fin 48) (e : PrbsErrs), Working 8 s →
    (e.window < 512 → exec (.prbsLoss l e) s = .next s) ∧
    (s.dev.get (Fld.HST_LANE_STATUS.PRBS_LOCK l) = 1 → 512 ≤ e.window →
      ∃ t, exec (.prbsLoss l e) s = .next t ∧ t.dev.get (Fld.HST_LANE_STATUS.PRBS_LOCK l) = 0 ∧ Arising 261 t.dev ∧
        t.dev.reg64 (Reg.HST_LANE_ERRS_LO l) = min (s.dev.reg64 (Reg.HST_LANE_ERRS_LO l) + e.total) (2 ^ 48 - 1) ∧
        t.dev.reg64 (Reg.HST_LANE_BITS_LO l) = s.dev.prbsTotal l ∧
        Frame [Reg.HST_LANE_STATUS l, Reg.HST_LANE_BITS_LO l, Reg.HST_LANE_BITS_LO l + 4, Reg.HST_LANE_ERRS_LO l,
          Reg.HST_LANE_ERRS_LO l + 4] s t)) ∧
  (∀ (s : State) (req : Requester) (l : Fin 48), Writable req 8 s →
    ∃ t, exec (.prbsCntClr req l) s = .next t ∧ t.dev.prbsTotal l = 0 ∧ t.dev.reg64 (Reg.HST_LANE_ERRS_LO l) = 0 ∧
      (t.dev.hl l).errSpans = [] ∧
      Frame [Reg.HST_LANE_BITS_LO l, Reg.HST_LANE_BITS_LO l + 4, Reg.HST_LANE_ERRS_LO l, Reg.HST_LANE_ERRS_LO l + 4] s t) ∧
  (∀ (s : State) (c : Fin 48) (cor un : Bool), Working 8 s →
    (isEthernet (s.dev.clientType c) = false → exec (.rsCodeword c cor un) s = .next s) ∧
    (isEthernet (s.dev.clientType c) = true →
      ∃ t, exec (.rsCodeword c cor un) s = .next t ∧
        t.dev.reg64 (Reg.HST_CLIENT_CW_LO c) = min (s.dev.reg64 (Reg.HST_CLIENT_CW_LO c) + 1) (2 ^ 48 - 1) ∧
        (un = true → Arising 260 t.dev ∧
          t.dev.reg64 (Reg.HST_CLIENT_UNCORR_LO c) = min (s.dev.reg64 (Reg.HST_CLIENT_UNCORR_LO c) + 1) (2 ^ 48 - 1)) ∧
        (un = false → cor = true →
          t.dev.reg64 (Reg.HST_CLIENT_CORR_LO c) = min (s.dev.reg64 (Reg.HST_CLIENT_CORR_LO c) + 1) (2 ^ 48 - 1)) ∧
        Frame ((List.range 6).map (fun i => Reg.HST_CLIENT_CW_LO c + 4 * i)) s t)) ∧
  (∀ (s : State) (req : Requester) (c : Fin 48), Writable req 8 s →
    ∃ t, exec (.clientCntClr req c) s = .next t ∧ t.dev.reg64 (Reg.HST_CLIENT_CW_LO c) = 0 ∧
      t.dev.reg64 (Reg.HST_CLIENT_CORR_LO c) = 0 ∧ t.dev.reg64 (Reg.HST_CLIENT_UNCORR_LO c) = 0 ∧
      Frame ((List.range 6).map (fun i => Reg.HST_CLIENT_CW_LO c + 4 * i)) s t) ∧
  (∀ (s : State) (c : Fin 48) (al hi rf : Bool), Working 8 s → isEthernet (s.dev.clientType c) = true →
    ∃ t, exec (.pcsLaneAlignment c al hi rf) s = .next t ∧ SameMemory s t ∧ t.dev.get (Fld.HST_CLIENT_STATUS.ALIGN c) = bit al ∧
      t.dev.get (Fld.HST_CLIENT_STATUS.HI_SER c) = bit hi ∧ t.dev.get (Fld.HST_CLIENT_STATUS.RF_RX c) = bit rf) ∧
  (∀ (s : State) (l : Fin 48), Working 8 s →
    (s.dev.laneRole l = 2 → s.dev.laneUp l = true → 3 ≤ (s.dev.hl l).good →
      ∃ t, exec (.frameLock l) s = .next t ∧ SameMemory s t ∧ t.dev.get (Fld.HST_TSU_STATUS.FRAME_LOCK l) = 1) ∧
    ((s.dev.hl l).badSync < 8 → exec (.frameLockLoss l) s = .next s) ∧
    (8 ≤ (s.dev.hl l).badSync → ∃ t, exec (.frameLockLoss l) s = .next t ∧ SameMemory s t ∧ t.dev.get (Fld.HST_TSU_STATUS.FRAME_LOCK l) = 0)) ∧
  (∀ (s : State) (l : Fin 48) (b : List Byte), Working 8 s →
    (s.dev.get (Fld.HST_TSU_STATUS.FRAME_LOCK l) = 0 → s.dev.laneRole l = 2 → s.dev.laneUp l = true →
      ∃ t, exec (.tsucorFrameRx l b) s = .next t ∧ Frame [] s t ∧ t.dev.arising = s.dev.arising ∧
        (t.dev.hl l).good = if b.take 2 = [0x7D, 0x2B] ∧ tsuCrcOk b = true then (s.dev.hl l).good + 1 else 0) ∧
    (s.dev.get (Fld.HST_TSU_STATUS.FRAME_LOCK l) = 1 →
      ∃ t, exec (.tsucorFrameRx l b) s = .next t ∧ SameMemory s t ∧
        (tsuCrcOk b = false ∨ (tsuParse b).kind = 6 ∨ (tsuParse b).kind = 0 →
          (t.dev.hl l).badSync = if b.take 2 = [0x7D, 0x2B] then 0 else (s.dev.hl l).badSync + 1)) ∧
    (s.dev.get (Fld.HST_TSU_STATUS.FRAME_LOCK l) = 1 → tsuCrcOk b = false →
      ∃ t, exec (.tsucorFrameRx l b) s = .next t ∧ Arising 263 t.dev ∧
        t.dev.get (Fld.HST_TSU_ERR_CNT.CRC l) = min (s.dev.get (Fld.HST_TSU_ERR_CNT.CRC l) + 1) 0x3FF ∧
        Frame [Reg.HST_TSU_ERR_CNT l] s t) ∧
    (s.dev.get (Fld.HST_TSU_STATUS.FRAME_LOCK l) = 1 → tsuCrcOk b = true → (tsuParse b).kind = 6 →
      ∃ t, exec (.tsucorFrameRx l b) s = .next t ∧ SameMemory s t ∧ t.dev.get (Fld.HST_TSU_STATUS.PARTNER l) = 1 ∧
        t.dev.partnerId l = beAt (tsuParse b).data 0 8 ∧
        t.dev.reg64 (Reg.HST_TSU_RX_LO l) = min (s.dev.reg64 (Reg.HST_TSU_RX_LO l) + 1) (2 ^ 48 - 1)) ∧
    (s.dev.get (Fld.HST_TSU_STATUS.FRAME_LOCK l) = 1 → tsuCrcOk b = true → 7 ≤ (tsuParse b).kind →
      ∃ t, exec (.tsucorFrameRx l b) s = .next t ∧ Arising 264 t.dev ∧
        t.dev.get (Fld.HST_TSU_ERR_CNT.DROP l) = min (s.dev.get (Fld.HST_TSU_ERR_CNT.DROP l) + 1) 0x3FF ∧
        Frame [Reg.HST_TSU_ERR_CNT l] s t)) ∧
  (∀ s : State, Working 8 s →
    ∃ t, exec .tsuHelloTx s = .next t ∧ SameMemory s t ∧
      t.dev.hst.sent = s.dev.hst.sent ++ ((List.range 48).filter (fun l => decide (s.dev.laneRole l = 2) && s.dev.laneUp l)).flatMap
        (fun l =>
          let v := s.dev.hl l
          let n := s.dev.idleFrames l
          (if n = 0 then [] else [TsuSent.idle l v.txSeq n]) ++
            [TsuSent.frame l { kind := 6, len := 32, seq := if n = 0 then v.txSeq else (v.txSeq + n) % 2 ^ 32, data := s.dev.helloData l }])) ∧
  (∀ (s : State) (l : Fin 48), Working 8 s → s.dev.get (Fld.HST_TSU_STATUS.PARTNER l) = 1 →
    ∃ t, exec (.partnerTimeout l) s = .next t ∧ SameMemory s t ∧ t.dev.get (Fld.HST_TSU_STATUS.PARTNER l) = 0 ∧ Arising 265 t.dev ∧
      t.dev.bitAt Reg.HST_INT_STATUS 3 = true)

/-! ### Ringmaster: doorbells, windows, DMA, scheduling, grants -/

/-- Doorbells and windows (R296, R298): a producer doorbell within QUOTA and the free pages moves TAIL, a consumer doorbell up to CONS moves
HEAD, any other is refused with event 8 and RMS.06; a window shows memory or a queue at its base, a read or write that misses counts;
a write through a memory window stores the bytes inside the memory, one through a queue window those of its resident pages; the
operations of either wait for their pseudo-channels (R297; that they have their effect with the command is a choice of the model,
notes/assumptions/28.md). -/
def Obligations.DoorbellsAndWindows : Prop :=
  (∀ (s : State) (req : Requester) (q : Fin 65536) (n : BitVec 24), Writable req 9 s → n ≠ 0 →
    (s.dev.qType q = 0 → ∃ t, exec (.dbProd req q n) s = .next t ∧ Arising 294 t.dev ∧ RegsKept [] s.dev t.dev) ∧
    (s.dev.qType q = 1 ∨ s.dev.qType q = 4 ∨ s.dev.qType q = 5 ∨
        (s.dev.qType q ≠ 0 ∧ s.dev.qHead q + pageGranules * s.dev.qQuota q < s.dev.qTail q + n.toNat) →
      ∃ t, exec (.dbProd req q n) s = .next t ∧ Arising 294 t.dev ∧ t.dev.bitAt (Reg.RMS_Q_EVT q) 8 = true ∧
        RegsKept [Reg.RMS_Q_EVT q, Reg.RMS_INT_STATUS] s.dev t.dev) ∧
    (s.dev.qType q ≠ 0 → s.dev.qType q ≠ 1 → s.dev.qType q ≠ 4 → s.dev.qType q ≠ 5 →
      s.dev.qTail q + n.toNat ≤ s.dev.qHead q + pageGranules * s.dev.qQuota q →
      s.dev.canTake q (s.dev.missingPages q (s.dev.qTail q * 64) ((s.dev.qTail q + n.toNat) * 64)).length = true →
      ∃ t, exec (.dbProd req q n) s = .next t ∧ t.dev.qTail q = (s.dev.qTail q + n.toNat) % 2 ^ 64 ∧
        t.dev.qHead q = s.dev.qHead q ∧ (s.dev.rms.freed = [] → t.hbm = s.hbm)) ∧
    (s.dev.qType q ≠ 0 → s.dev.qCons q < s.dev.qHead q + n.toNat →
      ∃ t, exec (.dbCons req q n) s = .next t ∧ Arising 294 t.dev ∧ t.dev.bitAt (Reg.RMS_Q_EVT q) 8 = true ∧
        RegsKept [Reg.RMS_Q_EVT q, Reg.RMS_INT_STATUS] s.dev t.dev) ∧
    (s.dev.qType q ≠ 0 → s.dev.qHead q + n.toNat ≤ s.dev.qCons q →
      ∃ t, exec (.dbCons req q n) s = .next t ∧ t.dev.qHead q = (s.dev.qHead q + n.toNat) % 2 ^ 64 ∧
        t.dev.qTail q = s.dev.qTail q ∧ t.dev.qCons q = s.dev.qCons q)) ∧
  (∀ (s : State) (r : Fin 5) (off n : Nat), Running s →
    (s.dev.reaches (windowReq r) 9 = false → exec (.windowRead r off n) s = .next s) ∧
    (s.dev.reaches (windowReq r) 9 = true →
      let shown (f : Nat → Byte) : List Byte := (List.range n).map f
      let b := 64 * s.dev.winBase r + off
      let q := s.dev.get (Fld.RMS_WIN_CTL.QUEUE r)
      let miss := s.dev.get (Fld.RMS_WIN_CTL.MODE r) = 2 ∧ ∃ i, i < n ∧ s.dev.winReadable q (b + i) = false
      ∃ t, exec (.windowRead r off n) s = .next t ∧ Frame [Reg.RMS_WIN_MISS r] s t ∧
        t.dev.rms.winOps = s.dev.rms.winOps ++
          (s.dev.winAddrs r off n).map (fun a => { src := .window r, addr := a, write := false }) ∧
        (s.dev.get (Fld.RMS_WIN_CTL.MODE r) = 1 → Sparse.get [] t.dev.rms.winData r.val = shown (fun i =>
          if s.dev.winBase r + off + i < sramBytes then s.sram.read (s.dev.winBase r + off + i) else 0)) ∧
        (s.dev.get (Fld.RMS_WIN_CTL.MODE r) = 2 → Sparse.get [] t.dev.rms.winData r.val = shown (fun i =>
          match s.dev.winReadable q (b + i), s.dev.qAddr q (b + i) with
          | true, some a => if a / 512 ∈ s.dev.rms.bad then 0xFF else s.hbm.read a
          | _, _ => 0)) ∧
        (s.dev.get (Fld.RMS_WIN_CTL.MODE r) ≠ 1 → s.dev.get (Fld.RMS_WIN_CTL.MODE r) ≠ 2 →
          Sparse.get [] t.dev.rms.winData r.val = shown (fun i =>
            if hbmBytes ≤ s.dev.winBase r + off + i then 0
            else if (s.dev.winBase r + off + i) / 512 ∈ s.dev.rms.bad then 0xFF else s.hbm.read (s.dev.winBase r + off + i))) ∧
        (miss → Arising 298 t.dev ∧
          t.dev.get (Fld.RMS_WIN_MISS.ACCESSES r) = min (s.dev.get (Fld.RMS_WIN_MISS.ACCESSES r) + 1) (2 ^ 32 - 1)) ∧
        (¬ miss → t.dev.get (Fld.RMS_WIN_MISS.ACCESSES r) = s.dev.get (Fld.RMS_WIN_MISS.ACCESSES r)))) ∧
  (∀ (s : State) (r : Fin 5) (off : Nat) (l : List Byte), Writable (windowReq r) 9 s →
    (s.dev.get (Fld.RMS_WIN_CTL.MODE r) = 1 →
      ∃ t, exec (.windowWrite r off l) s = .next t ∧ t.sram = winStore s.sram sramBytes (s.dev.winBase r + off) l ∧ t.hbm = s.hbm ∧
        t.dev = s.dev ∧ t.pending = s.pending) ∧
    (s.dev.get (Fld.RMS_WIN_CTL.MODE r) ≠ 1 → s.dev.get (Fld.RMS_WIN_CTL.MODE r) ≠ 2 →
      ∃ t, exec (.windowWrite r off l) s = .next t ∧ t.hbm = winStore s.hbm hbmBytes (s.dev.winBase r + off) l ∧ t.sram = s.sram ∧
        RegsKept [] s.dev t.dev ∧ t.pending = s.pending ∧ t.dev.rms.winOps = s.dev.rms.winOps ++
          (s.dev.winAddrs r off l.length).map (fun a => { src := .window r, addr := a, write := true })) ∧
    (∀ x ∈ (s.dev.q (s.dev.get (Fld.RMS_WIN_CTL.QUEUE r))).pages,
      let q := s.dev.get (Fld.RMS_WIN_CTL.QUEUE r)
      let b := 64 * s.dev.winBase r + off
      s.dev.get (Fld.RMS_WIN_CTL.MODE r) = 2 → (s.dev.q q).pages.find? (fun p => p.lpage == b / pageBytes) = some x →
      b % pageBytes + l.length ≤ pageBytes → s.dev.winMayAlloc q b = false → s.dev.rms.freed = [] →
      ∃ t, exec (.windowWrite r off l) s = .next t ∧ t.sram = s.sram ∧ t.pending = s.pending ∧ RegsKept [] s.dev t.dev ∧
        ∀ a, t.hbm.read a = (if x.phys * pageBytes + b % pageBytes ≤ a ∧ a < x.phys * pageBytes + b % pageBytes + l.length
          then l.getD (a - (x.phys * pageBytes + b % pageBytes)) 0 else s.hbm.read a)))

/-- Host DMA (R299 to R302): PROD takes a value within the ring and any other sets ERR; a descriptor starts its channel and waits where
its queue cannot serve it; its end writes STATUS to the host, moves CONS on, counts it, and sets ERR and RMS.07 for an error; a
TO_HOST descriptor hands out the queue's bytes that are in HBM and moves HEAD with them, and ends when none is left; a FROM_HOST one moves
TAIL, or waits again where it no longer fits; clearing EN aborts. -/
def Obligations.HostDmaMovesDescriptors : Prop :=
  (∀ (s : State) (req : Requester) (ch : Fin 64) (v : BitVec 16), Writable req 9 s →
    ((v.toNat + 65536 - s.dev.get (Fld.RMS_DMA_STATUS.CONS ch)) % 65536 ≤ 2 ^ s.dev.get (Fld.RMS_DMA_CTL.RING_LOG2 ch) →
      ∃ t, exec (.dmaProd req ch v) s = .next t ∧ t.dev.get (Fld.RMS_DMA_PROD.PROD ch) = v.toNat ∧ Frame [Reg.RMS_DMA_PROD ch] s t) ∧
    (2 ^ s.dev.get (Fld.RMS_DMA_CTL.RING_LOG2 ch) < (v.toNat + 65536 - s.dev.get (Fld.RMS_DMA_STATUS.CONS ch)) % 65536 →
      ∃ t, exec (.dmaProd req ch v) s = .next t ∧ t.dev.get (Fld.RMS_DMA_STATUS.ERR ch) = 1 ∧ Frame [Reg.RMS_DMA_STATUS ch] s t)) ∧
  (∀ (s : State) (ch : Fin 64) (x : List Byte), Working 9 s → s.dev.rms.jobs.find? (fun e => e.1 == ch.val) = none →
    (s.dev.get (Fld.RMS_DMA_PROD.PROD ch) = s.dev.get (Fld.RMS_DMA_STATUS.CONS ch) → exec (.dmaDescriptor ch x) s = .next s) ∧
    (s.dev.get (Fld.RMS_DMA_CTL.EN ch) = 1 → s.dev.get (Fld.RMS_DMA_PROD.PROD ch) ≠ s.dev.get (Fld.RMS_DMA_STATUS.CONS ch) →
      ∃ t, exec (.dmaDescriptor ch x) s = .next t ∧ t.dev.get (Fld.RMS_DMA_STATUS.BUSY ch) = 1 ∧
        t.dev.get (Fld.RMS_DMA_STATUS.WAIT ch) = bit (s.dev.dmaWaits ch (s.dev.dmaParse ch x)) ∧
        (ch.val, { s.dev.dmaParse ch x with waiting := s.dev.dmaWaits ch (s.dev.dmaParse ch x) }) ∈ t.dev.rms.jobs ∧
        Frame [Reg.RMS_DMA_STATUS ch] s t)) ∧
  (∀ (s : State) (ch : Fin 64) (l : List Byte) (b : Bool) (j : DmaJob), Working 9 s →
    s.dev.rms.jobs.find? (fun e => e.1 == ch.val) = some (ch.val, j) →
    (j.waiting = true → exec (.dmaComplete ch l b) s = .next s) ∧
    (∀ e, j.waiting = false → j.error = some e → 2 ≤ e →
      ∃ t, exec (.dmaComplete ch l b) s = .next t ∧
        t.dev.get (Fld.RMS_DMA_STATUS.CONS ch) = (s.dev.get (Fld.RMS_DMA_STATUS.CONS ch) + 1) % 65536 ∧
        t.dev.get (Fld.RMS_DMA_STATUS.BUSY ch) = 0 ∧ t.dev.get (Fld.RMS_DMA_STATUS.ERR ch) = 1 ∧ Arising 295 t.dev ∧
        t.dev.get (Fld.RMS_DMA_DONE_CNT.DESCS ch) = min (s.dev.get (Fld.RMS_DMA_DONE_CNT.DESCS ch) + 1) (2 ^ 32 - 1) ∧
        SameMemory s t) ∧
    (j.waiting = false → j.error = none → b = true →
      ∃ t, exec (.dmaComplete ch l b) s = .next t ∧
        t.dev.get (Fld.RMS_DMA_STATUS.CONS ch) = (s.dev.get (Fld.RMS_DMA_STATUS.CONS ch) + 1) % 65536 ∧
        t.dev.get (Fld.RMS_DMA_STATUS.BUSY ch) = 0 ∧ t.dev.get (Fld.RMS_DMA_STATUS.ERR ch) = 1 ∧ Arising 295 t.dev ∧
        SameMemory s t) ∧
    (let q := s.dev.dmaQueue ch
     let head := s.dev.qHead q
     let left := j.len - j.done
     let n := s.dev.qPresent q (head * 64) left
     j.waiting = false → j.error = none → s.dev.dmaFrom ch = false → b = false → j.overtaken = false →
      left ≤ s.dev.qLegible q → n ≠ 0 → s.dev.qBad q (head * 64) n = false →
      ∃ t, exec (.dmaComplete ch l b) s = .next t ∧ (j.addr + j.done, s.qLoad q (head * 64) n) ∈ t.dev.rms.hostWrites ∧
        t.dev.qHead q = (head + n / 64) % 2 ^ 64 ∧
        (n = left → t.dev.get (Fld.RMS_DMA_STATUS.CONS ch) = (s.dev.get (Fld.RMS_DMA_STATUS.CONS ch) + 1) % 65536 ∧
          t.dev.get (Fld.RMS_DMA_STATUS.BUSY ch) = 0) ∧
        (n < left → t.dev.get (Fld.RMS_DMA_STATUS.CONS ch) = s.dev.get (Fld.RMS_DMA_STATUS.CONS ch) ∧
          t.dev.get (Fld.RMS_DMA_STATUS.BUSY ch) = 1 ∧
          (ch.val, { j with done := j.done + n, start := some (j.start.getD head) }) ∈ t.dev.rms.jobs)) ∧
    (j.waiting = false → j.error = none → s.dev.dmaFrom ch = true → b = false → s.dev.dmaWaits ch j = true →
      ∃ t, exec (.dmaComplete ch l b) s = .next t ∧ t.dev.get (Fld.RMS_DMA_STATUS.WAIT ch) = 1 ∧
        (ch.val, { j with waiting := true }) ∈ t.dev.rms.jobs ∧ Frame [Reg.RMS_DMA_STATUS ch] s t) ∧
    (j.waiting = false → j.error = none → s.dev.dmaFrom ch = true → b = false → s.dev.dmaWaits ch j = false →
      ∃ t, exec (.dmaComplete ch l b) s = .next t ∧
        t.dev.qTail (s.dev.dmaQueue ch) = ((s.dev.qTail (s.dev.dmaQueue ch) * 64 + j.len + 63) / 64) % 2 ^ 64 ∧
        t.dev.get (Fld.RMS_DMA_STATUS.CONS ch) = (s.dev.get (Fld.RMS_DMA_STATUS.CONS ch) + 1) % 65536 ∧
        t.dev.get (Fld.RMS_DMA_STATUS.BUSY ch) = 0)) ∧
  (∀ (s : State) (req : Requester) (ch : Fin 64), Writable req 9 s →
    (s.dev.rms.jobs.find? (fun e => e.1 == ch.val) = none →
      ∃ t, exec (.dmaAbort req ch) s = .next t ∧ t.dev.get (Fld.RMS_DMA_CTL.EN ch) = 0 ∧ Frame [Reg.RMS_DMA_CTL ch] s t) ∧
    (∀ j, s.dev.rms.jobs.find? (fun e => e.1 == ch.val) = some (ch.val, j) →
      ∃ t, exec (.dmaAbort req ch) s = .next t ∧ t.dev.get (Fld.RMS_DMA_CTL.EN ch) = 0 ∧
        t.dev.get (Fld.RMS_DMA_STATUS.ERR ch) = 1 ∧ t.dev.get (Fld.RMS_DMA_STATUS.BUSY ch) = 0 ∧ Arising 295 t.dev ∧
        (∀ k, (ch.val, k) ∉ t.dev.rms.jobs) ∧ SameMemory s t))

/-- Scheduling and admission (R303, R304, R308, R309, R322): the counts of operations in flight follow every operation, the guaranteed
tier goes first, nothing is taken with 256 in flight, ECC errors are counted and reported; a limit is stored clamped and waits for the next operation; grants are formed
anew in the fixed order, are the loads where these fit, and never exceed the capacity; a forwarded group has the capacity of its lanes
while its exit group has some (R467). -/
def Obligations.OperationsAndGrants : Prop :=
  (∀ (s : State) (pc : Fin 16) (w : List HbmWait) (n : Nat) (e : EccResult), Working 9 s →
    ∃ t, exec (.hbmOp pc w n e) s = .next t ∧ SameMemory s t ∧ t.dev.get Fld.RMS_INFLIGHT.OPS = t.dev.opsInFlight % 2 ^ 13 ∧
      t.dev.get Fld.RMS_INFLIGHT.PEAK = max t.dev.opsInFlight (s.dev.get Fld.RMS_INFLIGHT.PEAK) % 2 ^ 13) ∧
  (∀ (s : State) (pc : Fin 16) (w : List HbmWait) (n k : Nat) (e : EccResult) (x : HbmWait), Working 9 s →
    let p := (Sparse.get {} s.dev.rms.pcs pc.val : PseudoChannel)
    (256 ≤ p.inflight - n →
      ∃ t, exec (.hbmOp pc w n e) s = .next t ∧
        (Sparse.get {} t.dev.rms.pcs pc.val : PseudoChannel).inflight = p.inflight - n ∧ t.dev.rms.winOps = s.dev.rms.winOps ∧
        t.dev.get Fld.RMS_ECC_CNT.CE = s.dev.get Fld.RMS_ECC_CNT.CE ∧ t.dev.get Fld.RMS_ECC_CNT.UE = s.dev.get Fld.RMS_ECC_CNT.UE) ∧
    (p.inflight - n < 256 →
      s.dev.rmsGlobal.guaranteedPick (s.dev.rmsGlobal.hbmWaiting pc w) { p with inflight := p.inflight - n } = some (k, x) →
      ∃ t, exec (.hbmOp pc w n e) s = .next t ∧
        (Sparse.get {} t.dev.rms.pcs pc.val : PseudoChannel).inflight = p.inflight - n + 1 ∧
        (e = .corrected → t.dev.get Fld.RMS_ECC_CNT.CE = min (s.dev.get Fld.RMS_ECC_CNT.CE + 1) 0xFFFF ∧ Arising 296 t.dev) ∧
        (e = .uncorrectable → t.dev.get Fld.RMS_ECC_CNT.UE = min (s.dev.get Fld.RMS_ECC_CNT.UE + 1) 0xFFFF ∧ Arising 297 t.dev))) ∧
  (∀ (s : State) (req : Requester) (v : BitVec 12), Writable req 9 s →
    ∃ t, exec (.admLimitWrite req v) s = .next t ∧ Frame [] s t ∧
      t.dev.shadowReg Reg.RMS_ADM_LIMIT = BitVec.ofNat 32 (max
        ((s.dev.hbmClaims.filter (fun x => decide (x.kind ≤ 1))).foldl (fun n x => n + x.load) 0) (min v.toNat 3100))) ∧
  (∀ (s : State) (x : List (Fin 16)), Running s →
    let load (p : Claim → Bool) := ((s.dev.hbmClaims.filter p).map (·.load)).sum
    ∃ t, exec (.grantRecompute x) s = .next t ∧ SameMemory s t ∧ t.dev.rms.exits = x.map (·.val) ∧
      (load (fun _ => true) ≤ s.dev.get Fld.RMS_ADM_LIMIT.LIMIT → load (fun c => c.kind == 2) ≤ s.dev.get Fld.RMS_TR_CAP.CAP →
        (∀ c ∈ s.dev.hbmClaims, t.dev.get (Fld.RMS_Q_GRANT.GRANT_HBM c.q) = c.load) ∧ ¬ Present 288 t.dev) ∧
      (s.dev.get Fld.RMS_ADM_LIMIT.LIMIT < load (fun _ => true) → Present 288 t.dev) ∧
      (∀ g : Fin 16, s.dev.groupForwarded g = true → t.dev.get (Fld.RMS_GRP.CAPACITY g) = if g ∈ x then
        200 * ((s.dev.forwardLanes g).filter (fun l => s.dev.isSet (Fld.CHN_LINK_STATUS.RUN (l % 8 / 4)))).length else 0)) ∧
  (∀ (l : List Claim) (ks : List Nat) (c : Capacity), ((grantOrder l ks c).map (·.got)).sum ≤ c.all)

/-! ### Ringmaster: Carousels, paging, spill queues -/

/-- Carousels (R312, R313, R340): ARM from IDLE or STOPPED empties the queue and arms it, TRIGGER from ARMED triggers it with event 3, STOP
stops it with event 4; outside those states a command changes no register; a probe engine's command to a queue that is no Carousel is
refused; EN acts on the queue at once, or at its next operation where some wait (R305); captures to a queue that takes no more data
end (R373). -/
def Obligations.CarouselsArmTriggerAndStop : Prop :=
  (∀ (s : State) (req : Requester) (q : Fin 65536), Writable req 9 s → s.dev.isCarousel q = true →
    (s.dev.qState q = 3 ∨ s.dev.qState q = 6 →
      ∃ t, exec (.carouselArm (.sw req) q) s = .next t ∧ t.dev.qState q = 4 ∧ t.dev.qHead q = s.dev.qTail q ∧
        t.dev.qCons q = s.dev.qTail q ∧ t.dev.qTail q = s.dev.qTail q ∧ t.dev.get (Fld.RMS_Q_STATE.TRIG_VALID q) = 0) ∧
    (s.dev.qState q = 4 →
      ∃ t, exec (.carouselTrigger (.sw req) q) s = .next t ∧ t.dev.qState q = 5 ∧ t.dev.bitAt (Reg.RMS_Q_EVT q) 3 = true ∧
        (t.dev.q q).trigPend = true ∧ t.dev.get (Fld.RMS_Q_STATE.TRIG_VALID q) = 0 ∧
        RegsKept [Reg.RMS_Q_TRIG_LO q, Reg.RMS_Q_TRIG_LO q + 4, Reg.RMS_Q_STATE q, Reg.RMS_Q_EVT q, Reg.RMS_INT_STATUS] s.dev t.dev) ∧
    (s.dev.qState q = 4 ∨ s.dev.qState q = 5 →
      ∃ t, exec (.carouselStop (.sw req) q) s = .next t ∧ t.dev.qState q = 6 ∧ t.dev.bitAt (Reg.RMS_Q_EVT q) 4 = true ∧
        t.dev.tapsOf q = [] ∧
        ((s.dev.q q).trigPend = true → s.dev.tapsOf q = [] →
          t.dev.reg64 (Reg.RMS_Q_TRIG_LO q) = s.dev.qTail q ∧ t.dev.get (Fld.RMS_Q_STATE.TRIG_VALID q) = 1) ∧
        ((s.dev.q q).trigPend = false → s.dev.tapsOf q = [] →
          RegsKept [Reg.RMS_Q_STATE q, Reg.RMS_Q_EVT q, Reg.RMS_INT_STATUS] s.dev t.dev)) ∧
    (s.dev.tapsOf q = [] →
      (s.dev.qState q ≠ 3 → s.dev.qState q ≠ 6 → ∃ t, exec (.carouselArm (.sw req) q) s = .next t ∧ RegsKept [] s.dev t.dev) ∧
      (s.dev.qState q ≠ 4 → ∃ t, exec (.carouselTrigger (.sw req) q) s = .next t ∧ RegsKept [] s.dev t.dev) ∧
      (s.dev.qState q ≠ 4 → s.dev.qState q ≠ 5 →
        ∃ t, exec (.carouselStop (.sw req) q) s = .next t ∧ RegsKept [] s.dev t.dev))) ∧
  (∀ (s : State) (req : Requester) (q : Fin 65536) (en : Bool), Writable req 9 s →
    (s.dev.qType q = 0 → exec (.qEnWrite req q en) s = .next s) ∧
    (s.dev.qType q ≠ 0 → s.dev.tapsOf q = [] → s.dev.qWaiting q = true →
      ∃ t, exec (.qEnWrite req q en) s = .next t ∧ RegsKept [] s.dev t.dev ∧
        t.dev.shadowReg (Reg.RMS_Q_DESC0 q) = setBits (s.dev.shadowReg (Reg.RMS_Q_DESC0 q)) 24 24 (bit en)) ∧
    (s.dev.qType q ≠ 0 → s.dev.qWaiting q = false → s.dev.held? 9 = false → s.dev.waitsForCommit (Reg.RMS_Q_DESC0 q) = false →
      ∃ t, exec (.qEnWrite req q en) s = .next t ∧ t.dev.get (Fld.RMS_Q_DESC0.EN q) = bit en ∧
        t.dev.qState q = (if s.dev.get (Fld.RMS_Q_DESC0.EN q) = bit en then s.dev.qState q
          else if en = true then (if t.dev.isCarousel q then 3 else 2) else 1) ∧
        (t.dev.qTakes q = false → t.dev.tapsOf q = []))) ∧
  (∀ (s : State) (req : Requester) (q : Fin 65536), Writable req 9 s → s.dev.isCarousel q = false → s.dev.qTakes q = true →
    (∃ t, exec (.carouselArm (.sw req) q) s = .next t ∧ RegsKept [] s.dev t.dev) ∧
    (∃ t, exec (.carouselTrigger (.sw req) q) s = .next t ∧ RegsKept [] s.dev t.dev) ∧
    (∃ t, exec (.carouselStop (.sw req) q) s = .next t ∧ RegsKept [] s.dev t.dev)) ∧
  (∀ (s : State) (q : Fin 65536), Running s → s.dev.inReset 9 = false → s.dev.isCarousel q = false →
    ∃ t, exec (.carouselTrigger .probe q) s = .next t ∧ Arising 322 t.dev ∧
      t.dev.get Fld.PRB_CMD_REF_CNT.COMMANDS = min (s.dev.get Fld.PRB_CMD_REF_CNT.COMMANDS + 1) (2 ^ 32 - 1) ∧
      Frame [Reg.PRB_CMD_REF_CNT] s t)

/-- Paging (R315, R317, R319): a queue above its watermark sends its oldest full page as a transfer; an unknown acknowledgement raises
RMS.12; a timeout sends again with a new tag, or after RETRY times halts the queue's paging with event 6; a reader requests an external
page into a free page; a PAGE_DATA frame lands at its place of the page, and the record headers of a complete page tell that it was paged (R375); RESUME ends the halt. -/
def Obligations.PagesGoOutAndComeIn : Prop :=
  (∀ (s : State) (q : Fin 65536) (p : QPage), Working 9 s → s.dev.qPolicy q = 2 → s.dev.get (Fld.RMS_Q_STATE.PAGE_HALT q) = 0 →
    s.dev.mayTransfer (s.dev.qGroup q) = true → s.dev.get (Fld.RMS_Q_DESC2.WM_HI q) < (s.dev.q q).pages.length →
    s.dev.pageOutNext q = some p →
    (s.dev.q q).ext.length + (s.dev.rms.transfers.filter (fun t => t.out && t.queue == q.val)).length < s.dev.extQuota q →
    ∃ t, exec (.pageOut q) s = .next t ∧ (t.dev.q q).sentOut = (s.dev.q q).sentOut + 1 ∧
      t.dev.rms.nextTag = (s.dev.rms.nextTag + 1) % 65536 ∧
      t.dev.rms.transfers = s.dev.rms.transfers ++ [{
        tag := s.dev.rms.nextTag, queue := q, lpage := p.lpage, out := true, phys := p.phys,
        handle := (s.dev.reg (Reg.RMS_Q_DESC5 q)).toNat + (s.dev.q q).sentOut % max 1 (s.dev.extQuota q) }] ∧
      t.dev.hst.sent = s.dev.hst.sent ++ (s.dev.groupLanes (s.dev.qGroup q) true).flatMap
        (fun l => if s.dev.idleFrames l = 0 then [] else [TsuSent.idle l (s.dev.hl l).txSeq (s.dev.idleFrames l)]) ++
        [TsuSent.page (s.dev.groupLanes (s.dev.qGroup q) true) q
        ((s.dev.reg (Reg.RMS_Q_DESC5 q)).toNat + (s.dev.q q).sentOut % max 1 (s.dev.extQuota q)) s.dev.rms.nextTag
        (Sparse.get 0 s.dev.hst.queueSeq q.val) p.phys]) ∧
  (∀ (s : State) (f : TsuFrame), Working 9 s → s.dev.rms.inbox.find? (fun f => f.kind == 5) = some f →
    (s.dev.rms.transfers.find? (fun t => t.out && t.tag == f.tag) = none →
      ∃ t, exec .pageAck s = .next t ∧ Arising 300 t.dev ∧ RegsKept [] s.dev t.dev) ∧
    (∀ x, s.dev.rms.transfers.find? (fun t => t.out && t.tag == f.tag) = some x → f.arg = 0 →
      ∃ t, exec .pageAck s = .next t ∧ (∀ y ∈ t.dev.rms.transfers, y.tag ≠ x.tag) ∧
        (∀ y ∈ (t.dev.q x.queue).pages, y.lpage ≠ x.lpage) ∧
        ∃ y ∈ (t.dev.q x.queue).ext, y.lpage = x.lpage ∧ y.handle = x.handle)) ∧
  (∀ (s : State) (tag : BitVec 16) (x : PageTransfer), Working 9 s →
    s.dev.rms.transfers.find? (fun t => t.tag == tag.toNat) = some x → (s.dev.groupLanes (s.dev.qGroup x.queue) true).isEmpty = false →
    (x.tries < s.dev.get Fld.RMS_PAGE_CTL.RETRY →
      ∃ t, exec (.pageAckTimeout tag) s = .next t ∧ t.dev.rms.nextTag = (s.dev.rms.nextTag + 1) % 65536 ∧
        t.dev.rms.transfers = s.dev.rms.transfers.filter (fun t => t.tag != x.tag) ++
          [{ x with tag := s.dev.rms.nextTag, tries := x.tries + 1, got := [] }]) ∧
    (s.dev.get Fld.RMS_PAGE_CTL.RETRY ≤ x.tries → x.out = true →
      ∃ t, exec (.pageAckTimeout tag) s = .next t ∧ t.dev.get (Fld.RMS_Q_STATE.PAGE_HALT x.queue) = 1 ∧
        t.dev.bitAt (Reg.RMS_Q_EVT x.queue) 6 = true ∧
        t.dev.rms.transfers = s.dev.rms.transfers.filter (fun t => t.tag != x.tag))) ∧
  (∀ (s : State) (q : Fin 65536) (k : Nat) (e : ExtPage), Working 9 s → s.dev.get (Fld.RMS_Q_STATE.PAGE_HALT q) = 0 →
    (s.dev.q q).ext.find? (fun e => e.lpage == k) = some e → (s.dev.q q).cache.any (fun c => c.1 == k) = false →
    s.dev.rms.transfers.any (fun t => !t.out && t.queue == q.val && t.lpage == k) = false →
    s.dev.mayTransfer (s.dev.qGroup q) = true → s.dev.canTake q 1 = true → s.dev.get (Fld.RMS_Q_DESC7.PREFETCH q) = 0 →
    ∃ t, exec (.pageIn q k) s = .next t ∧ ∃ p, t.dev.rms.transfers = s.dev.rms.transfers ++
      [{ tag := s.dev.rms.nextTag, queue := q, lpage := k, handle := e.handle, out := false, phys := p }]) ∧
  (∀ (s : State) (f : TsuFrame) (x : PageTransfer), Working 9 s → s.dev.rms.inbox.find? (fun f => f.kind == 4) = some f →
    s.dev.rms.transfers.find? (fun t => !t.out && t.tag == f.tag) = some x → f.offset ∉ x.got →
    let m := s.hbm.writeBytes (x.phys * pageBytes + 512 * f.offset) f.data
    let headers := (((s.dev.q x.queue).ext.find? (fun e => e.lpage == x.lpage)).map (·.recs)).getD []
    ∃ t, exec .pageData s = .next t ∧ t.sram = s.sram ∧ t.pending = s.pending ∧ RegsKept [] s.dev t.dev ∧
      (x.got.length = 4095 → (x.lpage, x.phys) ∈ (t.dev.q x.queue).cache ∧
        ∀ a, t.hbm.read a = if headers.any (fun g => a == x.phys * pageBytes + 64 * g + 4) then m.read a ||| 8 else m.read a) ∧
      (x.got.length ≠ 4095 → t.hbm = m ∧ { x with got := x.got ++ [f.offset] } ∈ t.dev.rms.transfers)) ∧
  (∀ (s : State) (req : Requester) (q : Fin 65536), Writable req 9 s →
    ∃ t, exec (.pagingResume req q) s = .next t ∧ t.dev.get (Fld.RMS_Q_STATE.PAGE_HALT q) = 0 ∧
      (Present 291 t.dev ↔ t.dev.rms.queues.any (fun e => t.dev.isSet (Fld.RMS_Q_STATE.PAGE_HALT e.1)) = true) ∧
      Frame [Reg.RMS_Q_STATE q] s t)

/-- Spill queues and captures to queues (R310, R320, R321, R368): a spill queue with a lane sends its oldest record as STREAM frames and moves
HEAD; a missing SEQ is skipped when its time is over, counted, with the held frames behind it placed in order; data that reaches an idle
tap, a tap without a source, or a capture before its span is not recorded; data of a capture begins a record behind a header granule or
goes into the record in progress; with the write buffer full the record is refused and counted. -/
def Obligations.RecordsReachQueuesAndLanes : Prop :=
  (∀ (s : State) (q : Fin 65536) (r : List Byte) (rest : List (List Byte)), Working 9 s → (s.dev.q q).egress = r :: rest →
    s.dev.qType q = 5 → s.dev.groupForwarded (s.dev.qGroup q) = false → s.dev.groupLanes (s.dev.qGroup q) false ≠ [] →
    ∃ t, exec (.spillRecordSend q) s = .next t ∧ SameMemory s t ∧ (t.dev.q q).egress = rest ∧
      t.dev.qHead q = (s.dev.qHead q + (r.length + 63) / 64) % 2 ^ 64 ∧
      (t.dev.hst.sent.drop s.dev.hst.sent.length).filterMap (fun x => match x with
        | .frame _ f => some { f with seq := 0 }
        | _ => none) = streamFrames q r) ∧
  (∀ (s : State) (q : Fin 65536), Working 9 s →
    ((s.dev.q q).egress = [] → exec (.spillRecordSend q) s = .next s) ∧
    ((s.dev.q q).rxHeld = [] → exec (.streamSeqTimeout q) s = .next s) ∧
    (∀ x, let x' := (x + 1) % 2 ^ 32
      (s.dev.q q).rxNext = some x → (s.dev.q q).rxHeld ≠ [] →
      ∃ t, exec (.streamSeqTimeout q) s = .next t ∧
        t.dev.get (Fld.RMS_Q_CNT.DROP q) ≥ min (s.dev.get (Fld.RMS_Q_CNT.DROP q) + 1) 0xFFFF ∧
        (∀ l, s.dev.groupFirst q = some l → Arising 264 t.dev) ∧
        ((s.dev.q q).rxHeld.find? (fun e => e.1 == x') = none → (t.dev.q q).rxNext = some x' ∧ SameMemory s t ∧
          (t.dev.q q).rxHeld = (s.dev.q q).rxHeld ∧ t.dev.qTail q = s.dev.qTail q ∧
          t.dev.get (Fld.RMS_Q_CNT.DROP q) = min (s.dev.get (Fld.RMS_Q_CNT.DROP q) + 1) 0xFFFF ∧
          ∀ l, s.dev.groupFirst q = some l →
            t.dev.get (Fld.HST_TSU_ERR_CNT.DROP l) = min (s.dev.get (Fld.HST_TSU_ERR_CNT.DROP l) + 1) 0x3FF) ∧
        (∀ e, (s.dev.q q).rxHeld.find? (fun e => e.1 == x') = some e →
          (s.dev.q q).rxHeld.find? (fun e => e.1 == (x' + 1) % 2 ^ 32) = none →
          let n := (e.2.2.length + 63) / 64
          s.dev.qTail q + n ≤ s.dev.qHead q + pageGranules * s.dev.qQuota q →
          s.dev.canTake q (s.dev.missingPages q (s.dev.qTail q * 64) (s.dev.qTail q * 64 + 64 * n)).length = true →
          (t.dev.q q).rxNext = some ((x' + 1) % 2 ^ 32) ∧ t.dev.qTail q = (s.dev.qTail q + n) % 2 ^ 64 ∧
          (t.dev.q q).rxHeld = (s.dev.q q).rxHeld.filter (fun e => e.1 != x')))) ∧
  (∀ (s : State) (t : Fin 96) (i : TapItem) (full : Bool), Working 11 s →
    (s.dev.tapState t ≠ 1 ∧ s.dev.tapState t ≠ 3 ∨ s.dev.regionRuns 6 = false ∨ s.dev.tapSourceOk t = false →
      exec (.queueCaptureWrite t i full) s = .next s)) ∧
  (∀ (s : State) (t : Fin 96) (unit uoff time : Nat) (data : WindowData) (full : Bool), Working 11 s →
    let i := TapItem.window unit uoff time data
    let v := s.dev.tap t
    let q := s.dev.tapDest t
    s.dev.tapState t = 1 → s.dev.regionRuns 6 = true → s.dev.tapSourceOk t = true → s.dev.decimates t = false →
    windowFits data (s.dev.tapFmt t) = true → s.dev.inUnit t uoff = true → v.toBuffer = false → v.toUnit = false → v.refusing = false →
    (min time s.dev.tc < v.since → exec (.queueCaptureWrite t i full) s = .next s) ∧
    (v.since ≤ min time s.dev.tc → s.dev.qType q = 1 → s.dev.qState q = 2 → (s.dev.q q).trigPend = false →
      (∀ x, let b := ((s.dev.q q).wb + 63) / 64 * 64
        v.record = none → full = false → b % pageBytes + 128 ≤ pageBytes →
        (s.dev.q q).pages.find? (fun p => p.lpage == b / pageBytes) = some x → s.dev.rms.freed = [] →
        ∃ u, exec (.queueCaptureWrite t i full) s = .next u ∧ (u.dev.tap t).record.map (fun r => (r.len, r.start, r.unit, r.seq)) =
            some (64, b / 64, unit, s.dev.reg64 (Reg.CAP_TAP_SEQ_LO t)) ∧
          u.dev.reg64 (Reg.CAP_TAP_SEQ_LO t) = (s.dev.reg64 (Reg.CAP_TAP_SEQ_LO t) + 1) % 2 ^ 64 ∧
          u.dev.qTail q = (b / 64 + 2) % 2 ^ 64 ∧ b / 64 ∈ (u.dev.q q).holes ∧ u.sram = s.sram ∧
          ∀ j, j < 64 → u.hbm.read (x.phys * pageBytes + b % pageBytes + 64 + j) = (s.dev.tapBytes t (windowBytes data)).getD j 0) ∧
      (∀ x r, let b := (s.dev.q q).wb
        v.record = some r → full = false → r.len + 64 ≤ s.dev.recordLimit t → b % pageBytes + 64 ≤ pageBytes →
        (s.dev.q q).pages.find? (fun p => p.lpage == b / pageBytes) = some x → s.dev.rms.freed = [] →
        ∃ u, exec (.queueCaptureWrite t i full) s = .next u ∧ (u.dev.tap t).record.map (·.len) = some (r.len + 64) ∧
          (u.dev.q q).wb = b + 64 ∧ u.sram = s.sram ∧
          ∀ j, j < 64 → u.hbm.read (x.phys * pageBytes + b % pageBytes + j) = (s.dev.tapBytes t (windowBytes data)).getD j 0) ∧
      (v.record = none → full = true → s.dev.rms.freed = [] →
        ∃ u, exec (.queueCaptureWrite t i full) s = .next u ∧ SameMemory s u ∧ (u.dev.tap t).refusing = true ∧
          (u.dev.tap t).record = none ∧ u.dev.qTail q = s.dev.qTail q ∧ Arising 290 u.dev ∧
          u.dev.get (Fld.CAP_TAP_CNT.REFUSED t) = min (s.dev.get (Fld.CAP_TAP_CNT.REFUSED t) + 1) 0xFFFF ∧
          u.dev.reg64 (Reg.CAP_TAP_SEQ_LO t) = (s.dev.reg64 (Reg.CAP_TAP_SEQ_LO t) + 1) % 2 ^ 64)))

/-! ### Probe engines -/

/-- Software controls engines (R329, R330, R334): RUN starts HALTED engines at their PC, or faults them at PC = WORDS; HALT halts
RUNNING and WAITING ones with their drives released; RESTART clears an engine that has a program; STEP issues one instruction. -/
def Obligations.EnginesRunHaltRestartAndStep : Prop :=
  (∀ (s : State) (req : Requester) (mask : BitVec 64) (n : Fin 64), Writable req 10 s → s.dev.enginesRun = true →
    s.dev.engState n = 1 → mask.getLsbD n = true →
    ∃ t, exec (.engineRun req mask) s = .next t ∧
      (s.dev.engPc n < (s.dev.eng n).prog.length →
        t.dev.engState n = 2 ∧ t.dev.get (Fld.PRB_ENG_STATUS.CAUSE n) = 0 ∧ t.dev.engPc n = s.dev.engPc n) ∧
      ((s.dev.eng n).prog.length ≤ s.dev.engPc n → t.dev.engState n = 4 ∧ t.dev.get (Fld.PRB_ENG_STATUS.CAUSE n) = 5)) ∧
  (∀ (s : State) (req : Requester) (mask : BitVec 64) (n : Fin 64), Writable req 10 s → mask.getLsbD n = true →
    s.dev.engState n = 2 ∨ s.dev.engState n = 3 →
    ∃ t, exec (.engineHalt req mask) s = .next t ∧ t.dev.engState n = 1 ∧ t.dev.get (Fld.PRB_ENG_STATUS.CAUSE n) = 2 ∧
      t.dev.engPc n = s.dev.engPc n ∧ (t.dev.eng n).lineSet = 0 ∧ (t.dev.eng n).pinSet = 0 ∧ (t.dev.eng n).chainSet = 0 ∧
      (t.dev.eng n).pinPulse = (s.dev.eng n).pinPulse ∧ (t.dev.eng n).timers = (s.dev.eng n).timers) ∧
  (∀ (s : State) (req : Requester) (mask : BitVec 64) (n : Fin 64), Writable req 10 s → mask.getLsbD n = false →
    (∃ t, exec (.engineRun req mask) s = .next t ∧ t.dev.engState n = s.dev.engState n ∧ t.dev.engPc n = s.dev.engPc n) ∧
    (∃ t, exec (.engineHalt req mask) s = .next t ∧ t.dev.engState n = s.dev.engState n ∧ t.dev.eng n = s.dev.eng n)) ∧
  (∀ (s : State) (req : Requester) (n : Fin 64), Writable req 10 s →
    (s.dev.engState n = 0 → exec (.engineRestart req n) s = .next s ∧ exec (.engineStep req n) s = .next s) ∧
    (s.dev.engState n ≠ 0 →
      ∃ t, exec (.engineRestart req n) s = .next t ∧ t.dev.engState n = 1 ∧ t.dev.get (Fld.PRB_ENG_STATUS.CAUSE n) = 0 ∧
        t.dev.engPc n = 0 ∧ t.dev.engLatch n = 0 ∧ (∀ i : BitVec 6, xOf t n i = 0) ∧
        t.dev.eng n = { prog := (s.dev.eng n).prog })) ∧
  (∀ (s : State) (req : Requester) (n : Fin 64), Writable req 10 s → s.dev.enginesRun = true → s.dev.engState n = 1 →
    s.dev.engPc n < (s.dev.eng n).prog.length →
    (s.dev.insAt n = some .nop → HasNext n s →
      ∃ t, exec (.engineStep req n) s = .next t ∧ t.dev.engState n = 1 ∧ t.dev.get (Fld.PRB_ENG_STATUS.CAUSE n) = 3 ∧
        Proceeds n s t) ∧
    (∀ all keep mask, s.dev.insAt n = some (.wait all keep mask) → waitMet all mask.toNat (s.dev.engLatch n) = false →
      ∃ t, exec (.engineStep req n) s = .next t ∧ t.dev.engState n = 1 ∧ t.dev.get (Fld.PRB_ENG_STATUS.CAUSE n) = 3 ∧
        t.dev.engPc n = s.dev.engPc n) ∧
    (s.dev.insAt n = some .halt →
      ∃ t, exec (.engineStep req n) s = .next t ∧ t.dev.engState n = 1 ∧ t.dev.get (Fld.PRB_ENG_STATUS.CAUSE n) = 1 ∧
        Proceeds n s t))

/-- The instructions that compute (R333, R336, R343): each writes its result, modulo 2^64, to rd, where x0 discards it, and goes on
at the next word. -/
def Obligations.EnginesCompute : Prop :=
  (∀ (s : State) (n : Fin 64) (rd ra rb : BitVec 6) (fn : BitVec 3), Issuing n (.alu rd ra rb fn) s → HasNext n s →
    ∃ t, exec (.alu n) s = .next t ∧ Proceeds n s t ∧ WritesX n rd
      (if fn = 0 then xOf s n ra + xOf s n rb
       else if fn = 1 then xOf s n ra - xOf s n rb
       else if fn = 2 then xOf s n ra &&& xOf s n rb
       else if fn = 3 then xOf s n ra ||| xOf s n rb
       else if fn = 4 then xOf s n ra ^^^ xOf s n rb
       else if fn = 5 then xOf s n ra <<< ((xOf s n rb).toNat % 64)
       else if fn = 6 then xOf s n ra >>> ((xOf s n rb).toNat % 64)
       else if xOf s n ra < xOf s n rb then 1 else 0) s t) ∧
  (∀ (s : State) (n : Fin 64) (rd ra : BitVec 6) (imm : BitVec 14), Issuing n (.addi rd ra imm) s → HasNext n s →
    ∃ t, exec (.addi n) s = .next t ∧ Proceeds n s t ∧ WritesX n rd (xOf s n ra + imm.signExtend 64) s t) ∧
  (∀ (s : State) (n : Fin 64) (rd : BitVec 6) (imm : BitVec 20), Issuing n (.ldi rd imm) s → HasNext n s →
    ∃ t, exec (.ldi n) s = .next t ∧ Proceeds n s t ∧ WritesX n rd (imm.signExtend 64) s t) ∧
  (∀ (s : State) (n : Fin 64) (rd : BitVec 6) (k : BitVec 2) (imm : BitVec 16), Issuing n (.ins rd k imm) s → HasNext n s →
    ∃ t, exec (.ins n) s = .next t ∧ Proceeds n s t ∧ WritesX n rd
      ((xOf s n rd &&& ~~~(0xFFFF#64 <<< (16 * k.toNat))) ||| (imm.setWidth 64 <<< (16 * k.toNat))) s t) ∧
  (∀ (s : State) (n : Fin 64) (rd : BitVec 6), Issuing n (.evrd rd) s → HasNext n s →
    ∃ t, exec (.evrd n) s = .next t ∧ Proceeds n s t ∧ WritesX n rd (BitVec.ofNat 64 (s.dev.engLatch n)) s t) ∧
  (∀ (s : State) (n : Fin 64) (rd : BitVec 6) (tm : BitVec 3), Issuing n (.trd rd tm) s → HasNext n s →
    ∃ t, exec (.trd n) s = .next t ∧ Proceeds n s t ∧
      WritesX n rd (BitVec.ofNat 64 (Sparse.get {} (s.dev.eng n).timers tm.toNat).remaining) s t) ∧
  (∀ (s : State) (n : Fin 64) (rd : BitVec 6) (c : BitVec 8), Issuing n (.cnt 3 rd c) s → HasNext n s →
    ∃ t, exec (.cntRd n) s = .next t ∧ Proceeds n s t ∧
      WritesX n rd (BitVec.ofNat 64 (s.dev.reg64 (Reg.PRB_CNT_LO c.toNat))) s t) ∧
  (∀ (s : State) (n : Fin 64) (rd : BitVec 6), Issuing n (.tsr rd false) s → HasNext n s →
    ∃ t, exec (.tsr n) s = .next t ∧ Proceeds n s t ∧ (t.dev.eng n).tsrSec = BitVec.ofNat 48 (tSec s.dev.tc) ∧
      WritesX n rd (BitVec.ofNat 64 (tNs s.dev.tc * 2 ^ 16 + tFrac s.dev.tc)) s t) ∧
  (∀ (s : State) (n : Fin 64) (rd : BitVec 6), Issuing n (.tsr rd true) s → HasNext n s →
    ∃ t, exec (.tsr n) s = .next t ∧ Proceeds n s t ∧ WritesX n rd ((s.dev.eng n).tsrSec.setWidth 64) s t) ∧
  (∀ (s : State) (n : Fin 64) (rd : BitVec 6) (k : BitVec 3), Issuing n (.get rd k) s → HasNext n s →
    ∃ t, exec (.get n) s = .next t ∧ Proceeds n s t ∧ WritesX n rd ((s.dev.reg (Reg.PRB_ENG_PARAM n k.toNat)).setWidth 64) s t) ∧
  (∀ (s : State) (n : Fin 64) (k : BitVec 3) (ra : BitVec 6), Issuing n (.put k ra) s → HasNext n s →
    ∃ t, exec (.put n) s = .next t ∧ Proceeds n s t ∧ t.dev.reg (Reg.PRB_ENG_OUT n k.toNat) = (xOf s n ra).setWidth 32 ∧
      Frame [Reg.PRB_ENG_STATUS n, Reg.PRB_ENG_OUT n k.toNat] s t) ∧
  (∀ (s : State) (n : Fin 64) (b : BitVec 3), Issuing n (.sig b) s → HasNext n s →
    ∃ t, exec (.sig n) s = .next t ∧ Proceeds n s t ∧ t.dev.bitAt (Reg.PRB_ENG_EVT n) b.toNat = true ∧
      t.dev.bitAt Reg.PRB_INT_STATUS 0 = true ∧ Frame [Reg.PRB_ENG_STATUS n, Reg.PRB_ENG_EVT n, Reg.PRB_INT_STATUS] s t) ∧
  (∀ (s : State) (n : Fin 64), Issuing n .nop s → HasNext n s →
    ∃ t, exec (.nop n) s = .next t ∧ Proceeds n s t ∧ Frame [Reg.PRB_ENG_STATUS n] s t)

/-- The instructions that steer (R334, R336, R337): branches and jumps go to their target; JR outside the program faults; WAIT releases
at once or waits; HALT halts at the next word; running past the last word faults. A waiting engine goes on when its condition holds. -/
def Obligations.EnginesBranchWaitHaltAndFault : Prop :=
  (∀ (s : State) (n : Fin 64) (cond : BitVec 2) (ra rb : BitVec 6) (tgt : BitVec 12), Issuing n (.br cond ra rb tgt) s →
    HasNext n s → tgt.toNat < (s.dev.eng n).prog.length →
    ∃ t, exec (.br n) s = .next t ∧ Frame [Reg.PRB_ENG_STATUS n] s t ∧ t.dev.engPc n =
      (if (if cond = 0 then xOf s n ra = xOf s n rb else if cond = 1 then xOf s n ra ≠ xOf s n rb
          else if cond = 2 then xOf s n ra < xOf s n rb else xOf s n rb ≤ xOf s n ra)
        then tgt.toNat else (s.dev.engPc n + 1) % 8192)) ∧
  (∀ (s : State) (n : Fin 64) (tgt : BitVec 12), Issuing n (.jmp tgt) s → tgt.toNat < (s.dev.eng n).prog.length →
    ∃ t, exec (.jmp n) s = .next t ∧ t.dev.engPc n = tgt.toNat ∧ Frame [Reg.PRB_ENG_STATUS n] s t) ∧
  (∀ (s : State) (n : Fin 64) (rd : BitVec 6) (tgt : BitVec 12), Issuing n (.jal rd tgt) s →
    tgt.toNat < (s.dev.eng n).prog.length →
    ∃ t, exec (.jal n) s = .next t ∧ t.dev.engPc n = tgt.toNat ∧ WritesX n rd (BitVec.ofNat 64 (s.dev.engPc n + 1)) s t) ∧
  (∀ (s : State) (n : Fin 64) (ra : BitVec 6), Issuing n (.jr ra) s →
    ((xOf s n ra).toNat < (s.dev.eng n).prog.length →
      ∃ t, exec (.jr n) s = .next t ∧ t.dev.engPc n = (xOf s n ra).toNat % 8192 ∧ Frame [Reg.PRB_ENG_STATUS n] s t) ∧
    ((s.dev.eng n).prog.length ≤ (xOf s n ra).toNat →
      ∃ t, exec (.jr n) s = .next t ∧ t.dev.engState n = 4 ∧ t.dev.get (Fld.PRB_ENG_STATUS.CAUSE n) = 4 ∧
        t.dev.engPc n = s.dev.engPc n ∧ t.dev.bitAt Reg.PRB_INT_STATUS 1 = true ∧ (t.dev.eng n).lineSet = 0)) ∧
  (∀ (s : State) (n : Fin 64) (all keep : Bool) (mask : BitVec 24), Issuing n (.wait all keep mask) s →
    (waitMet all mask.toNat (s.dev.engLatch n) = true → HasNext n s →
      ∃ t, exec (.wait n) s = .next t ∧ t.dev.engState n = 2 ∧ Proceeds n s t ∧
        xOf t n 62 = BitVec.ofNat 64 (s.dev.engLatch n &&& mask.toNat) ∧ (keep = true → t.dev.engLatch n = s.dev.engLatch n) ∧
        (keep = false → s.dev.levelLines = [] →
          BitVec.ofNat 24 (t.dev.engLatch n) = BitVec.ofNat 24 (s.dev.engLatch n) &&& ~~~mask)) ∧
    (waitMet all mask.toNat (s.dev.engLatch n) = false →
      ∃ t, exec (.wait n) s = .next t ∧ t.dev.engState n = 3 ∧ t.dev.engPc n = s.dev.engPc n ∧
        Frame [Reg.PRB_ENG_STATUS n] s t)) ∧
  (∀ (s : State) (n : Fin 64) (all keep : Bool) (mask : BitVec 24), Running s → s.dev.enginesRun = true → s.dev.engState n = 3 →
    s.dev.insAt n = some (.wait all keep mask) → HasNext n s →
    (waitMet all mask.toNat (s.dev.engLatch n) = true →
      ∃ t, exec (.waitRelease n) s = .next t ∧ t.dev.engState n = 2 ∧ Proceeds n s t ∧
        xOf t n 62 = BitVec.ofNat 64 (s.dev.engLatch n &&& mask.toNat)) ∧
    (waitMet all mask.toNat (s.dev.engLatch n) = false → exec (.waitRelease n) s = .next s)) ∧
  (∀ (mask latch : BitVec 24),
    (waitMet true mask.toNat latch.toNat = true ↔ ∀ k < 24, mask.getLsbD k = true → latch.getLsbD k = true) ∧
    (waitMet false mask.toNat latch.toNat = true ↔ ∃ k < 24, mask.getLsbD k = true ∧ latch.getLsbD k = true)) ∧
  (∀ (s : State) (n : Fin 64), Issuing n .halt s →
    ∃ t, exec (.halt n) s = .next t ∧ t.dev.engState n = 1 ∧ t.dev.get (Fld.PRB_ENG_STATUS.CAUSE n) = 1 ∧ Proceeds n s t ∧
      (t.dev.eng n).lineSet = 0 ∧ (t.dev.eng n).timers = (s.dev.eng n).timers) ∧
  (∀ (s : State) (n : Fin 64), Issuing n .nop s → s.dev.engPc n + 1 = (s.dev.eng n).prog.length →
    ∃ t, exec (.nop n) s = .next t ∧ t.dev.engState n = 4 ∧ t.dev.get (Fld.PRB_ENG_STATUS.CAUSE n) = 5 ∧
      t.dev.engPc n = (s.dev.eng n).prog.length % 8192 ∧ Present 320 t.dev)

/-- The instructions that reach outside the register file (R337–R340, R342): latches, event selection, timers, shared counters, drives
of lines and pins, and commands put on their way to their targets. -/
def Obligations.EnginesReachLatchesTimersLinesAndTargets : Prop :=
  (∀ (s : State) (n : Fin 64) (mask : BitVec 24), Issuing n (.evclr mask) s → HasNext n s → s.dev.levelLines = [] →
    ∃ t, exec (.evclr n) s = .next t ∧ Proceeds n s t ∧
      BitVec.ofNat 24 (t.dev.engLatch n) = BitVec.ofNat 24 (s.dev.engLatch n) &&& ~~~mask ∧
      Frame [Reg.PRB_ENG_STATUS n, Reg.PRB_ENG_LATCH n] s t) ∧
  (∀ (s : State) (n : Fin 64) (k : BitVec 4) (e : BitVec 9), Issuing n (.esel k e) s → HasNext n s →
    ∃ t, exec (.esel n) s = .next t ∧ Proceeds n s t ∧ t.dev.get (Fld.PRB_ENG_SEL.EVENT n k.toNat) = e.toNat ∧
      Frame [Reg.PRB_ENG_STATUS n, Reg.PRB_ENG_LATCH n, Reg.PRB_ENG_SEL n k.toNat] s t) ∧
  (∀ (s : State) (n : Fin 64) (tm : BitVec 3) (ra : BitVec 6) (p : Bool), Issuing n (.tset tm ra p) s → HasNext n s →
    ∃ t, exec (.tset n) s = .next t ∧ Proceeds n s t ∧ Frame [Reg.PRB_ENG_STATUS n, Reg.PRB_ENG_LATCH n] s t ∧
      Sparse.get {} (t.dev.eng n).timers tm.toNat =
        if (xOf s n ra).toNat % 2 ^ 48 = 0 then {}
        else { remaining := (xOf s n ra).toNat % 2 ^ 48, period := if p then (xOf s n ra).toNat % 2 ^ 48 else 0, loaded := true }) ∧
  (∀ (s : State) (n : Fin 64) (t0 : Fin 8) (tm : EngTimer), Running s → s.dev.enginesRun = true →
    s.dev.engState n = 2 ∨ s.dev.engState n = 3 → Sparse.get {} (s.dev.eng n).timers t0.val = tm → tm.loaded = true →
    (1 < tm.remaining → exec (.timerExpiry n t0) s = .next s) ∧
    (tm.remaining ≤ 1 →
      ∃ t, exec (.timerExpiry n t0) s = .next t ∧ (t.dev.engLatch n).testBit (16 + t0.val) = true ∧
        Frame [Reg.PRB_ENG_LATCH n] s t ∧
        Sparse.get {} (t.dev.eng n).timers t0.val = if tm.period = 0 then {} else { tm with remaining := tm.period })) ∧
  (∀ (s : State) (n : Fin 64) (r : BitVec 6) (c : BitVec 8), HasNext n s →
    (Issuing n (.cnt 0 r c) s → ∃ t, exec (.cntInc n) s = .next t ∧ Proceeds n s t ∧
      BitVec.ofNat 64 (t.dev.reg64 (Reg.PRB_CNT_LO c.toNat)) = BitVec.ofNat 64 (s.dev.reg64 (Reg.PRB_CNT_LO c.toNat)) + 1 ∧
      Frame [Reg.PRB_ENG_STATUS n, Reg.PRB_CNT_LO c.toNat, Reg.PRB_CNT_LO c.toNat + 4] s t) ∧
    (Issuing n (.cnt 1 r c) s → ∃ t, exec (.cntAdd n) s = .next t ∧ Proceeds n s t ∧
      BitVec.ofNat 64 (t.dev.reg64 (Reg.PRB_CNT_LO c.toNat)) =
        BitVec.ofNat 64 (s.dev.reg64 (Reg.PRB_CNT_LO c.toNat)) + xOf s n r ∧
      Frame [Reg.PRB_ENG_STATUS n, Reg.PRB_CNT_LO c.toNat, Reg.PRB_CNT_LO c.toNat + 4] s t) ∧
    (Issuing n (.cnt 2 r c) s → ∃ t, exec (.cntWr n) s = .next t ∧ Proceeds n s t ∧
      BitVec.ofNat 64 (t.dev.reg64 (Reg.PRB_CNT_LO c.toNat)) = xOf s n r ∧
      Frame [Reg.PRB_ENG_STATUS n, Reg.PRB_CNT_LO c.toNat, Reg.PRB_CNT_LO c.toNat + 4] s t)) ∧
  (∀ (s : State) (n : Fin 64) (i : BitVec 6), HasNext n s →
    (Issuing n (.trig 1 0 i) s →
      ∃ t, exec (.trigSet n) s = .next t ∧ Proceeds n s t ∧ (t.dev.eng n).lineSet = (s.dev.eng n).lineSet ||| 1#64 <<< i.toNat) ∧
    (Issuing n (.trig 1 1 i) s →
      ∃ t, exec (.trigSet n) s = .next t ∧ Proceeds n s t ∧ (t.dev.eng n).pinSet = (s.dev.eng n).pinSet ||| 1#4 <<< i.toNat) ∧
    (Issuing n (.trig 1 2 i) s →
      ∃ t, exec (.trigSet n) s = .next t ∧ Proceeds n s t ∧ (t.dev.eng n).chainSet = (s.dev.eng n).chainSet ||| 1#8 <<< i.toNat) ∧
    (Issuing n (.trig 2 0 i) s →
      ∃ t, exec (.trigClr n) s = .next t ∧ Proceeds n s t ∧
        (t.dev.eng n).lineSet = (s.dev.eng n).lineSet &&& ~~~(1#64 <<< i.toNat)) ∧
    (Issuing n (.trig 2 1 i) s →
      ∃ t, exec (.trigClr n) s = .next t ∧ Proceeds n s t ∧ (t.dev.eng n).pinSet = (s.dev.eng n).pinSet &&& ~~~(1#4 <<< i.toNat) ∧
        (t.dev.eng n).pinPulse = (s.dev.eng n).pinPulse &&& ~~~(1#4 <<< i.toNat)) ∧
    (Issuing n (.trig 2 2 i) s →
      ∃ t, exec (.trigClr n) s = .next t ∧ Proceeds n s t ∧
        (t.dev.eng n).chainSet = (s.dev.eng n).chainSet &&& ~~~(1#8 <<< i.toNat)) ∧
    (Issuing n (.trig 0 0 i) s → (s.dev.eng n).lineSet.getLsbD i.toNat = false →
      ∃ t, exec (.trigPulse n) s = .next t ∧ Proceeds n s t ∧ (t.dev.eng n).lineSet = (s.dev.eng n).lineSet ∧
        (s.dev.lineValue i.toNat = false → Latches (0x2000 + i.toNat) s t)) ∧
    (Issuing n (.trig 0 1 i) s → (s.dev.eng n).pinSet.getLsbD i.toNat = false →
      ∃ t, exec (.trigPulse n) s = .next t ∧ Proceeds n s t ∧
        (t.dev.eng n).pinPulse = (s.dev.eng n).pinPulse ||| 1#4 <<< i.toNat ∧
        Sparse.get 0 (t.dev.eng n).pinDue i.toNat = s.dev.ticks + s.dev.get (Fld.PRB_TRIG_OUT_CTL.PW i.toNat)) ∧
    (Issuing n (.trig 0 2 i) s → (s.dev.eng n).chainSet.getLsbD i.toNat = false →
      ∃ t, exec (.trigPulse n) s = .next t ∧ Proceeds n s t ∧ (t.dev.eng n).chainSet = (s.dev.eng n).chainSet ∧
        (s.dev.chainValue i.toNat = false → Latches (0x2200 + i.toNat) s t)) ∧
    (Issuing n (.trig 0 0 i) s ∧ (s.dev.eng n).lineSet.getLsbD i.toNat = true ∨
      Issuing n (.trig 0 1 i) s ∧ (s.dev.eng n).pinSet.getLsbD i.toNat = true ∨
      Issuing n (.trig 0 2 i) s ∧ (s.dev.eng n).chainSet.getLsbD i.toNat = true →
      ∃ t, exec (.trigPulse n) s = .next t ∧ Proceeds n s t ∧ t.dev.eng n = s.dev.eng n ∧
        Frame [Reg.PRB_ENG_STATUS n] s t)) ∧
  (∀ (s : State) (n : Fin 64) (pin : Fin 4), Running s →
    (s.dev.ticks < Sparse.get 0 (s.dev.eng n).pinDue pin.val → exec (.trigOutPulseEnd n pin) s = .next s) ∧
    (Sparse.get 0 (s.dev.eng n).pinDue pin.val ≤ s.dev.ticks → ∃ t, exec (.trigOutPulseEnd n pin) s = .next t ∧
      (t.dev.eng n).pinPulse = (s.dev.eng n).pinPulse &&& ~~~(1#4 <<< pin.val) ∧ (t.dev.eng n).pinSet = (s.dev.eng n).pinSet ∧
      RegsKept [] s.dev t.dev)) ∧
  (∀ (s : State) (n : Fin 64) (ra : BitVec 6) (tap : BitVec 7) (p : BitVec 6), HasNext n s →
    let issued (c : Instr) (m : ProbeCmd) : Prop :=
      ∃ t, exec c s = .next t ∧ Proceeds n s t ∧ t.dev.prb.inFlight = s.dev.prb.inFlight ++ [m] ∧
        Frame [Reg.PRB_ENG_STATUS n] s t
    (Issuing n (.cap 0 tap ra) s → issued (.capStart n) (.capStart tap.toNat ((xOf s n ra).toNat % 2 ^ 16))) ∧
    (Issuing n (.cap 1 tap ra) s → issued (.capStop n) (.capStop tap.toNat)) ∧
    (Issuing n (.cap 2 tap ra) s → issued (.capMark n) (.capMark tap.toNat ((xOf s n ra).toNat % 2 ^ 32))) ∧
    (Issuing n (.cap 3 tap ra) s → issued (.capDest n) (.capDest tap.toNat ((xOf s n ra).toNat % 2 ^ 16))) ∧
    (Issuing n (.qcmd 0 ra) s → issued (.qcmdArm n) (.qArm ((xOf s n ra).toNat % 2 ^ 16))) ∧
    (Issuing n (.qcmd 1 ra) s → issued (.qcmdTrigger n) (.qTrigger ((xOf s n ra).toNat % 2 ^ 16))) ∧
    (Issuing n (.qcmd 2 ra) s → issued (.qcmdStop n) (.qStop ((xOf s n ra).toNat % 2 ^ 16))) ∧
    (Issuing n (.play 0 p ra) s → issued (.playStart n) (.playStart p.toNat (xOf s n ra).toNat)) ∧
    (Issuing n (.play 1 p ra) s → issued (.playNext n) (.playNext p.toNat (xOf s n ra).toNat)) ∧
    (Issuing n (.play 2 p ra) s → issued (.playStop n) (.playStop p.toNat)))

/-- Counters, TRIG_IN and pre-matchers (R339, R346, R348–R350): a counter write applies both halves; an accepted assertion counts, raises
its event and starts the 112-tick measurement, a too-soon one is IGNORED; a pre-matcher counts the matching windows, those that agree with
VALUE in every bit of MASK, and asserts its event when their number passes a multiple of EVERY; LOAD replaces the
whole compare; HITS_CLR clears. -/
def Obligations.CountersTriggerInputsAndPreMatchers : Prop :=
  (∀ (s : State) (req : Requester) (c : Fin 256) (hi lo : Word), Writable req 10 s →
    Sparse.get (s.dev.reg (Reg.PRB_CNT_LO c)) s.dev.held (Reg.PRB_CNT_LO c) = lo →
    ∃ t, exec (.prbCntWrite req c hi) s = .next t ∧ t.dev.reg (Reg.PRB_CNT_LO c) = lo ∧ t.dev.reg (Reg.PRB_CNT_LO c + 4) = hi ∧
      Frame [Reg.PRB_CNT_LO c, Reg.PRB_CNT_LO c + 4] s t) ∧
  (∀ (s : State) (pin : Fin 4), Running s → s.dev.regionActive 5 = true → s.dev.bitAt Reg.PRB_TRIG_IN_CTL pin = true →
    s.dev.bitAt Reg.PRB_TRIG_IN_STATUS pin = false →
    ((s.dev.trigFilter pin).tooSoon s.dev.ticks = false →
      ∃ t, exec (.trigInAssert pin) s = .next t ∧ t.dev.bitAt Reg.PRB_TRIG_IN_STATUS pin = true ∧
        t.dev.trigFilter pin = { s.dev.trigFilter pin with lastAccept := some s.dev.ticks } ∧
        (∃ e ∈ t.dev.tapLog, e.code = 0x2000 + pin.val ∧ e.time = s.dev.tc) ∧ Latches (0x2100 + pin.val) s t ∧
        t.dev.get (Fld.PRB_TRIG_IN_CNT.ACCEPTED pin) = min (s.dev.get (Fld.PRB_TRIG_IN_CNT.ACCEPTED pin) + 1) (2 ^ 16 - 1)) ∧
    ((s.dev.trigFilter pin).tooSoon s.dev.ticks = true →
      ∃ t, exec (.trigInAssert pin) s = .next t ∧ t.dev.bitAt Reg.PRB_TRIG_IN_STATUS pin = true ∧
        t.dev.get (Fld.PRB_TRIG_IN_CNT.IGNORED pin) = min (s.dev.get (Fld.PRB_TRIG_IN_CNT.IGNORED pin) + 1) (2 ^ 16 - 1) ∧
        t.dev.trigFilter pin = { s.dev.trigFilter pin with ignored := true } ∧
        Frame [Reg.PRB_TRIG_IN_STATUS, Reg.PRB_TRIG_IN_CNT pin] s t)) ∧
  (∀ (f : PinFilter) (now : Nat), f.tooSoon now = true ↔ ∃ t, f.lastAccept = some t ∧ now < t + 112) ∧
  (∀ (s : State) (x : Fin 1536) (ws : List (Option Nat × BitVec 512)), Running s →
    (s.dev.get (Fld.PRB_PM_CTL.EN x) = 0 → exec (.pmMatch x ws) s = .next s) ∧
    (s.dev.tapSourceOk (x.val / 16) = false → exec (.pmMatch x ws) s = .next s) ∧
    (let seen := if tapUnits (x.val / 16) then ws else ws.map (fun w => (none, w.2))
     let n := (seen.filter (s.dev.pmMatches x)).length
     let run := Sparse.get 0 s.dev.prb.pmRun x.val
     let every := s.dev.get (Fld.PRB_PM_EVERY.N x)
     s.dev.get (Fld.PRB_PM_CTL.EN x) = 1 → s.dev.regionRuns 5 = true → s.dev.tapSourceOk (x.val / 16) = true →
      ∃ t, exec (.pmMatch x ws) s = .next t ∧ SameMemory s t ∧ Sparse.get 0 t.dev.prb.pmRun x.val = run + n ∧
        t.dev.reg64 (Reg.PRB_PM_HITS_LO x) = min (s.dev.reg64 (Reg.PRB_PM_HITS_LO x) + n) (2 ^ 48 - 1) ∧
        (run / every < (run + n) / every → Latches (0x1000 + x.val) s t) ∧
        (¬ run / every < (run + n) / every → Frame [Reg.PRB_PM_HITS_LO x, Reg.PRB_PM_HITS_LO x + 4] s t)) ∧
    (∀ (o : Option Nat) (w : BitVec 512), s.dev.get (Fld.PRB_PM_CTL.MODE x) = 0 → s.dev.get (Fld.PRB_PM_CTL.ANCHOR x) = 0 →
      (s.dev.pmMatches x (o, w) = true ↔ ∀ j < 512, (Sparse.get 0 s.dev.prb.pmMask (16 * x.val + j / 32)).getLsbD (j % 32) = true →
        w.getLsbD j = (Sparse.get 0 s.dev.prb.pmValue (16 * x.val + j / 32)).getLsbD (j % 32)))) ∧
  (∀ (s : State) (req : Requester) (x : Fin 1536), Writable req 10 s →
    (∃ t, exec (.pmLoad req x) s = .next t ∧ Frame [] s t ∧ ∀ w < 16,
      Sparse.get 0 t.dev.prb.pmMask (16 * x + w) = s.dev.reg (Reg.PRB_PM_MASK x w) ∧
      Sparse.get 0 t.dev.prb.pmValue (16 * x + w) = s.dev.reg (Reg.PRB_PM_VALUE x w)) ∧
    (∃ t, exec (.pmHitsClr req x) s = .next t ∧ t.dev.reg64 (Reg.PRB_PM_HITS_LO x) = 0 ∧ Sparse.get 0 t.dev.prb.pmRun x.val = 0 ∧
      Frame [Reg.PRB_PM_HITS_LO x, Reg.PRB_PM_HITS_LO x + 4] s t))

/-! ### Capture and pattern -/

/-- Captures (R366–R372, R560): START takes an idle, enabled tap whose destination is valid and free, else it is refused; STOP ends a
capture to a queue or a one-shot buffer and starts the post-trigger part of a ring; a buffer that ends has its header in the buffer, is
DONE and free; MARK and DEST act on the record in progress; a lost source makes the tap wait. -/
def Obligations.TapsStartStopMarkAndWait : Prop :=
  (∀ (s : State) (t0 : Fin 96) (v : BitVec 16) (buf ok : Bool), Working 11 s → s.dev.isSet (Fld.CAP_TAP_CTL.DKIND t0) = buf →
    (s.dev.get (Fld.CAP_TAP_STATUS.STATE t0) = 0 ∧ s.dev.get (Fld.CAP_TAP_CTL.EN t0) = 1 ∧ s.dev.chainBusy t0 = false ∧
      (if buf then s.dev.bufValid t0 v.toNat else s.dev.queueValid v.toNat) = true ↔ ok = true) →
    (ok = false → ∃ t, exec (.tapStart t0 v) s = .next t ∧ Arising 322 t.dev ∧
      t.dev.get Fld.PRB_CMD_REF_CNT.COMMANDS = min (s.dev.get Fld.PRB_CMD_REF_CNT.COMMANDS + 1) (2 ^ 32 - 1) ∧
      Frame [Reg.PRB_CMD_REF_CNT] s t) ∧
    (ok = true → buf = false → ∃ t, exec (.tapStart t0 v) s = .next t ∧ t.dev.tapState t0 = 1 ∧ t.dev.tapDest t0 = v.toNat ∧
      (t.dev.tap t0).record = none ∧ (t.dev.tap t0).toBuffer = false ∧
      (t.dev.tap t0).since = s.dev.tc - ticksTime (s.dev.get (Fld.CAP_TAP_CTL.LOOKBACK t0)) ∧ Frame [Reg.CAP_TAP_STATUS t0] s t) ∧
    (ok = true → buf = true → ∃ t, exec (.tapStart t0 v) s = .next t ∧ t.dev.tapState t0 = 1 ∧ t.dev.tapDest t0 = v.toNat ∧
      (t.dev.tap t0).toBuffer = true ∧ t.dev.bufOwner v.toNat = t0 ∧ t.dev.get (Fld.CAP_SBUF_STATUS.STATE v.toNat) = 1 ∧
      t.dev.get (Fld.CAP_SBUF_FILL.BYTES v.toNat) = 0 ∧
      Frame [Reg.CAP_TAP_STATUS t0, Reg.CAP_SBUF_STATUS v.toNat, Reg.CAP_SBUF_FILL v.toNat] s t)) ∧
  (∀ (s : State) (t0 : Fin 96), Working 11 s →
    (s.dev.tapState t0 = 0 ∨ s.dev.tapState t0 = 3 → ∃ t, exec (.tapStop t0) s = .next t ∧ Frame [] s t) ∧
    (s.dev.tapState t0 = 1 ∨ s.dev.tapState t0 = 2 → (s.dev.tap t0).toBuffer = false → (s.dev.tap t0).record = none →
      ∃ t, exec (.tapStop t0) s = .next t ∧ t.dev.tapState t0 = 0 ∧
        Frame [Reg.CAP_TAP_STATUS t0, Reg.CAP_TAP_CTL t0, Reg.CAP_TAP_SEL t0] s t) ∧
    (∀ r, s.dev.tapState t0 = 1 ∨ s.dev.tapState t0 = 2 → (s.dev.tap t0).toBuffer = false → (s.dev.tap t0).record = some r →
      ∃ t, exec (.tapStop t0) s = .next t ∧ t.dev.tapState t0 = 0 ∧ (t.dev.tap t0).record = none) ∧
    (∀ b, s.dev.tapState t0 = 1 ∨ s.dev.tapState t0 = 2 → (s.dev.tap t0).toBuffer = true → s.dev.tapDest t0 % 16 = b →
      (s.dev.isSet (Fld.CAP_SBUF_CTL.RING b) = false →
        ∃ t, exec (.tapStop t0) s = .next t ∧ t.dev.tapState t0 = 0 ∧ t.dev.get (Fld.CAP_SBUF_STATUS.STATE b) = 3 ∧
          t.dev.bufOwner b = 0xFF ∧ t.dev.bitAt Reg.CAP_INT_STATUS 0 = true ∧
          t.sram.read (s.dev.bufAddr b 0) = 0x51 ∧ t.sram.read (s.dev.bufAddr b 1) = 0x7E) ∧
      (s.dev.isSet (Fld.CAP_SBUF_CTL.RING b) = true →
        ∃ t, exec (.tapStop t0) s = .next t ∧ t.dev.tapState t0 = 3 ∧ t.dev.get (Fld.CAP_SBUF_STATUS.STATE b) = 2 ∧
          SameMemory s t ∧ ∃ r, (t.dev.tap t0).record = some r ∧ r.stopAt = some r.len))) ∧
  (∀ (s : State) (t0 : Fin 96) (v : BitVec 32), Working 11 s →
    (s.dev.tapState t0 = 0 → ∃ t, exec (.tapMark t0 v) s = .next t ∧ Arising 322 t.dev ∧ Frame [Reg.PRB_CMD_REF_CNT] s t) ∧
    (∀ r, s.dev.tapState t0 ≠ 0 → (s.dev.tap t0).record = some r →
      ∃ t, exec (.tapMark t0 v) s = .next t ∧ Frame [] s t ∧
        (t.dev.tap t0).record = some { r with mark := some v.toNat, markPos := r.len, marks := min 0xFFFF (r.marks + 1) }) ∧
    (s.dev.tapState t0 ≠ 0 → (s.dev.tap t0).record = none →
      ∃ t, exec (.tapMark t0 v) s = .next t ∧ Frame [] s t ∧ ∃ n, (t.dev.tap t0).heldMark = some (v.toNat, n) ∧
        n = min 0xFFFF (((s.dev.tap t0).heldMark.map (·.2)).getD 0 + 1))) ∧
  (∀ (s : State) (t0 : Fin 96) (q : BitVec 16), Working 11 s →
    (s.dev.tapState t0 = 0 ∨ (s.dev.tap t0).toBuffer = true ∨ s.dev.queueValid q.toNat = false →
      ∃ t, exec (.tapDest t0 q) s = .next t ∧ Arising 322 t.dev ∧ Frame [Reg.PRB_CMD_REF_CNT] s t) ∧
    (s.dev.tapState t0 ≠ 0 → (s.dev.tap t0).toBuffer = false → s.dev.queueValid q.toNat = true →
      ((s.dev.tap t0).record.isSome = true →
        ∃ t, exec (.tapDest t0 q) s = .next t ∧ (t.dev.tap t0).nextDest = some q.toNat ∧ Frame [] s t) ∧
      ((s.dev.tap t0).record = none →
        ∃ t, exec (.tapDest t0 q) s = .next t ∧ t.dev.tapDest t0 = q.toNat ∧ Frame [Reg.CAP_TAP_STATUS t0] s t))) ∧
  (∀ (s : State) (t0 : Fin 96), Working 11 s →
    (s.dev.tapState t0 = 0 → ∃ t, exec (.tapSourceLoss t0) s = .next t ∧ (t.dev.tap t0).lost = true ∧ Frame [] s t) ∧
    (s.dev.tapState t0 ≠ 0 → (s.dev.tap t0).toBuffer = false →
      ∃ t, exec (.tapSourceLoss t0) s = .next t ∧ t.dev.tapState t0 = 2 ∧ (t.dev.tap t0).lost = true ∧
        (t.dev.tap t0).record = none) ∧
    ((s.dev.setTap t0 { s.dev.tap t0 with lost := false }).tapSourceOk t0 = true → s.dev.tapState t0 = 2 →
      ∃ t, exec (.tapSourceReturn t0) s = .next t ∧ t.dev.tapState t0 = 1 ∧ (t.dev.tap t0).lost = false ∧
        Frame [Reg.CAP_TAP_STATUS t0] s t) ∧
    (s.dev.tapState t0 ≠ 2 ∨ (s.dev.setTap t0 { s.dev.tap t0 with lost := false }).tapSourceOk t0 = false →
      ∃ t, exec (.tapSourceReturn t0) s = .next t ∧ (t.dev.tap t0).lost = false ∧ Frame [] s t))

/-- Records and chains (R369, R370, R372, R381, R382, R560): a record with no room for another piece closes with its header
written, an event record is flushed once its first entry has waited 2^FLUSH us, a refused tap tries again with the data as it arrives; a complete or overflowing buffer capture ends; a chain reset starts its
history and takes the pending values; saturation is reported. -/
def Obligations.RecordsCloseAndChainsReset : Prop :=
  (∀ (s : State) (t0 : Fin 96) (r : OpenRecord), Working 11 s → (s.dev.tap t0).record = some r → (s.dev.tap t0).toBuffer = false →
    (s.dev.recordLimit t0 < r.len + s.dev.leastPiece t0 → ∃ t, exec (.recordClose t0) s = .next t ∧ RecordClosed t0 r s t) ∧
    (r.len + s.dev.leastPiece t0 ≤ s.dev.recordLimit t0 → exec (.recordClose t0) s = .next s) ∧
    (s.dev.isEventTap t0 = true → r.opened + 1120 * 2 ^ s.dev.get (Fld.CAP_TAP_CTL.FLUSH t0) ≤ s.dev.ticks →
      ∃ t, exec (.recordFlush t0) s = .next t ∧ RecordClosed t0 r s t) ∧
    (s.dev.isEventTap t0 = false ∨ s.dev.ticks < r.opened + 1120 * 2 ^ s.dev.get (Fld.CAP_TAP_CTL.FLUSH t0) →
      exec (.recordFlush t0) s = .next s)) ∧
  (∀ (s : State) (t0 : Fin 96) (item : TapItem), Working 11 s →
    ((s.dev.tap t0).refusing = true → exec (.tapRetry t0 item) s = exec (.queueCaptureWrite t0 item false) s) ∧
    ((s.dev.tap t0).refusing = false → exec (.tapRetry t0 item) s = .next s)) ∧
  (∀ (s : State) (t0 : Fin 96) (unit uoff time : Nat) (data : WindowData), Working 11 s →
    let v := s.dev.tap t0
    let q := s.dev.tapDest t0
    let b := ((s.dev.q q).wb + 63) / 64 * 64
    v.refusing = true → s.dev.tapState t0 = 1 → s.dev.regionRuns 6 = true → s.dev.tapSourceOk t0 = true → s.dev.decimates t0 = false →
    windowFits data (s.dev.tapFmt t0) = true → s.dev.inUnit t0 uoff = true → v.toBuffer = false → v.toUnit = false → v.record = none →
    v.since ≤ min time s.dev.tc → s.dev.qType q = 1 → s.dev.qState q = 2 → (s.dev.q q).trigPend = false →
    ((s.dev.q q).pages.any (fun p => p.lpage == b / pageBytes) = false → s.dev.mayObtain q = false →
      exec (.tapRetry t0 (.window unit uoff time data)) s = .next s) ∧
    (∀ x, b % pageBytes + 128 ≤ pageBytes → (s.dev.q q).pages.find? (fun p => p.lpage == b / pageBytes) = some x →
      s.dev.rms.freed = [] →
      ∃ u, exec (.tapRetry t0 (.window unit uoff time data)) s = .next u ∧ (u.dev.tap t0).refusing = false ∧
        (u.dev.tap t0).record.map (fun r => (r.len, r.start, r.unit, r.gap)) =
          some (64, b / 64, unit, s.dev.isSet (Fld.CAP_TAP_STATUS.GAP_PEND t0)) ∧
        u.dev.get (Fld.CAP_TAP_STATUS.GAP_PEND t0) = 0 ∧
        ∀ j, j < 64 → u.hbm.read (x.phys * pageBytes + b % pageBytes + 64 + j) = (s.dev.tapBytes t0 (windowBytes data)).getD j 0)) ∧
  (∀ (s : State) (t0 : Fin 96) (b : Nat), Working 11 s → s.dev.tapDest t0 % 16 = b →
    ((s.dev.tap t0).toBuffer = true → s.dev.bufComplete t0 = true →
      ∃ t, exec (.bufferCaptureEnd t0) s = .next t ∧ t.dev.tapState t0 = 0 ∧ t.dev.get (Fld.CAP_SBUF_STATUS.STATE b) = 3 ∧
        t.dev.bufOwner b = 0xFF ∧ t.dev.bitAt Reg.CAP_INT_STATUS 0 = true) ∧
    ((s.dev.tap t0).toBuffer = false ∨ s.dev.bufComplete t0 = false → exec (.bufferCaptureEnd t0) s = .next s) ∧
    ((s.dev.tap t0).toBuffer = true →
      ∃ t, exec (.sramOvf t0) s = .next t ∧ t.dev.tapState t0 = 0 ∧ t.dev.get (Fld.CAP_SBUF_STATUS.STATE b) = 3 ∧
        Arising 353 t.dev ∧ Arising 352 t.dev ∧
        t.dev.get (Fld.CAP_TAP_CNT.TRUNC t0) = min (s.dev.get (Fld.CAP_TAP_CNT.TRUNC t0) + 1) (2 ^ 16 - 1)) ∧
    ((s.dev.tap t0).toBuffer = false → exec (.sramOvf t0) s = .next s)) ∧
  (∀ (s : State) (c : Fin 8), Working 11 s →
    (∃ t, exec (.decReset c) s = .next t ∧ Sparse.get 0 t.dev.cap.resetAt c.val = s.dev.ticks) ∧
    (∀ t0 r, s.dev.chainTap c = some t0 → (s.dev.tap t0).toBuffer = false → (s.dev.tap t0).record = some r →
      ∃ t, exec (.decReset c) s = .next t ∧ (t.dev.tap t0).record = none) ∧
    (s.dev.chainTap c = none → ∃ t, exec (.decReset c) s = .next t ∧ Frame [Reg.CAP_DEC_CTL c, Reg.CAP_DEC_NCO c] s t ∧
      ∀ a ∈ [Reg.CAP_DEC_CTL c, Reg.CAP_DEC_NCO c], s.dev.held? 11 = false → s.dev.waitsForCommit a = false →
        ∀ v, s.dev.shadow.find? (fun e => e.1 == a) = some (a, v) → s.dev.shadow.filter (fun e => e.1 == a) = [(a, v)] →
          t.dev.reg a = mergeShadow (shadowMaskOf a) (s.dev.reg a) v ∧ t.dev.shadow.find? (fun e => e.1 == a) = none) ∧
    (∃ t, exec (.decSaturation c) s = .next t ∧ t.dev.get (Fld.CAP_DEC_STATUS.SAT c) = 1 ∧ Arising 357 t.dev ∧
      Frame [Reg.CAP_DEC_STATUS c] s t)) ∧
  (∀ (s : State) (req : Requester) (mask : BitVec 8), Writable req 11 s →
    ∃ t, exec (.capSyncReset req mask) s = .next t ∧ ∀ c : Fin 8, Sparse.get 0 t.dev.cap.resetAt c.val =
      if mask.getLsbD c then s.dev.ticks else Sparse.get 0 s.dev.cap.resetAt c.val)

/-- Players and segments (R386–R392, R445): START plays a valid segment at once or arms the player for the synchronising event, else it
is refused; NEXT queues a segment; STOP ends the play; the end of a pass goes on to the queued segment, the next pass or the end; an
underrun counts; a segment in use cannot be written; the synchronising event starts armed players. -/
def Obligations.PlayersPlaySegments : Prop :=
  (∀ (s : State) (p : Fin 64) (g : BitVec 64), Working 11 s →
    ∀ e, e = (if s.dev.held? 11 then s.dev else s.dev.copyShadow (fun a => a == Reg.CAP_PLY_CTL p)) →
    (e.playJoined p = false ∨ e.playTaken p = true ∨ e.segValid p g.toNat (e.playOut p) (e.playInst p) = false →
      ∃ t, exec (.playerStart p g) s = .next t ∧ Arising 322 t.dev ∧ Frame [Reg.PRB_CMD_REF_CNT] s t) ∧
    (e.playJoined p = true → e.playTaken p = false → e.segValid p g.toNat (e.playOut p) (e.playInst p) = true →
      ∃ t, exec (.playerStart p g) s = .next t ∧ SameMemory s t ∧ t.dev.playCur p = g.toNat ∧
        t.dev.get (Fld.CAP_PLY_STATUS.QUEUED p) = 0x7FF ∧
        (∀ b, e.segBuffer g.toNat = some b → t.dev.bufOwner b = 128 + p) ∧
        (e.playState p ≠ 2 → e.isSet (Fld.CAP_PLY_CTL.SYNC_START p) = true →
          t.dev.playState p = 1 ∧ t.dev.cap.played = s.dev.cap.played) ∧
        (e.playState p = 2 ∨ e.isSet (Fld.CAP_PLY_CTL.SYNC_START p) = false →
          t.dev.playState p = 2 ∧ Sparse.get 0 t.dev.cap.passes p.val = 0 ∧ t.dev.cap.played = s.dev.cap.played ++
            [{ player := p, out := e.playOut p, inst := e.playInst p, seg := g.toNat }]))) ∧
  (∀ (s : State) (p : Fin 64) (g : BitVec 64), Working 11 s →
    (s.dev.playState p ≠ 2 ∨ s.dev.segValid p g.toNat (s.dev.playOut p) (s.dev.playInst p) = false →
      ∃ t, exec (.playerNext p g) s = .next t ∧ Arising 322 t.dev ∧ Frame [Reg.PRB_CMD_REF_CNT] s t) ∧
    (s.dev.playState p = 2 → s.dev.segValid p g.toNat (s.dev.playOut p) (s.dev.playInst p) = true →
      ∃ t, exec (.playerNext p g) s = .next t ∧ t.dev.get (Fld.CAP_PLY_STATUS.QUEUED p) = g.toNat ∧
        Frame [Reg.CAP_PLY_STATUS p] s t)) ∧
  (∀ (s : State) (p : Fin 64), Working 11 s →
    (s.dev.playState p = 0 → ∃ t, exec (.playerStop p) s = .next t ∧ Frame [] s t) ∧
    (s.dev.playState p ≠ 0 → ∃ t, exec (.playerStop p) s = .next t ∧ t.dev.playState p = 0 ∧ t.dev.playCur p = 0x7FF ∧
      t.dev.get (Fld.CAP_PLY_STATUS.QUEUED p) = 0x7FF ∧ t.dev.bitAt Reg.CAP_INT_STATUS 2 = true ∧ SameMemory s t) ∧
    (s.dev.playState p ≠ 2 → exec (.playerPassEnd p) s = .next s) ∧
    (let g := s.dev.playCur p
     let queued := s.dev.get (Fld.CAP_PLY_STATUS.QUEUED p)
     let loops := s.dev.get (Fld.CAP_SEG4.LOOPS g)
     let done := Sparse.get 0 s.dev.cap.passes p.val + 1
     let after := if queued ≠ 0x7FF then queued else s.dev.get (Fld.CAP_SEG0.NEXT g)
     let again := queued = 0x7FF ∧ (loops = 0 ∨ done < loops)
     let goes := after ≠ 0x7FF ∧ s.dev.segValid p after (s.dev.playOut p) (s.dev.playInst p) = true
     s.dev.playState p = 2 → (∀ e ∈ s.dev.prb.engines, e.1 < 64) →
      ∃ t, exec (.playerPassEnd p) s = .next t ∧ SameMemory s t ∧ Latches (0x2800 + p.val) s t ∧
        t.dev.get (Fld.CAP_PLY_CNT.PASSES p) = min (s.dev.get (Fld.CAP_PLY_CNT.PASSES p) + 1) 0xFFFF ∧
        (again → Sparse.get 0 t.dev.cap.passes p.val = done ∧ t.dev.playState p = 2 ∧ t.dev.cap.played = s.dev.cap.played ++
          [{ player := p, out := s.dev.playOut p, inst := s.dev.playInst p, seg := g }]) ∧
        (¬ again → goes → t.dev.playState p = 2 ∧ t.dev.playCur p = after ∧ Sparse.get 0 t.dev.cap.passes p.val = 0 ∧
          t.dev.get (Fld.CAP_PLY_STATUS.QUEUED p) = 0x7FF ∧ t.dev.cap.played = s.dev.cap.played ++
            [{ player := p, out := s.dev.playOut p, inst := s.dev.playInst p, seg := after }]) ∧
        (¬ again → ¬ goes → t.dev.playState p = 0 ∧ t.dev.playCur p = 0x7FF ∧ t.dev.bitAt Reg.CAP_INT_STATUS 2 = true ∧
          t.dev.cap.played = s.dev.cap.played) ∧
        (¬ again → s.dev.get (Fld.CAP_SEG0.SRC g) = 1 → s.dev.get (Fld.CAP_SEG4.CONSUME g) = 1 →
          let q := s.dev.get (Fld.CAP_SEG0.BUF g)
          t.dev.qCons q = max (s.dev.qCons q) (min (s.dev.qTail q) ((s.dev.segStart g + s.dev.segLen g) / 64)))) ∧
    (s.dev.playState p ≠ 2 ∨ s.dev.get (Fld.CAP_SEG0.SRC (s.dev.playCur p)) ≠ 1 →
      exec (.playerUnderrun p) s = .next s) ∧
    (s.dev.playState p = 2 → s.dev.get (Fld.CAP_SEG0.SRC (s.dev.playCur p)) = 1 →
      ∃ t, exec (.playerUnderrun p) s = .next t ∧ Arising 354 t.dev ∧ Arising 293 t.dev ∧ t.dev.bitAt Reg.CAP_INT_STATUS 3 = true ∧
        t.dev.get (Fld.CAP_PLY_CNT.UNDERRUN p) = min (s.dev.get (Fld.CAP_PLY_CNT.UNDERRUN p) + 1) (2 ^ 16 - 1) ∧
        Frame [Reg.CAP_PLY_CNT p, Reg.CAP_INT_STATUS] s t)) ∧
  (∀ (s : State) (req : Requester) (g : Fin 1024) (v : Word), Writable req 11 s →
    ((∃ p : Fin 64, s.dev.playState p = 2 ∧ (s.dev.playCur p = g ∨ s.dev.get (Fld.CAP_PLY_STATUS.QUEUED p) = g)) →
      ∀ w, ∃ t, exec (.segWrite req g w v) s = .next t ∧ Arising 355 t.dev ∧ t.dev.bitAt Reg.CAP_INT_STATUS 4 = true ∧
        t.dev.get Fld.CAP_SEG_REFUSED.WRITES = min (s.dev.get Fld.CAP_SEG_REFUSED.WRITES + 1) (2 ^ 32 - 1) ∧
        Frame [Reg.CAP_SEG_REFUSED, Reg.CAP_INT_STATUS] s t) ∧
    ((∀ p : Fin 64, s.dev.playState p = 2 → s.dev.playCur p ≠ g ∧ s.dev.get (Fld.CAP_PLY_STATUS.QUEUED p) ≠ g) →
      (∀ w : Fin 5, ∃ t, exec (.segWrite req g w v) s = .next t ∧ Frame [segReg w g] s t) ∧
      (∃ t, exec (.segWrite req g 0 v) s = .next t ∧ t.dev.get (Fld.CAP_SEG0.SRC g) = v.toNat / 2 ^ 30 ∧
        t.dev.get (Fld.CAP_SEG0.NEXT g) = v.toNat / 2 ^ 16 % 2 ^ 11 ∧ t.dev.get (Fld.CAP_SEG0.BUF g) = v.toNat % 2 ^ 16) ∧
      (∃ t, exec (.segWrite req g 1 v) s = .next t ∧ t.dev.get (Fld.CAP_SEG1.START g) = v.toNat) ∧
      (∃ t, exec (.segWrite req g 2 v) s = .next t ∧ t.dev.get (Fld.CAP_SEG2.START g) = v.toNat % 2 ^ 16) ∧
      (∃ t, exec (.segWrite req g 3 v) s = .next t ∧ t.dev.get (Fld.CAP_SEG3.LEN g) = v.toNat) ∧
      (∃ t, exec (.segWrite req g 4 v) s = .next t ∧ t.dev.get (Fld.CAP_SEG4.LOOPS g) = v.toNat / 2 ^ 16 ∧
        t.dev.get (Fld.CAP_SEG4.CONSUME g) = v.toNat % 2))) ∧
  (∀ (s : State), Working 13 s →
    (s.dev.tim.syncDue = false → exec .syncEvent s = .next s) ∧
    (s.dev.tim.syncDue = true →
      (∃ t, exec .syncEvent s = .next t ∧ t.dev.tim.syncDue = false ∧ t.dev.bitAt Reg.TIM_INT_STATUS 3 = true) ∧
      (s.dev.inReset 11 = false → s.dev.syncMask = 0 →
        ∃ t, exec .syncEvent s = .next t ∧ SameMemory s t ∧
          t.dev.get Fld.CAP_SYNC.EVENTS = min (s.dev.get Fld.CAP_SYNC.EVENTS + 1) (2 ^ 16 - 1) ∧
          ∀ p : Fin 64, s.dev.playState p = 1 → t.dev.playState p = 2)))

/-! ### Clocks and time references -/

/-- References and the DPLL (R426–R436): activity and measurements qualify and disqualify candidates; the best selectable candidate is the
one of highest rank, of equal ranks the lower index; the DPLL moves to it, holds over, or runs free as MODE says; it locks once the phase error has been small for the lock time,
unlocks, and has a valid holdover after one averaging period;
a failed XO forces it off its reference. -/
def Obligations.ReferencesQualifyAndTheDpllSelects : Prop :=
  (∀ (s : State) (c : Fin 12), Running s →
    (s.dev.tim.xoOk = false → exec (.refActivityLoss c) s = .next s ∧ exec (.refActivityReturn c) s = .next s) ∧
    (s.dev.tim.xoOk = true → ∃ t, exec (.refActivityLoss c) s = .next t ∧ t.dev.get (Fld.TIM_REF_STATUS.ACT c) = 0 ∧
      t.dev.get (Fld.TIM_REF_STATUS.FREQ_OK c) = 0 ∧ t.dev.get (Fld.TIM_REF_STATUS.QUAL c) = 0 ∧
      t.dev.get (Fld.TIM_REF_FO.FO c) = 0 ∧
      (s.dev.get (Fld.TIM_REF_STATUS.QUAL c) = 1 → s.dev.get Fld.TIM_DPLL_STATUS.SEL = c → Arising 416 t.dev ∧
        t.dev.get Fld.TIM_SW_CNT.REF_LOSS = min (s.dev.get Fld.TIM_SW_CNT.REF_LOSS + 1) (2 ^ 16 - 1)) ∧
      Frame ([Reg.TIM_REF_FO c, Reg.TIM_SW_CNT] ++ (List.range 12).map Reg.TIM_REF_STATUS) s t) ∧
    (s.dev.tim.xoOk = true → s.dev.offered c = true → ∃ t, exec (.refActivityReturn c) s = .next t ∧
      t.dev.get (Fld.TIM_REF_STATUS.ACT c) = 1 ∧
      t.dev.get (Fld.TIM_REF_STATUS.QUAL c) = s.dev.get (Fld.TIM_REF_STATUS.FREQ_OK c))) ∧
  (∀ (s : State) (c : Fin 12) (fo : Int), Running s →
    (s.dev.get (Fld.TIM_REF_STATUS.ACT c) = 0 ∨ s.dev.tim.xoOk = false → exec (.freqMeasure c fo) s = .next s) ∧
    (s.dev.get (Fld.TIM_REF_STATUS.ACT c) = 1 → s.dev.tim.xoOk = true →
      ∃ t, exec (.freqMeasure c fo) s = .next t ∧ t.dev.getInt (Fld.TIM_REF_FO.FO c) = clampInt (-2147483648) 2147483647 fo ∧
        (s.dev.get Fld.TIM_MON_CTL.REJECT * 100 < fo.natAbs →
          t.dev.get (Fld.TIM_REF_STATUS.FREQ_OK c) = 0 ∧ t.dev.get (Fld.TIM_REF_STATUS.QUAL c) = 0) ∧
        (fo.natAbs ≤ s.dev.get Fld.TIM_MON_CTL.REJECT * 100 → fo.natAbs ≤ s.dev.get Fld.TIM_MON_CTL.ACCEPT * 100 →
          Sparse.get 0 t.dev.tim.good c.val = min (Sparse.get 0 s.dev.tim.good c.val + 1) 3 ∧
          (2 ≤ Sparse.get 0 s.dev.tim.good c.val →
            t.dev.get (Fld.TIM_REF_STATUS.FREQ_OK c) = 1 ∧ t.dev.get (Fld.TIM_REF_STATUS.QUAL c) = 1)) ∧
        (fo.natAbs ≤ s.dev.get Fld.TIM_MON_CTL.REJECT * 100 → s.dev.get Fld.TIM_MON_CTL.ACCEPT * 100 < fo.natAbs →
          Sparse.get 0 t.dev.tim.good c.val = 0 ∧
          t.dev.get (Fld.TIM_REF_STATUS.FREQ_OK c) = s.dev.get (Fld.TIM_REF_STATUS.FREQ_OK c)))) ∧
  (∀ (s : State) (c : Fin 12), Running s →
    (s.dev.get (Fld.TIM_REF_STATUS.WTR_RUN c) = 0 ∨ 0 < s.dev.wtrLeft c → exec (.wtrExpiry c) s = .next s) ∧
    (s.dev.get (Fld.TIM_REF_STATUS.WTR_RUN c) = 1 → s.dev.wtrLeft c = 0 →
     ∃ t, exec (.wtrExpiry c) s = .next t ∧ t.dev.get (Fld.TIM_REF_STATUS.WTR_RUN c) = 0 ∧
      t.dev.get (Fld.TIM_REF_STATUS.WTR_LEFT c) = 0 ∧
      (t.dev.get (Fld.TIM_REF_STATUS.SELECTABLE c) = 1 ↔
        s.dev.get (Fld.TIM_REF_CTL.PRIO c) ≠ 0 ∧ s.dev.get (Fld.TIM_REF_STATUS.QUAL c) = 1) ∧
      Frame ((List.range 12).map Reg.TIM_REF_STATUS) s t)) ∧
  (∀ (d : Dev), (d.bestRef = none ↔ ∀ i < 12, d.selectable i = false) ∧
    ∀ b, d.bestRef = some b → b < 12 ∧ d.selectable b = true ∧
      ∀ i < 12, d.selectable i = true → d.prio b ≤ d.prio i ∧ (d.prio i = d.prio b → b ≤ i)) ∧
  (∀ (s : State) (phase : Int), Running s →
    let moved (b : Nat) (t : State) : Prop :=
      t.dev.dpll = (if s.dev.dpll = 2 ∨ s.dev.dpll = 4 then 4 else 1) ∧ t.dev.get Fld.TIM_DPLL_STATUS.SEL = b ∧
      t.dev.getInt Fld.TIM_SW_STEP.PS = clampInt (-2147483648) 2147483647 (phaseStep phase (s.dev.refHz b)) ∧
      t.dev.tim.pull = s.dev.tim.pull + psUnits (phaseStep phase (s.dev.refHz b)) ∧ Arising 420 t.dev ∧
      t.dev.get Fld.TIM_SW_CNT.SWITCHES = min (s.dev.get Fld.TIM_SW_CNT.SWITCHES + 1) (2 ^ 16 - 1) ∧
      t.dev.bitAt Reg.TIM_INT_STATUS 1 = true ∧ (Present 421 t.dev ↔ t.dev.tim.pull ≠ 0)
    let holds (t : State) : Prop :=
      t.dev.dpll = (if s.dev.get Fld.TIM_DPLL_STATUS.HO_VALID = 1 then 3 else 5) ∧ t.dev.get Fld.TIM_DPLL_STATUS.SEL = 15 ∧
      t.dev.get Fld.TIM_DPLL_PHERR.PS = 0
    (s.dev.tim.xoOk = false → ∃ t, exec (.refSelect phase) s = .next t ∧ holds t) ∧
    (s.dev.tim.xoOk = true → s.dev.get Fld.TIM_DPLL_CTL.MODE = 3 → ∃ t, exec (.refSelect phase) s = .next t ∧ t.dev.dpll = 0 ∧
      t.dev.get Fld.TIM_DPLL_STATUS.SEL = 15 ∧ t.dev.get Fld.TIM_DPLL_PHERR.PS = 0) ∧
    (s.dev.tim.xoOk = true → s.dev.get Fld.TIM_DPLL_CTL.MODE = 2 → ∃ t, exec (.refSelect phase) s = .next t ∧ holds t) ∧
    (∀ f, s.dev.tim.xoOk = true → s.dev.get Fld.TIM_DPLL_CTL.MODE = 1 → s.dev.get Fld.TIM_DPLL_CTL.FORCE_IDX = f →
      (s.dev.get (Fld.TIM_REF_STATUS.QUAL f) = 0 → ∃ t, exec (.refSelect phase) s = .next t ∧ holds t) ∧
      (s.dev.get (Fld.TIM_REF_STATUS.QUAL f) = 1 → s.dev.get Fld.TIM_DPLL_STATUS.SEL ≠ f →
        ∃ t, exec (.refSelect phase) s = .next t ∧ moved f t)) ∧
    (s.dev.tim.xoOk = true → s.dev.get Fld.TIM_DPLL_CTL.MODE = 0 → (∀ i < 12, s.dev.prio i = 0) →
      ∃ t, exec (.refSelect phase) s = .next t ∧ t.dev.dpll = 0 ∧ t.dev.get Fld.TIM_DPLL_STATUS.SEL = 15) ∧
    (∀ sel, s.dev.tim.xoOk = true → s.dev.get Fld.TIM_DPLL_CTL.MODE = 0 → (∃ i < 12, s.dev.prio i ≠ 0) →
      s.dev.get Fld.TIM_DPLL_STATUS.SEL = sel →
      (12 ≤ sel ∨ s.dev.selectable sel = false →
        (s.dev.bestRef = none → ∃ t, exec (.refSelect phase) s = .next t ∧ holds t) ∧
        (∀ b, s.dev.bestRef = some b → ∃ t, exec (.refSelect phase) s = .next t ∧ moved b t)) ∧
      (∀ b, sel < 12 → s.dev.selectable sel = true → s.dev.bestRef = some b →
        (s.dev.get Fld.TIM_DPLL_CTL.REVERTIVE = 0 ∨ s.dev.prio sel ≤ s.dev.prio b ∨ s.dev.dpll = 4 →
          exec (.refSelect phase) s = .next s) ∧
        (s.dev.get Fld.TIM_DPLL_CTL.REVERTIVE = 1 → s.dev.prio b < s.dev.prio sel → s.dev.dpll ≠ 4 →
          ∃ t, exec (.refSelect phase) s = .next t ∧ moved b t)))) ∧
  (∀ (s : State) (req : Requester) (mode : BitVec 2) (phase : Int), Writable req 13 s →
    ∀ d, d = s.dev.setShadow Reg.TIM_DPLL_CTL (setBits (s.dev.shadowReg Reg.TIM_DPLL_CTL) 1 0 mode.toNat) →
    (s.dev.held? 13 = true → exec (.dpllModeWrite req mode phase) s = .next { s with dev := d }) ∧
    (s.dev.held? 13 = false → ∃ t, exec (.dpllModeWrite req mode phase) s = .next t ∧
      exec (.refSelect phase) { s with dev := (d.copyShadow (fun k => k == Reg.TIM_DPLL_CTL)).hoAvgChange (s.dev.reg Reg.TIM_DPLL_CTL) } =
        .next t ∧
      t.dev.get Fld.TIM_DPLL_CTL.MODE = mode.toNat ∧
      (mode = 3 → s.dev.tim.xoOk = true → t.dev.dpll = 0 ∧ t.dev.get Fld.TIM_DPLL_STATUS.SEL = 15))) ∧
  (∀ (s : State) (pe : Int), Running s →
    (∀ bw, bw ∈ [(0, 1), (1, 3), (2, 10), (3, 30), (4, 100), (5, 300), (6, 1000), (7, 3000), (8, 10000)] →
      s.dev.get Fld.TIM_DPLL_CTL.BW = bw.1 → s.dev.loopBw = if s.dev.get Fld.TIM_DPLL_STATUS.SEL = 11 then 1 else bw.2) ∧
    (s.dev.dpll = 1 ∨ s.dev.dpll = 4 → pe.natAbs ≤ 2000 → 1120000 ≤ s.dev.ticks - s.dev.tim.dpllSince →
      20 * 1120000000 / s.dev.loopBw ≤ s.dev.ticks - s.dev.tim.dpllSince → ∃ t, exec (.dpllLock pe) s = .next t ∧ t.dev.dpll = 2 ∧
      t.dev.get Fld.TIM_DPLL_STATUS.SEL = s.dev.get Fld.TIM_DPLL_STATUS.SEL ∧ t.dev.bitAt Reg.TIM_INT_STATUS 0 = true ∧
      t.dev.getInt Fld.TIM_DPLL_PHERR.PS = clampInt (-2147483648) 2147483647 pe ∧
      Frame [Reg.TIM_DPLL_STATUS, Reg.TIM_DPLL_PHERR, Reg.TIM_INT_STATUS] s t) ∧
    (¬(s.dev.dpll = 1 ∨ s.dev.dpll = 4) ∨ 2000 < pe.natAbs ∨ s.dev.ticks < s.dev.tim.dpllSince + 1120000 →
      exec (.dpllLock pe) s = .next s) ∧
    (s.dev.dpll = 2 → 20000 < pe.natAbs → ∃ t, exec (.dpllUnlock pe) s = .next t ∧ t.dev.dpll = 1 ∧
      t.dev.get Fld.TIM_DPLL_STATUS.SEL = s.dev.get Fld.TIM_DPLL_STATUS.SEL ∧ t.dev.bitAt Reg.TIM_INT_STATUS 0 = true ∧
      Frame [Reg.TIM_DPLL_STATUS, Reg.TIM_DPLL_PHERR, Reg.TIM_INT_STATUS] s t) ∧
    (s.dev.dpll ≠ 2 ∨ pe.natAbs ≤ 20000 → exec (.dpllUnlock pe) s = .next s) ∧
    (s.dev.dpll ≠ 2 ∨ s.dev.ticks < s.dev.tim.dpllSince + 1120000000 → exec .hoValidSet s = .next s) ∧
    (∀ dec, s.dev.dpll = 2 → s.dev.get Fld.TIM_DPLL_CTL.HO_AVG = dec →
      s.dev.tim.dpllSince + 10 ^ dec * 1120000000 ≤ s.dev.ticks → s.dev.tim.hoSince + 10 ^ dec * 1120000000 ≤ s.dev.ticks →
      ∃ t, exec .hoValidSet s = .next t ∧ t.dev.get Fld.TIM_DPLL_STATUS.HO_VALID = 1 ∧
      Frame [Reg.TIM_DPLL_STATUS] s t) ∧
    (∃ t, exec .xoFail s = .next t ∧ t.dev.tim.xoOk = false ∧ Present 423 t.dev ∧
      t.dev.dpll = (if s.dev.get Fld.TIM_DPLL_STATUS.HO_VALID = 1 then 3 else 5)) ∧
    (∃ t, exec .xoReturn s = .next t ∧ t.dev.tim.xoOk = true ∧ ¬ Present 423 t.dev ∧ Frame [] s t) ∧
    (∃ t, exec .rootUnlock s = .next t ∧ t.dev.tim.rootLocked = false ∧ Present 424 t.dev ∧ Frame [] s t) ∧
    (∃ t, exec .rootRelock s = .next t ∧ t.dev.tim.rootLocked = true ∧ ¬ Present 424 t.dev ∧ Frame [] s t))

/-- The time counter and its pulses (R437–R445): SET, STEP and the end of a pull move the counter, which saturates; a second event comes in
the tick that carries it into its next second; the first pulse after a realignment is omitted when it comes less than half a period
after the last; SYNC_IN and PPS_IN are timestamped, a too-soon assertion is ignored. -/
def Obligations.TimeCounterPulsesAndInputs : Prop :=
  (∀ (s : State) (req : Requester) (hi : BitVec 16), Writable req 13 s →
    (∃ t, exec (.tcSet req) s = .next t ∧ t.dev.tc = tcSat ((s.dev.get Fld.TIM_SET_MID1.SEC + s.dev.get Fld.TIM_SET_HI.SEC * 2 ^ 32) *
        tcSecond + s.dev.get Fld.TIM_SET_MID0.NS * tcNs + s.dev.get Fld.TIM_SET_LO.FRAC * 2 ^ 24 : Nat) ∧
      t.dev.tim.genOff + t.dev.tc = s.dev.tim.genOff + s.dev.tc ∧ Frame [] s t) ∧
    (∀ lo, Sparse.get (s.dev.reg Reg.TIM_STEP_LO) s.dev.held Reg.TIM_STEP_LO = lo →
      ∃ t, exec (.tcStep req hi) s = .next t ∧
        t.dev.tc = tcSat ((s.dev.tc : Int) + (BitVec.append hi lo : BitVec 48).toInt * (2 ^ 24 : Nat)) ∧
        t.dev.tim.genOff + t.dev.tc = s.dev.tim.genOff + s.dev.tc ∧ t.dev.reg Reg.TIM_STEP_LO = lo ∧
        Frame [Reg.TIM_STEP_LO, Reg.TIM_STEP_HI] s t) ∧
    (∃ t, exec (.tcLoadSync req) s = .next t ∧ t.dev.get Fld.TIM_TC_CTL.LOAD_SYNC = 1 ∧ Frame [Reg.TIM_TC_CTL] s t) ∧
    (∃ t, exec (.pulseAlign req) s = .next t ∧ t.dev.tim.genOff = 0 ∧ t.dev.tim.realignedPps = true ∧
      t.dev.tim.realignedFrame = true ∧ t.dev.tc = s.dev.tc ∧ Frame [] s t) ∧
    (∃ t, exec (.syncCmd req) s = .next t ∧ t.dev.tim.syncDue = true ∧ Frame [] s t)) ∧
  (∀ (v : Int), tcSat v = (if v < 0 then 0 else if (tcMax : Int) < v then tcMax else v.toNat)) ∧
  (∀ (s : State), Running s →
    (s.dev.tim.pull = 0 → exec .pullDone s = .next s) ∧
    (s.dev.tim.pull ≠ 0 → ∃ t, exec .pullDone s = .next t ∧ t.dev.tc = tcSat ((s.dev.tc : Int) + s.dev.tim.pull) ∧
      t.dev.tim.pull = 0 ∧ t.dev.bitAt Reg.TIM_INT_STATUS 2 = true ∧ ¬ Present 421 t.dev ∧ Frame [Reg.TIM_INT_STATUS] s t) ∧
    (s.dev.pullPerTick < s.dev.addend → s.dev.tc + tcSecond + 2 ^ 49 ≤ tcMax →
      ∃ t, exec .secondEvent s = .next t ∧ SameMemory s t ∧ tSec t.dev.tc = tSec s.dev.tc + 1 ∧
        t.dev.tc < (tSec s.dev.tc + 1) * tcSecond + s.dev.addend + s.dev.pullPerTick ∧
        (t.dev.tc : Int) + t.dev.tim.pull = s.dev.tc + ((t.dev.ticks - s.dev.ticks : Nat) : Int) * s.dev.addend + s.dev.tim.pull ∧
        t.dev.tim.syncIn.ignored = false ∧
        t.dev.tim.ppsIn.ignored = false ∧ (s.dev.tim.syncIn.ignored = true → Arising 425 t.dev) ∧
        (s.dev.tim.ppsIn.ignored = true → Arising 426 t.dev) ∧
        (s.dev.prb.trigIn.any (fun e => e.2.ignored) = true → Arising 321 t.dev ∧ t.dev.bitAt Reg.PRB_INT_STATUS 2 = true) ∧
        ∀ pin, (t.dev.trigFilter pin).ignored = false)) ∧
  (∀ (s : State), Running s →
    (s.dev.tim.realignedPps = false ∨ (∀ last, s.dev.tim.lastPps = some last → 28000000000 ≤ (s.dev.ticks - last) * 50) → ∃ t, exec .ppsOutPulse s = .next t ∧
      t.dev.tim.lastPps = some s.dev.ticks ∧ t.dev.tim.realignedPps = false ∧
      Sparse.get 0 t.dev.tim.pulseDue 0 = s.dev.ticks + s.dev.get Fld.TIM_PULSE_CTL.PW ∧
      t.dev.tim.ppsHigh = (s.dev.tim.ppsHigh || s.dev.isSet Fld.TIM_PULSE_CTL.PPS_EN) ∧ Frame [] s t) ∧
    (∀ last, s.dev.tim.realignedPps = true → s.dev.tim.lastPps = some last → (s.dev.ticks - last) * 50 < 28000000000 →
      ∃ t, exec .ppsOutPulse s = .next t ∧ t.dev.tim = { s.dev.tim with realignedPps := false } ∧ t.dev.tapLog = s.dev.tapLog ∧
        Frame [] s t) ∧
    (s.dev.tim.realignedFrame = false ∨ (∀ last, s.dev.tim.lastFrame = some last →
        s.dev.get Fld.TIM_FRAME_PER.NS * 28 ≤ (s.dev.ticks - last) * 50) → ∃ t, exec .frameOutPulse s = .next t ∧
      t.dev.tim.lastFrame = some s.dev.ticks ∧ t.dev.tim.realignedFrame = false ∧
      Sparse.get 0 t.dev.tim.pulseDue 1 = s.dev.ticks + s.dev.get Fld.TIM_PULSE_CTL.PW ∧ SameMemory s t ∧
      t.dev.tim.frameHigh = (s.dev.tim.frameHigh || s.dev.isSet Fld.TIM_PULSE_CTL.FRAME_EN)) ∧
    (∀ last, s.dev.tim.realignedFrame = true → s.dev.tim.lastFrame = some last →
      (s.dev.ticks - last) * 50 < s.dev.get Fld.TIM_FRAME_PER.NS * 28 →
      ∃ t, exec .frameOutPulse s = .next t ∧ t.dev.tim = { s.dev.tim with realignedFrame := false } ∧ Frame [] s t) ∧
    (∀ p, s.dev.ticks < Sparse.get 0 s.dev.tim.pulseDue (pulsePlace p) → exec (.outputPulseEnd p) s = .next s) ∧
    (Sparse.get 0 s.dev.tim.pulseDue 0 ≤ s.dev.ticks → ∃ t, exec (.outputPulseEnd .ppsOut) s = .next t ∧ t.dev.tim = { s.dev.tim with ppsHigh := false } ∧ Frame [] s t) ∧
    (Sparse.get 0 s.dev.tim.pulseDue 1 ≤ s.dev.ticks → ∃ t, exec (.outputPulseEnd .frameOut) s = .next t ∧ t.dev.tim = { s.dev.tim with frameHigh := false } ∧ Frame [] s t) ∧
    (Sparse.get 0 s.dev.tim.pulseDue 2 ≤ s.dev.ticks → ∃ t, exec (.outputPulseEnd .syncOut) s = .next t ∧ t.dev.tim = { s.dev.tim with syncOutHigh := false } ∧ Frame [] s t)) ∧
  (∀ (s : State), Running s →
    (s.dev.get Fld.TIM_SYNC_CTL.EN = 0 ∨ s.dev.tim.syncIn.level = true → exec .syncInAssert s = .next s) ∧
    (s.dev.get Fld.TIM_SYNC_CTL.EN = 1 → s.dev.tim.syncIn.level = false → s.dev.tim.syncIn.tooSoon s.dev.ticks = false →
      ∃ t, exec .syncInAssert s = .next t ∧ t.dev.tim.syncIn.level = true ∧ t.dev.tim.syncIn.lastAccept = some s.dev.ticks ∧
        t.dev.tim.syncDue = (s.dev.tim.syncDue || !s.dev.isSet Fld.TIM_SYNC_CTL.SRC) ∧
        t.dev.reg Reg.TIM_SYNC_TS_MID0 = BitVec.ofNat 32 (tNs s.dev.tc) ∧
        t.dev.get Fld.TIM_SYNC_CNT.ACCEPTED = min (s.dev.get Fld.TIM_SYNC_CNT.ACCEPTED + 1) (2 ^ 16 - 1) ∧
        Frame [Reg.TIM_SYNC_CNT, Reg.TIM_SYNC_TS_LO, Reg.TIM_SYNC_TS_MID0, Reg.TIM_SYNC_TS_MID1, Reg.TIM_SYNC_TS_HI] s t) ∧
    (s.dev.get Fld.TIM_SYNC_CTL.EN = 1 → s.dev.tim.syncIn.level = false → s.dev.tim.syncIn.tooSoon s.dev.ticks = true →
      ∃ t, exec .syncInAssert s = .next t ∧ t.dev.tim.syncIn = { s.dev.tim.syncIn with level := true, ignored := true } ∧
        t.dev.tim.syncDue = s.dev.tim.syncDue ∧ Frame [Reg.TIM_SYNC_CNT] s t) ∧
    (s.dev.get Fld.TIM_PPSIN_CTL.EN = 0 ∨ s.dev.tim.ppsIn.level = true → exec .ppsInAssert s = .next s) ∧
    (s.dev.get Fld.TIM_PPSIN_CTL.EN = 1 → s.dev.tim.ppsIn.level = false → s.dev.tim.ppsIn.tooSoon s.dev.ticks = false →
      ∃ t, exec .ppsInAssert s = .next t ∧ t.dev.tim.ppsIn.lastAccept = some s.dev.ticks ∧
        t.dev.reg (Reg.TIM_PPSIN_TS_LO + 4) = BitVec.ofNat 32 (tNs s.dev.tc) ∧ t.dev.refHz 11 = 1 ∧ SameMemory s t) ∧
    (s.dev.get Fld.TIM_PPSIN_CTL.EN = 1 → s.dev.tim.ppsIn.level = false → s.dev.tim.ppsIn.tooSoon s.dev.ticks = true →
      ∃ t, exec .ppsInAssert s = .next t ∧ t.dev.tim.ppsIn = { s.dev.tim.ppsIn with level := true, ignored := true } ∧
        Frame [Reg.TIM_PPSIN_CNT] s t) ∧
    (s.dev.get Fld.TIM_SYNC_CTL.EN = 1 →
      (∃ t, exec (.deassertionAccepted .syncIn false) s = .next t ∧
        t.dev.tim = { s.dev.tim with syncIn := { s.dev.tim.syncIn with level := false } } ∧ Frame [] s t) ∧
      (∃ t, exec (.deassertionAccepted .syncIn true) s = .next t ∧ t.dev.tim.syncIn = { s.dev.tim.syncIn with ignored := true } ∧
        Frame [Reg.TIM_SYNC_CNT] s t)) ∧
    (s.dev.get Fld.TIM_PPSIN_CTL.EN = 1 →
      ∃ t, exec (.deassertionAccepted .ppsIn false) s = .next t ∧
        t.dev.tim = { s.dev.tim with ppsIn := { s.dev.tim.ppsIn with level := false } } ∧ Frame [] s t) ∧
    (∀ i : Fin 4, s.dev.regionActive 5 = true → s.dev.bitAt Reg.PRB_TRIG_IN_CTL i = true →
      (∃ t, exec (.deassertionAccepted (.trigIn i) false) s = .next t ∧ t.dev.bitAt Reg.PRB_TRIG_IN_STATUS i = false ∧
        Frame [Reg.PRB_TRIG_IN_STATUS] s t) ∧
      (∃ t, exec (.deassertionAccepted (.trigIn i) true) s = .next t ∧ (t.dev.trigFilter i).ignored = true ∧
        t.dev.get (Fld.PRB_TRIG_IN_CNT.IGNORED i) = min (s.dev.get (Fld.PRB_TRIG_IN_CNT.IGNORED i) + 1) (2 ^ 16 - 1) ∧
        Frame [Reg.PRB_TRIG_IN_CNT i] s t)))

/-- PTP timestamping (R446–R448): only enabled event messages count; a Sync in one step is stamped with the time and the correction,
others get a FIFO entry with the time; a FIFO of 64 entries counts further messages as lost; the first entry interrupts; POP removes
the head. -/
def Obligations.PtpMessagesAreStamped : Prop :=
  (∀ (s : State) (m : PtpMsg), Running s → s.dev.ptpTaken m = false →
    exec (.ptpTxMessage m) s = .next s ∧ exec (.ptpRxMessage m) s = .next s) ∧
  (∀ (s : State) (m : PtpMsg), Running s → s.dev.ptpTaken m = true →
    (s.dev.get Fld.TIM_PTP_CTL.ONE_STEP = 1 → m.msgType = 0 → m.transport ≠ .udp6 →
      ∃ t, exec (.ptpTxMessage m) s = .next t ∧ Frame [] s t ∧ t.dev.tim.ptpTx = s.dev.tim.ptpTx ∧
        t.dev.tim.ptpStamped = s.dev.tim.ptpStamped ++ [{ seqId := m.seqId, originSec := BitVec.ofNat 48 (tSec s.dev.tc), originNs := BitVec.ofNat 32 (tNs s.dev.tc), correction := m.correction + BitVec.ofNat 64 (tFrac s.dev.tc), udpChecksumZero := m.transport == .udp4 }]) ∧
    (s.dev.get Fld.TIM_PTP_CTL.ONE_STEP = 0 ∨ m.msgType ≠ 0 ∨ m.transport = .udp6 → s.dev.tim.ptpTx.length < 64 →
      ∃ t, exec (.ptpTxMessage m) s = .next t ∧ t.dev.tim.ptpTx = s.dev.tim.ptpTx ++
          [{ msgType := m.msgType, domain := m.domain, seqId := m.seqId, time := s.dev.tc }] ∧
        (s.dev.tim.ptpTx = [] → t.dev.bitAt Reg.TIM_INT_STATUS 4 = true) ∧ Frame [Reg.TIM_INT_STATUS] s t) ∧
    (s.dev.get Fld.TIM_PTP_CTL.ONE_STEP = 0 ∨ m.msgType ≠ 0 ∨ m.transport = .udp6 → 64 ≤ s.dev.tim.ptpTx.length →
      ∃ t, exec (.ptpTxMessage m) s = .next t ∧ t.dev.tim.ptpTx = s.dev.tim.ptpTx ∧ Arising 422 t.dev ∧
        t.dev.get Fld.TIM_PTP_CNT.TX_OVF = min (s.dev.get Fld.TIM_PTP_CNT.TX_OVF + 1) (2 ^ 16 - 1) ∧
        Frame [Reg.TIM_PTP_CNT] s t) ∧
    (s.dev.tim.ptpRx.length < 64 →
      ∃ t, exec (.ptpRxMessage m) s = .next t ∧ t.dev.tim.ptpRx = s.dev.tim.ptpRx ++
          [{ msgType := m.msgType, domain := m.domain, seqId := m.seqId, time := s.dev.tc }] ∧
        (s.dev.tim.ptpRx = [] → t.dev.bitAt Reg.TIM_INT_STATUS 4 = true) ∧ Frame [Reg.TIM_INT_STATUS] s t) ∧
    (64 ≤ s.dev.tim.ptpRx.length →
      ∃ t, exec (.ptpRxMessage m) s = .next t ∧ t.dev.tim.ptpRx = s.dev.tim.ptpRx ∧ Arising 422 t.dev ∧
        t.dev.get Fld.TIM_PTP_CNT.RX_OVF = min (s.dev.get Fld.TIM_PTP_CNT.RX_OVF + 1) (2 ^ 16 - 1) ∧
        Frame [Reg.TIM_PTP_CNT] s t)) ∧
  (∀ (s : State) (req : Requester), Writable req 13 s →
    (∃ t, exec (.ptpPop req true) s = .next t ∧ t.dev.tim = { s.dev.tim with ptpRx := s.dev.tim.ptpRx.drop 1 } ∧ Frame [] s t) ∧
    (∃ t, exec (.ptpPop req false) s = .next t ∧ t.dev.tim = { s.dev.tim with ptpTx := s.dev.tim.ptpTx.drop 1 } ∧ Frame [] s t)) ∧
  (∀ (d : Dev) (m : PtpMsg), d.ptpTaken m = true ↔ d.get Fld.TIM_PTP_CTL.EN = 1 ∧ m.msgType.toNat ≤ 3 ∧
    (m.transport = .l2 → d.get Fld.TIM_PTP_CTL.L2 = 1) ∧ (m.transport = .udp4 → d.get Fld.TIM_PTP_CTL.UDP4 = 1) ∧
    (m.transport = .udp6 → d.get Fld.TIM_PTP_CTL.UDP6 = 1))

/-! ### Calliope -/

/-- The Calliope channel (R405–R418): PUSH queues a packet or is refused; an idle transmitter starts the packet of highest priority, ECHO
reply before HELLO before FIFO, and is done or cut; the receiver searches, takes a preamble, a sync word and a packet, with the errors
of each stage counted and reported; an accepted packet is queued, and its HELLO, HEARTBEAT or ECHO served; partners expire. -/
def Obligations.CalliopeSendsAndReceives : Prop :=
  (∀ (s : State) (req : Requester) (x : Port), Writable req 12 s →
    (8 ≤ (s.dev.cp x).txFifo.length ∨ 64 < s.dev.get (Fld.CLP_x_TX_HDR.LEN x) ∨ s.dev.get (Fld.CLP_x_TX_HDR.TYPE x) = 0 →
      ∃ t, exec (.clpPush req x) s = .next t ∧ t.dev.cp x = s.dev.cp x ∧
        t.dev.get (Fld.CLP_x_TX_CNT.REFUSED x) = min (s.dev.get (Fld.CLP_x_TX_CNT.REFUSED x) + 1) 0xFF ∧
        Frame [Reg.CLP_x_TX_CNT x] s t) ∧
    (∀ n k, (s.dev.cp x).txFifo.length < 8 → s.dev.get (Fld.CLP_x_TX_HDR.LEN x) = n → n ≤ 64 →
      s.dev.get (Fld.CLP_x_TX_HDR.TYPE x) = k → k ≠ 0 →
      ∃ t, exec (.clpPush req x) s = .next t ∧ Frame [Reg.CLP_x_STATUS x] s t ∧
        t.dev.get (Fld.CLP_x_STATUS.TX_FIFO x) = (s.dev.cp x).txFifo.length + 1 ∧
        ∃ l : List Byte, l.length = n ∧ (∀ i < n, l.getD i 0 =
          (s.dev.reg (Reg.CLP_x_TX_DATA x (i / 4))).extractLsb' (24 - 8 * (i % 4)) 8) ∧ (t.dev.cp x).txFifo = (s.dev.cp x).txFifo ++ [{ type := k, payload := l }]) ∧
    (∃ t, exec (.clpPop req x) s = .next t ∧ (t.dev.cp x).rxFifo = (s.dev.cp x).rxFifo.drop 1 ∧ Frame [Reg.CLP_x_STATUS x] s t) ∧
    (∃ t, exec (.eqReset req x) s = .next t ∧ (t.dev.cp x).taps = [0, 0, 4096, 0, 0, 0, 0, 0, 0, 0, 0, 0] ∧
      Frame [Reg.CLP_x_STATUS x] s t)) ∧
  (∀ (s : State) (x : Port), Working 12 s →
    (s.dev.isSet (Fld.CLP_x_CTL.HELLO_EN x) = true →
      ∃ t, exec (.clpHelloTimer x) s = .next t ∧ (t.dev.cp x).hello = true ∧ Frame [Reg.CLP_x_STATUS x] s t) ∧
    (s.dev.isSet (Fld.CLP_x_CTL.HELLO_EN x) = false → exec (.clpHelloTimer x) s = .next s) ∧
    (s.dev.clpTxState x = 2 → exec (.clpTxPacket x) s = .next s) ∧
    (s.dev.clpTxState x ≠ 2 → s.dev.clpMaySend x = false →
      ∃ t, exec (.clpTxPacket x) s = .next t ∧ t.dev.clpTxState x = 0 ∧ t.dev.cp x = s.dev.cp x ∧ Frame [Reg.CLP_x_STATUS x] s t) ∧
    (∀ q, s.dev.clpTxState x ≠ 2 → s.dev.clpMaySend x = true → (s.dev.cp x).quietSince = some q →
      s.dev.ticks < q + 54560 * s.dev.get (Fld.CLP_x_CTL.GAP x) →
      ∃ t, exec (.clpTxPacket x) s = .next t ∧ t.dev.clpTxState x = 1 ∧ t.dev.cp x = s.dev.cp x ∧ Frame [Reg.CLP_x_STATUS x] s t) ∧
    (s.dev.clpTxState x ≠ 2 → s.dev.clpMaySend x = true →
      (∀ q, (s.dev.cp x).quietSince = some q → q + 54560 * s.dev.get (Fld.CLP_x_CTL.GAP x) ≤ s.dev.ticks) →
      (∀ l, (s.dev.cp x).echo = some l →
        ∃ t, exec (.clpTxPacket x) s = .next t ∧ t.dev.clpTxState x = 2 ∧ Frame [Reg.CLP_x_STATUS x] s t ∧
          t.dev.cp x = { s.dev.cp x with echo := none, sending := some ({ type := 2, payload := l }, s.dev.tc) }) ∧
      ((s.dev.cp x).echo = none → (s.dev.cp x).hello = true →
        ∃ t, exec (.clpTxPacket x) s = .next t ∧ t.dev.clpTxState x = 2 ∧ (t.dev.cp x).hello = false ∧
          (t.dev.cp x).txFifo = (s.dev.cp x).txFifo ∧ Frame [Reg.CLP_x_STATUS x] s t ∧
          ∃ p, (t.dev.cp x).sending = some (p, s.dev.tc) ∧ p.type = 0 ∧ p.payload.length = 16 ∧
            beAt p.payload 0 8 = s.dev.clpDigest x) ∧
      (∀ p r, (s.dev.cp x).echo = none → (s.dev.cp x).hello = false → (s.dev.cp x).txFifo = p :: r →
        ∃ t, exec (.clpTxPacket x) s = .next t ∧ t.dev.clpTxState x = 2 ∧
          t.dev.cp x = { s.dev.cp x with txFifo := r, sending := some (p, s.dev.tc) } ∧
          (r = [] → t.dev.bitAt (Reg.CLP_x_INT_STATUS x) 4 = true) ∧
          Frame [Reg.CLP_x_STATUS x, Reg.CLP_x_INT_STATUS x] s t) ∧
      ((s.dev.cp x).echo = none → (s.dev.cp x).hello = false → (s.dev.cp x).txFifo = [] →
        ∃ t, exec (.clpTxPacket x) s = .next t ∧ t.dev.clpTxState x = 1 ∧ t.dev.cp x = s.dev.cp x ∧ Frame [Reg.CLP_x_STATUS x] s t)) ∧
    ((s.dev.cp x).sending = none → exec (.clpTxDone x) s = .next s) ∧
    (∀ p b, (s.dev.cp x).sending = some (p, b) →
      (∃ t, exec (.clpTxDone x) s = .next t ∧ (t.dev.cp x).sending = none ∧ (t.dev.cp x).quietSince = some s.dev.ticks ∧
        t.dev.get (Fld.CLP_x_TX_CNT.SENT x) = min (s.dev.get (Fld.CLP_x_TX_CNT.SENT x) + 1) 0xFFFF ∧
        t.dev.clpLog = s.dev.clpLog ++ [{ port := x, rx := false, rssi := 0, bytes := p.bytes, time := tcMax.min (b + bitTimes 32) }]) ∧
      (s.dev.clpMaySend x = false → ∃ t, exec (.clpTxAbort x) s = .next t ∧ (t.dev.cp x).sending = none ∧ Arising (fCLP x 4) t.dev ∧
        t.dev.get (Fld.CLP_x_TX_CNT.ABORTED x) = min (s.dev.get (Fld.CLP_x_TX_CNT.ABORTED x) + 1) 0xFF ∧
        t.dev.clpLog = s.dev.clpLog)) ∧
    (s.dev.clpMaySend x = true → exec (.clpTxAbort x) s = .next s)) ∧
  (∀ (s : State) (x : Port), Working 12 s →
    (s.dev.clpMayRun x = true ∨ s.dev.clpRxState x = 0 → exec (.clpRxOff x) s = .next s) ∧
    (s.dev.clpMayRun x = false → s.dev.clpRxState x ≠ 0 → ∃ t, exec (.clpRxOff x) s = .next t ∧ t.dev.clpRxState x = 0 ∧
      (2 ≤ s.dev.clpRxState x → t.dev.bitAt (Reg.CLP_x_INT_STATUS x) 2 = true ∧ t.dev.get (Fld.CLP_x_STATUS.AGC_FROZEN x) = 0)) ∧
    (s.dev.clpMayRun x = true → s.dev.clpRxState x = 0 →
      ∃ t, exec (.clpRxOn x) s = .next t ∧ t.dev.clpRxState x = 1 ∧ Frame [Reg.CLP_x_STATUS x] s t) ∧
    (s.dev.clpMayRun x = false ∨ s.dev.clpRxState x ≠ 0 → exec (.clpRxOn x) s = .next s)) ∧
  (∀ (s : State) (x : Port) (w : Int), Working 12 s →
    (s.dev.clpRxState x = 0 ∨ s.dev.isSet (Fld.CLP_x_STATUS.AGC_FROZEN x) = true → exec (.agcUpdate x w) s = .next s) ∧
    (s.dev.clpRxState x ≠ 0 → s.dev.isSet (Fld.CLP_x_STATUS.AGC_FROZEN x) = false →
      ∃ t, exec (.agcUpdate x w) s = .next t ∧ Frame [Reg.CLP_x_RSSI x] s t ∧ (t.dev.get (Fld.CLP_x_RSSI.GAIN x) : Int) =
        clampInt 0 600 (clampInt ((s.dev.get (Fld.CLP_x_RSSI.GAIN x) : Int) - 15) ((s.dev.get (Fld.CLP_x_RSSI.GAIN x) : Int) + 15) w))) ∧
  (∀ (s : State) (x : Port) (ph : Fin 2046) (pw : Int) (g : Nat), Working 12 s →
    let takes (t : State) : Prop := t.dev.clpRxState x = 2 ∧ (t.dev.cp x).phase = ph ∧ t.dev.get (Fld.CLP_x_STATUS.AGC_FROZEN x) = 1 ∧
      t.dev.get (Fld.CLP_x_STATUS.INV x) = 0
    let captures : Prop := s.dev.getInt (Fld.CLP_x_RSSI.LAST x) + 2 * (s.dev.get (Fld.CLP_x_RX_CTL.CAP_THR x) : Int) ≤ pw
    (s.dev.clpRxState x = 1 → ∃ t, exec (.preambleDetect x ph pw g) s = .next t ∧ takes t ∧ Frame [Reg.CLP_x_STATUS x] s t) ∧
    (s.dev.clpRxState x = 2 ∨ s.dev.clpRxState x = 3 → phaseNear ph (s.dev.cp x).phase = true →
      exec (.preambleDetect x ph pw g) s = .next s) ∧
    (s.dev.clpRxState x = 2 → phaseNear ph (s.dev.cp x).phase = false →
      ∃ t, exec (.preambleDetect x ph pw g) s = .next t ∧ takes t ∧
        t.dev.get (Fld.CLP_x_RX_CNT3.RESTART x) = min (s.dev.get (Fld.CLP_x_RX_CNT3.RESTART x) + 1) 0xFFFF) ∧
    (s.dev.clpRxState x = 3 → phaseNear ph (s.dev.cp x).phase = false → captures →
      ∃ t, exec (.preambleDetect x ph pw g) s = .next t ∧ takes t ∧ Arising (fCLP x 1) t.dev ∧
        t.dev.bitAt (Reg.CLP_x_INT_STATUS x) 2 = true ∧ t.dev.get (Fld.CLP_x_RSSI.GAIN x) = min g 600 ∧
        t.dev.get (Fld.CLP_x_RX_CNT2.CAPTURED x) = min (s.dev.get (Fld.CLP_x_RX_CNT2.CAPTURED x) + 1) 0xFFFF) ∧
    (s.dev.clpRxState x = 3 → phaseNear ph (s.dev.cp x).phase = false → ¬captures →
      ∃ t, exec (.preambleDetect x ph pw g) s = .next t ∧ t.dev.clpRxState x = 3 ∧ Arising (fCLP x 1) t.dev ∧
        t.dev.get (Fld.CLP_x_RX_CNT2.LOST x) = min (s.dev.get (Fld.CLP_x_RX_CNT2.LOST x) + 1) 0xFFFF ∧
        Frame [Reg.CLP_x_RX_CNT2 x, Reg.CLP_x_INT_STATUS x] s t) ∧
    (s.dev.clpRxState x = 0 → exec (.preambleDetect x ph pw g) s = .next s)) ∧
  (∀ (s : State) (x : Port) (w : BitVec 32) (rssi : Int), Working 12 s →
    let errs (v : BitVec 32) : Nat := ((List.range 32).filter (fun i => (w ^^^ v).getLsbD i)).length
    (s.dev.clpRxState x ≠ 2 → exec (.syncWordFound x w rssi) s = .next s ∧ exec (.syncTmo x) s = .next s) ∧
    (s.dev.clpRxState x = 2 →
      (2 < errs 0x5E39B2C7 → 2 < errs (~~~0x5E39B2C7) → exec (.syncWordFound x w rssi) s = .next s) ∧
      (errs 0x5E39B2C7 ≤ 2 ∨ errs (~~~0x5E39B2C7) ≤ 2 → ∃ t, exec (.syncWordFound x w rssi) s = .next t ∧ t.dev.clpRxState x = 3 ∧
        t.dev.getInt (Fld.CLP_x_RSSI.LAST x) = clampInt (-320) 0 rssi ∧
        (t.dev.get (Fld.CLP_x_STATUS.INV x) = 1 ↔ errs (~~~0x5E39B2C7) ≤ 2) ∧
        (t.dev.cp x).syncTime = s.dev.tc - bitTimes 32 ∧ Frame [Reg.CLP_x_STATUS x, Reg.CLP_x_RSSI x] s t) ∧
      (∃ t, exec (.syncTmo x) s = .next t ∧ t.dev.clpRxState x = 1 ∧ t.dev.bitAt (Reg.CLP_x_INT_STATUS x) 2 = true ∧
        t.dev.get (Fld.CLP_x_STATUS.AGC_FROZEN x) = 0 ∧
        t.dev.get (Fld.CLP_x_RX_CNT1.SYNC_TMO x) = min (s.dev.get (Fld.CLP_x_RX_CNT1.SYNC_TMO x) + 1) 0xFFFF))) ∧
  (∀ (s : State) (x : Port) (hd crc : BitVec 16) (pl : List Byte) (taps : List Int), Working 12 s →
    ∀ inv, inv = s.dev.isSet (Fld.CLP_x_STATUS.INV x) → ∀ h, h = (if inv then ~~~hd else hd) →
    ∀ c, c = (if inv then ~~~crc else crc) → ∀ l, l = sliceBytes (if inv then pl.map (fun b => ~~~b) else pl) 0 (h.toNat % 128) →
    (s.dev.clpRxState x ≠ 3 → exec (.packetReceived x hd pl crc taps) s = .next s) ∧
    (s.dev.clpRxState x = 3 → 3 < h.toNat / 4096 ∨ 64 < h.toNat % 128 →
      ∃ t, exec (.packetReceived x hd pl crc taps) s = .next t ∧ t.dev.clpRxState x = 1 ∧ Arising (fCLP x 0) t.dev ∧
        t.dev.get (Fld.CLP_x_RX_CNT1.HDR_ERR x) = min (s.dev.get (Fld.CLP_x_RX_CNT1.HDR_ERR x) + 1) 0xFFFF ∧
        (t.dev.cp x).rxFifo = (s.dev.cp x).rxFifo) ∧
    (s.dev.clpRxState x = 3 → h.toNat / 4096 ≤ 3 → h.toNat % 128 ≤ 64 → crc16 (beBytes 2 h.toNat ++ l) ≠ c →
      ∃ t, exec (.packetReceived x hd pl crc taps) s = .next t ∧ t.dev.clpRxState x = 1 ∧ Arising (fCLP x 0) t.dev ∧
        t.dev.get (Fld.CLP_x_RX_CNT0.CRC_ERR x) = min (s.dev.get (Fld.CLP_x_RX_CNT0.CRC_ERR x) + 1) 0xFFFF ∧
        (t.dev.cp x).rxFifo = (s.dev.cp x).rxFifo) ∧
    (s.dev.clpRxState x = 3 → h.toNat / 4096 ≤ 3 → h.toNat % 128 ≤ 64 → crc16 (beBytes 2 h.toNat ++ l) = c →
      ∃ t, exec (.packetReceived x hd pl crc taps) s = .next t ∧ t.dev.clpRxState x = 1 ∧ t.dev.get (Fld.CLP_x_STATUS.AGC_FROZEN x) = 0 ∧
        t.dev.get (Fld.CLP_x_RX_CNT0.ACCEPTED x) = min (s.dev.get (Fld.CLP_x_RX_CNT0.ACCEPTED x) + 1) 0xFFFF ∧
        ((s.dev.cp x).rxFifo.length < 16 → t.dev.bitAt (Reg.CLP_x_INT_STATUS x) 0 = true ∧
          ∃ e, (t.dev.cp x).rxFifo = (s.dev.cp x).rxFifo ++ [e] ∧ e.packet = { type := h.toNat / 4096, payload := l } ∧ e.inv = inv ∧
            e.time = (s.dev.cp x).syncTime) ∧
        (16 ≤ (s.dev.cp x).rxFifo.length → (t.dev.cp x).rxFifo = (s.dev.cp x).rxFifo ∧ Arising (fCLP x 5) t.dev ∧
          t.dev.get (Fld.CLP_x_RX_CNT3.FIFO_DROP x) = min (s.dev.get (Fld.CLP_x_RX_CNT3.FIFO_DROP x) + 1) 0xFFFF) ∧
        (h.toNat / 4096 = 2 → s.dev.isSet (Fld.CLP_x_CTL.ECHO_EN x) = true → l.head? = some 0 → (s.dev.cp x).echo = none →
          (t.dev.cp x).echo = some (1 :: l.drop 1)) ∧
        (∀ i, h.toNat / 4096 = 1 → l.length = 12 → s.dev.hbEntry x l = some i → t.dev.bitAt (Reg.CLP_x_INT_STATUS x) 1 = true ∧
          t.dev.get (Fld.CLP_x_PT_HB.BEATS x i) = min (s.dev.get (Fld.CLP_x_PT_HB.BEATS x i) + 1) (2 ^ 32 - 1)) ∧
        (h.toNat / 4096 = 0 → l.length = 16 → (∀ i : Fin 16, s.dev.ptValid x i = false) →
          t.dev.ptValid x 0 = true ∧ t.dev.reg64 (Reg.CLP_x_PT_DIGEST_LO x 0) = beAt l 0 8 ∧
          t.dev.bitAt (Reg.CLP_x_INT_STATUS x) 3 = true))) ∧
  (∀ (s : State) (x : Port) (i : Fin 16), Working 12 s →
    (s.dev.ptValid x i = false → exec (.partnerExpiry x i) s = .next s) ∧
    (s.dev.ptValid x i = true → ∃ t, exec (.partnerExpiry x i) s = .next t ∧ t.dev.ptValid x i = false ∧ Arising (fCLP x 2) t.dev ∧
      t.dev.bitAt (Reg.CLP_x_INT_STATUS x) 3 = true ∧ Frame [Reg.CLP_x_PT_STATUS x i, Reg.CLP_x_INT_STATUS x] s t))

/-! ### Horug chain -/

/-- The chain (R453–R464): a link sends whole frames with their CRC and counts bad ones; HELLOs fall due; a link without a HELLO has no
neighbour; time follows the upstream neighbour; remote events act in the order of their instants; a chain SYNC waits for its own;
forwarded transactions go out, complete, time out, and are executed here. -/
def Obligations.HorugLinksEventsTimeAndForwarding : Prop :=
  (∀ (s : State) (k : Fin 2) (odu : List OduCell), Working 14 s →
    (s.dev.linkOn k = false ∨ s.dev.linkLanes k = [] → exec (.linkFrameTx k odu) s = .next s) ∧
    (s.dev.linkOn k = true → s.dev.linkLanes k ≠ [] →
      ∃ t, exec (.linkFrameTx k odu) s = .next t ∧ Frame [] s t ∧ (t.dev.link k).fseq = ((s.dev.link k).fseq + 1) % 2 ^ 32 ∧
        ∃ l b, t.dev.chn.sent = s.dev.chn.sent ++ [(k.val, l, b)] ∧ l ∈ s.dev.linkLanes k ∧ b.length = 1088 ∧
          beAt b 0 2 = 0x4C93 ∧ beAt b 4 4 = (s.dev.link k).fseq % 2 ^ 32 ∧ beAt b 1084 4 = (crc32c (b.take 1084)).toNat)) ∧
  (∀ (s : State) (k : Fin 2) (b : List Byte), Working 14 s →
    (s.dev.linkLanes k = [] → exec (.linkFrameRx k b) s = .next s) ∧
    (s.dev.linkLanes k ≠ [] → b.length ≠ 1088 ∨ (crc32c (b.take 1084)).toNat ≠ beAt b 1084 4 →
      ∃ t, exec (.linkFrameRx k b) s = .next t ∧ Arising 456 t.dev ∧
        t.dev.get (Fld.CHN_CNT.CRC k) = min (s.dev.get (Fld.CHN_CNT.CRC k) + 1) 0xFFF ∧ Frame [Reg.CHN_CNT k] s t) ∧
    (s.dev.linkLanes k ≠ [] → b.length = 1088 → (crc32c (b.take 1084)).toNat = beAt b 1084 4 → beAt b 0 2 ≠ 0x4C93 →
      exec (.linkFrameRx k b) s = .next s) ∧
    (s.dev.linkLanes k ≠ [] → b.length = 1088 → (crc32c (b.take 1084)).toNat = beAt b 1084 4 → beAt b 0 2 = 0x4C93 →
      ∃ t, exec (.linkFrameRx k b) s = .next t ∧ SameMemory s t ∧ (t.dev.link k).offset =
        ((s.dev.tc : Int) - (beAt b 12 6 * tcSecond + beAt b 8 4 * tcNs : Nat)) * 1000 / (2 ^ 40 : Nat))) ∧
  (∀ (s : State), Working 14 s →
    ∃ t, exec .horugHelloTx s = .next t ∧ Frame [] s t ∧ ∀ k : Fin 2,
      t.dev.link k = if s.dev.linkOn k then { s.dev.link k with helloDue := true } else s.dev.link k) ∧
  (∀ (s : State) (k : Fin 2) (e : ChainError), Working 14 s →
    (∃ t, exec (.linkHelloTimeout k) s = .next t ∧
      SameMemory s t ∧ t.dev.get (Fld.CHN_LINK_STATUS.NB_VALID k) = 0 ∧
        t.dev.get (Fld.CHN_LINK_STATUS.RUN k) = 0 ∧ (Present (448 + k) t.dev ↔ s.dev.linkOn k = true) ∧
        (s.dev.get (Fld.CHN_LINK_STATUS.RUN k) = 1 → t.dev.bitAt Reg.CHN_INT_STATUS 0 = true)) ∧
    (∃ t, exec (.chnErrorClear e) s = .next t ∧ SameMemory s t ∧
      (e = .headConflict → t.dev.get Fld.CHN_STATUS.HEAD_CONFLICT = 0 ∧ ¬ Present 450 t.dev) ∧
      (e = .cable → t.dev.get Fld.CHN_STATUS.CABLE_ERR = 0 ∧ ¬ Present 451 t.dev) ∧
      (∀ p, e = .size → s.dev.wantedPos = some p → p ≤ 3 → s.dev.get Fld.CHN_STATUS.HEAD_CONFLICT = 0 →
        s.dev.get Fld.CHN_STATUS.CABLE_ERR = 0 → t.dev.get Fld.CHN_STATUS.SIZE_ERR = 0 ∧ ¬ Present 452 t.dev ∧
        t.dev.posValid = true ∧ t.dev.chainPos = p))) ∧
  (∀ (s : State), Working 14 s →
    (s.dev.get Fld.CHN_CTL.TIME_FOLLOW = 0 ∨ s.dev.posValid = false ∨ s.dev.chainPos = 0 → exec .timeAlign s = .next s) ∧
    (∀ k th, s.dev.get Fld.CHN_CTL.TIME_FOLLOW = 1 → s.dev.posValid = true → s.dev.chainPos ≠ 0 → s.dev.upstream = some k →
      s.dev.linkRun k = true → s.dev.theta k = th →
      ∃ t, exec .timeAlign s = .next t ∧ Frame [Reg.CHN_TOFF] s t ∧
        (t.dev.reg Reg.CHN_TOFF).toInt = clampInt (-2147483648) 2147483647 th ∧
        (1000000 < th.natAbs → t.dev.tc = tcSat ((s.dev.tc : Int) + th * (2 ^ 40 : Nat) / 1000) ∧ t.dev.tim.pull = s.dev.tim.pull) ∧
        (th.natAbs ≤ 1000000 → t.dev.tc = s.dev.tc ∧ t.dev.tim.pull = th * (2 ^ 40 : Nat) / 1000 ∧
          (Present 421 t.dev ↔ t.dev.tim.pull ≠ 0)))) ∧
  (∀ (s : State), Working 14 s →
    (s.dev.chn.waiting = [] → exec .chainEdgeApply s = .next s) ∧
    (∀ w, s.dev.nextChainWait = some w → w ∈ s.dev.chn.waiting ∧ (∀ v ∈ s.dev.chn.waiting, w.time ≤ v.time) ∧
      ∃ t, exec .chainEdgeApply s = .next t ∧ t.dev.chn.waiting = removeFirst w s.dev.chn.waiting ∧ SameMemory s t ∧
        (w.event.line < 8 → (Sparse.get 0 t.dev.chainRemote w.event.orig).getLsbD w.event.line = w.event.rise) ∧
        (w.event.line = 8 → t.dev.tim.syncDue = (s.dev.tim.syncDue || s.dev.isSet Fld.TIM_SYNC_CTL.SRC)))) ∧
  (∀ (s : State) (req : Requester), Working 14 s →
    (s.dev.reaches req 14 = true → s.dev.get Fld.CHN_CTL.ORIG = 2 →
      ∃ t e, exec (.chainSyncOriginate (some req)) s = .next t ∧ Frame [] s t ∧ e.line = 8 ∧ e.origin = s.dev.tc ∧
        t.dev.chn.waiting = s.dev.chn.waiting ++
          [{ event := e, time := s.dev.tc + ticksTime (s.dev.get Fld.CHN_DLY.TICKS), link := none }] ∧
        t.dev.chainOut = if s.dev.posValid then s.dev.chainOut ++ [(8, true, s.dev.tc)] else s.dev.chainOut) ∧
    (s.dev.reaches req 14 = false ∨ s.dev.get Fld.CHN_CTL.ORIG ≠ 2 → exec (.chainSyncOriginate (some req)) s = .next s) ∧
    (s.dev.get Fld.CHN_CTL.ORIG = 1 → s.dev.tim.syncIn.level = true →
      ∃ t e, exec (.chainSyncOriginate none) s = .next t ∧ Frame [] s t ∧ e.event.line = 8 ∧
        t.dev.chn.waiting = s.dev.chn.waiting ++ [e]) ∧
    (s.dev.get Fld.CHN_CTL.ORIG ≠ 1 ∨ s.dev.tim.syncIn.level = false → exec (.chainSyncOriginate none) s = .next s)) ∧
  (∀ (s : State) (req : Requester) (wr : Bool) (r dst : Nat), Writable req 14 s → req.code = r →
    s.dev.get (Fld.CHN_FWD_ADDR.DST r) = dst →
    (s.dev.chn.pendingTag.any (fun e => e.1 == r) = true → exec (.fwdGo req wr) s = .next s) ∧
    (s.dev.chn.pendingTag.any (fun e => e.1 == r) = false → s.dev.routeTo 1 dst = none →
      ∃ t, exec (.fwdGo req wr) s = .next t ∧ t.dev.get (Fld.CHN_FWD_CTL.GO r) = 0 ∧ t.dev.get (Fld.CHN_FWD_CTL.DONE r) = 1 ∧
        t.dev.get (Fld.CHN_FWD_CTL.STATUS r) = 1 ∧ t.dev.bitAt Reg.CHN_INT_STATUS 2 = true ∧
        Frame [Reg.CHN_FWD_CTL r, Reg.CHN_INT_STATUS] s t) ∧
    (∀ l, s.dev.chn.pendingTag.any (fun e => e.1 == r) = false → s.dev.routeTo 1 dst = some l →
      ∃ t, exec (.fwdGo req wr) s = .next t ∧ t.dev.get (Fld.CHN_FWD_CTL.GO r) = 1 ∧ Frame [Reg.CHN_FWD_CTL r] s t ∧
        t.dev.chn.tag = (s.dev.chn.tag + 1) % 65536 ∧ Sparse.get 0 t.dev.chn.pendingTag r = s.dev.chn.tag ∧
        t.dev.chn.ctrlOut = s.dev.chn.ctrlOut ++ [(dst, { op := if wr then 2 else 1, req := r, tag := s.dev.chn.tag, addr := s.dev.get (Fld.CHN_FWD_ADDR.ADDR r), data := s.dev.reg (Reg.CHN_FWD_DATA r) })])) ∧
  (∀ (s : State) (req : Requester), Working 14 s →
    (s.dev.chn.done = [] → exec .fwdComplete s = .next s) ∧
    (∀ x rest, s.dev.chn.done = x :: rest →
      (s.dev.chn.pendingTag.any (fun e => e.1 == x.req && e.2 == x.tag) = false →
        ∃ t, exec .fwdComplete s = .next t ∧ t.dev = { s.dev with chn := { s.dev.chn with done := rest } }) ∧
      (s.dev.chn.pendingTag.any (fun e => e.1 == x.req && e.2 == x.tag) = true →
        ∃ t, exec .fwdComplete s = .next t ∧ t.dev.chn.done = rest ∧ (∀ e ∈ t.dev.chn.pendingTag, e.1 ≠ x.req) ∧
          t.dev.get (Fld.CHN_FWD_CTL.DONE x.req) = 1 ∧ t.dev.get (Fld.CHN_FWD_CTL.STATUS x.req) = x.status % 4 ∧
          (x.op = 3 → t.dev.reg (Reg.CHN_FWD_DATA x.req) = x.data) ∧ t.dev.bitAt Reg.CHN_INT_STATUS 2 = true ∧
          Frame [Reg.CHN_FWD_CTL x.req, Reg.CHN_FWD_DATA x.req, Reg.CHN_INT_STATUS] s t)) ∧
    (s.dev.chn.pendingTag.any (fun e => e.1 == req.code) = true →
      ∃ t, exec (.fwdTimeout req) s = .next t ∧ t.dev.get (Fld.CHN_FWD_CTL.DONE req.code) = 1 ∧
        t.dev.get (Fld.CHN_FWD_CTL.STATUS req.code) = 2 ∧ Arising 454 t.dev ∧
        Frame [Reg.CHN_FWD_CTL req.code, Reg.CHN_INT_STATUS] s t) ∧
    (s.dev.chn.pendingTag.any (fun e => e.1 == req.code) = false → exec (.fwdTimeout req) s = .next s)) ∧
  (∀ (s : State) (o : Fin 4), Working 14 s →
    (s.dev.chn.ctrlIn = [] → exec (.fwdExecute o) s = .next s) ∧
    (∀ x rest, s.dev.chn.ctrlIn = x :: rest →
      (s.dev.restructuring 7 = false → s.dev.reaches .pcie (x.addr / 0x100000) = true →
        ∃ t, exec (.fwdExecute o) s = .next t ∧ t.dev.rdata = s.dev.rdata ∧ t.pending = s.pending ∧
          ∃ pre y, t.dev.chn.ctrlOut = pre ++ [(o.val, y)] ∧ y.op = x.op + 2 ∧ y.req = x.req ∧ y.tag = x.tag ∧ y.status = 0) ∧
      (s.dev.restructuring 7 = true → ∃ t, exec (.fwdExecute o) s = .next t ∧ Frame [] s t ∧ t.dev.chn.ctrlIn = rest ∧
        t.dev.chn.ctrlOut = if x.op = 1 then s.dev.chn.ctrlOut ++ [(o.val, { x with op := 3, data := 0, status := 0 })]
          else s.dev.chn.ctrlOut) ∧
      (s.dev.restructuring 7 = false → s.dev.reaches .pcie (x.addr / 0x100000) = false →
        ∃ t, exec (.fwdExecute o) s = .next t ∧ t.dev = { s.dev with chn := { s.dev.chn with ctrlIn := rest } })))

/-! ### Boot, firmware and identity -/

/-- Boot and the watchdog (R472–R477, R484): the ROM boots the preferred Lyfate bank, the other one as a fallback, or waits for recovery;
Lyfate seeds the DRBG and writes the identity digest; application firmware runs or the cores are held; only the key kicks the watchdog,
and its expiry is reported while it is enabled. -/
def Obligations.BootStagesAndWatchdog : Prop :=
  (∀ (d : Dev) (ty p : Nat), p = d.preferredBank ty →
    d.bootBank ty = if d.sec.fuses.fwCheck ty (d.bankImage ty p) = 0 then some (p, false)
      else if d.sec.fuses.fwCheck ty (d.bankImage ty (1 - p)) = 0 then some (1 - p, true) else none) ∧
  (∀ (s : State), Running s →
    (s.dev.stage ≠ 0 → exec .bootRomFetch s = .next s) ∧
    (s.dev.stage = 0 → s.dev.straps.bootSel = 1 →
      ∃ t, exec .bootRomFetch s = .next t ∧ t.dev.stage = 6 ∧ t.dev.get Fld.SEC_BOOT_STATUS.RECOVERY = 1 ∧
        t.dev.get Fld.SEC_BOOT_STATUS.BOOT_SEL = 1 ∧ Frame [Reg.SEC_BOOT_STATUS] s t) ∧
    (s.dev.stage = 0 → s.dev.straps.bootSel ≠ 1 →
      ∃ t, exec .bootRomFetch s = .next t ∧ Frame [Reg.SEC_BOOT_STATUS, Reg.SEC_LYF_VER] s t ∧
        match s.dev.bootBank 1 with
        | some (b, fallback) => t.dev.stage = 1 ∧ t.dev.get Fld.SEC_BOOT_STATUS.LYF_BANK = b % 2 ∧
            t.dev.reg Reg.SEC_LYF_VER = BitVec.ofNat 32 (fwVersion (s.dev.bankImage 1 b)) ∧
            (fallback = true → t.dev.get Fld.SEC_BOOT_STATUS.LYF_FALLBACK = 1 ∧ Present 480 t.dev)
        | none => t.dev.stage = 6 ∧ t.dev.get Fld.SEC_BOOT_STATUS.RECOVERY = 1 ∧
            t.dev.get Fld.SEC_BOOT_STATUS.LYF_FALLBACK = 1 ∧ Present 480 t.dev)) ∧
  (∀ (s : State), Running s →
    (s.dev.stage ≠ 1 → exec .trustedBootComplete s = .next s) ∧
    (s.dev.stage = 1 → ∃ t, exec .trustedBootComplete s = .next t ∧ t.dev.stage = 2 ∧
      (∀ x : Port, t.dev.reg64 (Reg.CLP_x_ID_LO x) = beNat ((Config.sha384 Config.deviceCert).take 8) % 2 ^ 64) ∧
      t.dev.get Fld.CRY_STATUS.DRBG_OK = (if s.dev.live? 485 then s.dev.get Fld.CRY_STATUS.DRBG_OK else 1))) ∧
  (∀ (s : State), Running s →
    ((s.dev.stage ≠ 2 ∧ s.dev.stage ≠ 3) ∨ s.dev.straps.bootSel = 1 → exec .appLoadDone s = .next s) ∧
    (s.dev.stage = 2 ∨ s.dev.stage = 3 → s.dev.straps.bootSel = 2 →
      ∃ t, exec .appLoadDone s = .next t ∧ t.dev.stage = 5 ∧ Frame [Reg.SEC_BOOT_STATUS] s t) ∧
    (s.dev.stage = 2 ∨ s.dev.stage = 3 → s.dev.straps.bootSel ≠ 1 → s.dev.straps.bootSel ≠ 2 →
      ∃ t, exec .appLoadDone s = .next t ∧ Frame [Reg.SEC_BOOT_STATUS, Reg.SEC_APP_VER] s t ∧
        match s.dev.bootBank 2 with
        | some (b, fallback) => t.dev.stage = 4 ∧ t.dev.get Fld.SEC_BOOT_STATUS.APP_BANK = b % 2 ∧
            (fallback = true → t.dev.get Fld.SEC_BOOT_STATUS.APP_FALLBACK = 1 ∧ Present 488 t.dev)
        | none => t.dev.stage = 5 ∧ t.dev.get Fld.SEC_BOOT_STATUS.APP_FALLBACK = 1 ∧ Present 488 t.dev ∧ Present 487 t.dev)) ∧
  (∀ (s : State) (req : Requester) (key : BitVec 16), Writable req 15 s →
    (key = 0xA5C3 → ∃ t, exec (.wdtKick req key) s = .next t ∧ t.dev.sec.kick = s.dev.ticks ∧ ¬ Present 481 t.dev ∧ Frame [] s t) ∧
    (key ≠ 0xA5C3 → exec (.wdtKick req key) s = .next s)) ∧
  (∀ (s : State), Running s →
    (s.dev.get Fld.SEC_WDT_CTL.EN = 1 → s.dev.sec.kick + s.dev.get Fld.SEC_WDT_CTL.PERIOD * 1120000 ≤ s.dev.ticks →
      ∃ t, exec .wdtExpiry s = .next t ∧ Present 481 t.dev ∧
      t.dev.bitAt Reg.SEC_INT_STATUS 8 = true ∧ Frame [Reg.SEC_INT_STATUS] s t) ∧
    (s.dev.get Fld.SEC_WDT_CTL.EN = 0 ∨ s.dev.ticks < s.dev.sec.kick + s.dev.get Fld.SEC_WDT_CTL.PERIOD * 1120000 → exec .wdtExpiry s = .next s))

/-- The mailbox (R217, R219, R485–R490, R494, R498, R499): a command acts only on its own waiting request; one that is refused at once
gets its status; information, certificates, reports, challenges and key exchanges are replied; a key is loaded into an inactive slot or
refused with its code, and erased with what its flow then sends; completing writes the reply, clears BUSY and
sets DONE, or only clears BUSY where the reply is to be discarded. -/
def Obligations.MailboxServesRequests : Prop :=
  (∀ (s : State) (c : Fin 5) (burnt : Bool) (img : Option (List Byte)) (cmd : Nat) (i : Instr), Running s →
    (cmd, i) ∈ [(0x01, Instr.getInfo c), (0x02, .getCert c), (0x03, .attest c), (0x04, .getChallenge c), (0x10, .kekExchange c),
      (0x11, .keyLoad c), (0x12, .keyErase c), (0x20, .enrollKey c burnt), (0x21, .revokeKey c burnt), (0x22, .setCustOnly c burnt),
      (0x23, .advanceSecver c burnt), (0x40, .debugUnlock c), (0x50, .recover c img)] →
    ((s.dev.chan c).req = none ∨ (s.dev.chan c).reply ≠ none ∨ s.dev.mbServes c = false → exec i s = .next s) ∧
    (∀ x, (s.dev.chan c).req = some x → mbCmd x ≠ cmd → exec i s = .next s) ∧
    (∀ x st, (s.dev.chan c).req = some x → (s.dev.chan c).reply = none → s.dev.mbServes c = true → mbCmd x = cmd →
      s.dev.mbRefusal x = some st → ∃ t, exec i s = .next t ∧ Replied c st [] t ∧ Frame [] s t)) ∧
  (∀ (d : Dev) (x : List Byte), d.stage ≠ 6 →
    d.mbRefusal x = match mbSize (mbCmd x) with | none => some 0x20 | some n => if mbLen x = n then none else some 0x21) ∧
  (∀ (s : State) (c : Fin 5) (x : List Byte), Serving c 0x01 x s →
    ∃ t p, exec (.getInfo c) s = .next t ∧ Replied c 0 p t ∧ Frame [] s t ∧ p.length = 24 ∧
      leAt p 0 4 = (s.dev.reg Reg.SEC_LYF_VER).toNat ∧ leAt p 16 8 = Config.dieId.toNat) ∧
  (∀ (s : State) (c : Fin 5) (x : List Byte), Serving c 0x02 x s → ∀ p, p = sliceBytes x 8 4 →
    ∀ cert, cert = (if leAt p 0 1 = 0 then Config.deviceCert else Config.caCert) →
    ∃ t, exec (.getCert c) s = .next t ∧ Frame [] s t ∧ (t.dev.chan c).reply =
      if 1 < leAt p 0 1 ∨ cert.length < leAt p 2 2 then some (0x24, [])
      else some (0, leBytes 2 cert.length ++ [0, 0] ++ (cert.drop (leAt p 2 2)).take 1008)) ∧
  (∀ (s : State) (c : Fin 5) (x : List Byte), s.dev.drbgOk = false →
    (Serving c 0x03 x s → ∃ t, exec (.attest c) s = .next t ∧ Replied c 0x0A [] t ∧ Frame [] s t) ∧
    (Serving c 0x04 x s → ∃ t, exec (.getChallenge c) s = .next t ∧ Replied c 0x0A [] t ∧ Frame [] s t) ∧
    (Serving c 0x10 x s → ∃ t, exec (.kekExchange c) s = .next t ∧ Replied c 0x0A [] t ∧ Frame [] s t)) ∧
  (∀ (s : State) (c : Fin 5) (x : List Byte), s.dev.drbgOk = true →
    (Serving c 0x03 x s → ∃ t sig, exec (.attest c) s = .next t ∧ sig.length = 96 ∧ Frame [] s t ∧
      ∃ r, Replied c 0 (r ++ sig) t ∧ r.length = 544 ∧ sliceBytes r 16 32 = sliceBytes x 8 32 ∧ leAt r 8 8 = Config.dieId.toNat) ∧
    (Serving c 0x04 x s → ∃ t l, exec (.getChallenge c) s = .next t ∧ l.length = 32 ∧ Replied c 0 l t ∧
      (t.dev.chan c).challenge = some l ∧ Frame [] s t) ∧
    (Serving c 0x10 x s → ∃ t, exec (.kekExchange c) s = .next t ∧ Frame [] s t ∧
      match Config.ecdh s.dev.fresh (sliceBytes x 8 96) with
      | none => Replied c 0x21 [] t ∧ (t.dev.chan c).kek = (s.dev.chan c).kek
      | some (qd, z) => (∃ p, Replied c 0 p t ∧ p.length = 192 ∧ p.take 96 = sliceBytes qd 0 96) ∧
          (t.dev.chan c).kek = some ((Config.sha384 ([0, 0, 0, 1] ++ z ++
            [0x50, 0x42, 0x36, 0x34, 0x33, 0x32, 0x2D, 0x4B, 0x45, 0x4B] ++ beBytes 8 Config.dieId.toNat ++ sliceBytes x 8 96 ++
            qd)).take 32))) ∧
  (∀ (s : State) (c : Fin 5) (x : List Byte), Serving c 0x11 x s → ∀ p, p = sliceBytes x 8 44 → ∀ k, k = leAt p 0 2 →
    let refused (st : Nat) : Prop := ∃ t, exec (.keyLoad c) s = .next t ∧ Replied c st [] t ∧ Frame [] s t ∧ t.dev.cry.slots = s.dev.cry.slots
    (s.dev.get Fld.SEC_BOOT_STATUS.DEBUG = 2 → refused 1 ∧ ∃ t, exec (.keyLoad c) s = .next t ∧ Arising 204 t.dev) ∧
    (s.dev.get Fld.SEC_BOOT_STATUS.DEBUG ≠ 2 → 511 < k → refused 3) ∧
    (s.dev.get Fld.SEC_BOOT_STATUS.DEBUG ≠ 2 → k ≤ 511 → s.dev.slotActive k = true ∨ s.dev.restructuring 3 = true →
      refused 1 ∧ ∃ t, exec (.keyLoad c) s = .next t ∧ Arising 204 t.dev) ∧
    (s.dev.get Fld.SEC_BOOT_STATUS.DEBUG ≠ 2 → k ≤ 511 → s.dev.slotActive k = false → s.dev.restructuring 3 = false →
      (s.dev.drbgOk = false → refused 10) ∧
      (s.dev.drbgOk = true →
        match (s.dev.chan c).kek.bind (fun q => Config.keyUnwrap q (sliceBytes p 4 40)) with
        | none => refused 11
        | some key => ∃ t, exec (.keyLoad c) s = .next t ∧ Replied c 0 [] t ∧ (t.dev.keySlot k).key = key ∧
            (t.dev.keySlot k).lastCount = none ∧ t.dev.slotState k = 1 ∧ t.dev.slotCount k = 0 ∧
            t.dev.get (Fld.CRY_KS_STATE.ROLE k) = leAt p 2 1 % 2 ∧ t.dev.get (Fld.CRY_KS_STATE.WARN k) = 0 ∧
            Frame [Reg.CRY_KS_STATE k, Reg.CRY_KS_CNT_LO k, Reg.CRY_KS_CNT_LO k + 4, Reg.CRY_INT_STATUS] s t))) ∧
  (∀ (s : State) (c : Fin 5) (x : List Byte), Serving c 0x12 x s → ∀ k, k = leAt x 8 2 →
    (511 < k → ∃ t, exec (.keyErase c) s = .next t ∧ Replied c 3 [] t ∧ Frame [] s t) ∧
    (k ≤ 511 → ∃ t, exec (.keyErase c) s = .next t ∧ Replied c 0 [] t ∧ t.dev.keySlot k = {} ∧ t.dev.slotState k = 0 ∧
      t.dev.slotCount k = 0 ∧ t.dev.slotActive k = false ∧ t.dev.get (Fld.CRY_KS_STATE.WARN k) = 0 ∧
      (s.dev.slotState k ≠ 0 → t.dev.bitAt Reg.CRY_INT_STATUS 0 = true) ∧
      (∀ f, s.dev.encFlows[k / 2]? = some f →
        (s.dev.get (Fld.CRY_KS_STATE.RX_ACT k) = 1 → t.dev.get (Fld.CRY_FLOW_STATUS.RX_LCK f) = 1 ∧ Present 198 t.dev) ∧
        (s.dev.get (Fld.CRY_KS_STATE.TX_ACT k) = 1 → t.dev.get (Fld.CRY_FLOW_STATUS.TX_SLOT f) = 2)) ∧
      (s.dev.encFlows[k / 2]? = none →
        Frame [Reg.CRY_KS_STATE k, Reg.CRY_KS_CNT_LO k, Reg.CRY_KS_CNT_LO k + 4, Reg.CRY_INT_STATUS] s t))) ∧
  (∀ (s : State) (c : Fin 5) (x p : List Byte) (st : Nat), Running s → (s.dev.chan c).req = some x →
    (s.dev.chan c).reply = some (st, p) →
    ∃ t, exec (.mbComplete c) s = .next t ∧ SameMemory s t ∧ (t.dev.chan c).req = none ∧ (t.dev.chan c).reply = none ∧
      t.dev.get (Fld.SEC_MB_STATUS.BUSY c) = 0 ∧ (st = 0x2B → Arising 486 t.dev) ∧
      (s.dev.sec.flashBusy = some c.val → t.dev.get Fld.SEC_FLASH_STATUS.BUSY = 0 ∧ t.dev.bitAt Reg.SEC_INT_STATUS 7 = true) ∧
      ((s.dev.chan c).discard = true → t.dev.get (Fld.SEC_MB_STATUS.DONE c) = s.dev.get (Fld.SEC_MB_STATUS.DONE c)) ∧
      ((s.dev.chan c).discard = false → t.dev.get (Fld.SEC_MB_STATUS.DONE c) = 1 ∧ t.dev.bitAt Reg.SEC_INT_STATUS c = true ∧
        t.dev.reg (Reg.SEC_MB_RSP c 0) = BitVec.ofNat 32 (mbCmd x + 2 ^ 16 * p.length) ∧
        t.dev.reg (Reg.SEC_MB_RSP c 1) = BitVec.ofNat 32 (leAt x 4 4) ∧ t.dev.reg (Reg.SEC_MB_RSP c 2) = BitVec.ofNat 32 st)) ∧
  (∀ (s : State) (c : Fin 5), Running s → (s.dev.chan c).req = none → exec (.mbComplete c) s = .next s)

/-- Authorised commands, fuses and firmware (R477, R490–R493, R495–R497, R500): an AUTH block consumes the challenge and needs an
accepted signer and its signature; fuses are burnt only by an authorised command whose operands are allowed; firmware is written and
selected only when it verifies; debug access opens by levels; recovery loads an image that verifies. -/
def Obligations.FusesFirmwareDebugAndRecovery : Prop :=
  (∀ (d : Dev) (c : Fin 5) (cmd : Nat) (b auth : List Byte),
    ((d.chan c).challenge = none → d.authorise c cmd b auth = (0x23, d)) ∧
    (∀ ch, (d.chan c).challenge = some ch → ∀ sg, sg = leAt auth 0 1 →
      ((d.authorise c cmd b auth).2.chan c).challenge = none ∧ (d.authorise c cmd b auth).2.sec.fuses = d.sec.fuses ∧
      (d.authorise c cmd b auth).1 = if d.sec.fuses.accepts sg = false then 0x29
        else if Config.ecdsaVerify (d.sec.fuses.signerKey sg) (beBytes 8 Config.dieId.toNat ++ ch ++ beBytes 2 cmd ++ b)
          (sliceBytes auth 4 96) = true then 0 else 0x22)) ∧
  (∀ (s : State) (c : Fin 5) (burnt : Bool) (x : List Byte), s.dev.fuseBusy = true →
    (Serving c 0x20 x s → ∃ t, exec (.enrollKey c burnt) s = .next t ∧ Replied c 1 [] t ∧ Frame [] s t) ∧
    (Serving c 0x21 x s → ∃ t, exec (.revokeKey c burnt) s = .next t ∧ Replied c 1 [] t ∧ Frame [] s t) ∧
    (Serving c 0x22 x s → ∃ t, exec (.setCustOnly c burnt) s = .next t ∧ Replied c 1 [] t ∧ Frame [] s t) ∧
    (Serving c 0x23 x s → ∃ t, exec (.advanceSecver c burnt) s = .next t ∧ Replied c 1 [] t ∧ Frame [] s t)) ∧
  (∀ (s : State) (c : Fin 5) (burnt : Bool) (x : List Byte), s.dev.fuseBusy = false → ∀ f, f = s.dev.sec.fuses →
    let outcome (i : Instr) (st : Nat) (g : Fuses) : Prop :=
      ∃ t, exec i s = .next t ∧ Frame [] s t ∧ Replied c (if st ≠ 0 then st else if burnt then 0 else 0x26) [] t ∧
        t.dev.sec.fuses = if st = 0 ∧ burnt = true then g else f
    (Serving c 0x20 x s → ∀ k, k = leAt x 8 1 →
      ∀ a, a = (if f.enrolled = 0 ∧ k = 0 then s.dev.authoriseFirst c (sliceBytes x 108 100)
        else s.dev.authorise c 0x20 (sliceBytes x 8 100) (sliceBytes x 108 100)).1 →
      outcome (.enrollKey c burnt) (if a ≠ 0 then a else if 3 < k ∨ f.enrolled.getLsbD k = true then 0x24 else 0)
        { f with keys := Sparse.insert k (sliceBytes x 12 96) f.keys, enrolled := f.enrolled ||| (1#4 <<< k) }) ∧
    (Serving c 0x21 x s → ∀ k, k = leAt x 8 1 → ∀ a, a = (s.dev.authorise c 0x21 (sliceBytes x 8 4) (sliceBytes x 12 100)).1 →
      ∀ g, g = { f with revoked := f.revoked ||| (1#4 <<< k) } →
      outcome (.revokeKey c burnt) (if a ≠ 0 then a else if 3 < k ∨ f.keyGood k = false then 0x24
        else if f.custOnly = true ∧ g.someKey = false then 0x25 else 0) g) ∧
    (Serving c 0x22 x s → ∀ a, a = (s.dev.authorise c 0x22 [] (sliceBytes x 8 100)).1 →
      outcome (.setCustOnly c burnt) (if a ≠ 0 then a
        else if f.someKey = false ∨ (∃ y, s.dev.nextImage 2 = some y ∧ fwSigner y = 0) then 0x25 else 0)
        { f with custOnly := true }) ∧
    (Serving c 0x23 x s → ∀ a, a = (s.dev.authorise c 0x23 (sliceBytes x 8 4) (sliceBytes x 12 100)).1 → ∀ v, v = leAt x 9 1 →
      leAt x 8 1 = 0 →
      outcome (.advanceSecver c burnt) (if a ≠ 0 then a else if v ≤ f.secver ∨ 64 < v then 0x24
        else if ∃ y, s.dev.nextImage 2 = some y ∧ fwSecver y < v then 0x25 else 0) { f with secver := v }) ∧
    (Serving c 0x23 x s → ∀ a, a = (s.dev.authorise c 0x23 (sliceBytes x 8 4) (sliceBytes x 12 100)).1 → ∀ v, v = leAt x 9 1 →
      leAt x 8 1 = 1 →
      outcome (.advanceSecver c burnt) (if a ≠ 0 then a else if v ≤ f.lyfSecver ∨ 32 < v then 0x24
        else if ∃ y, s.dev.nextImage 1 = some y ∧ fwSecver y < v then 0x25 else 0) { f with lyfSecver := v })) ∧
  (∀ (s : State) (c : Fin 5) (ok : Bool) (x : List Byte), Serving c 0x30 x s → s.dev.flashLoading = false →
    ∀ ty, ty = leAt x 8 1 → ∀ bank, bank = leAt x 9 1 → ∀ src, src = leAt x 12 8 → ∀ len, len = leAt x 20 4 →
    let refused (st : Nat) : Prop := ∃ t, exec (.fwWrite c ok) s = .next t ∧ Replied c st [] t ∧ Frame [] s t ∧
      t.dev.sec.flash = s.dev.sec.flash
    (s.dev.sec.flashBusy.isSome = true → refused 1) ∧
    (s.dev.sec.flashBusy = none → (ty ≠ 1 ∧ ty ≠ 2) ∨ 1 < bank → refused 0x24) ∧
    (s.dev.sec.flashBusy = none → ty = 1 ∨ ty = 2 → bank ≤ 1 → s.dev.bankRuns ty bank = true → refused 0x2A) ∧
    (s.dev.sec.flashBusy = none → ty = 1 ∨ ty = 2 → bank ≤ 1 → s.dev.bankRuns ty bank = false → len ≤ fwBankSize ty →
      src + len ≤ hbmBytes → (∀ i < len, (src + i) / 512 ∉ s.dev.rms.bad) → ∀ img, img = s.hbm.readBytes src len →
      ∀ st, st = s.dev.sec.fuses.fwCheck ty img →
      ∃ t, exec (.fwWrite c ok) s = .next t ∧ SameMemory s t ∧ Replied c (if st ≠ 0 then st else if ok then 0 else 0x2B) [] t ∧
        (st ≠ 0 → t.dev.sec.flash = s.dev.sec.flash) ∧
        (st = 0 → ok = true → t.dev.flashRead (fwBankAt ty bank) len = img ∧ t.dev.get Fld.SEC_FLASH_STATUS.BUSY = 1))) ∧
  (∀ (s : State) (c : Fin 5) (x : List Byte), Serving c 0x31 x s → s.dev.flashLoading = false →
    (s.dev.sec.flashBusy.isSome = true → ∀ ok, ∃ t, exec (.fwSelect c ok) s = .next t ∧ Replied c 1 [] t ∧ Frame [] s t) ∧
    (∀ k n l a, s.dev.sec.flashBusy = none → leAt x 8 1 = 0xFF → leAt x 9 1 = 0xFF → s.dev.bankRecord = some (k, n, l, a) → k ≤ 1 →
      (∃ t, exec (.fwSelect c true) s = .next t ∧ Replied c 0 [] t ∧
        t.dev.bankCopy (1 - k) = some ((n + 1) % 2 ^ 32, l % 2, a % 2) ∧ t.dev.bankCopy k = s.dev.bankCopy k) ∧
      (∃ t, exec (.fwSelect c false) s = .next t ∧ Replied c 0x2B [] t ∧ t.dev.bankCopy k = s.dev.bankCopy k))) ∧
  (∀ (s : State) (c : Fin 5) (x : List Byte), Serving c 0x40 x s → ∀ level, level = leAt x 8 1 →
    ∀ a, a = (s.dev.authorise c 0x40 (sliceBytes x 8 4) (sliceBytes x 12 100)).1 →
    ∃ t, exec (.debugUnlock c) s = .next t ∧ SameMemory s t ∧
      Replied c (if a ≠ 0 then a else if 2 < level ∧ s.dev.get Fld.SEC_BOOT_STATUS.DEBUG < level then 0x24 else 0) [] t ∧
      t.dev.get Fld.SEC_BOOT_STATUS.DEBUG = (if a = 0 ∧ level ≤ 2 then max level (s.dev.get Fld.SEC_BOOT_STATUS.DEBUG)
        else s.dev.get Fld.SEC_BOOT_STATUS.DEBUG) ∧
      (a = 0 → level = 2 → s.dev.get Fld.SEC_BOOT_STATUS.DEBUG < 2 → Present 484 t.dev ∧ ∀ k : Fin 5, (t.dev.chan k).kek = none)) ∧
  (∀ (s : State) (c : Fin 5) (x : List Byte) (img : Option (List Byte)), Serving c 0x50 x s →
    ∀ ty, ty = leAt x 8 1 → ∀ may, may = (if s.dev.stage = 6 then ty == 1
      else ty == 2 && s.dev.isSet Fld.SEC_BOOT_STATUS.RECOVERY && s.dev.stage != 4) →
    let replies (st : Nat) : Prop := ∃ t, exec (.recover c img) s = .next t ∧ Replied c st [] t ∧ Frame [] s t
    (ty ≠ 1 ∧ ty ≠ 2 → replies 0x24) ∧ (ty = 1 ∨ ty = 2 → may = false → replies 0x2A) ∧
    (ty = 1 ∨ ty = 2 → may = true → img = none → replies 0x2C) ∧
    (ty = 1 ∨ ty = 2 → may = true → ∀ y, img = some y → ∀ i, i = sliceBytes y 0 (leAt x 20 4) →
      ∀ st, st = s.dev.sec.fuses.fwCheck ty i →
      ∃ t, exec (.recover c img) s = .next t ∧ Replied c st [] t ∧ SameMemory s t ∧ t.dev.str.cfgSram = i ∧
        t.dev.stage = if st ≠ 0 then s.dev.stage else if ty = 1 then 1 else 4))

/-! ### Fault handling -/

/-- The fault collector (R504–R517): an effective cause sticks only while its source is populated and enabled, and fires when STICKY or, for a
real cause, REAL was 0; a firing is counted and recorded first or sets OVF; causes of one tick are collected together; clears, arming,
injections and enables do what they say; a firing raises its message at most once in 1 µs, resets an armed chip or only marks it as
suppressed, and resets its block. -/
def Obligations.FaultsStickFireAndClear : Prop :=
  let calm (s : State) : Prop := ∀ g : Fin 576, s.dev.get (Fld.FLT_SRC.CHIP_RST g) = 0 ∧ s.dev.get (Fld.FLT_SRC.BLK_RST g) = 0
  (∀ (d : Dev) (c : Effective), c.src < 576 →
    (populated c.src = false ∨ d.get (Fld.FLT_SRC.EN c.src) = 0 → d.stick c = (false, d)) ∧
    (populated c.src = true → d.get (Fld.FLT_SRC.EN c.src) = 1 →
      ((d.stick c).1 = true ↔ d.get (Fld.FLT_SRC.STICKY c.src) = 0 ∨ (c.real = true ∧ d.get (Fld.FLT_SRC.REAL c.src) = 0)) ∧
      (d.stick c).2.get (Fld.FLT_SRC.STICKY c.src) = 1 ∧
      (d.stick c).2.get (Fld.FLT_SRC.REAL c.src) = (if c.real then 1 else d.get (Fld.FLT_SRC.REAL c.src)) ∧
      (d.stick c).2.get (Fld.FLT_SRC.INJD c.src) = (if c.inj then 1 else d.get (Fld.FLT_SRC.INJD c.src)) ∧
      RegsKept [Reg.FLT_SRC c.src] d (d.stick c).2)) ∧
  (∀ (t : Nat) (d : Dev) (f : Nat), f < 576 →
    (d.recordFiring t f).get Fld.FLT_FIRE_CNT.FIRINGS = min (d.get Fld.FLT_FIRE_CNT.FIRINGS + 1) (2 ^ 32 - 1) ∧
    (d.get Fld.FLT_FIRST.FIRST_VALID = 1 → (d.recordFiring t f).get Fld.FLT_STATUS.OVF = 1 ∧ Present 513 (d.recordFiring t f) ∧
      RegsKept [Reg.FLT_FIRE_CNT, Reg.FLT_STATUS] d (d.recordFiring t f)) ∧
    (d.get Fld.FLT_FIRST.FIRST_VALID = 0 → (d.recordFiring t f).get Fld.FLT_FIRST.FIRST_VALID = 1 ∧
      (d.recordFiring t f).get Fld.FLT_FIRST.ID = f ∧
      (d.recordFiring t f).get Fld.FLT_FIRST.INJ = d.get (Fld.FLT_SRC.INJD f) ∧
      (d.recordFiring t f).get Fld.FLT_FIRST.REAL = d.get (Fld.FLT_SRC.REAL f) ∧
      (d.recordFiring t f).reg (Reg.FLT_FIRST_TS_LO + 4) = BitVec.ofNat 32 (tNs t))) ∧
  (∀ (s : State) (f : Fin 576), Running s →
    (s.dev.arising.find? (fun e => e.1 == f.val) = none → exec (.faultCause f) s = .next s) ∧
    (∀ w, s.dev.arising.find? (fun e => e.1 == f.val) = some (f.val, w) →
      (calm s → ∃ t, exec (.faultCause f) s = .next t ∧ SameMemory s t ∧ ¬ Arising f t.dev ∧
        ∀ g : Fin 576, s.dev.arising.any (fun e => e.1 == g.val && e.2 == w) = true → populated g = true →
          s.dev.get (Fld.FLT_SRC.EN g) = 1 → t.dev.get (Fld.FLT_SRC.STICKY g) = 1 ∧ t.dev.get (Fld.FLT_SRC.REAL g) = 1 ∧
            (s.dev.get (Fld.FLT_SRC.REAL g) = 0 → s.dev.get (Fld.FLT_SRC.INT g) = 1 → s.dev.get Fld.FLT_CTL.INT_MSI = 1 →
              t.dev.msiDue = true)) ∧
      (calm s → s.dev.linesOf (0x2400 + f) = [] → (∀ e ∈ s.dev.arising, e.2 = w → e.1 = f.val) → populated f = true →
        s.dev.get (Fld.FLT_SRC.EN f) = 1 → s.dev.get (Fld.FLT_SRC.STICKY f) = 0 → s.dev.get Fld.FLT_FIRST.FIRST_VALID = 0 →
        ∃ t, exec (.faultCause f) s = .next t ∧ t.dev.get Fld.FLT_FIRST.ID = f ∧ t.dev.get Fld.FLT_FIRST.REAL = 1 ∧
          t.dev.get Fld.FLT_FIRE_CNT.FIRINGS = min (s.dev.get Fld.FLT_FIRE_CNT.FIRINGS + 1) (2 ^ 32 - 1) ∧
          t.dev.reg (Reg.FLT_FIRST_TS_LO + 4) = BitVec.ofNat 32 (tNs w) ∧
          Frame [Reg.FLT_SRC f, Reg.FLT_FIRE_CNT, Reg.FLT_FIRST, Reg.FLT_FIRST_TS_LO, Reg.FLT_FIRST_TS_LO + 4,
            Reg.FLT_FIRST_TS_LO + 8, Reg.FLT_FIRST_TS_LO + 12] s t) ∧
      ((∀ e ∈ s.dev.arising, e.2 = w → e.1 = f.val) → populated f = true → s.dev.get (Fld.FLT_SRC.EN f) = 1 →
        s.dev.get (Fld.FLT_SRC.STICKY f) = 0 → s.dev.get (Fld.FLT_SRC.CHIP_RST f) = 1 →
        (s.dev.get Fld.FLT_STATUS.CHIP_ARM = 1 → ∃ t, exec (.faultCause f) s = .next t ∧ t.dev.get Fld.FLT_RST_ID.ID = f ∧
          t.dev.get Fld.FLT_RST_ID.VALID = 1 ∧ t.dev.bitAt Reg.GLB_RESET_CAUSE 3 = true ∧ t.hbm = s.hbm.forgetAll ∧
          t.sram = s.sram.forgetAll ∧ t.dev.stage = 0) ∧
        (s.dev.get Fld.FLT_STATUS.CHIP_ARM = 0 → s.dev.get (Fld.FLT_SRC.BLK_RST f) = 0 → ∃ t, exec (.faultCause f) s = .next t ∧
          SameMemory s t ∧ t.dev.get Fld.FLT_STATUS.CHIP_SUPPRESSED = 1)) ∧
      ((∀ e ∈ s.dev.arising, e.2 = w → e.1 = f.val) → populated f = true → s.dev.get (Fld.FLT_SRC.EN f) = 1 →
        s.dev.get (Fld.FLT_SRC.STICKY f) = 0 → s.dev.get (Fld.FLT_SRC.CHIP_RST f) = 0 → s.dev.get (Fld.FLT_SRC.BLK_RST f) = 1 →
        2 ≤ f.val / 32 → f.val / 32 ≤ 14 →
        ∃ t, exec (.faultCause f) s = .next t ∧ (t.dev.inReset (f / 32) = true ∨ f.val / 32 ∈ t.dev.resetWait))) ∧
    (s.dev.msiDue = true → s.dev.msiFrom ≤ s.dev.ticks → ∃ t, exec .faultMsi s = .next t ∧ t.dev.msix = s.dev.msix ++ [18] ∧
      t.dev.msiDue = false ∧ t.dev.msiFrom = s.dev.ticks + 1120 ∧ Frame [] s t) ∧
    (s.dev.msiDue = false ∨ s.dev.ticks < s.dev.msiFrom → exec .faultMsi s = .next s)) ∧
  (∀ (s : State) (req : Requester) (f : Fin 576), Writable req 16 s →
    (populated f = false → exec (.stickyClear req f) s = .next s ∧ exec (.injPulse req f) s = .next s ∧
      ∀ on, exec (.injHold req f on) s = .next s ∧ exec (.fltEnWrite req f on) s = .next s) ∧
    (calm s → populated f = true → s.dev.get (Fld.FLT_SRC.EN f) = 1 →
      (s.dev.realAt f = true ∨ s.dev.injHeld f = true → s.dev.anyHold = true ∨ f.val ≠ 512 →
        ∃ t, exec (.stickyClear req f) s = .next t ∧ SameMemory s t ∧
        t.dev.get (Fld.FLT_SRC.STICKY f) = 1 ∧ (t.dev.get (Fld.FLT_SRC.REAL f) = 1 ↔ s.dev.realAt f = true) ∧
        (t.dev.get (Fld.FLT_SRC.INJD f) = 1 ↔ s.dev.injHeld f = true) ∧
        t.dev.get Fld.FLT_FIRE_CNT.FIRINGS = min (s.dev.get Fld.FLT_FIRE_CNT.FIRINGS + 1) (2 ^ 32 - 1)) ∧
      (∃ t, exec (.injPulse req f) s = .next t ∧ SameMemory s t ∧ t.dev.get (Fld.FLT_SRC.STICKY f) = 1 ∧
        t.dev.get (Fld.FLT_SRC.INJD f) = 1 ∧ (s.dev.realAt f = false → t.dev.get (Fld.FLT_SRC.REAL f) = s.dev.get (Fld.FLT_SRC.REAL f)) ∧
        t.dev.get (Fld.FLT_SRC.INJ_HOLD f) = s.dev.get (Fld.FLT_SRC.INJ_HOLD f)) ∧
      (s.dev.injHeld f = false → ∃ t, exec (.injHold req f true) s = .next t ∧ SameMemory s t ∧
        t.dev.get (Fld.FLT_SRC.INJ_HOLD f) = 1 ∧ t.dev.get (Fld.FLT_SRC.STICKY f) = 1 ∧ t.dev.get (Fld.FLT_SRC.INJD f) = 1 ∧
        (s.dev.anyHold = false → Present 512 t.dev)) ∧
      (∃ t, exec (.fltEnWrite req f false) s = .next t ∧ t.dev.get (Fld.FLT_SRC.EN f) = 0 ∧
        t.dev.get (Fld.FLT_SRC.STICKY f) = s.dev.get (Fld.FLT_SRC.STICKY f) ∧ Frame [Reg.FLT_SRC f] s t)) ∧
    (calm s → populated f = true → s.dev.get (Fld.FLT_SRC.EN f) = 0 →
      (∃ t, exec (.stickyClear req f) s = .next t ∧ t.dev.get (Fld.FLT_SRC.STICKY f) = 0 ∧ Frame [Reg.FLT_SRC f] s t) ∧
      (s.dev.realAt f = true ∨ s.dev.injHeld f = true → ∃ t, exec (.fltEnWrite req f true) s = .next t ∧
        t.dev.get (Fld.FLT_SRC.EN f) = 1 ∧ t.dev.get (Fld.FLT_SRC.STICKY f) = 1 ∧ SameMemory s t)) ∧
    (populated f = true → s.dev.realAt f = false → s.dev.injHeld f = false →
      (∃ t, exec (.stickyClear req f) s = .next t ∧ t.dev.get (Fld.FLT_SRC.STICKY f) = 0 ∧ t.dev.get (Fld.FLT_SRC.REAL f) = 0 ∧
        t.dev.get (Fld.FLT_SRC.INJD f) = 0 ∧ t.dev.get (Fld.FLT_SRC.EN f) = s.dev.get (Fld.FLT_SRC.EN f) ∧
        Frame [Reg.FLT_SRC f] s t) ∧
      (∀ en : Bool, ∃ t, exec (.fltEnWrite req f en) s = .next t ∧ t.dev.get (Fld.FLT_SRC.EN f) = (if en then 1 else 0) ∧
        t.dev.get (Fld.FLT_SRC.STICKY f) = s.dev.get (Fld.FLT_SRC.STICKY f) ∧ Frame [Reg.FLT_SRC f] s t)) ∧
    (populated f = true → ∃ t, exec (.injHold req f false) s = .next t ∧ t.dev.get (Fld.FLT_SRC.INJ_HOLD f) = 0 ∧
      Frame [Reg.FLT_SRC f] s t ∧ ((∀ g : Fin 576, g ≠ f → s.dev.injHeld g = false) → ¬ Present 512 t.dev)) ∧
    (populated f = true → s.dev.get (Fld.FLT_SRC.EN f) = 0 → s.dev.linesOf (0x2400 + f) = [] → s.dev.anyHold = true →
      (∃ t, exec (.injHold req f true) s = .next t ∧ t.dev.get (Fld.FLT_SRC.INJ_HOLD f) = 1 ∧ Frame [Reg.FLT_SRC f] s t) ∧
      (∃ t, exec (.injPulse req f) s = .next t ∧ t.dev.get (Fld.FLT_SRC.STICKY f) = s.dev.get (Fld.FLT_SRC.STICKY f) ∧
        Frame [Reg.FLT_SRC f] s t))) ∧
  (∀ (s : State) (req : Requester), Writable req 16 s →
    (∃ t, exec (.firstClear req) s = .next t ∧ t.dev.reg Reg.FLT_FIRST = 0 ∧ t.dev.reg (Reg.FLT_FIRST_TS_LO + 4) = 0 ∧
      Frame [Reg.FLT_FIRST, Reg.FLT_FIRST_TS_LO, Reg.FLT_FIRST_TS_LO + 4, Reg.FLT_FIRST_TS_LO + 8, Reg.FLT_FIRST_TS_LO + 12] s t) ∧
    (∃ t, exec (.arm req) s = .next t ∧ t.dev.get Fld.FLT_STATUS.CHIP_ARM = 1 ∧ Frame [Reg.FLT_STATUS] s t) ∧
    (∃ t, exec (.disarm req) s = .next t ∧ t.dev.get Fld.FLT_STATUS.CHIP_ARM = 0 ∧ Frame [Reg.FLT_STATUS] s t) ∧
    ((∀ f : Fin 576, s.dev.realAt f = false ∧ s.dev.injHeld f = false) →
      ∃ t, exec (.clrAll req) s = .next t ∧ SameMemory s t ∧ (∀ f : Fin 576, t.dev.get (Fld.FLT_SRC.STICKY f) = 0) ∧
        t.dev.get Fld.FLT_FIRST.FIRST_VALID = 0 ∧ t.dev.get Fld.FLT_STATUS.OVF = 0 ∧ t.dev.get Fld.FLT_STATUS.CHIP_SUPPRESSED = 0 ∧
        ¬ Present 513 t.dev) ∧
    (calm s → ∃ t, exec (.clrAll req) s = .next t ∧ SameMemory s t ∧
      (∀ f : Fin 576, f.val ≠ 513 → (t.dev.get (Fld.FLT_SRC.STICKY f) = 1 ↔ populated f = true ∧ s.dev.get (Fld.FLT_SRC.EN f) = 1 ∧
        (s.dev.realAt f = true ∨ s.dev.injHeld f = true))) ∧
      (t.dev.get Fld.FLT_FIRST.FIRST_VALID = 1 ↔ ∃ f : Fin 576, t.dev.get (Fld.FLT_SRC.STICKY f) = 1) ∧
      t.dev.get Fld.FLT_STATUS.CHIP_SUPPRESSED = 0))

/-! ### Power and housekeeping -/

/-- Power, temperature, housekeeping and I2C (R523–R538, R548, R549): samples are kept; a decision with the power above the cap takes the
next step, one within it counts towards restoring; a conversion or calibration runs one at a time and reports its result; the I2C
target answers its own address with the block it copied at the START. -/
def Obligations.SamplesDecisionsHousekeepingAndI2c : Prop :=
  (∀ (s : State) (temps : List (BitVec 16)),
    (s.dev.powered = false → exec (.tempSample temps) s = .next s ∧ exec .tightropeDecision s = .next s ∧
      ∀ v i l b, exec (.powerSample v i l b) s = .next s) ∧
    (s.dev.powered = true → s.dev.thermHold = true → ∃ t, exec (.tempSample temps) s = .next t ∧ Frame [] s t) ∧
    (s.dev.powered = true → temps.length = 32 →
      ∃ t, exec (.tempSample temps) s = .next t ∧ (∀ v ∈ temps, v.toInt ≤ t.dev.hk.tj) ∧ (∃ v ∈ temps, v.toInt = t.dev.hk.tj)) ∧
    (s.dev.powered = true → s.dev.thermHold = false → temps.length = 32 → s.dev.get Fld.PWR_LOG_CTL.LOG_EN = 0 →
      ∃ t, exec (.tempSample temps) s = .next t ∧ t.dev.getInt Fld.PWR_TJ.TJ = t.dev.hk.tj ∧
        (t.dev.get Fld.PWR_STATUS.THROTTLE = 1 ↔ (s.dev.pwr.throttleT * 10 : Nat) ≤ t.dev.hk.tj ∨
          (s.dev.get Fld.PWR_STATUS.THROTTLE = 1 ∧ (s.dev.pwr.throttleT * 10 : Nat) - 30 ≤ t.dev.hk.tj)) ∧
        (Present 544 t.dev ↔ t.dev.get Fld.PWR_STATUS.THROTTLE = 1))) ∧
  (∀ (s : State) (v i : BitVec 16) (l : List (BitVec 32)) (b : Bool), s.dev.powered = true →
    (∃ t, exec (.powerSample v i l b) s = .next t ∧ t.dev.hk.vin = v.toNat ∧ t.dev.hk.iin = i.toNat ∧
      t.dev.pwr.samples = s.dev.pwr.samples + min 1 l.length ∧ t.dev.pwr.sum = s.dev.pwr.sum + (l.getD 0 0).toNat % 65536) ∧
    (s.dev.thermHold = false → l.length = 12 → ∃ t, exec (.powerSample v i l b) s = .next t ∧
      t.dev.get Fld.PWR_IN.VIN = v.toNat ∧ t.dev.get Fld.PWR_IN.IIN = i.toNat ∧
      (∀ k : Fin 12, some (t.dev.reg (Reg.PWR_DOM k)) = l[k.val]?) ∧
      (Present 547 t.dev ↔ v.toNat < 900 ∨ 6000 < v.toNat))) ∧
  (∀ (s : State) (out : Bool), Running s →
    ∃ t, exec (.railFault out) s = .next t ∧ (Present 549 t.dev ↔ out = true) ∧ Frame [] s t) ∧
  (∀ (s : State), s.dev.powered = true →
    (s.dev.thermHold = true → ∃ t, exec .tightropeDecision s = .next t ∧ t.dev.pwr.sum = 0 ∧ t.dev.pwr.samples = 0 ∧ Frame [] s t) ∧
    (s.dev.thermHold = false → s.dev.get Fld.PWR_CAP.WATTS * 100 * s.dev.pwr.samples ≥ s.dev.pwr.sum →
      s.dev.get Fld.PWR_STATUS.THROTTLE = 0 → s.dev.pwr.room < 99 →
      ∃ t, exec .tightropeDecision s = .next t ∧ t.dev.pwr.sum = 0 ∧ t.dev.pwr.samples = 0 ∧ t.dev.pwr.steps = s.dev.pwr.steps ∧
        (t.dev.get Fld.PWR_STATUS.INPUT_LIMIT = 1 ↔ s.dev.pwr.limited = true) ∧
        (t.dev.pwr.room = s.dev.pwr.room + 1 ∨ t.dev.pwr.room = 0) ∧ t.dev.pwr.cap = s.dev.get Fld.PWR_CAP.WATTS ∧
        Frame [Reg.PWR_PIN, Reg.PWR_STATUS] s t) ∧
    (s.dev.thermHold = false → s.dev.get Fld.PWR_CAP.WATTS * 100 * s.dev.pwr.samples < s.dev.pwr.sum →
      s.dev.get Fld.PWR_TR_CTL.SHED_EN = 1 → s.dev.get Fld.PWR_LOG_CTL.LOG_EN = 0 → s.dev.idleClusters &&& ~~~s.dev.gated ≠ 0 →
      ∃ t, exec .tightropeDecision s = .next t ∧ t.dev.gated = s.dev.gated ||| (s.dev.idleClusters &&& ~~~s.dev.gated) ∧
        t.dev.pwr.steps = .gate s.dev.gated :: s.dev.pwr.steps ∧ Arising 545 t.dev ∧
        t.dev.get Fld.PWR_STATUS.INPUT_LIMIT = 1 ∧ t.dev.pwr.room = 0)) ∧
  (∀ (s : State) (req : Requester) (ch : BitVec 6), Writable req 17 s →
    (s.dev.hkBusy = false → ∃ t, exec (.hkStart req ch) s = .next t ∧ t.dev.pwr.conv = some ch.toNat ∧ t.dev.pwr.next = none ∧
      t.dev.get Fld.PWR_HK_CTL.CONV_BUSY = 1 ∧ t.dev.get Fld.PWR_HK_CTL.CH = ch.toNat ∧ Frame [Reg.PWR_HK_CTL] s t) ∧
    (s.dev.hkBusy = true → ∃ t, exec (.hkStart req ch) s = .next t ∧ t.dev.pwr.conv = s.dev.pwr.conv ∧
      t.dev.pwr.next = some ch.toNat ∧ t.dev.get Fld.PWR_HK_CTL.PEND = 1 ∧ Frame [Reg.PWR_HK_CTL] s t) ∧
    (s.dev.get Fld.PWR_HK_CTL.CAL_BUSY = 1 → exec (.hkCalNow req) s = .next s) ∧
    (s.dev.get Fld.PWR_HK_CTL.CAL_BUSY = 0 → s.dev.get Fld.PWR_HK_CTL.CONV_BUSY = 1 →
      ∃ t, exec (.hkCalNow req) s = .next t ∧ t.dev.get Fld.PWR_HK_CTL.CAL_NOW = 1 ∧ t.dev.get Fld.PWR_HK_CTL.CAL_BUSY = 0 ∧
        Frame [Reg.PWR_HK_CTL] s t) ∧
    (s.dev.get Fld.PWR_HK_CTL.CAL_BUSY = 0 → s.dev.get Fld.PWR_HK_CTL.CONV_BUSY = 0 →
      ∃ t, exec (.hkCalNow req) s = .next t ∧ t.dev.get Fld.PWR_HK_CTL.CAL_BUSY = 1 ∧ t.dev.get Fld.PWR_HK_DATA.STALE = 1 ∧
        Frame [Reg.PWR_HK_CTL, Reg.PWR_HK_DATA] s t) ∧
    (∃ t, exec (.hkDataRead req) s = .next t ∧ Sparse.get 0 t.dev.rdata req.code = s.dev.reg Reg.PWR_HK_DATA ∧
      t.dev.get Fld.PWR_HK_DATA.VALID = 0 ∧ t.dev.get Fld.PWR_HK_DATA.OVR = 0 ∧
      t.dev.get Fld.PWR_HK_DATA.CODE = s.dev.get Fld.PWR_HK_DATA.CODE ∧ Frame [Reg.PWR_HK_DATA] s t)) ∧
  (∀ (s : State) (v : Int), Running s →
    (s.dev.pwr.conv = none → exec (.hkConversionDone v) s = .next s) ∧
    (∀ ch, s.dev.pwr.conv = some ch → ∃ t, exec (.hkConversionDone v) s = .next t ∧ t.dev.get Fld.PWR_HK_DATA.VALID = 1 ∧
      t.dev.get Fld.PWR_HK_DATA.OVR = s.dev.get Fld.PWR_HK_DATA.VALID ∧ t.dev.get Fld.PWR_HK_DATA.CH = ch % 64 ∧
      (t.dev.get Fld.PWR_HK_DATA.CODE : Int) = clampInt 0 4095 v ∧ t.dev.bitAt Reg.PWR_INT_STATUS 2 = true ∧
      (t.dev.get Fld.PWR_HK_DATA.RANGE = 1 ↔ v ≤ 0 ∨ 4095 ≤ v) ∧ (v ≤ 0 ∨ 4095 ≤ v → Arising 550 t.dev) ∧
      (s.dev.pwr.next = none → t.dev.pwr.conv = none ∧ t.dev.get Fld.PWR_HK_CTL.CONV_BUSY = 0) ∧
      (∀ c, s.dev.pwr.next = some c → t.dev.pwr.conv = some c ∧ t.dev.get Fld.PWR_HK_CTL.CONV_BUSY = 1) ∧
      Frame [Reg.PWR_HK_DATA, Reg.PWR_HK_CTL, Reg.PWR_INT_STATUS] s t) ∧
    (s.dev.get Fld.PWR_HK_CTL.CAL_BUSY = 0 → s.dev.pwr.calDue = false → exec .hkCalDone s = .next s) ∧
    (s.dev.get Fld.PWR_HK_CTL.CAL_BUSY = 1 → ∃ t, exec .hkCalDone s = .next t ∧ t.dev.bitAt Reg.PWR_INT_STATUS 3 = true ∧
      t.dev.reg64 Reg.PWR_HK_CAL_CNT_LO = min (s.dev.reg64 Reg.PWR_HK_CAL_CNT_LO + 1) (2 ^ 48 - 1) ∧
      t.dev.reg64 Reg.PWR_HK_CAL_SEC_LO = tSec s.dev.tc % 2 ^ 48 ∧
      (s.dev.pwr.next = none → s.dev.get Fld.PWR_HK_CTL.CAL_NOW = 0 → t.dev.get Fld.PWR_HK_CTL.CAL_BUSY = 0) ∧
      (∀ c, s.dev.pwr.next = some c → t.dev.get Fld.PWR_HK_CTL.CAL_BUSY = 0 ∧ t.dev.pwr.conv = some c))) ∧
  (∀ (s : State) (a : BitVec 7) (l : List Byte) (n : Nat) (stop : Bool),
    (s.dev.powered = false ∨ a ≠ 0x48 + s.dev.straps.i2cAddr.setWidth 7 →
      exec (.i2cWrite a l stop) s = .next s ∧ exec (.i2cRead a n stop) s = .next s) ∧
    (s.dev.powered = true → a = 0x48 + s.dev.straps.i2cAddr.setWidth 7 →
      (∃ t, exec (.i2cWrite a l stop) s = .next t ∧ t.dev.i2c.copy = s.dev.servedBlock ∧ t.dev.i2c.active = !stop ∧
        t.dev.i2c.offset = ((l.head?.map (fun b => b.toNat % 64)).getD s.dev.i2c.offset) ∧ Frame [] s t) ∧
      (∃ t, exec (.i2cRead a n stop) s = .next t ∧ t.dev.i2c.copy = s.dev.servedBlock ∧ t.dev.i2c.out.length = n ∧
        (∀ i < n, t.dev.i2c.out[i]? = s.dev.servedBlock[(s.dev.i2c.offset + i) % 64]?) ∧
        t.dev.i2c.offset = (s.dev.i2c.offset + n) % 64 ∧ t.dev.i2c.active = !stop ∧ Frame [] s t)) ∧
    (s.dev.powered = true →
      (∃ t, exec .i2cRefresh s = .next t ∧ t.dev.i2c.block = s.dev.statusBlock ∧ Frame [] s t) ∧
      (∃ t, exec .i2cTimeout s = .next t ∧ t.dev.i2c.active = false ∧ Frame [] s t)) ∧
    (s.dev.powered = false → exec .i2cRefresh s = .next s ∧ exec .i2cTimeout s = .next s))

/-! ### Probe engine words -/

/-- Every instruction of Table 2 in its ranges is read back from its word, a word is read as one instruction or none, and a word that is
read is the instruction's own (R332, R336). -/
def Obligations.EngineWordsReadBack : Prop :=
  (∀ i : EngIns, i.valid = true → EngIns.decode i.encode = some i) ∧
  (∀ (w : Word) (i : EngIns), EngIns.decode w = some i → i.encode = w ∧ i.valid = true) ∧
  (∀ i j : EngIns, i.valid = true → j.valid = true → i.encode = j.encode → i = j) ∧
  (∀ w : Word, 0x18 < (w >>> 26).toNat → EngIns.decode w = none) ∧
  (∀ (m k : BitVec 2) (i : BitVec 6), EngIns.decode (EngIns.encode (.trig m 3 i)) = none ∧
    EngIns.decode (EngIns.encode (.trig 3 k i)) = none ∧ ∀ p a, EngIns.decode (EngIns.encode (.play 3 p a)) = none)
end

