-- ==== Sys2Proof/Laws/Bytes.lean ====
section
/-! SUPPORT. Byte strings: lengths, reading back what was written, and the CRC of a Tsucor frame. -/

namespace Sys2Proof.Machine

/-- n bytes are n bytes long. -/
theorem leBytes_length (n v : Nat) : (leBytes n v).length = n := by
  induction n generalizing v with
  | zero => rfl
  | succ n ih => simp [leBytes, ih]

/-- A number that fits is read back from its little-endian bytes. -/
theorem leNat_leBytes (n v : Nat) (h : v < 256 ^ n) : leNat (leBytes n v) = v := by
  induction n generalizing v with
  | zero => simp [leBytes, leNat]; omega
  | succ n ih =>
    have h2 : v / 256 < 256 ^ n := by rw [Nat.pow_succ] at h; omega
    simp [leBytes, leNat, ih _ h2]; omega

/-- n big-endian bytes are n bytes long. -/
theorem beBytes_length (n v : Nat) : (beBytes n v).length = n := by simp [beBytes, leBytes_length]

/-- A number that fits is read back from its big-endian bytes. -/
theorem beNat_beBytes (n v : Nat) (h : v < 256 ^ n) : beNat (beBytes n v) = v := by
  simp [beNat, beBytes, leNat_leBytes n v h]

/-- A slice has the length asked for. -/
theorem sliceBytes_length (l : List Byte) (off n : Nat) : (sliceBytes l off n).length = n := by
  simp [sliceBytes]

/-- A frame without its CRC has 540 bytes. -/
theorem TsuFrame.body_length (f : TsuFrame) : f.body.length = 540 := by
  simp [TsuFrame.body, beBytes_length, sliceBytes_length]

/-- Every frame that is sent is received with a valid CRC (R278, R282). -/
theorem tsuCrcOk_bytes (f : TsuFrame) : tsuCrcOk f.bytes = true := by
  have hl := f.body_length
  have hb : beAt f.bytes 540 4 = (crc32c f.body).toNat := by
    have : sliceBytes f.bytes 540 4 = beBytes 4 (crc32c f.body).toNat := by
      simp [sliceBytes, TsuFrame.bytes, hl, beBytes_length, List.take_of_length_le]
    rw [beAt, this, beNat_beBytes _ _ (by have := (crc32c f.body).isLt; omega)]
  have ht : f.bytes.take 540 = f.body := by simp [TsuFrame.bytes, hl]
  simp [tsuCrcOk, hb, ht]
  simp [TsuFrame.bytes, hl, beBytes_length]

/-- What stands at the end of a byte string is read back. -/
theorem beAt_append_beBytes (l : List Byte) (n v : Nat) (h : v < 256 ^ n) : beAt (l ++ beBytes n v) l.length n = v := by
  have : sliceBytes (l ++ beBytes n v) l.length n = beBytes n v := by
    simp [sliceBytes, beBytes_length, List.take_of_length_le]
  rw [beAt, this, beNat_beBytes n v h]

/-- What stands at the start of a byte string is read back. -/
theorem beAt_beBytes_append (l : List Byte) (n v : Nat) (h : v < 256 ^ n) : beAt (beBytes n v ++ l) 0 n = v := by
  have : sliceBytes (beBytes n v ++ l) 0 n = beBytes n v := by
    simp [sliceBytes, beBytes_length]
  rw [beAt, this, beNat_beBytes n v h]

/-- A Horug frame of 1,084 bytes with their CRC behind them is received with a valid CRC (R453). -/
theorem linkFrame_crc (l : List Byte) (h : l.length = 1084) :
    (l ++ beBytes 4 (crc32c l).toNat).length = 1088 ∧
    (crc32c ((l ++ beBytes 4 (crc32c l).toNat).take 1084)).toNat = beAt (l ++ beBytes 4 (crc32c l).toNat) 1084 4 := by
  refine ⟨by simp [beBytes_length, h], ?_⟩
  rw [← h, List.take_left, beAt_append_beBytes _ _ _ (crc32c l).isLt]

end Sys2Proof.Machine
end

