-- ==== Sys2Proof/Laws/Sparse.lean ====
section
/-! SUPPORT. Laws of sparse tables: read after write, sorted keys, and that no entry equals its default. -/

namespace Sys2Proof.Machine

/-- Reading a key that the filter drops nowhere. -/
theorem Sparse.get_erase_ne {α : Type} (d : α) {a b : Nat} (h : b ≠ a) (m : List (Nat × α)) :
    Sparse.get d (Sparse.erase a m) b = Sparse.get d m b := by
  induction m with
  | nil => rfl
  | cons e r ih =>
    obtain ⟨k, v⟩ := e
    unfold Sparse.erase at ih ⊢
    by_cases hk : k = a
    · subst hk; simp [ih, Sparse.get, h]
    · simp [hk, ih, Sparse.get]

/-- An erased key reads as the default. -/
theorem Sparse.get_erase_self {α : Type} (d : α) (a : Nat) (m : List (Nat × α)) :
    Sparse.get d (Sparse.erase a m) a = d := by
  induction m with
  | nil => rfl
  | cons e r ih =>
    obtain ⟨k, v⟩ := e
    unfold Sparse.erase at ih ⊢
    by_cases hk : k = a
    · subst hk; simpa using ih
    · simpa [hk, Sparse.get, Ne.symm hk] using ih

/-- Listing a pair leaves every other key. -/
theorem Sparse.get_insert_ne {α : Type} (d : α) {a b : Nat} (h : b ≠ a) (v : α) (m : List (Nat × α)) :
    Sparse.get d (Sparse.insert a v m) b = Sparse.get d m b := by
  induction m with
  | nil => simp [Sparse.insert, Sparse.get, h]
  | cons e r ih =>
    obtain ⟨k, w⟩ := e
    unfold Sparse.insert
    by_cases hk : a = k
    · subst hk; simp [Sparse.get, h]
    · by_cases hl : a < k
      · simp [hk, hl, Sparse.get, h]
      · simp [hk, hl, Sparse.get, ih]

/-- A listed pair is read back. -/
theorem Sparse.get_insert_self {α : Type} (d : α) (a : Nat) (v : α) (m : List (Nat × α)) :
    Sparse.get d (Sparse.insert a v m) a = v := by
  induction m with
  | nil => simp [Sparse.insert, Sparse.get]
  | cons e r ih =>
    obtain ⟨k, w⟩ := e
    unfold Sparse.insert
    by_cases hk : a = k
    · subst hk; simp [Sparse.get]
    · by_cases hl : a < k
      · simp [hk, hl, Sparse.get]
      · simp [hk, hl, Sparse.get, ih]

/-- Reading after writing. -/
theorem Sparse.get_put {α : Type} [DecidableEq α] (d e : α) (m : List (Nat × α)) (a b : Nat) (v : α) (h : b = a → e = d) :
    Sparse.get e (Sparse.put d m a v) b = if b = a then v else Sparse.get e m b := by
  unfold Sparse.put
  by_cases hb : b = a
  · subst hb
    by_cases hv : v = d
    · simp [hv, Sparse.get_erase_self, h rfl]
    · simp [hv, Sparse.get_insert_self]
  · by_cases hv : v = d
    · simp [hv, hb, Sparse.get_erase_ne _ hb]
    · simp [hv, hb, Sparse.get_insert_ne _ hb]

/-- The value written is read back. -/
@[simp] theorem Sparse.get_put_self {α : Type} [DecidableEq α] (d : α) (m : List (Nat × α)) (a : Nat) (v : α) :
    Sparse.get d (Sparse.put d m a v) a = v := by
  simp [Sparse.get_put]

/-- Writing one key leaves every other. -/
theorem Sparse.get_put_ne {α : Type} [DecidableEq α] (d e : α) (m : List (Nat × α)) {a b : Nat} (v : α) (h : b ≠ a) :
    Sparse.get e (Sparse.put d m a v) b = Sparse.get e m b := by
  rw [Sparse.get_put d e m a b v (fun x => absurd x h)]; simp [h]

/-! ### Sorted keys -/

/-- Every key of a table is above k. -/
def Sparse.above {α : Type} (k : Nat) (m : List (Nat × α)) : Prop := ∀ e ∈ m, k < e.1

/-- A sorted table is its first key, with a sorted table above it. -/
theorem Sparse.sorted_cons {α : Type} (k : Nat) (v : α) (m : List (Nat × α)) :
    Sparse.sorted ((k, v) :: m) = true ↔ Sparse.above k m ∧ Sparse.sorted m = true := by
  induction m generalizing k v with
  | nil => simp [Sparse.sorted, Sparse.above]
  | cons e r ih =>
    obtain ⟨l, w⟩ := e
    simp only [Sparse.sorted, Bool.and_eq_true, decide_eq_true_eq]
    constructor
    · rintro ⟨hkl, hs⟩
      refine ⟨?_, hs⟩
      intro x hx
      rcases List.mem_cons.1 hx with rfl | hx
      · exact hkl
      · exact Nat.lt_trans hkl (((ih l w).1 hs).1 x hx)
    · rintro ⟨ha, hs⟩
      exact ⟨ha (l, w) (by simp), hs⟩

/-- Filtering keeps a table sorted. -/
theorem Sparse.sorted_filter {α : Type} (p : Nat × α → Bool) (m : List (Nat × α)) (h : Sparse.sorted m = true) :
    Sparse.sorted (m.filter p) = true := by
  induction m with
  | nil => rfl
  | cons e r ih =>
    obtain ⟨k, v⟩ := e
    obtain ⟨ha, hs⟩ := (Sparse.sorted_cons k v r).1 h
    by_cases hp : p (k, v) = true
    · rw [List.filter_cons_of_pos hp, Sparse.sorted_cons]
      exact ⟨fun x hx => ha x ((List.mem_filter.1 hx).1), ih hs⟩
    · rw [List.filter_cons_of_neg hp]; exact ih hs

/-- What a table lists after an insertion. -/
theorem Sparse.mem_insert {α : Type} (a : Nat) (v : α) (m : List (Nat × α)) (e : Nat × α)
    (h : e ∈ Sparse.insert a v m) : e = (a, v) ∨ e ∈ m := by
  induction m with
  | nil => simpa [Sparse.insert] using h
  | cons x r ih =>
    obtain ⟨k, w⟩ := x
    unfold Sparse.insert at h
    split at h
    · rcases List.mem_cons.1 h with h | h <;> simp [h]
    · split at h
      · rcases List.mem_cons.1 h with h | h
        · simp [h]
        · exact Or.inr h
      · rcases List.mem_cons.1 h with h | h
        · simp [h]
        · rcases ih h with h | h <;> simp [h]

/-- Inserting keeps a table sorted. -/
theorem Sparse.sorted_insert {α : Type} (a : Nat) (v : α) (m : List (Nat × α)) (h : Sparse.sorted m = true) :
    Sparse.sorted (Sparse.insert a v m) = true := by
  induction m with
  | nil => rfl
  | cons e r ih =>
    obtain ⟨k, w⟩ := e
    obtain ⟨ha, hs⟩ := (Sparse.sorted_cons k w r).1 h
    unfold Sparse.insert
    by_cases hk : a = k
    · subst hk; simp only [if_true]; exact (Sparse.sorted_cons a v r).2 ⟨ha, hs⟩
    · by_cases hl : a < k
      · simp only [hk, hl, if_true, if_false]; exact (Sparse.sorted_cons a v _).2 ⟨fun x hx => by
          rcases List.mem_cons.1 hx with rfl | hx
          · exact hl
          · exact Nat.lt_trans hl (ha x hx), h⟩
      · simp only [hk, hl, if_false]
        refine (Sparse.sorted_cons k w _).2 ⟨fun x hx => ?_, ih hs⟩
        rcases Sparse.mem_insert a v r x hx with rfl | hx
        · show k < a; omega
        · exact ha x hx

/-- Writing keeps a table sorted. -/
theorem Sparse.sorted_put {α : Type} [DecidableEq α] (d : α) (m : List (Nat × α)) (a : Nat) (v : α)
    (h : Sparse.sorted m = true) : Sparse.sorted (Sparse.put d m a v) = true := by
  unfold Sparse.put
  split
  · exact Sparse.sorted_filter _ m h
  · exact Sparse.sorted_insert a v m h

/-- What a table lists after a write is the new pair, which differs from the default, or was listed before. -/
theorem Sparse.mem_put {α : Type} [DecidableEq α] (d : α) (m : List (Nat × α)) (a : Nat) (v : α) (e : Nat × α)
    (h : e ∈ Sparse.put d m a v) : (e = (a, v) ∧ v ≠ d) ∨ e ∈ m := by
  unfold Sparse.put at h
  split at h
  · exact Or.inr ((List.mem_filter.1 h).1)
  · rename_i hv
    rcases Sparse.mem_insert a v m e h with h | h
    · exact Or.inl ⟨h, hv⟩
    · exact Or.inr h

end Sys2Proof.Machine
end

