-- ==== Sys2Proof/Laws/Memory.lean ====
section
/-! SUPPORT. Laws of memory: read after write, and that every operation keeps the canonical form. -/

namespace Sys2Proof.Machine

/-- A write leaves what unlisted addresses read as. -/
@[simp] theorem Memory.write_blank (m : Memory) (a b : Nat) (v : Byte) : (m.write a v).blank b = m.blank b := rfl

/-- The byte written is read back. -/
@[simp] theorem Memory.read_write_self (m : Memory) (a : Nat) (v : Byte) : (m.write a v).read a = v := by
  show Sparse.get (m.blank a) (Sparse.put (m.blank a) m.cells a v) a = v
  simp

/-- A write leaves every other byte. -/
theorem Memory.read_write_ne (m : Memory) {a b : Nat} (v : Byte) (h : b ≠ a) : (m.write a v).read b = m.read b := by
  show Sparse.get (m.blank b) (Sparse.put (m.blank a) m.cells a v) b = Sparse.get (m.blank b) m.cells b
  exact Sparse.get_put_ne _ _ _ v h

/-- A byte outside the range written is unchanged. -/
theorem Memory.read_writeBytes_out (l : List Byte) (m : Memory) (a b : Nat) (h : b < a ∨ a + l.length ≤ b) :
    (m.writeBytes a l).read b = m.read b := by
  induction l generalizing m a with
  | nil => rfl
  | cons x r ih =>
    show ((m.write a x).writeBytes (a + 1) r).read b = m.read b
    rw [ih (m.write a x) (a + 1) (by simp at h; omega), Memory.read_write_ne m x (by simp at h; omega)]

/-- A byte of the range written is the byte written there. -/
theorem Memory.read_writeBytes_in (l : List Byte) (m : Memory) (a i : Nat) (h : i < l.length) :
    (m.writeBytes a l).read (a + i) = l[i] := by
  induction l generalizing m a i with
  | nil => simp at h
  | cons x r ih =>
    show ((m.write a x).writeBytes (a + 1) r).read (a + i) = _
    cases i with
    | zero => rw [Memory.read_writeBytes_out r _ (a + 1) (a + 0) (by omega)]; simp
    | succ j =>
      have := ih (m.write a x) (a + 1) j (by simpa using h)
      rw [show a + (j + 1) = a + 1 + j by omega, this]; simp

/-- The canonical form as a proposition. -/
theorem Memory.wf_iff (m : Memory) :
    m.wf = true ↔ Sparse.sorted m.cells = true ∧ ∀ c ∈ m.cells, c.2 ≠ m.blank c.1 := by
  simp [Memory.wf]

/-- A write keeps the canonical form. -/
theorem Memory.wf_write (m : Memory) (a : Nat) (v : Byte) (h : m.wf = true) : (m.write a v).wf = true := by
  rw [Memory.wf_iff] at h ⊢
  refine ⟨Sparse.sorted_put _ _ a v h.1, fun c hc => ?_⟩
  rcases Sparse.mem_put _ _ a v c hc with ⟨rfl, hv⟩ | hm
  · exact hv
  · exact h.2 c hm

/-- Writing a range keeps the canonical form. -/
theorem Memory.wf_writeBytes (l : List Byte) (m : Memory) (a : Nat) (h : m.wf = true) : (m.writeBytes a l).wf = true := by
  induction l generalizing m a with
  | nil => exact h
  | cons x r ih => exact ih (m.write a x) (a + 1) (Memory.wf_write m a x h)

/-- Losing the contents of a page keeps the canonical form. -/
theorem Memory.wf_forgetPage (m : Memory) (p : Nat) (h : m.wf = true) : (m.forgetPage p).wf = true := by
  rw [Memory.wf_iff] at h ⊢
  refine ⟨Sparse.sorted_filter _ _ h.1, fun c hc => ?_⟩
  obtain ⟨hm, hp⟩ := List.mem_filter.1 hc
  have hp : c.1 / pageBytes ≠ p := by simpa using hp
  have he : (m.forgetPage p).epochOf c.1 = m.epochOf c.1 := Sparse.get_insert_ne _ hp _ _
  show c.2 ≠ (if (m.forgetPage p).epochOf c.1 = 0 then 0 else Config.freeByte ((m.forgetPage p).epochOf c.1) c.1)
  rw [he]; exact h.2 c hm

/-- Losing the contents of all memory gives the canonical form. -/
theorem Memory.wf_forgetAll (m : Memory) : m.forgetAll.wf = true := rfl

/-- Losing the contents of a page leaves every other page. -/
theorem Memory.read_forgetPage (m : Memory) (p a : Nat) (h : a / pageBytes ≠ p) : (m.forgetPage p).read a = m.read a := by
  have he : (m.forgetPage p).epochOf a = m.epochOf a := Sparse.get_insert_ne _ h _ _
  have hc : ∀ (d : Byte) (l : List Host.Cell),
      Sparse.get d (l.filter (fun c => c.1 / pageBytes != p)) a = Sparse.get d l a := by
    intro d l
    induction l with
    | nil => rfl
    | cons e r ih =>
      obtain ⟨k, v⟩ := e
      by_cases hk : k / pageBytes = p
      · have hak : a ≠ k := fun hx => h (hx ▸ hk)
        simp [hk, ih, Sparse.get, hak]
      · simp [hk, ih, Sparse.get]
  show Sparse.get (if (m.forgetPage p).epochOf a = 0 then 0 else _) _ a = _
  rw [he]; exact hc _ _

/-- The memory after reset is in canonical form. -/
theorem Memory.wf_empty : ({} : Memory).wf = true := rfl

end Sys2Proof.Machine
end

