-- ==== Sys2Proof/Laws/Keeps.lean ====
section
/-! SUPPORT. What every change of the state leaves as it is: the queue of waiting commands, and the canonical form of both
memories. One lemma for each operation on the state. -/

namespace Sys2Proof.Machine

/-- t has the queue of s, and memories in canonical form wherever those of s were. -/
structure Keeps (s t : State) : Prop where
  pending : t.pending = s.pending
  hbm : s.hbm.wf = true → t.hbm.wf = true
  sram : s.sram.wf = true → t.sram.wf = true

theorem Keeps.refl (s : State) : Keeps s s := ⟨rfl, id, id⟩

theorem Keeps.trans {s t u : State} (h : Keeps s t) (k : Keeps t u) : Keeps s u :=
  ⟨k.pending.trans h.pending, k.hbm ∘ h.hbm, k.sram ∘ h.sram⟩

/-- A change of the device alone. -/
theorem Keeps.dev (s : State) (d : Dev) : Keeps s { s with dev := d } := ⟨rfl, id, id⟩

/-- A further change of the device. -/
theorem Keeps.thenDev {s t : State} (d : Dev) (h : Keeps s t) : Keeps s { t with dev := d } := ⟨h.pending, h.hbm, h.sram⟩

/-- A change that is followed by one that keeps. -/
theorem Keeps.afterDev {s t : State} (d : Dev) (h : Keeps { s with dev := d } t) : Keeps s t := ⟨h.pending, h.hbm, h.sram⟩

/-- A change of the device and of HBM that keeps HBM's canonical form. -/
theorem Keeps.mem {s : State} (d : Dev) (m : Memory) (h : s.hbm.wf = true → m.wf = true) : Keeps s { s with dev := d, hbm := m } :=
  ⟨rfl, h, id⟩

theorem Keeps.foldl {α : Type} (f : State → α → State) (h : ∀ s a, Keeps s (f s a)) (l : List α) (s : State) :
    Keeps s (l.foldl f s) := by
  induction l generalizing s with
  | nil => exact .refl s
  | cons a r ih => exact (h s a).trans (ih (f s a))

theorem Keeps.ite {c : Prop} [Decidable c] {s a b : State} (ha : Keeps s a) (hb : Keeps s b) : Keeps s (if c then a else b) := by
  split <;> assumption

/-! ### Memory of queues and windows -/

theorem wf_foldl_forgetPage (l : List Nat) (m : Memory) (h : m.wf = true) : (l.foldl Memory.forgetPage m).wf = true := by
  induction l generalizing m with
  | nil => exact h
  | cons p r ih => exact ih _ (Memory.wf_forgetPage m p h)

theorem State.settle_keeps (s : State) : Keeps s s.settle := ⟨rfl, wf_foldl_forgetPage _ _, id⟩

theorem State.onDev_keeps (f : Dev → Dev) (s : State) : Keeps s (s.onDev f) := .afterDev _ (State.settle_keeps _)

theorem State.qStore_keeps (q : Nat) (l : List Byte) (b : Nat) (s : State) : Keeps s (State.qStore q b l s) := by
  induction l generalizing b s with
  | nil => exact .refl s
  | cons v r ih =>
    unfold State.qStore
    refine Keeps.trans ?_ (ih (b + 1) _)
    split
    · exact ⟨rfl, Memory.wf_write _ _ _, id⟩
    · exact .refl s

theorem State.bufWrite_keeps (b : Nat) (l : List Byte) (a : Nat) (s : State) : Keeps s (State.bufWrite b a l s) := by
  induction l generalizing a s with
  | nil => exact .refl s
  | cons v r ih =>
    unfold State.bufWrite
    exact Keeps.trans (t := { s with sram := s.sram.write (s.dev.bufAddr b a) v }) ⟨rfl, id, Memory.wf_write _ _ _⟩ (ih (a + 1) _)

theorem winStore_wf (size : Nat) (l : List Byte) (m : Memory) (a : Nat) (h : m.wf = true) : (winStore m size a l).wf = true := by
  induction l generalizing m a with
  | nil => exact h
  | cons v r ih =>
    unfold winStore
    apply ih
    split
    · exact Memory.wf_write _ _ _ h
    · exact h

theorem State.winQueueStore_keeps (q : Nat) (l : List Byte) (b : Nat) (s : State) (m : Bool) :
    Keeps s (State.winQueueStore q b l (s, m)).1 := by
  induction l generalizing b s m with
  | nil => exact .refl s
  | cons v r ih =>
    unfold State.winQueueStore
    have h : Keeps s (if s.dev.winMayAlloc q b then s.onDev (fun d => d.takePage q (b / pageBytes)) else s) :=
      .ite (State.onDev_keeps _ s) (.refl s)
    extract_lets s'
    split
    · exact h.trans ((State.qStore_keeps _ _ _ _).trans (.trans (.dev _ _) (ih _ _ _)))
    · exact h.trans (ih _ _ _)

theorem State.windowRead_keeps (r : Fin 5) (off n : Nat) (s : State) : Keeps s (s.windowRead r off n) := by
  unfold State.windowRead; split
  · exact .refl s
  · exact .dev s _

theorem State.windowWrite_keeps (r : Fin 5) (off : Nat) (l : List Byte) (s : State) : Keeps s (s.windowWrite r off l) := by
  unfold State.windowWrite
  dsimp only
  split
  · exact .refl s
  · split
    · exact ⟨rfl, id, winStore_wf _ _ _ _⟩
    · have h := State.winQueueStore_keeps (s.dev.get (Fld.RMS_WIN_CTL.QUEUE r)) l (64 * s.dev.winBase r + off) s false
      exact h.trans (State.onDev_keeps _ _)
    · exact ⟨rfl, winStore_wf _ _ _ _, id⟩

/-! ### Host DMA, paging, STREAM -/

theorem State.dmaToHost_keeps (ch : Nat) (j : DmaJob) (e : Bool) (s : State) : Keeps s (s.dmaToHost ch j e) := by
  unfold State.dmaToHost
  extract_lets d q head want n
  exact .ite (.dev s _) (.ite (.dev s _) (State.onDev_keeps _ s))

theorem State.dmaFromHost_keeps (ch : Nat) (j : DmaJob) (l : List Byte) (e : Bool) (s : State) :
    Keeps s (s.dmaFromHost ch j l e) := by
  unfold State.dmaFromHost
  extract_lets d q b
  exact .ite (.dev s _) (.ite (.dev s _) (((State.onDev_keeps _ s).trans (State.qStore_keeps _ _ _ _)).thenDev _))

theorem State.markPaged_keeps (p : Nat) (l : List Nat) (s : State) : Keeps s (State.markPaged p l s) := by
  induction l generalizing s with
  | nil => exact .refl s
  | cons g r ih => exact .trans (.mem s.dev _ (Memory.wf_write _ _ _)) (ih _)

theorem State.dmaComplete_keeps (ch : Nat) (l : List Byte) (e : Bool) (s : State) : Keeps s (s.dmaComplete ch l e) := by
  unfold State.dmaComplete
  split
  · exact .refl s
  · split
    · exact .refl s
    · split
      · exact .dev s _
      · split
        · exact State.dmaFromHost_keeps _ _ _ _ s
        · exact State.dmaToHost_keeps _ _ _ s

theorem State.pageData_keeps (s : State) : Keeps s s.pageData := by
  unfold State.pageData
  split
  · exact .refl s
  · split
    · exact .dev s _
    · split
      · exact .dev s _
      · extract_lets s' d t' recs
        have h : Keeps s s' := .mem s.dev _ (Memory.wf_writeBytes _ _ _)
        exact .ite (h.trans (.afterDev _ (State.markPaged_keeps _ _ _))) (h.thenDev _)

theorem State.streamPlace_keeps (q : Nat) (m : Option Nat) (l : List Byte) (s : State) : Keeps s (s.streamPlace q m l) := by
  unfold State.streamPlace
  dsimp only
  split
  · exact .dev s _
  · exact ((State.onDev_keeps _ s).trans (State.qStore_keeps _ _ _ _)).thenDev _

theorem State.streamDrain_keeps (q n : Nat) (s : State) : Keeps s (State.streamDrain q n s) := by
  induction n generalizing s with
  | zero => exact .refl s
  | succ n ih =>
    unfold State.streamDrain
    split
    · exact .refl s
    · split
      · exact .refl s
      · exact .afterDev _ ((State.streamPlace_keeps q _ _ _).trans (ih _))

theorem State.streamAccept_keeps (q : Nat) (m : Option Nat) (f : TsuFrame) (s : State) : Keeps s (s.streamAccept q m f) := by
  unfold State.streamAccept
  dsimp only
  split
  · exact .dev s _
  · exact .afterDev _ (State.streamDrain_keeps _ _ _)

theorem State.streamSkip_keeps (q : Nat) (s : State) : Keeps s (s.streamSkip q) := by
  unfold State.streamSkip
  dsimp only
  split
  · split
    · exact .refl s
    · exact .afterDev _ (State.streamDrain_keeps _ _ _)
  · exact .refl s

theorem State.tsucorRx_keeps (l : Nat) (b : List Byte) (s : State) : Keeps s (s.tsucorRx l b) := by
  unfold State.tsucorRx
  extract_lets d s' f
  refine .trans (.dev s d) (.ite (.refl s') (.ite (.dev s' _) ?_))
  split
  · exact .refl s'
  · exact .ite (State.streamAccept_keeps _ _ _ s') (.dev s' _)
  all_goals exact .dev s' _

/-! ### Captures -/

theorem State.closeRecord_keeps (t : Nat) (b : Bool) (s : State) : Keeps s (s.closeRecord t b) := by
  unfold State.closeRecord
  dsimp only
  split
  · exact .refl s
  · exact .thenDev _ (.ite (.dev s _) (.afterDev _ ((State.qStore_keeps _ _ _ _).trans (State.qStore_keeps _ _ _ _))))

theorem State.endQueueCapture_keeps (t : Nat) (b : Bool) (s : State) : Keeps s (s.endQueueCapture t b) :=
  .thenDev _ (State.closeRecord_keeps t b s)

theorem State.continueRecord_keeps (t : Nat) (p : Piece) (full : Bool) (s : State) : Keeps s (s.continueRecord t p full) := by
  unfold State.continueRecord
  dsimp only
  have h (d : Dev) (q a : Nat) (l : List Byte) :
      Keeps s (State.qStore q a l ({ s with dev := d } : State).settle) :=
    .afterDev _ ((State.settle_keeps _).trans (State.qStore_keeps _ _ _ _))
  split
  · split
    · exact .dev s _
    · exact .afterDev _ (State.endQueueCapture_keeps _ _ _)
  · split
    · exact h _ _ _ _
    · exact (h _ _ _ _).trans (State.closeRecord_keeps _ _ _)
    · exact (h _ _ _ _).trans (State.endQueueCapture_keeps _ _ _)

theorem State.beginRecord_keeps (t : Nat) (p : Piece) (full : Bool) (s : State) : Keeps s (s.beginRecord t p full) := by
  unfold State.beginRecord
  dsimp only
  have h (d : Dev) (q a : Nat) (l : List Byte) :
      Keeps s (State.qStore q a l ({ s with dev := d } : State).settle) :=
    .afterDev _ ((State.settle_keeps _).trans (State.qStore_keeps _ _ _ _))
  split
  · exact .refl s
  · split
    · split <;> exact .dev s _
    · split
      · split
        · exact h _ _ _ _
        · exact (h _ _ _ _).trans (State.closeRecord_keeps _ _ _)
        · exact (h _ _ _ _).trans (State.endQueueCapture_keeps _ _ _)
      · split <;> exact .thenDev _ (.afterDev _ (State.settle_keeps _))

theorem State.pieceToQueue_keeps (t : Nat) (p : Piece) (full : Bool) (s : State) : Keeps s (s.pieceToQueue t p full) := by
  unfold State.pieceToQueue
  split
  · split
    · exact (State.closeRecord_keeps _ _ _).trans (State.beginRecord_keeps _ _ _ _)
    · exact State.continueRecord_keeps _ _ _ s
  · exact State.beginRecord_keeps _ _ _ s

theorem State.ringWrite_keeps (b cap : Nat) (l : List Byte) (n : Nat) (s : State) : Keeps s (State.ringWrite b cap n l s) := by
  induction l generalizing n s with
  | nil => exact .refl s
  | cons v r ih =>
    unfold State.ringWrite
    exact (State.bufWrite_keeps _ _ _ _).trans (ih _ _)

theorem State.pieceToBuffer_keeps (t : Nat) (p : Piece) (s : State) : Keeps s (s.pieceToBuffer t p) := by
  unfold State.pieceToBuffer
  dsimp only
  split
  · exact .refl s
  · split
    · exact .refl s
    · exact .afterDev _ (State.ringWrite_keeps _ _ _ _ _)

theorem State.endBufferCapture_keeps (t : Nat) (b : Bool) (s : State) : Keeps s (s.endBufferCapture t b) :=
  .thenDev _ (.afterDev _ (State.bufWrite_keeps _ _ _ _))

theorem State.endAny_keeps (t : Nat) (b : Bool) (s : State) : Keeps s (s.endAny t b) := by
  unfold State.endAny
  exact .ite (.refl s) (.ite (State.endBufferCapture_keeps _ _ s) (.ite (.dev s _) (State.endQueueCapture_keeps _ _ s)))

theorem State.endCaptures_keeps (s : State) : Keeps s s.endCaptures := .foldl _ (fun s t => State.endAny_keeps t true s) _ s

theorem State.queueClosed_keeps (q : Nat) (s : State) : Keeps s (s.queueClosed q) :=
  .ite (.refl s) (.foldl _ (fun s t => State.endQueueCapture_keeps t false s) _ s)

theorem State.tapStop_keeps (t : Nat) (s : State) : Keeps s (s.tapStop t) := by
  unfold State.tapStop
  dsimp only
  refine .afterDev (s.dev.arrive (.capStop t)) ?_
  exact .ite (.refl _) (.ite (State.endQueueCapture_keeps _ _ _) (.ite (State.endBufferCapture_keeps _ _ _) (.dev _ _)))

theorem State.tapData_keeps (t : Nat) (i : TapItem) (full : Bool) (s : State) : Keeps s (s.tapData t i full) := by
  unfold State.tapData
  dsimp only
  split
  · exact .refl s
  · split
    · exact .refl s
    · exact .afterDev _ (.ite (.refl _) (.ite (.ite (State.endBufferCapture_keeps _ _ _) (State.pieceToBuffer_keeps _ _ _))
        (State.pieceToQueue_keeps _ _ _ _)))

theorem State.recordFull_keeps (t : Nat) (s : State) : Keeps s (s.recordFull t) := by
  unfold State.recordFull
  split
  · exact .ite (State.closeRecord_keeps _ _ s) (.refl s)
  · exact .refl s

theorem State.recordFlush_keeps (t : Nat) (s : State) : Keeps s (s.recordFlush t) := .ite (State.closeRecord_keeps _ _ s) (.refl s)

theorem State.tapRetry_keeps (t : Nat) (i : TapItem) (s : State) : Keeps s (s.tapRetry t i) :=
  .ite (State.tapData_keeps _ _ _ s) (.refl s)

theorem State.sourceLoss_keeps (t : Nat) (s : State) : Keeps s (s.sourceLoss t) := by
  unfold State.sourceLoss
  dsimp only
  refine .afterDev (s.dev.setTap t { s.dev.tap t with lost := true }) ?_
  exact .ite (.refl _) (.ite (State.endBufferCapture_keeps _ _ _) (.thenDev _ (State.closeRecord_keeps _ _ _)))

theorem State.bufferEnd_keeps (t : Nat) (s : State) : Keeps s (s.bufferEnd t) := .ite (State.endBufferCapture_keeps _ _ s) (.refl s)

theorem State.sramOvf_keeps (t : Nat) (s : State) : Keeps s (s.sramOvf t) :=
  .ite (.afterDev _ (State.endBufferCapture_keeps _ _ _)) (.refl s)

theorem State.chainReset_keeps (c : Nat) (s : State) : Keeps s (s.chainReset c) := by
  unfold State.chainReset
  dsimp only
  refine .thenDev _ ?_
  split
  · exact .ite (State.endBufferCapture_keeps _ _ s) (State.closeRecord_keeps _ _ s)
  · exact .refl s

theorem State.chainsReset_keeps (m : Nat) (s : State) : Keeps s (s.chainsReset m) :=
  .foldl _ (fun s c => .ite (State.chainReset_keeps c s) (.refl s)) _ s

theorem State.queueCommand_keeps (src : CmdSource) (q : Nat) (c : ProbeCmd) (f : Dev → Dev) (s : State) :
    Keeps s (s.queueCommand src q c f) := by
  unfold State.queueCommand
  split
  · exact .ite ((State.onDev_keeps _ s).trans (State.queueClosed_keeps _ _)) (.refl s)
  · dsimp only
    exact .ite (.dev s _) (.ite (.afterDev _ ((State.onDev_keeps _ _).trans (State.queueClosed_keeps _ _))) (.dev s _))

theorem State.queueEnable_keeps (req : Requester) (q : Nat) (en : Bool) (s : State) : Keeps s (s.queueEnable req q en) :=
  .ite (.refl s) ((State.onDev_keeps _ s).trans (State.queueClosed_keeps _ _))

theorem State.syncEvent_keeps (s : State) : Keeps s s.syncEvent := by
  unfold State.syncEvent
  dsimp only
  refine .ite (.refl s) (.thenDev _ (.ite (.refl s) (.thenDev _ (State.chainsReset_keeps _ s))))

/-! ### Resets -/

theorem State.chipReset_keeps (i : Nat) (s : State) : Keeps s (s.chipReset i) :=
  ⟨rfl, fun _ => Memory.wf_forgetAll _, fun _ => Memory.wf_forgetAll _⟩

theorem State.resetActions_keeps (b : Nat) (s : State) : Keeps s (s.resetActions b) := by
  unfold State.resetActions
  split
  · exact .dev s _
  · exact .dev s _
  · exact State.onDev_keeps _ s
  · exact State.onDev_keeps _ s
  · exact .dev s _
  · exact .thenDev _ (State.endCaptures_keeps s)
  · exact .dev s _
  · exact .refl s

theorem State.lostSources_keeps (d : Dev) (s : State) : Keeps s (s.lostSources d) :=
  .foldl _ (fun s t => .ite (State.sourceLoss_keeps t s) (.refl s)) _ s

theorem State.switchChanged_keeps (d : Dev) (s : State) : Keeps s (s.switchChanged d) := by
  unfold State.switchChanged
  extract_lets s'
  exact .thenDev _ (.afterDev _ (State.lostSources_keeps d _))

theorem State.startReset_keeps (b : Nat) (s : State) : Keeps s (s.startReset b) := by
  unfold State.startReset
  extract_lets d0 s' old d d'
  exact (State.resetActions_keeps b s).trans (.afterDev _ (State.switchChanged_keeps _ _))

theorem State.blockReset_keeps (b : Nat) (s : State) : Keeps s (s.blockReset b) :=
  .ite (.refl s) (.ite (.ite (.refl s) (.dev s _)) (State.startReset_keeps b s))

theorem State.powerOn_keeps (v : BitVec 5) (s : State) : Keeps s (s.powerOn v) := by
  unfold State.powerOn
  dsimp only
  split
  · exact .refl s
  · exact ⟨rfl, fun _ => Memory.wf_forgetAll _, fun _ => Memory.wf_forgetAll _⟩

/-! ### Faults -/

theorem State.react_keeps (s : State) (f : Nat) : Keeps s (s.react f) := by
  unfold State.react
  dsimp only
  exact .ite (.afterDev _ (State.blockReset_keeps _ _)) (.dev s _)

theorem State.collect_keeps (l : List Effective) (t : Nat) (s : State) : Keeps s (s.collect l t) := by
  unfold State.collect
  dsimp only
  split
  · exact .afterDev _ (State.chipReset_keeps _ _)
  · exact .afterDev _ (.foldl _ State.react_keeps _ _)

theorem State.faultCause_keeps (f : Nat) (s : State) : Keeps s (s.faultCause f) := by
  unfold State.faultCause
  dsimp only
  split
  · exact .refl s
  · exact .afterDev _ (State.collect_keeps _ _ _)

theorem State.fltWrite_keeps (f : Nat) (v : Word) (c p : Bool) (s : State) : Keeps s (s.fltWrite f v c p) := by
  unfold State.fltWrite
  exact .ite (.refl s) (.afterDev _ (State.collect_keeps _ _ _))

theorem State.clrAll_keeps (s : State) : Keeps s s.clrAll := by
  unfold State.clrAll
  extract_lets d e l
  exact .afterDev _ (State.collect_keeps _ _ _)

/-! ### Register accesses -/

theorem State.writeGlb_keeps (req : Requester) (a : Nat) (v : Word) (s : State) : Keeps s (s.writeGlb req a v) := by
  unfold State.writeGlb
  exact .ite (.dev s _) (.ite (.foldl _ (fun s i => .ite (State.blockReset_keeps _ s) (.refl s)) _ s)
    (.ite (.ite (State.chipReset_keeps _ s) (.refl s)) (.dev s _)))

theorem State.writeQueue_keeps (req : Requester) (q a off : Nat) (v : Word) (s : State) : Keeps s (s.writeQueue req q a off v) := by
  unfold State.writeQueue
  dsimp only
  have h (i : Nat) (f : Dev → Dev) (s : State) :
      Keeps s (if v.getLsbD i then s.queueCommand (.sw req) q (.qArm q) f else s) := .ite (State.queueCommand_keeps _ _ _ _ s) (.refl s)
  refine .ite (.refl s) (.ite ((((h _ _ s).trans (h _ _ _)).trans (h _ _ _)).trans (h _ _ _)) (.ite ?_ (.dev s _)))
  exact (State.onDev_keeps _ s).trans (State.queueClosed_keeps _ _)

theorem State.writeCap_keeps (a o : Nat) (v : Word) (s : State) : Keeps s (s.writeCap a o v) := by
  unfold State.writeCap
  exact .ite (State.chainsReset_keeps _ s) (.ite (.dev s _) (.ite (.dev s _) (.ite (.dev s _) (.dev s _))))

theorem State.writeFlt_keeps (a o : Nat) (v : Word) (s : State) : Keeps s (s.writeFlt a o v) := by
  unfold State.writeFlt
  extract_lets s' d
  exact .ite (.ite (.afterDev _ (State.clrAll_keeps s')) (.dev s _)) (.ite (.dev s _) (.ite (.ite (.dev s _) (.refl s))
    (.ite (State.fltWrite_keeps _ _ _ _ s) (.refl s))))

theorem State.writeReg_keeps (p : Bool) (req : Requester) (addr : Nat) (v : Word) (s : State) :
    Keeps s (s.writeReg p req addr v) := by
  unfold State.writeReg
  dsimp only
  split
  · exact .dev s _
  · split
    · exact .refl s
    · split
      · exact .ite (.dev s _) (State.onDev_keeps _ s)
      · split
        · exact State.writeQueue_keeps _ _ _ _ _ s
        · split
          · exact State.writeGlb_keeps _ _ _ s
          all_goals first
            | exact .dev s _
            | exact State.onDev_keeps _ s
            | exact State.writeCap_keeps _ _ _ s
            | exact State.writeFlt_keeps _ _ _ s

theorem State.access_keeps (req : Requester) (acc : RegAccess) (s : State) : Keeps s (s.access req acc) := by
  unfold State.access
  dsimp only
  refine .ite (.refl s) (.ite (.dev s _) ?_)
  split
  · exact .dev s _
  · exact State.writeReg_keeps _ _ _ _ s

theorem State.fwdExecute_keeps (o : Nat) (s : State) : Keeps s (s.fwdExecute o) := by
  unfold State.fwdExecute
  split
  · exact .refl s
  · dsimp only
    exact .ite (.dev s _) (.ite (.dev s _) (.thenDev _ (.afterDev _ (State.access_keeps _ _ _))))

/-! ### Power -/

theorem State.logAction_keeps (a g : Nat) (s : State) : Keeps s (s.logAction a g) := by
  unfold State.logAction
  dsimp only
  exact .ite (.dev s _) (.ite (.afterDev _ ((State.qStore_keeps _ _ _ _).trans (State.settle_keeps _))) (.dev s _))

theorem State.logAdapt_keeps (d : Dev) (x : Nat) (s : State) : Keeps s (s.logAdapt d x) := by
  unfold State.logAdapt
  dsimp only
  have h (c : Prop) [Decidable c] (a g : Nat) (s : State) : Keeps s (if c then s else s.logAction a g) :=
    .ite (.refl s) (State.logAction_keeps _ _ s)
  exact (h _ _ _ s).trans (h _ _ _ _)

theorem State.tempSample_keeps (l : List (BitVec 16)) (s : State) : Keeps s (s.tempSample l) := by
  unfold State.tempSample
  dsimp only
  split
  · exact .dev s _
  · exact .afterDev _ (State.logAction_keeps _ _ _)

theorem State.shedNext_keeps (s : State) : Keeps s s.shedNext := by
  unfold State.shedNext
  dsimp only
  refine .ite (State.logAction_keeps _ _ s) (.ite (.afterDev _ (State.logAction_keeps _ _ _)) (.ite (.afterDev _
    (State.logAction_keeps _ _ _)) (.ite (.dev s _) (.ite (.dev s _) (.ite ?_ (State.logAction_keeps _ _ s))))))
  split
  · exact .afterDev _ (State.logAction_keeps _ _ _)
  · exact .refl s

theorem State.shedUndo_keeps (s : State) : Keeps s s.shedUndo := by
  unfold State.shedUndo
  dsimp only
  split
  · exact .refl s
  · split
    · exact .afterDev _ (State.logAction_keeps _ _ _)
    · exact .afterDev _ (State.logAction_keeps _ _ _)
    · exact .dev s _
    · exact .dev s _
    · exact .afterDev _ (State.logAction_keeps _ _ _)

theorem State.decision_keeps (s : State) : Keeps s s.decision := by
  unfold State.decision
  extract_lets d n p d1 above limit t roomy d2 w d3 run s1 room s2
  refine .thenDev _ (.afterDev d3 ?_)
  exact .ite (.thenDev _ (State.shedNext_keeps s1)) (.ite (.thenDev _ (State.shedUndo_keeps s1)) (.dev s1 _))

/-! ### Boundaries, presets, commits -/

theorem State.boundary_keeps (u : ShadowUnit) (s : State) : Keeps s (s.boundary u) := by
  unfold State.boundary
  dsimp only
  split
  · exact .afterDev _ (State.logAdapt_keeps _ _ _)
  · exact .afterDev _ (State.logAdapt_keeps _ _ _)
  · exact .dev s _
  · exact .dev s _
  · exact State.onDev_keeps _ s
  · exact .dev s _
  · exact (State.onDev_keeps _ s).trans (State.queueClosed_keeps _ _)
  all_goals exact .dev s _

theorem State.preset_keeps (a : State × List (Nat × Word)) (p : Preset) : Keeps a.1 (State.preset a p).1 := by
  unfold State.preset
  dsimp only
  split
  · exact .refl _
  · exact .thenDev _ (State.writeReg_keeps _ _ _ _ _)

theorem State.presetSection_keeps (a : State × List (Nat × Word)) (l : List Preset) : Keeps a.1 (State.presetSection a l).1 := by
  have h : Keeps a.1 (l.foldl State.preset a).1 := by
    induction l generalizing a with
    | nil => exact .refl _
    | cons p r ih => exact (State.preset_keeps a p).trans (ih _)
  exact .thenDev _ h

theorem State.applyBlock_keeps (d : Dev) (s : State) (b : Nat) : Keeps s (State.applyBlock d s b) := by
  unfold State.applyBlock
  dsimp only
  split
  · exact .afterDev _ (State.logAdapt_keeps _ _ _)
  · exact .afterDev _ (State.logAdapt_keeps _ _ _)
  · exact .afterDev _ ((State.logAdapt_keeps _ _ _).trans (State.logAdapt_keeps _ _ _))
  any_goals exact .dev s _

theorem State.applyPresets_keeps (l : List (List Preset)) (bs : List Nat) (s : State) : Keeps s (State.applyPresets l bs s) := by
  unfold State.applyPresets
  dsimp only
  have h (a : State × List (Nat × Word)) : Keeps a.1 (l.foldl State.presetSection a).1 := by
    induction l generalizing a with
    | nil => exact .refl _
    | cons x r ih => exact (State.presetSection_keeps a x).trans (ih _)
  exact .thenDev _ ((Keeps.afterDev _ (h (_, _))).trans (.foldl _ (State.applyBlock_keeps _) _ _))

theorem State.restart_keeps (b : Nat) (s : State) : Keeps s (s.restart b) := by
  unfold State.restart
  dsimp only
  split
  any_goals exact .dev s _
  · exact State.chainsReset_keeps _ s

theorem State.resetDone_keeps (b : Nat) (s : State) : Keeps s (s.resetDone b) := by
  unfold State.resetDone
  dsimp only
  exact .ite (.refl s) (.afterDev _ (((State.applyPresets_keeps _ _ _).trans (State.restart_keeps _ _)).trans
    (State.switchChanged_keeps _ _)))

theorem State.runWaiting_keeps (s : State) : Keeps s s.runWaiting := by
  unfold State.runWaiting
  extract_lets
  exact .afterDev _ (.foldl _ (fun s b => State.blockReset_keeps b s) _ _)

theorem State.refuseCommit_keeps (c o : Nat) (s : State) : Keeps s (s.refuseCommit c o) := .afterDev _ (State.runWaiting_keeps _)

theorem State.enterRegion_keeps (s : State) (r : Nat) : Keeps s (s.enterRegion r) := by
  unfold State.enterRegion
  split
  · exact .dev s (s.dev.clpTxCheck 0)
  · exact .dev s (s.dev.clpTxCheck 1)
  · exact .dev s ((s.dev.frmApply 0).frmApply 1)
  · exact .dev s s.dev.stopEngines
  · exact .thenDev s.endCaptures.dev.playersIdle (State.endCaptures_keeps s)
  · exact .dev s s.dev.linksCheck
  · exact .refl s

theorem State.enterMaintenance_keeps (s : State) : Keeps s s.enterMaintenance := by
  unfold State.enterMaintenance
  extract_lets rs d
  exact .afterDev _ ((Keeps.foldl _ State.enterRegion_keeps _ _).trans (State.switchChanged_keeps _ _))

theorem State.commitChecked_keeps (s : State) : Keeps s s.commitChecked := by
  unfold State.commitChecked
  dsimp only
  split
  · exact .refl s
  · split
    · exact State.refuseCommit_keeps _ _ s
    · exact .ite (.dev s _) (State.enterMaintenance_keeps s)

theorem State.installMaps_keeps (s : State) (l : List (Nat × List QueueDecl)) : Keeps s (s.installMaps l) := State.onDev_keeps _ s

theorem State.renewBanks_keeps (d : Dev) (s : State) : Keeps s (s.renewBanks d) := by
  refine ⟨rfl, id, fun h => ?_⟩
  show Memory.wf (List.foldl _ s.sram (List.range 12)) = true
  generalize List.range 12 = l
  generalize s.sram = m at h
  induction l generalizing m with
  | nil => exact h
  | cons j r ih =>
    refine ih _ ?_
    dsimp only
    split
    · exact h
    · generalize List.range 8 = k
      clear ih
      induction k generalizing m with
      | nil => exact h
      | cons i k ih => exact ih _ (Memory.wf_forgetPage _ _ h)

theorem State.startRegion_keeps (d : Dev) (s : State) (r : Nat) : Keeps s (s.startRegion d r) := by
  unfold State.startRegion
  dsimp only
  split
  any_goals exact .dev s _
  · exact State.onDev_keeps _ s
  · exact .thenDev _ ((State.renewBanks_keeps d s).trans (State.chainsReset_keeps _ _))

theorem State.commitEnds_keeps (s : State) : Keeps s s.commitEnds := by
  unfold State.commitEnds
  dsimp only
  exact .ite (.refl s) (.trans (.thenDev _ (.trans (.trans (.trans (.afterDev _ (State.installMaps_keeps _ _))
    (State.applyPresets_keeps _ _ _)) (.foldl _ (State.startRegion_keeps _) _ _)) (State.switchChanged_keeps _ _)))
    (State.runWaiting_keeps _))

theorem State.globalReset_keeps (s : State) : Keeps s s.globalReset := .ite (.refl s) (.thenDev _ (State.chipReset_keeps 5 s))

theorem State.globalAgain_keeps (s : State) : Keeps s s.globalAgain := by
  unfold State.globalAgain
  dsimp only
  split
  · exact .refl s
  · split
    · exact .dev s _
    · split
      · exact .afterDev _ (State.refuseCommit_keeps _ _ _)
      · exact .afterDev _ (State.enterMaintenance_keeps _)

theorem State.loadFetched_keeps (x : Option (List Byte)) (s : State) : Keeps s (s.loadFetched x) := by
  unfold State.loadFetched
  dsimp only
  split
  · exact .refl s
  · split
    · exact .refl s
    · split
      · exact .refl s
      · split <;> exact .dev s _

/-! ### Crypto jobs, firmware -/

theorem State.jobWork_keeps (s : State) (a : Nat) (x : List Byte) : Keeps s (s.jobWork a x).1 := by
  unfold State.jobWork
  extract_lets slot len dst k s' input aad
  refine .trans (.dev s s'.dev) ?_
  split
  · split
    exact .mem (s := s') _ _ (fun h => Memory.wf_writeBytes _ _ _ (Memory.wf_writeBytes _ _ _ h))
  · split <;> exact .mem (s := s') s'.dev _ (Memory.wf_writeBytes _ _ _)

theorem State.cryptoJob_keeps (s : State) : Keeps s s.cryptoJob := by
  unfold State.cryptoJob
  dsimp only
  split
  · exact .refl s
  · split
    · exact .refl s
    · refine .thenDev _ ?_
      split
      · exact State.jobWork_keeps _ _ _
      · exact .dev s _

theorem State.cryptoJobDone_keeps (j : Nat) (s : State) : Keeps s (s.cryptoJobDone j) := by
  unfold State.cryptoJobDone
  dsimp only
  split
  · exact .refl s
  · exact ⟨rfl, Memory.wf_write _ _ _, id⟩

theorem State.fwWrite_keeps (c : Nat) (b : Bool) (s : State) : Keeps s (s.fwWrite c b) := by
  unfold State.fwWrite
  dsimp only
  split
  · exact .refl s
  · split
    · exact .dev s _
    · refine .ite (.dev s _) (.ite (.dev s _) (.ite (.dev s _) (.ite (.dev s _) (.ite (.dev s _) (.ite (.dev s _) (.dev s _))))))

end Sys2Proof.Machine
end

