-- ==== Sys2Proof/Laws/Forms.lean ====
section
/-! SUPPORT. What the forms of a meaning answer: every one a next state; with its effect where the chip runs and the premises of
the form hold, else the state as it was. -/

namespace Sys2Proof.Machine

/-! ### When the effect happens -/

theorem runState_alive {f : State → State} {s : State} (h : s.dev.alive = true) : runState f s = .next (f s) := by
  simp [runState, h]

theorem runState_dead {f : State → State} {s : State} (h : s.dev.alive = false) : runState f s = .next s := by
  simp [runState, h]

theorem runDev_alive {f : Dev → Dev} {s : State} (h : s.dev.alive = true) : runDev f s = .next { s with dev := f s.dev } := by
  simp [runDev, h]

theorem runDev_dead {f : Dev → Dev} {s : State} (h : s.dev.alive = false) : runDev f s = .next s := by
  simp [runDev, h]

theorem runBlock_runs {b : Nat} {f : Dev → Dev} {s : State} (h : s.dev.alive = true) (k : s.dev.inReset b = false) :
    runBlock b f s = .next { s with dev := f s.dev } := by
  simp [runBlock, runDev, h, k]

theorem runBlock_inReset {b : Nat} {f : Dev → Dev} {s : State} (k : s.dev.inReset b = true) : runBlock b f s = .next s := by
  simp [runBlock, runDev, k]

theorem runBlock_dead {b : Nat} {f : Dev → Dev} {s : State} (h : s.dev.alive = false) : runBlock b f s = .next s := by
  simp [runBlock, runDev, h]

theorem runBlockState_runs {b : Nat} {f : State → State} {s : State} (h : s.dev.alive = true) (k : s.dev.inReset b = false) :
    runBlockState b f s = .next (f s) := by
  simp [runBlockState, runState, h, k]

theorem runBlockState_inReset {b : Nat} {f : State → State} {s : State} (k : s.dev.inReset b = true) :
    runBlockState b f s = .next s := by
  simp [runBlockState, runState, k]

theorem runBlockState_dead {b : Nat} {f : State → State} {s : State} (h : s.dev.alive = false) : runBlockState b f s = .next s := by
  simp [runBlockState, runState, h]

theorem runWrite_runs {req : Requester} {b : Nat} {f : Dev → Dev} {s : State} (h : s.dev.alive = true)
    (k : s.dev.mayWrite req b = true) : runWrite req b f s = .next { s with dev := f s.dev } := by
  simp [runWrite, runDev, h, k]

theorem runWrite_refused {req : Requester} {b : Nat} {f : Dev → Dev} {s : State} (k : s.dev.mayWrite req b = false) :
    runWrite req b f s = .next s := by
  simp [runWrite, runDev, k]

theorem runWrite_dead {req : Requester} {b : Nat} {f : Dev → Dev} {s : State} (h : s.dev.alive = false) :
    runWrite req b f s = .next s := by
  simp [runWrite, runDev, h]

theorem runWriteState_runs {req : Requester} {b : Nat} {f : State → State} {s : State} (h : s.dev.alive = true)
    (k : s.dev.mayWrite req b = true) : runWriteState req b f s = .next (f s) := by
  simp [runWriteState, runState, h, k]

theorem runWriteState_refused {req : Requester} {b : Nat} {f : State → State} {s : State} (k : s.dev.mayWrite req b = false) :
    runWriteState req b f s = .next s := by
  simp [runWriteState, runState, k]

theorem runWriteState_dead {req : Requester} {b : Nat} {f : State → State} {s : State} (h : s.dev.alive = false) :
    runWriteState req b f s = .next s := by
  simp [runWriteState, runState, h]

theorem runQ_runs {f : Dev → Dev} {s : State} (h : s.dev.alive = true) (k : s.dev.inReset 9 = false) :
    runQ f s = .next (State.onDev f s) := by
  simp [runQ, runState, h, k, State.onDev]

theorem runQ_dead {f : Dev → Dev} {s : State} (h : s.dev.alive = false) : runQ f s = .next s := by
  simp [runQ, runState, h]

theorem runMrg_runs {f : Dev → Dev} {s : State} (h : s.dev.alive = true) (k : s.dev.inReset 7 = false) :
    runMrg f s = .next (State.onDev f s) := by
  simp [runMrg, runBlockState, runState, h, k]

theorem runMrg_inReset {f : Dev → Dev} {s : State} (k : s.dev.inReset 7 = true) : runMrg f s = .next s := by
  simp [runMrg, runBlockState, runState, k]

theorem runMrg_dead {f : Dev → Dev} {s : State} (h : s.dev.alive = false) : runMrg f s = .next s := by
  simp [runMrg, runBlockState, runState, h]

/-! ### Every answer is a next state that keeps the queue and the form of the memories -/

/-- The outcome is a next state that keeps what s keeps. -/
def Answers (s : State) (o : Host.Outcome State Fault Refusal) : Prop := ∃ t, o = .next t ∧ Keeps s t

theorem runState_answers {f : State → State} {s : State} (h : ∀ s, Keeps s (f s)) : Answers s (runState f s) :=
  ⟨_, rfl, .ite (h s) (.refl s)⟩

theorem runDev_answers (f : Dev → Dev) (s : State) : Answers s (runDev f s) := ⟨_, rfl, .ite (.dev s _) (.refl s)⟩

theorem runBlock_answers (b : Nat) (f : Dev → Dev) (s : State) : Answers s (runBlock b f s) := runDev_answers _ s

theorem runWrite_answers (req : Requester) (b : Nat) (f : Dev → Dev) (s : State) : Answers s (runWrite req b f s) :=
  runDev_answers _ s

theorem runBlockState_answers {b : Nat} {f : State → State} {s : State} (h : ∀ s, Keeps s (f s)) :
    Answers s (runBlockState b f s) := runState_answers (fun s => .ite (.refl s) (h s))

theorem runWriteState_answers {req : Requester} {b : Nat} {f : State → State} {s : State} (h : ∀ s, Keeps s (f s)) :
    Answers s (runWriteState req b f s) := runState_answers (fun s => .ite (h s) (.refl s))

theorem runQ_answers (f : Dev → Dev) (s : State) : Answers s (runQ f s) := runState_answers (State.onDev_keeps _)

theorem runMrg_answers (f : Dev → Dev) (s : State) : Answers s (runMrg f s) := runBlockState_answers (State.onDev_keeps _)

/-! ### Commands of the device alone -/

/-- The outcome is a next state that differs from s in the device at most. -/
def DeviceOnly (s : State) (o : Host.Outcome State Fault Refusal) : Prop := ∃ d, o = .next { s with dev := d }

theorem runDev_deviceOnly (f : Dev → Dev) (s : State) : DeviceOnly s (runDev f s) := by
  unfold runDev
  split
  · exact ⟨_, rfl⟩
  · exact ⟨s.dev, rfl⟩

theorem runBlock_deviceOnly (b : Nat) (f : Dev → Dev) (s : State) : DeviceOnly s (runBlock b f s) := runDev_deviceOnly _ s

theorem runWrite_deviceOnly (req : Requester) (b : Nat) (f : Dev → Dev) (s : State) : DeviceOnly s (runWrite req b f s) :=
  runDev_deviceOnly _ s

end Sys2Proof.Machine
end

