-- ==== Sys2Proof/Laws/Regs.lean ====
section
/-! SUPPORT. Laws of registers and fields: what is written is read back, and nothing else changes. -/

namespace Sys2Proof.Machine

/-! ### Bits of a word -/

/-- The bits a value placed in [hi:lo] sets. -/
theorem getLsbD_placeBits {hi lo : Nat} (h : lo ≤ hi) (v j : Nat) :
    (placeBits hi lo v).getLsbD j = (decide (j < 32) && decide (lo ≤ j) && decide (j ≤ hi) && v.testBit (j - lo)) := by
  unfold placeBits
  rw [BitVec.getLsbD_shiftLeft, BitVec.getLsbD_ofNat, Nat.testBit_mod_two_pow]
  by_cases h1 : j < 32 <;> by_cases h2 : lo ≤ j <;> by_cases h3 : j ≤ hi
  all_goals first
    | (have a : ¬ j < lo := by omega
       have b : j - lo < 32 := by omega
       have c : (j - lo < hi - lo + 1) ↔ j ≤ hi := by omega
       simp [h1, h2, h3, a, b, c])
    | simp [h1, h2, h3]

/-- The bits of the mask of [hi:lo]. -/
theorem getLsbD_maskBits {hi lo : Nat} (h : lo ≤ hi) (j : Nat) :
    (maskBits hi lo).getLsbD j = (decide (j < 32) && decide (lo ≤ j) && decide (j ≤ hi)) := by
  unfold maskBits
  rw [getLsbD_placeBits h, Nat.testBit_two_pow_sub_one]
  by_cases h1 : j < 32 <;> by_cases h2 : lo ≤ j <;> by_cases h3 : j ≤ hi <;> (simp [h1, h2, h3]; try omega)

/-- The bits of a word with a field replaced. -/
theorem getLsbD_setBits {hi lo : Nat} (h : lo ≤ hi) (w : Word) (v j : Nat) :
    (setBits w hi lo v).getLsbD j =
      (decide (j < 32) && (if lo ≤ j ∧ j ≤ hi then v.testBit (j - lo) else w.getLsbD j)) := by
  unfold setBits
  simp only [BitVec.getLsbD_or, BitVec.getLsbD_and, BitVec.getLsbD_not, getLsbD_placeBits h, getLsbD_maskBits h]
  by_cases h1 : j < 32 <;> by_cases h2 : lo ≤ j <;> by_cases h3 : j ≤ hi <;> simp [h1, h2, h3]

/-- The bits of a field's value. -/
theorem testBit_getBits (w : Word) (hi lo j : Nat) :
    (getBits w hi lo).testBit j = (decide (j < hi - lo + 1) && w.getLsbD (lo + j)) := by
  unfold getBits
  rw [Nat.testBit_mod_two_pow, BitVec.testBit_toNat, BitVec.getLsbD_ushiftRight]

/-- A field reads back the value written, cut to its width. -/
theorem getBits_setBits_self {hi lo : Nat} (h : lo ≤ hi) (h32 : hi < 32) (w : Word) (v : Nat) :
    getBits (setBits w hi lo v) hi lo = v % 2 ^ (hi - lo + 1) := by
  apply Nat.eq_of_testBit_eq
  intro j
  rw [testBit_getBits, Nat.testBit_mod_two_pow, getLsbD_setBits h]
  by_cases hj : j < hi - lo + 1
  · have a : lo + j < 32 := by omega
    have b : lo + j ≤ hi := by omega
    simp [hj, a, b]
  · simp [hj]

/-- Writing a field leaves the fields beside it. -/
theorem getBits_setBits_ne {hi lo hi' lo' : Nat} (h : lo ≤ hi) (w : Word) (v : Nat) (hd : hi < lo' ∨ hi' < lo)
    (h' : lo' ≤ hi') (h32 : hi' < 32) : getBits (setBits w hi lo v) hi' lo' = getBits w hi' lo' := by
  apply Nat.eq_of_testBit_eq
  intro j
  rw [testBit_getBits, testBit_getBits, getLsbD_setBits h]
  by_cases hj : j < hi' - lo' + 1
  · have a : lo' + j < 32 := by omega
    have b : ¬ (lo ≤ lo' + j ∧ lo' + j ≤ hi) := by omega
    simp [hj, a, b]
  · simp [hj]

/-- A field's value is below 2 to its width. -/
theorem getBits_lt (w : Word) (hi lo : Nat) : getBits w hi lo < 2 ^ (hi - lo + 1) := Nat.mod_lt _ (Nat.two_pow_pos _)

/-! ### Registers -/

/-- Reading any register after a write. -/
theorem Dev.reg_setReg (d : Dev) (a b : Nat) (v : Word) : (d.setReg a v).reg b = if b = a then v else d.reg b := by
  show Sparse.get (resetWordOf b) (Sparse.put (resetWordOf a) d.regs a v) b = _
  rw [Sparse.get_put _ _ _ _ _ _ (fun h => by rw [h])]; rfl

/-- The register written reads back the value. -/
@[simp] theorem Dev.reg_setReg_self (d : Dev) (a : Nat) (v : Word) : (d.setReg a v).reg a = v := by
  rw [Dev.reg_setReg]; simp

/-- Writing one register leaves every other. -/
theorem Dev.reg_setReg_ne (d : Dev) {a b : Nat} (v : Word) (h : b ≠ a) : (d.setReg a v).reg b = d.reg b := by
  rw [Dev.reg_setReg]; simp [h]

/-- Writing a field leaves every other register. -/
theorem Dev.reg_put_ne (d : Dev) (f : Fld) (v : Nat) {b : Nat} (h : b ≠ f.addr) : (d.put f v).reg b = d.reg b :=
  Dev.reg_setReg_ne d _ h

/-- The register of a written field. -/
theorem Dev.reg_put_self (d : Dev) (f : Fld) (v : Nat) : (d.put f v).reg f.addr = setBits (d.reg f.addr) f.hi f.lo v :=
  Dev.reg_setReg_self d _ _

/-- Any register after a field is written. -/
theorem Dev.reg_put (d : Dev) (f : Fld) (v b : Nat) :
    (d.put f v).reg b = if b = f.addr then setBits (d.reg f.addr) f.hi f.lo v else d.reg b := Dev.reg_setReg d _ _ _

/-- Any field after a register is written. -/
theorem Dev.get_setReg (d : Dev) (a : Nat) (v : Word) (g : Fld) :
    (d.setReg a v).get g = if g.addr = a then getBits v g.hi g.lo else d.get g := by
  unfold Dev.get; rw [Dev.reg_setReg]; split <;> rfl

/-- Any field after a field is written. -/
theorem Dev.get_put (d : Dev) (f g : Fld) (v : Nat) :
    (d.put f v).get g = if g.addr = f.addr then getBits (setBits (d.reg f.addr) f.hi f.lo v) g.hi g.lo else d.get g :=
  Dev.get_setReg d _ _ _

/-- A field within a word. -/
def Fld.ok (f : Fld) : Prop := f.lo ≤ f.hi ∧ f.hi < 32

/-- Any field of the table lies within its word: `Fld.ok_of _ rfl rfl`, whatever its address depends on. -/
theorem Fld.ok_of (f : Fld) (h : Nat.ble f.lo f.hi = true) (k : Nat.ble (f.hi + 1) 32 = true) : f.ok :=
  ⟨Nat.le_of_ble_eq_true h, Nat.le_of_ble_eq_true k⟩

/-- A field that stands above another: `Fld.above rfl`. -/
theorem Fld.above {f g : Fld} (h : Nat.ble (f.hi + 1) g.lo = true) : f.hi < g.lo := Nat.le_of_ble_eq_true h

/-- A field reads back the value written, cut to its width (R12). -/
theorem Dev.get_put_self (d : Dev) (f : Fld) (v : Nat) (h : f.ok) : (d.put f v).get f = v % 2 ^ (f.hi - f.lo + 1) := by
  rw [Dev.get_put]; simp only [if_true]; exact getBits_setBits_self h.1 h.2 _ v

/-- Writing a field leaves every field that shares no bit with it. -/
theorem Dev.get_put_ne (d : Dev) (f g : Fld) (v : Nat) (hf : f.ok) (hg : g.ok)
    (h : g.addr ≠ f.addr ∨ f.hi < g.lo ∨ g.hi < f.lo) : (d.put f v).get g = d.get g := by
  rw [Dev.get_put]
  by_cases ha : g.addr = f.addr
  · simp only [ha, if_true]
    rw [getBits_setBits_ne hf.1 _ v (by rcases h with h | h | h <;> simp_all) hg.1 hg.2]
    unfold Dev.get; rw [ha]
  · simp [ha]

/-- A field's value is below 2 to its width. -/
theorem Dev.get_lt (d : Dev) (f : Fld) : d.get f < 2 ^ (f.hi - f.lo + 1) := getBits_lt _ _ _

/-- A saturating count (R16). -/
theorem Dev.get_incSat_self (d : Dev) (f : Fld) (n : Nat) (h : f.ok) :
    (d.incSat f n).get f = min (d.get f + n) (2 ^ (f.hi - f.lo + 1) - 1) := by
  unfold Dev.incSat
  rw [Dev.get_put_self d f _ h]
  exact Nat.mod_eq_of_lt (by have := Nat.two_pow_pos (f.hi - f.lo + 1); omega)

/-- A status bit that is set reads 1. -/
theorem Dev.bitAt_setBit_self (d : Dev) (a i : Nat) (h : i < 32) : (d.setBit a i).bitAt a i = true := by
  unfold Dev.bitAt Dev.setBit
  rw [Dev.reg_setReg_self, BitVec.getLsbD_or, getLsbD_placeBits (Nat.le_refl i)]; simp [h]

/-- The bits of a single status bit. -/
theorem getLsbD_placeBit (i j : Nat) : (placeBits i i 1).getLsbD j = (decide (j < 32) && decide (j = i)) := by
  rw [getLsbD_placeBits (Nat.le_refl i)]
  by_cases h : j = i
  · subst h; simp
  · have : ¬ (i ≤ j ∧ j ≤ i) := by omega
    by_cases h1 : i ≤ j <;> by_cases h2 : j ≤ i <;> simp_all

/-- Every bit after a status bit is set. -/
theorem Dev.bitAt_setBit (d : Dev) (a i b j : Nat) :
    (d.setBit a i).bitAt b j = (d.bitAt b j || (decide (b = a) && decide (j < 32) && decide (j = i))) := by
  unfold Dev.bitAt Dev.setBit
  rw [Dev.reg_setReg]
  by_cases hb : b = a
  · subst hb; simp only [if_true, BitVec.getLsbD_or, getLsbD_placeBit]; simp
  · simp [hb]

/-- Setting a status bit leaves every other bit. -/
theorem Dev.bitAt_setBit_ne (d : Dev) (a i b j : Nat) (h : b ≠ a ∨ j ≠ i) : (d.setBit a i).bitAt b j = d.bitAt b j := by
  rw [Dev.bitAt_setBit]; rcases h with h | h <;> simp [h]

/-- Every bit after a status bit is cleared. -/
theorem Dev.bitAt_clrBit (d : Dev) (a i b j : Nat) :
    (d.clrBit a i).bitAt b j = (d.bitAt b j && !(decide (b = a) && decide (j = i))) := by
  unfold Dev.bitAt Dev.clrBit
  rw [Dev.reg_setReg]
  by_cases hb : b = a
  · subst hb
    by_cases hj : j < 32
    · simp only [if_true, BitVec.getLsbD_and, BitVec.getLsbD_not, getLsbD_placeBit]; simp [hj]
    · simp only [if_true]; rw [BitVec.getLsbD_of_ge _ _ (by omega), BitVec.getLsbD_of_ge _ _ (by omega)]; rfl
  · simp [hb]

/-- A status bit that is cleared reads 0. -/
theorem Dev.bitAt_clrBit_self (d : Dev) (a i : Nat) : (d.clrBit a i).bitAt a i = false := by
  rw [Dev.bitAt_clrBit]; simp

/-- Clearing a status bit leaves every other bit. -/
theorem Dev.bitAt_clrBit_ne (d : Dev) (a i b j : Nat) (h : b ≠ a ∨ j ≠ i) : (d.clrBit a i).bitAt b j = d.bitAt b j := by
  rw [Dev.bitAt_clrBit]; rcases h with h | h <;> simp [h]

/-- Bits of other registers after a field is written. -/
theorem Dev.bitAt_put_ne (d : Dev) (f : Fld) (v b j : Nat) (h : b ≠ f.addr) : (d.put f v).bitAt b j = d.bitAt b j := by
  unfold Dev.bitAt; rw [Dev.reg_put_ne d f v h]

end Sys2Proof.Machine
end

