-- ==== Sys2Proof/Laws/State.lean ====
section
/-! SUPPORT. What the shared updates of the device leave unchanged: one lemma for each field and update. -/

namespace Sys2Proof.Machine

/-! ### Dev.setReg -/

@[simp] theorem Dev.setReg_shadow (d : Dev) (a : Nat) (v : Word) : (d.setReg a v).shadow = d.shadow := rfl
@[simp] theorem Dev.setReg_held (d : Dev) (a : Nat) (v : Word) : (d.setReg a v).held = d.held := rfl
@[simp] theorem Dev.setReg_snaps (d : Dev) (a : Nat) (v : Word) : (d.setReg a v).snaps = d.snaps := rfl
@[simp] theorem Dev.setReg_rdata (d : Dev) (a : Nat) (v : Word) : (d.setReg a v).rdata = d.rdata := rfl
@[simp] theorem Dev.setReg_fresh (d : Dev) (a : Nat) (v : Word) : (d.setReg a v).fresh = d.fresh := rfl
@[simp] theorem Dev.setReg_ticks (d : Dev) (a : Nat) (v : Word) : (d.setReg a v).ticks = d.ticks := rfl
@[simp] theorem Dev.setReg_tc (d : Dev) (a : Nat) (v : Word) : (d.setReg a v).tc = d.tc := rfl
@[simp] theorem Dev.setReg_msix (d : Dev) (a : Nat) (v : Word) : (d.setReg a v).msix = d.msix := rfl
@[simp] theorem Dev.setReg_traps (d : Dev) (a : Nat) (v : Word) : (d.setReg a v).traps = d.traps := rfl
@[simp] theorem Dev.setReg_coreInts (d : Dev) (a : Nat) (v : Word) : (d.setReg a v).coreInts = d.coreInts := rfl
@[simp] theorem Dev.setReg_tapLog (d : Dev) (a : Nat) (v : Word) : (d.setReg a v).tapLog = d.tapLog := rfl
@[simp] theorem Dev.setReg_causes (d : Dev) (a : Nat) (v : Word) : (d.setReg a v).causes = d.causes := rfl
@[simp] theorem Dev.setReg_arising (d : Dev) (a : Nat) (v : Word) : (d.setReg a v).arising = d.arising := rfl
@[simp] theorem Dev.setReg_msiDue (d : Dev) (a : Nat) (v : Word) : (d.setReg a v).msiDue = d.msiDue := rfl
@[simp] theorem Dev.setReg_msiFrom (d : Dev) (a : Nat) (v : Word) : (d.setReg a v).msiFrom = d.msiFrom := rfl
@[simp] theorem Dev.setReg_resetWait (d : Dev) (a : Nat) (v : Word) : (d.setReg a v).resetWait = d.resetWait := rfl
@[simp] theorem Dev.setReg_pcieSeen (d : Dev) (a : Nat) (v : Word) : (d.setReg a v).pcieSeen = d.pcieSeen := rfl
@[simp] theorem Dev.setReg_pcieIds (d : Dev) (a : Nat) (v : Word) : (d.setReg a v).pcieIds = d.pcieIds := rfl
@[simp] theorem Dev.setReg_str (d : Dev) (a : Nat) (v : Word) : (d.setReg a v).str = d.str := rfl
@[simp] theorem Dev.setReg_prb (d : Dev) (a : Nat) (v : Word) : (d.setReg a v).prb = d.prb := rfl
@[simp] theorem Dev.setReg_powered (d : Dev) (a : Nat) (v : Word) : (d.setReg a v).powered = d.powered := rfl
@[simp] theorem Dev.setReg_thermHold (d : Dev) (a : Nat) (v : Word) : (d.setReg a v).thermHold = d.thermHold := rfl
@[simp] theorem Dev.setReg_chainRemote (d : Dev) (a : Nat) (v : Word) : (d.setReg a v).chainRemote = d.chainRemote := rfl
@[simp] theorem Dev.setReg_gated (d : Dev) (a : Nat) (v : Word) : (d.setReg a v).gated = d.gated := rfl
@[simp] theorem Dev.setReg_chainOut (d : Dev) (a : Nat) (v : Word) : (d.setReg a v).chainOut = d.chainOut := rfl
@[simp] theorem Dev.setReg_line (d : Dev) (a : Nat) (v : Word) : (d.setReg a v).line = d.line := rfl
@[simp] theorem Dev.setReg_fec (d : Dev) (a : Nat) (v : Word) : (d.setReg a v).fec = d.fec := rfl
@[simp] theorem Dev.setReg_frm (d : Dev) (a : Nat) (v : Word) : (d.setReg a v).frm = d.frm := rfl
@[simp] theorem Dev.setReg_cry (d : Dev) (a : Nat) (v : Word) : (d.setReg a v).cry = d.cry := rfl
@[simp] theorem Dev.setReg_mrg (d : Dev) (a : Nat) (v : Word) : (d.setReg a v).mrg = d.mrg := rfl
@[simp] theorem Dev.setReg_hst (d : Dev) (a : Nat) (v : Word) : (d.setReg a v).hst = d.hst := rfl
@[simp] theorem Dev.setReg_rms (d : Dev) (a : Nat) (v : Word) : (d.setReg a v).rms = d.rms := rfl
@[simp] theorem Dev.setReg_spillOut (d : Dev) (a : Nat) (v : Word) : (d.setReg a v).spillOut = d.spillOut := rfl
@[simp] theorem Dev.setReg_cap (d : Dev) (a : Nat) (v : Word) : (d.setReg a v).cap = d.cap := rfl
@[simp] theorem Dev.setReg_clp (d : Dev) (a : Nat) (v : Word) : (d.setReg a v).clp = d.clp := rfl
@[simp] theorem Dev.setReg_clpLog (d : Dev) (a : Nat) (v : Word) : (d.setReg a v).clpLog = d.clpLog := rfl
@[simp] theorem Dev.setReg_hbOut (d : Dev) (a : Nat) (v : Word) : (d.setReg a v).hbOut = d.hbOut := rfl
@[simp] theorem Dev.setReg_tim (d : Dev) (a : Nat) (v : Word) : (d.setReg a v).tim = d.tim := rfl
@[simp] theorem Dev.setReg_chn (d : Dev) (a : Nat) (v : Word) : (d.setReg a v).chn = d.chn := rfl
@[simp] theorem Dev.setReg_straps (d : Dev) (a : Nat) (v : Word) : (d.setReg a v).straps = d.straps := rfl
@[simp] theorem Dev.setReg_sec (d : Dev) (a : Nat) (v : Word) : (d.setReg a v).sec = d.sec := rfl
@[simp] theorem Dev.setReg_pwr (d : Dev) (a : Nat) (v : Word) : (d.setReg a v).pwr = d.pwr := rfl
@[simp] theorem Dev.setReg_hk (d : Dev) (a : Nat) (v : Word) : (d.setReg a v).hk = d.hk := rfl
@[simp] theorem Dev.setReg_i2c (d : Dev) (a : Nat) (v : Word) : (d.setReg a v).i2c = d.i2c := rfl

/-! ### Dev.put -/

@[simp] theorem Dev.put_shadow (d : Dev) (f : Fld) (v : Nat) : (d.put f v).shadow = d.shadow := rfl
@[simp] theorem Dev.put_held (d : Dev) (f : Fld) (v : Nat) : (d.put f v).held = d.held := rfl
@[simp] theorem Dev.put_snaps (d : Dev) (f : Fld) (v : Nat) : (d.put f v).snaps = d.snaps := rfl
@[simp] theorem Dev.put_rdata (d : Dev) (f : Fld) (v : Nat) : (d.put f v).rdata = d.rdata := rfl
@[simp] theorem Dev.put_fresh (d : Dev) (f : Fld) (v : Nat) : (d.put f v).fresh = d.fresh := rfl
@[simp] theorem Dev.put_ticks (d : Dev) (f : Fld) (v : Nat) : (d.put f v).ticks = d.ticks := rfl
@[simp] theorem Dev.put_tc (d : Dev) (f : Fld) (v : Nat) : (d.put f v).tc = d.tc := rfl
@[simp] theorem Dev.put_msix (d : Dev) (f : Fld) (v : Nat) : (d.put f v).msix = d.msix := rfl
@[simp] theorem Dev.put_traps (d : Dev) (f : Fld) (v : Nat) : (d.put f v).traps = d.traps := rfl
@[simp] theorem Dev.put_coreInts (d : Dev) (f : Fld) (v : Nat) : (d.put f v).coreInts = d.coreInts := rfl
@[simp] theorem Dev.put_tapLog (d : Dev) (f : Fld) (v : Nat) : (d.put f v).tapLog = d.tapLog := rfl
@[simp] theorem Dev.put_causes (d : Dev) (f : Fld) (v : Nat) : (d.put f v).causes = d.causes := rfl
@[simp] theorem Dev.put_arising (d : Dev) (f : Fld) (v : Nat) : (d.put f v).arising = d.arising := rfl
@[simp] theorem Dev.put_msiDue (d : Dev) (f : Fld) (v : Nat) : (d.put f v).msiDue = d.msiDue := rfl
@[simp] theorem Dev.put_msiFrom (d : Dev) (f : Fld) (v : Nat) : (d.put f v).msiFrom = d.msiFrom := rfl
@[simp] theorem Dev.put_resetWait (d : Dev) (f : Fld) (v : Nat) : (d.put f v).resetWait = d.resetWait := rfl
@[simp] theorem Dev.put_pcieSeen (d : Dev) (f : Fld) (v : Nat) : (d.put f v).pcieSeen = d.pcieSeen := rfl
@[simp] theorem Dev.put_pcieIds (d : Dev) (f : Fld) (v : Nat) : (d.put f v).pcieIds = d.pcieIds := rfl
@[simp] theorem Dev.put_str (d : Dev) (f : Fld) (v : Nat) : (d.put f v).str = d.str := rfl
@[simp] theorem Dev.put_prb (d : Dev) (f : Fld) (v : Nat) : (d.put f v).prb = d.prb := rfl
@[simp] theorem Dev.put_powered (d : Dev) (f : Fld) (v : Nat) : (d.put f v).powered = d.powered := rfl
@[simp] theorem Dev.put_thermHold (d : Dev) (f : Fld) (v : Nat) : (d.put f v).thermHold = d.thermHold := rfl
@[simp] theorem Dev.put_chainRemote (d : Dev) (f : Fld) (v : Nat) : (d.put f v).chainRemote = d.chainRemote := rfl
@[simp] theorem Dev.put_gated (d : Dev) (f : Fld) (v : Nat) : (d.put f v).gated = d.gated := rfl
@[simp] theorem Dev.put_chainOut (d : Dev) (f : Fld) (v : Nat) : (d.put f v).chainOut = d.chainOut := rfl
@[simp] theorem Dev.put_line (d : Dev) (f : Fld) (v : Nat) : (d.put f v).line = d.line := rfl
@[simp] theorem Dev.put_fec (d : Dev) (f : Fld) (v : Nat) : (d.put f v).fec = d.fec := rfl
@[simp] theorem Dev.put_frm (d : Dev) (f : Fld) (v : Nat) : (d.put f v).frm = d.frm := rfl
@[simp] theorem Dev.put_cry (d : Dev) (f : Fld) (v : Nat) : (d.put f v).cry = d.cry := rfl
@[simp] theorem Dev.put_mrg (d : Dev) (f : Fld) (v : Nat) : (d.put f v).mrg = d.mrg := rfl
@[simp] theorem Dev.put_hst (d : Dev) (f : Fld) (v : Nat) : (d.put f v).hst = d.hst := rfl
@[simp] theorem Dev.put_rms (d : Dev) (f : Fld) (v : Nat) : (d.put f v).rms = d.rms := rfl
@[simp] theorem Dev.put_spillOut (d : Dev) (f : Fld) (v : Nat) : (d.put f v).spillOut = d.spillOut := rfl
@[simp] theorem Dev.put_cap (d : Dev) (f : Fld) (v : Nat) : (d.put f v).cap = d.cap := rfl
@[simp] theorem Dev.put_clp (d : Dev) (f : Fld) (v : Nat) : (d.put f v).clp = d.clp := rfl
@[simp] theorem Dev.put_clpLog (d : Dev) (f : Fld) (v : Nat) : (d.put f v).clpLog = d.clpLog := rfl
@[simp] theorem Dev.put_hbOut (d : Dev) (f : Fld) (v : Nat) : (d.put f v).hbOut = d.hbOut := rfl
@[simp] theorem Dev.put_tim (d : Dev) (f : Fld) (v : Nat) : (d.put f v).tim = d.tim := rfl
@[simp] theorem Dev.put_chn (d : Dev) (f : Fld) (v : Nat) : (d.put f v).chn = d.chn := rfl
@[simp] theorem Dev.put_straps (d : Dev) (f : Fld) (v : Nat) : (d.put f v).straps = d.straps := rfl
@[simp] theorem Dev.put_sec (d : Dev) (f : Fld) (v : Nat) : (d.put f v).sec = d.sec := rfl
@[simp] theorem Dev.put_pwr (d : Dev) (f : Fld) (v : Nat) : (d.put f v).pwr = d.pwr := rfl
@[simp] theorem Dev.put_hk (d : Dev) (f : Fld) (v : Nat) : (d.put f v).hk = d.hk := rfl
@[simp] theorem Dev.put_i2c (d : Dev) (f : Fld) (v : Nat) : (d.put f v).i2c = d.i2c := rfl

/-! ### Dev.setBit -/

@[simp] theorem Dev.setBit_shadow (d : Dev) (a i : Nat) : (d.setBit a i).shadow = d.shadow := rfl
@[simp] theorem Dev.setBit_held (d : Dev) (a i : Nat) : (d.setBit a i).held = d.held := rfl
@[simp] theorem Dev.setBit_snaps (d : Dev) (a i : Nat) : (d.setBit a i).snaps = d.snaps := rfl
@[simp] theorem Dev.setBit_rdata (d : Dev) (a i : Nat) : (d.setBit a i).rdata = d.rdata := rfl
@[simp] theorem Dev.setBit_fresh (d : Dev) (a i : Nat) : (d.setBit a i).fresh = d.fresh := rfl
@[simp] theorem Dev.setBit_ticks (d : Dev) (a i : Nat) : (d.setBit a i).ticks = d.ticks := rfl
@[simp] theorem Dev.setBit_tc (d : Dev) (a i : Nat) : (d.setBit a i).tc = d.tc := rfl
@[simp] theorem Dev.setBit_msix (d : Dev) (a i : Nat) : (d.setBit a i).msix = d.msix := rfl
@[simp] theorem Dev.setBit_traps (d : Dev) (a i : Nat) : (d.setBit a i).traps = d.traps := rfl
@[simp] theorem Dev.setBit_coreInts (d : Dev) (a i : Nat) : (d.setBit a i).coreInts = d.coreInts := rfl
@[simp] theorem Dev.setBit_tapLog (d : Dev) (a i : Nat) : (d.setBit a i).tapLog = d.tapLog := rfl
@[simp] theorem Dev.setBit_causes (d : Dev) (a i : Nat) : (d.setBit a i).causes = d.causes := rfl
@[simp] theorem Dev.setBit_arising (d : Dev) (a i : Nat) : (d.setBit a i).arising = d.arising := rfl
@[simp] theorem Dev.setBit_msiDue (d : Dev) (a i : Nat) : (d.setBit a i).msiDue = d.msiDue := rfl
@[simp] theorem Dev.setBit_msiFrom (d : Dev) (a i : Nat) : (d.setBit a i).msiFrom = d.msiFrom := rfl
@[simp] theorem Dev.setBit_resetWait (d : Dev) (a i : Nat) : (d.setBit a i).resetWait = d.resetWait := rfl
@[simp] theorem Dev.setBit_pcieSeen (d : Dev) (a i : Nat) : (d.setBit a i).pcieSeen = d.pcieSeen := rfl
@[simp] theorem Dev.setBit_pcieIds (d : Dev) (a i : Nat) : (d.setBit a i).pcieIds = d.pcieIds := rfl
@[simp] theorem Dev.setBit_str (d : Dev) (a i : Nat) : (d.setBit a i).str = d.str := rfl
@[simp] theorem Dev.setBit_prb (d : Dev) (a i : Nat) : (d.setBit a i).prb = d.prb := rfl
@[simp] theorem Dev.setBit_powered (d : Dev) (a i : Nat) : (d.setBit a i).powered = d.powered := rfl
@[simp] theorem Dev.setBit_thermHold (d : Dev) (a i : Nat) : (d.setBit a i).thermHold = d.thermHold := rfl
@[simp] theorem Dev.setBit_chainRemote (d : Dev) (a i : Nat) : (d.setBit a i).chainRemote = d.chainRemote := rfl
@[simp] theorem Dev.setBit_gated (d : Dev) (a i : Nat) : (d.setBit a i).gated = d.gated := rfl
@[simp] theorem Dev.setBit_chainOut (d : Dev) (a i : Nat) : (d.setBit a i).chainOut = d.chainOut := rfl
@[simp] theorem Dev.setBit_line (d : Dev) (a i : Nat) : (d.setBit a i).line = d.line := rfl
@[simp] theorem Dev.setBit_fec (d : Dev) (a i : Nat) : (d.setBit a i).fec = d.fec := rfl
@[simp] theorem Dev.setBit_frm (d : Dev) (a i : Nat) : (d.setBit a i).frm = d.frm := rfl
@[simp] theorem Dev.setBit_cry (d : Dev) (a i : Nat) : (d.setBit a i).cry = d.cry := rfl
@[simp] theorem Dev.setBit_mrg (d : Dev) (a i : Nat) : (d.setBit a i).mrg = d.mrg := rfl
@[simp] theorem Dev.setBit_hst (d : Dev) (a i : Nat) : (d.setBit a i).hst = d.hst := rfl
@[simp] theorem Dev.setBit_rms (d : Dev) (a i : Nat) : (d.setBit a i).rms = d.rms := rfl
@[simp] theorem Dev.setBit_spillOut (d : Dev) (a i : Nat) : (d.setBit a i).spillOut = d.spillOut := rfl
@[simp] theorem Dev.setBit_cap (d : Dev) (a i : Nat) : (d.setBit a i).cap = d.cap := rfl
@[simp] theorem Dev.setBit_clp (d : Dev) (a i : Nat) : (d.setBit a i).clp = d.clp := rfl
@[simp] theorem Dev.setBit_clpLog (d : Dev) (a i : Nat) : (d.setBit a i).clpLog = d.clpLog := rfl
@[simp] theorem Dev.setBit_hbOut (d : Dev) (a i : Nat) : (d.setBit a i).hbOut = d.hbOut := rfl
@[simp] theorem Dev.setBit_tim (d : Dev) (a i : Nat) : (d.setBit a i).tim = d.tim := rfl
@[simp] theorem Dev.setBit_chn (d : Dev) (a i : Nat) : (d.setBit a i).chn = d.chn := rfl
@[simp] theorem Dev.setBit_straps (d : Dev) (a i : Nat) : (d.setBit a i).straps = d.straps := rfl
@[simp] theorem Dev.setBit_sec (d : Dev) (a i : Nat) : (d.setBit a i).sec = d.sec := rfl
@[simp] theorem Dev.setBit_pwr (d : Dev) (a i : Nat) : (d.setBit a i).pwr = d.pwr := rfl
@[simp] theorem Dev.setBit_hk (d : Dev) (a i : Nat) : (d.setBit a i).hk = d.hk := rfl
@[simp] theorem Dev.setBit_i2c (d : Dev) (a i : Nat) : (d.setBit a i).i2c = d.i2c := rfl

/-! ### Dev.clrBit -/

@[simp] theorem Dev.clrBit_shadow (d : Dev) (a i : Nat) : (d.clrBit a i).shadow = d.shadow := rfl
@[simp] theorem Dev.clrBit_held (d : Dev) (a i : Nat) : (d.clrBit a i).held = d.held := rfl
@[simp] theorem Dev.clrBit_snaps (d : Dev) (a i : Nat) : (d.clrBit a i).snaps = d.snaps := rfl
@[simp] theorem Dev.clrBit_rdata (d : Dev) (a i : Nat) : (d.clrBit a i).rdata = d.rdata := rfl
@[simp] theorem Dev.clrBit_fresh (d : Dev) (a i : Nat) : (d.clrBit a i).fresh = d.fresh := rfl
@[simp] theorem Dev.clrBit_ticks (d : Dev) (a i : Nat) : (d.clrBit a i).ticks = d.ticks := rfl
@[simp] theorem Dev.clrBit_tc (d : Dev) (a i : Nat) : (d.clrBit a i).tc = d.tc := rfl
@[simp] theorem Dev.clrBit_msix (d : Dev) (a i : Nat) : (d.clrBit a i).msix = d.msix := rfl
@[simp] theorem Dev.clrBit_traps (d : Dev) (a i : Nat) : (d.clrBit a i).traps = d.traps := rfl
@[simp] theorem Dev.clrBit_coreInts (d : Dev) (a i : Nat) : (d.clrBit a i).coreInts = d.coreInts := rfl
@[simp] theorem Dev.clrBit_tapLog (d : Dev) (a i : Nat) : (d.clrBit a i).tapLog = d.tapLog := rfl
@[simp] theorem Dev.clrBit_causes (d : Dev) (a i : Nat) : (d.clrBit a i).causes = d.causes := rfl
@[simp] theorem Dev.clrBit_arising (d : Dev) (a i : Nat) : (d.clrBit a i).arising = d.arising := rfl
@[simp] theorem Dev.clrBit_msiDue (d : Dev) (a i : Nat) : (d.clrBit a i).msiDue = d.msiDue := rfl
@[simp] theorem Dev.clrBit_msiFrom (d : Dev) (a i : Nat) : (d.clrBit a i).msiFrom = d.msiFrom := rfl
@[simp] theorem Dev.clrBit_resetWait (d : Dev) (a i : Nat) : (d.clrBit a i).resetWait = d.resetWait := rfl
@[simp] theorem Dev.clrBit_pcieSeen (d : Dev) (a i : Nat) : (d.clrBit a i).pcieSeen = d.pcieSeen := rfl
@[simp] theorem Dev.clrBit_pcieIds (d : Dev) (a i : Nat) : (d.clrBit a i).pcieIds = d.pcieIds := rfl
@[simp] theorem Dev.clrBit_str (d : Dev) (a i : Nat) : (d.clrBit a i).str = d.str := rfl
@[simp] theorem Dev.clrBit_prb (d : Dev) (a i : Nat) : (d.clrBit a i).prb = d.prb := rfl
@[simp] theorem Dev.clrBit_powered (d : Dev) (a i : Nat) : (d.clrBit a i).powered = d.powered := rfl
@[simp] theorem Dev.clrBit_thermHold (d : Dev) (a i : Nat) : (d.clrBit a i).thermHold = d.thermHold := rfl
@[simp] theorem Dev.clrBit_chainRemote (d : Dev) (a i : Nat) : (d.clrBit a i).chainRemote = d.chainRemote := rfl
@[simp] theorem Dev.clrBit_gated (d : Dev) (a i : Nat) : (d.clrBit a i).gated = d.gated := rfl
@[simp] theorem Dev.clrBit_chainOut (d : Dev) (a i : Nat) : (d.clrBit a i).chainOut = d.chainOut := rfl
@[simp] theorem Dev.clrBit_line (d : Dev) (a i : Nat) : (d.clrBit a i).line = d.line := rfl
@[simp] theorem Dev.clrBit_fec (d : Dev) (a i : Nat) : (d.clrBit a i).fec = d.fec := rfl
@[simp] theorem Dev.clrBit_frm (d : Dev) (a i : Nat) : (d.clrBit a i).frm = d.frm := rfl
@[simp] theorem Dev.clrBit_cry (d : Dev) (a i : Nat) : (d.clrBit a i).cry = d.cry := rfl
@[simp] theorem Dev.clrBit_mrg (d : Dev) (a i : Nat) : (d.clrBit a i).mrg = d.mrg := rfl
@[simp] theorem Dev.clrBit_hst (d : Dev) (a i : Nat) : (d.clrBit a i).hst = d.hst := rfl
@[simp] theorem Dev.clrBit_rms (d : Dev) (a i : Nat) : (d.clrBit a i).rms = d.rms := rfl
@[simp] theorem Dev.clrBit_spillOut (d : Dev) (a i : Nat) : (d.clrBit a i).spillOut = d.spillOut := rfl
@[simp] theorem Dev.clrBit_cap (d : Dev) (a i : Nat) : (d.clrBit a i).cap = d.cap := rfl
@[simp] theorem Dev.clrBit_clp (d : Dev) (a i : Nat) : (d.clrBit a i).clp = d.clp := rfl
@[simp] theorem Dev.clrBit_clpLog (d : Dev) (a i : Nat) : (d.clrBit a i).clpLog = d.clpLog := rfl
@[simp] theorem Dev.clrBit_hbOut (d : Dev) (a i : Nat) : (d.clrBit a i).hbOut = d.hbOut := rfl
@[simp] theorem Dev.clrBit_tim (d : Dev) (a i : Nat) : (d.clrBit a i).tim = d.tim := rfl
@[simp] theorem Dev.clrBit_chn (d : Dev) (a i : Nat) : (d.clrBit a i).chn = d.chn := rfl
@[simp] theorem Dev.clrBit_straps (d : Dev) (a i : Nat) : (d.clrBit a i).straps = d.straps := rfl
@[simp] theorem Dev.clrBit_sec (d : Dev) (a i : Nat) : (d.clrBit a i).sec = d.sec := rfl
@[simp] theorem Dev.clrBit_pwr (d : Dev) (a i : Nat) : (d.clrBit a i).pwr = d.pwr := rfl
@[simp] theorem Dev.clrBit_hk (d : Dev) (a i : Nat) : (d.clrBit a i).hk = d.hk := rfl
@[simp] theorem Dev.clrBit_i2c (d : Dev) (a i : Nat) : (d.clrBit a i).i2c = d.i2c := rfl

/-! ### Dev.putBit -/

@[simp] theorem Dev.putBit_shadow (d : Dev) (a i : Nat) (b : Bool) : (d.putBit a i b).shadow = d.shadow := by cases b <;> rfl
@[simp] theorem Dev.putBit_held (d : Dev) (a i : Nat) (b : Bool) : (d.putBit a i b).held = d.held := by cases b <;> rfl
@[simp] theorem Dev.putBit_snaps (d : Dev) (a i : Nat) (b : Bool) : (d.putBit a i b).snaps = d.snaps := by cases b <;> rfl
@[simp] theorem Dev.putBit_rdata (d : Dev) (a i : Nat) (b : Bool) : (d.putBit a i b).rdata = d.rdata := by cases b <;> rfl
@[simp] theorem Dev.putBit_fresh (d : Dev) (a i : Nat) (b : Bool) : (d.putBit a i b).fresh = d.fresh := by cases b <;> rfl
@[simp] theorem Dev.putBit_ticks (d : Dev) (a i : Nat) (b : Bool) : (d.putBit a i b).ticks = d.ticks := by cases b <;> rfl
@[simp] theorem Dev.putBit_tc (d : Dev) (a i : Nat) (b : Bool) : (d.putBit a i b).tc = d.tc := by cases b <;> rfl
@[simp] theorem Dev.putBit_msix (d : Dev) (a i : Nat) (b : Bool) : (d.putBit a i b).msix = d.msix := by cases b <;> rfl
@[simp] theorem Dev.putBit_traps (d : Dev) (a i : Nat) (b : Bool) : (d.putBit a i b).traps = d.traps := by cases b <;> rfl
@[simp] theorem Dev.putBit_coreInts (d : Dev) (a i : Nat) (b : Bool) : (d.putBit a i b).coreInts = d.coreInts := by cases b <;> rfl
@[simp] theorem Dev.putBit_tapLog (d : Dev) (a i : Nat) (b : Bool) : (d.putBit a i b).tapLog = d.tapLog := by cases b <;> rfl
@[simp] theorem Dev.putBit_causes (d : Dev) (a i : Nat) (b : Bool) : (d.putBit a i b).causes = d.causes := by cases b <;> rfl
@[simp] theorem Dev.putBit_arising (d : Dev) (a i : Nat) (b : Bool) : (d.putBit a i b).arising = d.arising := by cases b <;> rfl
@[simp] theorem Dev.putBit_msiDue (d : Dev) (a i : Nat) (b : Bool) : (d.putBit a i b).msiDue = d.msiDue := by cases b <;> rfl
@[simp] theorem Dev.putBit_msiFrom (d : Dev) (a i : Nat) (b : Bool) : (d.putBit a i b).msiFrom = d.msiFrom := by cases b <;> rfl
@[simp] theorem Dev.putBit_resetWait (d : Dev) (a i : Nat) (b : Bool) : (d.putBit a i b).resetWait = d.resetWait := by cases b <;> rfl
@[simp] theorem Dev.putBit_pcieSeen (d : Dev) (a i : Nat) (b : Bool) : (d.putBit a i b).pcieSeen = d.pcieSeen := by cases b <;> rfl
@[simp] theorem Dev.putBit_pcieIds (d : Dev) (a i : Nat) (b : Bool) : (d.putBit a i b).pcieIds = d.pcieIds := by cases b <;> rfl
@[simp] theorem Dev.putBit_str (d : Dev) (a i : Nat) (b : Bool) : (d.putBit a i b).str = d.str := by cases b <;> rfl
@[simp] theorem Dev.putBit_prb (d : Dev) (a i : Nat) (b : Bool) : (d.putBit a i b).prb = d.prb := by cases b <;> rfl
@[simp] theorem Dev.putBit_powered (d : Dev) (a i : Nat) (b : Bool) : (d.putBit a i b).powered = d.powered := by cases b <;> rfl
@[simp] theorem Dev.putBit_thermHold (d : Dev) (a i : Nat) (b : Bool) : (d.putBit a i b).thermHold = d.thermHold := by cases b <;> rfl
@[simp] theorem Dev.putBit_chainRemote (d : Dev) (a i : Nat) (b : Bool) : (d.putBit a i b).chainRemote = d.chainRemote := by cases b <;> rfl
@[simp] theorem Dev.putBit_gated (d : Dev) (a i : Nat) (b : Bool) : (d.putBit a i b).gated = d.gated := by cases b <;> rfl
@[simp] theorem Dev.putBit_chainOut (d : Dev) (a i : Nat) (b : Bool) : (d.putBit a i b).chainOut = d.chainOut := by cases b <;> rfl
@[simp] theorem Dev.putBit_line (d : Dev) (a i : Nat) (b : Bool) : (d.putBit a i b).line = d.line := by cases b <;> rfl
@[simp] theorem Dev.putBit_fec (d : Dev) (a i : Nat) (b : Bool) : (d.putBit a i b).fec = d.fec := by cases b <;> rfl
@[simp] theorem Dev.putBit_frm (d : Dev) (a i : Nat) (b : Bool) : (d.putBit a i b).frm = d.frm := by cases b <;> rfl
@[simp] theorem Dev.putBit_cry (d : Dev) (a i : Nat) (b : Bool) : (d.putBit a i b).cry = d.cry := by cases b <;> rfl
@[simp] theorem Dev.putBit_mrg (d : Dev) (a i : Nat) (b : Bool) : (d.putBit a i b).mrg = d.mrg := by cases b <;> rfl
@[simp] theorem Dev.putBit_hst (d : Dev) (a i : Nat) (b : Bool) : (d.putBit a i b).hst = d.hst := by cases b <;> rfl
@[simp] theorem Dev.putBit_rms (d : Dev) (a i : Nat) (b : Bool) : (d.putBit a i b).rms = d.rms := by cases b <;> rfl
@[simp] theorem Dev.putBit_spillOut (d : Dev) (a i : Nat) (b : Bool) : (d.putBit a i b).spillOut = d.spillOut := by cases b <;> rfl
@[simp] theorem Dev.putBit_cap (d : Dev) (a i : Nat) (b : Bool) : (d.putBit a i b).cap = d.cap := by cases b <;> rfl
@[simp] theorem Dev.putBit_clp (d : Dev) (a i : Nat) (b : Bool) : (d.putBit a i b).clp = d.clp := by cases b <;> rfl
@[simp] theorem Dev.putBit_clpLog (d : Dev) (a i : Nat) (b : Bool) : (d.putBit a i b).clpLog = d.clpLog := by cases b <;> rfl
@[simp] theorem Dev.putBit_hbOut (d : Dev) (a i : Nat) (b : Bool) : (d.putBit a i b).hbOut = d.hbOut := by cases b <;> rfl
@[simp] theorem Dev.putBit_tim (d : Dev) (a i : Nat) (b : Bool) : (d.putBit a i b).tim = d.tim := by cases b <;> rfl
@[simp] theorem Dev.putBit_chn (d : Dev) (a i : Nat) (b : Bool) : (d.putBit a i b).chn = d.chn := by cases b <;> rfl
@[simp] theorem Dev.putBit_straps (d : Dev) (a i : Nat) (b : Bool) : (d.putBit a i b).straps = d.straps := by cases b <;> rfl
@[simp] theorem Dev.putBit_sec (d : Dev) (a i : Nat) (b : Bool) : (d.putBit a i b).sec = d.sec := by cases b <;> rfl
@[simp] theorem Dev.putBit_pwr (d : Dev) (a i : Nat) (b : Bool) : (d.putBit a i b).pwr = d.pwr := by cases b <;> rfl
@[simp] theorem Dev.putBit_hk (d : Dev) (a i : Nat) (b : Bool) : (d.putBit a i b).hk = d.hk := by cases b <;> rfl
@[simp] theorem Dev.putBit_i2c (d : Dev) (a i : Nat) (b : Bool) : (d.putBit a i b).i2c = d.i2c := by cases b <;> rfl

/-! ### Dev.incSat -/

@[simp] theorem Dev.incSat_shadow (d : Dev) (f : Fld) (n : Nat) : (d.incSat f n).shadow = d.shadow := rfl
@[simp] theorem Dev.incSat_held (d : Dev) (f : Fld) (n : Nat) : (d.incSat f n).held = d.held := rfl
@[simp] theorem Dev.incSat_snaps (d : Dev) (f : Fld) (n : Nat) : (d.incSat f n).snaps = d.snaps := rfl
@[simp] theorem Dev.incSat_rdata (d : Dev) (f : Fld) (n : Nat) : (d.incSat f n).rdata = d.rdata := rfl
@[simp] theorem Dev.incSat_fresh (d : Dev) (f : Fld) (n : Nat) : (d.incSat f n).fresh = d.fresh := rfl
@[simp] theorem Dev.incSat_ticks (d : Dev) (f : Fld) (n : Nat) : (d.incSat f n).ticks = d.ticks := rfl
@[simp] theorem Dev.incSat_tc (d : Dev) (f : Fld) (n : Nat) : (d.incSat f n).tc = d.tc := rfl
@[simp] theorem Dev.incSat_msix (d : Dev) (f : Fld) (n : Nat) : (d.incSat f n).msix = d.msix := rfl
@[simp] theorem Dev.incSat_traps (d : Dev) (f : Fld) (n : Nat) : (d.incSat f n).traps = d.traps := rfl
@[simp] theorem Dev.incSat_coreInts (d : Dev) (f : Fld) (n : Nat) : (d.incSat f n).coreInts = d.coreInts := rfl
@[simp] theorem Dev.incSat_tapLog (d : Dev) (f : Fld) (n : Nat) : (d.incSat f n).tapLog = d.tapLog := rfl
@[simp] theorem Dev.incSat_causes (d : Dev) (f : Fld) (n : Nat) : (d.incSat f n).causes = d.causes := rfl
@[simp] theorem Dev.incSat_arising (d : Dev) (f : Fld) (n : Nat) : (d.incSat f n).arising = d.arising := rfl
@[simp] theorem Dev.incSat_msiDue (d : Dev) (f : Fld) (n : Nat) : (d.incSat f n).msiDue = d.msiDue := rfl
@[simp] theorem Dev.incSat_msiFrom (d : Dev) (f : Fld) (n : Nat) : (d.incSat f n).msiFrom = d.msiFrom := rfl
@[simp] theorem Dev.incSat_resetWait (d : Dev) (f : Fld) (n : Nat) : (d.incSat f n).resetWait = d.resetWait := rfl
@[simp] theorem Dev.incSat_pcieSeen (d : Dev) (f : Fld) (n : Nat) : (d.incSat f n).pcieSeen = d.pcieSeen := rfl
@[simp] theorem Dev.incSat_pcieIds (d : Dev) (f : Fld) (n : Nat) : (d.incSat f n).pcieIds = d.pcieIds := rfl
@[simp] theorem Dev.incSat_str (d : Dev) (f : Fld) (n : Nat) : (d.incSat f n).str = d.str := rfl
@[simp] theorem Dev.incSat_prb (d : Dev) (f : Fld) (n : Nat) : (d.incSat f n).prb = d.prb := rfl
@[simp] theorem Dev.incSat_powered (d : Dev) (f : Fld) (n : Nat) : (d.incSat f n).powered = d.powered := rfl
@[simp] theorem Dev.incSat_thermHold (d : Dev) (f : Fld) (n : Nat) : (d.incSat f n).thermHold = d.thermHold := rfl
@[simp] theorem Dev.incSat_chainRemote (d : Dev) (f : Fld) (n : Nat) : (d.incSat f n).chainRemote = d.chainRemote := rfl
@[simp] theorem Dev.incSat_gated (d : Dev) (f : Fld) (n : Nat) : (d.incSat f n).gated = d.gated := rfl
@[simp] theorem Dev.incSat_chainOut (d : Dev) (f : Fld) (n : Nat) : (d.incSat f n).chainOut = d.chainOut := rfl
@[simp] theorem Dev.incSat_line (d : Dev) (f : Fld) (n : Nat) : (d.incSat f n).line = d.line := rfl
@[simp] theorem Dev.incSat_fec (d : Dev) (f : Fld) (n : Nat) : (d.incSat f n).fec = d.fec := rfl
@[simp] theorem Dev.incSat_frm (d : Dev) (f : Fld) (n : Nat) : (d.incSat f n).frm = d.frm := rfl
@[simp] theorem Dev.incSat_cry (d : Dev) (f : Fld) (n : Nat) : (d.incSat f n).cry = d.cry := rfl
@[simp] theorem Dev.incSat_mrg (d : Dev) (f : Fld) (n : Nat) : (d.incSat f n).mrg = d.mrg := rfl
@[simp] theorem Dev.incSat_hst (d : Dev) (f : Fld) (n : Nat) : (d.incSat f n).hst = d.hst := rfl
@[simp] theorem Dev.incSat_rms (d : Dev) (f : Fld) (n : Nat) : (d.incSat f n).rms = d.rms := rfl
@[simp] theorem Dev.incSat_spillOut (d : Dev) (f : Fld) (n : Nat) : (d.incSat f n).spillOut = d.spillOut := rfl
@[simp] theorem Dev.incSat_cap (d : Dev) (f : Fld) (n : Nat) : (d.incSat f n).cap = d.cap := rfl
@[simp] theorem Dev.incSat_clp (d : Dev) (f : Fld) (n : Nat) : (d.incSat f n).clp = d.clp := rfl
@[simp] theorem Dev.incSat_clpLog (d : Dev) (f : Fld) (n : Nat) : (d.incSat f n).clpLog = d.clpLog := rfl
@[simp] theorem Dev.incSat_hbOut (d : Dev) (f : Fld) (n : Nat) : (d.incSat f n).hbOut = d.hbOut := rfl
@[simp] theorem Dev.incSat_tim (d : Dev) (f : Fld) (n : Nat) : (d.incSat f n).tim = d.tim := rfl
@[simp] theorem Dev.incSat_chn (d : Dev) (f : Fld) (n : Nat) : (d.incSat f n).chn = d.chn := rfl
@[simp] theorem Dev.incSat_straps (d : Dev) (f : Fld) (n : Nat) : (d.incSat f n).straps = d.straps := rfl
@[simp] theorem Dev.incSat_sec (d : Dev) (f : Fld) (n : Nat) : (d.incSat f n).sec = d.sec := rfl
@[simp] theorem Dev.incSat_pwr (d : Dev) (f : Fld) (n : Nat) : (d.incSat f n).pwr = d.pwr := rfl
@[simp] theorem Dev.incSat_hk (d : Dev) (f : Fld) (n : Nat) : (d.incSat f n).hk = d.hk := rfl
@[simp] theorem Dev.incSat_i2c (d : Dev) (f : Fld) (n : Nat) : (d.incSat f n).i2c = d.i2c := rfl

/-! ### Dev.putIntSat -/

@[simp] theorem Dev.putIntSat_shadow (d : Dev) (f : Fld) (i : Int) : (d.putIntSat f i).shadow = d.shadow := rfl
@[simp] theorem Dev.putIntSat_held (d : Dev) (f : Fld) (i : Int) : (d.putIntSat f i).held = d.held := rfl
@[simp] theorem Dev.putIntSat_snaps (d : Dev) (f : Fld) (i : Int) : (d.putIntSat f i).snaps = d.snaps := rfl
@[simp] theorem Dev.putIntSat_rdata (d : Dev) (f : Fld) (i : Int) : (d.putIntSat f i).rdata = d.rdata := rfl
@[simp] theorem Dev.putIntSat_fresh (d : Dev) (f : Fld) (i : Int) : (d.putIntSat f i).fresh = d.fresh := rfl
@[simp] theorem Dev.putIntSat_ticks (d : Dev) (f : Fld) (i : Int) : (d.putIntSat f i).ticks = d.ticks := rfl
@[simp] theorem Dev.putIntSat_tc (d : Dev) (f : Fld) (i : Int) : (d.putIntSat f i).tc = d.tc := rfl
@[simp] theorem Dev.putIntSat_msix (d : Dev) (f : Fld) (i : Int) : (d.putIntSat f i).msix = d.msix := rfl
@[simp] theorem Dev.putIntSat_traps (d : Dev) (f : Fld) (i : Int) : (d.putIntSat f i).traps = d.traps := rfl
@[simp] theorem Dev.putIntSat_coreInts (d : Dev) (f : Fld) (i : Int) : (d.putIntSat f i).coreInts = d.coreInts := rfl
@[simp] theorem Dev.putIntSat_tapLog (d : Dev) (f : Fld) (i : Int) : (d.putIntSat f i).tapLog = d.tapLog := rfl
@[simp] theorem Dev.putIntSat_causes (d : Dev) (f : Fld) (i : Int) : (d.putIntSat f i).causes = d.causes := rfl
@[simp] theorem Dev.putIntSat_arising (d : Dev) (f : Fld) (i : Int) : (d.putIntSat f i).arising = d.arising := rfl
@[simp] theorem Dev.putIntSat_msiDue (d : Dev) (f : Fld) (i : Int) : (d.putIntSat f i).msiDue = d.msiDue := rfl
@[simp] theorem Dev.putIntSat_msiFrom (d : Dev) (f : Fld) (i : Int) : (d.putIntSat f i).msiFrom = d.msiFrom := rfl
@[simp] theorem Dev.putIntSat_resetWait (d : Dev) (f : Fld) (i : Int) : (d.putIntSat f i).resetWait = d.resetWait := rfl
@[simp] theorem Dev.putIntSat_pcieSeen (d : Dev) (f : Fld) (i : Int) : (d.putIntSat f i).pcieSeen = d.pcieSeen := rfl
@[simp] theorem Dev.putIntSat_pcieIds (d : Dev) (f : Fld) (i : Int) : (d.putIntSat f i).pcieIds = d.pcieIds := rfl
@[simp] theorem Dev.putIntSat_str (d : Dev) (f : Fld) (i : Int) : (d.putIntSat f i).str = d.str := rfl
@[simp] theorem Dev.putIntSat_prb (d : Dev) (f : Fld) (i : Int) : (d.putIntSat f i).prb = d.prb := rfl
@[simp] theorem Dev.putIntSat_powered (d : Dev) (f : Fld) (i : Int) : (d.putIntSat f i).powered = d.powered := rfl
@[simp] theorem Dev.putIntSat_thermHold (d : Dev) (f : Fld) (i : Int) : (d.putIntSat f i).thermHold = d.thermHold := rfl
@[simp] theorem Dev.putIntSat_chainRemote (d : Dev) (f : Fld) (i : Int) : (d.putIntSat f i).chainRemote = d.chainRemote := rfl
@[simp] theorem Dev.putIntSat_gated (d : Dev) (f : Fld) (i : Int) : (d.putIntSat f i).gated = d.gated := rfl
@[simp] theorem Dev.putIntSat_chainOut (d : Dev) (f : Fld) (i : Int) : (d.putIntSat f i).chainOut = d.chainOut := rfl
@[simp] theorem Dev.putIntSat_line (d : Dev) (f : Fld) (i : Int) : (d.putIntSat f i).line = d.line := rfl
@[simp] theorem Dev.putIntSat_fec (d : Dev) (f : Fld) (i : Int) : (d.putIntSat f i).fec = d.fec := rfl
@[simp] theorem Dev.putIntSat_frm (d : Dev) (f : Fld) (i : Int) : (d.putIntSat f i).frm = d.frm := rfl
@[simp] theorem Dev.putIntSat_cry (d : Dev) (f : Fld) (i : Int) : (d.putIntSat f i).cry = d.cry := rfl
@[simp] theorem Dev.putIntSat_mrg (d : Dev) (f : Fld) (i : Int) : (d.putIntSat f i).mrg = d.mrg := rfl
@[simp] theorem Dev.putIntSat_hst (d : Dev) (f : Fld) (i : Int) : (d.putIntSat f i).hst = d.hst := rfl
@[simp] theorem Dev.putIntSat_rms (d : Dev) (f : Fld) (i : Int) : (d.putIntSat f i).rms = d.rms := rfl
@[simp] theorem Dev.putIntSat_spillOut (d : Dev) (f : Fld) (i : Int) : (d.putIntSat f i).spillOut = d.spillOut := rfl
@[simp] theorem Dev.putIntSat_cap (d : Dev) (f : Fld) (i : Int) : (d.putIntSat f i).cap = d.cap := rfl
@[simp] theorem Dev.putIntSat_clp (d : Dev) (f : Fld) (i : Int) : (d.putIntSat f i).clp = d.clp := rfl
@[simp] theorem Dev.putIntSat_clpLog (d : Dev) (f : Fld) (i : Int) : (d.putIntSat f i).clpLog = d.clpLog := rfl
@[simp] theorem Dev.putIntSat_hbOut (d : Dev) (f : Fld) (i : Int) : (d.putIntSat f i).hbOut = d.hbOut := rfl
@[simp] theorem Dev.putIntSat_tim (d : Dev) (f : Fld) (i : Int) : (d.putIntSat f i).tim = d.tim := rfl
@[simp] theorem Dev.putIntSat_chn (d : Dev) (f : Fld) (i : Int) : (d.putIntSat f i).chn = d.chn := rfl
@[simp] theorem Dev.putIntSat_straps (d : Dev) (f : Fld) (i : Int) : (d.putIntSat f i).straps = d.straps := rfl
@[simp] theorem Dev.putIntSat_sec (d : Dev) (f : Fld) (i : Int) : (d.putIntSat f i).sec = d.sec := rfl
@[simp] theorem Dev.putIntSat_pwr (d : Dev) (f : Fld) (i : Int) : (d.putIntSat f i).pwr = d.pwr := rfl
@[simp] theorem Dev.putIntSat_hk (d : Dev) (f : Fld) (i : Int) : (d.putIntSat f i).hk = d.hk := rfl
@[simp] theorem Dev.putIntSat_i2c (d : Dev) (f : Fld) (i : Int) : (d.putIntSat f i).i2c = d.i2c := rfl

/-! ### Dev.setReg64 -/

@[simp] theorem Dev.setReg64_shadow (d : Dev) (a v : Nat) : (d.setReg64 a v).shadow = d.shadow := rfl
@[simp] theorem Dev.setReg64_held (d : Dev) (a v : Nat) : (d.setReg64 a v).held = d.held := rfl
@[simp] theorem Dev.setReg64_snaps (d : Dev) (a v : Nat) : (d.setReg64 a v).snaps = d.snaps := rfl
@[simp] theorem Dev.setReg64_rdata (d : Dev) (a v : Nat) : (d.setReg64 a v).rdata = d.rdata := rfl
@[simp] theorem Dev.setReg64_fresh (d : Dev) (a v : Nat) : (d.setReg64 a v).fresh = d.fresh := rfl
@[simp] theorem Dev.setReg64_ticks (d : Dev) (a v : Nat) : (d.setReg64 a v).ticks = d.ticks := rfl
@[simp] theorem Dev.setReg64_tc (d : Dev) (a v : Nat) : (d.setReg64 a v).tc = d.tc := rfl
@[simp] theorem Dev.setReg64_msix (d : Dev) (a v : Nat) : (d.setReg64 a v).msix = d.msix := rfl
@[simp] theorem Dev.setReg64_traps (d : Dev) (a v : Nat) : (d.setReg64 a v).traps = d.traps := rfl
@[simp] theorem Dev.setReg64_coreInts (d : Dev) (a v : Nat) : (d.setReg64 a v).coreInts = d.coreInts := rfl
@[simp] theorem Dev.setReg64_tapLog (d : Dev) (a v : Nat) : (d.setReg64 a v).tapLog = d.tapLog := rfl
@[simp] theorem Dev.setReg64_causes (d : Dev) (a v : Nat) : (d.setReg64 a v).causes = d.causes := rfl
@[simp] theorem Dev.setReg64_arising (d : Dev) (a v : Nat) : (d.setReg64 a v).arising = d.arising := rfl
@[simp] theorem Dev.setReg64_msiDue (d : Dev) (a v : Nat) : (d.setReg64 a v).msiDue = d.msiDue := rfl
@[simp] theorem Dev.setReg64_msiFrom (d : Dev) (a v : Nat) : (d.setReg64 a v).msiFrom = d.msiFrom := rfl
@[simp] theorem Dev.setReg64_resetWait (d : Dev) (a v : Nat) : (d.setReg64 a v).resetWait = d.resetWait := rfl
@[simp] theorem Dev.setReg64_pcieSeen (d : Dev) (a v : Nat) : (d.setReg64 a v).pcieSeen = d.pcieSeen := rfl
@[simp] theorem Dev.setReg64_pcieIds (d : Dev) (a v : Nat) : (d.setReg64 a v).pcieIds = d.pcieIds := rfl
@[simp] theorem Dev.setReg64_str (d : Dev) (a v : Nat) : (d.setReg64 a v).str = d.str := rfl
@[simp] theorem Dev.setReg64_prb (d : Dev) (a v : Nat) : (d.setReg64 a v).prb = d.prb := rfl
@[simp] theorem Dev.setReg64_powered (d : Dev) (a v : Nat) : (d.setReg64 a v).powered = d.powered := rfl
@[simp] theorem Dev.setReg64_thermHold (d : Dev) (a v : Nat) : (d.setReg64 a v).thermHold = d.thermHold := rfl
@[simp] theorem Dev.setReg64_chainRemote (d : Dev) (a v : Nat) : (d.setReg64 a v).chainRemote = d.chainRemote := rfl
@[simp] theorem Dev.setReg64_gated (d : Dev) (a v : Nat) : (d.setReg64 a v).gated = d.gated := rfl
@[simp] theorem Dev.setReg64_chainOut (d : Dev) (a v : Nat) : (d.setReg64 a v).chainOut = d.chainOut := rfl
@[simp] theorem Dev.setReg64_line (d : Dev) (a v : Nat) : (d.setReg64 a v).line = d.line := rfl
@[simp] theorem Dev.setReg64_fec (d : Dev) (a v : Nat) : (d.setReg64 a v).fec = d.fec := rfl
@[simp] theorem Dev.setReg64_frm (d : Dev) (a v : Nat) : (d.setReg64 a v).frm = d.frm := rfl
@[simp] theorem Dev.setReg64_cry (d : Dev) (a v : Nat) : (d.setReg64 a v).cry = d.cry := rfl
@[simp] theorem Dev.setReg64_mrg (d : Dev) (a v : Nat) : (d.setReg64 a v).mrg = d.mrg := rfl
@[simp] theorem Dev.setReg64_hst (d : Dev) (a v : Nat) : (d.setReg64 a v).hst = d.hst := rfl
@[simp] theorem Dev.setReg64_rms (d : Dev) (a v : Nat) : (d.setReg64 a v).rms = d.rms := rfl
@[simp] theorem Dev.setReg64_spillOut (d : Dev) (a v : Nat) : (d.setReg64 a v).spillOut = d.spillOut := rfl
@[simp] theorem Dev.setReg64_cap (d : Dev) (a v : Nat) : (d.setReg64 a v).cap = d.cap := rfl
@[simp] theorem Dev.setReg64_clp (d : Dev) (a v : Nat) : (d.setReg64 a v).clp = d.clp := rfl
@[simp] theorem Dev.setReg64_clpLog (d : Dev) (a v : Nat) : (d.setReg64 a v).clpLog = d.clpLog := rfl
@[simp] theorem Dev.setReg64_hbOut (d : Dev) (a v : Nat) : (d.setReg64 a v).hbOut = d.hbOut := rfl
@[simp] theorem Dev.setReg64_tim (d : Dev) (a v : Nat) : (d.setReg64 a v).tim = d.tim := rfl
@[simp] theorem Dev.setReg64_chn (d : Dev) (a v : Nat) : (d.setReg64 a v).chn = d.chn := rfl
@[simp] theorem Dev.setReg64_straps (d : Dev) (a v : Nat) : (d.setReg64 a v).straps = d.straps := rfl
@[simp] theorem Dev.setReg64_sec (d : Dev) (a v : Nat) : (d.setReg64 a v).sec = d.sec := rfl
@[simp] theorem Dev.setReg64_pwr (d : Dev) (a v : Nat) : (d.setReg64 a v).pwr = d.pwr := rfl
@[simp] theorem Dev.setReg64_hk (d : Dev) (a v : Nat) : (d.setReg64 a v).hk = d.hk := rfl
@[simp] theorem Dev.setReg64_i2c (d : Dev) (a v : Nat) : (d.setReg64 a v).i2c = d.i2c := rfl

/-! ### Dev.setTime4 -/

@[simp] theorem Dev.setTime4_shadow (d : Dev) (a t : Nat) : (d.setTime4 a t).shadow = d.shadow := rfl
@[simp] theorem Dev.setTime4_held (d : Dev) (a t : Nat) : (d.setTime4 a t).held = d.held := rfl
@[simp] theorem Dev.setTime4_snaps (d : Dev) (a t : Nat) : (d.setTime4 a t).snaps = d.snaps := rfl
@[simp] theorem Dev.setTime4_rdata (d : Dev) (a t : Nat) : (d.setTime4 a t).rdata = d.rdata := rfl
@[simp] theorem Dev.setTime4_fresh (d : Dev) (a t : Nat) : (d.setTime4 a t).fresh = d.fresh := rfl
@[simp] theorem Dev.setTime4_ticks (d : Dev) (a t : Nat) : (d.setTime4 a t).ticks = d.ticks := rfl
@[simp] theorem Dev.setTime4_tc (d : Dev) (a t : Nat) : (d.setTime4 a t).tc = d.tc := rfl
@[simp] theorem Dev.setTime4_msix (d : Dev) (a t : Nat) : (d.setTime4 a t).msix = d.msix := rfl
@[simp] theorem Dev.setTime4_traps (d : Dev) (a t : Nat) : (d.setTime4 a t).traps = d.traps := rfl
@[simp] theorem Dev.setTime4_coreInts (d : Dev) (a t : Nat) : (d.setTime4 a t).coreInts = d.coreInts := rfl
@[simp] theorem Dev.setTime4_tapLog (d : Dev) (a t : Nat) : (d.setTime4 a t).tapLog = d.tapLog := rfl
@[simp] theorem Dev.setTime4_causes (d : Dev) (a t : Nat) : (d.setTime4 a t).causes = d.causes := rfl
@[simp] theorem Dev.setTime4_arising (d : Dev) (a t : Nat) : (d.setTime4 a t).arising = d.arising := rfl
@[simp] theorem Dev.setTime4_msiDue (d : Dev) (a t : Nat) : (d.setTime4 a t).msiDue = d.msiDue := rfl
@[simp] theorem Dev.setTime4_msiFrom (d : Dev) (a t : Nat) : (d.setTime4 a t).msiFrom = d.msiFrom := rfl
@[simp] theorem Dev.setTime4_resetWait (d : Dev) (a t : Nat) : (d.setTime4 a t).resetWait = d.resetWait := rfl
@[simp] theorem Dev.setTime4_pcieSeen (d : Dev) (a t : Nat) : (d.setTime4 a t).pcieSeen = d.pcieSeen := rfl
@[simp] theorem Dev.setTime4_pcieIds (d : Dev) (a t : Nat) : (d.setTime4 a t).pcieIds = d.pcieIds := rfl
@[simp] theorem Dev.setTime4_str (d : Dev) (a t : Nat) : (d.setTime4 a t).str = d.str := rfl
@[simp] theorem Dev.setTime4_prb (d : Dev) (a t : Nat) : (d.setTime4 a t).prb = d.prb := rfl
@[simp] theorem Dev.setTime4_powered (d : Dev) (a t : Nat) : (d.setTime4 a t).powered = d.powered := rfl
@[simp] theorem Dev.setTime4_thermHold (d : Dev) (a t : Nat) : (d.setTime4 a t).thermHold = d.thermHold := rfl
@[simp] theorem Dev.setTime4_chainRemote (d : Dev) (a t : Nat) : (d.setTime4 a t).chainRemote = d.chainRemote := rfl
@[simp] theorem Dev.setTime4_gated (d : Dev) (a t : Nat) : (d.setTime4 a t).gated = d.gated := rfl
@[simp] theorem Dev.setTime4_chainOut (d : Dev) (a t : Nat) : (d.setTime4 a t).chainOut = d.chainOut := rfl
@[simp] theorem Dev.setTime4_line (d : Dev) (a t : Nat) : (d.setTime4 a t).line = d.line := rfl
@[simp] theorem Dev.setTime4_fec (d : Dev) (a t : Nat) : (d.setTime4 a t).fec = d.fec := rfl
@[simp] theorem Dev.setTime4_frm (d : Dev) (a t : Nat) : (d.setTime4 a t).frm = d.frm := rfl
@[simp] theorem Dev.setTime4_cry (d : Dev) (a t : Nat) : (d.setTime4 a t).cry = d.cry := rfl
@[simp] theorem Dev.setTime4_mrg (d : Dev) (a t : Nat) : (d.setTime4 a t).mrg = d.mrg := rfl
@[simp] theorem Dev.setTime4_hst (d : Dev) (a t : Nat) : (d.setTime4 a t).hst = d.hst := rfl
@[simp] theorem Dev.setTime4_rms (d : Dev) (a t : Nat) : (d.setTime4 a t).rms = d.rms := rfl
@[simp] theorem Dev.setTime4_spillOut (d : Dev) (a t : Nat) : (d.setTime4 a t).spillOut = d.spillOut := rfl
@[simp] theorem Dev.setTime4_cap (d : Dev) (a t : Nat) : (d.setTime4 a t).cap = d.cap := rfl
@[simp] theorem Dev.setTime4_clp (d : Dev) (a t : Nat) : (d.setTime4 a t).clp = d.clp := rfl
@[simp] theorem Dev.setTime4_clpLog (d : Dev) (a t : Nat) : (d.setTime4 a t).clpLog = d.clpLog := rfl
@[simp] theorem Dev.setTime4_hbOut (d : Dev) (a t : Nat) : (d.setTime4 a t).hbOut = d.hbOut := rfl
@[simp] theorem Dev.setTime4_tim (d : Dev) (a t : Nat) : (d.setTime4 a t).tim = d.tim := rfl
@[simp] theorem Dev.setTime4_chn (d : Dev) (a t : Nat) : (d.setTime4 a t).chn = d.chn := rfl
@[simp] theorem Dev.setTime4_straps (d : Dev) (a t : Nat) : (d.setTime4 a t).straps = d.straps := rfl
@[simp] theorem Dev.setTime4_sec (d : Dev) (a t : Nat) : (d.setTime4 a t).sec = d.sec := rfl
@[simp] theorem Dev.setTime4_pwr (d : Dev) (a t : Nat) : (d.setTime4 a t).pwr = d.pwr := rfl
@[simp] theorem Dev.setTime4_hk (d : Dev) (a t : Nat) : (d.setTime4 a t).hk = d.hk := rfl
@[simp] theorem Dev.setTime4_i2c (d : Dev) (a t : Nat) : (d.setTime4 a t).i2c = d.i2c := rfl

/-! ### Dev.setTime3 -/

@[simp] theorem Dev.setTime3_shadow (d : Dev) (a t : Nat) : (d.setTime3 a t).shadow = d.shadow := rfl
@[simp] theorem Dev.setTime3_held (d : Dev) (a t : Nat) : (d.setTime3 a t).held = d.held := rfl
@[simp] theorem Dev.setTime3_snaps (d : Dev) (a t : Nat) : (d.setTime3 a t).snaps = d.snaps := rfl
@[simp] theorem Dev.setTime3_rdata (d : Dev) (a t : Nat) : (d.setTime3 a t).rdata = d.rdata := rfl
@[simp] theorem Dev.setTime3_fresh (d : Dev) (a t : Nat) : (d.setTime3 a t).fresh = d.fresh := rfl
@[simp] theorem Dev.setTime3_ticks (d : Dev) (a t : Nat) : (d.setTime3 a t).ticks = d.ticks := rfl
@[simp] theorem Dev.setTime3_tc (d : Dev) (a t : Nat) : (d.setTime3 a t).tc = d.tc := rfl
@[simp] theorem Dev.setTime3_msix (d : Dev) (a t : Nat) : (d.setTime3 a t).msix = d.msix := rfl
@[simp] theorem Dev.setTime3_traps (d : Dev) (a t : Nat) : (d.setTime3 a t).traps = d.traps := rfl
@[simp] theorem Dev.setTime3_coreInts (d : Dev) (a t : Nat) : (d.setTime3 a t).coreInts = d.coreInts := rfl
@[simp] theorem Dev.setTime3_tapLog (d : Dev) (a t : Nat) : (d.setTime3 a t).tapLog = d.tapLog := rfl
@[simp] theorem Dev.setTime3_causes (d : Dev) (a t : Nat) : (d.setTime3 a t).causes = d.causes := rfl
@[simp] theorem Dev.setTime3_arising (d : Dev) (a t : Nat) : (d.setTime3 a t).arising = d.arising := rfl
@[simp] theorem Dev.setTime3_msiDue (d : Dev) (a t : Nat) : (d.setTime3 a t).msiDue = d.msiDue := rfl
@[simp] theorem Dev.setTime3_msiFrom (d : Dev) (a t : Nat) : (d.setTime3 a t).msiFrom = d.msiFrom := rfl
@[simp] theorem Dev.setTime3_resetWait (d : Dev) (a t : Nat) : (d.setTime3 a t).resetWait = d.resetWait := rfl
@[simp] theorem Dev.setTime3_pcieSeen (d : Dev) (a t : Nat) : (d.setTime3 a t).pcieSeen = d.pcieSeen := rfl
@[simp] theorem Dev.setTime3_pcieIds (d : Dev) (a t : Nat) : (d.setTime3 a t).pcieIds = d.pcieIds := rfl
@[simp] theorem Dev.setTime3_str (d : Dev) (a t : Nat) : (d.setTime3 a t).str = d.str := rfl
@[simp] theorem Dev.setTime3_prb (d : Dev) (a t : Nat) : (d.setTime3 a t).prb = d.prb := rfl
@[simp] theorem Dev.setTime3_powered (d : Dev) (a t : Nat) : (d.setTime3 a t).powered = d.powered := rfl
@[simp] theorem Dev.setTime3_thermHold (d : Dev) (a t : Nat) : (d.setTime3 a t).thermHold = d.thermHold := rfl
@[simp] theorem Dev.setTime3_chainRemote (d : Dev) (a t : Nat) : (d.setTime3 a t).chainRemote = d.chainRemote := rfl
@[simp] theorem Dev.setTime3_gated (d : Dev) (a t : Nat) : (d.setTime3 a t).gated = d.gated := rfl
@[simp] theorem Dev.setTime3_chainOut (d : Dev) (a t : Nat) : (d.setTime3 a t).chainOut = d.chainOut := rfl
@[simp] theorem Dev.setTime3_line (d : Dev) (a t : Nat) : (d.setTime3 a t).line = d.line := rfl
@[simp] theorem Dev.setTime3_fec (d : Dev) (a t : Nat) : (d.setTime3 a t).fec = d.fec := rfl
@[simp] theorem Dev.setTime3_frm (d : Dev) (a t : Nat) : (d.setTime3 a t).frm = d.frm := rfl
@[simp] theorem Dev.setTime3_cry (d : Dev) (a t : Nat) : (d.setTime3 a t).cry = d.cry := rfl
@[simp] theorem Dev.setTime3_mrg (d : Dev) (a t : Nat) : (d.setTime3 a t).mrg = d.mrg := rfl
@[simp] theorem Dev.setTime3_hst (d : Dev) (a t : Nat) : (d.setTime3 a t).hst = d.hst := rfl
@[simp] theorem Dev.setTime3_rms (d : Dev) (a t : Nat) : (d.setTime3 a t).rms = d.rms := rfl
@[simp] theorem Dev.setTime3_spillOut (d : Dev) (a t : Nat) : (d.setTime3 a t).spillOut = d.spillOut := rfl
@[simp] theorem Dev.setTime3_cap (d : Dev) (a t : Nat) : (d.setTime3 a t).cap = d.cap := rfl
@[simp] theorem Dev.setTime3_clp (d : Dev) (a t : Nat) : (d.setTime3 a t).clp = d.clp := rfl
@[simp] theorem Dev.setTime3_clpLog (d : Dev) (a t : Nat) : (d.setTime3 a t).clpLog = d.clpLog := rfl
@[simp] theorem Dev.setTime3_hbOut (d : Dev) (a t : Nat) : (d.setTime3 a t).hbOut = d.hbOut := rfl
@[simp] theorem Dev.setTime3_tim (d : Dev) (a t : Nat) : (d.setTime3 a t).tim = d.tim := rfl
@[simp] theorem Dev.setTime3_chn (d : Dev) (a t : Nat) : (d.setTime3 a t).chn = d.chn := rfl
@[simp] theorem Dev.setTime3_straps (d : Dev) (a t : Nat) : (d.setTime3 a t).straps = d.straps := rfl
@[simp] theorem Dev.setTime3_sec (d : Dev) (a t : Nat) : (d.setTime3 a t).sec = d.sec := rfl
@[simp] theorem Dev.setTime3_pwr (d : Dev) (a t : Nat) : (d.setTime3 a t).pwr = d.pwr := rfl
@[simp] theorem Dev.setTime3_hk (d : Dev) (a t : Nat) : (d.setTime3 a t).hk = d.hk := rfl
@[simp] theorem Dev.setTime3_i2c (d : Dev) (a t : Nat) : (d.setTime3 a t).i2c = d.i2c := rfl

/-! ### Dev.setShadow -/

@[simp] theorem Dev.setShadow_regs (d : Dev) (a : Nat) (v : Word) : (d.setShadow a v).regs = d.regs := rfl
@[simp] theorem Dev.setShadow_held (d : Dev) (a : Nat) (v : Word) : (d.setShadow a v).held = d.held := rfl
@[simp] theorem Dev.setShadow_snaps (d : Dev) (a : Nat) (v : Word) : (d.setShadow a v).snaps = d.snaps := rfl
@[simp] theorem Dev.setShadow_rdata (d : Dev) (a : Nat) (v : Word) : (d.setShadow a v).rdata = d.rdata := rfl
@[simp] theorem Dev.setShadow_fresh (d : Dev) (a : Nat) (v : Word) : (d.setShadow a v).fresh = d.fresh := rfl
@[simp] theorem Dev.setShadow_ticks (d : Dev) (a : Nat) (v : Word) : (d.setShadow a v).ticks = d.ticks := rfl
@[simp] theorem Dev.setShadow_tc (d : Dev) (a : Nat) (v : Word) : (d.setShadow a v).tc = d.tc := rfl
@[simp] theorem Dev.setShadow_msix (d : Dev) (a : Nat) (v : Word) : (d.setShadow a v).msix = d.msix := rfl
@[simp] theorem Dev.setShadow_traps (d : Dev) (a : Nat) (v : Word) : (d.setShadow a v).traps = d.traps := rfl
@[simp] theorem Dev.setShadow_coreInts (d : Dev) (a : Nat) (v : Word) : (d.setShadow a v).coreInts = d.coreInts := rfl
@[simp] theorem Dev.setShadow_tapLog (d : Dev) (a : Nat) (v : Word) : (d.setShadow a v).tapLog = d.tapLog := rfl
@[simp] theorem Dev.setShadow_causes (d : Dev) (a : Nat) (v : Word) : (d.setShadow a v).causes = d.causes := rfl
@[simp] theorem Dev.setShadow_arising (d : Dev) (a : Nat) (v : Word) : (d.setShadow a v).arising = d.arising := rfl
@[simp] theorem Dev.setShadow_msiDue (d : Dev) (a : Nat) (v : Word) : (d.setShadow a v).msiDue = d.msiDue := rfl
@[simp] theorem Dev.setShadow_msiFrom (d : Dev) (a : Nat) (v : Word) : (d.setShadow a v).msiFrom = d.msiFrom := rfl
@[simp] theorem Dev.setShadow_resetWait (d : Dev) (a : Nat) (v : Word) : (d.setShadow a v).resetWait = d.resetWait := rfl
@[simp] theorem Dev.setShadow_pcieSeen (d : Dev) (a : Nat) (v : Word) : (d.setShadow a v).pcieSeen = d.pcieSeen := rfl
@[simp] theorem Dev.setShadow_pcieIds (d : Dev) (a : Nat) (v : Word) : (d.setShadow a v).pcieIds = d.pcieIds := rfl
@[simp] theorem Dev.setShadow_str (d : Dev) (a : Nat) (v : Word) : (d.setShadow a v).str = d.str := rfl
@[simp] theorem Dev.setShadow_prb (d : Dev) (a : Nat) (v : Word) : (d.setShadow a v).prb = d.prb := rfl
@[simp] theorem Dev.setShadow_powered (d : Dev) (a : Nat) (v : Word) : (d.setShadow a v).powered = d.powered := rfl
@[simp] theorem Dev.setShadow_thermHold (d : Dev) (a : Nat) (v : Word) : (d.setShadow a v).thermHold = d.thermHold := rfl
@[simp] theorem Dev.setShadow_chainRemote (d : Dev) (a : Nat) (v : Word) : (d.setShadow a v).chainRemote = d.chainRemote := rfl
@[simp] theorem Dev.setShadow_gated (d : Dev) (a : Nat) (v : Word) : (d.setShadow a v).gated = d.gated := rfl
@[simp] theorem Dev.setShadow_chainOut (d : Dev) (a : Nat) (v : Word) : (d.setShadow a v).chainOut = d.chainOut := rfl
@[simp] theorem Dev.setShadow_line (d : Dev) (a : Nat) (v : Word) : (d.setShadow a v).line = d.line := rfl
@[simp] theorem Dev.setShadow_fec (d : Dev) (a : Nat) (v : Word) : (d.setShadow a v).fec = d.fec := rfl
@[simp] theorem Dev.setShadow_frm (d : Dev) (a : Nat) (v : Word) : (d.setShadow a v).frm = d.frm := rfl
@[simp] theorem Dev.setShadow_cry (d : Dev) (a : Nat) (v : Word) : (d.setShadow a v).cry = d.cry := rfl
@[simp] theorem Dev.setShadow_mrg (d : Dev) (a : Nat) (v : Word) : (d.setShadow a v).mrg = d.mrg := rfl
@[simp] theorem Dev.setShadow_hst (d : Dev) (a : Nat) (v : Word) : (d.setShadow a v).hst = d.hst := rfl
@[simp] theorem Dev.setShadow_rms (d : Dev) (a : Nat) (v : Word) : (d.setShadow a v).rms = d.rms := rfl
@[simp] theorem Dev.setShadow_spillOut (d : Dev) (a : Nat) (v : Word) : (d.setShadow a v).spillOut = d.spillOut := rfl
@[simp] theorem Dev.setShadow_cap (d : Dev) (a : Nat) (v : Word) : (d.setShadow a v).cap = d.cap := rfl
@[simp] theorem Dev.setShadow_clp (d : Dev) (a : Nat) (v : Word) : (d.setShadow a v).clp = d.clp := rfl
@[simp] theorem Dev.setShadow_clpLog (d : Dev) (a : Nat) (v : Word) : (d.setShadow a v).clpLog = d.clpLog := rfl
@[simp] theorem Dev.setShadow_hbOut (d : Dev) (a : Nat) (v : Word) : (d.setShadow a v).hbOut = d.hbOut := rfl
@[simp] theorem Dev.setShadow_tim (d : Dev) (a : Nat) (v : Word) : (d.setShadow a v).tim = d.tim := rfl
@[simp] theorem Dev.setShadow_chn (d : Dev) (a : Nat) (v : Word) : (d.setShadow a v).chn = d.chn := rfl
@[simp] theorem Dev.setShadow_straps (d : Dev) (a : Nat) (v : Word) : (d.setShadow a v).straps = d.straps := rfl
@[simp] theorem Dev.setShadow_sec (d : Dev) (a : Nat) (v : Word) : (d.setShadow a v).sec = d.sec := rfl
@[simp] theorem Dev.setShadow_pwr (d : Dev) (a : Nat) (v : Word) : (d.setShadow a v).pwr = d.pwr := rfl
@[simp] theorem Dev.setShadow_hk (d : Dev) (a : Nat) (v : Word) : (d.setShadow a v).hk = d.hk := rfl
@[simp] theorem Dev.setShadow_i2c (d : Dev) (a : Nat) (v : Word) : (d.setShadow a v).i2c = d.i2c := rfl
@[simp] theorem Dev.setShadow_reg (d : Dev) (a : Nat) (v : Word) (k : Nat) : (d.setShadow a v).reg k = d.reg k := by
  unfold Dev.reg; rw [Dev.setShadow_regs]
@[simp] theorem Dev.setShadow_get (d : Dev) (a : Nat) (v : Word) (g : Fld) : (d.setShadow a v).get g = d.get g := by
  unfold Dev.get; rw [Dev.setShadow_reg]
@[simp] theorem Dev.setShadow_bitAt (d : Dev) (a : Nat) (v : Word) (k j : Nat) : (d.setShadow a v).bitAt k j = d.bitAt k j := by
  unfold Dev.bitAt; rw [Dev.setShadow_reg]

/-! ### Dev.sendMsix -/

@[simp] theorem Dev.sendMsix_regs (d : Dev) (v : Nat) : (d.sendMsix v).regs = d.regs := rfl
@[simp] theorem Dev.sendMsix_shadow (d : Dev) (v : Nat) : (d.sendMsix v).shadow = d.shadow := rfl
@[simp] theorem Dev.sendMsix_held (d : Dev) (v : Nat) : (d.sendMsix v).held = d.held := rfl
@[simp] theorem Dev.sendMsix_snaps (d : Dev) (v : Nat) : (d.sendMsix v).snaps = d.snaps := rfl
@[simp] theorem Dev.sendMsix_rdata (d : Dev) (v : Nat) : (d.sendMsix v).rdata = d.rdata := rfl
@[simp] theorem Dev.sendMsix_fresh (d : Dev) (v : Nat) : (d.sendMsix v).fresh = d.fresh := rfl
@[simp] theorem Dev.sendMsix_ticks (d : Dev) (v : Nat) : (d.sendMsix v).ticks = d.ticks := rfl
@[simp] theorem Dev.sendMsix_tc (d : Dev) (v : Nat) : (d.sendMsix v).tc = d.tc := rfl
@[simp] theorem Dev.sendMsix_traps (d : Dev) (v : Nat) : (d.sendMsix v).traps = d.traps := rfl
@[simp] theorem Dev.sendMsix_coreInts (d : Dev) (v : Nat) : (d.sendMsix v).coreInts = d.coreInts := rfl
@[simp] theorem Dev.sendMsix_tapLog (d : Dev) (v : Nat) : (d.sendMsix v).tapLog = d.tapLog := rfl
@[simp] theorem Dev.sendMsix_causes (d : Dev) (v : Nat) : (d.sendMsix v).causes = d.causes := rfl
@[simp] theorem Dev.sendMsix_arising (d : Dev) (v : Nat) : (d.sendMsix v).arising = d.arising := rfl
@[simp] theorem Dev.sendMsix_msiDue (d : Dev) (v : Nat) : (d.sendMsix v).msiDue = d.msiDue := rfl
@[simp] theorem Dev.sendMsix_msiFrom (d : Dev) (v : Nat) : (d.sendMsix v).msiFrom = d.msiFrom := rfl
@[simp] theorem Dev.sendMsix_resetWait (d : Dev) (v : Nat) : (d.sendMsix v).resetWait = d.resetWait := rfl
@[simp] theorem Dev.sendMsix_pcieSeen (d : Dev) (v : Nat) : (d.sendMsix v).pcieSeen = d.pcieSeen := rfl
@[simp] theorem Dev.sendMsix_pcieIds (d : Dev) (v : Nat) : (d.sendMsix v).pcieIds = d.pcieIds := rfl
@[simp] theorem Dev.sendMsix_str (d : Dev) (v : Nat) : (d.sendMsix v).str = d.str := rfl
@[simp] theorem Dev.sendMsix_prb (d : Dev) (v : Nat) : (d.sendMsix v).prb = d.prb := rfl
@[simp] theorem Dev.sendMsix_powered (d : Dev) (v : Nat) : (d.sendMsix v).powered = d.powered := rfl
@[simp] theorem Dev.sendMsix_thermHold (d : Dev) (v : Nat) : (d.sendMsix v).thermHold = d.thermHold := rfl
@[simp] theorem Dev.sendMsix_chainRemote (d : Dev) (v : Nat) : (d.sendMsix v).chainRemote = d.chainRemote := rfl
@[simp] theorem Dev.sendMsix_gated (d : Dev) (v : Nat) : (d.sendMsix v).gated = d.gated := rfl
@[simp] theorem Dev.sendMsix_chainOut (d : Dev) (v : Nat) : (d.sendMsix v).chainOut = d.chainOut := rfl
@[simp] theorem Dev.sendMsix_line (d : Dev) (v : Nat) : (d.sendMsix v).line = d.line := rfl
@[simp] theorem Dev.sendMsix_fec (d : Dev) (v : Nat) : (d.sendMsix v).fec = d.fec := rfl
@[simp] theorem Dev.sendMsix_frm (d : Dev) (v : Nat) : (d.sendMsix v).frm = d.frm := rfl
@[simp] theorem Dev.sendMsix_cry (d : Dev) (v : Nat) : (d.sendMsix v).cry = d.cry := rfl
@[simp] theorem Dev.sendMsix_mrg (d : Dev) (v : Nat) : (d.sendMsix v).mrg = d.mrg := rfl
@[simp] theorem Dev.sendMsix_hst (d : Dev) (v : Nat) : (d.sendMsix v).hst = d.hst := rfl
@[simp] theorem Dev.sendMsix_rms (d : Dev) (v : Nat) : (d.sendMsix v).rms = d.rms := rfl
@[simp] theorem Dev.sendMsix_spillOut (d : Dev) (v : Nat) : (d.sendMsix v).spillOut = d.spillOut := rfl
@[simp] theorem Dev.sendMsix_cap (d : Dev) (v : Nat) : (d.sendMsix v).cap = d.cap := rfl
@[simp] theorem Dev.sendMsix_clp (d : Dev) (v : Nat) : (d.sendMsix v).clp = d.clp := rfl
@[simp] theorem Dev.sendMsix_clpLog (d : Dev) (v : Nat) : (d.sendMsix v).clpLog = d.clpLog := rfl
@[simp] theorem Dev.sendMsix_hbOut (d : Dev) (v : Nat) : (d.sendMsix v).hbOut = d.hbOut := rfl
@[simp] theorem Dev.sendMsix_tim (d : Dev) (v : Nat) : (d.sendMsix v).tim = d.tim := rfl
@[simp] theorem Dev.sendMsix_chn (d : Dev) (v : Nat) : (d.sendMsix v).chn = d.chn := rfl
@[simp] theorem Dev.sendMsix_straps (d : Dev) (v : Nat) : (d.sendMsix v).straps = d.straps := rfl
@[simp] theorem Dev.sendMsix_sec (d : Dev) (v : Nat) : (d.sendMsix v).sec = d.sec := rfl
@[simp] theorem Dev.sendMsix_pwr (d : Dev) (v : Nat) : (d.sendMsix v).pwr = d.pwr := rfl
@[simp] theorem Dev.sendMsix_hk (d : Dev) (v : Nat) : (d.sendMsix v).hk = d.hk := rfl
@[simp] theorem Dev.sendMsix_i2c (d : Dev) (v : Nat) : (d.sendMsix v).i2c = d.i2c := rfl
@[simp] theorem Dev.sendMsix_reg (d : Dev) (v : Nat) (k : Nat) : (d.sendMsix v).reg k = d.reg k := by
  unfold Dev.reg; rw [Dev.sendMsix_regs]
@[simp] theorem Dev.sendMsix_get (d : Dev) (v : Nat) (g : Fld) : (d.sendMsix v).get g = d.get g := by
  unfold Dev.get; rw [Dev.sendMsix_reg]
@[simp] theorem Dev.sendMsix_bitAt (d : Dev) (v : Nat) (k j : Nat) : (d.sendMsix v).bitAt k j = d.bitAt k j := by
  unfold Dev.bitAt; rw [Dev.sendMsix_reg]

/-! ### Dev.setInt -/

@[simp] theorem Dev.setInt_shadow (d : Dev) (b : IntBank) (i : Nat) : (d.setInt b i).shadow = d.shadow := by unfold Dev.setInt; dsimp only; split <;> rfl
@[simp] theorem Dev.setInt_held (d : Dev) (b : IntBank) (i : Nat) : (d.setInt b i).held = d.held := by unfold Dev.setInt; dsimp only; split <;> rfl
@[simp] theorem Dev.setInt_snaps (d : Dev) (b : IntBank) (i : Nat) : (d.setInt b i).snaps = d.snaps := by unfold Dev.setInt; dsimp only; split <;> rfl
@[simp] theorem Dev.setInt_rdata (d : Dev) (b : IntBank) (i : Nat) : (d.setInt b i).rdata = d.rdata := by unfold Dev.setInt; dsimp only; split <;> rfl
@[simp] theorem Dev.setInt_fresh (d : Dev) (b : IntBank) (i : Nat) : (d.setInt b i).fresh = d.fresh := by unfold Dev.setInt; dsimp only; split <;> rfl
@[simp] theorem Dev.setInt_ticks (d : Dev) (b : IntBank) (i : Nat) : (d.setInt b i).ticks = d.ticks := by unfold Dev.setInt; dsimp only; split <;> rfl
@[simp] theorem Dev.setInt_tc (d : Dev) (b : IntBank) (i : Nat) : (d.setInt b i).tc = d.tc := by unfold Dev.setInt; dsimp only; split <;> rfl
@[simp] theorem Dev.setInt_traps (d : Dev) (b : IntBank) (i : Nat) : (d.setInt b i).traps = d.traps := by unfold Dev.setInt; dsimp only; split <;> rfl
@[simp] theorem Dev.setInt_coreInts (d : Dev) (b : IntBank) (i : Nat) : (d.setInt b i).coreInts = d.coreInts := by unfold Dev.setInt; dsimp only; split <;> rfl
@[simp] theorem Dev.setInt_tapLog (d : Dev) (b : IntBank) (i : Nat) : (d.setInt b i).tapLog = d.tapLog := by unfold Dev.setInt; dsimp only; split <;> rfl
@[simp] theorem Dev.setInt_causes (d : Dev) (b : IntBank) (i : Nat) : (d.setInt b i).causes = d.causes := by unfold Dev.setInt; dsimp only; split <;> rfl
@[simp] theorem Dev.setInt_arising (d : Dev) (b : IntBank) (i : Nat) : (d.setInt b i).arising = d.arising := by unfold Dev.setInt; dsimp only; split <;> rfl
@[simp] theorem Dev.setInt_msiDue (d : Dev) (b : IntBank) (i : Nat) : (d.setInt b i).msiDue = d.msiDue := by unfold Dev.setInt; dsimp only; split <;> rfl
@[simp] theorem Dev.setInt_msiFrom (d : Dev) (b : IntBank) (i : Nat) : (d.setInt b i).msiFrom = d.msiFrom := by unfold Dev.setInt; dsimp only; split <;> rfl
@[simp] theorem Dev.setInt_resetWait (d : Dev) (b : IntBank) (i : Nat) : (d.setInt b i).resetWait = d.resetWait := by unfold Dev.setInt; dsimp only; split <;> rfl
@[simp] theorem Dev.setInt_pcieSeen (d : Dev) (b : IntBank) (i : Nat) : (d.setInt b i).pcieSeen = d.pcieSeen := by unfold Dev.setInt; dsimp only; split <;> rfl
@[simp] theorem Dev.setInt_pcieIds (d : Dev) (b : IntBank) (i : Nat) : (d.setInt b i).pcieIds = d.pcieIds := by unfold Dev.setInt; dsimp only; split <;> rfl
@[simp] theorem Dev.setInt_str (d : Dev) (b : IntBank) (i : Nat) : (d.setInt b i).str = d.str := by unfold Dev.setInt; dsimp only; split <;> rfl
@[simp] theorem Dev.setInt_prb (d : Dev) (b : IntBank) (i : Nat) : (d.setInt b i).prb = d.prb := by unfold Dev.setInt; dsimp only; split <;> rfl
@[simp] theorem Dev.setInt_powered (d : Dev) (b : IntBank) (i : Nat) : (d.setInt b i).powered = d.powered := by unfold Dev.setInt; dsimp only; split <;> rfl
@[simp] theorem Dev.setInt_thermHold (d : Dev) (b : IntBank) (i : Nat) : (d.setInt b i).thermHold = d.thermHold := by unfold Dev.setInt; dsimp only; split <;> rfl
@[simp] theorem Dev.setInt_chainRemote (d : Dev) (b : IntBank) (i : Nat) : (d.setInt b i).chainRemote = d.chainRemote := by unfold Dev.setInt; dsimp only; split <;> rfl
@[simp] theorem Dev.setInt_gated (d : Dev) (b : IntBank) (i : Nat) : (d.setInt b i).gated = d.gated := by unfold Dev.setInt; dsimp only; split <;> rfl
@[simp] theorem Dev.setInt_chainOut (d : Dev) (b : IntBank) (i : Nat) : (d.setInt b i).chainOut = d.chainOut := by unfold Dev.setInt; dsimp only; split <;> rfl
@[simp] theorem Dev.setInt_line (d : Dev) (b : IntBank) (i : Nat) : (d.setInt b i).line = d.line := by unfold Dev.setInt; dsimp only; split <;> rfl
@[simp] theorem Dev.setInt_fec (d : Dev) (b : IntBank) (i : Nat) : (d.setInt b i).fec = d.fec := by unfold Dev.setInt; dsimp only; split <;> rfl
@[simp] theorem Dev.setInt_frm (d : Dev) (b : IntBank) (i : Nat) : (d.setInt b i).frm = d.frm := by unfold Dev.setInt; dsimp only; split <;> rfl
@[simp] theorem Dev.setInt_cry (d : Dev) (b : IntBank) (i : Nat) : (d.setInt b i).cry = d.cry := by unfold Dev.setInt; dsimp only; split <;> rfl
@[simp] theorem Dev.setInt_mrg (d : Dev) (b : IntBank) (i : Nat) : (d.setInt b i).mrg = d.mrg := by unfold Dev.setInt; dsimp only; split <;> rfl
@[simp] theorem Dev.setInt_hst (d : Dev) (b : IntBank) (i : Nat) : (d.setInt b i).hst = d.hst := by unfold Dev.setInt; dsimp only; split <;> rfl
@[simp] theorem Dev.setInt_rms (d : Dev) (b : IntBank) (i : Nat) : (d.setInt b i).rms = d.rms := by unfold Dev.setInt; dsimp only; split <;> rfl
@[simp] theorem Dev.setInt_spillOut (d : Dev) (b : IntBank) (i : Nat) : (d.setInt b i).spillOut = d.spillOut := by unfold Dev.setInt; dsimp only; split <;> rfl
@[simp] theorem Dev.setInt_cap (d : Dev) (b : IntBank) (i : Nat) : (d.setInt b i).cap = d.cap := by unfold Dev.setInt; dsimp only; split <;> rfl
@[simp] theorem Dev.setInt_clp (d : Dev) (b : IntBank) (i : Nat) : (d.setInt b i).clp = d.clp := by unfold Dev.setInt; dsimp only; split <;> rfl
@[simp] theorem Dev.setInt_clpLog (d : Dev) (b : IntBank) (i : Nat) : (d.setInt b i).clpLog = d.clpLog := by unfold Dev.setInt; dsimp only; split <;> rfl
@[simp] theorem Dev.setInt_hbOut (d : Dev) (b : IntBank) (i : Nat) : (d.setInt b i).hbOut = d.hbOut := by unfold Dev.setInt; dsimp only; split <;> rfl
@[simp] theorem Dev.setInt_tim (d : Dev) (b : IntBank) (i : Nat) : (d.setInt b i).tim = d.tim := by unfold Dev.setInt; dsimp only; split <;> rfl
@[simp] theorem Dev.setInt_chn (d : Dev) (b : IntBank) (i : Nat) : (d.setInt b i).chn = d.chn := by unfold Dev.setInt; dsimp only; split <;> rfl
@[simp] theorem Dev.setInt_straps (d : Dev) (b : IntBank) (i : Nat) : (d.setInt b i).straps = d.straps := by unfold Dev.setInt; dsimp only; split <;> rfl
@[simp] theorem Dev.setInt_sec (d : Dev) (b : IntBank) (i : Nat) : (d.setInt b i).sec = d.sec := by unfold Dev.setInt; dsimp only; split <;> rfl
@[simp] theorem Dev.setInt_pwr (d : Dev) (b : IntBank) (i : Nat) : (d.setInt b i).pwr = d.pwr := by unfold Dev.setInt; dsimp only; split <;> rfl
@[simp] theorem Dev.setInt_hk (d : Dev) (b : IntBank) (i : Nat) : (d.setInt b i).hk = d.hk := by unfold Dev.setInt; dsimp only; split <;> rfl
@[simp] theorem Dev.setInt_i2c (d : Dev) (b : IntBank) (i : Nat) : (d.setInt b i).i2c = d.i2c := by unfold Dev.setInt; dsimp only; split <;> rfl

/-! ### Dev.arise -/

@[simp] theorem Dev.arise_regs (d : Dev) (f : Nat) : (d.arise f).regs = d.regs := by unfold Dev.arise; split <;> rfl
@[simp] theorem Dev.arise_shadow (d : Dev) (f : Nat) : (d.arise f).shadow = d.shadow := by unfold Dev.arise; split <;> rfl
@[simp] theorem Dev.arise_held (d : Dev) (f : Nat) : (d.arise f).held = d.held := by unfold Dev.arise; split <;> rfl
@[simp] theorem Dev.arise_snaps (d : Dev) (f : Nat) : (d.arise f).snaps = d.snaps := by unfold Dev.arise; split <;> rfl
@[simp] theorem Dev.arise_rdata (d : Dev) (f : Nat) : (d.arise f).rdata = d.rdata := by unfold Dev.arise; split <;> rfl
@[simp] theorem Dev.arise_fresh (d : Dev) (f : Nat) : (d.arise f).fresh = d.fresh := by unfold Dev.arise; split <;> rfl
@[simp] theorem Dev.arise_ticks (d : Dev) (f : Nat) : (d.arise f).ticks = d.ticks := by unfold Dev.arise; split <;> rfl
@[simp] theorem Dev.arise_tc (d : Dev) (f : Nat) : (d.arise f).tc = d.tc := by unfold Dev.arise; split <;> rfl
@[simp] theorem Dev.arise_msix (d : Dev) (f : Nat) : (d.arise f).msix = d.msix := by unfold Dev.arise; split <;> rfl
@[simp] theorem Dev.arise_traps (d : Dev) (f : Nat) : (d.arise f).traps = d.traps := by unfold Dev.arise; split <;> rfl
@[simp] theorem Dev.arise_coreInts (d : Dev) (f : Nat) : (d.arise f).coreInts = d.coreInts := by unfold Dev.arise; split <;> rfl
@[simp] theorem Dev.arise_tapLog (d : Dev) (f : Nat) : (d.arise f).tapLog = d.tapLog := by unfold Dev.arise; split <;> rfl
@[simp] theorem Dev.arise_causes (d : Dev) (f : Nat) : (d.arise f).causes = d.causes := by unfold Dev.arise; split <;> rfl
@[simp] theorem Dev.arise_msiDue (d : Dev) (f : Nat) : (d.arise f).msiDue = d.msiDue := by unfold Dev.arise; split <;> rfl
@[simp] theorem Dev.arise_msiFrom (d : Dev) (f : Nat) : (d.arise f).msiFrom = d.msiFrom := by unfold Dev.arise; split <;> rfl
@[simp] theorem Dev.arise_resetWait (d : Dev) (f : Nat) : (d.arise f).resetWait = d.resetWait := by unfold Dev.arise; split <;> rfl
@[simp] theorem Dev.arise_pcieSeen (d : Dev) (f : Nat) : (d.arise f).pcieSeen = d.pcieSeen := by unfold Dev.arise; split <;> rfl
@[simp] theorem Dev.arise_pcieIds (d : Dev) (f : Nat) : (d.arise f).pcieIds = d.pcieIds := by unfold Dev.arise; split <;> rfl
@[simp] theorem Dev.arise_str (d : Dev) (f : Nat) : (d.arise f).str = d.str := by unfold Dev.arise; split <;> rfl
@[simp] theorem Dev.arise_prb (d : Dev) (f : Nat) : (d.arise f).prb = d.prb := by unfold Dev.arise; split <;> rfl
@[simp] theorem Dev.arise_powered (d : Dev) (f : Nat) : (d.arise f).powered = d.powered := by unfold Dev.arise; split <;> rfl
@[simp] theorem Dev.arise_thermHold (d : Dev) (f : Nat) : (d.arise f).thermHold = d.thermHold := by unfold Dev.arise; split <;> rfl
@[simp] theorem Dev.arise_chainRemote (d : Dev) (f : Nat) : (d.arise f).chainRemote = d.chainRemote := by unfold Dev.arise; split <;> rfl
@[simp] theorem Dev.arise_gated (d : Dev) (f : Nat) : (d.arise f).gated = d.gated := by unfold Dev.arise; split <;> rfl
@[simp] theorem Dev.arise_chainOut (d : Dev) (f : Nat) : (d.arise f).chainOut = d.chainOut := by unfold Dev.arise; split <;> rfl
@[simp] theorem Dev.arise_line (d : Dev) (f : Nat) : (d.arise f).line = d.line := by unfold Dev.arise; split <;> rfl
@[simp] theorem Dev.arise_fec (d : Dev) (f : Nat) : (d.arise f).fec = d.fec := by unfold Dev.arise; split <;> rfl
@[simp] theorem Dev.arise_frm (d : Dev) (f : Nat) : (d.arise f).frm = d.frm := by unfold Dev.arise; split <;> rfl
@[simp] theorem Dev.arise_cry (d : Dev) (f : Nat) : (d.arise f).cry = d.cry := by unfold Dev.arise; split <;> rfl
@[simp] theorem Dev.arise_mrg (d : Dev) (f : Nat) : (d.arise f).mrg = d.mrg := by unfold Dev.arise; split <;> rfl
@[simp] theorem Dev.arise_hst (d : Dev) (f : Nat) : (d.arise f).hst = d.hst := by unfold Dev.arise; split <;> rfl
@[simp] theorem Dev.arise_rms (d : Dev) (f : Nat) : (d.arise f).rms = d.rms := by unfold Dev.arise; split <;> rfl
@[simp] theorem Dev.arise_spillOut (d : Dev) (f : Nat) : (d.arise f).spillOut = d.spillOut := by unfold Dev.arise; split <;> rfl
@[simp] theorem Dev.arise_cap (d : Dev) (f : Nat) : (d.arise f).cap = d.cap := by unfold Dev.arise; split <;> rfl
@[simp] theorem Dev.arise_clp (d : Dev) (f : Nat) : (d.arise f).clp = d.clp := by unfold Dev.arise; split <;> rfl
@[simp] theorem Dev.arise_clpLog (d : Dev) (f : Nat) : (d.arise f).clpLog = d.clpLog := by unfold Dev.arise; split <;> rfl
@[simp] theorem Dev.arise_hbOut (d : Dev) (f : Nat) : (d.arise f).hbOut = d.hbOut := by unfold Dev.arise; split <;> rfl
@[simp] theorem Dev.arise_tim (d : Dev) (f : Nat) : (d.arise f).tim = d.tim := by unfold Dev.arise; split <;> rfl
@[simp] theorem Dev.arise_chn (d : Dev) (f : Nat) : (d.arise f).chn = d.chn := by unfold Dev.arise; split <;> rfl
@[simp] theorem Dev.arise_straps (d : Dev) (f : Nat) : (d.arise f).straps = d.straps := by unfold Dev.arise; split <;> rfl
@[simp] theorem Dev.arise_sec (d : Dev) (f : Nat) : (d.arise f).sec = d.sec := by unfold Dev.arise; split <;> rfl
@[simp] theorem Dev.arise_pwr (d : Dev) (f : Nat) : (d.arise f).pwr = d.pwr := by unfold Dev.arise; split <;> rfl
@[simp] theorem Dev.arise_hk (d : Dev) (f : Nat) : (d.arise f).hk = d.hk := by unfold Dev.arise; split <;> rfl
@[simp] theorem Dev.arise_i2c (d : Dev) (f : Nat) : (d.arise f).i2c = d.i2c := by unfold Dev.arise; split <;> rfl
@[simp] theorem Dev.arise_reg (d : Dev) (f : Nat) (k : Nat) : (d.arise f).reg k = d.reg k := by
  unfold Dev.reg; rw [Dev.arise_regs]
@[simp] theorem Dev.arise_get (d : Dev) (f : Nat) (g : Fld) : (d.arise f).get g = d.get g := by
  unfold Dev.get; rw [Dev.arise_reg]
@[simp] theorem Dev.arise_bitAt (d : Dev) (f : Nat) (k j : Nat) : (d.arise f).bitAt k j = d.bitAt k j := by
  unfold Dev.bitAt; rw [Dev.arise_reg]

/-! ### Dev.raise -/

@[simp] theorem Dev.raise_regs (d : Dev) (f : Nat) : (d.raise f).regs = d.regs := Dev.arise_regs d f
@[simp] theorem Dev.raise_shadow (d : Dev) (f : Nat) : (d.raise f).shadow = d.shadow := Dev.arise_shadow d f
@[simp] theorem Dev.raise_held (d : Dev) (f : Nat) : (d.raise f).held = d.held := Dev.arise_held d f
@[simp] theorem Dev.raise_snaps (d : Dev) (f : Nat) : (d.raise f).snaps = d.snaps := Dev.arise_snaps d f
@[simp] theorem Dev.raise_rdata (d : Dev) (f : Nat) : (d.raise f).rdata = d.rdata := Dev.arise_rdata d f
@[simp] theorem Dev.raise_fresh (d : Dev) (f : Nat) : (d.raise f).fresh = d.fresh := Dev.arise_fresh d f
@[simp] theorem Dev.raise_ticks (d : Dev) (f : Nat) : (d.raise f).ticks = d.ticks := Dev.arise_ticks d f
@[simp] theorem Dev.raise_tc (d : Dev) (f : Nat) : (d.raise f).tc = d.tc := Dev.arise_tc d f
@[simp] theorem Dev.raise_msix (d : Dev) (f : Nat) : (d.raise f).msix = d.msix := Dev.arise_msix d f
@[simp] theorem Dev.raise_traps (d : Dev) (f : Nat) : (d.raise f).traps = d.traps := Dev.arise_traps d f
@[simp] theorem Dev.raise_coreInts (d : Dev) (f : Nat) : (d.raise f).coreInts = d.coreInts := Dev.arise_coreInts d f
@[simp] theorem Dev.raise_tapLog (d : Dev) (f : Nat) : (d.raise f).tapLog = d.tapLog := Dev.arise_tapLog d f
@[simp] theorem Dev.raise_causes (d : Dev) (f : Nat) : (d.raise f).causes = d.causes := Dev.arise_causes d f
@[simp] theorem Dev.raise_msiDue (d : Dev) (f : Nat) : (d.raise f).msiDue = d.msiDue := Dev.arise_msiDue d f
@[simp] theorem Dev.raise_msiFrom (d : Dev) (f : Nat) : (d.raise f).msiFrom = d.msiFrom := Dev.arise_msiFrom d f
@[simp] theorem Dev.raise_resetWait (d : Dev) (f : Nat) : (d.raise f).resetWait = d.resetWait := Dev.arise_resetWait d f
@[simp] theorem Dev.raise_pcieSeen (d : Dev) (f : Nat) : (d.raise f).pcieSeen = d.pcieSeen := Dev.arise_pcieSeen d f
@[simp] theorem Dev.raise_pcieIds (d : Dev) (f : Nat) : (d.raise f).pcieIds = d.pcieIds := Dev.arise_pcieIds d f
@[simp] theorem Dev.raise_str (d : Dev) (f : Nat) : (d.raise f).str = d.str := Dev.arise_str d f
@[simp] theorem Dev.raise_prb (d : Dev) (f : Nat) : (d.raise f).prb = d.prb := Dev.arise_prb d f
@[simp] theorem Dev.raise_powered (d : Dev) (f : Nat) : (d.raise f).powered = d.powered := Dev.arise_powered d f
@[simp] theorem Dev.raise_thermHold (d : Dev) (f : Nat) : (d.raise f).thermHold = d.thermHold := Dev.arise_thermHold d f
@[simp] theorem Dev.raise_chainRemote (d : Dev) (f : Nat) : (d.raise f).chainRemote = d.chainRemote := Dev.arise_chainRemote d f
@[simp] theorem Dev.raise_gated (d : Dev) (f : Nat) : (d.raise f).gated = d.gated := Dev.arise_gated d f
@[simp] theorem Dev.raise_chainOut (d : Dev) (f : Nat) : (d.raise f).chainOut = d.chainOut := Dev.arise_chainOut d f
@[simp] theorem Dev.raise_line (d : Dev) (f : Nat) : (d.raise f).line = d.line := Dev.arise_line d f
@[simp] theorem Dev.raise_fec (d : Dev) (f : Nat) : (d.raise f).fec = d.fec := Dev.arise_fec d f
@[simp] theorem Dev.raise_frm (d : Dev) (f : Nat) : (d.raise f).frm = d.frm := Dev.arise_frm d f
@[simp] theorem Dev.raise_cry (d : Dev) (f : Nat) : (d.raise f).cry = d.cry := Dev.arise_cry d f
@[simp] theorem Dev.raise_mrg (d : Dev) (f : Nat) : (d.raise f).mrg = d.mrg := Dev.arise_mrg d f
@[simp] theorem Dev.raise_hst (d : Dev) (f : Nat) : (d.raise f).hst = d.hst := Dev.arise_hst d f
@[simp] theorem Dev.raise_rms (d : Dev) (f : Nat) : (d.raise f).rms = d.rms := Dev.arise_rms d f
@[simp] theorem Dev.raise_spillOut (d : Dev) (f : Nat) : (d.raise f).spillOut = d.spillOut := Dev.arise_spillOut d f
@[simp] theorem Dev.raise_cap (d : Dev) (f : Nat) : (d.raise f).cap = d.cap := Dev.arise_cap d f
@[simp] theorem Dev.raise_clp (d : Dev) (f : Nat) : (d.raise f).clp = d.clp := Dev.arise_clp d f
@[simp] theorem Dev.raise_clpLog (d : Dev) (f : Nat) : (d.raise f).clpLog = d.clpLog := Dev.arise_clpLog d f
@[simp] theorem Dev.raise_hbOut (d : Dev) (f : Nat) : (d.raise f).hbOut = d.hbOut := Dev.arise_hbOut d f
@[simp] theorem Dev.raise_tim (d : Dev) (f : Nat) : (d.raise f).tim = d.tim := Dev.arise_tim d f
@[simp] theorem Dev.raise_chn (d : Dev) (f : Nat) : (d.raise f).chn = d.chn := Dev.arise_chn d f
@[simp] theorem Dev.raise_straps (d : Dev) (f : Nat) : (d.raise f).straps = d.straps := Dev.arise_straps d f
@[simp] theorem Dev.raise_sec (d : Dev) (f : Nat) : (d.raise f).sec = d.sec := Dev.arise_sec d f
@[simp] theorem Dev.raise_pwr (d : Dev) (f : Nat) : (d.raise f).pwr = d.pwr := Dev.arise_pwr d f
@[simp] theorem Dev.raise_hk (d : Dev) (f : Nat) : (d.raise f).hk = d.hk := Dev.arise_hk d f
@[simp] theorem Dev.raise_i2c (d : Dev) (f : Nat) : (d.raise f).i2c = d.i2c := Dev.arise_i2c d f
@[simp] theorem Dev.raise_reg (d : Dev) (f : Nat) (k : Nat) : (d.raise f).reg k = d.reg k := by
  unfold Dev.reg; rw [Dev.raise_regs]
@[simp] theorem Dev.raise_get (d : Dev) (f : Nat) (g : Fld) : (d.raise f).get g = d.get g := by
  unfold Dev.get; rw [Dev.raise_reg]
@[simp] theorem Dev.raise_bitAt (d : Dev) (f : Nat) (k j : Nat) : (d.raise f).bitAt k j = d.bitAt k j := by
  unfold Dev.bitAt; rw [Dev.raise_reg]

/-! ### Dev.causeOn -/

@[simp] theorem Dev.causeOn_regs (d : Dev) (f : Nat) : (d.causeOn f).regs = d.regs := by unfold Dev.causeOn; split <;> simp
@[simp] theorem Dev.causeOn_shadow (d : Dev) (f : Nat) : (d.causeOn f).shadow = d.shadow := by unfold Dev.causeOn; split <;> simp
@[simp] theorem Dev.causeOn_held (d : Dev) (f : Nat) : (d.causeOn f).held = d.held := by unfold Dev.causeOn; split <;> simp
@[simp] theorem Dev.causeOn_snaps (d : Dev) (f : Nat) : (d.causeOn f).snaps = d.snaps := by unfold Dev.causeOn; split <;> simp
@[simp] theorem Dev.causeOn_rdata (d : Dev) (f : Nat) : (d.causeOn f).rdata = d.rdata := by unfold Dev.causeOn; split <;> simp
@[simp] theorem Dev.causeOn_fresh (d : Dev) (f : Nat) : (d.causeOn f).fresh = d.fresh := by unfold Dev.causeOn; split <;> simp
@[simp] theorem Dev.causeOn_ticks (d : Dev) (f : Nat) : (d.causeOn f).ticks = d.ticks := by unfold Dev.causeOn; split <;> simp
@[simp] theorem Dev.causeOn_tc (d : Dev) (f : Nat) : (d.causeOn f).tc = d.tc := by unfold Dev.causeOn; split <;> simp
@[simp] theorem Dev.causeOn_msix (d : Dev) (f : Nat) : (d.causeOn f).msix = d.msix := by unfold Dev.causeOn; split <;> simp
@[simp] theorem Dev.causeOn_traps (d : Dev) (f : Nat) : (d.causeOn f).traps = d.traps := by unfold Dev.causeOn; split <;> simp
@[simp] theorem Dev.causeOn_coreInts (d : Dev) (f : Nat) : (d.causeOn f).coreInts = d.coreInts := by unfold Dev.causeOn; split <;> simp
@[simp] theorem Dev.causeOn_tapLog (d : Dev) (f : Nat) : (d.causeOn f).tapLog = d.tapLog := by unfold Dev.causeOn; split <;> simp
@[simp] theorem Dev.causeOn_msiDue (d : Dev) (f : Nat) : (d.causeOn f).msiDue = d.msiDue := by unfold Dev.causeOn; split <;> simp
@[simp] theorem Dev.causeOn_msiFrom (d : Dev) (f : Nat) : (d.causeOn f).msiFrom = d.msiFrom := by unfold Dev.causeOn; split <;> simp
@[simp] theorem Dev.causeOn_resetWait (d : Dev) (f : Nat) : (d.causeOn f).resetWait = d.resetWait := by unfold Dev.causeOn; split <;> simp
@[simp] theorem Dev.causeOn_pcieSeen (d : Dev) (f : Nat) : (d.causeOn f).pcieSeen = d.pcieSeen := by unfold Dev.causeOn; split <;> simp
@[simp] theorem Dev.causeOn_pcieIds (d : Dev) (f : Nat) : (d.causeOn f).pcieIds = d.pcieIds := by unfold Dev.causeOn; split <;> simp
@[simp] theorem Dev.causeOn_str (d : Dev) (f : Nat) : (d.causeOn f).str = d.str := by unfold Dev.causeOn; split <;> simp
@[simp] theorem Dev.causeOn_prb (d : Dev) (f : Nat) : (d.causeOn f).prb = d.prb := by unfold Dev.causeOn; split <;> simp
@[simp] theorem Dev.causeOn_powered (d : Dev) (f : Nat) : (d.causeOn f).powered = d.powered := by unfold Dev.causeOn; split <;> simp
@[simp] theorem Dev.causeOn_thermHold (d : Dev) (f : Nat) : (d.causeOn f).thermHold = d.thermHold := by unfold Dev.causeOn; split <;> simp
@[simp] theorem Dev.causeOn_chainRemote (d : Dev) (f : Nat) : (d.causeOn f).chainRemote = d.chainRemote := by unfold Dev.causeOn; split <;> simp
@[simp] theorem Dev.causeOn_gated (d : Dev) (f : Nat) : (d.causeOn f).gated = d.gated := by unfold Dev.causeOn; split <;> simp
@[simp] theorem Dev.causeOn_chainOut (d : Dev) (f : Nat) : (d.causeOn f).chainOut = d.chainOut := by unfold Dev.causeOn; split <;> simp
@[simp] theorem Dev.causeOn_line (d : Dev) (f : Nat) : (d.causeOn f).line = d.line := by unfold Dev.causeOn; split <;> simp
@[simp] theorem Dev.causeOn_fec (d : Dev) (f : Nat) : (d.causeOn f).fec = d.fec := by unfold Dev.causeOn; split <;> simp
@[simp] theorem Dev.causeOn_frm (d : Dev) (f : Nat) : (d.causeOn f).frm = d.frm := by unfold Dev.causeOn; split <;> simp
@[simp] theorem Dev.causeOn_cry (d : Dev) (f : Nat) : (d.causeOn f).cry = d.cry := by unfold Dev.causeOn; split <;> simp
@[simp] theorem Dev.causeOn_mrg (d : Dev) (f : Nat) : (d.causeOn f).mrg = d.mrg := by unfold Dev.causeOn; split <;> simp
@[simp] theorem Dev.causeOn_hst (d : Dev) (f : Nat) : (d.causeOn f).hst = d.hst := by unfold Dev.causeOn; split <;> simp
@[simp] theorem Dev.causeOn_rms (d : Dev) (f : Nat) : (d.causeOn f).rms = d.rms := by unfold Dev.causeOn; split <;> simp
@[simp] theorem Dev.causeOn_spillOut (d : Dev) (f : Nat) : (d.causeOn f).spillOut = d.spillOut := by unfold Dev.causeOn; split <;> simp
@[simp] theorem Dev.causeOn_cap (d : Dev) (f : Nat) : (d.causeOn f).cap = d.cap := by unfold Dev.causeOn; split <;> simp
@[simp] theorem Dev.causeOn_clp (d : Dev) (f : Nat) : (d.causeOn f).clp = d.clp := by unfold Dev.causeOn; split <;> simp
@[simp] theorem Dev.causeOn_clpLog (d : Dev) (f : Nat) : (d.causeOn f).clpLog = d.clpLog := by unfold Dev.causeOn; split <;> simp
@[simp] theorem Dev.causeOn_hbOut (d : Dev) (f : Nat) : (d.causeOn f).hbOut = d.hbOut := by unfold Dev.causeOn; split <;> simp
@[simp] theorem Dev.causeOn_tim (d : Dev) (f : Nat) : (d.causeOn f).tim = d.tim := by unfold Dev.causeOn; split <;> simp
@[simp] theorem Dev.causeOn_chn (d : Dev) (f : Nat) : (d.causeOn f).chn = d.chn := by unfold Dev.causeOn; split <;> simp
@[simp] theorem Dev.causeOn_straps (d : Dev) (f : Nat) : (d.causeOn f).straps = d.straps := by unfold Dev.causeOn; split <;> simp
@[simp] theorem Dev.causeOn_sec (d : Dev) (f : Nat) : (d.causeOn f).sec = d.sec := by unfold Dev.causeOn; split <;> simp
@[simp] theorem Dev.causeOn_pwr (d : Dev) (f : Nat) : (d.causeOn f).pwr = d.pwr := by unfold Dev.causeOn; split <;> simp
@[simp] theorem Dev.causeOn_hk (d : Dev) (f : Nat) : (d.causeOn f).hk = d.hk := by unfold Dev.causeOn; split <;> simp
@[simp] theorem Dev.causeOn_i2c (d : Dev) (f : Nat) : (d.causeOn f).i2c = d.i2c := by unfold Dev.causeOn; split <;> simp
@[simp] theorem Dev.causeOn_reg (d : Dev) (f : Nat) (k : Nat) : (d.causeOn f).reg k = d.reg k := by
  unfold Dev.reg; rw [Dev.causeOn_regs]
@[simp] theorem Dev.causeOn_get (d : Dev) (f : Nat) (g : Fld) : (d.causeOn f).get g = d.get g := by
  unfold Dev.get; rw [Dev.causeOn_reg]
@[simp] theorem Dev.causeOn_bitAt (d : Dev) (f : Nat) (k j : Nat) : (d.causeOn f).bitAt k j = d.bitAt k j := by
  unfold Dev.bitAt; rw [Dev.causeOn_reg]

/-! ### Dev.causeOff -/

@[simp] theorem Dev.causeOff_regs (d : Dev) (f : Nat) : (d.causeOff f).regs = d.regs := rfl
@[simp] theorem Dev.causeOff_shadow (d : Dev) (f : Nat) : (d.causeOff f).shadow = d.shadow := rfl
@[simp] theorem Dev.causeOff_held (d : Dev) (f : Nat) : (d.causeOff f).held = d.held := rfl
@[simp] theorem Dev.causeOff_snaps (d : Dev) (f : Nat) : (d.causeOff f).snaps = d.snaps := rfl
@[simp] theorem Dev.causeOff_rdata (d : Dev) (f : Nat) : (d.causeOff f).rdata = d.rdata := rfl
@[simp] theorem Dev.causeOff_fresh (d : Dev) (f : Nat) : (d.causeOff f).fresh = d.fresh := rfl
@[simp] theorem Dev.causeOff_ticks (d : Dev) (f : Nat) : (d.causeOff f).ticks = d.ticks := rfl
@[simp] theorem Dev.causeOff_tc (d : Dev) (f : Nat) : (d.causeOff f).tc = d.tc := rfl
@[simp] theorem Dev.causeOff_msix (d : Dev) (f : Nat) : (d.causeOff f).msix = d.msix := rfl
@[simp] theorem Dev.causeOff_traps (d : Dev) (f : Nat) : (d.causeOff f).traps = d.traps := rfl
@[simp] theorem Dev.causeOff_coreInts (d : Dev) (f : Nat) : (d.causeOff f).coreInts = d.coreInts := rfl
@[simp] theorem Dev.causeOff_tapLog (d : Dev) (f : Nat) : (d.causeOff f).tapLog = d.tapLog := rfl
@[simp] theorem Dev.causeOff_arising (d : Dev) (f : Nat) : (d.causeOff f).arising = d.arising := rfl
@[simp] theorem Dev.causeOff_msiDue (d : Dev) (f : Nat) : (d.causeOff f).msiDue = d.msiDue := rfl
@[simp] theorem Dev.causeOff_msiFrom (d : Dev) (f : Nat) : (d.causeOff f).msiFrom = d.msiFrom := rfl
@[simp] theorem Dev.causeOff_resetWait (d : Dev) (f : Nat) : (d.causeOff f).resetWait = d.resetWait := rfl
@[simp] theorem Dev.causeOff_pcieSeen (d : Dev) (f : Nat) : (d.causeOff f).pcieSeen = d.pcieSeen := rfl
@[simp] theorem Dev.causeOff_pcieIds (d : Dev) (f : Nat) : (d.causeOff f).pcieIds = d.pcieIds := rfl
@[simp] theorem Dev.causeOff_str (d : Dev) (f : Nat) : (d.causeOff f).str = d.str := rfl
@[simp] theorem Dev.causeOff_prb (d : Dev) (f : Nat) : (d.causeOff f).prb = d.prb := rfl
@[simp] theorem Dev.causeOff_powered (d : Dev) (f : Nat) : (d.causeOff f).powered = d.powered := rfl
@[simp] theorem Dev.causeOff_thermHold (d : Dev) (f : Nat) : (d.causeOff f).thermHold = d.thermHold := rfl
@[simp] theorem Dev.causeOff_chainRemote (d : Dev) (f : Nat) : (d.causeOff f).chainRemote = d.chainRemote := rfl
@[simp] theorem Dev.causeOff_gated (d : Dev) (f : Nat) : (d.causeOff f).gated = d.gated := rfl
@[simp] theorem Dev.causeOff_chainOut (d : Dev) (f : Nat) : (d.causeOff f).chainOut = d.chainOut := rfl
@[simp] theorem Dev.causeOff_line (d : Dev) (f : Nat) : (d.causeOff f).line = d.line := rfl
@[simp] theorem Dev.causeOff_fec (d : Dev) (f : Nat) : (d.causeOff f).fec = d.fec := rfl
@[simp] theorem Dev.causeOff_frm (d : Dev) (f : Nat) : (d.causeOff f).frm = d.frm := rfl
@[simp] theorem Dev.causeOff_cry (d : Dev) (f : Nat) : (d.causeOff f).cry = d.cry := rfl
@[simp] theorem Dev.causeOff_mrg (d : Dev) (f : Nat) : (d.causeOff f).mrg = d.mrg := rfl
@[simp] theorem Dev.causeOff_hst (d : Dev) (f : Nat) : (d.causeOff f).hst = d.hst := rfl
@[simp] theorem Dev.causeOff_rms (d : Dev) (f : Nat) : (d.causeOff f).rms = d.rms := rfl
@[simp] theorem Dev.causeOff_spillOut (d : Dev) (f : Nat) : (d.causeOff f).spillOut = d.spillOut := rfl
@[simp] theorem Dev.causeOff_cap (d : Dev) (f : Nat) : (d.causeOff f).cap = d.cap := rfl
@[simp] theorem Dev.causeOff_clp (d : Dev) (f : Nat) : (d.causeOff f).clp = d.clp := rfl
@[simp] theorem Dev.causeOff_clpLog (d : Dev) (f : Nat) : (d.causeOff f).clpLog = d.clpLog := rfl
@[simp] theorem Dev.causeOff_hbOut (d : Dev) (f : Nat) : (d.causeOff f).hbOut = d.hbOut := rfl
@[simp] theorem Dev.causeOff_tim (d : Dev) (f : Nat) : (d.causeOff f).tim = d.tim := rfl
@[simp] theorem Dev.causeOff_chn (d : Dev) (f : Nat) : (d.causeOff f).chn = d.chn := rfl
@[simp] theorem Dev.causeOff_straps (d : Dev) (f : Nat) : (d.causeOff f).straps = d.straps := rfl
@[simp] theorem Dev.causeOff_sec (d : Dev) (f : Nat) : (d.causeOff f).sec = d.sec := rfl
@[simp] theorem Dev.causeOff_pwr (d : Dev) (f : Nat) : (d.causeOff f).pwr = d.pwr := rfl
@[simp] theorem Dev.causeOff_hk (d : Dev) (f : Nat) : (d.causeOff f).hk = d.hk := rfl
@[simp] theorem Dev.causeOff_i2c (d : Dev) (f : Nat) : (d.causeOff f).i2c = d.i2c := rfl
@[simp] theorem Dev.causeOff_reg (d : Dev) (f : Nat) (k : Nat) : (d.causeOff f).reg k = d.reg k := by
  unfold Dev.reg; rw [Dev.causeOff_regs]
@[simp] theorem Dev.causeOff_get (d : Dev) (f : Nat) (g : Fld) : (d.causeOff f).get g = d.get g := by
  unfold Dev.get; rw [Dev.causeOff_reg]
@[simp] theorem Dev.causeOff_bitAt (d : Dev) (f : Nat) (k j : Nat) : (d.causeOff f).bitAt k j = d.bitAt k j := by
  unfold Dev.bitAt; rw [Dev.causeOff_reg]

/-! ### Dev.causeIs -/

@[simp] theorem Dev.causeIs_regs (d : Dev) (f : Nat) (b : Bool) : (d.causeIs f b).regs = d.regs := by cases b <;> simp [Dev.causeIs]
@[simp] theorem Dev.causeIs_shadow (d : Dev) (f : Nat) (b : Bool) : (d.causeIs f b).shadow = d.shadow := by cases b <;> simp [Dev.causeIs]
@[simp] theorem Dev.causeIs_held (d : Dev) (f : Nat) (b : Bool) : (d.causeIs f b).held = d.held := by cases b <;> simp [Dev.causeIs]
@[simp] theorem Dev.causeIs_snaps (d : Dev) (f : Nat) (b : Bool) : (d.causeIs f b).snaps = d.snaps := by cases b <;> simp [Dev.causeIs]
@[simp] theorem Dev.causeIs_rdata (d : Dev) (f : Nat) (b : Bool) : (d.causeIs f b).rdata = d.rdata := by cases b <;> simp [Dev.causeIs]
@[simp] theorem Dev.causeIs_fresh (d : Dev) (f : Nat) (b : Bool) : (d.causeIs f b).fresh = d.fresh := by cases b <;> simp [Dev.causeIs]
@[simp] theorem Dev.causeIs_ticks (d : Dev) (f : Nat) (b : Bool) : (d.causeIs f b).ticks = d.ticks := by cases b <;> simp [Dev.causeIs]
@[simp] theorem Dev.causeIs_tc (d : Dev) (f : Nat) (b : Bool) : (d.causeIs f b).tc = d.tc := by cases b <;> simp [Dev.causeIs]
@[simp] theorem Dev.causeIs_msix (d : Dev) (f : Nat) (b : Bool) : (d.causeIs f b).msix = d.msix := by cases b <;> simp [Dev.causeIs]
@[simp] theorem Dev.causeIs_traps (d : Dev) (f : Nat) (b : Bool) : (d.causeIs f b).traps = d.traps := by cases b <;> simp [Dev.causeIs]
@[simp] theorem Dev.causeIs_coreInts (d : Dev) (f : Nat) (b : Bool) : (d.causeIs f b).coreInts = d.coreInts := by cases b <;> simp [Dev.causeIs]
@[simp] theorem Dev.causeIs_tapLog (d : Dev) (f : Nat) (b : Bool) : (d.causeIs f b).tapLog = d.tapLog := by cases b <;> simp [Dev.causeIs]
@[simp] theorem Dev.causeIs_msiDue (d : Dev) (f : Nat) (b : Bool) : (d.causeIs f b).msiDue = d.msiDue := by cases b <;> simp [Dev.causeIs]
@[simp] theorem Dev.causeIs_msiFrom (d : Dev) (f : Nat) (b : Bool) : (d.causeIs f b).msiFrom = d.msiFrom := by cases b <;> simp [Dev.causeIs]
@[simp] theorem Dev.causeIs_resetWait (d : Dev) (f : Nat) (b : Bool) : (d.causeIs f b).resetWait = d.resetWait := by cases b <;> simp [Dev.causeIs]
@[simp] theorem Dev.causeIs_pcieSeen (d : Dev) (f : Nat) (b : Bool) : (d.causeIs f b).pcieSeen = d.pcieSeen := by cases b <;> simp [Dev.causeIs]
@[simp] theorem Dev.causeIs_pcieIds (d : Dev) (f : Nat) (b : Bool) : (d.causeIs f b).pcieIds = d.pcieIds := by cases b <;> simp [Dev.causeIs]
@[simp] theorem Dev.causeIs_str (d : Dev) (f : Nat) (b : Bool) : (d.causeIs f b).str = d.str := by cases b <;> simp [Dev.causeIs]
@[simp] theorem Dev.causeIs_prb (d : Dev) (f : Nat) (b : Bool) : (d.causeIs f b).prb = d.prb := by cases b <;> simp [Dev.causeIs]
@[simp] theorem Dev.causeIs_powered (d : Dev) (f : Nat) (b : Bool) : (d.causeIs f b).powered = d.powered := by cases b <;> simp [Dev.causeIs]
@[simp] theorem Dev.causeIs_thermHold (d : Dev) (f : Nat) (b : Bool) : (d.causeIs f b).thermHold = d.thermHold := by cases b <;> simp [Dev.causeIs]
@[simp] theorem Dev.causeIs_chainRemote (d : Dev) (f : Nat) (b : Bool) : (d.causeIs f b).chainRemote = d.chainRemote := by cases b <;> simp [Dev.causeIs]
@[simp] theorem Dev.causeIs_gated (d : Dev) (f : Nat) (b : Bool) : (d.causeIs f b).gated = d.gated := by cases b <;> simp [Dev.causeIs]
@[simp] theorem Dev.causeIs_chainOut (d : Dev) (f : Nat) (b : Bool) : (d.causeIs f b).chainOut = d.chainOut := by cases b <;> simp [Dev.causeIs]
@[simp] theorem Dev.causeIs_line (d : Dev) (f : Nat) (b : Bool) : (d.causeIs f b).line = d.line := by cases b <;> simp [Dev.causeIs]
@[simp] theorem Dev.causeIs_fec (d : Dev) (f : Nat) (b : Bool) : (d.causeIs f b).fec = d.fec := by cases b <;> simp [Dev.causeIs]
@[simp] theorem Dev.causeIs_frm (d : Dev) (f : Nat) (b : Bool) : (d.causeIs f b).frm = d.frm := by cases b <;> simp [Dev.causeIs]
@[simp] theorem Dev.causeIs_cry (d : Dev) (f : Nat) (b : Bool) : (d.causeIs f b).cry = d.cry := by cases b <;> simp [Dev.causeIs]
@[simp] theorem Dev.causeIs_mrg (d : Dev) (f : Nat) (b : Bool) : (d.causeIs f b).mrg = d.mrg := by cases b <;> simp [Dev.causeIs]
@[simp] theorem Dev.causeIs_hst (d : Dev) (f : Nat) (b : Bool) : (d.causeIs f b).hst = d.hst := by cases b <;> simp [Dev.causeIs]
@[simp] theorem Dev.causeIs_rms (d : Dev) (f : Nat) (b : Bool) : (d.causeIs f b).rms = d.rms := by cases b <;> simp [Dev.causeIs]
@[simp] theorem Dev.causeIs_spillOut (d : Dev) (f : Nat) (b : Bool) : (d.causeIs f b).spillOut = d.spillOut := by cases b <;> simp [Dev.causeIs]
@[simp] theorem Dev.causeIs_cap (d : Dev) (f : Nat) (b : Bool) : (d.causeIs f b).cap = d.cap := by cases b <;> simp [Dev.causeIs]
@[simp] theorem Dev.causeIs_clp (d : Dev) (f : Nat) (b : Bool) : (d.causeIs f b).clp = d.clp := by cases b <;> simp [Dev.causeIs]
@[simp] theorem Dev.causeIs_clpLog (d : Dev) (f : Nat) (b : Bool) : (d.causeIs f b).clpLog = d.clpLog := by cases b <;> simp [Dev.causeIs]
@[simp] theorem Dev.causeIs_hbOut (d : Dev) (f : Nat) (b : Bool) : (d.causeIs f b).hbOut = d.hbOut := by cases b <;> simp [Dev.causeIs]
@[simp] theorem Dev.causeIs_tim (d : Dev) (f : Nat) (b : Bool) : (d.causeIs f b).tim = d.tim := by cases b <;> simp [Dev.causeIs]
@[simp] theorem Dev.causeIs_chn (d : Dev) (f : Nat) (b : Bool) : (d.causeIs f b).chn = d.chn := by cases b <;> simp [Dev.causeIs]
@[simp] theorem Dev.causeIs_straps (d : Dev) (f : Nat) (b : Bool) : (d.causeIs f b).straps = d.straps := by cases b <;> simp [Dev.causeIs]
@[simp] theorem Dev.causeIs_sec (d : Dev) (f : Nat) (b : Bool) : (d.causeIs f b).sec = d.sec := by cases b <;> simp [Dev.causeIs]
@[simp] theorem Dev.causeIs_pwr (d : Dev) (f : Nat) (b : Bool) : (d.causeIs f b).pwr = d.pwr := by cases b <;> simp [Dev.causeIs]
@[simp] theorem Dev.causeIs_hk (d : Dev) (f : Nat) (b : Bool) : (d.causeIs f b).hk = d.hk := by cases b <;> simp [Dev.causeIs]
@[simp] theorem Dev.causeIs_i2c (d : Dev) (f : Nat) (b : Bool) : (d.causeIs f b).i2c = d.i2c := by cases b <;> simp [Dev.causeIs]
@[simp] theorem Dev.causeIs_reg (d : Dev) (f : Nat) (b : Bool) (k : Nat) : (d.causeIs f b).reg k = d.reg k := by
  unfold Dev.reg; rw [Dev.causeIs_regs]
@[simp] theorem Dev.causeIs_get (d : Dev) (f : Nat) (b : Bool) (g : Fld) : (d.causeIs f b).get g = d.get g := by
  unfold Dev.get; rw [Dev.causeIs_reg]
@[simp] theorem Dev.causeIs_bitAt (d : Dev) (f : Nat) (b : Bool) (k j : Nat) : (d.causeIs f b).bitAt k j = d.bitAt k j := by
  unfold Dev.bitAt; rw [Dev.causeIs_reg]

/-! ### Dev.tapAt -/

@[simp] theorem Dev.tapAt_regs (d : Dev) (t c x : Nat) : (d.tapAt t c x).regs = d.regs := rfl
@[simp] theorem Dev.tapAt_shadow (d : Dev) (t c x : Nat) : (d.tapAt t c x).shadow = d.shadow := rfl
@[simp] theorem Dev.tapAt_held (d : Dev) (t c x : Nat) : (d.tapAt t c x).held = d.held := rfl
@[simp] theorem Dev.tapAt_snaps (d : Dev) (t c x : Nat) : (d.tapAt t c x).snaps = d.snaps := rfl
@[simp] theorem Dev.tapAt_rdata (d : Dev) (t c x : Nat) : (d.tapAt t c x).rdata = d.rdata := rfl
@[simp] theorem Dev.tapAt_fresh (d : Dev) (t c x : Nat) : (d.tapAt t c x).fresh = d.fresh := rfl
@[simp] theorem Dev.tapAt_ticks (d : Dev) (t c x : Nat) : (d.tapAt t c x).ticks = d.ticks := rfl
@[simp] theorem Dev.tapAt_tc (d : Dev) (t c x : Nat) : (d.tapAt t c x).tc = d.tc := rfl
@[simp] theorem Dev.tapAt_msix (d : Dev) (t c x : Nat) : (d.tapAt t c x).msix = d.msix := rfl
@[simp] theorem Dev.tapAt_traps (d : Dev) (t c x : Nat) : (d.tapAt t c x).traps = d.traps := rfl
@[simp] theorem Dev.tapAt_coreInts (d : Dev) (t c x : Nat) : (d.tapAt t c x).coreInts = d.coreInts := rfl
@[simp] theorem Dev.tapAt_causes (d : Dev) (t c x : Nat) : (d.tapAt t c x).causes = d.causes := rfl
@[simp] theorem Dev.tapAt_arising (d : Dev) (t c x : Nat) : (d.tapAt t c x).arising = d.arising := rfl
@[simp] theorem Dev.tapAt_msiDue (d : Dev) (t c x : Nat) : (d.tapAt t c x).msiDue = d.msiDue := rfl
@[simp] theorem Dev.tapAt_msiFrom (d : Dev) (t c x : Nat) : (d.tapAt t c x).msiFrom = d.msiFrom := rfl
@[simp] theorem Dev.tapAt_resetWait (d : Dev) (t c x : Nat) : (d.tapAt t c x).resetWait = d.resetWait := rfl
@[simp] theorem Dev.tapAt_pcieSeen (d : Dev) (t c x : Nat) : (d.tapAt t c x).pcieSeen = d.pcieSeen := rfl
@[simp] theorem Dev.tapAt_pcieIds (d : Dev) (t c x : Nat) : (d.tapAt t c x).pcieIds = d.pcieIds := rfl
@[simp] theorem Dev.tapAt_str (d : Dev) (t c x : Nat) : (d.tapAt t c x).str = d.str := rfl
@[simp] theorem Dev.tapAt_prb (d : Dev) (t c x : Nat) : (d.tapAt t c x).prb = d.prb := rfl
@[simp] theorem Dev.tapAt_powered (d : Dev) (t c x : Nat) : (d.tapAt t c x).powered = d.powered := rfl
@[simp] theorem Dev.tapAt_thermHold (d : Dev) (t c x : Nat) : (d.tapAt t c x).thermHold = d.thermHold := rfl
@[simp] theorem Dev.tapAt_chainRemote (d : Dev) (t c x : Nat) : (d.tapAt t c x).chainRemote = d.chainRemote := rfl
@[simp] theorem Dev.tapAt_gated (d : Dev) (t c x : Nat) : (d.tapAt t c x).gated = d.gated := rfl
@[simp] theorem Dev.tapAt_chainOut (d : Dev) (t c x : Nat) : (d.tapAt t c x).chainOut = d.chainOut := rfl
@[simp] theorem Dev.tapAt_line (d : Dev) (t c x : Nat) : (d.tapAt t c x).line = d.line := rfl
@[simp] theorem Dev.tapAt_fec (d : Dev) (t c x : Nat) : (d.tapAt t c x).fec = d.fec := rfl
@[simp] theorem Dev.tapAt_frm (d : Dev) (t c x : Nat) : (d.tapAt t c x).frm = d.frm := rfl
@[simp] theorem Dev.tapAt_cry (d : Dev) (t c x : Nat) : (d.tapAt t c x).cry = d.cry := rfl
@[simp] theorem Dev.tapAt_mrg (d : Dev) (t c x : Nat) : (d.tapAt t c x).mrg = d.mrg := rfl
@[simp] theorem Dev.tapAt_hst (d : Dev) (t c x : Nat) : (d.tapAt t c x).hst = d.hst := rfl
@[simp] theorem Dev.tapAt_rms (d : Dev) (t c x : Nat) : (d.tapAt t c x).rms = d.rms := rfl
@[simp] theorem Dev.tapAt_spillOut (d : Dev) (t c x : Nat) : (d.tapAt t c x).spillOut = d.spillOut := rfl
@[simp] theorem Dev.tapAt_cap (d : Dev) (t c x : Nat) : (d.tapAt t c x).cap = d.cap := rfl
@[simp] theorem Dev.tapAt_clp (d : Dev) (t c x : Nat) : (d.tapAt t c x).clp = d.clp := rfl
@[simp] theorem Dev.tapAt_clpLog (d : Dev) (t c x : Nat) : (d.tapAt t c x).clpLog = d.clpLog := rfl
@[simp] theorem Dev.tapAt_hbOut (d : Dev) (t c x : Nat) : (d.tapAt t c x).hbOut = d.hbOut := rfl
@[simp] theorem Dev.tapAt_tim (d : Dev) (t c x : Nat) : (d.tapAt t c x).tim = d.tim := rfl
@[simp] theorem Dev.tapAt_chn (d : Dev) (t c x : Nat) : (d.tapAt t c x).chn = d.chn := rfl
@[simp] theorem Dev.tapAt_straps (d : Dev) (t c x : Nat) : (d.tapAt t c x).straps = d.straps := rfl
@[simp] theorem Dev.tapAt_sec (d : Dev) (t c x : Nat) : (d.tapAt t c x).sec = d.sec := rfl
@[simp] theorem Dev.tapAt_pwr (d : Dev) (t c x : Nat) : (d.tapAt t c x).pwr = d.pwr := rfl
@[simp] theorem Dev.tapAt_hk (d : Dev) (t c x : Nat) : (d.tapAt t c x).hk = d.hk := rfl
@[simp] theorem Dev.tapAt_i2c (d : Dev) (t c x : Nat) : (d.tapAt t c x).i2c = d.i2c := rfl
@[simp] theorem Dev.tapAt_reg (d : Dev) (t c x : Nat) (k : Nat) : (d.tapAt t c x).reg k = d.reg k := by
  unfold Dev.reg; rw [Dev.tapAt_regs]
@[simp] theorem Dev.tapAt_get (d : Dev) (t c x : Nat) (g : Fld) : (d.tapAt t c x).get g = d.get g := by
  unfold Dev.get; rw [Dev.tapAt_reg]
@[simp] theorem Dev.tapAt_bitAt (d : Dev) (t c x : Nat) (k j : Nat) : (d.tapAt t c x).bitAt k j = d.bitAt k j := by
  unfold Dev.bitAt; rw [Dev.tapAt_reg]

/-! ### Dev.tapEvent -/

@[simp] theorem Dev.tapEvent_regs (d : Dev) (c x : Nat) : (d.tapEvent c x).regs = d.regs := rfl
@[simp] theorem Dev.tapEvent_shadow (d : Dev) (c x : Nat) : (d.tapEvent c x).shadow = d.shadow := rfl
@[simp] theorem Dev.tapEvent_held (d : Dev) (c x : Nat) : (d.tapEvent c x).held = d.held := rfl
@[simp] theorem Dev.tapEvent_snaps (d : Dev) (c x : Nat) : (d.tapEvent c x).snaps = d.snaps := rfl
@[simp] theorem Dev.tapEvent_rdata (d : Dev) (c x : Nat) : (d.tapEvent c x).rdata = d.rdata := rfl
@[simp] theorem Dev.tapEvent_fresh (d : Dev) (c x : Nat) : (d.tapEvent c x).fresh = d.fresh := rfl
@[simp] theorem Dev.tapEvent_ticks (d : Dev) (c x : Nat) : (d.tapEvent c x).ticks = d.ticks := rfl
@[simp] theorem Dev.tapEvent_tc (d : Dev) (c x : Nat) : (d.tapEvent c x).tc = d.tc := rfl
@[simp] theorem Dev.tapEvent_msix (d : Dev) (c x : Nat) : (d.tapEvent c x).msix = d.msix := rfl
@[simp] theorem Dev.tapEvent_traps (d : Dev) (c x : Nat) : (d.tapEvent c x).traps = d.traps := rfl
@[simp] theorem Dev.tapEvent_coreInts (d : Dev) (c x : Nat) : (d.tapEvent c x).coreInts = d.coreInts := rfl
@[simp] theorem Dev.tapEvent_causes (d : Dev) (c x : Nat) : (d.tapEvent c x).causes = d.causes := rfl
@[simp] theorem Dev.tapEvent_arising (d : Dev) (c x : Nat) : (d.tapEvent c x).arising = d.arising := rfl
@[simp] theorem Dev.tapEvent_msiDue (d : Dev) (c x : Nat) : (d.tapEvent c x).msiDue = d.msiDue := rfl
@[simp] theorem Dev.tapEvent_msiFrom (d : Dev) (c x : Nat) : (d.tapEvent c x).msiFrom = d.msiFrom := rfl
@[simp] theorem Dev.tapEvent_resetWait (d : Dev) (c x : Nat) : (d.tapEvent c x).resetWait = d.resetWait := rfl
@[simp] theorem Dev.tapEvent_pcieSeen (d : Dev) (c x : Nat) : (d.tapEvent c x).pcieSeen = d.pcieSeen := rfl
@[simp] theorem Dev.tapEvent_pcieIds (d : Dev) (c x : Nat) : (d.tapEvent c x).pcieIds = d.pcieIds := rfl
@[simp] theorem Dev.tapEvent_str (d : Dev) (c x : Nat) : (d.tapEvent c x).str = d.str := rfl
@[simp] theorem Dev.tapEvent_prb (d : Dev) (c x : Nat) : (d.tapEvent c x).prb = d.prb := rfl
@[simp] theorem Dev.tapEvent_powered (d : Dev) (c x : Nat) : (d.tapEvent c x).powered = d.powered := rfl
@[simp] theorem Dev.tapEvent_thermHold (d : Dev) (c x : Nat) : (d.tapEvent c x).thermHold = d.thermHold := rfl
@[simp] theorem Dev.tapEvent_chainRemote (d : Dev) (c x : Nat) : (d.tapEvent c x).chainRemote = d.chainRemote := rfl
@[simp] theorem Dev.tapEvent_gated (d : Dev) (c x : Nat) : (d.tapEvent c x).gated = d.gated := rfl
@[simp] theorem Dev.tapEvent_chainOut (d : Dev) (c x : Nat) : (d.tapEvent c x).chainOut = d.chainOut := rfl
@[simp] theorem Dev.tapEvent_line (d : Dev) (c x : Nat) : (d.tapEvent c x).line = d.line := rfl
@[simp] theorem Dev.tapEvent_fec (d : Dev) (c x : Nat) : (d.tapEvent c x).fec = d.fec := rfl
@[simp] theorem Dev.tapEvent_frm (d : Dev) (c x : Nat) : (d.tapEvent c x).frm = d.frm := rfl
@[simp] theorem Dev.tapEvent_cry (d : Dev) (c x : Nat) : (d.tapEvent c x).cry = d.cry := rfl
@[simp] theorem Dev.tapEvent_mrg (d : Dev) (c x : Nat) : (d.tapEvent c x).mrg = d.mrg := rfl
@[simp] theorem Dev.tapEvent_hst (d : Dev) (c x : Nat) : (d.tapEvent c x).hst = d.hst := rfl
@[simp] theorem Dev.tapEvent_rms (d : Dev) (c x : Nat) : (d.tapEvent c x).rms = d.rms := rfl
@[simp] theorem Dev.tapEvent_spillOut (d : Dev) (c x : Nat) : (d.tapEvent c x).spillOut = d.spillOut := rfl
@[simp] theorem Dev.tapEvent_cap (d : Dev) (c x : Nat) : (d.tapEvent c x).cap = d.cap := rfl
@[simp] theorem Dev.tapEvent_clp (d : Dev) (c x : Nat) : (d.tapEvent c x).clp = d.clp := rfl
@[simp] theorem Dev.tapEvent_clpLog (d : Dev) (c x : Nat) : (d.tapEvent c x).clpLog = d.clpLog := rfl
@[simp] theorem Dev.tapEvent_hbOut (d : Dev) (c x : Nat) : (d.tapEvent c x).hbOut = d.hbOut := rfl
@[simp] theorem Dev.tapEvent_tim (d : Dev) (c x : Nat) : (d.tapEvent c x).tim = d.tim := rfl
@[simp] theorem Dev.tapEvent_chn (d : Dev) (c x : Nat) : (d.tapEvent c x).chn = d.chn := rfl
@[simp] theorem Dev.tapEvent_straps (d : Dev) (c x : Nat) : (d.tapEvent c x).straps = d.straps := rfl
@[simp] theorem Dev.tapEvent_sec (d : Dev) (c x : Nat) : (d.tapEvent c x).sec = d.sec := rfl
@[simp] theorem Dev.tapEvent_pwr (d : Dev) (c x : Nat) : (d.tapEvent c x).pwr = d.pwr := rfl
@[simp] theorem Dev.tapEvent_hk (d : Dev) (c x : Nat) : (d.tapEvent c x).hk = d.hk := rfl
@[simp] theorem Dev.tapEvent_i2c (d : Dev) (c x : Nat) : (d.tapEvent c x).i2c = d.i2c := rfl
@[simp] theorem Dev.tapEvent_reg (d : Dev) (c x : Nat) (k : Nat) : (d.tapEvent c x).reg k = d.reg k := by
  unfold Dev.reg; rw [Dev.tapEvent_regs]
@[simp] theorem Dev.tapEvent_get (d : Dev) (c x : Nat) (g : Fld) : (d.tapEvent c x).get g = d.get g := by
  unfold Dev.get; rw [Dev.tapEvent_reg]
@[simp] theorem Dev.tapEvent_bitAt (d : Dev) (c x : Nat) (k j : Nat) : (d.tapEvent c x).bitAt k j = d.bitAt k j := by
  unfold Dev.bitAt; rw [Dev.tapEvent_reg]

end Sys2Proof.Machine
end

