-- ==== Sys2Proof/Laws/OnlyRegs.lean ====
section
/-! SUPPORT. Changes of the device that touch registers alone: everything else stands as it was. -/

namespace Sys2Proof.Machine

/-- e differs from d in its registers at most. -/
def OnlyRegs (d e : Dev) : Prop := e = { d with regs := e.regs }

theorem OnlyRegs.refl (d : Dev) : OnlyRegs d d := rfl

theorem OnlyRegs.trans {d e f : Dev} (h : OnlyRegs d e) (k : OnlyRegs e f) : OnlyRegs d f := by
  unfold OnlyRegs at *
  rw [h] at k
  rw [k]

theorem OnlyRegs.setReg (d : Dev) (a : Nat) (v : Word) : OnlyRegs d (d.setReg a v) := rfl

theorem OnlyRegs.put (d : Dev) (f : Fld) (v : Nat) : OnlyRegs d (d.put f v) := rfl

theorem OnlyRegs.ite {c : Prop} [Decidable c] {d a b : Dev} (ha : OnlyRegs d a) (hb : OnlyRegs d b) :
    OnlyRegs d (if c then a else b) := by
  split <;> assumption

theorem OnlyRegs.foldl {α : Type} (f : Dev → α → Dev) (h : ∀ d a, OnlyRegs d (f d a)) (l : List α) (d : Dev) :
    OnlyRegs d (l.foldl f d) := by
  induction l generalizing d with
  | nil => exact .refl d
  | cons a r ih => exact (h d a).trans (ih (f d a))

theorem OnlyRegs.ticks {d e : Dev} (h : OnlyRegs d e) : e.ticks = d.ticks := by rw [h]
theorem OnlyRegs.tc {d e : Dev} (h : OnlyRegs d e) : e.tc = d.tc := by rw [h]
theorem OnlyRegs.prb {d e : Dev} (h : OnlyRegs d e) : e.prb = d.prb := by rw [h]
theorem OnlyRegs.cap {d e : Dev} (h : OnlyRegs d e) : e.cap = d.cap := by rw [h]
theorem OnlyRegs.tim {d e : Dev} (h : OnlyRegs d e) : e.tim = d.tim := by rw [h]
theorem OnlyRegs.causes {d e : Dev} (h : OnlyRegs d e) : e.causes = d.causes := by rw [h]
theorem OnlyRegs.arising {d e : Dev} (h : OnlyRegs d e) : e.arising = d.arising := by rw [h]
theorem OnlyRegs.tapLog {d e : Dev} (h : OnlyRegs d e) : e.tapLog = d.tapLog := by rw [h]
theorem OnlyRegs.msix {d e : Dev} (h : OnlyRegs d e) : e.msix = d.msix := by rw [h]
theorem OnlyRegs.line {d e : Dev} (h : OnlyRegs d e) : e.line = d.line := by rw [h]
theorem OnlyRegs.shadow {d e : Dev} (h : OnlyRegs d e) : e.shadow = d.shadow := by rw [h]

/-! ### Event lines -/

theorem Dev.latchLines_onlyRegs (d : Dev) (l : List Nat) : OnlyRegs d (d.latchLines l) :=
  .ite (.refl d) (.foldl _ (fun d _ => .put d _ _) _ d)

theorem Dev.addCounter_onlyRegs (d : Dev) (c n : Nat) : OnlyRegs d (d.addCounter c n) := by
  unfold Dev.addCounter Dev.setReg64
  exact (OnlyRegs.setReg d _ _).trans (.setReg _ _ _)

theorem Dev.assertLines_onlyRegs (d : Dev) (l : List Nat) : OnlyRegs d (d.assertLines l) :=
  .ite (.refl d) (.ite (Dev.latchLines_onlyRegs d l)
    ((Dev.latchLines_onlyRegs d l).trans (.foldl _ (fun d c => Dev.addCounter_onlyRegs d c 1) _ _)))

theorem Dev.assertEvent_onlyRegs (d : Dev) (c : Nat) : OnlyRegs d (d.assertEvent c) :=
  .ite (Dev.latchLines_onlyRegs d _) (Dev.assertLines_onlyRegs d _)

end Sys2Proof.Machine
end

