-- ==== Sys2Proof/Laws/Frames.lean ====
section
/-! SUPPORT. Registers that a change leaves alone: RegsOut p d e says that e has the registers of d wherever p holds. -/

namespace Sys2Proof.Machine

/-- e has the registers of d at every key that p names. -/
def RegsOut (p : Nat → Prop) (d e : Dev) : Prop := ∀ a, p a → e.reg a = d.reg a

theorem RegsOut.refl (p : Nat → Prop) (d : Dev) : RegsOut p d d := fun _ _ => rfl

theorem RegsOut.trans {p : Nat → Prop} {d e f : Dev} (h : RegsOut p d e) (k : RegsOut p e f) : RegsOut p d f :=
  fun a ha => (k a ha).trans (h a ha)

/-- A change that leaves the register file as it is. -/
theorem RegsOut.same {p : Nat → Prop} {d e f : Dev} (h : RegsOut p d e) (k : f.regs = e.regs) : RegsOut p d f :=
  fun a ha => by show Sparse.get _ f.regs a = _; rw [k]; exact h a ha

theorem RegsOut.ite {p : Nat → Prop} {c : Prop} [Decidable c] {d a b : Dev} (ha : RegsOut p d a) (hb : RegsOut p d b) :
    RegsOut p d (if c then a else b) := by
  split <;> assumption

theorem RegsOut.foldl {α : Type} {p : Nat → Prop} {d e : Dev} (f : Dev → α → Dev) (l : List α)
    (hf : ∀ e, ∀ a ∈ l, RegsOut p d e → RegsOut p d (f e a)) (h : RegsOut p d e) : RegsOut p d (l.foldl f e) := by
  induction l generalizing e with
  | nil => exact h
  | cons a r ih => exact ih (fun e b hb => hf e b (List.mem_cons_of_mem _ hb)) (hf e a (List.mem_cons_self ..) h)

theorem RegsOut.forUpTo {p : Nat → Prop} {d e : Dev} (n : Nat) (f : Dev → Nat → Dev)
    (hf : ∀ e a, a < n → RegsOut p d e → RegsOut p d (f e a)) (h : RegsOut p d e) : RegsOut p d (Dev.forUpTo n f e) :=
  RegsOut.foldl f _ (fun e a ha => hf e a (List.mem_range.mp ha)) h

variable {p : Nat → Prop} {d e : Dev}

theorem RegsOut.setReg (h : RegsOut p d e) (a : Nat) (v : Word) (k : ∀ b, p b → b ≠ a) : RegsOut p d (e.setReg a v) :=
  fun b hb => (Dev.reg_setReg_ne e v (k b hb)).trans (h b hb)

theorem RegsOut.put (h : RegsOut p d e) (f : Fld) (v : Nat) (k : ∀ b, p b → b ≠ f.addr) : RegsOut p d (e.put f v) := h.setReg _ _ k

theorem RegsOut.incSat (h : RegsOut p d e) (f : Fld) (n : Nat) (k : ∀ b, p b → b ≠ f.addr) : RegsOut p d (e.incSat f n) := h.put _ _ k

theorem RegsOut.putIntSat (h : RegsOut p d e) (f : Fld) (i : Int) (k : ∀ b, p b → b ≠ f.addr) : RegsOut p d (e.putIntSat f i) :=
  h.put _ _ k

theorem RegsOut.setBit (h : RegsOut p d e) (a i : Nat) (k : ∀ b, p b → b ≠ a) : RegsOut p d (e.setBit a i) := h.setReg _ _ k

theorem RegsOut.clrBit (h : RegsOut p d e) (a i : Nat) (k : ∀ b, p b → b ≠ a) : RegsOut p d (e.clrBit a i) := h.setReg _ _ k

theorem RegsOut.putBit (h : RegsOut p d e) (a i : Nat) (b : Bool) (k : ∀ b, p b → b ≠ a) : RegsOut p d (e.putBit a i b) :=
  .ite (h.setBit _ _ k) (h.clrBit _ _ k)

theorem RegsOut.setReg64 (h : RegsOut p d e) (lo v : Nat) (k : ∀ b, p b → b ≠ lo ∧ b ≠ lo + 4) : RegsOut p d (e.setReg64 lo v) :=
  (h.setReg _ _ fun b hb => (k b hb).1).setReg _ _ fun b hb => (k b hb).2

theorem RegsOut.sendMsix (h : RegsOut p d e) (v : Nat) : RegsOut p d (e.sendMsix v) := h.same rfl

theorem RegsOut.setInt (h : RegsOut p d e) (b : IntBank) (i : Nat) (k : ∀ a, p a → a ≠ b.status) : RegsOut p d (e.setInt b i) :=
  .ite ((h.setBit _ _ k).sendMsix _) (h.setBit _ _ k)

theorem RegsOut.arise (h : RegsOut p d e) (f : Nat) : RegsOut p d (e.arise f) := by
  unfold Dev.arise; exact .ite h (h.same rfl)

theorem RegsOut.raise (h : RegsOut p d e) (f : Nat) : RegsOut p d (e.raise f) := h.arise f

theorem RegsOut.causeOn (h : RegsOut p d e) (f : Nat) : RegsOut p d (e.causeOn f) := by
  unfold Dev.causeOn
  split
  · exact h
  · exact RegsOut.arise (e := { e with causes := e.causes ++ [f] }) (h.same rfl) f

theorem RegsOut.causeOff (h : RegsOut p d e) (f : Nat) : RegsOut p d (e.causeOff f) := h.same rfl

theorem RegsOut.causeIs (h : RegsOut p d e) (f : Nat) (b : Bool) : RegsOut p d (e.causeIs f b) := .ite (h.causeOn f) (h.causeOff f)

theorem RegsOut.tapAt (h : RegsOut p d e) (t c v : Nat) : RegsOut p d (e.tapAt t c v) := h.same rfl

theorem RegsOut.tapEvent (h : RegsOut p d e) (c v : Nat) : RegsOut p d (e.tapEvent c v) := h.same rfl

/-- A field outside what changed. -/
theorem RegsOut.get (h : RegsOut p d e) (f : Fld) (k : p f.addr) : e.get f = d.get f := by
  unfold Dev.get; rw [h _ k]

/-- A bit outside what changed. -/
theorem RegsOut.bitAt (h : RegsOut p d e) (a i : Nat) (k : p a) : e.bitAt a i = d.bitAt a i := by
  unfold Dev.bitAt; rw [h _ k]

/-! ### Causes -/

/-- A cause that arises is on its way. -/
theorem Dev.arise_arises (d : Dev) (f : Nat) : (d.arise f).arising.any (fun e => e.1 == f) = true := by
  unfold Dev.arise
  split
  · assumption
  · simp

/-- A raised cause is on its way. -/
theorem Dev.raise_arises (d : Dev) (f : Nat) : (d.raise f).arising.any (fun e => e.1 == f) = true := d.arise_arises f

/-- Causes on their way stay on their way as others arise. -/
theorem Dev.arise_mono (d : Dev) (f g : Nat) (h : d.arising.any (fun e => e.1 == g) = true) :
    (d.arise f).arising.any (fun e => e.1 == g) = true := by
  unfold Dev.arise
  split
  · exact h
  · simp only [List.any_append, h, Bool.true_or]

@[simp] theorem Dev.mem_causes_arise (d : Dev) (f g : Nat) : g ∈ (d.arise f).causes ↔ g ∈ d.causes := by
  unfold Dev.arise; split <;> exact Iff.rfl

@[simp] theorem Dev.mem_causes_raise (d : Dev) (f g : Nat) : g ∈ (d.raise f).causes ↔ g ∈ d.causes := Dev.mem_causes_arise d f g

theorem Dev.mem_causes_causeOn (d : Dev) (f g : Nat) : g ∈ (d.causeOn f).causes ↔ g = f ∨ g ∈ d.causes := by
  unfold Dev.causeOn
  split
  · rename_i h
    constructor
    · exact .inr
    · rintro (rfl | k)
      · exact h
      · exact k
  · rw [Dev.mem_causes_arise]
    show g ∈ d.causes ++ [f] ↔ _
    simp [or_comm]

theorem Dev.mem_causes_causeOff (d : Dev) (f g : Nat) : g ∈ (d.causeOff f).causes ↔ g ≠ f ∧ g ∈ d.causes := by
  show g ∈ d.causes.filter (fun g => g != f) ↔ _
  simp [and_comm]

/-- A cause that is brought up to date: present exactly when b holds, every other cause as it was. -/
theorem Dev.mem_causes_causeIs (d : Dev) (f g : Nat) (b : Bool) :
    g ∈ (d.causeIs f b).causes ↔ (g = f ∧ b = true) ∨ (g ≠ f ∧ g ∈ d.causes) := by
  unfold Dev.causeIs
  cases b
  · simp [Dev.mem_causes_causeOff]
  · simp only [if_true, Dev.mem_causes_causeOn]
    by_cases h : g = f <;> simp [h]

end Sys2Proof.Machine
end

