-- ==== Sys2Proof/Machine/DspMath.lean ====
section
/-! DEFINITION. The arithmetic of the coherent DSP: front-end correction, adaptation, carrier recovery, demapping, and the transmit stages
from the mapper to the DAC codes (R106, R107, R119, R121, R126, R130, R132, R134, R143 to R147; 04_coherent_dsp.md). Values are exact numbers, and what
the device adapts to on its own stands as an argument. -/

namespace Sys2Proof.Machine

/-- A value of both polarisations: I and Q of X, I and Q of Y. -/
structure Quad where
  xi : Rat
  xq : Rat
  yi : Rat
  yq : Rat
  deriving DecidableEq, Repr

/-! ### Front-end correction (R121) -/

/-- What the front end adapts to: the part of I that Q holds and the factor that equalises its power, by polarisation; the dither envelope
that the Calliope receiver reconstructs; the factor that brings each polarisation to the fixed internal level. -/
structure FrontEnd where
  leakX : Rat
  gainX : Rat
  leakY : Rat
  gainY : Rat
  envelope : Rat
  levelX : Rat
  levelY : Rat
  deriving DecidableEq, Repr

/-- Step 1: INV exchanges I and Q of both polarisations. -/
def exchangeIq (inv : Bool) (s : Quad) : Quad := if inv then { xi := s.xq, xq := s.xi, yi := s.yq, yq := s.yi } else s

/-- Step 2: the delay of ADC a of port x, in units of 0.05 ps. -/
def Dev.rxSkew (d : Dev) (x a : Nat) : Int := d.getInt (Fld.LNx_RX_SKEW.SKEW x a)

/-- Steps 1 and 2 on streams given by time in units of 0.05 ps: dimension a after the exchange, delayed by its skew. -/
def Dev.skewed (d : Dev) (x : Nat) (s : Int → Quad) (t : Int) : Quad :=
  let e (a : Nat) : Quad := exchangeIq (d.isSet (Fld.LNx_RX_FE_CTL.INV x)) (s (t - d.rxSkew x a))
  { xi := (e 0).xi, xq := (e 1).xq, yi := (e 2).yi, yq := (e 3).yq }

/-- Step 3: Q is made orthogonal to I and of equal power. -/
def orthogonalise (on : Bool) (f : FrontEnd) (s : Quad) : Quad :=
  if on then { s with xq := (s.xq - f.leakX * s.xi) * f.gainX, yq := (s.yq - f.leakY * s.yi) * f.gainY } else s

/-- Step 4: the dither envelope is divided out. -/
def unDither (f : FrontEnd) (s : Quad) : Quad :=
  { xi := s.xi / f.envelope, xq := s.xq / f.envelope, yi := s.yi / f.envelope, yq := s.yq / f.envelope }

/-- Step 5: each polarisation is normalised. -/
def normalise (f : FrontEnd) (s : Quad) : Quad :=
  { xi := s.xi * f.levelX, xq := s.xq * f.levelX, yi := s.yi * f.levelY, yq := s.yq * f.levelY }

/-- The front end of port x at a time: its five steps in order. -/
def Dev.frontEnd (d : Dev) (x : Nat) (f : FrontEnd) (s : Int → Quad) (t : Int) : Quad :=
  normalise f (unDither f (orthogonalise (d.isSet (Fld.LNx_RX_FE_CTL.IQ_COMP x)) f (d.skewed x s t)))

/-! ### Adaptation of the butterfly (R126, R130) -/

/-- Whether port x is in pilot-only operation: ADAPT = 1 or GUARD = 1. -/
def Dev.pilotOnly (d : Dev) (x : Nat) : Bool := d.isSet (Fld.LNx_MIMO_STATUS.PILOT_ONLY x)

/-- The step size: 2^-MU, times 2^PILOT_MU in pilot-only operation. -/
def Dev.mimoStep (d : Dev) (x : Nat) : Rat :=
  (if d.pilotOnly x then ((2 ^ d.get (Fld.LNx_MIMO_CTL.PILOT_MU x) : Nat) : Rat) else 1) / ((2 ^ d.get (Fld.LNx_MIMO_CTL.MU x) : Nat) : Rat)

/-- The levels of a format's grid in one dimension: the odd integers (Table 3). -/
def gridLevels (fmt : Nat) : List Int :=
  let n := (packing fmt).m
  (List.range (2 ^ n)).map (fun i => 2 * (i : Int) - ((2 ^ n - 1 : Nat) : Int))

/-- The absolute value of a number. -/
def absRat (v : Rat) : Rat := if v < 0 then -v else v

/-- The nearest grid level; of two as near the lower. -/
def nearestLevel (fmt : Nat) (v : Rat) : Int :=
  (gridLevels fmt).foldl (fun (b a : Int) => if absRat (v - a) < absRat (v - b) then a else b) ((gridLevels fmt).headD 0)

/-- The error the butterfly adapts on at an output y (Table 6): against the known pilot, against the nearest grid point of the format on
payload symbols, or none. -/
def Dev.mimoError (d : Dev) (x : Nat) (pilot : Option (Int × Int)) (y : Rat × Rat) : Option (Rat × Rat) :=
  if d.get (Fld.LNx_MIMO_CTL.ADAPT x) = 2 then none
  else match pilot with
    | some p => some ((p.1 : Rat) - y.1, (p.2 : Rat) - y.2)
    | none => if d.pilotOnly x then none
      else some ((nearestLevel (d.lnFmt x) y.1 : Rat) - y.1, (nearestLevel (d.lnFmt x) y.2 : Rat) - y.2)

/-- A tap moves by the step times the error times the conjugate of its input; with no error it holds. -/
def Dev.adaptTap (d : Dev) (x : Nat) (e : Option (Rat × Rat)) (input tap : Rat × Rat) : Rat × Rat :=
  match e with
  | none => tap
  | some e =>
    let m := d.mimoStep x
    (tap.1 + m * (e.1 * input.1 + e.2 * input.2), tap.2 + m * (e.2 * input.1 - e.1 * input.2))

/-! ### Carrier recovery (R132) -/

/-- The mean of a list. -/
def meanRat (l : List Rat) : Rat := l.foldl (· + ·) 0 / (max 1 l.length : Nat)

/-- The phase estimate at pilot i: the mean over WIN pilots with i in their middle. -/
def Dev.cprPilot (d : Dev) (x : Nat) (phase : Int → Rat) (i : Int) : Rat :=
  let w := d.get (Fld.LNx_CPR_CTL.WIN x)
  meanRat ((List.range w).map (fun j => phase (i + (j : Int) - ((w / 2 : Nat) : Int))))

/-- The phase at symbol k, interpolated linearly between the estimates at the pilots around it. -/
def Dev.cprPhase (d : Dev) (x : Nat) (phase : Int → Rat) (k : Nat) : Rat :=
  let a := d.cprPilot x phase ((k / 64 : Nat) : Int)
  let b := d.cprPilot x phase (((k / 64 : Nat) : Int) + 1)
  a + (b - a) * ((k % 64 : Nat) : Rat) / 64

/-- Whether the blind phase search refines the phase: BPS = 1, and not in pilot-only operation (R130, R132). -/
def Dev.blindPhase (d : Dev) (x : Nat) : Bool := d.isSet (Fld.LNx_CPR_CTL.BPS x) && !d.pilotOnly x

/-- The best of the 32 test phases by a cost of the payload decisions; the first of equals. -/
def bestPhase (cost : Nat → Rat) : Nat := (List.range 32).foldl (fun b j => if cost j < cost b then j else b) 0

/-- The phase used at symbol k: the interpolated one, and the step-th part of the quarter turn that the best of 32 test phases adds. -/
def Dev.phaseUsed (d : Dev) (x : Nat) (phase : Int → Rat) (cost : Nat → Rat) (turn : Rat) (k : Nat) : Rat :=
  d.cprPhase x phase k + (if d.blindPhase x then turn * ((bestPhase cost : Nat) : Rat) / 32 else 0)

/-! ### Demapping (R134, R163) -/

/-- The noise variance: the mean squared error over 2^NWIN pilot intervals, of pilots and payload decisions, or of pilots alone in pilot-only
operation; errors holds for each symbol, newest first, whether it is a pilot and its squared error. -/
def Dev.noiseVariance (d : Dev) (x : Nat) (errors : List (Bool × Rat)) : Rat :=
  let l := errors.take (64 * 2 ^ d.get (Fld.LNx_DEMAP_CTL.NWIN x))
  meanRat ((l.filter (fun e => e.1 || !d.pilotOnly x)).map (·.2))

/-- The LLR delivered for a log-likelihood ratio: 0.5 for each step at SCALE = 128, scaled by SCALE / 128, rounded by the device's rule and
held within ±15; -16 is never produced (R163). -/
def Dev.demapLlr (d : Dev) (x : Nat) (llr : Rat) : BitVec 5 :=
  let v := llr * 2 * ((d.get (Fld.LNx_DEMAP_CTL.SCALE x) : Nat) : Rat) / 128
  BitVec.ofInt 5 (clampInt (-15) 15 (if Config.roundUp v.num.natAbs v.den then v.ceil else v.floor))

/-- What LNx.DEMAP delivers for one bit label: in TRACK the LLR, in every other state and in MODE_ERR LLR 0 (R117, R140). -/
def Dev.demapOut (d : Dev) (x : Nat) (llr : Rat) : BitVec 5 :=
  if d.rxState x = 8 ∧ !d.modeErr x then d.demapLlr x llr else 0

/-! ### The mapper (R119, R145, R161) -/

/-- The coded bits that reach the mapper of port x in this superframe: those of the encoder that feeds LNx.MAP, or line idle (R30). -/
def Dev.mapperBits (d : Dev) (x : Nat) : List Bool :=
  match d.sinkSignal 1 (0x205 + 0x100 * x) noInst with
  | .stream 0x402 _ => (d.fecOf 0).sent
  | .stream 0x403 _ => (d.fecOf 1).sent
  | _ =>
    let p := packing (d.lnFmt x)
    encodeNet p (prbs31Bits p.netBits (prbs31Bits (d.ln x).idleBits 0x7FFFFFFF).2).1

/-- The value the mapper sends for superframe dimension e from coded bits: (1 - 2s) times the amplitude whose label they are (R161). -/
def mapDim (p : Packing) (coded : List Bool) (e : Nat) : Int :=
  let b := (coded.drop (e * p.m)).take p.m
  (if b.headD false then -1 else 1) * ((grayAmp p.amps (bitsNat (b.drop 1)) : Nat) : Int)

/-- Symbol k of a polarisation (0 X, 1 Y) that the mapper of port x sends in this superframe: a pilot, or payload. -/
def Dev.mapSymbol (d : Dev) (x pol k : Nat) : Int × Int :=
  let fmt := d.lnFmt x
  if isPilot k then pilotSymbol fmt pol (k / 64) else
    let e := 4 * (63 * (k / 64) + k % 64 - 1) + 2 * pol
    (mapDim (packing fmt) (d.mapperBits x) e, mapDim (packing fmt) (d.mapperBits x) (e + 1))

/-! ### Transmit trims, gain, pre-distortion (R143, R144, R147) -/

/-- The IQ trims of a polarisation (stage 6): Q takes a gain relative to I in 0.01 dB and a quadrature phase in 0.05°, as a rotation of Q's
axis. -/
def Dev.iqTrim (d : Dev) (x : Nat) (pol : Nat) (s : Rat × Rat) : Rat × Rat :=
  let g := d.getInt (if pol = 0 then Fld.LNx_TX_IQ_X.GAIN x else Fld.LNx_TX_IQ_Y.GAIN x)
  let f := d.getInt (if pol = 0 then Fld.LNx_TX_IQ_X.PHASE x else Fld.LNx_TX_IQ_Y.PHASE x)
  (s.1, Config.dbFactor g * (s.2 * Config.cosine f + s.1 * Config.sine f))

/-- Stage 7: a stream with a present RMS is brought to the RMS target in codes. -/
def Dev.rmsGain (d : Dev) (x : Nat) (rms v : Rat) : Rat := v * ((d.get (Fld.LNx_TX_CTL.RMS x) : Nat) : Rat) / rms

/-- Stage 8: the FIR of a bank on DAC c at sample n; tap 31 is the main cursor, a coefficient has 14 fraction bits. -/
def Dev.preDistort (d : Dev) (x bank c : Nat) (v : Int → Rat) (n : Int) : Rat :=
  (List.range 64).foldl (fun a t => a + (d.getInt (Fld.LNx_PD_COEF.COEF x bank c t) : Rat) / 16384 * v (n - (t : Int) + 31)) 0

/-- α of symbol j of a fade of 2^k symbols: (j + 1) / 2^k in 18 bits (R147); a rest below 2^-18 is dropped (DESIGN CHOICE,
notes/assumptions/5.md). -/
def fadeAlpha (k j : Nat) : Rat := (((j + 1) * 2 ^ 18 / 2 ^ k : Nat) : Rat) / ((2 ^ 18 : Nat) : Rat)

/-- Stage 8 of port x at symbol j of a running fade, or with no fade: y = (1 - α) y_from + α y_to (R147). -/
def Dev.preDistorted (d : Dev) (x c j : Nat) (v : Int → Rat) (n : Int) : Rat :=
  let y (bank : Nat) := d.preDistort x bank c v n
  if d.fading x then
    let a := fadeAlpha (d.ln x).fadeK j
    (1 - a) * y (d.pdActive x) + a * y (d.get (Fld.LNx_PD_STATUS.TARGET x))
  else y (d.pdActive x)

/-- Stage 9: the skew of DAC c in units of 0.1 ps, and its bias in LSB. -/
def Dev.txSkew (d : Dev) (x c : Nat) : Int := d.getInt (Fld.LNx_TX_TRIM.SKEW x c)
/-- The bias of DAC c in LSB, in steps of 1/16. -/
def Dev.txBias (d : Dev) (x c : Nat) : Rat := (d.getInt (Fld.LNx_TX_TRIM.BIAS x c) : Rat) / 16

/-- Stages 9 and 10: a stream given by time in units of 0.1 ps is delayed and biased; the code is the whole number that dithering with a value
from 0 up to 1 gives, clipped to -128 … 127, and with it whether it was clipped (R143, R144). -/
def Dev.dacCode (d : Dev) (x c : Nat) (v : Int → Rat) (dither : Rat) (t : Int) : Int × Bool :=
  let w := (v (t - d.txSkew x c) + d.txBias x c + dither).floor
  (clampInt (-128) 127 w, decide (w < -128) || decide (127 < w))

/-! ### Codes and voltages (R106, R107) -/

/-- The code of an ADC for an input in mV: full scale is 500 mV, and a step of 500 / 256 mV lies half below and half above its code (R106). -/
def adcCode (mV : Rat) : Int := clampInt (-128) 127 (mV * 256 / 500 + 1 / 2).floor

/-- The full scale of DAC 4 + c in mV (Table 19 of 03_line_converters.md). -/
def Dev.dacFullScale (d : Dev) (x c : Nat) : Rat := 400 + 25 / 4 * ((d.get ⟨Reg.LNx_DAC_FS x, 8 * c + 6, 8 * c⟩ : Nat) : Rat)

/-- The output of DAC 4 + c in mV for a code (R107). -/
def Dev.dacOutput (d : Dev) (x c : Nat) (code : Int) : Rat := code * d.dacFullScale x c / 256

end Sys2Proof.Machine
end

