-- ==== Sys2Proof/Machine/OtnSend.lean ====
section
/-! DEFINITION. What block FRM sends: the words of an OTUCn frame on the line, the overhead of slices and flows, slots, maintenance signals
and client mappings (R176, R187, R191 to R197, R205, R207 of 06_otn_framing_and_tsi.md). The definitions read the state and change nothing.
Where the spec names a G.709 field and does not restate it, the place is that of ITU-T G.709 (PRESUMED, notes/assumptions/46.md). -/

namespace Sys2Proof.Machine

/-! ### The frame on the line (R176) -/

/-- Rows and columns of an OTUC slice. -/
def otuRows : Nat := 4
/-- Columns of a row. -/
def otuCols : Nat := 3824
/-- Words of 16 bytes in a slice. -/
def sliceWords : Nat := 956

/-- A slice row by row, each from column 1 to column 3,824. -/
def serialSlice (cell : Nat → Nat → Byte) : List Byte :=
  (List.range otuRows).flatMap (fun r => (List.range otuCols).map (fun c => cell (r + 1) (c + 1)))

/-- Word w of an OTUCn frame: word w div n of slice w mod n + 1 (R176). -/
def otuWord (slices : List (List Byte)) (w : Nat) : List Byte :=
  sliceBytes (slices.getD (w % slices.length) []) (16 * (w / slices.length)) 16

/-- The bytes of an OTUCn frame as the line carries them. -/
def otuBytes (slices : List (List Byte)) : List Byte := (List.range (sliceWords * slices.length)).flatMap (otuWord slices)

/-- The bits of a byte string, each byte's most significant bit first. -/
def msbBits (l : List Byte) : List Bool := l.flatMap (fun b => (List.range 8).map (fun i => b.getLsbD (7 - i)))

/-- The bits of an OTUCn frame in the order the line carries them. -/
def otuLineBits (slices : List (List Byte)) : List Bool := msbBits (otuBytes slices)

/-- Slice i + 1 of a received frame of n slices. -/
def otuSlice (n : Nat) (frame : List Byte) (i : Nat) : List Byte :=
  (List.range sliceWords).flatMap (fun k => sliceBytes frame (16 * (n * k + i)) 16)

/-- The first word of every slice: what the framer compares (R180). -/
def otuHead (n : Nat) (frame : List Byte) : List Byte := sliceBytes frame 0 (16 * n)

/-! ### Overhead sent (R187, R191) -/

/-- BIP-8: even parity of each bit position. -/
def bip8 (l : List Byte) : Byte := l.foldl (· ^^^ ·) 0

/-- The OPU area of a slice, columns 15 to 3,824, over which BIP-8 is taken; the result is sent two frames later. -/
def opuArea (slice : List Byte) : List Byte :=
  (List.range otuRows).flatMap (fun r => sliceBytes slice (otuCols * r + 14) (otuCols - 14))

/-- Byte b of the transmitted TTI (Table 17). -/
def Dev.ttiByte (d : Dev) (x b : Nat) : Byte := (d.reg (Reg.FRM_x_TTI_TX x (b / 4))).extractLsb' (8 * (b % 4)) 8

/-- The BEI of slice i + 1 of a port's SM (k = x) or ODUCn PM (k = 2 + x), or of flow f's PM (k = 4 + f, i = 0): the BIP-8 errors of the last
frame received in IF. -/
def Dev.beiSent (d : Dev) (k i : Nat) : Nat := min 8 ((Sparse.get [] d.frm.bei k).getD i 0)

/-- A BEI, BDI and low three bits as one overhead byte. -/
def beiByte (bei : Nat) (bdi : Bool) (low : Nat) : Byte := BitVec.ofNat 8 (16 * bei + 8 * bit bdi + low)

/-- Bytes 2 + 2i and 3 + 2i of a slice's PSI for a slot: whether it is occupied, and the flow as its tributary port. -/
def msiBytes (slot : Option Nat) : List Byte :=
  match slot with
  | some f => [BitVec.ofNat 8 (128 + f / 128 % 128), BitVec.ofNat 8 (128 + f % 128)]
  | none => [0x80, 0]

/-- The MSI that port x sends: the flow of each slot by the active transmit page (R191). -/
def Dev.sentMsi (d : Dev) (x : Nat) : List (Option Nat) := (List.range (20 * d.nAct x)).map (fun t => d.tsiActive (2 * x + 1) t)

/-- Byte m of the PSI of slice i + 1: PT 0x22, then the MSI of slots n × j + i, j from 0 to 19, then zeros. -/
def Dev.psiByte (d : Dev) (x i m : Nat) : Byte :=
  if m = 0 then 0x22
  else if 2 ≤ m ∧ m < 42 then (msiBytes ((d.sentMsi x).getD (d.nAct x * ((m - 2) / 2) + i) none)).getD (m % 2) 0
  else 0

/-- The overhead byte of slice i + 1 of the frame that port x sends, in row and column (columns 1 to 16): FAS, MFAS, SM, ODUCn PM, PSI and
OMFI. sm and pm are the BIP-8 bytes; jc is what GMP gives columns 15 and 16 of rows 1 to 3. Every other byte is an unsupported field,
sent as zeros (R187). -/
def Dev.sliceOverhead (d : Dev) (x : Fin 2) (i : Nat) (sm pm : Byte) (jc : Nat → Nat → Byte) (row col : Nat) : Byte :=
  let mfas := Sparse.get 0 d.frm.txMfas x.val
  match row, col with
  | 1, 7 => BitVec.ofNat 8 mfas
  | 1, 8 => if i = 0 then d.ttiByte x (mfas % 64) else 0
  | 1, 9 => sm
  | 1, 10 => beiByte (d.beiSent x i) (i == 0 && d.sendsSmBdi x) 0
  | 3, 11 => pm
  | 3, 12 => beiByte (d.beiSent (2 + x) i) false 1
  | 4, 15 => d.psiByte x i mfas
  | 4, 16 => BitVec.ofNat 8 (Sparse.get 0 d.frm.txOmfi x.val)
  | 1, c => if c ≤ 3 then 0xF6 else if c ≤ 6 then 0x28 else if 15 ≤ c then jc 1 c else 0
  | r, c => if 15 ≤ c ∧ r ≤ 3 then jc r c else 0

/-- The bytes of TCM1 to TCM6 within the 42 overhead bytes of an ODUflex frame (rows 2 to 4, columns 1 to 14). -/
def tcmBytes : List Nat := (List.range 9).map (· + 4) ++ (List.range 9).map (· + 14)

/-- The 42 overhead bytes that flow f sends on port x in a frame with an MFAS, bip being the BIP-8 byte: PM with BEI and BDI, APS/PCC at the
flow's level, TCM1 to TCM6 as they came; every other field is sent as zeros (R187, R191). -/
def Dev.flowOverhead (d : Dev) (f : Fin 1280) (x : Fin 2) (mfas bip : Byte) (w : OduFrame) : List Byte :=
  (List.range 42).map (fun i =>
    if i ∈ tcmBytes then w.oh.getD i 0
    else if i = 24 then bip
    else if i = 25 then beiByte (d.beiSent (4 + f) 0) (d.sendsPmBdi f x) w.stat.toNat
    else if 32 ≤ i ∧ i < 36 ∧ d.apsFrame f mfas then (d.reg (Reg.FRM_FLOW_APS_TX f)).extractLsb' (8 * (35 - i)) 8
    else 0)

/-! ### Maintenance signals (R205) -/

/-- A cell of a slice of ODUCn-AIS: all ones but in the FA OH and OTU OH (columns 1 to 14 of row 1), which are oh. -/
def oducnAisCell (oh : Nat → Nat → Byte) (row col : Nat) : Byte := if row = 1 ∧ col ≤ 14 then oh row col else 0xFF

/-- The frame that flow f sends on port x for a frame w that reaches FRM.ODU_TX: w with its own overhead, or a maintenance frame. -/
def Dev.flowFrame (d : Dev) (f : Fin 1280) (x : Fin 2) (mfas bip : Byte) (w : OduFrame) : OduFrame :=
  match d.flowSent f x with
  | .content => { w with oh := d.flowOverhead f x mfas bip w }
  | s => maintenanceFrame s

/-- Bits of the generic AIS of G.709: the PN-11 sequence x^11 + x^9 + 1, from its last 11 bits, newest first. -/
def genericAis (hist : List Bool) : Nat → List Bool
  | 0 => []
  | n + 1 => let b := xor (hist.getD 8 false) (hist.getD 10 false); b :: genericAis ((b :: hist).take 11) n

/-- The Ethernet local fault ordered set: its control character and three bytes. -/
def localFaultSet : List Byte := [0x9C, 0, 0, 1]

/-! ### Slots and GMP (R194, R197) -/

/-- What a transmit slot of port x carries. -/
inductive SlotSent where
  /-- All-zero bytes. -/
  | zeros
  /-- Bytes of the flow that owns it, or of its maintenance signal. -/
  | flow (f : Nat) (s : OduSignal)
  deriving DecidableEq, Repr

/-- What transmit slot t of port x carries (R197): zeros where its entry is not VALID, or names no declared flow (R200). -/
def Dev.slotSent (d : Dev) (x : Fin 2) (t : Nat) : SlotSent :=
  match d.tsiActive (2 * x + 1) t with
  | some f => if h : f < 1280 then (if (d.flowOf f).isSome then .flow f (d.flowSent ⟨f, h⟩ x) else .zeros) else .zeros
  | none => .zeros

/-- The transmit slots of a flow on port x, in ascending slot number: the order in which GMP takes them (R194). -/
def Dev.txSlots (d : Dev) (x f : Nat) : List Nat :=
  (List.range (min 640 (20 * d.nAct x))).filter (fun t => d.tsiActive (2 * x + 1) t == some f)

/-- Whether place j (from 1) of P places carries data for a count C of GMP. -/
def gmpData (p c j : Nat) : Bool := decide (j * c % p < c)

/-- Cm of server frame k for a client of num / den bits in a server frame and places of m bits: the whole places that have come in. -/
def gmpCm (num den m k : Nat) : Nat := (k + 1) * num / (den * m) - k * num / (den * m)

/-- Payload bytes of a frame of a flow, and its rate times 15,184 (R192, R193, R211). -/
def FlowDecl.room (w : FlowDecl) : Nat × Nat :=
  if w.encrypt || w.isProtected then (framePayload, w.rate15184) else (framePayload + 48, oduRate w.ctype w.slots * 15184)

/-- Cm of ODUflex frame k of a CBR flow, in bytes: the lane rate over the flow's frame rate (R194). -/
def FlowDecl.cbrCm (w : FlowDecl) (k : Nat) : Nat :=
  gmpCm ((if w.ctype = 0x0010 then 106250000000 else 212500000000) * oduFrameBits * 15184) w.room.2 8 k

/-- The places of ODUflex frame k of a CBR flow that carry client bytes. -/
def FlowDecl.cbrPlaces (w : FlowDecl) (k : Nat) : List Bool :=
  (List.range w.room.1).map (fun j => gmpData w.room.1 (w.cbrCm k) (j + 1))

/-! ### IMP (R194, R196) -/

/-- A 257b block at an Ethernet mapper: one that holds idles only, or another. -/
inductive ClientBlock where
  | idle
  | data (bits : List Bool)
  | localFault
  deriving DecidableEq, Repr

/-- IMP takes n blocks from those that wait: an idle is inserted where none waits; idles are deleted while more than limit blocks wait. -/
def impTake (limit : Nat) : Nat → List ClientBlock → List ClientBlock × List ClientBlock
  | 0, l => (l.take limit ++ (l.drop limit).filter (· ≠ .idle), [])
  | n + 1, [] => let r := impTake limit n []; (r.1, .idle :: r.2)
  | n + 1, b :: l => let r := impTake limit n l; (r.1, b :: r.2)

/-- Whether the mapper of a flow sees its client fail (R196): no client, an unconnected FRM.MAP, or the client's own signal. -/
def Dev.mapperFails (d : Dev) (w : FlowDecl) : Bool :=
  let c := d.get (Fld.FRM_FLOW_CTL.CLIENT w.flow)
  decide (48 ≤ c) || (d.feeds 4 0x506 c).isNone || d.clientFails c

/-- What the mapper of a flow puts into it: its client, or the signals of R196. -/
inductive MapperSent where
  | client (c : Nat)
  /-- Continuous local fault ordered sets within IMP. -/
  | localFault
  /-- Generic AIS, with CSF set in the OPUflex PSI. -/
  | aisCsf
  /-- ODU-AIS of an INCOMPLETE flow (R195). -/
  | oduAis
  deriving DecidableEq, Repr

/-- What the mapper of a flow sends (R194 to R196). -/
def Dev.mapperSent (d : Dev) (w : FlowDecl) : MapperSent :=
  if d.isSet (Fld.FRM_FLOW_STATUS.INCOMPLETE w.flow) then .oduAis
  else if !d.mapperFails w then .client (d.get (Fld.FRM_FLOW_CTL.CLIENT w.flow))
  else if mappingOf w.ctype = .imp then .localFault
  else .aisCsf

/-- The blocks of an Ethernet flow for n places: those of the client, or local fault. -/
def Dev.impBlocks (d : Dev) (w : FlowDecl) (limit n : Nat) (wait : List ClientBlock) : List ClientBlock :=
  match d.mapperSent w with
  | .localFault => List.replicate n .localFault
  | _ => (impTake limit n wait).2

/-- Byte m of a flow's OPUflex PSI: its PT, then CSF in the first bit of byte 1 (R196, Table 19). -/
def Dev.flowPsi (d : Dev) (w : FlowDecl) (m : Nat) : Byte :=
  if m = 0 then d.sentPt w.flow
  else if m = 1 ∧ d.mapperSent w = .aisCsf then 0x80
  else 0

/-! ### The device overhead area and the demapper (R193, R207) -/

/-- The 48 bytes in columns 17 to 64 of row 1 of every frame of a flow that encrypts or is protected: bytes 0 to 3 of the merge, 4 to 47 of the
encryption; those not in use are 0 (R193). -/
def overheadArea (w : FlowDecl) (oh : List Byte) : List Byte :=
  (if w.isProtected then sliceBytes oh 0 4 else List.replicate 4 0) ++
    (if w.encrypt then sliceBytes oh 4 44 else List.replicate 44 0)

/-- The OPU payload of a frame of a flow, columns 17 to 3,824 row by row: with a device overhead area, that first. -/
def opuPayload (w : FlowDecl) (x : OduFrame) : List Byte :=
  (if w.encrypt || w.isProtected then overheadArea w x.overhead else []) ++ sliceBytes x.payload 0 w.room.1

/-- Whether the demapper of flow f sends the client replacement signal (R207), got being what reaches it; a forced signal is one that FORCE
sets. -/
def Dev.clientReplaced (d : Dev) (f : Fin 1280) (got : OduSignal) : Bool :=
  decide (got ≠ .content) || decide (d.get (Fld.FRM_FLOW_CTL.FORCE f) ≠ 0) || d.isSet (Fld.FRM_FLOW_STATUS.PLM f) ||
    d.isSet (Fld.FRM_FLOW_STATUS.INCOMPLETE f)

/-- The signal that reaches the demapper of flow f: from a port, from the decryptor, from the merge, or none. -/
def Dev.demapperGets (d : Dev) (f : Fin 1280) : OduSignal :=
  match d.feeds 3 0x507 f.val with
  | none => .oci
  | some (0x504, _) => d.flowDelivers f (if d.flowPort f = 1 then 1 else 0)
  | some (0x601, _) => match (d.cryFlow f).rxOut with
    | .ais => .ais
    | .lck => .lck
    | _ => .content
  | some (0x700, _) => match (d.mf f).sel with
    | some (.frame x) => if x.stat = 7 then .ais else if x.stat = 5 then .lck else if x.stat = 6 then .oci else .content
    | _ => .ais
  | some _ => .content

/-- What the demapper of a flow sends to its client (R207): the client's own bits (none), or the replacement signal of its type. -/
def Dev.demapperSent (d : Dev) (f : Fin 1280) (w : FlowDecl) : Option Signal :=
  if d.clientReplaced f (d.demapperGets f) then some (replacementOf w.ctype) else none

end Sys2Proof.Machine
end

