-- ==== Sys2Proof/Machine/LaneSignal.lean ====
section
/-! DEFINITION. What host lanes send: the signal of each lane state, the client's content or its replacement, test patterns, and levels on the
wire (R258, R261, R265, R270, R272, R273, Table 11 of 02_structure_images.md). The definitions read the state and change nothing. -/

namespace Sys2Proof.Machine

/-- What the transmitter of a lane sends (Table 2 of 09_host_lanes.md). -/
inductive LaneTx where
  /-- Electrical idle. -/
  | electricalIdle
  /-- The training frames of IEEE 802.3 for the lane's rate (R268). -/
  | trainingFrames
  /-- Clause 73 auto-negotiation, which advertises one type only (R270). -/
  | autoNegotiation (type : Nat)
  /-- Training with its coefficient requests and ready handshake (R268). -/
  | trainingExchange
  /-- PRBS31, the idle signal of CBR lanes. -/
  | prbs31
  /-- Ethernet local fault, the idle signal of Ethernet lanes. -/
  | localFault
  /-- The replacement signal of a CBR client (R272). -/
  | replacement
  /-- The client's bits: those a demapper or player gives. -/
  | client (c : Nat)
  /-- Tsucor frames; IDLE frames alone while HOST restructures. -/
  | tsucor (idleOnly : Bool)
  /-- Horug link frames. -/
  | link
  /-- A test pattern (R273). -/
  | pattern (pat : Nat)
  /-- Idle in TEST. -/
  | testIdle
  deriving DecidableEq, Repr

/-- Whether the client of lane l negotiates: Ethernet with AN_EN = 1 (R270). -/
def Dev.negotiates (d : Dev) (l : Nat) : Option Nat :=
  match d.clientOf l with
  | some c => if isEthernet (d.clientType c) && d.isSet (Fld.HST_CLIENT_CTL.AN_EN c) then some (d.clientType c) else none
  | none => none

/-- What a client's output sends while its lanes are UP: the demapped bits or a player's, or the replacement signal of its type (R272). -/
def Dev.clientOut (d : Dev) (c : Nat) : LaneTx :=
  let instead : Signal → LaneTx := fun s => if s = .localFault then .localFault else .replacement
  match d.sinkSignal 4 0x801 c with
  | .stream 0x507 i =>
    (match d.flowOfClient d.flows i with
     | some w => if h : w.flow < 1280 then (match d.demapperSent ⟨w.flow, h⟩ w with | some s => instead s | none => .client c)
       else instead (replacementOf (d.clientType c))
     | none => instead (replacementOf (d.clientType c)))
  | .stream _ _ => .client c
  | s => instead s

/-- The signal of lane l. -/
def Dev.laneTx (d : Dev) (l : Nat) : LaneTx :=
  match d.laneState l with
  | 1 =>
    if d.trains l then (match d.negotiates l with
      | some t => .autoNegotiation t
      | none => .trainingFrames)
    else match d.clientOf l with
      | some c => if isEthernet (d.clientType c) then .localFault else .prbs31
      | none => .electricalIdle
  | 2 => .trainingExchange
  | 3 =>
    (match d.laneRole l with
     | 1 => if d.restructuring 4 then .localFault else
       (match d.clientOf l with
        | some c => d.clientOut c
        | none => .localFault)
     | 2 => .tsucor (d.restructuring 4)
     | _ => .link)
  | 4 => if d.isSet (Fld.HST_LANE_PRBS_CTL.GEN_EN l) then .pattern (d.get (Fld.HST_LANE_PRBS_CTL.GEN_PAT l)) else .testIdle
  | _ => .electricalIdle

/-- The symbols of a test pattern from a generator's history: Gray-mapped bits, precoded where TX_PRECODE is set; SSPRQ goes out as symbols,
without precoding (R273). -/
def Dev.patternSymbols (d : Dev) (l hist n : Nat) : List (Fin 4) :=
  let pat := d.get (Fld.HST_LANE_PRBS_CTL.GEN_PAT l)
  if pat = 4 then (List.range n).map (fun i => Config.ssprq (hist + i))
  else
    let g := graySymbols (prbsRun pat hist (2 * n))
    if d.isSet (Fld.HST_LANE_CTL.TX_PRECODE l) then precodeTx 0 g else g

/-- The level that lane l sends for a symbol, by TX_INV (R258). -/
def Dev.sentLevel (d : Dev) (l : Nat) (s : Fin 4) : Int := symbolLevel (d.isSet (Fld.HST_LANE_CTL.TX_INV l)) s

/-- The transmit FIR's output for the levels of six successive symbols, in 1/64 (R261). -/
def Dev.firOut (d : Dev) (l : Nat) (levels : List Int) : Int := firOutput (d.firInUse l) levels

end Sys2Proof.Machine
end

