-- ==== Sys2Proof/Machine/Pins.lean ====
section
/-! DEFINITION. The lands and jacks of the module, and the level each output land drives (19_pins_package_electrical.md). -/

namespace Sys2Proof.Machine

/-! ### Output lands (R432, R512, R520, R527, R546) -/

/-- What an output land drives; a released open-drain land and a high-impedance one leave the level to the board. -/
inductive PinLevel where
  | low
  | high
  | released
  deriving DecidableEq, Repr

/-- The outputs whose level follows the state. -/
inductive OutputLand where
  | pwrgood
  | errN
  | intN
  | alertN
  | syncOut
  | ppsOut
  | frameOut
  | trigOut (i : Fin 4)
  | clkState (i : Fin 3)
  deriving DecidableEq, Repr

/-- A push-pull land. -/
def driven (b : Bool) : PinLevel := if b then .high else .low

/-- An open-drain land that is low while b holds. -/
def openDrain (b : Bool) : PinLevel := if b then .low else .released

/-- INT_N is low while INT_PEND = 1 and INT_PIN = 1 (Table 1 of 17_fault_handling.md). -/
def Dev.intN (d : Dev) : Bool :=
  d.isSet Fld.FLT_CTL.INT_PIN &&
    (List.range 576).any (fun f => d.isSet (Fld.FLT_SRC.INT f) && d.isSet (Fld.FLT_SRC.STICKY f))

/-- The level of TRIG_OUTi: its drive, held deasserted while PROBE restructures, and inverted by INV (R81, R342). -/
def Dev.trigOutLevel (d : Dev) (i : Nat) : Bool :=
  (d.pinValue i && !d.restructuring 5) != d.isSet (Fld.PRB_TRIG_OUT_CTL.INV i)

/-- The level of an output land (R546): without a valid VIN, and throughout a thermal trip's hold, every output but PWRGOOD and ALERT_N
is high-impedance. -/
def Dev.land (d : Dev) (p : OutputLand) : PinLevel :=
  match p with
  | .pwrgood => driven d.powered
  | .alertN => openDrain (d.powered && (d.thermHold || d.isSet Fld.PWR_STATUS.ALERT))
  | .errN => openDrain (d.alive && d.errN)
  | .intN => openDrain (d.alive && d.intN)
  | .syncOut => if d.alive then driven d.tim.syncOutHigh else .released
  | .ppsOut => if d.alive then driven d.tim.ppsHigh else .released
  | .frameOut => if d.alive then driven d.tim.frameHigh else .released
  | .trigOut i => if d.alive then driven (d.trigOutLevel i.val) else .released
  | .clkState i => if d.alive then driven ((d.get Fld.TIM_DPLL_STATUS.STATE).testBit i.val) else .released

/-! ### The land grid (R541, R544), in units of 0.01 mm -/

/-- The letters of the row names. -/
def rowLetters : List Char := "ABCDEFGHJKLMNPTUVWY".toList

/-- The name of the row with an index from 1 to 76 (Table 1). -/
def rowName (i : Nat) : List Char :=
  let second := rowLetters.getD ((i - 1) % 19) 'A'
  match (i - 1) / 19 with
  | 0 => [second]
  | k + 1 => [rowLetters.getD k 'A', second]

/-- A land: row index and column, both from 1 to 76. -/
structure Land where
  row : Nat
  col : Nat
  deriving DecidableEq, Repr

/-- The place of a land, x to the east and y to the north of the module's centre. -/
def Land.x (l : Land) : Int := -3525 + 94 * ((l.col : Int) - 1)
def Land.y (l : Land) : Int := 3525 - 94 * ((l.row : Int) - 1)

/-- The lands of host lane l: TX_P, TX_N, RX_P, RX_N (Table 4). -/
def hostLaneLands (l : Nat) : List Land :=
  if l < 24 then [2, 3, 5, 6].map (fun c => ⟨9 + 2 * l, c⟩) else [75, 74, 72, 71].map (fun c => ⟨9 + 2 * (l - 24), c⟩)

/-- The lands of PCIe lane i: TX_P, TX_N, RX_P, RX_N (Table 5). -/
def pcieLaneLands (i : Nat) : List Land := [⟨58, 20 + 4 * i⟩, ⟨58, 21 + 4 * i⟩, ⟨60, 20 + 4 * i⟩, ⟨60, 21 + 4 * i⟩]

/-- The place of coaxial jack k, from 0 to 15 (R542). -/
def jackX (k : Nat) : Int := (2 * (k : Int) - 15) * 210
def jackY : Int := 3200

/-! ### The groups of lands (Table 3) -/

/-- The group a land belongs to. -/
inductive LandGroup where
  | hostLane
  | pcie
  | management
  | clocks
  | control
  | aux
  | vin
  | vinRtn
  | rsvd
  | gnd
  deriving DecidableEq, Repr

/-- The control, pin and strap lands of row CL, and those of row CN (Table 6). -/
def controlColumns (row : Nat) : List Nat :=
  if row = 68 then (List.range 26).map (fun k => 4 + 2 * k) else if row = 70 then (List.range 16).map (fun k => 4 + 2 * k) else []

/-- The group of a land (R544): every land that no other group names is GND. -/
def Land.group (l : Land) : LandGroup :=
  if 9 ≤ l.row ∧ l.row ≤ 55 ∧ l.row % 2 = 1 ∧ l.col ∈ [2, 3, 5, 6, 71, 72, 74, 75] then .hostLane
  else if (l.row = 58 ∨ l.row = 60) ∧ 20 ≤ l.col ∧ l.col ≤ 49 ∧ l.col % 4 < 2 then .pcie
  else if l.row = 62 ∧ (l.col = 20 ∨ l.col = 21) then .pcie
  else if (l.row = 62 ∨ l.row = 64) ∧ (l.col = 30 ∨ l.col = 31) then .management
  else if (l.row = 62 ∨ l.row = 64) ∧ (l.col = 40 ∨ l.col = 41) then .clocks
  else if l.row = 66 ∧ (l.col = 40 ∨ l.col = 42) then .clocks
  else if l.col ∈ controlColumns l.row then .control
  else if l.row = 70 ∧ 60 ≤ l.col ∧ l.col ≤ 74 ∧ l.col % 2 = 0 then .aux
  else if 75 ≤ l.row ∧ l.col ≤ 24 then .vin
  else if 75 ≤ l.row ∧ l.col ≤ 48 then .vinRtn
  else if l.row = 72 ∧ 53 ≤ l.col then .rsvd
  else .gnd

end Sys2Proof.Machine
end

