-- ==== Sys2Proof/WellFormed.lean ====
section
/-! DEFINITION. When the operands of a command are well formed: the lengths and ranges that the events and accesses of the block
have. A command whose operands are not well formed is none that the outside can send; its meaning is total all the same. -/

namespace Sys2Proof

/-- An access to BAR0, whose size is 256 MiB (R6): an address inside it, of at most 64 bytes. -/
def RegAccess.ok (a : RegAccess) : Bool := decide (a.addr < 0x10000000) && decide (1 ≤ a.width) && decide (a.width ≤ 64)

/-- An aligned address of BAR0 (R6, R7). -/
def regAddr (a : Nat) : Bool := decide (a < 0x10000000) && decide (a % 4 = 0)

/-- Counts of one window of one polarisation: the repeats at the lags 1 to 64 (R129). -/
def GuardObs.ok (g : GuardObs) : Bool := decide (g.same.length = 64)

/-- A TTI has 64 bytes; the MSI names flows of the device (Table 5 of 06_otn_framing_and_tsi.md). -/
def OhItem.ok : OhItem → Bool
  | .smTti _ b => decide (b.length = 64)
  | .opuMsi _ l => l.all (fun e => e.all (fun f => decide (f < 1280)))
  | _ => true

/-- A frame of a flow with its 48 bytes of device overhead (R193) and the 42 bytes of its ODU overhead, or none of these. -/
def OduFrame.ok (f : OduFrame) : Bool := decide (f.overhead.length = 48) && decide (f.oh.length = 0 ∨ f.oh.length = 42)

/-- The first bytes of a frame: a word of 16 bytes for each of up to 32 slices (R175, R176). -/
def headOk (l : List Byte) : Bool := decide (l.length ≤ 512)

/-- What training gives a lane: six taps of the TX FIR and a CTLE code of 0 to 32 (R260, R261). -/
def LaneEq.ok (e : LaneEq) : Bool := decide (e.fir.length = 6) && decide (e.ctle ≤ 32)

/-- Errors in the last 4,096 bits of a checker, of those counted in all (R274). -/
def PrbsErrs.ok (e : PrbsErrs) : Bool := decide (e.window ≤ 4096) && decide (e.window ≤ e.total)

/-- A window of a tap has 512 bits (R358). -/
def TapItem.ok : TapItem → Bool
  | .window _ _ _ (.samples l) => decide (l.length ≤ 16)
  | .window _ _ _ (.llrs l) => decide (l.length ≤ 102)
  | .window _ _ _ (.bits l) => decide (l.length ≤ 512)
  | .window _ _ _ (.lanes l) => decide (l.length ≤ 8) && l.all (fun b => decide (b.length ≤ 64))
  | .window _ _ _ (.octets l) => decide (l.length ≤ 64)
  | _ => true

/-- A command with well-formed operands. -/
def Instr.wf : Instr → Bool
  | .registerWrite _ acc => acc.ok
  | .rcRead _ addr => regAddr addr
  | .loReadSnapshot _ addr => regAddr addr
  | .hiWriteApply _ addr _ => regAddr addr
  | .glbFence _ _ => true
  | .fenceDone _ => true
  | .shadowCopy _ => true
  | .shadowHoldClear _ _ => true
  | .blockReset _ _ => true
  | .blockResetDone _ => true
  | .chipReset _ _ _ => true
  | .powerOn _ => true
  | .vinLoss => true
  | .pcieFunctionReset => true
  | .pcieDown => true
  | .loadStart _ _ => true
  | .loadFetchDone _ => true
  | .loadVerifyDone => true
  | .commit _ _ _ => true
  | .commitChecksDone => true
  | .commitEnd => true
  | .commitLate => true
  | .globalCommitReset => true
  | .globalRecommit => true
  | .cnvRateWrite _ _ _ => true
  | .cnvEnWrite _ _ _ => true
  | .converterLocked _ _ => true
  | .cnvUnlock _ => true
  | .calStep _ _ _ => true
  | .calNow _ _ => true
  | .adcOverrange _ _ _ => true
  | .rxLosEnter _ _ => true
  | .losExit _ below => decide (below.length = 16)
  | .cdSearchDone _ _ _ => true
  | .timingDone _ => true
  | .foAcqDone _ => true
  | .blindDone _ => true
  | .syncFound _ _ _ => true
  | .trackEnter _ => true
  | .acqTimeout _ => true
  | .dspRestart _ _ => true
  | .syncLoss _ pilots => decide (pilots.length = 4)
  | .monUpdate _ _ => true
  | .guardWindow _ obsX obsY => obsX.ok && obsY.ok
  | .cycleSlip _ => true
  | .fadeDone _ => true
  | .pdCoefWrite _ _ _ _ _ _ => true
  | .superframeEncode _ _ => true
  | .superframeDecode _ _ => true
  | .fecCntClr _ _ => true
  | .fasMatch _ _ head _ => headOk head
  | .mfCheckFrame _ head => headOk head
  | .revoke _ => true
  | .barExpiry _ _ => true
  | .oof _ => true
  | .oomSet _ => true
  | .oomClear _ => true
  | .lofChange _ => true
  | .lomChange _ => true
  | .ohAccept item => item.ok
  | .apsAccept _ _ => true
  | .mapErr _ => true
  | .tsiSbyWrite _ _ _ _ => true
  | .tsiCopy _ _ => true
  | .tsiCopyDone _ => true
  | .tsiSwap _ _ => true
  | .tsiSwapApply _ => true
  | .keyLoad _ => true
  | .keyErase _ => true
  | .cryptoBlockTx _ frames => !frames.isEmpty && frames.all OduFrame.ok
  | .cryptoBlockRx _ frames following => !frames.isEmpty && frames.all OduFrame.ok && following.ok
  | .cryptoLate _ _ => true
  | .cryptoJob => true
  | .cryptoJobDone _ => true
  | .drbgReseed => true
  | .entropyFail => true
  | .mergeDup _ frame => frame.ok
  | .mergeCopy _ _ frame _ => frame.ok
  | .mergeSlot _ => true
  | .pathTimeout _ _ => true
  | .pathSignalFail _ _ => true
  | .pathSignalClear _ _ => true
  | .anchor _ => true
  | .anchorTimeout _ => true
  | .realign _ _ => true
  | .heartbeatLoss _ => true
  | .octetRelock _ _ _ => true
  | .octetLock _ => true
  | .signalDetect _ eq => eq.ok
  | .signalLoss _ => true
  | .trainDone _ eq => eq.ok
  | .trainTimeout _ => true
  | .retryTimer _ => true
  | .laneRestart _ _ => true
  | .laneCtlWrite _ _ => true
  | .txFirWrite _ _ _ _ => true
  | .prbsLock _ => true
  | .prbsLoss _ errs => errs.ok
  | .prbsCntClr _ _ => true
  | .rsCodeword _ _ _ => true
  | .clientCntClr _ _ => true
  | .frameLock _ => true
  | .frameLockLoss _ => true
  | .tsucorFrameRx _ frame => decide (frame.length = 544)
  | .tsuHelloTx => true
  | .partnerTimeout _ => true
  | .dbProd _ _ _ => true
  | .dbCons _ _ _ => true
  | .windowRead _ _ _ => true
  | .windowWrite _ _ _ => true
  | .dmaProd _ _ _ => true
  | .dmaDescriptor _ desc => decide (desc.length = 32)
  | .dmaComplete _ _ _ => true
  | .dmaAbort _ _ => true
  | .hbmOp _ _ _ _ => true
  | .grantRecompute _ => true
  | .admLimitWrite _ _ => true
  | .queueCaptureWrite _ item _ => item.ok
  | .carouselArm _ _ => true
  | .carouselTrigger _ _ => true
  | .carouselStop _ _ => true
  | .pagingResume _ _ => true
  | .qEnWrite _ _ _ => true
  | .pageOut _ => true
  | .pageAck => true
  | .pageAckTimeout _ => true
  | .pageIn _ _ => true
  | .pageData => true
  | .spillRecordSend _ => true
  | .streamSeqTimeout _ => true
  | .engineRun _ _ => true
  | .engineHalt _ _ => true
  | .engineRestart _ _ => true
  | .engineStep _ _ => true
  | .nop _ => true
  | .halt _ => true
  | .alu _ => true
  | .addi _ => true
  | .ldi _ => true
  | .ins _ => true
  | .br _ => true
  | .jmp _ => true
  | .jal _ => true
  | .jr _ => true
  | .wait _ => true
  | .waitRelease _ => true
  | .evrd _ => true
  | .evclr _ => true
  | .esel _ => true
  | .tset _ => true
  | .trd _ => true
  | .timerExpiry _ _ => true
  | .cntInc _ => true
  | .cntAdd _ => true
  | .cntWr _ => true
  | .cntRd _ => true
  | .prbCntWrite _ _ _ => true
  | .trigPulse _ => true
  | .trigSet _ => true
  | .trigClr _ => true
  | .trigOutPulseEnd _ _ => true
  | .capStart _ => true
  | .capStop _ => true
  | .capMark _ => true
  | .capDest _ => true
  | .qcmdArm _ => true
  | .qcmdTrigger _ => true
  | .qcmdStop _ => true
  | .playStart _ => true
  | .playNext _ => true
  | .playStop _ => true
  | .tsr _ => true
  | .get _ => true
  | .put _ => true
  | .sig _ => true
  | .trigInAssert _ => true
  | .secondEvent => true
  | .pmMatch _ windows => windows.all (fun w => w.1.all (fun o => decide (o < 65536)))
  | .pmLoad _ _ => true
  | .pmHitsClr _ _ => true
  | .tapStart _ _ => true
  | .tapStop _ => true
  | .tapMark _ _ => true
  | .tapDest _ _ => true
  | .recordClose _ => true
  | .recordFlush _ => true
  | .tapRetry _ item => item.ok
  | .tapSourceLoss _ => true
  | .tapSourceReturn _ => true
  | .bufferCaptureEnd _ => true
  | .sramOvf _ => true
  | .decReset _ => true
  | .capSyncReset _ _ => true
  | .decSaturation _ => true
  | .playerStart _ _ => true
  | .playerNext _ _ => true
  | .playerStop _ => true
  | .playerPassEnd _ => true
  | .playerUnderrun _ => true
  | .segWrite _ _ _ _ => true
  | .clpPush _ _ => true
  | .clpHelloTimer _ => true
  | .clpTxPacket _ => true
  | .clpTxDone _ => true
  | .clpTxAbort _ => true
  | .clpRxOff _ => true
  | .clpRxOn _ => true
  | .agcUpdate _ _ => true
  | .preambleDetect _ _ _ _ => true
  | .syncWordFound _ _ _ => true
  | .syncTmo _ => true
  | .packetReceived _ _ payload _ _ => decide (payload.length ≤ 127)
  | .partnerExpiry _ _ => true
  | .clpPop _ _ => true
  | .eqReset _ _ => true
  | .refActivityLoss _ => true
  | .refActivityReturn _ => true
  | .freqMeasure _ _ => true
  | .wtrExpiry _ => true
  | .refSelect _ => true
  | .dpllModeWrite _ _ _ => true
  | .dpllLock _ => true
  | .dpllUnlock _ => true
  | .hoValidSet => true
  | .xoFail => true
  | .rootUnlock => true
  | .pullDone => true
  | .tcSet _ => true
  | .tcStep _ _ => true
  | .tcLoadSync _ => true
  | .pulseAlign _ => true
  | .ppsOutPulse => true
  | .frameOutPulse => true
  | .syncInAssert => true
  | .ppsInAssert => true
  | .syncCmd _ => true
  | .syncEvent => true
  | .ptpTxMessage _ => true
  | .ptpRxMessage _ => true
  | .ptpPop _ _ => true
  | .linkFrameTx _ odu => odu.all (fun c => decide (c.data.length ≤ 512))
  | .linkFrameRx _ bytes => decide (bytes.length = 1088)
  | .horugHelloTx => true
  | .linkHelloTimeout _ => true
  | .chnErrorClear _ => true
  | .timeAlign => true
  | .chainEdgeApply => true
  | .chainSyncOriginate _ => true
  | .fwdGo _ _ => true
  | .fwdExecute _ => true
  | .fwdComplete => true
  | .fwdTimeout _ => true
  | .bootRomFetch => true
  | .trustedBootComplete => true
  | .appLoadDone => true
  | .getInfo _ => true
  | .getCert _ => true
  | .attest _ => true
  | .getChallenge _ => true
  | .kekExchange _ => true
  | .enrollKey _ _ => true
  | .revokeKey _ _ => true
  | .setCustOnly _ _ => true
  | .advanceSecver _ _ => true
  | .fwWrite _ _ => true
  | .fwSelect _ _ => true
  | .debugUnlock _ => true
  | .recover _ _ => true
  | .mbComplete _ => true
  | .wdtKick _ _ => true
  | .wdtExpiry => true
  | .faultCause _ => true
  | .faultMsi => true
  | .stickyClear _ _ => true
  | .firstClear _ => true
  | .clrAll _ => true
  | .arm _ => true
  | .disarm _ => true
  | .injPulse _ _ => true
  | .injHold _ _ _ => true
  | .fltEnWrite _ _ _ => true
  | .tempSample temps => decide (temps.length ≤ 32)
  | .powerSample _ _ doms _ => decide (doms.length ≤ 12)
  | .railFault _ => true
  | .thermtrip => true
  | .thermtripRelease => true
  | .tightropeDecision => true
  | .hkStart _ _ => true
  | .hkConversionDone _ => true
  | .hkDataRead _ => true
  | .hkCalNow _ => true
  | .hkCalDone => true
  | .i2cWrite _ _ _ => true
  | .i2cRead _ _ _ => true
  | .i2cRefresh => true
  | .i2cTimeout => true
  | .fasMiss _ seen => headOk seen.head
  | .pathClassTimeout _ _ => true
  | .octetUnlock _ => true
  | .pcsLaneAlignment _ _ _ _ => true
  | .deassertionAccepted _ _ => true
  | .xoReturn => true
  | .rootRelock => true
  | .outputPulseEnd _ => true
  | .txClip _ _ => true
  | .ovrLiveExpiry _ _ => true
  | .pcieLinkUp => true

end Sys2Proof
end

