-- ==== Sys2Proof/Tests/Slice0.lean ====
section
/-! SUPPORT. Tests: ill-formed commands that the well-formedness check refuses, probe-engine words written out from Table 2 of
11_probe_engines.md, small steps, and for each statement with hypotheses a witness that meets them. -/

namespace Sys2Proof.Tests

open Sys2Proof Sys2Proof.Machine

set_option Elab.async false

/-! ### Small states -/

/-- The state after reset with its device changed. -/
def dev (f : Dev → Dev) : State := { State.reset with dev := f State.reset.dev }

/-- Fields with values. -/
def flds (l : List (Fld × Nat)) (d : Dev) : Dev := l.foldl (fun d e => d.put e.1 e.2) d

/-- Registers with values. -/
def regs (l : List (Nat × Word)) (d : Dev) : Dev := l.foldl (fun d e => d.setReg e.1 e.2) d

/-- A module without power. -/
def off : State := dev (fun d => { d with powered := false })

/-- A chip that a thermal trip holds in reset. -/
def hold : State := dev (fun d => { d with thermHold := true })

/-- The chip in a boot stage. -/
def atStage (n : Nat) : State := dev (flds [(Fld.SEC_BOOT_STATUS.STAGE, n)])

/-- A structure of a region with connections and flows. -/
def body (connects : List Connect) (flows : List FlowDecl) : RegionBody :=
  { imgId := 0, connects := connects, presets := [], flows := flows, programs := [], queues := [] }
/-! ### The machine as a whole, and register accesses -/

/-- Block 13 in block reset. -/
def timReset : State := dev (fun d => d.setBit Reg.GLB_BLK_RESET 13)

theorem witness_IdleStepIsOneTick :
    (off.pending = [] ∧ off.dev.alive = false) ∧
    (State.reset.pending = [] ∧ State.reset.dev.alive = true ∧ State.reset.dev.shadow = [] ∧ State.reset.dev.tim.pull = 0 ∧
      tSec (tcSat ((State.reset.dev.tc : Int) + (State.reset.dev.addend : Int))) = tSec State.reset.dev.tc) := by
  decide +kernel

theorem witness_StepKeepsCanonical : State.reset.canonical ∧ ∃ t, step State.reset = .next t :=
  ⟨by decide +kernel, _, rfl⟩

theorem witness_NothingHappensWhereNothingMay :
    (off.dev.powered = false ∧ aliveWithoutPower .vinLoss = false) ∧
    (hold.dev.thermHold = true ∧ aliveInThermalHold .thermtrip = false) ∧
    (writeOf (.arm .pcie) = some (.pcie, 16) ∧ State.reset.dev.mayWrite .pcie 16 = false) ∧
    (writeOf (.tcSet .trusted) = some (.trusted, 13) ∧ timReset.dev.mayWrite .trusted 13 = false) ∧
    (eventOf .syncEvent = some 13 ∧ timReset.dev.inReset 13 = true) := by
  decide +kernel


/-- A held low part of the load address, a snapshot of the trusted core, and a pending value of TIM. -/
def parts : State := dev (fun d => { d with
  held := [(0x100008, 7)], snaps := [(snapKey .trusted 0x10000C, 9)], shadow := [(Reg.TIM_PULSE_CTL, 1), (Reg.TIM_DPLL_CTL, 1)] })

/-- The same with GLB_SHADOW_HOLD holding every block. -/
def partsHeld : State := { parts with dev := regs [(Reg.GLB_SHADOW_HOLD, 0x7BFC)] parts.dev }

theorem witness_AccessesMustBeAlignedWords :
    Running State.reset ∧ State.reset.dev.reaches .trusted (0x100008 / 0x100000) = true ∧
    ((2 : Nat) ≠ 4 ∨ 0x100008 % 4 ≠ 0) ∧ ((4 : Nat) ≠ 4 ∨ 0x100009 % 4 ≠ 0) := by
  decide +kernel

theorem witness_UnallocatedOffsets :
    ((0x1200000 : Nat) ≤ 0x1200000) ∧
    (Running State.reset ∧ State.reset.dev.reaches .trusted (0x11FFFFC / 0x100000) = true ∧ 0x11FFFFC < 0x10000000 ∧
      0x11FFFFC % 4 = 0 ∧ regAt 0x11FFFFC = none ∧ partOf 0x11FFFFC = none ∧ channelOf 0x11FFFFC = none) := by
  decide +kernel

theorem witness_AccessCodes : Writable .trusted 0 State.reset ∧ Writable .trusted (2 + (1 : Port).val) State.reset := by
  decide +kernel

theorem witness_WideReadsTakeSnapshots :
    (Running State.reset ∧ State.reset.dev.reaches .trusted (0x100008 / 0x100000) = true ∧ partOf 0x100008 = some (0, 2) ∧
      channelOf 0x100008 = none ∧ (regAt 0x100008).isSome = true ∧ 0x100008 + 4 * 2 < reqBase ∧ Requester.pcie ≠ .trusted) ∧
    (0x10000C % 4 = 0 ∧ partOf 0x10000C = some (0 + 1, 2) ∧ channelOf 0x10000C = none) := by
  decide +kernel

theorem witness_WideWritesApplyTogether :
    Writable .trusted 1 parts ∧ ∀ d, Sparse.get d parts.dev.held 0x100008 = 7 :=
  ⟨by decide +kernel, fun _ => rfl⟩

theorem witness_FencesCompletePerRequester : Running State.reset ∧ State.reset.dev.reaches .trusted 0 = true := by decide +kernel

theorem witness_ShadowCopiesTogether :
    (parts.dev.shadow.map (·.1)).Nodup ∧ (Reg.TIM_PULSE_CTL, 1) ∈ parts.dev.shadow ∧
    (fun a => a == Reg.TIM_PULSE_CTL) Reg.TIM_PULSE_CTL = true ∧ (fun a => a == Reg.TIM_PULSE_CTL) Reg.TIM_DPLL_CTL = false := by
  decide +kernel

theorem witness_BoundariesAndHolds :
    Working (unitBlock .tim) parts ∧ (Working 13 partsHeld ∧ partsHeld.dev.held? 13 = true) ∧ Writable .trusted 0 partsHeld := by
  decide +kernel


/-! ### Resets -/

/-- The structure is being committed in region 3. -/
def committing3 : State := dev (fun d => { d with str := { committing := [3] } })

/-- Block 4 in reset, with a preset of it in region LINE_A. -/
def fecPreset : State := dev (fun d => regs [(Reg.STR_ACTIVE, 2), (Reg.GLB_BLK_RESET, 0x10)] { d with
  str := { active := [(1, { body [] [] with presets := [⟨Reg.FEC_x_CTL 0, 3, 2⟩] })] } })

/-- A chip held by a thermal trip whose sensors have been cool for 1,000 samples. -/
def cooled : State := dev (fun d => { d with thermHold := true, hk := { d.hk with cool := 1000 } })

theorem witness_BlockResetsClearAndEnd :
    (Running State.reset ∧ State.reset.dev.reaches .trusted 0 = true ∧ State.reset.dev.inReset 2 = false ∧
      State.reset.dev.commitOf 2 = false ∧ State.reset.dev.inReset 14 = false ∧ State.reset.dev.commitOf 14 = false) ∧
    (keyBlock (Reg.LNx_CNV_EN 0) = 2 ∧ survivesReset 2 (Reg.LNx_CNV_EN 0) = false) ∧
    (Running timReset ∧ timReset.dev.inReset 13 = true) ∧
    (Running fecPreset ∧ fecPreset.dev.inReset 4 = true ∧
      fecPreset.dev.presetsOf 4 = [[], [⟨Reg.FEC_x_CTL 0, 3, 2⟩], [], [], [], [], [], []]) ∧
    (Running committing3 ∧ committing3.dev.reaches .trusted 0 = true ∧ committing3.dev.inReset 5 = false ∧
      committing3.dev.commitOf 5 = true ∧ 5 ∉ committing3.dev.resetWait) := by
  decide +kernel

theorem witness_ChipResetNeedsItsKey :
    (Running State.reset ∧ State.reset.dev.reaches .trusted 0 = true) ∧ ((0x6B1C : BitVec 16) ≠ 0x6B1D) := by
  decide +kernel

theorem witness_PowerAndThermalTrip :
    off.dev.powered = false ∧ State.reset.dev.powered = true ∧ Running State.reset ∧ 1000 ≤ cooled.dev.hk.cool ∧
      hold.dev.hk.cool < 1000 := by
  decide +kernel

theorem witness_PcieLinkAndFunctionReset : Running State.reset ∧ (0 : Nat) < reqBase ∧ (0 : Nat) ≠ 1 := by decide +kernel


/-! ### Images -/

/-- The loader in a stage with a load from a source. -/
def loading (stage src : Nat) : State :=
  dev (fun d => flds [(Fld.STR_STATE.STAGE, stage), (Fld.STR_LOAD_LEN.LEN, 336)] { d with str := { load := some (src, 0, 336) } })

/-- A commit in a phase; a global one waits or not. -/
def commitPhase (n : Nat) (pending : Bool) : State :=
  dev (fun d => flds [(Fld.STR_STATE.COMMIT, n), (Fld.SEC_BOOT_STATUS.STAGE, 2)] { d with str := { globalPending := pending } })

theorem witness_LoadsStageAnImage :
    (Writable .trusted 1 (loading 0 0) ∧ (loading 0 0).dev.loadBusy = false ∧
      fetchBad 0 ((loading 0 0).dev.reg64 Reg.STR_LOAD_ADDR_LO) ((loading 0 0).dev.get Fld.STR_LOAD_LEN.LEN) = false) ∧
    (Writable .trusted 1 (loading 1 0) ∧ (loading 1 0).dev.loadBusy = true) ∧
    (Running (loading 1 0) ∧ (loading 1 0).dev.get Fld.STR_STATE.STAGE = 1 ∧ (loading 1 0).dev.str.load = some (0, 0, 336)) ∧
    ((loading 1 1).dev.get Fld.STR_STATE.STAGE = 1 ∧ (loading 1 1).dev.str.load = some (1, 0, 336)) ∧
    ((loading 1 2).dev.get Fld.STR_STATE.STAGE = 1 ∧ (loading 1 2).dev.str.load = some (2, 0, 336) ∧
      (loading 1 2).dev.sec.flashBusy = none) ∧
    (Running (loading 2 0) ∧ (loading 2 0).dev.get Fld.STR_STATE.STAGE = 2 ∧ (loading 2 0).dev.str.load = some (0, 0, 336)) := by
  decide +kernel

theorem witness_CommitsRunThroughTheirPhases :
    (Writable .trusted 1 State.reset ∧ State.reset.dev.get Fld.STR_STATE.COMMIT = 0 ∧ State.reset.dev.str.globalPending = false) ∧
    ((0x5A16 : BitVec 16) ≠ 0x5A17) ∧
    (Writable .trusted 1 (commitPhase 1 false) ∧ (commitPhase 1 false).dev.get Fld.STR_STATE.COMMIT ≠ 0 ∧
      Running (commitPhase 1 false) ∧ (commitPhase 1 false).dev.get Fld.STR_STATE.COMMIT = 1) ∧
    (Running (commitPhase 2 false) ∧ (commitPhase 2 false).dev.get Fld.STR_STATE.COMMIT = 2) ∧
    (Running (commitPhase 3 false) ∧ (commitPhase 3 false).dev.get Fld.STR_STATE.COMMIT = 3) ∧
    (Running (commitPhase 0 true) ∧ (commitPhase 0 true).dev.str.globalPending = true ∧ 2 ≤ (commitPhase 0 true).dev.stage) := by
  decide +kernel


/-! ### The line -/

/-- Port A with an active structure, its receiver in a state, all converters enabled in RUN and locked, and the first one in a step. -/
def line (rx : Nat) : State := dev (fun d => regs [(Reg.STR_ACTIVE, 0xFF), (Reg.LNx_CNV_EN 0, 0xFF), (Reg.LNx_CNV_STATE 0, 0x33333333)]
  (flds [(Fld.LNx_DSP_STATE.RX_STATE 0, rx), (Fld.FEC_x_STATUS.FMT 0, 0)] { d with
    str := { active := [(1, body [{ level := 0, src := 0x200, srcInst := 0xFFFF, sink := 0x201, sinkInst := 0xFFFF },
      { level := 1, src := 0x204, srcInst := 0xFFFF, sink := 0x400, sinkInst := 0xFFFF },
      { level := 2, src := 0x502, srcInst := 0xFFFF, sink := 0x402, sinkInst := 0xFFFF }] [])] },
    line := [(0, { locked := true, convs := [(0, { inStep := true })] })] }))

/-- The same with other fields. -/
def lineWith (rx : Nat) (l : List (Fld × Nat)) : State := { line rx with dev := flds l (line rx).dev }

/-- A window of the guard that collapses, and one that does not. -/
def collapsed : GuardObs := { distinct := 0, maxCount := 4032, same := [] }
def lively : GuardObs := { distinct := 4032, maxCount := 0, same := [] }

theorem witness_ConvertersFollowRateAndEnables :
    (Writable .trusted (2 + (0 : Port).val) (line 8) ∧ (19 : BitVec 6).toNat < 20 ∧ 50 < (51 : BitVec 6).toNat ∧
      (line 8).dev.lnM 0 = 50 ∧ 20 ≤ (20 : BitVec 6).toNat ∧ (20 : BitVec 6).toNat ≠ (line 8).dev.lnM 0 ∧
      (line 8).dev.regionActive 1 = true ∧ (line 8).dev.cnvEn 0 7 = true) ∧
    (Running (line 8) ∧ (line 8).dev.cnvState 0 0 ≠ 1) ∧
    (Running (lineWith 8 [(⟨Reg.LNx_CNV_STATE 0, 3, 0⟩, 1)]) ∧ (lineWith 8 [(⟨Reg.LNx_CNV_STATE 0, 3, 0⟩, 1)]).dev.cnvState 0 0 = 1) ∧
    (((line 8).dev.ln 0).locked = true ∧ (List.range 8).any (fun c => (line 8).dev.cnvEn 0 c) = true) := by
  decide +kernel

theorem witness_SlicesRotateAndOverrangesCount :
    (Running (line 8) ∧ ((line 8).dev.conv 0 0).inStep = true ∧ 2 ≤ (line 8).dev.cnvState 0 0) ∧
    (((line 8).dev.conv 0 1).inStep = false) ∧
    (Writable .trusted (2 + (0 : Port).val) (line 8)) ∧
    (correctionInRange { offset := 16000 } = true ∧ correctionInRange { offset := 16001 } = false) ∧
    ((lineWith 8 [(⟨Reg.LNx_CNV_STATE 0, 3, 0⟩, 1)]).dev.cnvState 0 0 ≤ 1) := by
  decide +kernel

theorem witness_AcquisitionFollowsItsStates :
    (Running (line 2) ∧ 2 ≤ (line 2).dev.rxState 0 ∧ (line 2).dev.get (Fld.LNx_RX_FE_CTL.LOS_THR 0) * 10 < 100000) ∧
    (Running (line 1) ∧ (line 1).dev.rxState 0 = 1 ∧ (line 1).dev.noInput 0 = false ∧ 16 ≤ (List.replicate 16 0).length ∧
      20 ≤ (line 1).dev.get (Fld.LNx_RX_FE_CTL.LOS_THR 0) * 10) ∧
    ((line 2).dev.rxState 0 = 2 ∧
      (line 2).dev.cdMin 0 + ((0 : Nat) : Int) * ((line 2).dev.get (Fld.LNx_CD_CTL.STEP 0) : Int) ≤ (line 2).dev.cdMax 0 ∧
      (0 : Int).natAbs ≤ (line 2).dev.get (Fld.LNx_CD_CTL.STEP 0) / max 1 ((line 2).dev.get (Fld.LNx_CD_CTL.STEP 0) / 10)) ∧
    ((line 3).dev.rxState 0 = 3 ∧ (line 4).dev.rxState 0 = 4 ∧ (line 5).dev.rxState 0 = 5 ∧ (line 6).dev.rxState 0 = 6 ∧
      (line 7).dev.rxState 0 = 7) ∧
    ((line 8).dev.rxState 0 = 8 ∧ 4 ≤ [(55, 64), (0, 0), (64, 55), (0, 0)].length ∧
      ∀ e ∈ [(55, 64), (0, 0), (64, 55), (0, 0)], syncMatches e = false) := by
  decide +kernel

theorem witness_DspMonitorsAndBanks :
    (Running (line 6) ∧ (line 6).dev.rxState 0 < 7) ∧
    (Running (lineWith 8 [(Fld.LNx_MIMO_CTL.ADAPT 0, 1)]) ∧ (lineWith 8 [(Fld.LNx_MIMO_CTL.ADAPT 0, 1)]).dev.get (Fld.LNx_MIMO_CTL.ADAPT 0) ≠ 0) ∧
    (7 ≤ (lineWith 7 [(Fld.LNx_GUARD_HYST.ENTER_N 0, 1)]).dev.rxState 0 ∧
      (lineWith 7 [(Fld.LNx_GUARD_HYST.ENTER_N 0, 1)]).dev.get (Fld.LNx_MIMO_CTL.ADAPT 0) = 0 ∧
      (lineWith 7 [(Fld.LNx_GUARD_HYST.ENTER_N 0, 1)]).dev.get (Fld.LNx_DSP_STATE.GUARD 0) = 0 ∧
      ((lineWith 7 [(Fld.LNx_GUARD_HYST.ENTER_N 0, 1)]).dev.collapsedPol 0 collapsed || false) = true ∧
      (lineWith 7 [(Fld.LNx_GUARD_HYST.ENTER_N 0, 1)]).dev.get (Fld.LNx_GUARD_HYST.ENTER_N 0) ≤
        ((lineWith 7 [(Fld.LNx_GUARD_HYST.ENTER_N 0, 1)]).dev.ln 0).enterRun + 1) ∧
    ((lineWith 7 [(Fld.LNx_GUARD_HYST.EXIT_N 0, 1), (Fld.LNx_DSP_STATE.GUARD 0, 1)]).dev.get (Fld.LNx_DSP_STATE.GUARD 0) = 1 ∧
      (lineWith 7 [(Fld.LNx_GUARD_HYST.EXIT_N 0, 1), (Fld.LNx_DSP_STATE.GUARD 0, 1)]).dev.collapsedPol 0 lively = false ∧
      (lineWith 7 [(Fld.LNx_GUARD_HYST.EXIT_N 0, 1), (Fld.LNx_DSP_STATE.GUARD 0, 1)]).dev.get (Fld.LNx_GUARD_HYST.EXIT_N 0) ≤ 1) ∧
    (Working (2 + (0 : Port).val) (line 7) ∧ (line 7).dev.rxState 0 ≠ 8) ∧
    (Working (2 + (0 : Port).val) (lineWith 8 [(⟨Reg.GLB_BLK_RESET, 4, 4⟩, 1)]) ∧
      (lineWith 8 [(⟨Reg.GLB_BLK_RESET, 4, 4⟩, 1)]).dev.inReset 4 = true ∧
      (lineWith 8 [(⟨Reg.GLB_BLK_RESET, 4, 4⟩, 1)]).dev.rxState 0 = 8) ∧
    (Running (lineWith 8 [(Fld.LNx_PD_STATUS.FADING 0, 1)]) ∧ (lineWith 8 [(Fld.LNx_PD_STATUS.FADING 0, 1)]).dev.get (Fld.LNx_PD_STATUS.FADING 0) = 1) ∧
    (Writable .trusted (2 + (0 : Port).val) (line 8) ∧ (line 8).dev.pdBusy 0 0 = true ∧ (line 8).dev.pdBusy 0 1 = false) := by
  decide +kernel

/-- The line in TRACK with both directions of the FEC and the framer enabled. -/
def coding : State := lineWith 8 [(Fld.FEC_x_CTL.ENC_EN 0, 1), (Fld.FEC_x_CTL.DEC_EN 0, 1), (Fld.FRM_x_OTU_CTL.TX_EN 0, 1)]

/-- The same with the framer disabled, so that the encoder has no source. -/
def unfed : State := lineWith 8 [(Fld.FEC_x_CTL.ENC_EN 0, 1), (Fld.FRM_x_OTU_CTL.TX_EN 0, 0)]

/-- A loop of the decoder of port A to its encoder, while its receiver is in RESYNC. -/
def looped : State := { coding with dev := flds [(Fld.LNx_DSP_STATE.RX_STATE 0, 6)] { coding.dev with
  str := { active := [(1, body [{ level := 1, src := 0x204, srcInst := 0xFFFF, sink := 0x400, sinkInst := 0xFFFF },
    { level := 2, src := 0x400, srcInst := 0xFFFF, sink := 0x402, sinkInst := 0xFFFF }] [])] } } }

theorem witness_SuperframesAreEncodedAndDecoded :
    (Running State.reset ∧ State.reset.dev.fecRuns 0 = false) ∧
    (Running coding ∧ coding.dev.fecRuns 0 = true ∧ coding.dev.get (Fld.FEC_x_CTL.ENC_EN 0) = 1 ∧
      coding.dev.get (Fld.FEC_x_CTL.DEC_EN 0) = 1 ∧ coding.dev.decodes 0 = true ∧
      coding.dev.feeds 2 0x402 noInst = some (0x502, 0xFFFF)) ∧
    (looped.dev.fecRuns 0 = true ∧ looped.dev.get (Fld.FEC_x_CTL.ENC_EN 0) = 1 ∧ looped.dev.feeds 2 0x402 noInst = some (0x400, 0xFFFF) ∧
      looped.dev.get (Fld.FEC_x_CTL.DEC_EN 0) = 1 ∧ looped.dev.decodes 0 = false) ∧
    (unfed.dev.fecRuns 0 = true ∧ unfed.dev.get (Fld.FEC_x_CTL.ENC_EN 0) = 1 ∧ unfed.dev.feeds 2 0x402 noInst = none) ∧
    ((line 8).dev.fecRuns 0 = true ∧ (line 8).dev.get (Fld.FEC_x_CTL.ENC_EN 0) = 0 ∧ (line 8).dev.get (Fld.FEC_x_CTL.DEC_EN 0) = 0) ∧
    Writable .trusted 4 State.reset := by
  decide +kernel

/-! ### Framing -/

/-- Port A's framer works and is fed by its decoder; flow 1 is declared on it. -/
def framing : State := dev (fun d => regs [(Reg.STR_ACTIVE, 0xFF)] (flds [(Fld.FRM_x_OTU_CTL.RX_EN 0, 1), (Fld.FRM_x_OTU_STATUS.N_ACT 0, 1),
    (Fld.FEC_x_CTL.DEC_EN 0, 1)]
  { d with str := { active := [(1, body [{ level := 2, src := 0x400, srcInst := 0xFFFF, sink := 0x500, sinkInst := 0xFFFF }] []),
    (3, body [] [{ flow := 1, home := 0, encrypt := false, isProtected := false, slots := 1, ctype := 0x10 }])] } }))

/-- The framer of port A with an aligner. -/
def framer (a : Aligner) : State := { framing with dev := { framing.dev with frm := { align := [(0, a)] } } }

/-- Sixteen candidates. -/
def cands16 : List Candidate := (List.range 16).map (fun i => { offset := i + 100, count := 1, mfas := 0 })

/-- The framer of port A in IF, with the aligner's other fields as given. -/
def inFrame (a : Aligner) : State :=
  let s := framer { a with state := 3 }
  { s with dev := flds [(Fld.FRM_x_OTU_STATUS.STATE 0, 3), (Fld.FRM_FLOW_STATUS.ALIGN 1, 3)] s.dev }

/-- A filter of SM BDI that has seen four occurrences. -/
def bdiFour : State := { inFrame {} with
  dev := { (inFrame {}).dev with frm := { (inFrame {}).dev.frm with filters := [(1, (.smBdi 0 true, 4))], aps := [(1, { cand := 7, count := 2 })] } } }

/-- Set 0 with one valid standby entry of flow 1, which no page may use twice: the page passes its check. -/
def pageReady : State := { framing with dev := flds [(Fld.FRM_TSI_SBY.VALID 0 0, 1), (Fld.FRM_TSI_SBY.FLOW 0 0, 1)] framing.dev }

/-- Set 0 with a standby entry of a flow that is not declared. -/
def pageBad : State := { framing with dev := flds [(Fld.FRM_TSI_SBY.VALID 0 0, 1), (Fld.FRM_TSI_SBY.FLOW 0 0, 2)] framing.dev }

/-- Set 0 with a swap (0) or a copy (4) pending. -/
def pagePending (i : Nat) : State := { pageReady with dev := pageReady.dev.setBit Reg.FRM_TSI_PAGE_STATUS i }

/-- A filter of SM BDI that has seen two occurrences. -/
def bdiTwo : State := { bdiFour with dev := { bdiFour.dev with frm := { bdiFour.dev.frm with filters := [(1, (.smBdi 0 true, 2))] } } }
/-- The framer of port A with the candidate at offset 1 in MF_CHECK after these check frames. -/
def checking (l : List (Option (BitVec 8))) : State := framer { check := some (1, l) }

/-- The first bytes of a frame with a FAS and the MFAS byte 5, and bytes without a FAS. -/
def headFas : List Byte := [0xF6, 0xF6, 0xF6, 0x28, 0x28, 0x28, 5]
def headNone : List Byte := [0, 0, 0, 0, 0, 0, 0]

theorem witness_FramersAlign :
    (FasMatches (.port 0) headFas (framer {}) ∧ FasMatches (.flow 1 0) headFas (inFrame {}) ∧ NoFas headNone) ∧
    (Running State.reset ∧ State.reset.dev.alignOn (.port 0) = false) ∧
    (Running (framer {}) ∧ (framer {}).dev.alignOn (.port 0) = true ∧ ((framer {}).dev.aligner (.port 0)).state ≠ 3 ∧
      ((framer {}).dev.aligner (.port 0)).cands.find? (fun c => c.offset == 0) = none ∧
      0 ∉ ((framer {}).dev.aligner (.port 0)).barred ∧ ((framer {}).dev.aligner (.port 0)).cands.length < 16) ∧
    (((framer { cands := cands16 }).dev.alignOn (.port 0)) = true ∧
      ((framer { cands := cands16 }).dev.aligner (.port 0)).cands.find? (fun c => c.offset == 0) = none ∧
      16 ≤ ((framer { cands := cands16 }).dev.aligner (.port 0)).cands.length) ∧
    ((inFrame {}).dev.alignOn (.flow 1 0) = true ∧ (inFrame {}).dev.alignOn (.port 0) = true ∧
      ((inFrame {}).dev.aligner (.port 0)).state = 3) ∧
    ((checking [some 3, some 4]).dev.alignOn (.port 0) = true ∧
      ((checking [some 3, some 4]).dev.aligner (.port 0)).check = some (1, [some 3, some 4]) ∧
      confirmed ([some 3, some 4] ++ [some 5]) = true ∧ confirmed ([some 3, some 4] ++ [none]) = false ∧
      ((checking [some 3, some 4]).dev.aligner (.port 0)).check.map (·.1) ≠ some 0) ∧
    (Running (checking (List.replicate 5 none)) ∧
      ((checking (List.replicate 5 none)).dev.aligner (.port 0)).check = some (1, List.replicate 5 none)) ∧
    (((inFrame { misses := 5 }).dev.aligner (.port 0)).state = 3 ∧
      (inFrame { misses := 5 }).dev.get (Fld.FRM_x_OTU_CTL.N_OUT 0) ≤ ((inFrame { misses := 5 }).dev.aligner (.port 0)).misses) := by
  decide +kernel

theorem witness_AlarmsAndOverheadFollowTheirRules :
    (Running (inFrame { mismatches := 5 }) ∧ ((inFrame { mismatches := 5 }).dev.aligner (.port 0)).state = 3 ∧
      ((inFrame { mismatches := 5 }).dev.aligner (.port 0)).oom = false) ∧
    (Running (inFrame { oom := true, follow := 2 }) ∧ ((inFrame { oom := true, follow := 2 }).dev.aligner (.port 0)).oom = true) ∧
    (framing.dev.frmRxOn 0 = true ∧ (framing.dev.flowOf 1).isSome = true ∧ framing.dev.ohInFrame (.smBdi 0 true) = false) ∧
    (Running bdiTwo ∧ bdiTwo.dev.ohInFrame (.smBdi 0 true) = true ∧
      bdiTwo.dev.frm.filters.find? (fun e => e.1 == ohKey (.smBdi 0 true)) = some (ohKey (.smBdi 0 true), (.smBdi 0 true, 2)) ∧
      2 + 1 < ohPersistence (.smBdi 0 true)) ∧
    (bdiFour.dev.ohInFrame (.smBdi 0 true) = true ∧ ohPersistence (.smBdi 0 true) ≤ 4 + 1 ∧
      bdiFour.dev.frm.filters.find? (fun e => e.1 == ohKey (.smBdi 0 true)) = some (ohKey (.smBdi 0 true), (.smBdi 0 true, 4))) ∧
    (bdiFour.dev.get (Fld.FRM_FLOW_STATUS.ALIGN 1) = 3 ∧ (bdiFour.dev.flowOf 1).isSome = true ∧
      bdiFour.dev.reg (Reg.FRM_FLOW_APS_RX 1) = 0 ∧
      bdiFour.dev.frm.aps.find? (fun e => e.1 == 1) = some (1, { cand := 7, count := 2 }) ∧
      bdiFour.dev.get (Fld.FRM_FLOW_CTL.APS_N 1) ≤ 2 + 1) := by
  decide +kernel

theorem witness_SlotPagesCopyAndSwap :
    (Writable .trusted 5 pageReady ∧ (pageReady.dev.swapPending 0 || pageReady.dev.copyPending 0) = false ∧
      pageReady.dev.swapOk 0 = true) ∧
    (Writable .trusted 5 (pagePending 0) ∧ (pagePending 0).dev.swapPending 0 = true) ∧
    (Running (pagePending 4) ∧ (pagePending 4).dev.copyPending 0 = true ∧ (pagePending 4).dev.swapPending 0 = false) ∧
    (Writable .trusted 5 pageBad ∧ pageBad.dev.swapPending 0 = false ∧ pageBad.dev.swapOk 0 = false) := by
  decide +kernel

/-! ### Payload encryption -/

/-- Flow 1 encrypts on port A; its slot A is READY. -/
def encrypting : State := dev (fun d => flds [(Fld.CRY_KS_STATE.STATE 0, 1), (Fld.CRY_KS_STATE.ROLE 0, 1), (Fld.CRY_FLOW_STATUS.TX_SLOT 1, 2), (Fld.CRY_FLOW_CTL.SIZE 1, 0)]
  (regs [(Reg.STR_ACTIVE, 8)] { d with str := { active := [(3, body [] [{ flow := 1, home := 0, encrypt := true, isProtected := false, slots := 1, ctype := 0x10 }])] } }))

/-- The same flow without a usable slot. -/
def noKey : State := { encrypting with dev := flds [(Fld.CRY_KS_STATE.STATE 0, 0)] encrypting.dev }

/-- The same flow with an accepted AIS. -/
def aisSeen : State := { encrypting with dev := flds [(Fld.FRM_FLOW_STATUS.AIS 1, 1)] encrypting.dev }

/-- A frame of that flow; its header names a block of one frame under slot A. -/
def frame1 : OduFrame := { stat := 1, overhead := [0, 0, 0, 0, 1] ++ List.replicate 43 0, payload := [] }

/-- A frame of ODU-AIS. -/
def aisFrame : OduFrame := { frame1 with stat := 7 }

/-- Job queue 0 is bound to queue 5, which holds one descriptor of these bytes at address 0x600000. -/
def jobReady (desc : List (Nat × Byte)) : State :=
  { State.reset with
    hbm := { cells := desc.map (fun e => (0x600000 + e.1, e.2)) }
    dev := flds [(Fld.CRY_JOBQ_CTL.EN 0, 1), (Fld.CRY_JOBQ_CTL.QUEUE 0, 5), (Fld.RMS_Q_DESC0.TYPE 5, 3), (Fld.CRY_KS_STATE.STATE 8, 1)]
      (regs [(Reg.RMS_Q_TAIL_LO 5, 1)] { State.reset.dev with rms := { queues := [(5, { region := 0, pages := [{ lpage := 0, phys := 3 }] })] } }) }

/-- A descriptor of operation op: slot 8, 64 bytes from 0x800000 to the same place. -/
def jobDesc (op : Byte) : List (Nat × Byte) := [(0, op), (2, 8), (4, 64), (10, 0x80), (18, 0x80)]

/-- A job that has failed its tag runs on job queue 0. -/
def jobRuns : State :=
  { jobReady [] with dev := { (jobReady []).dev with cry := { jobs := [(0, { queue := 5, desc := 0x600000, status := 7 })] } } }

theorem witness_BlocksAreEncrypted :
    (Running State.reset ∧ State.reset.dev.eIndex 1 = none) ∧
    (Encrypting 1 0 encrypting ∧ (∀ w ∈ [aisFrame], odMaint w = true) ∧ ∀ w ∈ [frame1], odMaint w = false) ∧
    (Encrypting 1 0 noKey ∧ noKey.dev.chooseSlot 1 0 = (none, false)) ∧
    ([frame1].length = 2 ^ encrypting.dev.get (Fld.CRY_FLOW_CTL.SIZE 1) ∧
      encrypting.dev.chooseSlot 1 0 = (some 0, false)) := by
  decide +kernel

theorem witness_BlocksAreDecryptedOrRejected :
    (Encrypting 1 0 aisSeen ∧ [aisFrame, frame1].any odMaint = true ∧ aisSeen.dev.maintAccepted 1 = true) ∧
    (Encrypting 1 0 encrypting ∧ encrypting.dev.maintAccepted 1 = false) ∧
    (((frame1 :: []).any odMaint || odMaint frame1) = false) := by
  decide +kernel

theorem witness_CryptoJobsAndRandomness :
    (Working 6 State.reset ∧ State.reset.dev.nextJobQueue = none) ∧
    (Working 6 (jobReady []) ∧ (jobReady []).dev.nextJobQueue = some 0 ∧
      (jobReady []).dev.qAddr ((jobReady []).dev.jobQueue 0) (64 * (jobReady []).dev.qCons ((jobReady []).dev.jobQueue 0)) =
        some 0x600000 ∧
      (jobReady []).dev.jobErrors ((jobReady []).hbm.readBytes 0x600000 64) ≠ []) ∧
    ((jobReady (jobDesc 2)).dev.nextJobQueue = some 0 ∧
      (jobReady (jobDesc 2)).dev.qAddr 5 (64 * (jobReady (jobDesc 2)).dev.qCons 5) = some 0x600000 ∧
      (jobReady (jobDesc 2)).dev.jobErrors ((jobReady (jobDesc 2)).hbm.readBytes 0x600000 64) = [] ∧
      leAt ((jobReady (jobDesc 2)).hbm.readBytes 0x600000 64) 0 1 = 2) ∧
    ((jobReady (jobDesc 1)).dev.jobErrors ((jobReady (jobDesc 1)).hbm.readBytes 0x600000 64) = [] ∧
      leAt ((jobReady (jobDesc 1)).hbm.readBytes 0x600000 64) 0 1 = 1) ∧
    (jobRuns.dev.cry.jobs.find? (fun e => e.1 == 0) = some (0, { queue := 5, desc := 0x600000, status := 7 })) := by
  decide +kernel


/-! ### Hitless merge and host lanes -/

/-- Flow 1 is protected, its P path comes over Horug link 0, which runs or not; queue 7 is its merge buffer. -/
def merging (run : Nat) (l : List (Fld × Nat)) (m : MergeFlow) : State :=
  dev (fun d => flds ([(⟨Reg.STR_ACTIVE, 31, 0⟩, 8), (Fld.CHN_LINK_STATUS.RUN 0, run), (Fld.MRG_FLOW_QUEUE.EN 1, 1), (Fld.MRG_FLOW_QUEUE.QUEUE 1, 7),
      (Fld.RMS_Q_DESC0.TYPE 7, 4), (Fld.RMS_Q_DESC1.QUOTA 7, 10)] ++ l)
    { d with str := { active := [(3, body [{ level := 3, src := 0xE00, srcInst := 1, sink := 0x702, sinkInst := 1 }]
        [{ flow := 1, home := 0, encrypt := false, isProtected := true, slots := 1, ctype := 0xF0 }])] }
             mrg := { flows := [(1, m)] } })

/-- A frame whose number is 5. -/
def copy5 : OduFrame := { stat := 1, overhead := [0, 0, 0, 5], payload := [] }

/-- Two held copies, the later one first. -/
def heldCopies : List HeldFrame := [⟨6, 1, 3, copy5⟩, ⟨5, 0, 2, copy5⟩]

/-- Path P with a last number 4 and a run of valid copies. -/
def pRun (n : Nat) : MergeFlow := { p := { prev := some 4, run := n } }

/-- Octet 0 enabled and locked, lane 0 with a role and in a state. -/
def lane (role st : Nat) (l : List (Fld × Nat)) : State :=
  dev (fun d => (flds ([(Fld.HST_OCTET_CTL.EN 0, 1), (Fld.HST_LANE_CTL.ROLE 0, role), (Fld.HST_LANE_STATUS.STATE 0, st)] ++ l)
    (regs [(Reg.STR_ACTIVE, 0xFF)] d)).setBit Reg.HST_OCTET_STATUS 0)

/-- A spill lane that is UP with frame lock and a partner. -/
def spillUp : State := lane 2 3 [(Fld.HST_TSU_STATUS.FRAME_LOCK 0, 1), (Fld.HST_TSU_STATUS.PARTNER 0, 1)]

/-- A Tsucor frame of a kind with 64 bytes of data, as it arrives. -/
def tsuFrame (kind : Nat) : List Byte := TsuFrame.bytes { kind := kind, len := 32, data := List.replicate 32 1 }

/-- A lane's state beside its registers. -/
def withLane (v : LaneState) (s : State) : State := { s with dev := s.dev.setHl 0 v }

/-- The 2 lanes of an Ethernet client that trains, both in TRAIN; lane 1 is ready or not. -/
def trainingPair (ready : Bool) : State :=
  let s := lane 1 2 [(Fld.HST_CLIENT_CTL.TYPE 0, 1), (Fld.HST_CLIENT_CTL.LT_EN 0, 1), (Fld.HST_LANE_CTL.ROLE 1, 1),
    (Fld.HST_LANE_STATUS.STATE 1, 2)]
  { s with dev := s.dev.setHl 1 { ready := ready } }

/-- The bits of PRBS9 after nine ones, 1,024 of them, with the ones that seed them. -/
def prbs9Bits : List Bool := List.replicate 9 true ++ prbsRun 0 511 1024

/-- Path P acquiring after n valid copies, and path W absent. -/
def acquiring (n : Nat) : State := merging 1 [(fldState 1 .pathP, 1)] (pRun n)

/-- The output anchored at a number, with the two held copies. -/
def anchoredAt (n : Nat) : State :=
  merging 1 [(fldState 1 .pathP, 2), (Fld.MRG_FLOW_STATUS.ANCHORED 1, 1), (⟨Reg.MRG_FLOW_OUTSQ 1, 31, 0⟩, n)] { held := heldCopies }

theorem witness_CopiesAreNumberedCheckedAndServed :
    (Working 7 State.reset ∧ State.reset.dev.protectedFlow 1 = none) ∧
    (Working 7 (acquiring 31) ∧ ((acquiring 31).dev.protectedFlow 1).isSome = true ∧ (acquiring 31).dev.relay 1 = false) ∧
    ((merging 1 [(Fld.MRG_FLOW_CTL.MODE 1, 1)] {}).dev.relay 1 = true) ∧
    ((acquiring 31).dev.protectedFlow 1 = some { flow := 1, home := 0, encrypt := false, isProtected := true, slots := 1, ctype := 0xF0 } ∧
      (acquiring 31).dev.hasJoin 1 .pathP = true ∧ ((acquiring 31).dev.mf 1).held = [] ∧ (acquiring 31).dev.pathState 1 .pathP = 1 ∧
      (acquiring 31).dev.copyFails { flow := 1, home := 0, encrypt := false, isProtected := true, slots := 1, ctype := 0xF0 } 1 .pathP copy5
        false = none ∧ 31 ≤ (((acquiring 31).dev.mf 1).path .pathP).run) ∧
    ((acquiring 30).dev.copyFails { flow := 1, home := 0, encrypt := false, isProtected := true, slots := 1, ctype := 0xF0 } 1 .pathP copy5
        false = none ∧ (((acquiring 30).dev.mf 1).path .pathP).run < 31 ∧
      (acquiring 30).dev.copyFails { flow := 1, home := 0, encrypt := false, isProtected := true, slots := 1, ctype := 0xF0 } 1 .pathP copy5
        true = some 1) ∧
    ((acquiring 31).dev.anchored 1 = false) ∧
    (Working 7 (anchoredAt 4) ∧ (anchoredAt 4).dev.anchored 1 = true ∧
      ((anchoredAt 4).dev.mf 1).held.find? (fun h => h.sq == (anchoredAt 4).dev.nOut 1) = none) ∧
    ((anchoredAt 5).dev.inReset 9 = false ∧
      ((anchoredAt 5).dev.mf 1).held.find? (fun h => h.sq == (anchoredAt 5).dev.nOut 1) = some ⟨5, 0, 2, copy5⟩) := by
  decide +kernel

/-- Path P in a state, path W OK, the two held copies, the link running or not. -/
def pathIn (run st : Nat) : State := merging run [(fldState 1 .pathP, st), (fldState 1 .pathW, 2)] { held := heldCopies }

theorem witness_PathsFailRecoverAndAnchor :
    (Working 7 (pathIn 1 1) ∧ (pathIn 1 1).dev.pathState 1 .pathP ≠ 2) ∧
    ((pathIn 1 2).dev.pathState 1 .pathP = 2) ∧
    (Working 7 (pathIn 0 2) ∧ (pathIn 0 2).dev.signalFail 1 .pathP = true ∧ (pathIn 0 1).dev.pathState 1 .pathP = 1) ∧
    ((pathIn 1 3).dev.signalFail 1 .pathP = false ∧ (pathIn 1 3).dev.forceAllows 1 .pathP = true ∧ (pathIn 1 3).dev.pathState 1 .pathP = 3) ∧
    ((pathIn 1 2).dev.protectedFlow 1 = some { flow := 1, home := 0, encrypt := false, isProtected := true, slots := 1, ctype := 0xF0 } ∧
      earliest ((pathIn 1 2).dev.mf 1).held = some ⟨5, 0, 2, copy5⟩ ∧ (pathIn 1 2).dev.relay 1 = false ∧
      (pathIn 1 2).dev.delayMaxBits { flow := 1, home := 0, encrypt := false, isProtected := true, slots := 1, ctype := 0xF0 } ≠ 0 ∧
      (pathIn 1 2).dev.anchored 1 = false ∧ (pathIn 1 2).dev.pathState 1 .pathW = 2 ∧ (pathIn 1 1).dev.someOk 1 = true) ∧
    (Writable .trusted 7 State.reset ∧ State.reset.dev.protectedFlow 1 = none ∧ Writable .trusted 7 (pathIn 1 2) ∧
      ((pathIn 1 2).dev.protectedFlow 1).isSome = true) ∧
    ((pathIn 1 3).dev.get (fldClass 1 .pathP) = 0) := by
  decide +kernel

theorem witness_LanesTrainAndComeUp :
    (Writable .trusted 8 (lane 0 1 []) ∧ Working 8 (lane 0 1 []) ∧ (lane 0 1 []).dev.octetEn 0 = true ∧
      (lane 0 1 []).dev.octetLocked 0 = true ∧
      ((lane 0 1 []).dev.storeRw (Reg.HST_OCTET_CTL 0) 0).octetEn 0 ≠ (lane 0 1 []).dev.octetEn 0) ∧
    ({ lane 0 1 [] with dev := regs [(Reg.HST_OCTET_STATUS, 0)] (lane 0 1 []).dev }.dev.octetLocked 0 = false) ∧
    ((lane 1 1 []).dev.laneState 0 = 1 ∧ ((lane 1 1 []).dev.hl 0).retry = false ∧ (lane 1 1 []).dev.octetLocked (0 / 8) = true) ∧
    ((lane 1 3 []).dev.laneState 0 = 3 ∧ (lane 1 3 []).dev.laneState 0 ≠ 2) ∧
    ((lane 3 2 []).dev.laneState 0 = 2 ∧ (lane 3 2 []).dev.laneRole 0 = 3) ∧
    (Working 8 (trainingPair true) ∧ (trainingPair true).dev.laneState 0 = 2 ∧
      (∀ m ∈ (trainingPair true).dev.trainsWith 0, m ≠ 0 →
        (trainingPair true).dev.laneUp m = true ∨ ((trainingPair true).dev.hl m).ready = true) ∧
      (∃ m ∈ (trainingPair false).dev.trainsWith 0, m ≠ 0 ∧ (trainingPair false).dev.laneUp m = false ∧
        ((trainingPair false).dev.hl m).ready = false)) ∧
    (({} : LaneEq).fir.length = 6 ∧ firSum ({} : LaneEq).fir ≤ 64 ∧ ((lane 1 1 []).dev.hl 0).firAt = none ∧
      firSum (((lane 1 1 []).dev.firTaps 0).take 4 ++ [toSigned 8 (0 : Word).toNat, toSigned 8 ((0 : Word).toNat / 256)]) ≤ 64) ∧
    (Working 8 (lane 3 1 [(Fld.HST_LANE_STATUS.SD 0, 1)]) ∧ (lane 3 1 [(Fld.HST_LANE_STATUS.SD 0, 1)]).dev.laneState 0 = 1 ∧
      (lane 3 1 [(Fld.HST_LANE_STATUS.SD 0, 1)]).dev.get (Fld.HST_LANE_STATUS.SD 0) = 1 ∧
      (lane 3 1 [(Fld.HST_LANE_STATUS.SD 0, 1)]).dev.trains 0 = true) ∧
    ((lane 1 1 []).dev.get (Fld.HST_LANE_STATUS.SD 0) = 0 ∧ (0x7FFFFFFF : Word).getLsbD 31 = false) ∧
    (firSum [toSigned 8 (64 : Word).toNat, toSigned 8 ((64 : Word).toNat / 256), toSigned 8 ((64 : Word).toNat / 256 ^ 2),
      toSigned 8 ((64 : Word).toNat / 256 ^ 3), (lane 1 1 []).dev.getInt (Fld.HST_LANE_TX_FIR1.CP1 0),
      (lane 1 1 []).dev.getInt (Fld.HST_LANE_TX_FIR1.CP2 0)] ≤ 64) := by
  decide +kernel

/-- A lane in PRBS with its checker enabled, locked or not. -/
def prbsLane (lock : Nat) : State := lane 2 4 [(Fld.HST_LANE_PRBS_CTL.CHK_EN 0, 1), (Fld.HST_LANE_PRBS_CTL.CHK_PAT 0, 0),
  (Fld.HST_LANE_STATUS.PRBS_LOCK 0, lock)]

theorem witness_ClientsCheckersAndSpillLinks :
    (Working 8 (prbsLane 0) ∧ (prbsLane 0).dev.laneState 0 = 4 ∧ (prbsLane 0).dev.get (Fld.HST_LANE_PRBS_CTL.CHK_EN 0) = 1 ∧
      (prbsLane 0).dev.get (Fld.HST_LANE_STATUS.PRBS_LOCK 0) = 0 ∧
      prbsLocks ((prbsLane 0).dev.get (Fld.HST_LANE_PRBS_CTL.CHK_PAT 0)) ((prbsLane 0).dev.isSet (Fld.HST_LANE_PRBS_CTL.CHK_INV 0))
        prbs9Bits = true ∧ prbsLocks 0 false [] = false) ∧
    ((⟨511, 0⟩ : PrbsErrs).window < 512 ∧ 512 ≤ (⟨512, 512⟩ : PrbsErrs).window) ∧
    ((withLane { good := 3 } (lane 2 3 [])).dev.laneRole 0 = 2 ∧ (withLane { good := 3 } (lane 2 3 [])).dev.laneUp 0 = true ∧
      3 ≤ ((withLane { good := 3 } (lane 2 3 [])).dev.hl 0).good ∧ (spillUp.dev.hl 0).badSync < 8 ∧
      8 ≤ ((withLane { badSync := 8 } spillUp).dev.hl 0).badSync) ∧
    ((prbsLane 1).dev.get (Fld.HST_LANE_STATUS.PRBS_LOCK 0) = 1 ∧ Writable .trusted 8 (prbsLane 1)) ∧
    (isEthernet ((prbsLane 0).dev.clientType 0) = false ∧
      isEthernet ((lane 1 3 [(Fld.HST_CLIENT_CTL.TYPE 0, 1)]).dev.clientType 0) = true) ∧
    (Working 8 spillUp ∧ spillUp.dev.laneRole 0 = 2 ∧ spillUp.dev.laneUp 0 = true ∧
      (lane 2 3 []).dev.get (Fld.HST_TSU_STATUS.FRAME_LOCK 0) = 0 ∧ spillUp.dev.get (Fld.HST_TSU_STATUS.FRAME_LOCK 0) = 1) ∧
    (tsuCrcOk (List.replicate 543 0) = false) ∧ (tsuParse (tsuFrame 6)).kind = 6 ∧ 7 ≤ (tsuParse (tsuFrame 7)).kind ∧
    (spillUp.dev.get (Fld.HST_TSU_STATUS.PARTNER 0) = 1) := by
  decide +kernel

/-- The CRC of the frames in the witness above holds. -/
theorem witness_tsuCrc (kind : Nat) : tsuCrcOk (tsuFrame kind) = true := tsuCrcOk_bytes _


/-! ### Ringmaster -/

/-- Queue 5 of a type, quota 2, with further fields, its hidden part, and a further change of block RMS. -/
def queue (ty : Nat) (l : List (Fld × Nat)) (v : QueueSt) (f : RmsState → RmsState) : State :=
  dev (fun d => flds ([(Fld.RMS_Q_DESC0.TYPE 5, ty), (Fld.RMS_Q_DESC1.QUOTA 5, 2)] ++ l)
    { d with rms := f { d.rms with queues := [(5, v)] } })

/-- A queue with its first page resident and 8 granules written. -/
def filled (ty : Nat) (l : List (Fld × Nat)) (f : RmsState → RmsState) : State :=
  queue ty ([(⟨Reg.RMS_Q_TAIL_LO 5, 31, 0⟩, 8), (⟨Reg.RMS_Q_CONS_LO 5, 31, 0⟩, 8)] ++ l)
    { region := 3, pages := [{ lpage := 0, phys := 7 }], wb := 512 } f

/-- DMA channel 3 on queue 5 with a job, one way or the other. -/
def channel (dir prod : Nat) (j : List (Nat × DmaJob)) : State :=
  filled 2 [(Fld.RMS_DMA_CTL.EN 3, 1), (Fld.RMS_DMA_CTL.RING_LOG2 3, 4), (Fld.RMS_DMA_CTL.QUEUE 3, 5), (Fld.RMS_DMA_CTL.DIR 3, dir),
    (Fld.RMS_DMA_PROD.PROD 3, prod)] (fun r => { r with jobs := j })

/-- A descriptor of n bytes at an address. -/
def job (n : Nat) (waiting : Bool) (e : Option Nat) : DmaJob :=
  { addr := 0x1000, len := n, irq := true, shortOk := false, waiting := waiting, error := e }

/-- Queue 5 with a reservation and tokens, one operation in flight on pseudo-channel 0. -/
def serving : State :=
  queue 2 [(Fld.RMS_Q_DESC3.RATE_W 5, 10)] { region := 3 } (fun r => { r with
    buckets := [(10, (28 * 8192, 0)), (11, (28 * 8192, 0))], pcs := [(0, { inflight := 1 })] })

/-- Window 0 on queue 5, whose first page is resident with 8 granules written. -/
def windowed : State :=
  filled 2 [(Fld.SEC_BOOT_STATUS.STAGE, 4), (Fld.RMS_WIN_CTL.MODE 0, 2), (Fld.RMS_WIN_CTL.QUEUE 0, 5)] id

/-- DMA channel 3 reads over the end of a resident page into an external one. -/
def crossing : State :=
  queue 2 [(⟨Reg.RMS_Q_HEAD_LO 5, 31, 0⟩, 32764), (⟨Reg.RMS_Q_TAIL_LO 5, 31, 0⟩, 32772), (⟨Reg.RMS_Q_CONS_LO 5, 31, 0⟩, 32772),
    (Fld.RMS_DMA_CTL.EN 3, 1), (Fld.RMS_DMA_CTL.RING_LOG2 3, 4), (Fld.RMS_DMA_CTL.QUEUE 3, 5), (Fld.RMS_DMA_PROD.PROD 3, 1)]
    { region := 3, pages := [{ lpage := 0, phys := 7 }], wb := 64 * 32772 } (fun r => { r with jobs := [(3, job 512 false none)] })

/-- Pseudo-channel 0 with 256 operations in flight. -/
def full256 : State :=
  queue 2 [(Fld.RMS_Q_DESC3.RATE_W 5, 10)] { region := 3 } (fun r => { r with pcs := [(0, { inflight := 256 })] })

/-- A queue whose load is more than the HBM's. -/
def overloaded : State := queue 2 [(Fld.RMS_Q_DESC3.RATE_W 5, 4000)] { region := 3 } id

/-- Group 2 is forwarded on lane 3, whose link runs. -/
def forwarding : State :=
  dev (fun d => flds [(Fld.HST_OCTET_CTL.EN 0, 1), (Fld.HST_LANE_CTL.ROLE 3, 2), (Fld.HST_LANE_CTL.GROUP 3, 2), (Fld.CHN_SPILL_MAP.EN 2, 1),
    (Fld.CHN_LINK_STATUS.RUN 0, 1)] (regs [(Reg.STR_ACTIVE, 0x80), (Reg.CHN_CTL, 1)] d))

theorem witness_DoorbellsAndWindows :
    (Writable .trusted 9 State.reset ∧ State.reset.dev.qType 5 = 0) ∧
    (Writable .trusted 9 (queue 1 [] { region := 3 } id) ∧ (queue 1 [] { region := 3 } id).dev.qType 5 = 1) ∧
    ((filled 2 [] id).dev.qHead 5 + pageGranules * (filled 2 [] id).dev.qQuota 5 < (filled 2 [] id).dev.qTail 5 + (65529 : BitVec 24).toNat) ∧
    (Writable .trusted 9 (filled 2 [] id) ∧ (filled 2 [] id).dev.qType 5 = 2 ∧
      (filled 2 [] id).dev.qTail 5 + (65528 : BitVec 24).toNat ≤ (filled 2 [] id).dev.qHead 5 + pageGranules * (filled 2 [] id).dev.qQuota 5 ∧
      (filled 2 [] id).dev.canTake 5 ((filled 2 [] id).dev.missingPages 5 ((filled 2 [] id).dev.qTail 5 * 64)
        (((filled 2 [] id).dev.qTail 5 + (65528 : BitVec 24).toNat) * 64)).length = true) ∧
    ((filled 2 [] id).dev.qCons 5 < (filled 2 [] id).dev.qHead 5 + (9 : BitVec 24).toNat ∧
      (filled 2 [] id).dev.qHead 5 + (8 : BitVec 24).toNat ≤ (filled 2 [] id).dev.qCons 5) ∧
    (Running State.reset ∧ State.reset.dev.reaches (windowReq 0) 9 = false ∧ (atStage 4).dev.reaches (windowReq 0) 9 = true ∧
      Running (atStage 4) ∧ (atStage 4).dev.get (Fld.RMS_WIN_CTL.MODE 0) ≠ 1 ∧ (atStage 4).dev.get (Fld.RMS_WIN_CTL.MODE 0) ≠ 2) ∧
    (windowed.dev.reaches (windowReq 0) 9 = true ∧ Writable (windowReq 0) 9 windowed ∧ windowed.dev.get (Fld.RMS_WIN_CTL.MODE 0) = 2 ∧
      windowed.dev.winReadable 5 (64 * windowed.dev.winBase 0 + 512) = false ∧
      ⟨0, 7, false, none, []⟩ ∈ (windowed.dev.q (windowed.dev.get (Fld.RMS_WIN_CTL.QUEUE 0))).pages ∧
      (windowed.dev.q 5).pages.find? (fun p => p.lpage == (64 * windowed.dev.winBase 0 + 0) / pageBytes) = some ⟨0, 7, false, none, []⟩ ∧
      (64 * windowed.dev.winBase 0 + 0) % pageBytes + [1#8].length ≤ pageBytes ∧
      windowed.dev.winMayAlloc 5 (64 * windowed.dev.winBase 0 + 0) = false ∧ windowed.canonical ∧ windowed.dev.rms.freed = []) ∧
    (Writable (windowReq 0) 9 (atStage 4) ∧ (atStage 4).dev.get (Fld.RMS_WIN_CTL.MODE 0) = 0) ∧
    (Writable (windowReq 0) 9 { (atStage 4) with dev := (atStage 4).dev.put (Fld.RMS_WIN_CTL.MODE 0) 1 } ∧
      ((atStage 4).dev.put (Fld.RMS_WIN_CTL.MODE 0) 1).get (Fld.RMS_WIN_CTL.MODE 0) = 1) := by
  decide +kernel

theorem witness_HostDmaMovesDescriptors :
    (Writable .trusted 9 (channel 0 0 []) ∧
      ((16 : BitVec 16).toNat + 65536 - (channel 0 0 []).dev.get (Fld.RMS_DMA_STATUS.CONS 3)) % 65536 ≤
        2 ^ (channel 0 0 []).dev.get (Fld.RMS_DMA_CTL.RING_LOG2 3) ∧
      2 ^ (channel 0 0 []).dev.get (Fld.RMS_DMA_CTL.RING_LOG2 3) <
        ((17 : BitVec 16).toNat + 65536 - (channel 0 0 []).dev.get (Fld.RMS_DMA_STATUS.CONS 3)) % 65536) ∧
    (Working 9 (channel 0 0 []) ∧ (channel 0 0 []).dev.rms.jobs.find? (fun e => e.1 == (3 : Fin 64).val) = none ∧
      (channel 0 0 []).dev.get (Fld.RMS_DMA_PROD.PROD 3) = (channel 0 0 []).dev.get (Fld.RMS_DMA_STATUS.CONS 3)) ∧
    ((channel 0 1 []).dev.get (Fld.RMS_DMA_CTL.EN 3) = 1 ∧
      (channel 0 1 []).dev.get (Fld.RMS_DMA_PROD.PROD 3) ≠ (channel 0 1 []).dev.get (Fld.RMS_DMA_STATUS.CONS 3)) ∧
    ((channel 0 1 [(3, job 64 true none)]).dev.rms.jobs.find? (fun e => e.1 == (3 : Fin 64).val) = some (3, job 64 true none)) ∧
    ((channel 0 1 [(3, job 64 false (some 2))]).dev.rms.jobs.find? (fun e => e.1 == (3 : Fin 64).val) = some (3, job 64 false (some 2))) ∧
    (Working 9 (channel 0 1 [(3, job 512 false none)]) ∧ (channel 0 1 [(3, job 512 false none)]).dev.dmaFrom 3 = false ∧
      (job 512 false none).overtaken = false ∧
      (job 512 false none).len - (job 512 false none).done ≤
        (channel 0 1 [(3, job 512 false none)]).dev.qLegible ((channel 0 1 [(3, job 512 false none)]).dev.dmaQueue 3) ∧
      (channel 0 1 [(3, job 512 false none)]).dev.qPresent 5 ((channel 0 1 [(3, job 512 false none)]).dev.qHead 5 * 64) 512 = 512 ∧
      (channel 0 1 [(3, job 512 false none)]).dev.qBad 5 ((channel 0 1 [(3, job 512 false none)]).dev.qHead 5 * 64) 512 = false) ∧
    ((channel 1 1 [(3, job 64 false none)]).dev.dmaFrom 3 = true ∧ (channel 1 1 [(3, job 64 false none)]).dev.dmaWaits 3 (job 64 false none) = false ∧
      (channel 1 1 [(3, job 8388608 false none)]).dev.dmaFrom 3 = true ∧
      (channel 1 1 [(3, job 8388608 false none)]).dev.dmaWaits 3 (job 8388608 false none) = true) ∧
    ((crossing.dev.rms.jobs.find? (fun e => e.1 == (3 : Fin 64).val) = some (3, job 512 false none)) ∧
      crossing.dev.qPresent 5 (crossing.dev.qHead 5 * 64) 512 = 256 ∧ 512 ≤ crossing.dev.qLegible 5 ∧
      crossing.dev.qBad 5 (crossing.dev.qHead 5 * 64) 256 = false) := by
  decide +kernel

theorem witness_OperationsAndGrants :
    Working 9 serving ∧ Writable .trusted 9 serving ∧
    (Sparse.get {} serving.dev.rms.pcs (0 : Fin 16).val : PseudoChannel).inflight - 0 < 256 ∧
    256 ≤ (Sparse.get {} full256.dev.rms.pcs (0 : Fin 16).val : PseudoChannel).inflight - 0 ∧
    (serving.dev.rmsGlobal.guaranteedPick (serving.dev.rmsGlobal.hbmWaiting 0 [⟨.queue 5, 0, true⟩])
      { (Sparse.get {} serving.dev.rms.pcs (0 : Fin 16).val : PseudoChannel) with inflight := 1 }) =
        some (3, ⟨.queue 5, 0, true⟩) ∧
    ((serving.dev.hbmClaims.filter (fun _ => true)).map (·.load)).sum ≤ serving.dev.get Fld.RMS_ADM_LIMIT.LIMIT ∧
    ((serving.dev.hbmClaims.filter (fun c => c.kind == 2)).map (·.load)).sum ≤ serving.dev.get Fld.RMS_TR_CAP.CAP ∧
    overloaded.dev.get Fld.RMS_ADM_LIMIT.LIMIT < ((overloaded.dev.hbmClaims.filter (fun _ => true)).map (·.load)).sum ∧
    forwarding.dev.groupForwarded (2 : Fin 16).val = true := by
  decide +kernel


/-! ### Carousels, paging, spill queues -/

/-- Queue 5 of a type, quota 2, with further fields, its hidden part, a further change of block RMS, and lane 0 a spill lane
that is UP, its partner able to store pages. -/
def pager (ty : Nat) (l : List (Fld × Nat)) (v : QueueSt) (f : RmsState → RmsState) : State :=
  dev (fun d => (flds ([(Fld.RMS_Q_DESC0.TYPE 5, ty), (Fld.RMS_Q_DESC1.QUOTA 5, 4), (Fld.HST_OCTET_CTL.EN 0, 1),
      (Fld.HST_LANE_CTL.ROLE 0, 2), (Fld.HST_LANE_STATUS.STATE 0, 3), (Fld.HST_TSU_STATUS.FRAME_LOCK 0, 1),
      (Fld.HST_TSU_STATUS.PARTNER 0, 1), (Fld.HST_TSU_STATUS.PROLE 0, 3)] ++ l)
    (regs [(Reg.STR_ACTIVE, 0xFF)] { d with rms := f { d.rms with queues := [(5, v)] } })).setBit Reg.HST_OCTET_STATUS 0)

/-- A Carousel in a state. -/
def carousel (st : Nat) : State :=
  pager 1 [(Fld.RMS_Q_DESC0.CAROUSEL 5, 1), (Fld.RMS_Q_STATE.STATE 5, st), (⟨Reg.RMS_Q_TAIL_LO 5, 31, 0⟩, 8)]
    { region := 3, pages := [{ lpage := 0, phys := 7 }], wb := 512 } id

/-- A PAGE queue with two full pages and an external one, and given transfers and frames. -/
def paged (l : List (Fld × Nat)) (f : RmsState → RmsState) : State :=
  pager 2 ([(Fld.RMS_Q_DESC0.POLICY 5, 2), (⟨Reg.RMS_Q_DESC6 5, 31, 0⟩, 3), (Fld.RMS_PAGE_CTL.MAX_OUT, 4), (Fld.RMS_PAGE_CTL.RETRY, 1)] ++ l)
    { region := 3, ext := [{ lpage := 0, handle := 9 }],
      pages := [{ lpage := 1, phys := 7, full := true }, { lpage := 2, phys := 8, full := true }], wb := 3 * 2097152, sentOut := 1 } f

/-- An outstanding page-out and an outstanding page-in. -/
def outgoing : PageTransfer := { tag := 2, queue := 5, lpage := 1, handle := 10, out := true, phys := 7 }
/-- An outstanding page-in. -/
def incoming : PageTransfer := { tag := 3, queue := 5, lpage := 0, handle := 9, out := false, phys := 12 }
/-- A PAGE_ACK with a tag. -/
def ackFrame (tag : Nat) : TsuFrame := { kind := 5, tag := tag }
/-- A PAGE_DATA frame with a tag. -/
def pageFrame (tag : Nat) : TsuFrame := { kind := 4, tag := tag, offset := 2, data := [1, 2] }

/-- A spill queue with a record to send. -/
def egress : State := pager 5 [] { region := 3, egress := [List.replicate 600 1, [2]] } id

/-- Tap 0 capturing to queue 5. -/
def capturing : State :=
  pager 1 [(Fld.CAP_TAP_CTL.EN 0, 1), (Fld.CAP_TAP_STATUS.STATE 0, 1), (Fld.CAP_TAP_STATUS.DEST 0, 5), (Fld.RMS_Q_STATE.STATE 5, 2)]
    { region := 3 } id

/-- The same, with 64 bytes in the queue's page, and a record in progress or none. -/
def recording (r : Option OpenRecord) : State :=
  let s := pager 1 [(Fld.CAP_TAP_CTL.EN 0, 1), (Fld.CAP_TAP_STATUS.STATE 0, 1), (Fld.CAP_TAP_STATUS.DEST 0, 5), (Fld.RMS_Q_STATE.STATE 5, 2)]
    { region := 3, pages := [{ lpage := 0, phys := 7 }], wb := 64 } id
  { s with dev := s.dev.setTap 0 { record := r } }

/-- A capture whose span has not begun. -/
def late : State := { recording none with dev := (recording none).dev.setTap 0 { since := 5 } }

/-- SEQ 3 is missing, another frame is held. -/
def streaming (n : Nat) : State := pager 2 [] { region := 3, rxNext := some 3, rxHeld := [(n, some 0, [1])] } id

/-- A Carousel with an operation that waits. -/
def waitingOp : State := { carousel 3 with dev := { (carousel 3).dev with rms := { (carousel 3).dev.rms with waitOps := [(0, [5])] } } }

theorem witness_CarouselsArmTriggerAndStop :
    (Writable .trusted 9 (carousel 3) ∧ (carousel 3).dev.isCarousel 5 = true ∧ (carousel 3).dev.qState 5 = 3) ∧
    ((carousel 6).dev.qState 5 = 6 ∧ (carousel 4).dev.qState 5 = 4) ∧
    ((carousel 5).dev.qState 5 = 5 ∧ ((carousel 5).dev.q 5).trigPend = false ∧ (carousel 5).dev.tapsOf 5 = []) ∧
    (Writable .trusted 9 State.reset ∧ State.reset.dev.qType 5 = 0 ∧ (carousel 3).dev.qType 5 ≠ 0) ∧
    ((carousel 3).dev.qWaiting 5 = false ∧ (carousel 3).dev.held? 9 = false ∧ (carousel 3).dev.waitsForCommit (Reg.RMS_Q_DESC0 5) = false ∧
      (carousel 3).dev.tapsOf 5 = []) ∧
    (Writable .trusted 9 waitingOp ∧ waitingOp.dev.qType 5 ≠ 0 ∧ waitingOp.dev.tapsOf 5 = [] ∧ waitingOp.dev.qWaiting 5 = true) ∧
    (Writable .trusted 9 capturing ∧ capturing.dev.isCarousel 5 = false ∧ capturing.dev.qTakes 5 = true) ∧
    (Running capturing ∧ capturing.dev.inReset 9 = false) := by
  decide +kernel

/-- The PAGE queue above its watermark. -/
def pagingOut : State := paged [(Fld.RMS_Q_DESC2.WM_HI 5, 1)] id
/-- The PAGE queue with a page-out acknowledged. -/
def pagingAck (tag : Nat) : State := paged [] (fun r => { r with transfers := [outgoing], inbox := [ackFrame tag] })
/-- The PAGE queue with a page coming in after n frames. -/
def pagingIn (n : Nat) : State :=
  paged [] (fun r => { r with transfers := [{ incoming with got := List.replicate n 0 }], inbox := [pageFrame 3] })

theorem witness_PagesGoOutAndComeIn :
    (Working 9 pagingOut ∧ pagingOut.dev.qPolicy 5 = 2 ∧ pagingOut.dev.get (Fld.RMS_Q_STATE.PAGE_HALT 5) = 0 ∧
      pagingOut.dev.mayTransfer (pagingOut.dev.qGroup 5) = true ∧
      pagingOut.dev.get (Fld.RMS_Q_DESC2.WM_HI 5) < (pagingOut.dev.q 5).pages.length ∧
      pagingOut.dev.pageOutNext 5 = some { lpage := 1, phys := 7, full := true } ∧
      (pagingOut.dev.q 5).ext.length + (pagingOut.dev.rms.transfers.filter (fun t => t.out && t.queue == (5 : Fin 65536).val)).length <
        pagingOut.dev.extQuota 5) ∧
    (Working 9 (pagingAck 4) ∧ (pagingAck 4).dev.rms.inbox.find? (fun f => f.kind == 5) = some (ackFrame 4) ∧
      (pagingAck 4).dev.rms.transfers.find? (fun t => t.out && t.tag == (ackFrame 4).tag) = none) ∧
    ((pagingAck 2).dev.rms.inbox.find? (fun f => f.kind == 5) = some (ackFrame 2) ∧
      (pagingAck 2).dev.rms.transfers.find? (fun t => t.out && t.tag == (ackFrame 2).tag) = some outgoing ∧ (ackFrame 2).arg = 0) ∧
    ((pagingAck 2).dev.rms.transfers.find? (fun t => t.tag == (2 : BitVec 16).toNat) = some outgoing ∧
      ((pagingAck 2).dev.groupLanes ((pagingAck 2).dev.qGroup outgoing.queue) true).isEmpty = false ∧
      outgoing.tries < (pagingAck 2).dev.get Fld.RMS_PAGE_CTL.RETRY) ∧
    ((paged [(Fld.RMS_PAGE_CTL.RETRY, 0)] (fun r => { r with transfers := [outgoing] })).dev.get Fld.RMS_PAGE_CTL.RETRY ≤ outgoing.tries ∧
      outgoing.out = true) ∧
    ((pagingOut.dev.q 5).ext.find? (fun e => e.lpage == 0) = some { lpage := 0, handle := 9 } ∧
      (pagingOut.dev.q 5).cache.any (fun c => c.1 == 0) = false ∧
      pagingOut.dev.rms.transfers.any (fun t => !t.out && t.queue == (5 : Fin 65536).val && t.lpage == 0) = false ∧
      pagingOut.dev.canTake 5 1 = true ∧ pagingOut.dev.get (Fld.RMS_Q_DESC7.PREFETCH 5) = 0) ∧
    (Working 9 (pagingIn 0) ∧ (pagingIn 0).dev.rms.inbox.find? (fun f => f.kind == 4) = some (pageFrame 3) ∧
      (pagingIn 0).dev.rms.transfers.find? (fun t => !t.out && t.tag == (pageFrame 3).tag) = some incoming ∧
      (pageFrame 3).offset ∉ incoming.got) ∧
    (Writable .trusted 9 pagingOut) := by
  decide +kernel

/-- All but one frame of a page received. -/
theorem witness_lastPageFrame :
    ((pagingIn 4095).dev.rms.transfers.find? (fun t => !t.out && t.tag == (pageFrame 3).tag)) =
        some { incoming with got := List.replicate 4095 0 } ∧ (List.replicate 4095 0).length = 4095 ∧
      (pageFrame 3).offset ∉ List.replicate 4095 0 := by
  refine ⟨rfl, List.length_replicate .., fun h => ?_⟩
  have := List.eq_of_mem_replicate h
  revert this; decide

theorem witness_RecordsReachQueuesAndLanes :
    (Working 9 egress ∧ (egress.dev.q 5).egress = List.replicate 600 1 :: [[2]] ∧ egress.dev.qType 5 = 5 ∧
      egress.dev.groupForwarded (egress.dev.qGroup 5) = false ∧ egress.dev.groupLanes (egress.dev.qGroup 5) false ≠ []) ∧
    (Working 9 pagingOut ∧ (pagingOut.dev.q 5).egress = [] ∧ (pagingOut.dev.q 5).rxHeld = []) ∧
    (Working 9 (streaming 5) ∧ ((streaming 5).dev.q 5).rxNext = some 3 ∧ ((streaming 5).dev.q 5).rxHeld ≠ [] ∧
      ((streaming 5).dev.q 5).rxHeld.find? (fun e => e.1 == (3 + 1) % 2 ^ 32) = none ∧ (streaming 5).dev.groupFirst 5 = some 0) ∧
    (((streaming 4).dev.q 5).rxHeld.find? (fun e => e.1 == (3 + 1) % 2 ^ 32) = some (4, some 0, [1]) ∧
      ((streaming 4).dev.q 5).rxHeld.find? (fun e => e.1 == ((3 + 1) % 2 ^ 32 + 1) % 2 ^ 32) = none ∧
      (streaming 4).dev.qTail 5 + 1 ≤ (streaming 4).dev.qHead 5 + pageGranules * (streaming 4).dev.qQuota 5 ∧
      (streaming 4).dev.canTake 5 ((streaming 4).dev.missingPages 5 ((streaming 4).dev.qTail 5 * 64)
        ((streaming 4).dev.qTail 5 * 64 + 64 * 1)).length = true) ∧
    (Working 11 capturing ∧ capturing.dev.tapState 1 ≠ 1 ∧ capturing.dev.tapState 1 ≠ 3) ∧
    (Working 11 (recording none) ∧ (recording none).dev.tapState 0 = 1 ∧ (recording none).dev.regionRuns 6 = true ∧
      (recording none).dev.tapSourceOk 0 = true ∧ (recording none).dev.decimates 0 = false ∧
      windowFits (.samples []) ((recording none).dev.tapFmt 0) = true ∧ (recording none).dev.inUnit 0 0 = true ∧
      ((recording none).dev.tap 0).toBuffer = false ∧ ((recording none).dev.tap 0).toUnit = false ∧
      ((recording none).dev.tap 0).refusing = false ∧ ((recording none).dev.tap 0).since ≤ min 0 (recording none).dev.tc ∧
      (recording none).dev.qType 5 = 1 ∧ (recording none).dev.qState 5 = 2 ∧ ((recording none).dev.q 5).trigPend = false ∧
      (recording none).dev.tapDest 0 = 5 ∧ ((recording none).dev.tap 0).record = none ∧
      (64 + 63) / 64 * 64 % pageBytes + 128 ≤ pageBytes ∧ ((recording none).dev.q 5).wb = 64 ∧
      ((recording none).dev.q 5).pages.find? (fun p => p.lpage == (64 + 63) / 64 * 64 / pageBytes) = some { lpage := 0, phys := 7 } ∧
      (recording none).dev.rms.freed = []) ∧
    (((recording (some { seq := 0 })).dev.tap 0).record = some { seq := 0 } ∧
      ({ seq := 0 } : OpenRecord).len + 64 ≤ (recording (some { seq := 0 })).dev.recordLimit 0) ∧
    (min 0 late.dev.tc < (late.dev.tap 0).since) := by
  decide +kernel


/-! ### Probe engines -/

/-- Engine 2 in a state, at a PC of a program. -/
def engine (st pc : Nat) (w : List Word) (l : List (Fld × Nat)) (f : Engine → Engine) : State :=
  dev (fun d => flds ([(Fld.PRB_ENG_STATUS.STATE 2, st), (Fld.PRB_ENG_STATUS.PC 2, pc)] ++ l)
    { d with prb := { d.prb with engines := [(2, f { prog := w })] } })

/-- Engine 2 runs at an instruction with another word behind it; x3 is 1 and latches 0 and 7 are set. -/
def issuing (i : EngIns) : State :=
  engine 2 0 [i.encode, 0] [(⟨Reg.PRB_ENG_X_LO 2 3, 31, 0⟩, 1), (Fld.PRB_ENG_LATCH.LATCH 2, 0x81)] id

/-- The same with lines, pins and chain signals driven. -/
def driving (i : EngIns) : State :=
  engine 2 0 [i.encode, 0] [] (fun e => { e with lineSet := 0xFF, pinSet := 0xF, chainSet := 0xFF, pinPulse := 0xF })

/-- Engine 2 selects event line 5 at its input 0, whose source has a code. -/
def selecting (code : Nat) (s : State) : State :=
  { s with dev := regs [(Reg.PRB_EVT_SRC 5, BitVec.ofNat 32 code)] (flds [(Fld.PRB_ENG_SEL.EVENT 2 0, 5)] s.dev) }

/-- TRIG_IN 1 enabled, last accepted at a tick, at tick n. -/
def trigIn (last : Option Nat) (n : Nat) : State :=
  dev (fun d => { (regs [(Reg.PRB_TRIG_IN_CTL, 0xF), (Reg.STR_ACTIVE, 0x20)] d) with ticks := n, prb := { d.prb with trigIn := [(1, { lastAccept := last })] } })

/-- Pre-matcher 0 enabled at tap 0. -/
def matching : State :=
  dev (fun d => flds [(Fld.PRB_PM_CTL.EN 0, 1), (Fld.PRB_PM_EVERY.N 0, 1)] (regs [(Reg.STR_ACTIVE, 0x22)] d))

theorem witness_EnginesRunHaltRestartAndStep :
    (Writable .trusted 10 (engine 1 0 [0] [] id) ∧ (engine 1 0 [0] [] id).dev.enginesRun = true ∧
      (engine 1 0 [0] [] id).dev.engState 2 = 1 ∧ (4 : BitVec 64).getLsbD (2 : Fin 64) = true ∧
      (engine 1 0 [0] [] id).dev.engPc 2 < ((engine 1 0 [0] [] id).dev.eng 2).prog.length) ∧
    (((engine 1 1 [0] [] id).dev.eng 2).prog.length ≤ (engine 1 1 [0] [] id).dev.engPc 2) ∧
    ((engine 3 0 [0] [] id).dev.engState 2 = 3) ∧ ((4 : BitVec 64).getLsbD (63 : Fin 64) = false) ∧
    (State.reset.dev.engState 2 = 0 ∧ Writable .trusted 10 State.reset) ∧
    ((engine 1 0 [0, 0] [] id).dev.insAt 2 = some .nop ∧ HasNext 2 (engine 1 0 [0, 0] [] id)) ∧
    ((engine 1 0 [EngIns.encode (.wait true false 1), 0] [] id).dev.insAt 2 = some (.wait true false 1) ∧
      waitMet true (1 : BitVec 24).toNat ((engine 1 0 [EngIns.encode (.wait true false 1), 0] [] id).dev.engLatch 2) = false) ∧
    ((engine 1 0 [EngIns.encode .halt, 0] [] id).dev.insAt 2 = some .halt) := by
  decide +kernel

/-- The instructions that compute, one of each, with register 63 and the largest fields. -/
def computing : List EngIns :=
  [.alu 63 3 3 7, .addi 63 3 0x3FFF, .ldi 63 0xFFFFF, .ins 63 3 0xFFFF, .evrd 63, .trd 63 7, .cnt 3 63 255, .tsr 63 false, .tsr 63 true,
    .get 63 7, .put 7 63, .sig 7, .nop]

theorem witness_EnginesCompute : ∀ i ∈ computing, Issuing 2 i (issuing i) ∧ HasNext 2 (issuing i) := by
  decide +kernel

theorem witness_EnginesBranchWaitHaltAndFault :
    (∀ i ∈ ([.br 3 3 3 1, .jmp 1, .jal 3 1, .jr 3, .wait true true 0x81, .wait false false 0xFFFFFF, .wait true false 0x82, .halt] :
      List EngIns), Issuing 2 i (issuing i) ∧ HasNext 2 (issuing i)) ∧
    ((1 : BitVec 12).toNat < ((issuing (.jmp 1)).dev.eng 2).prog.length) ∧
    ((xOf (issuing (.jr 3)) 2 3).toNat < ((issuing (.jr 3)).dev.eng 2).prog.length) ∧
    (Issuing 2 (.jr 3) (engine 2 0 [EngIns.encode (.jr 3)] [(⟨Reg.PRB_ENG_X_LO 2 3, 31, 0⟩, 1)] id) ∧
      ((engine 2 0 [EngIns.encode (.jr 3)] [(⟨Reg.PRB_ENG_X_LO 2 3, 31, 0⟩, 1)] id).dev.eng 2).prog.length ≤
        (xOf (engine 2 0 [EngIns.encode (.jr 3)] [(⟨Reg.PRB_ENG_X_LO 2 3, 31, 0⟩, 1)] id) 2 3).toNat) ∧
    (waitMet true (0x81 : BitVec 24).toNat ((issuing (.wait true true 0x81)).dev.engLatch 2) = true ∧
      waitMet true (0x82 : BitVec 24).toNat ((issuing (.wait true false 0x82)).dev.engLatch 2) = false ∧
      waitMet false (0xFFFFFF : BitVec 24).toNat ((issuing (.wait false false 0xFFFFFF)).dev.engLatch 2) = true ∧
      (issuing .nop).dev.levelLines = []) ∧
    (∀ l ∈ [0, 1], Running (engine 3 0 [EngIns.encode (.wait true false 1), 0] [(Fld.PRB_ENG_LATCH.LATCH 2, l)] id) ∧
      (engine 3 0 [EngIns.encode (.wait true false 1), 0] [(Fld.PRB_ENG_LATCH.LATCH 2, l)] id).dev.enginesRun = true ∧
      (engine 3 0 [EngIns.encode (.wait true false 1), 0] [(Fld.PRB_ENG_LATCH.LATCH 2, l)] id).dev.engState 2 = 3 ∧
      (engine 3 0 [EngIns.encode (.wait true false 1), 0] [(Fld.PRB_ENG_LATCH.LATCH 2, l)] id).dev.insAt 2 = some (.wait true false 1) ∧
      HasNext 2 (engine 3 0 [EngIns.encode (.wait true false 1), 0] [(Fld.PRB_ENG_LATCH.LATCH 2, l)] id) ∧
      waitMet true (1 : BitVec 24).toNat
        ((engine 3 0 [EngIns.encode (.wait true false 1), 0] [(Fld.PRB_ENG_LATCH.LATCH 2, l)] id).dev.engLatch 2) = (l == 1)) ∧
    (Issuing 2 .nop (engine 2 0 [0] [] id) ∧
      (engine 2 0 [0] [] id).dev.engPc 2 + 1 = ((engine 2 0 [0] [] id).dev.eng 2).prog.length) := by
  decide +kernel

/-- The instructions that reach outside the register file, with their largest operands. -/
def reaching : List EngIns :=
  [.evclr 0xFFFFFF, .esel 15 511, .tset 7 3 true, .tset 0 0 false, .cnt 0 3 255, .cnt 1 3 255, .cnt 2 3 255, .trig 1 0 63, .trig 1 1 3,
    .trig 1 2 7, .trig 2 0 63, .trig 2 1 3, .trig 2 2 7, .trig 0 0 63, .trig 0 1 3, .trig 0 2 7, .cap 0 95 3, .cap 1 0 3, .cap 2 95 3,
    .cap 3 95 3, .qcmd 0 3, .qcmd 1 3, .qcmd 2 3, .play 0 63 3, .play 1 63 3, .play 2 63 3]

/-- A pin pulse in progress. -/
def pulsing : State := engine 2 0 [0] [] (fun e => { e with pinPulse := 8, pinDue := [(3, 100)] })

/-- A timer that runs. -/
def timing (left : Nat) : State :=
  engine 3 0 [0] [] (fun e => { e with timers := [(7, { remaining := left, period := 7, loaded := true })] })

theorem witness_EnginesReachLatchesTimersLinesAndTargets :
    (∀ i ∈ reaching, Issuing 2 i (issuing i) ∧ HasNext 2 (issuing i) ∧ (issuing i).dev.levelLines = []) ∧
    (∀ left ∈ [1, 5], Running (timing left) ∧ (timing left).dev.enginesRun = true ∧ (timing left).dev.engState 2 = 3 ∧
      Sparse.get {} ((timing left).dev.eng 2).timers (7 : Fin 8).val = { remaining := left, period := 7, loaded := true }) ∧
    (Running (driving .nop) ∧ Sparse.get 0 ((driving .nop).dev.eng 2).pinDue (3 : Fin 4).val ≤ (driving .nop).dev.ticks) ∧
    (Running pulsing ∧ pulsing.dev.ticks < Sparse.get 0 (pulsing.dev.eng 2).pinDue (3 : Fin 4).val) ∧
    ((issuing (.trig 0 0 63)).dev.lineValue (63 : BitVec 6).toNat = false ∧
      (issuing (.trig 0 2 7)).dev.chainValue (7 : BitVec 6).toNat = false) ∧
    (((issuing (.trig 0 0 63)).dev.eng 2).lineSet.getLsbD (63 : BitVec 6).toNat = false ∧
      ((issuing (.trig 0 1 3)).dev.eng 2).pinSet.getLsbD (3 : BitVec 6).toNat = false ∧
      ((issuing (.trig 0 2 7)).dev.eng 2).chainSet.getLsbD (7 : BitVec 6).toNat = false) ∧
    (Issuing 2 (.trig 0 0 7) (driving (.trig 0 0 7)) ∧ HasNext 2 (driving (.trig 0 0 7)) ∧
      ((driving (.trig 0 0 7)).dev.eng 2).lineSet.getLsbD (7 : BitVec 6).toNat = true) ∧
    (Issuing 2 (.trig 0 1 3) (driving (.trig 0 1 3)) ∧ ((driving (.trig 0 1 3)).dev.eng 2).pinSet.getLsbD (3 : BitVec 6).toNat = true) ∧
    (Issuing 2 (.trig 0 2 7) (driving (.trig 0 2 7)) ∧ ((driving (.trig 0 2 7)).dev.eng 2).chainSet.getLsbD (7 : BitVec 6).toNat = true) := by
  decide +kernel

theorem witness_CountersTriggerInputsAndPreMatchers :
    (Writable .trusted 10 State.reset ∧
      Sparse.get (State.reset.dev.reg (Reg.PRB_CNT_LO 255)) State.reset.dev.held (Reg.PRB_CNT_LO 255) = 0) ∧
    (Running (trigIn (some 5) 117) ∧ (trigIn (some 5) 117).dev.regionActive 5 = true ∧ (trigIn (some 5) 117).dev.bitAt Reg.PRB_TRIG_IN_CTL (1 : Fin 4) = true ∧
      (trigIn (some 5) 117).dev.bitAt Reg.PRB_TRIG_IN_STATUS (1 : Fin 4) = false ∧
      ((trigIn (some 5) 117).dev.trigFilter (1 : Fin 4)).tooSoon (trigIn (some 5) 117).dev.ticks = false ∧
      ((trigIn (some 5) 116).dev.trigFilter (1 : Fin 4)).tooSoon (trigIn (some 5) 116).dev.ticks = true) ∧
    (Running State.reset ∧ State.reset.dev.get (Fld.PRB_PM_CTL.EN (0 : Fin 1536)) = 0) ∧
    (Running matching ∧ matching.dev.get (Fld.PRB_PM_CTL.EN (0 : Fin 1536)) = 1 ∧ matching.dev.regionRuns 5 = true ∧
      matching.dev.tapSourceOk ((0 : Fin 1536).val / 16) = true ∧ State.reset.dev.tapSourceOk ((0 : Fin 1536).val / 16) = false ∧
      matching.dev.get (Fld.PRB_PM_CTL.MODE (0 : Fin 1536)) = 0 ∧ matching.dev.get (Fld.PRB_PM_CTL.ANCHOR (0 : Fin 1536)) = 0) := by
  decide +kernel


/-! ### Capture and pattern -/

/-- Tap 0 enabled in a state with a destination, its hidden part, buffer 1 enabled with a bank, queue 5 for captures, and
further fields. -/
def tapped (st dest : Nat) (l : List (Fld × Nat)) (v : TapState) : State :=
  dev (fun d => flds ([(Fld.CAP_TAP_CTL.EN 0, 1), (Fld.CAP_TAP_STATUS.STATE 0, st), (Fld.CAP_TAP_STATUS.DEST 0, dest),
      (Fld.CAP_SBUF_CTL.EN 1, 1), (Fld.CAP_SBUF_CTL.BANKS 1, 6), (Fld.CAP_SBUF_STATUS.OWNER 1, 255), (Fld.RMS_Q_DESC0.TYPE 5, 1),
      (Fld.RMS_Q_STATE.STATE 5, 2)] ++ l)
    { regs [(Reg.STR_ACTIVE, 0xFF)] d with cap := { d.cap with taps := [(0, v)] },
                                           rms := { d.rms with queues := [(5, { region := 3 })] } })

/-- An open record of n bytes. -/
def opened (n : Nat) : OpenRecord := { seq := 0, start := 0, len := n, chain := 0xFF }

/-- Player 2 in a state on segment 3 of buffer 1, with the active structure joining it to DAC 0, and further fields. -/
def playing (st : Nat) (l : List (Fld × Nat)) : State :=
  dev (fun d => flds ([(Fld.CAP_PLY_STATUS.STATE 2, st), (Fld.CAP_PLY_STATUS.CUR 2, 3), (Fld.CAP_PLY_STATUS.QUEUED 2, 0x7FF),
      (Fld.CAP_SBUF_CTL.EN 1, 1), (Fld.CAP_SBUF_CTL.BANKS 1, 12), (Fld.CAP_SBUF_STATUS.OWNER 1, 255), (Fld.CAP_SEG0.BUF 3, 1),
      (Fld.CAP_SEG0.NEXT 3, 0x7FF), (Fld.CAP_SEG3.LEN 3, 64), (Fld.CAP_SEG4.LOOPS 3, 2)] ++ l)
    { regs [(Reg.STR_ACTIVE, 0xFF)] d with str := { active := [(6, body [{ level := 0, src := 0xB00, srcInst := 0xFFFF, sink := 0x203, sinkInst := 0xFFFF }] [])] },
                                           tim := { d.tim with syncDue := true } })

/-- No chain takes part in the synchronising event. -/
def noSync : List (Fld × Nat) := (List.range 8).map (fun c => (Fld.CAP_DEC_CTL.SYNC_EN c, 0))

/-- Tap 22, a tap of events, with an open record. -/
def eventTapped : State :=
  dev (fun d => flds [(Fld.CAP_TAP_STATUS.STATE 22, 1)] { d with ticks := 1120 * 2 ^ 31, cap := { d.cap with taps := [(22, { record := some (opened 64) })] } })

/-- The same before its time is over. -/
def eventYoung : State := { eventTapped with dev := { eventTapped.dev with ticks := 0 } }

/-- Tap 0 set to capture to buffers. -/
def toBuffers : List (Fld × Nat) := [(Fld.CAP_TAP_CTL.DKIND 0, 1)]

/-- A capture to buffer 1, a ring or not, of a record of n bytes. -/
def buffering (ring n : Nat) : State :=
  tapped 1 1 (toBuffers ++ [(Fld.CAP_SBUF_CTL.RING 1, ring)]) { toBuffer := true, record := some (opened n) }

/-- A capture with its record refused, its queue holding one page or none. -/
def refusing (l : List QPage) : State :=
  let s := tapped 1 5 [] { refusing := true }
  { s with dev := s.dev.setQ 5 { region := 3, pages := l } }

/-- A capture to queue 5 with an open record at its first granule. -/
def closing (ty n : Nat) : State :=
  let s := tapped 1 5 [(Fld.RMS_Q_DESC0.TYPE 5, ty)] { record := some (opened n) }
  { s with dev := s.dev.setQ 5 { region := 3, pages := [{ lpage := 0, phys := 7 }], wb := 64 + n, holes := [0] } }

/-- Tap 0 records the output of chain 0. -/
def chained : State := tapped 1 5 [(Fld.CAP_TAP_CTL.DEC_EN 0, 1)] { record := some (opened 64) }

/-- A value of chain 0 waits for its reset. -/
def chainPending : State := { State.reset with dev := State.reset.dev.setShadow (Reg.CAP_DEC_CTL 0) 3 }

theorem witness_TapsStartStopMarkAndWait :
    (Working 11 (tapped 0 0 [] {}) ∧ (tapped 0 0 [] {}).dev.isSet (Fld.CAP_TAP_CTL.DKIND 0) = false ∧
      (tapped 0 0 [] {}).dev.get (Fld.CAP_TAP_STATUS.STATE 0) = 0 ∧ (tapped 0 0 [] {}).dev.get (Fld.CAP_TAP_CTL.EN 0) = 1 ∧
      (tapped 0 0 [] {}).dev.chainBusy 0 = false ∧ (tapped 0 0 [] {}).dev.queueValid (5 : BitVec 16).toNat = true ∧
      (tapped 0 0 [] {}).dev.queueValid (6 : BitVec 16).toNat = false) ∧
    ((tapped 0 0 toBuffers {}).dev.isSet (Fld.CAP_TAP_CTL.DKIND 0) = true ∧
      (tapped 0 0 toBuffers {}).dev.get (Fld.CAP_TAP_STATUS.STATE 0) = 0 ∧ (tapped 0 0 toBuffers {}).dev.get (Fld.CAP_TAP_CTL.EN 0) = 1 ∧
      (tapped 0 0 toBuffers {}).dev.chainBusy 0 = false ∧ (tapped 0 0 toBuffers {}).dev.bufValid 0 (1 : BitVec 16).toNat = true ∧
      (tapped 0 0 toBuffers {}).dev.bufValid 0 (17 : BitVec 16).toNat = false) ∧
    ((tapped 1 5 [] {}).dev.tapState 0 = 1 ∧ ((tapped 1 5 [] {}).dev.tap 0).toBuffer = false ∧
      ((tapped 1 5 [] {}).dev.tap 0).record = none ∧
      ((tapped 1 5 [] { record := some (opened 64) }).dev.tap 0).record = some (opened 64)) ∧
    (Working 11 (buffering 0 64) ∧ (buffering 0 64).dev.tapState 0 = 1 ∧ ((buffering 0 64).dev.tap 0).toBuffer = true ∧
      (buffering 0 64).dev.tapDest 0 % 16 = 1 ∧ (buffering 0 64).dev.isSet (Fld.CAP_SBUF_CTL.RING 1) = false ∧
      (buffering 1 64).dev.isSet (Fld.CAP_SBUF_CTL.RING 1) = true) ∧
    ((tapped 1 5 [] {}).dev.queueValid (5 : BitVec 16).toNat = true ∧ (tapped 1 5 [] {}).dev.queueValid (0xFFFF : BitVec 16).toNat = false) ∧
    (((tapped 2 5 [] { lost := true }).dev.setTap 0 { (tapped 2 5 [] { lost := true }).dev.tap 0 with lost := false }).tapSourceOk 0 = true ∧
      (tapped 2 5 [] { lost := true }).dev.tapState 0 = 2 ∧ (tapped 3 5 [] {}).dev.tapState 0 = 3) := by
  decide +kernel

theorem witness_RecordsRetriedAndClosed :
    (∀ l ∈ [[], [({ lpage := 0, phys := 7 } : QPage)]], Working 11 (refusing l) ∧ ((refusing l).dev.tap 0).refusing = true ∧
      (refusing l).dev.tapState 0 = 1 ∧ (refusing l).dev.regionRuns 6 = true ∧ (refusing l).dev.tapSourceOk 0 = true ∧
      (refusing l).dev.decimates 0 = false ∧ windowFits (.samples []) ((refusing l).dev.tapFmt 0) = true ∧
      (refusing l).dev.inUnit 0 0 = true ∧ ((refusing l).dev.tap 0).toBuffer = false ∧ ((refusing l).dev.tap 0).toUnit = false ∧
      ((refusing l).dev.tap 0).record = none ∧ ((refusing l).dev.tap 0).since ≤ min 0 (refusing l).dev.tc ∧
      (refusing l).dev.tapDest 0 = 5 ∧ (refusing l).dev.qType 5 = 1 ∧ (refusing l).dev.qState 5 = 2 ∧
      ((refusing l).dev.q 5).trigPend = false ∧ ((refusing l).dev.q 5).pages = l ∧ ((refusing l).dev.q 5).wb = 0 ∧
      (refusing l).dev.rms.freed = []) ∧
    ((refusing []).dev.mayObtain 5 = false ∧ ((tapped 1 5 [] {}).dev.tap 0).refusing = false) ∧
    (Working 11 (closing 1 512) ∧ (closing 1 512).dev.qType ((closing 1 512).dev.tapDest 0) ≠ 5 ∧
      ((closing 1 512).dev.tap 0).record = some (opened 512) ∧ (opened 512).len % 64 = 0 ∧
      ((closing 1 512).dev.q 5).pages.find? (fun p => p.lpage == 64 * (opened 512).start / pageBytes) = some { lpage := 0, phys := 7 }) ∧
    ((closing 5 512).dev.qType ((closing 5 512).dev.tapDest 0) = 5 ∧ (closing 5 512).dev.egressFits 5 64 = true) := by
  decide +kernel

theorem witness_ChainsReset :
    (Working 11 chained ∧ chained.dev.chainTap 0 = some (0 : Fin 96).val ∧ (chained.dev.tap 0).toBuffer = false ∧
      (chained.dev.tap 0).record = some (opened 64)) ∧
    (Working 11 chainPending ∧ chainPending.dev.chainTap 0 = none ∧ chainPending.dev.held? 11 = false ∧
      chainPending.dev.waitsForCommit (Reg.CAP_DEC_CTL 0) = false ∧
      chainPending.dev.shadow.find? (fun e => e.1 == Reg.CAP_DEC_CTL 0) = some (Reg.CAP_DEC_CTL 0, 3) ∧
      chainPending.dev.shadow.filter (fun e => e.1 == Reg.CAP_DEC_CTL 0) = [(Reg.CAP_DEC_CTL 0, 3)]) := by
  decide +kernel

theorem witness_RecordsCloseAndChainsReset :
    (Working 11 (tapped 1 5 [] { record := some (opened 32768) }) ∧
      ((tapped 1 5 [] { record := some (opened 32768) }).dev.tap 0).record = some (opened 32768) ∧
      (tapped 1 5 [] { record := some (opened 32768) }).dev.recordLimit 0 <
        (opened 32768).len + (tapped 1 5 [] { record := some (opened 32768) }).dev.leastPiece 0 ∧
      (opened 32704).len + (tapped 1 5 [] { record := some (opened 32704) }).dev.leastPiece 0 ≤
        (tapped 1 5 [] { record := some (opened 32704) }).dev.recordLimit 0 ∧
      (tapped 1 5 [] { record := some (opened 32704) }).dev.isEventTap 0 = false) ∧
    (Working 11 eventTapped ∧ (eventTapped.dev.tap 22).record = some (opened 64) ∧ eventTapped.dev.isEventTap 22 = true ∧
      (opened 64).opened + 1120 * 2 ^ eventTapped.dev.get (Fld.CAP_TAP_CTL.FLUSH 22) ≤ eventTapped.dev.ticks ∧
      eventYoung.dev.ticks < (opened 64).opened + 1120 * 2 ^ eventYoung.dev.get (Fld.CAP_TAP_CTL.FLUSH 22)) ∧
    (((buffering 0 (6 * 0x1000000 - 64)).dev.tap 0).toBuffer = true ∧ (buffering 0 (6 * 0x1000000 - 64)).dev.bufComplete 0 = true ∧
      (buffering 0 (6 * 0x1000000 - 128)).dev.bufComplete 0 = false) ∧
    (Working 11 State.reset ∧ State.reset.dev.chainTap 0 = none ∧ State.reset.dev.held? 11 = false ∧ Writable .trusted 11 State.reset) := by
  decide +kernel

theorem witness_PlayersPlaySegments :
    (Working 11 (playing 0 []) ∧ (playing 0 []).dev.held? 11 = false ∧
      ((playing 0 []).dev.copyShadow (fun a => a == Reg.CAP_PLY_CTL 2)).playJoined 2 = true ∧
      ((playing 0 []).dev.copyShadow (fun a => a == Reg.CAP_PLY_CTL 2)).playTaken 2 = false ∧
      ((playing 0 []).dev.copyShadow (fun a => a == Reg.CAP_PLY_CTL 2)).segValid 2 (3 : BitVec 64).toNat 0 noInst = true ∧
      ((playing 0 []).dev.copyShadow (fun a => a == Reg.CAP_PLY_CTL 2)).playOut 2 = 0 ∧
      ((playing 0 []).dev.copyShadow (fun a => a == Reg.CAP_PLY_CTL 2)).segValid 2 (1024 : BitVec 64).toNat 0 noInst = false) ∧
    ((playing 0 [(Fld.CAP_PLY_CTL.SYNC_START 2, 1)]).dev.playState 2 ≠ 2 ∧
      ((playing 0 [(Fld.CAP_PLY_CTL.SYNC_START 2, 1)]).dev.copyShadow (fun a => a == Reg.CAP_PLY_CTL 2)).isSet
        (Fld.CAP_PLY_CTL.SYNC_START 2) = true) ∧
    ((playing 2 []).dev.playState 2 = 2 ∧ (playing 2 []).dev.segValid 2 (3 : BitVec 64).toNat ((playing 2 []).dev.playOut 2)
        ((playing 2 []).dev.playInst 2) = true ∧ (playing 2 []).dev.get (Fld.CAP_PLY_STATUS.QUEUED 2) = 0x7FF ∧
      Sparse.get 0 (playing 2 []).dev.cap.passes (2 : Fin 64).val + 1 <
        (playing 2 []).dev.get (Fld.CAP_SEG4.LOOPS ((playing 2 []).dev.playCur 2)) ∧
      (playing 2 [(Fld.CAP_SEG4.LOOPS 3, 1)]).dev.get (Fld.CAP_SEG4.LOOPS ((playing 2 [(Fld.CAP_SEG4.LOOPS 3, 1)]).dev.playCur 2)) ≠ 0 ∧
      (playing 2 [(Fld.CAP_SEG4.LOOPS 3, 1)]).dev.get (Fld.CAP_SEG4.LOOPS ((playing 2 [(Fld.CAP_SEG4.LOOPS 3, 1)]).dev.playCur 2)) ≤
        Sparse.get 0 (playing 2 [(Fld.CAP_SEG4.LOOPS 3, 1)]).dev.cap.passes (2 : Fin 64).val + 1) ∧
    (∀ l ∈ [[], [(Fld.CAP_PLY_STATUS.QUEUED 2, 3)], [(Fld.CAP_SEG0.SRC 3, 1), (Fld.CAP_SEG4.CONSUME 3, 1), (Fld.CAP_SEG4.LOOPS 3, 1)]],
      (playing 2 l).dev.playState 2 = 2 ∧ ∀ e ∈ (playing 2 l).dev.prb.engines, e.1 < 64) ∧
    ((playing 2 [(Fld.CAP_SEG0.SRC 3, 1)]).dev.get (Fld.CAP_SEG0.SRC ((playing 2 [(Fld.CAP_SEG0.SRC 3, 1)]).dev.playCur 2)) = 1 ∧
      (playing 2 []).dev.get (Fld.CAP_SEG0.SRC ((playing 2 []).dev.playCur 2)) ≠ 1) ∧
    (Writable .trusted 11 (playing 2 []) ∧ (playing 2 []).dev.playCur 2 = (3 : Fin 1024) ∧
      ∀ p : Fin 64, State.reset.dev.playState p ≠ 2) ∧
    (Working 13 (playing 1 noSync) ∧ (playing 1 noSync).dev.tim.syncDue = true ∧ State.reset.dev.tim.syncDue = false ∧
      (playing 1 noSync).dev.inReset 11 = false ∧ (playing 1 noSync).dev.syncMask = 0 ∧ (playing 1 noSync).dev.playState 2 = 1) := by
  decide +kernel


/-! ### Clocks -/

/-- Candidates 0 and 1 active and qualified with ranks, the DPLL in a state on a candidate, MODE, and further fields. -/
def clocked (p0 p1 st sel mode : Nat) (l : List (Fld × Nat)) (f : TimState → TimState) : State :=
  dev (fun d => flds ([(Fld.TIM_REF_STATUS.ACT 0, 1), (Fld.TIM_REF_STATUS.QUAL 0, 1), (Fld.TIM_REF_STATUS.FREQ_OK 0, 1),
      (Fld.TIM_REF_STATUS.ACT 1, 1), (Fld.TIM_REF_STATUS.QUAL 1, 1), (Fld.TIM_REF_STATUS.FREQ_OK 1, 1),
      (Fld.TIM_REF_CTL.PRIO 0, p0), (Fld.TIM_REF_CTL.PRIO 1, p1), (Fld.TIM_REF_FREQ.HZ 0, 10000000), (Fld.TIM_REF_FREQ.HZ 1, 19440000),
      (Fld.TIM_DPLL_STATUS.STATE, st), (Fld.TIM_DPLL_STATUS.SEL, sel), (Fld.TIM_DPLL_CTL.MODE, mode)] ++ l)
    { d with tim := f d.tim })

/-- Inputs and outputs of block TIM as they stand at tick n. -/
def timed (n : Nat) (l : List (Fld × Nat)) (f : TimState → TimState) : State :=
  dev (fun d => flds l { d with ticks := n, tim := f d.tim })

/-- The DPLL in a state, on candidate 0 since tick 0, at tick n. -/
def settled (st avg n : Nat) : State :=
  clocked 1 2 st 0 0 [(Fld.TIM_DPLL_CTL.BW, 2), (Fld.TIM_DPLL_CTL.HO_AVG, avg), (Fld.TIM_REF_STATUS.WTR_RUN 1, 1),
    (Fld.TIM_REF_STATUS.WTR_LEFT 1, 1)] (fun t => { t with wtrSince := [(1, n - secondTicks)] }) |> fun s => { s with dev := { s.dev with ticks := n } }

/-- Output pulses that end at tick 7. -/
def pulseOut (n : Nat) : State := timed n [] (fun t => { t with pulseDue := [(0, 7), (1, 7), (2, 7)] })

/-- A PTP message. -/
def ptp (ty : BitVec 4) (tr : PtpTransport) : PtpMsg := { transport := tr, msgType := ty, domain := 3, seqId := 9, correction := 7 }

/-- PTP timestamping enabled for layer 2 and UDP over IPv4, one-step or not, with n entries in both FIFOs. -/
def stamping (one n : Nat) : State :=
  timed 0 [(Fld.TIM_PTP_CTL.EN, 1), (Fld.TIM_PTP_CTL.L2, 1), (Fld.TIM_PTP_CTL.UDP4, 1), (Fld.TIM_PTP_CTL.ONE_STEP, one)]
    (fun t => { t with ptpTx := List.replicate n { msgType := 0, domain := 0, seqId := 0, time := 0 },
                       ptpRx := List.replicate n { msgType := 0, domain := 0, seqId := 0, time := 0 } })

/-- The XO failed. -/
def noXo : State := clocked 1 2 2 0 0 [] (fun t => { t with xoOk := false })

theorem witness_ReferencesQualifyAndTheDpllSelects :
    (Running noXo ∧ noXo.dev.tim.xoOk = false) ∧
    (Running (clocked 1 2 2 0 0 [] id) ∧ (clocked 1 2 2 0 0 [] id).dev.tim.xoOk = true ∧
      (clocked 1 2 2 0 0 [] id).dev.get (Fld.TIM_REF_STATUS.QUAL (0 : Fin 12)) = 1 ∧
      (clocked 1 2 2 0 0 [] id).dev.get Fld.TIM_DPLL_STATUS.SEL = (0 : Fin 12) ∧ (clocked 1 2 2 0 0 [] id).dev.offered (0 : Fin 12) = true) ∧
    ((clocked 1 2 2 0 0 [] id).dev.get (Fld.TIM_REF_STATUS.ACT (0 : Fin 12)) = 1 ∧
      (clocked 1 2 2 0 0 [] id).dev.get (Fld.TIM_REF_STATUS.ACT (11 : Fin 12)) = 0 ∧
      (clocked 1 2 2 0 0 [] id).dev.get Fld.TIM_MON_CTL.ACCEPT * 100 < (clocked 1 2 2 0 0 [] id).dev.get Fld.TIM_MON_CTL.REJECT * 100 ∧
      2 ≤ Sparse.get 0 (clocked 1 2 2 0 0 [] (fun t => { t with good := [(0, 2)] })).dev.tim.good (0 : Fin 12).val) ∧
    (State.reset.dev.bestRef = none ∧ (clocked 2 1 2 0 0 [] id).dev.bestRef = some 1) ∧
    ((clocked 1 2 2 0 3 [] id).dev.get Fld.TIM_DPLL_CTL.MODE = 3 ∧ (clocked 1 2 2 0 2 [] id).dev.get Fld.TIM_DPLL_CTL.MODE = 2) ∧
    ((clocked 1 2 2 0 1 [(Fld.TIM_DPLL_CTL.FORCE_IDX, 1)] id).dev.get Fld.TIM_DPLL_CTL.MODE = 1 ∧
      (clocked 1 2 2 0 1 [(Fld.TIM_DPLL_CTL.FORCE_IDX, 1)] id).dev.get Fld.TIM_DPLL_CTL.FORCE_IDX = 1 ∧
      (clocked 1 2 2 0 1 [(Fld.TIM_DPLL_CTL.FORCE_IDX, 1)] id).dev.get (Fld.TIM_REF_STATUS.QUAL 1) = 1 ∧
      (clocked 1 2 2 0 1 [(Fld.TIM_DPLL_CTL.FORCE_IDX, 1)] id).dev.get Fld.TIM_DPLL_STATUS.SEL ≠ 1 ∧
      (clocked 1 2 2 0 1 [(Fld.TIM_DPLL_CTL.FORCE_IDX, 11)] id).dev.get (Fld.TIM_REF_STATUS.QUAL 11) = 0) ∧
    ((clocked 0 0 2 0 0 [] id).dev.get Fld.TIM_DPLL_CTL.MODE = 0 ∧ ∀ i < 12, (clocked 0 0 2 0 0 [] id).dev.prio i = 0) ∧
    ((∃ i < 12, (clocked 1 2 2 15 0 [] id).dev.prio i ≠ 0) ∧ 12 ≤ (clocked 1 2 2 15 0 [] id).dev.get Fld.TIM_DPLL_STATUS.SEL) ∧
    ((clocked 2 1 2 0 0 [(Fld.TIM_DPLL_CTL.REVERTIVE, 1)] id).dev.selectable 0 = true ∧
      (clocked 2 1 2 0 0 [(Fld.TIM_DPLL_CTL.REVERTIVE, 1)] id).dev.get Fld.TIM_DPLL_CTL.REVERTIVE = 1 ∧
      (clocked 2 1 2 0 0 [(Fld.TIM_DPLL_CTL.REVERTIVE, 1)] id).dev.prio 1 < (clocked 2 1 2 0 0 [(Fld.TIM_DPLL_CTL.REVERTIVE, 1)] id).dev.prio 0 ∧
      (clocked 2 1 2 0 0 [(Fld.TIM_DPLL_CTL.REVERTIVE, 1)] id).dev.dpll ≠ 4 ∧
      (clocked 2 1 2 0 0 [(Fld.TIM_DPLL_CTL.REVERTIVE, 0)] id).dev.get Fld.TIM_DPLL_CTL.REVERTIVE = 0) ∧
    (Writable .trusted 13 State.reset ∧ State.reset.dev.held? 13 = false ∧
      Writable .trusted 13 (dev (regs [(Reg.GLB_SHADOW_HOLD, 0x2000)])) ∧ (dev (regs [(Reg.GLB_SHADOW_HOLD, 0x2000)])).dev.held? 13 = true) ∧
    ((clocked 1 2 1 0 0 [] id).dev.dpll = 1 ∧ (clocked 1 2 4 0 0 [] id).dev.dpll = 4 ∧ (clocked 1 2 2 0 0 [] id).dev.dpll = 2) ∧
    ((settled 1 0 (2 * secondTicks)).dev.dpll = 1 ∧ (settled 1 0 (2 * secondTicks)).dev.loopBw = 10 ∧
      20 * 1120000000 / (settled 1 0 (2 * secondTicks)).dev.loopBw ≤ (settled 1 0 (2 * secondTicks)).dev.ticks - (settled 1 0 (2 * secondTicks)).dev.tim.dpllSince ∧
      1120000 ≤ (settled 1 0 (2 * secondTicks)).dev.ticks - (settled 1 0 (2 * secondTicks)).dev.tim.dpllSince ∧
      (settled 1 0 1119999).dev.ticks < (settled 1 0 1119999).dev.tim.dpllSince + 1120000) ∧
    (Running (settled 2 1 (10 * secondTicks)) ∧ (settled 2 1 (10 * secondTicks)).dev.dpll = 2 ∧
      (settled 2 1 (10 * secondTicks)).dev.get Fld.TIM_DPLL_CTL.HO_AVG = 1 ∧
      (settled 2 1 (10 * secondTicks)).dev.tim.dpllSince + 10 ^ 1 * 1120000000 ≤ (settled 2 1 (10 * secondTicks)).dev.ticks ∧
      (settled 2 1 (10 * secondTicks)).dev.tim.hoSince + 10 ^ 1 * 1120000000 ≤ (settled 2 1 (10 * secondTicks)).dev.ticks ∧
      (settled 2 1 (secondTicks - 1)).dev.ticks < (settled 2 1 (secondTicks - 1)).dev.tim.dpllSince + 1120000000) ∧
    ((settled 1 0 (2 * secondTicks)).dev.get (Fld.TIM_REF_STATUS.WTR_RUN (1 : Fin 12)) = 1 ∧ (settled 1 0 (2 * secondTicks)).dev.wtrLeft (1 : Fin 12) = 0 ∧
      0 < (clocked 1 2 1 0 0 [(Fld.TIM_REF_STATUS.WTR_RUN 1, 1), (Fld.TIM_REF_STATUS.WTR_LEFT 1, 1)] id).dev.wtrLeft (1 : Fin 12)) := by
  decide +kernel

/-- SYNC_IN and PPS_IN sampled, last accepted 112 or 111 ticks ago. -/
def sampled (last : Nat) : State :=
  timed 200 [(Fld.TIM_SYNC_CTL.EN, 1), (Fld.TIM_PPSIN_CTL.EN, 1)]
    (fun t => { t with syncIn := { lastAccept := some last }, ppsIn := { lastAccept := some last } })

/-- Both generators realigned, their last pulses at tick 5 and tick 150. -/
def realigned (n per : Nat) : State :=
  timed n [(Fld.TIM_FRAME_PER.NS, per)] (fun t => { t with
    realignedPps := true, realignedFrame := true, lastPps := some 5, lastFrame := some 150 })

theorem witness_TimeCounterPulsesAndInputs :
    (Writable .trusted 13 State.reset ∧ Running State.reset ∧
      Sparse.get (State.reset.dev.reg Reg.TIM_STEP_LO) State.reset.dev.held Reg.TIM_STEP_LO = 0) ∧
    (State.reset.dev.tim.pull = 0 ∧ (timed 0 [] (fun t => { t with pull := 5 })).dev.tim.pull ≠ 0) ∧
    (State.reset.dev.pullPerTick < State.reset.dev.addend ∧ State.reset.dev.tc + tcSecond + 2 ^ 49 ≤ tcMax) ∧
    (Running (pulseOut 7) ∧ Sparse.get 0 (pulseOut 7).dev.tim.pulseDue 0 ≤ (pulseOut 7).dev.ticks ∧ Sparse.get 0 (pulseOut 7).dev.tim.pulseDue 1 ≤ (pulseOut 7).dev.ticks ∧
      Sparse.get 0 (pulseOut 7).dev.tim.pulseDue 2 ≤ (pulseOut 7).dev.ticks ∧ (pulseOut 6).dev.ticks < Sparse.get 0 (pulseOut 6).dev.tim.pulseDue (pulsePlace .frameOut)) ∧
    (State.reset.dev.tim.realignedPps = false ∧ State.reset.dev.tim.realignedFrame = false) ∧
    (Running (realigned 200 90) ∧ (realigned 200 90).dev.tim.realignedPps = true ∧ (realigned 200 90).dev.tim.lastPps = some 5 ∧
      ((realigned 200 90).dev.ticks - 5) * 50 < 28000000000 ∧ 28000000000 ≤ ((realigned 560000005 90).dev.ticks - 5) * 50 ∧
      (realigned 200 90).dev.tim.realignedFrame = true ∧ (realigned 200 90).dev.tim.lastFrame = some 150 ∧
      ((realigned 200 90).dev.ticks - 150) * 50 < (realigned 200 90).dev.get Fld.TIM_FRAME_PER.NS * 28 ∧
      (realigned 200 89).dev.get Fld.TIM_FRAME_PER.NS * 28 ≤ ((realigned 200 89).dev.ticks - 150) * 50) ∧
    (Running (sampled 88) ∧ (sampled 88).dev.get Fld.TIM_SYNC_CTL.EN = 1 ∧ (sampled 88).dev.tim.syncIn.level = false ∧
      (sampled 88).dev.tim.syncIn.tooSoon (sampled 88).dev.ticks = false ∧ (sampled 89).dev.tim.syncIn.tooSoon (sampled 89).dev.ticks = true ∧
      (sampled 88).dev.get Fld.TIM_PPSIN_CTL.EN = 1 ∧ (sampled 88).dev.tim.ppsIn.level = false ∧
      (sampled 88).dev.tim.ppsIn.tooSoon (sampled 88).dev.ticks = false ∧ (sampled 89).dev.tim.ppsIn.tooSoon (sampled 89).dev.ticks = true) ∧
    (dev (regs [(Reg.PRB_TRIG_IN_CTL, 8), (Reg.STR_ACTIVE, 0x20)])).dev.regionActive 5 = true ∧ (dev (regs [(Reg.PRB_TRIG_IN_CTL, 8), (Reg.STR_ACTIVE, 0x20)])).dev.bitAt Reg.PRB_TRIG_IN_CTL (3 : Fin 4) = true := by
  decide +kernel

theorem witness_PtpMessagesAreStamped :
    (Running (stamping 0 0) ∧ (stamping 0 0).dev.ptpTaken (ptp 4 .l2) = false ∧ (stamping 0 0).dev.ptpTaken (ptp 3 .l2) = true) ∧
    ((stamping 1 0).dev.get Fld.TIM_PTP_CTL.ONE_STEP = 1 ∧ (ptp 0 .udp4).msgType = 0 ∧ (ptp 0 .udp4).transport ≠ .udp6 ∧
      (stamping 1 0).dev.ptpTaken (ptp 0 .udp4) = true) ∧
    ((stamping 0 63).dev.get Fld.TIM_PTP_CTL.ONE_STEP = 0 ∧ (stamping 0 63).dev.tim.ptpTx.length < 64 ∧
      (stamping 0 63).dev.tim.ptpRx.length < 64) ∧
    (64 ≤ (stamping 0 64).dev.tim.ptpTx.length ∧ 64 ≤ (stamping 0 64).dev.tim.ptpRx.length) ∧ Writable .trusted 13 (stamping 0 1) := by
  decide +kernel


/-! ### Calliope -/

/-- Port 0 with the line transmitter active, the Calliope transmitter enabled, its states, further fields and its hidden part. -/
def calliope (rx tx : Nat) (l : List (Fld × Nat)) (p : ClpPort) : State :=
  dev (fun d => flds ([(Fld.LNx_DSP_MODE.TX_EN 0, 1), (Fld.CLP_x_CTL.TX_EN 0, 1), (Fld.CLP_x_CTL.RX_EN 0, 1),
      (⟨Reg.LNx_CNV_STATE 0, 17, 16⟩, 2), (Fld.CLP_x_STATUS.RX_STATE 0, rx), (Fld.CLP_x_STATUS.TX_STATE 0, tx), (Fld.LNx_DSP_STATE.RX_STATE 0, 2)] ++ l)
    { regs [(Reg.STR_ACTIVE, 0xFF)] d with tc := 10 * tcSecond, clp := [(0, p)] })

/-- A packet of type 2 whose first byte asks for an echo. -/
def echoBytes : List Byte := [0, 7, 8]
/-- A HEARTBEAT of 12 bytes. -/
def beatBytes : List Byte := [0, 0, 0, 0, 0, 0, 0, 9, 0, 0, 0, 1]
/-- A HELLO of 16 bytes. -/
def helloBytes : List Byte := [0, 0, 0, 0, 0, 0, 0, 9, 1, 0, 0, 0, 1, 0, 60, 0]
/-- The CRC of a packet. -/
def crcOf (hd : BitVec 16) (l : List Byte) : BitVec 16 := crc16 (beBytes 2 hd.toNat ++ l)

/-- A packet to send. -/
def packet : ClpPacket := { type := 3, payload := [1] }
/-- HELLO and ECHO enabled, and a header for a packet of n bytes. -/
def asked (n : Nat) : List (Fld × Nat) :=
  [(Fld.CLP_x_CTL.HELLO_EN 0, 1), (Fld.CLP_x_CTL.ECHO_EN 0, 1), (Fld.CLP_x_TX_HDR.TYPE 0, 2), (Fld.CLP_x_TX_HDR.LEN 0, n)]
/-- A partner in entry 0. -/
def partner : List (Fld × Nat) := [(Fld.CLP_x_PT_STATUS.VALID 0 0, 1), (⟨Reg.CLP_x_PT_DIGEST_LO 0 0, 31, 0⟩, 9)]
/-- A packet received. -/
def received : ClpReceived := { packet := packet, rssi := 0, inv := false, time := 0, partner := none }

theorem witness_CalliopeSendsAndReceives :
    (Writable .trusted 12 (calliope 0 1 (asked 64) { txFifo := List.replicate 7 packet }) ∧
      ((calliope 0 1 (asked 64) { txFifo := List.replicate 7 packet }).dev.cp 0).txFifo.length < 8 ∧
      (calliope 0 1 (asked 64) {}).dev.get (Fld.CLP_x_TX_HDR.LEN 0) = 64 ∧ (calliope 0 1 (asked 64) {}).dev.get (Fld.CLP_x_TX_HDR.TYPE 0) = 2 ∧
      64 < (calliope 0 1 (asked 65) {}).dev.get (Fld.CLP_x_TX_HDR.LEN 0) ∧
      8 ≤ ((calliope 0 1 (asked 64) { txFifo := List.replicate 8 packet }).dev.cp 0).txFifo.length) ∧
    (Working 12 (calliope 0 1 (asked 64) {}) ∧ (calliope 0 1 (asked 64) {}).dev.isSet (Fld.CLP_x_CTL.HELLO_EN 0) = true ∧
      (calliope 0 2 [(Fld.CLP_x_CTL.HELLO_EN 0, 0)] {}).dev.isSet (Fld.CLP_x_CTL.HELLO_EN 0) = false ∧ (calliope 0 2 [] {}).dev.clpTxState 0 = 2 ∧
      (calliope 0 1 [] {}).dev.clpTxState 0 ≠ 2 ∧ (calliope 0 1 [] {}).dev.clpMaySend 0 = true ∧
      (calliope 0 1 [(Fld.CLP_x_CTL.TX_EN 0, 0)] {}).dev.clpMaySend 0 = false) ∧
    (((calliope 0 1 [] { echo := some [1] }).dev.cp 0).echo = some [1] ∧ ((calliope 0 1 [] { hello := true }).dev.cp 0).hello = true ∧
      ((calliope 0 1 [] { txFifo := [packet] }).dev.cp 0).txFifo = [packet] ∧ ((calliope 0 1 [] {}).dev.cp 0).txFifo = [] ∧
      ((calliope 0 2 [] { sending := some (packet, 5) }).dev.cp 0).sending = some (packet, 5) ∧ ((calliope 0 1 [] {}).dev.cp 0).sending = none) ∧
    ((calliope 0 1 [] {}).dev.clpMayRun 0 = true ∧ (calliope 0 1 [] {}).dev.clpRxState 0 = 0 ∧
      (calliope 2 1 [(Fld.CLP_x_CTL.RX_EN 0, 0)] {}).dev.clpMayRun 0 = false ∧
      (calliope 2 1 [(Fld.CLP_x_CTL.RX_EN 0, 0)] {}).dev.clpRxState 0 ≠ 0) ∧
    ((calliope 2 1 [(Fld.CLP_x_STATUS.AGC_FROZEN 0, 1)] {}).dev.isSet (Fld.CLP_x_STATUS.AGC_FROZEN 0) = true ∧
      (calliope 1 1 [(Fld.CLP_x_STATUS.AGC_FROZEN 0, 0)] {}).dev.isSet (Fld.CLP_x_STATUS.AGC_FROZEN 0) = false) ∧
    ((calliope 1 1 [] {}).dev.clpRxState 0 = 1 ∧ (calliope 2 1 [] {}).dev.clpRxState 0 = 2 ∧ (calliope 3 1 [] {}).dev.clpRxState 0 = 3 ∧
      phaseNear ((2042 : Fin 2046) : Nat) ((calliope 2 1 [] {}).dev.cp 0).phase = true ∧
      phaseNear ((2041 : Fin 2046) : Nat) ((calliope 2 1 [] {}).dev.cp 0).phase = false) := by
  decide +kernel

/-- A port whose last packet ended at tick 100, at tick n, with GAP at 2 bit times. -/
def quiet (n : Nat) : State :=
  calliope 1 1 [(Fld.CLP_x_CTL.GAP 0, 2)] { quietSince := some 100, txFifo := [packet] } |> fun s => { s with dev := { s.dev with ticks := n } }

theorem witness_GapsAndSyncWords :
    ((quiet 109220).dev.clpTxState 0 ≠ 2 ∧ (quiet 109220).dev.clpMaySend 0 = true ∧ ((quiet 109220).dev.cp 0).quietSince = some 100 ∧
      100 + 54560 * (quiet 109220).dev.get (Fld.CLP_x_CTL.GAP 0) ≤ (quiet 109220).dev.ticks ∧
      (quiet 109219).dev.ticks < 100 + 54560 * (quiet 109219).dev.get (Fld.CLP_x_CTL.GAP 0)) ∧
    (((List.range 32).filter (fun i => ((0x5E39B2C4 : BitVec 32) ^^^ 0x5E39B2C7).getLsbD i)).length ≤ 2 ∧
      ((List.range 32).filter (fun i => ((0xA1C64D3B : BitVec 32) ^^^ (~~~0x5E39B2C7)).getLsbD i)).length ≤ 2 ∧
      2 < ((List.range 32).filter (fun i => ((0 : BitVec 32) ^^^ 0x5E39B2C7).getLsbD i)).length ∧
      2 < ((List.range 32).filter (fun i => ((0 : BitVec 32) ^^^ (~~~0x5E39B2C7)).getLsbD i)).length) := by
  decide +kernel

/-- A power that captures the receiver, and one that does not. -/
theorem witness_captures :
    (calliope 3 1 [] {}).dev.getInt (Fld.CLP_x_RSSI.LAST 0) + 2 * ((calliope 3 1 [] {}).dev.get (Fld.CLP_x_RX_CTL.CAP_THR 0) : Int) ≤ 1000 ∧
    ¬ ((calliope 3 1 [] {}).dev.getInt (Fld.CLP_x_RSSI.LAST 0) + 2 * ((calliope 3 1 [] {}).dev.get (Fld.CLP_x_RX_CTL.CAP_THR 0) : Int) ≤ -1000) := by
  decide +kernel

theorem witness_packets :
    Working 12 (calliope 3 1 [] {}) ∧ (calliope 3 1 [] {}).dev.isSet (Fld.CLP_x_STATUS.INV 0) = false ∧
    3 < (0x4000 : BitVec 16).toNat / 4096 ∧ 64 < (0x0041 : BitVec 16).toNat % 128 ∧
    (0x2003 : BitVec 16).toNat / 4096 = 2 ∧ sliceBytes echoBytes 0 ((0x2003 : BitVec 16).toNat % 128) = echoBytes ∧ echoBytes.head? = some 0 ∧
    crc16 (beBytes 2 (0x2003 : BitVec 16).toNat ++ echoBytes) = crcOf 0x2003 echoBytes ∧
    crc16 (beBytes 2 (0x2003 : BitVec 16).toNat ++ echoBytes) ≠ ~~~(crcOf 0x2003 echoBytes) ∧
    ((calliope 3 1 (asked 0) { rxFifo := List.replicate 15 received }).dev.cp 0).rxFifo.length < 16 ∧
    (calliope 3 1 (asked 0) {}).dev.isSet (Fld.CLP_x_CTL.ECHO_EN 0) = true ∧ ((calliope 3 1 (asked 0) {}).dev.cp 0).echo = none ∧
    16 ≤ ((calliope 3 1 (asked 0) { rxFifo := List.replicate 16 received }).dev.cp 0).rxFifo.length ∧
    beatBytes.length = 12 ∧ (calliope 3 1 partner {}).dev.hbEntry 0 beatBytes = some 0 ∧
    helloBytes.length = 16 ∧ (∀ i : Fin 16, (calliope 3 1 [] {}).dev.ptValid 0 i = false) ∧ (calliope 3 1 partner {}).dev.ptValid 0 0 = true := by
  decide +kernel


/-! ### Horug chain -/

/-- Both links on over octet 0, whose lanes 0 and 4 are UP; position 1 of a ring of 3; links in RUN or not; further fields and
the block's hidden part. -/
def onChain (run : Nat) (l : List (Fld × Nat)) (f : ChnState → ChnState) : State :=
  dev (fun d => flds ([(⟨Reg.CHN_CTL, 1, 0⟩, 3), (Fld.CHN_CTL.OCTET, 0), (Fld.HST_OCTET_CTL.EN 0, 1), (Fld.HST_LANE_STATUS.STATE 0, 3), (Fld.HST_LANE_STATUS.STATE 4, 3),
      (Fld.CHN_STATUS.POS_VALID, 1), (Fld.CHN_STATUS.POS, 1), (Fld.CHN_STATUS.N, 3), (Fld.CHN_LINK_STATUS.RUN 0, run),
      (Fld.CHN_LINK_STATUS.RUN 1, run)] ++ l)
    { regs [(Reg.STR_ACTIVE, 0x80)] d with tc := 10 * tcSecond, chn := f d.chn })

/-- Content of a frame: its sync word, then zeros. -/
def frameBody (sync : Nat) : List Byte := beBytes 2 sync ++ List.replicate 1082 0
/-- A frame with its CRC. -/
def linkFrame (sync : Nat) : List Byte := frameBody sync ++ beBytes 4 (crc32c (frameBody sync)).toNat

/-- A CTRL transaction. -/
def trans (op tag addr : Nat) : CtrlTrans := { op := op, req := 5, tag := tag, addr := addr }
/-- A remote event that waits. -/
def waits (line time : Nat) : ChainWait :=
  { event := { line := line, rise := true, orig := 2, seq := 1, origin := 0 }, time := time, link := some 0 }

/-- This module follows the time of its upstream neighbour, whose offset is measured. -/
def following (offset : Int) : State :=
  onChain 1 [(Fld.CHN_CTL.TIME_FOLLOW, 1)] (fun c => { c with links := [(0, { offset := offset, meas := 30 })] })
/-- ORIG set, SYNC_IN asserted. -/
def originating (orig : Nat) : State :=
  { onChain 1 [(Fld.CHN_CTL.ORIG, orig)] id with
    dev := { (onChain 1 [(Fld.CHN_CTL.ORIG, orig)] id).dev with tim := { syncIn := { level := true } } } }
/-- A transaction executed here, with a stage that reaches the registers or not. -/
def executing (stage : Nat) (l : List (Fld × Nat)) : State :=
  onChain 1 ([(Fld.SEC_BOOT_STATUS.STAGE, stage)] ++ l) (fun c => { c with ctrlIn := [trans 1 9 0x900000] })
/-- A completion for the outstanding transaction, or for another. -/
def completing (tag : Nat) : State := onChain 1 [] (fun c => { c with pendingTag := [(5, 9)], done := [trans 3 tag 0] })

theorem witness_HorugLinksEventsTimeAndForwarding :
    (Working 14 (onChain 1 [] id) ∧ (onChain 1 [] id).dev.linkOn 1 = true ∧ (onChain 1 [] id).dev.linkLanes 1 ≠ [] ∧
      (onChain 1 [(⟨Reg.CHN_CTL, 1, 0⟩, 0)] id).dev.linkOn 0 = false ∧ (onChain 1 [(⟨Reg.CHN_CTL, 1, 0⟩, 0)] id).dev.linkLanes 0 = [] ∧
      (onChain 1 [] id).dev.chn.learned = [] ∧ (onChain 1 [] id).dev.get (Fld.CHN_LINK_STATUS.RUN 1) = 1) ∧
    (Working 14 (following 1000) ∧ (following 1000).dev.get Fld.CHN_CTL.TIME_FOLLOW = 1 ∧ (following 1000).dev.posValid = true ∧
      (following 1000).dev.chainPos ≠ 0 ∧ (following 1000).dev.upstream = some 0 ∧ (following 1000).dev.linkRun 0 = true ∧
      ((following 2000030).dev.theta 0).natAbs = 1000000 ∧ 1000000 < ((following 2000032).dev.theta 0).natAbs ∧
      (onChain 1 [] id).dev.get Fld.CHN_CTL.TIME_FOLLOW = 0) ∧
    ((onChain 1 [] id).dev.chn.waiting = [] ∧
      (onChain 1 [] (fun c => { c with waiting := [waits 5 9, waits 8 7] })).dev.nextChainWait = some (waits 8 7) ∧
      (onChain 1 [] (fun c => { c with waiting := [waits 7 9] })).dev.nextChainWait = some (waits 7 9)) ∧
    ((originating 2).dev.reaches .trusted 14 = true ∧ (originating 2).dev.get Fld.CHN_CTL.ORIG = 2 ∧
      (originating 1).dev.get Fld.CHN_CTL.ORIG = 1 ∧ (originating 1).dev.tim.syncIn.level = true ∧
      (originating 2).dev.reaches (.ac 0) 14 = false ∧ (onChain 1 [] id).dev.tim.syncIn.level = false) ∧
    (Writable .trusted 14 (onChain 1 [] id) ∧ (onChain 1 [] id).dev.chn.pendingTag.any (fun e => e.1 == 5) = false ∧
      (completing 9).dev.chn.pendingTag.any (fun e => e.1 == 5) = true ∧
      (onChain 1 [(Fld.CHN_FWD_ADDR.DST 5, 2)] id).dev.routeTo 1 2 = some 1 ∧
      (onChain 1 [(Fld.CHN_FWD_ADDR.DST 5, 1)] id).dev.routeTo 1 1 = none) ∧
    ((completing 9).dev.chn.done = [trans 3 9 0] ∧ (completing 9).dev.chn.pendingTag.any (fun e => e.1 == 5 && e.2 == 9) = true ∧
      (completing 8).dev.chn.pendingTag.any (fun e => e.1 == 5 && e.2 == 8) = false) ∧
    (Working 14 (executing 4 []) ∧ (executing 4 []).dev.chn.ctrlIn = [trans 1 9 0x900000] ∧ (executing 4 []).dev.restructuring 7 = false ∧
      (executing 4 []).dev.reaches .pcie (0x900000 / 0x100000) = true ∧ (executing 0 []).dev.reaches .pcie (0x900000 / 0x100000) = false ∧
      (executing 4 [(⟨Reg.STR_STATE, 31, 31⟩, 1)]).dev.restructuring 7 = true) := by
  decide +kernel

/-- The neighbour on link 0 is at position 2; SIZE_ERR is set. -/
def besideTwo : State :=
  onChain 1 [(Fld.CHN_LINK_STATUS.NB_VALID 0, 1), (Fld.CHN_STATUS.SIZE_ERR, 1)] (fun c => { c with links := [(0, { nbPos := some 2 })] })

theorem witness_SizeErrors :
    Working 14 besideTwo ∧ besideTwo.dev.wantedPos = some 3 ∧ besideTwo.dev.get Fld.CHN_STATUS.HEAD_CONFLICT = 0 ∧
      besideTwo.dev.get Fld.CHN_STATUS.CABLE_ERR = 0 := by
  decide +kernel

theorem witness_linkFrames (n : Nat) (h : n < 65536) :
    (linkFrame n).length = 1088 ∧ (crc32c ((linkFrame n).take 1084)).toNat = beAt (linkFrame n) 1084 4 ∧ beAt (linkFrame n) 0 2 = n := by
  have hl : (frameBody n).length = 1084 := by
    rw [frameBody, List.length_append, List.length_replicate, beBytes_length]
  refine ⟨(linkFrame_crc _ hl).1, (linkFrame_crc _ hl).2, ?_⟩
  simp only [linkFrame, frameBody, List.append_assoc]
  exact beAt_beBytes_append _ 2 n h


/-! ### The trusted core -/

/-- A request: CMD, LEN, TAG, payload. -/
def request (cmd : Nat) (p : List Byte) : List Byte := leBytes 2 cmd ++ leBytes 2 p.length ++ leBytes 4 0x11223344 ++ p

/-- A stage, a request on channel 1, further fields, and the rest of block SEC. -/
def asking (stage : Nat) (x : List Byte) (l : List (Fld × Nat)) (f : SecState → SecState) (v : MbChannel → MbChannel) : State :=
  dev (fun d => flds ([(Fld.SEC_BOOT_STATUS.STAGE, stage)] ++ l) { d with sec := f { d.sec with chans := [(1, v { req := some x })] } })

/-- A payload of n bytes that begins with given ones. -/
def payload (n : Nat) (l : List Byte) : List Byte := l ++ List.replicate (n - l.length) 0

/-- A chip in a stage with a boot strap. -/
def strapped (stage : Nat) (sel : BitVec 2) : State :=
  dev (fun d => flds [(Fld.SEC_BOOT_STATUS.STAGE, stage)] { d with straps := { d.straps with bootSel := sel } })

/-- A valid copy of the bank-select record in the flash. -/
def bankCopyBytes : List Byte :=
  let h := leBytes 4 0x52534250 ++ leBytes 4 7 ++ [0, 1, 0, 0]
  h ++ leBytes 4 (crc32c h).toNat

/-- A boot flash whose first copy of the record is valid. -/
def recorded : List (Nat × Byte) := bankCopyBytes.zipIdx.map (fun e => (e.2, e.1))

/-- A watchdog of one millisecond, kicked at tick 0, at tick n. -/
def watching (n : Nat) : State :=
  dev (fun d => flds [(Fld.SEC_WDT_CTL.EN, 1), (Fld.SEC_WDT_CTL.PERIOD, 1)] { d with ticks := n, sec := { d.sec with kick := 0 } })

/-- A request to erase slot 0, which flow 1, the first flow that encrypts, owns; the slot's status is v. -/
def keyed (v : Nat) : State :=
  let s := asking 4 (request 0x12 [0, 0]) [] id id
  { s with dev := regs [(Reg.STR_ACTIVE, 8), (Reg.CRY_KS_STATE 0, v)] { s.dev with
      str := { active := [(3, body [] [{ flow := 1, home := 0, encrypt := true, isProtected := false, slots := 1, ctype := 0x10 }])] } } }

theorem witness_BootStagesAndWatchdog :
    (Running (strapped 0 1) ∧ (strapped 0 1).dev.stage = 0 ∧ (strapped 0 1).dev.straps.bootSel = 1 ∧
      (strapped 0 0).dev.stage = 0 ∧ (strapped 0 0).dev.straps.bootSel ≠ 1 ∧ (strapped 4 0).dev.stage ≠ 0) ∧
    ((strapped 1 0).dev.stage = 1 ∧ (strapped 2 0).dev.stage ≠ 1) ∧
    (((strapped 1 0).dev.stage ≠ 2 ∧ (strapped 1 0).dev.stage ≠ 3) ∧ (strapped 2 2).dev.stage = 2 ∧
      (strapped 2 2).dev.straps.bootSel = 2 ∧ (strapped 3 0).dev.stage = 3 ∧ (strapped 3 0).dev.straps.bootSel ≠ 1 ∧
      (strapped 3 0).dev.straps.bootSel ≠ 2) ∧
    (Writable .trusted 15 State.reset ∧ State.reset.dev.get Fld.SEC_WDT_CTL.EN = 0 ∧
      (watching 1120000).dev.get Fld.SEC_WDT_CTL.EN = 1 ∧
      (watching 1120000).dev.sec.kick + (watching 1120000).dev.get Fld.SEC_WDT_CTL.PERIOD * 1120000 ≤ (watching 1120000).dev.ticks ∧
      (watching 1119999).dev.ticks < (watching 1119999).dev.sec.kick + (watching 1119999).dev.get Fld.SEC_WDT_CTL.PERIOD * 1120000) := by
  decide +kernel

theorem witness_MailboxServesRequests :
    ((0x01, Instr.getInfo 1) ∈ [(0x01, Instr.getInfo 1), (0x02, .getCert 1)]) ∧ ((State.reset.dev.chan 1).req = none ∧
      mbCmd (request 2 []) ≠ 1 ∧ ((asking 4 (request 1 [0]) [] id id).dev.chan 1).req = some (request 1 [0]) ∧
      (asking 4 (request 1 [0]) [] id id).dev.mbServes 1 = true ∧ mbCmd (request 1 [0]) = 1 ∧
      (asking 4 (request 1 [0]) [] id id).dev.mbRefusal (request 1 [0]) = some 0x21) ∧
    (Serving 1 0x01 (request 1 []) (asking 4 (request 1 []) [] id id) ∧
      Serving 1 0x02 (request 2 (payload 4 [1])) (asking 4 (request 2 (payload 4 [1])) [] id id)) ∧
    ((asking 4 (request 4 []) [] id id).dev.drbgOk = false ∧ Serving 1 0x04 (request 4 []) (asking 4 (request 4 []) [] id id) ∧
      Serving 1 0x03 (request 3 (payload 32 [])) (asking 4 (request 3 (payload 32 [])) [] id id)) ∧
    ((asking 4 (request 4 []) [(Fld.CRY_STATUS.DRBG_OK, 1)] id id).dev.drbgOk = true ∧
      Serving 1 0x10 (request 0x10 (payload 96 [])) (asking 4 (request 0x10 (payload 96 [])) [(Fld.CRY_STATUS.DRBG_OK, 1)] id id)) ∧
    (Serving 1 0x11 (request 0x11 (payload 44 [])) (asking 4 (request 0x11 (payload 44 [])) [(Fld.SEC_BOOT_STATUS.DEBUG, 2)] id id) ∧
      (asking 4 (request 0x11 (payload 44 [])) [(Fld.SEC_BOOT_STATUS.DEBUG, 2)] id id).dev.get Fld.SEC_BOOT_STATUS.DEBUG = 2 ∧
      (asking 4 (request 0x11 (payload 44 [])) [] id id).dev.get Fld.SEC_BOOT_STATUS.DEBUG ≠ 2 ∧
      511 < leAt (sliceBytes (request 0x11 (payload 44 [0, 2])) 8 44) 0 2 ∧ leAt (sliceBytes (request 0x11 (payload 44 [0xFF, 1])) 8 44) 0 2 ≤ 511 ∧
      (keyed 0x20).dev.slotActive 0 = true ∧ (asking 4 (request 0x11 (payload 44 [])) [] id id).dev.slotActive 0 = false ∧
      (asking 4 [] [(⟨Reg.STR_STATE, 27, 27⟩, 1)] id id).dev.restructuring 3 = true ∧ (asking 4 [] [] id id).dev.restructuring 3 = false) ∧
    (Serving 1 0x12 (request 0x12 [0, 2]) (asking 4 (request 0x12 [0, 2]) [] id id) ∧ leAt (request 0x12 [0, 2]) 8 2 = 512 ∧
      leAt (request 0x12 [0xFF, 1]) 8 2 = 511 ∧ Serving 1 0x12 (request 0x12 [0, 0]) (keyed 0x20) ∧ (keyed 0x20).dev.encFlows[0 / 2]? = some 1 ∧
      (keyed 0x20).dev.get (Fld.CRY_KS_STATE.RX_ACT 0) = 1 ∧ (keyed 0x10).dev.get (Fld.CRY_KS_STATE.TX_ACT 0) = 1 ∧ (keyed 1).dev.slotState 0 ≠ 0 ∧
      (asking 4 [] [] id id).dev.encFlows[0 / 2]? = none) ∧
    (((asking 4 (request 1 []) [] id (fun v => { v with reply := some (0x2B, []), discard := true })).dev.chan 1).reply = some (0x2B, []) ∧
      ((asking 4 (request 1 []) [] id (fun v => { v with reply := some (0x2B, []), discard := true })).dev.chan 1).discard = true ∧
      (asking 4 (request 1 []) [] (fun f => { f with flashBusy := some 1 }) id).dev.sec.flashBusy = some 1) := by
  refine ⟨List.mem_cons_self, ?_, ?_, ?_, ?_, ?_, ?_, ?_⟩ <;> decide +kernel

theorem witness_FusesFirmwareDebugAndRecovery :
    ((State.reset.dev.chan 1).challenge = none ∧
      ((asking 4 [] [] id (fun v => { v with challenge := some [7] })).dev.chan 1).challenge = some [7]) ∧
    ((asking 4 (request 0x21 (payload 104 [1])) [] (fun f => { f with fuseBusy := some 0 }) id).dev.fuseBusy = true ∧
      Serving 1 0x21 (request 0x21 (payload 104 [1])) (asking 4 (request 0x21 (payload 104 [1])) [] (fun f => { f with fuseBusy := some 0 }) id)) ∧
    (State.reset.dev.fuseBusy = false ∧ Serving 1 0x20 (request 0x20 (payload 200 [])) (asking 4 (request 0x20 (payload 200 [])) [] id id) ∧
      Serving 1 0x22 (request 0x22 (payload 100 [])) (asking 4 (request 0x22 (payload 100 [])) [] id id) ∧
      Serving 1 0x23 (request 0x23 (payload 104 [0, 64])) (asking 4 (request 0x23 (payload 104 [0, 64])) [] id id) ∧
      leAt (request 0x23 (payload 104 [0, 64])) 8 1 = 0 ∧ leAt (request 0x23 (payload 104 [1, 32])) 8 1 = 1) ∧
    (Serving 1 0x30 (request 0x30 (payload 16 [1, 1])) (asking 4 (request 0x30 (payload 16 [1, 1])) [] id id) ∧
      State.reset.dev.flashLoading = false ∧ State.reset.dev.sec.flashBusy = none ∧
      leAt (request 0x30 (payload 16 [1, 1])) 8 1 = 1 ∧ leAt (request 0x30 (payload 16 [1, 1])) 9 1 = 1 ∧
      (asking 4 [] [] id id).dev.bankRuns 1 1 = false ∧ (asking 4 [] [] id id).dev.bankRuns 1 0 = true ∧
      leAt (request 0x30 (payload 16 [1, 1])) 12 8 + leAt (request 0x30 (payload 16 [1, 1])) 20 4 ≤ hbmBytes) ∧
    (Serving 1 0x31 (request 0x31 [0xFF, 0xFF]) (asking 4 (request 0x31 [0xFF, 0xFF]) [] (fun f => { f with flash := recorded }) id) ∧
      (asking 4 (request 0x31 [0xFF, 0xFF]) [] (fun f => { f with flash := recorded }) id).dev.bankRecord = some (0, 7, 0, 1)) ∧
    Serving 1 0x40 (request 0x40 (payload 104 [2])) (asking 4 (request 0x40 (payload 104 [2])) [] id id) ∧
    (Serving 0 0x50 (request 0x50 (payload 16 [1])) (dev (fun d => flds [(Fld.SEC_BOOT_STATUS.STAGE, 6)]
        { d with sec := { d.sec with chans := [(0, { req := some (request 0x50 (payload 16 [1])) })] } })) ∧
      leAt (request 0x50 (payload 16 [1])) 8 1 = 1 ∧ leAt (request 0x50 (payload 16 [3])) 8 1 = 3) := by
  refine ⟨?_, ?_, ?_, ?_, ?_, ?_, ?_⟩ <;> decide +kernel


/-! ### Faults, power and housekeeping -/

/-- A chip with causes of faults on their way, each with its tick. -/
def causing (l : List (Nat × Nat)) (msi : Bool) : State := dev (fun d => { d with arising := l, msiDue := msi })

/-- A cause of source 204 on its way, that source set as the fields say. -/
def caused (l : List (Fld × Nat)) : State :=
  dev (fun d => flds l { d with causes := [204], arising := [(204, 9)], ticks := 5000, msiDue := true, msiFrom := 5000 })

/-- Source 204 with a real cause that stands. -/
def standing (l : List (Fld × Nat)) : State := dev (fun d => flds l { d with causes := [204], msiDue := true, msiFrom := 1 })

/-- A chip with an injection of source 3 held. -/
def injecting : State := dev (flds [(Fld.FLT_SRC.INJ_HOLD 3, 1)])

/-- Register fields and the rest of block PWR. -/
def housed (l : List (Fld × Nat)) (f : PwrState → PwrState) : State := dev (fun d => flds l { d with pwr := f d.pwr })

theorem witness_FaultsStickFireAndClear :
    (populated 3 = false ∧ populated 0 = true ∧ populated 575 = false ∧ State.reset.dev.get (Fld.FLT_SRC.EN 0) = 1 ∧
      (dev (flds [(Fld.FLT_SRC.EN 0, 0)])).dev.get (Fld.FLT_SRC.EN 0) = 0) ∧
    (State.reset.dev.get Fld.FLT_FIRST.FIRST_VALID = 0 ∧
      (dev (flds [(Fld.FLT_FIRST.FIRST_VALID, 1)])).dev.get Fld.FLT_FIRST.FIRST_VALID = 1) ∧
    (Running (causing [(5, 9), (6, 9)] true) ∧ (causing [(5, 9), (6, 9)] true).dev.arising.find? (fun e => e.1 == 4) = none ∧
      (causing [(5, 9), (6, 9)] true).dev.arising.find? (fun e => e.1 == 6) = some (6, 9) ∧
      (causing [(5, 9), (6, 9)] true).dev.msiDue = true ∧ State.reset.dev.msiDue = false) ∧
    (Writable .trusted 16 State.reset ∧ State.reset.dev.realAt 0 = false ∧ State.reset.dev.injHeld 0 = false) ∧
    ((dev (flds [(Fld.FLT_SRC.INJ_HOLD 1, 1), (Fld.FLT_SRC.EN 0, 0)])).dev.anyHold = true ∧
      (dev (flds [(Fld.FLT_SRC.INJ_HOLD 1, 1), (Fld.FLT_SRC.EN 0, 0)])).dev.get (Fld.FLT_SRC.EN 0) = 0 ∧
      (dev (flds [(Fld.FLT_SRC.INJ_HOLD 1, 1), (Fld.FLT_SRC.EN 0, 0)])).dev.linesOf 0x2400 = []) ∧
    (∀ f : Fin 576, State.reset.dev.realAt f = false ∧ State.reset.dev.injHeld f = false) := by
  refine ⟨?_, ?_, ?_, ?_, ?_, ?_⟩ <;> decide +kernel

theorem witness_FaultReactions :
    (∀ g : Fin 576, (caused []).dev.get (Fld.FLT_SRC.CHIP_RST g) = 0 ∧ (caused []).dev.get (Fld.FLT_SRC.BLK_RST g) = 0) ∧
    ((caused []).dev.arising.find? (fun e => e.1 == 204) = some (204, 9) ∧ (caused []).dev.linesOf (0x2400 + 204) = [] ∧
      (∀ e ∈ (caused []).dev.arising, e.2 = 9 → e.1 = 204) ∧ populated 204 = true ∧ (caused []).dev.get (Fld.FLT_SRC.EN 204) = 1 ∧
      (caused []).dev.get (Fld.FLT_SRC.STICKY 204) = 0 ∧ (caused []).dev.get (Fld.FLT_SRC.REAL 204) = 0 ∧
      (caused []).dev.get Fld.FLT_FIRST.FIRST_VALID = 0) ∧
    ((caused [(Fld.FLT_SRC.INT 204, 1), (Fld.FLT_CTL.INT_MSI, 1)]).dev.get (Fld.FLT_SRC.INT 204) = 1 ∧
      (caused [(Fld.FLT_SRC.INT 204, 1), (Fld.FLT_CTL.INT_MSI, 1)]).dev.get Fld.FLT_CTL.INT_MSI = 1) ∧
    ((caused [(Fld.FLT_SRC.CHIP_RST 204, 1), (Fld.FLT_STATUS.CHIP_ARM, 1)]).dev.get (Fld.FLT_SRC.CHIP_RST 204) = 1 ∧
      (caused [(Fld.FLT_SRC.CHIP_RST 204, 1), (Fld.FLT_STATUS.CHIP_ARM, 1)]).dev.get Fld.FLT_STATUS.CHIP_ARM = 1 ∧
      (caused [(Fld.FLT_SRC.CHIP_RST 204, 1)]).dev.get Fld.FLT_STATUS.CHIP_ARM = 0 ∧
      (caused [(Fld.FLT_SRC.BLK_RST 204, 1)]).dev.get (Fld.FLT_SRC.BLK_RST 204) = 1 ∧ 2 ≤ 204 / 32 ∧ 204 / 32 ≤ 14) := by
  refine ⟨?_, ?_, ?_, ?_⟩ <;> decide +kernel

theorem witness_FaultWrites :
    (∀ g : Fin 576, (standing []).dev.get (Fld.FLT_SRC.CHIP_RST g) = 0 ∧ (standing []).dev.get (Fld.FLT_SRC.BLK_RST g) = 0) ∧
    ((standing []).dev.realAt 204 = true ∧ (standing []).dev.injHeld 204 = false ∧ (standing []).dev.get (Fld.FLT_SRC.EN 204) = 1 ∧
      (standing [(Fld.FLT_SRC.EN 204, 0)]).dev.get (Fld.FLT_SRC.EN 204) = 0 ∧ (standing []).dev.anyHold = false ∧ Writable .trusted 16 (standing [])) ∧
    ((caused []).dev.msiDue = true ∧ (caused []).dev.msiFrom ≤ (caused []).dev.ticks ∧ (standing []).dev.ticks < (standing []).dev.msiFrom) := by
  refine ⟨?_, ?_, ?_⟩ <;> decide +kernel

theorem witness_SamplesDecisionsHousekeepingAndI2c :
    (off.dev.powered = false ∧ hold.dev.powered = true ∧ hold.dev.thermHold = true ∧ State.reset.dev.powered = true ∧
      State.reset.dev.thermHold = false ∧ (List.replicate 32 (250 : BitVec 16)).length = 32 ∧
      State.reset.dev.get Fld.PWR_LOG_CTL.LOG_EN = 0 ∧ (List.replicate 12 (0 : Word)).length = 12) ∧
    (State.reset.dev.get Fld.PWR_CAP.WATTS * 100 * State.reset.dev.pwr.samples ≥ State.reset.dev.pwr.sum ∧
      State.reset.dev.get Fld.PWR_STATUS.THROTTLE = 0 ∧ State.reset.dev.pwr.room < 99) ∧
    ((housed [] (fun p => { p with sum := 30000, samples := 1 })).dev.get Fld.PWR_CAP.WATTS * 100 *
        (housed [] (fun p => { p with sum := 30000, samples := 1 })).dev.pwr.samples <
        (housed [] (fun p => { p with sum := 30000, samples := 1 })).dev.pwr.sum ∧
      State.reset.dev.get Fld.PWR_TR_CTL.SHED_EN = 1 ∧ State.reset.dev.idleClusters &&& ~~~State.reset.dev.gated ≠ 0) ∧
    (Writable .trusted 17 State.reset ∧ (housed [(Fld.PWR_HK_CTL.CONV_BUSY, 1)] id).dev.hkBusy = true ∧
      (housed [(Fld.PWR_HK_CTL.CAL_BUSY, 0)] id).dev.hkBusy = false ∧ (housed [(Fld.PWR_HK_CTL.CAL_BUSY, 1)] id).dev.get Fld.PWR_HK_CTL.CAL_BUSY = 1 ∧
      (housed [(Fld.PWR_HK_CTL.CONV_BUSY, 1)] id).dev.get Fld.PWR_HK_CTL.CONV_BUSY = 1) ∧
    (Running State.reset ∧ State.reset.dev.pwr.conv = none ∧ (housed [] (fun p => { p with conv := some 63 })).dev.pwr.conv = some 63 ∧
      (housed [] (fun p => { p with calDue := false })).dev.pwr.calDue = false ∧
      (housed [] (fun p => { p with next := some 0 })).dev.pwr.next = some 0) ∧
    ((0x47 : BitVec 7) ≠ 0x48 + State.reset.dev.straps.i2cAddr.setWidth 7 ∧
      (0x48 : BitVec 7) = 0x48 + State.reset.dev.straps.i2cAddr.setWidth 7) := by
  refine ⟨?_, ?_, ?_, ?_, ?_, ?_⟩ <;> decide +kernel

theorem witness_EngineWordsReadBack :
    EngIns.valid (.addi 1 2 0x3FFF) = true ∧ EngIns.decode 0 = some .nop ∧ EngIns.valid (.jmp 4095) = true ∧
      0x18 < ((0xFFFFFFFF : Word) >>> 26).toNat := by
  decide +kernel


/-! ### Ill-formed commands are refused -/

theorem test_wf_access_outside_bar0 : (Instr.registerWrite .pcie ⟨0x10000000, 4, 0xF, none⟩).wf = false := by decide +kernel
theorem test_wf_access_without_bytes : (Instr.registerWrite .pcie ⟨0, 0, 0xF, none⟩).wf = false := by decide +kernel
theorem test_wf_rc_read_unaligned : (Instr.rcRead .pcie 0x200002).wf = false := by decide +kernel
theorem test_wf_lo_read_unaligned : (Instr.loReadSnapshot .pcie 1).wf = false := by decide +kernel
theorem test_wf_hi_write_outside : (Instr.hiWriteApply .pcie 0x10000000 0).wf = false := by decide +kernel
theorem test_wf_los_exit_fifteen : (Instr.losExit 0 (List.replicate 15 0)).wf = false := by decide +kernel
theorem test_wf_sync_loss_three : (Instr.syncLoss 0 [(0, 0), (0, 0), (0, 0)]).wf = false := by decide +kernel
theorem test_wf_guard_lags : (Instr.guardWindow 0 ⟨1, 1, []⟩ ⟨1, 1, []⟩).wf = false := by decide +kernel
theorem test_wf_tti_short : (Instr.ohAccept (.smTti 0 [])).wf = false := by decide +kernel
theorem test_wf_msi_flow : (Instr.ohAccept (.opuMsi 0 [some 1280])).wf = false := by decide +kernel
theorem test_wf_block_empty : (Instr.cryptoBlockTx 0 []).wf = false := by decide +kernel
theorem test_wf_block_following : (Instr.cryptoBlockRx 0 [⟨1, List.replicate 48 0, [], []⟩] ⟨1, [], [], []⟩).wf = false := by decide +kernel
theorem test_wf_dup_overhead : (Instr.mergeDup 0 ⟨1, [], [], []⟩).wf = false := by decide +kernel
theorem test_wf_copy_overhead : (Instr.mergeCopy 0 .pathW ⟨1, [], [], []⟩ false).wf = false := by decide +kernel
theorem test_wf_lane_fir : (Instr.signalDetect 0 { fir := [] }).wf = false := by decide +kernel
theorem test_wf_lane_ctle : (Instr.trainDone 0 { ctle := 33 }).wf = false := by decide +kernel
theorem test_wf_tsucor_length : (Instr.tsucorFrameRx 0 []).wf = false := by decide +kernel
theorem test_wf_link_length : (Instr.linkFrameRx 0 []).wf = false := by decide +kernel
theorem test_wf_link_cell : (Instr.linkFrameTx 0 [⟨0, true, List.replicate 513 0⟩]).wf = false := by decide +kernel
theorem test_wf_descriptor : (Instr.dmaDescriptor 0 []).wf = false := by decide +kernel
theorem test_wf_window : (Instr.queueCaptureWrite 0 (.window 0 0 0 (.octets (List.replicate 65 0))) false).wf = false := by decide +kernel
theorem test_wf_retry_window : (Instr.tapRetry 0 (.window 0 0 0 (.octets (List.replicate 65 0)))).wf = false := by decide +kernel
theorem test_wf_window_lanes : (Instr.tapRetry 0 (.window 0 0 0 (.lanes (List.replicate 9 [])))).wf = false := by decide +kernel
theorem test_wf_prbs_errors : (Instr.prbsLoss 0 ⟨4097, 4097⟩).wf = false := by decide +kernel
theorem test_wf_frame_head : (Instr.mfCheckFrame (.port 0) (List.replicate 513 0)).wf = false := by decide +kernel
theorem test_wf_pm_offset : (Instr.pmMatch 0 [(some 65536, 0)]).wf = false := by decide +kernel
theorem test_wf_packet_length : (Instr.packetReceived 0 0 (List.replicate 128 0) 0 []).wf = false := by decide +kernel
theorem test_wf_sensors : (Instr.tempSample (List.replicate 33 0)).wf = false := by decide +kernel
theorem test_wf_domains : (Instr.powerSample 0 0 (List.replicate 13 0) false).wf = false := by decide +kernel

/-! ### Words of probe engines, written out from Table 2 of 11_probe_engines.md -/

theorem test_word_nop : EngIns.decode 0 = some .nop := by decide +kernel
/-- ADD x3, x4, x5: opcode 0x02, rd 3, ra 4, rb 5, fn 0. -/
theorem test_word_add : EngIns.decode 0b00001000001100010000010100000000 = some (.alu 3 4 5 0) := by decide +kernel
/-- fn 8 is invalid. -/
theorem test_word_fn_eight : EngIns.decode 0b00001000001100010000010100001000 = none := by decide +kernel
/-- ADDI x1, x1, −1: opcode 0x03, imm all ones. -/
theorem test_word_addi : EngIns.decode 0b00001100000100000111111111111111 = some (.addi 1 1 0x3FFF) := by decide +kernel
/-- BR NE x2, x3, 0x123: opcode 0x06, ra 2, rb 3, cond 1. -/
theorem test_word_br : EngIns.decode 0b00011000001000001101000100100011 = some (.br 1 2 3 0x123) := by decide +kernel
/-- WAIT ALL of latch 16: opcode 0x0A, bit 25, mask bit 16. -/
theorem test_word_wait : EngIns.decode 0b00101010000000010000000000000000 = some (.wait true false 0x10000) := by decide +kernel
/-- TSET t = 7, x9, P: opcode 0x0E. -/
theorem test_word_tset : EngIns.decode 0b00111000100100000000000000001111 = some (.tset 7 9 true) := by decide +kernel
/-- CNT RD x6 from C255: opcode 0x10, op 3. -/
theorem test_word_cnt : EngIns.decode 0b01000000011011000000000011111111 = some (.cnt 3 6 255) := by decide +kernel
/-- CAP MARK on tap 95 with x1: opcode 0x12, cmd 2; tap 96 is invalid. -/
theorem test_word_cap : EngIns.decode 0b01001000000100100101111100000000 = some (.cap 2 95 1) ∧
    EngIns.decode 0b01001000000100100110000000000000 = none := by decide +kernel
/-- PLAY STOP of player 63: opcode 0x14, cmd 2. -/
theorem test_word_play : EngIns.decode 0b01010000000000100011111100000000 = some (.play 2 63 0) := by decide +kernel

/-! ### Small steps -/

/-- The device of the next state of a command. -/
def after (i : Instr) (s : State) : Dev :=
  match exec i s with
  | .next t => t.dev
  | _ => s.dev

/-- A shadow hold bit is read back as written (GLB_SHADOW_HOLD, R37). -/
theorem test_hold_written : (after (.registerWrite .trusted ⟨0x20, 4, 0xF, some 0x4⟩) State.reset).reg 0x20 = 0x4 := by decide +kernel
/-- A halfword write has no effect but its fault (R7). -/
theorem test_halfword_discarded : (after (.registerWrite .trusted ⟨0x20, 2, 0xF, some 0x4⟩) State.reset).reg 0x20 = 0 := by decide +kernel
/-- A fence holds the token it was written with (R46). -/
theorem test_fence_token : (after (.glbFence .trusted 0xBEEF) State.reset).get (Fld.GLB_FENCE.TOKEN 5) = 0xBEEF := by decide +kernel
/-- SOFT is bit 2 of GLB_RESET_CAUSE after a chip reset by software (R52). -/
theorem test_chip_reset_cause : (after (.chipReset .trusted 0x6B1D true) State.reset).bitAt Reg.GLB_RESET_CAUSE 2 = true := by
  decide +kernel
/-- A rate of 51 is out of range and keeps M (R89). -/
theorem test_rate_out_of_range : (after (.cnvRateWrite .trusted 0 51) State.reset).lnM 0 = State.reset.dev.lnM 0 := by decide +kernel
/-- A rate of 50 is stored (R89). -/
theorem test_rate_stored : (after (.cnvRateWrite .trusted 0 50) State.reset).lnM 0 = 50 := by decide +kernel
/-- An idle tick counts. -/
theorem test_idle_tick : (match step State.reset with | .next t => t.dev.ticks | _ => 0) = 1 := by decide +kernel
/-- ARM sets CHIP_ARM (R515). -/
theorem test_arm : (after (.arm .trusted) State.reset).get Fld.FLT_STATUS.CHIP_ARM = 1 := by decide +kernel
/-- A housekeeping conversion above the scale reads 4095 (R535). -/
theorem test_hk_clamps : (after (.hkConversionDone 5000) (housed [] (fun p => { p with conv := some 3 }))).get Fld.PWR_HK_DATA.CODE = 4095 := by
  decide +kernel
/-- The status target answers at 0x48 with straps 0 (R548). -/
theorem test_i2c_offset : (after (.i2cWrite 0x48 [65] true) State.reset).i2c.offset = 1 := by decide +kernel
/-- CRC-32C of the digits 1 to 9. -/
theorem test_crc32c : crc32c [0x31, 0x32, 0x33, 0x34, 0x35, 0x36, 0x37, 0x38, 0x39] = 0xE3069283 := by decide +kernel
/-- A time below zero stays at zero (R439). -/
theorem test_tc_sat : tcSat (-1) = 0 := by decide +kernel

end Sys2Proof.Tests
end

section
/-! SUPPORT. Register accesses (00_scope.md): what storing a written word leaves of the old one, what a read answers and changes,
and what a write does by access code. -/

namespace Sys2Proof.Machine

/-! ### Frames of a changed device -/

/-- A change of the device alone frames what its registers keep. -/
theorem Frame.ofDev {l : List Nat} {s : State} {d : Dev} (h : RegsKept l s.dev d) : Frame l s { s with dev := d } :=
  ⟨⟨rfl, rfl, rfl⟩, h⟩

/-- Equal register files hold the same registers, outside any list. -/
theorem RegsKept.ofRegs {l : List Nat} {d e : Dev} (h : e.regs = d.regs) : RegsKept l d e :=
  (RegsOut.refl (· ∉ l) d).same h

theorem regsKept_singleton {a : Nat} {d e : Dev} (h : ∀ b, b ≠ a → e.reg b = d.reg b) : RegsKept [a] d e :=
  fun b hb => h b (by simpa using hb)

/-! ### Words merged under a mask -/

/-- Clearing no bits keeps the word. -/
theorem word_and_not_zero (w : Word) : w &&& ~~~(0 : Word) = w := BitVec.and_allOnes

/-- A mask of no bits keeps the word. -/
@[simp] theorem mergeShadow_zero (w v : Word) : mergeShadow 0 w v = w := by
  rw [mergeShadow, word_and_not_zero]; simp

/-- A mask of all bits takes the other word. -/
@[simp] theorem mergeShadow_allOnes (w v : Word) : mergeShadow (BitVec.allOnes 32) w v = v := by
  simp only [mergeShadow, BitVec.not_allOnes, BitVec.and_zero, BitVec.and_allOnes, BitVec.zero_or]

/-- Taking bits of one word under two masks is taking them under both together. -/
theorem mergeShadow_mergeShadow (m n w v : Word) : mergeShadow n (mergeShadow m w v) v = mergeShadow (m ||| n) w v := by
  apply BitVec.eq_of_getLsbD_eq
  intro i hi
  simp only [mergeShadow, BitVec.getLsbD_or, BitVec.getLsbD_and, BitVec.getLsbD_not, hi]
  cases m.getLsbD i <;> cases n.getLsbD i <;> simp

/-- Storing a field as it stands in the written word takes the field's bits from that word (R12). -/
theorem setBits_getBits {hi lo : Nat} (h : lo ≤ hi) (w v : Word) :
    setBits w hi lo (getBits v hi lo) = mergeShadow (maskBits hi lo) w v := by
  apply BitVec.eq_of_getLsbD_eq
  intro i hi'
  simp only [getLsbD_setBits h, testBit_getBits, mergeShadow, BitVec.getLsbD_or, BitVec.getLsbD_and, BitVec.getLsbD_not,
    getLsbD_maskBits h]
  by_cases hl : lo ≤ i <;> by_cases hh : i ≤ hi
  · have hw : i - lo < hi - lo + 1 := by omega
    simp [hi', hl, hh, hw]
  all_goals simp [hi', hl, hh]

/-! ### Masks of access codes (R12) -/

/-- Every RW field of the register with key a stores what is written. -/
def storesAsWritten (a : Nat) : Bool :=
  (regAt (keyAddr a)).all fun r => r.fields.all fun f => f.acc != .rw || (f.norm == .any && decide (f.lo ≤ f.hi))

/-- Storing fields one by one as written is taking the bits of all of them together. -/
theorem foldl_setBits_eq_mergeShadow (k : Access) (w v : Word) {l : List FieldDesc}
    (h : ∀ f ∈ l, f.acc = k → f.norm = .any ∧ f.lo ≤ f.hi) (m : Word) :
    l.foldl (fun w f => if f.acc = k then setBits w f.hi f.lo (f.norm.store (f.hi - f.lo + 1) (getBits v f.hi f.lo)) else w)
      (mergeShadow m w v) = mergeShadow (l.foldl (fun w f => if f.acc = k then w ||| maskBits f.hi f.lo else w) m) w v := by
  induction l generalizing m with
  | nil => rfl
  | cons f l ih =>
    have ih' := ih fun g hg => h g (List.mem_cons_of_mem _ hg)
    rw [List.foldl_cons, List.foldl_cons]
    split
    · next hk =>
      obtain ⟨hn, hl⟩ := h f (List.mem_cons_self ..) hk
      rw [hn, Norm.store, setBits_getBits hl, mergeShadow_mergeShadow, ih']
    · rw [ih']

/-- RW fields that store what is written take their bits from the written word (R12). -/
theorem storeInto_eq_mergeShadow {a : Nat} (ha : storesAsWritten a = true) {r : RegDesc} (hr : regAt (keyAddr a) = some r)
    (w v : Word) : r.storeInto .rw w v = mergeShadow (accMaskAt a .rw) w v := by
  have hf : ∀ f ∈ r.fields, f.acc = .rw → f.norm = .any ∧ f.lo ≤ f.hi := by
    simp only [storesAsWritten, hr, Option.all_some, List.all_eq_true, Bool.or_eq_true, bne_iff_ne, Bool.and_eq_true, beq_iff_eq,
      decide_eq_true_eq] at ha
    exact fun f hm hk => (ha f hm).resolve_left fun hne => hne hk
  have h0 := foldl_setBits_eq_mergeShadow .rw w v hf 0
  rw [mergeShadow_zero] at h0
  simp only [accMaskAt, hr]
  exact h0

/-! ### Addresses -/

/-- Requesters have codes of their own (Table 18 of 01_planes_and_datapath.md). -/
theorem requesterCode_injective : Function.Injective Requester.code := by
  intro r q h
  cases r <;> cases q <;> simp [Requester.code] at h ⊢ <;> omega

theorem requesterCode_lt (r : Requester) : r.code < 7 := by
  cases r <;> simp only [Requester.code] <;> omega

/-- The snapshots of two requesters have different keys (R19). -/
theorem snapKey_ne {r q : Requester} {a b : Nat} (h : r ≠ q) (ha : a < reqBase) (hb : b < reqBase) :
    snapKey r a ≠ snapKey q b := by
  have hc : r.code ≠ q.code := fun e => h (requesterCode_injective e)
  unfold snapKey reqBase at *
  omega

theorem snapKey_inj {r : Requester} {a b : Nat} (h : snapKey r a = snapKey r b) : a = b := Nat.add_left_cancel h

theorem keyAddr_of_lt {a : Nat} (h : a < reqBase) : keyAddr a = a := if_pos h

/-- A register that the requesters share, outside the window of queues, has its address for its key. -/
theorem keyOf_shared (d : Dev) (req : Requester) {a : Nat} (hp : perRequester a = false)
    (hq : a < 0x900400 ∨ 0x900460 ≤ a) : d.keyOf req a = a := by
  rw [Dev.keyOf, hp, if_neg (by simp), if_neg (by omega)]

/-- Whatever key a requester reaches an address under, the key's address is that address. -/
theorem keyAddr_keyOf (d : Dev) (req : Requester) {a : Nat} (h : a < reqBase) : keyAddr (d.keyOf req a) = a := by
  have hc := requesterCode_lt req
  have hq : reqBase ≤ queueBase := by decide
  unfold Dev.keyOf
  split
  · unfold keyAddr reqBase queueBase at *
    rw [if_neg (by omega), if_pos (by omega)]; omega
  · split
    · unfold keyAddr
      rw [if_neg (by omega), if_neg (by omega)]; omega
    · exact keyAddr_of_lt h

/-- No mailbox channel, no foreign access (R485). -/
theorem foreign_of_channelOf_none (req : Requester) {a : Nat} (h : channelOf a = none) : foreign req a = false := by
  simp [foreign, h]

/-- From 0x0120_0000 on no register stands (R8). -/
theorem regAt_beyond {a : Nat} (h : 0x1200000 ≤ a) : regAt a = none := by
  obtain ⟨k, hk⟩ : ∃ k, a / 0x100000 = k + 18 := ⟨a / 0x100000 - 18, by omega⟩
  rw [regAt, hk]
  rfl

theorem channelOf_beyond {a : Nat} (h : 0x1200000 ≤ a) : channelOf a = none := if_neg (by omega)

/-- The last offset that (count, stride) pairs lay out. -/
def dimsEnd : List (Nat × Nat) → Nat
  | [] => 0
  | (c, st) :: r => st * (c - 1) + dimsEnd r

/-- A copy that (count, stride) pairs lay out begins no later than the last one. -/
theorem dimsMatch_le_dimsEnd {l : List (Nat × Nat)} {off : Nat} (h : dimsMatch l off = true) : off ≤ dimsEnd l := by
  induction l generalizing off with
  | nil => simpa [dimsMatch, dimsEnd] using h
  | cons p r ih =>
    obtain ⟨c, st⟩ := p
    simp only [dimsMatch, Bool.and_eq_true, decide_eq_true_eq] at h
    obtain ⟨hc, hr⟩ := h
    calc off = st * (off / st) + off % st := (Nat.div_add_mod off st).symm
      _ ≤ st * (c - 1) + dimsEnd r := Nat.add_le_add (Nat.mul_le_mul_left st (by omega)) (ih hr)

/-- Every part of every wide value stands below 0x0120_0000. -/
theorem wideRegs_end : ∀ w ∈ wideRegs, w.1 + 4 * w.2.2 + dimsEnd w.2.1 ≤ 0x1200000 := by decide

theorem partOf_beyond {a : Nat} (h : 0x1200000 ≤ a) : partOf a = none := by
  unfold partOf
  simp only [List.findSome?_eq_none_iff, Option.map_eq_none_iff, List.find?_eq_none, List.mem_range, Bool.and_eq_true,
    decide_eq_true_eq]
  rintro w hw i hi ⟨-, hm⟩
  have he := wideRegs_end w hw
  have hd := dimsMatch_le_dimsEnd hm
  omega

/-! ### What a read answers and changes -/

@[simp] theorem Dev.readData_regs (d : Dev) (req : Requester) (w : Word) : (d.readData req w).regs = d.regs := rfl
@[simp] theorem Dev.readData_reg (d : Dev) (req : Requester) (w : Word) (a : Nat) : (d.readData req w).reg a = d.reg a := rfl
@[simp] theorem Dev.readData_shadow (d : Dev) (req : Requester) (w : Word) : (d.readData req w).shadow = d.shadow := rfl
@[simp] theorem Dev.readData_held (d : Dev) (req : Requester) (w : Word) : (d.readData req w).held = d.held := rfl
@[simp] theorem Dev.readData_snaps (d : Dev) (req : Requester) (w : Word) : (d.readData req w).snaps = d.snaps := rfl
@[simp] theorem Dev.readData_causes (d : Dev) (req : Requester) (w : Word) : (d.readData req w).causes = d.causes := rfl
@[simp] theorem Dev.readData_arising (d : Dev) (req : Requester) (w : Word) : (d.readData req w).arising = d.arising := rfl
/-- A read is answered with its data. -/
theorem Dev.get_rdata_readData (d : Dev) (req : Requester) (w : Word) :
    Sparse.get 0 (d.readData req w).rdata req.code = w := Sparse.get_insert_self _ _ _ _

/-- What a read of HST_TSU_ERR_CNT clears beside its RC fields: STUFF (R276). -/
def Dev.clearStuff (a : Nat) (d : Dev) : Dev :=
  if 0x830000 ≤ a ∧ a < 0x830C00 ∧ a % 0x40 = 0xC then d.stuffRead ((a - 0x830000) / 0x40) else d

@[simp] theorem Dev.clearStuff_reg (d : Dev) (a b : Nat) : (d.clearStuff a).reg b = d.reg b := by
  unfold Dev.clearStuff; split <;> rfl
@[simp] theorem Dev.clearStuff_snaps (d : Dev) (a : Nat) : (d.clearStuff a).snaps = d.snaps := by
  unfold Dev.clearStuff; split <;> rfl
@[simp] theorem Dev.clearStuff_causes (d : Dev) (a : Nat) : (d.clearStuff a).causes = d.causes := by
  unfold Dev.clearStuff; split <;> rfl
@[simp] theorem Dev.clearStuff_arising (d : Dev) (a : Nat) : (d.clearStuff a).arising = d.arising := by
  unfold Dev.clearStuff; split <;> rfl

theorem Dev.clearRc_unallocated {d : Dev} {a : Nat} (h : regAt (keyAddr a) = none) : d.clearRc a = d.clearStuff a := by
  simp only [Dev.clearRc, h, Dev.clearStuff]

theorem Dev.clearRc_allocated {d : Dev} {a : Nat} {r : RegDesc} (h : regAt (keyAddr a) = some r) :
    d.clearRc a = if r.rcMask = 0 then d.clearStuff a else (d.clearStuff a).setReg a (d.reg a &&& ~~~r.rcMask) := by
  rw [← Dev.clearStuff_reg d a a]
  simp only [Dev.clearRc, h]
  rfl

/-- Clearing RC fields keeps every snapshot. -/
@[simp] theorem Dev.clearRc_snaps (d : Dev) (a : Nat) : (d.clearRc a).snaps = d.snaps := by
  cases h : regAt (keyAddr a) with
  | none => simp [Dev.clearRc_unallocated h]
  | some r => rw [Dev.clearRc_allocated h]; split <;> simp

/-- The RC bits of the register that is read become 0, and every other register stays (R12). -/
theorem Dev.reg_clearRc (d : Dev) (a b : Nat) :
    (d.clearRc a).reg b = if b = a then d.reg a &&& ~~~accMaskAt a .rc else d.reg b := by
  cases h : regAt (keyAddr a) with
  | none =>
    have hm : accMaskAt a .rc = 0 := by simp only [accMaskAt, h]
    rw [Dev.clearRc_unallocated h, Dev.clearStuff_reg, hm, word_and_not_zero]
    split <;> simp [*]
  | some r =>
    have hm : accMaskAt a .rc = r.rcMask := by simp only [accMaskAt, h]; rfl
    rw [Dev.clearRc_allocated h, hm]
    split
    · next h0 =>
      rw [Dev.clearStuff_reg, h0, word_and_not_zero]
      split <;> simp [*]
    · rw [Dev.reg_setReg, Dev.clearStuff_reg]

/-- The side effect of reading an address under key a: RC fields are cleared and free values drawn, but not in a block in
reset. -/
def Dev.clearOnRead (addr a : Nat) (d : Dev) : Dev :=
  if d.inReset (addr / 0x100000) then d else { d.clearRc a with fresh := d.fresh + freeReads addr }

@[simp] theorem Dev.clearOnRead_snaps (d : Dev) (addr a : Nat) : (d.clearOnRead addr a).snaps = d.snaps := by
  unfold Dev.clearOnRead; split <;> simp

theorem Dev.clearOnRead_working {d : Dev} {addr a : Nat} (h : d.inReset (addr / 0x100000) = false) :
    d.clearOnRead addr a = { d.clearRc a with fresh := d.fresh + freeReads addr } := by
  simp [Dev.clearOnRead, h]

/-- Reading where no register stands changes no register and no cause (R8). -/
theorem Dev.clearOnRead_unallocated {d : Dev} {addr a : Nat} (h : regAt (keyAddr a) = none) :
    (∀ b, (d.clearOnRead addr a).reg b = d.reg b) ∧ (d.clearOnRead addr a).arising = d.arising ∧
      (d.clearOnRead addr a).causes = d.causes := by
  unfold Dev.clearOnRead
  split
  · exact ⟨fun _ => rfl, rfl, rfl⟩
  · rw [Dev.clearRc_unallocated h]
    exact ⟨d.clearStuff_reg a, d.clearStuff_arising a, d.clearStuff_causes a⟩

/-- The device with snapshots of the n registers that follow an address, as a requester sees them (R18). -/
def Dev.snapParts (req : Requester) (addr n : Nat) (d : Dev) : Dev :=
  { d with snaps := (List.range n).foldl (fun m i =>
      Sparse.insert (snapKey req (addr + 4 * (i + 1))) (d.view req.code (d.keyOf req (addr + 4 * (i + 1)))) m) d.snaps }

/-- After a run of insertions a key that was listed reads the value listed with it. -/
theorem Sparse.get_foldl_insert_mem {α : Type} (d : α) (k : Nat → Nat) (v : Nat → α) {l : List Nat} {i : Nat} (hi : i ∈ l)
    (hk : ∀ j ∈ l, k j = k i → j = i) (m : List (Nat × α)) :
    Sparse.get d (l.foldl (fun m j => Sparse.insert (k j) (v j) m) m) (k i) = v i := by
  induction l using List.reverseRecOn with
  | nil => simp at hi
  | append_singleton l j ih =>
    rw [List.foldl_append, List.foldl_cons, List.foldl_nil]
    by_cases hj : j = i
    · rw [hj, Sparse.get_insert_self]
    · have hne : k i ≠ k j := fun e => hj (hk j (by simp) e.symm)
      rw [Sparse.get_insert_ne d hne]
      exact ih (by simpa [Ne.symm hj] using hi) fun x hx => hk x (by simp [hx])

/-- A run of insertions leaves every key that it does not list. -/
theorem Sparse.get_foldl_insert_ne {α : Type} (d : α) (k : Nat → Nat) (v : Nat → α) {l : List Nat} {a : Nat}
    (h : ∀ j ∈ l, a ≠ k j) (m : List (Nat × α)) :
    Sparse.get d (l.foldl (fun m j => Sparse.insert (k j) (v j) m) m) a = Sparse.get d m a := by
  induction l generalizing m with
  | nil => rfl
  | cons j l ih =>
    rw [List.foldl_cons, ih (fun x hx => h x (by simp [hx])), Sparse.get_insert_ne d (h j (by simp))]

/-- A snapshot taken holds what the requester sees of the part. -/
theorem Dev.snapParts_snap (d : Dev) (req : Requester) (addr : Nat) {n i : Nat} (hi : i < n) :
    Sparse.get 0 (d.snapParts req addr n).snaps (snapKey req (addr + 4 * (i + 1))) =
      d.view req.code (d.keyOf req (addr + 4 * (i + 1))) := by
  refine Sparse.get_foldl_insert_mem 0 (fun j => snapKey req (addr + 4 * (j + 1))) _ (List.mem_range.2 hi) (fun j _ h => ?_) _
  have := snapKey_inj h
  omega

/-- Taking snapshots leaves those of every other requester (R19). -/
theorem Dev.snapParts_other (d : Dev) {req other : Requester} (h : other ≠ req) {addr n b : Nat} (hn : addr + 4 * n < reqBase)
    (hb : b < reqBase) :
    Sparse.get 0 (d.snapParts req addr n).snaps (snapKey other b) = Sparse.get 0 d.snaps (snapKey other b) := by
  refine Sparse.get_foldl_insert_ne 0 _ _ (fun j hj => snapKey_ne h hb ?_) _
  have := List.mem_range.1 hj
  omega

/-- Folding changes of the snapshots over a device is folding over its snapshots. -/
theorem Dev.foldl_snaps {α : Type} (f : α → List (Nat × Word) → List (Nat × Word)) (l : List α) (d : Dev) :
    l.foldl (fun e i => { e with snaps := f i e.snaps }) d = { d with snaps := l.foldl (fun m i => f i m) d.snaps } := by
  induction l generalizing d with
  | nil => rfl
  | cons i l ih => rw [List.foldl_cons, ih]; rfl

/-- A read of a _LO register answers its value and takes snapshots of the higher parts (R18). -/
theorem Dev.readReg_loPart {d : Dev} {req : Requester} {addr n : Nat} (hf : foreign req addr = false)
    (hp : partOf addr = some (0, n)) :
    d.readReg req addr = ((d.snapParts req addr (n - 1)).clearOnRead addr (d.keyOf req addr)).readData req
      (if (regAt addr).isNone then 0 else d.view req.code (d.keyOf req addr)) := by
  simp only [Dev.readReg, hf, hp, Bool.false_eq_true, if_false, Dev.foldl_snaps]
  rfl

/-- A read of a higher part answers the requester's snapshot and changes nothing (R18, R20). -/
theorem Dev.readReg_higherPart {d : Dev} {req : Requester} {addr i n : Nat} (hf : foreign req addr = false)
    (hp : partOf addr = some (i + 1, n)) : d.readReg req addr = d.readData req (Sparse.get 0 d.snaps (snapKey req addr)) := by
  simp [Dev.readReg, hf, hp]

/-- A read of a register of its own answers its value, 0 where none stands. -/
theorem Dev.readReg_single {d : Dev} {req : Requester} {addr : Nat} (hf : foreign req addr = false) (hp : partOf addr = none) :
    d.readReg req addr = (d.clearOnRead addr (d.keyOf req addr)).readData req
      (if (regAt addr).isNone then 0 else d.view req.code (d.keyOf req addr)) := by
  simp only [Dev.readReg, hf, hp, Bool.false_eq_true, if_false]
  rfl

/-! ### What a write does by access code (R12) -/

theorem Dev.reg_storeRw_ne (d : Dev) {a b : Nat} (v : Word) (h : b ≠ a) : (d.storeRw a v).reg b = d.reg b := by
  unfold Dev.storeRw
  split
  · rfl
  · dsimp only
    split
    · exact Dev.reg_setReg_ne d _ h
    · exact Dev.reg_setReg_ne d _ h

/-- RW fields that are not shadowed store at once (R12, R35). -/
theorem Dev.reg_storeRw_self (d : Dev) {a : Nat} (h : storesAsWritten a = true) (v : Word) :
    (d.storeRw a v).reg a = mergeShadow (accMaskAt a .rw) (d.reg a) v := by
  cases hr : regAt (keyAddr a) with
  | none =>
    have hm : accMaskAt a .rw = 0 := by simp only [accMaskAt, hr]
    simp only [Dev.storeRw, hr, hm, mergeShadow_zero]
  | some r =>
    rw [← storeInto_eq_mergeShadow h hr]
    simp only [Dev.storeRw, hr]
    split
    · exact Dev.reg_setReg_self d _ _
    · exact Dev.reg_setReg_self d _ _

@[simp] theorem Dev.storeRw_held (d : Dev) (a : Nat) (v : Word) : (d.storeRw a v).held = d.held := by
  unfold Dev.storeRw
  split
  · rfl
  · dsimp only; split <;> rfl

theorem Dev.reg_clearW1c_ne (d : Dev) {a b : Nat} (v : Word) (h : b ≠ a) : (d.clearW1c a v).reg b = d.reg b := by
  unfold Dev.clearW1c
  dsimp only
  split
  · rfl
  · exact Dev.reg_setReg_ne d _ h

/-- W1C bits written 1 become 0, all others stay (R12). -/
theorem Dev.reg_clearW1c_self (d : Dev) (a : Nat) (v : Word) :
    (d.clearW1c a v).reg a = d.reg a &&& ~~~(v &&& accMaskAt a .w1c) := by
  unfold Dev.clearW1c
  dsimp only
  split
  · next h => rw [h, word_and_not_zero]
  · exact Dev.reg_setReg_self d _ _

@[simp] theorem Dev.clearW1c_held (d : Dev) (a : Nat) (v : Word) : (d.clearW1c a v).held = d.held := by
  unfold Dev.clearW1c; dsimp only; split <;> rfl

/-- Signalling an enabled interrupt changes no register. -/
@[simp] theorem Dev.enRises_regs (d : Dev) (a : Nat) (old : Word) : (d.enRises a old).regs = d.regs := by
  unfold Dev.enRises
  split
  · dsimp only; split <;> rfl
  · split
    · split <;> rfl
    · rfl

@[simp] theorem Dev.enRises_held (d : Dev) (a : Nat) (old : Word) : (d.enRises a old).held = d.held := by
  unfold Dev.enRises
  split
  · dsimp only; split <;> rfl
  · split
    · split <;> rfl
    · rfl

@[simp] theorem Dev.reg_enRises (d : Dev) (a : Nat) (old : Word) (b : Nat) : (d.enRises a old).reg b = d.reg b := by
  simp [Dev.reg]

@[simp] theorem Dev.writePlain_held (d : Dev) (a : Nat) (v : Word) : (d.writePlain a v).held = d.held := by
  simp [Dev.writePlain]

/-- A write of a register leaves every other. -/
theorem Dev.reg_writePlain_ne (d : Dev) {a b : Nat} (v : Word) (h : b ≠ a) : (d.writePlain a v).reg b = d.reg b := by
  rw [Dev.writePlain, Dev.reg_enRises, Dev.reg_clearW1c_ne _ _ h, Dev.reg_storeRw_ne _ _ h]

/-- A write stores the RW fields and clears the W1C bits written 1, and no other bit of the register changes (R12). -/
theorem Dev.reg_writePlain_self (d : Dev) {a : Nat} (h : storesAsWritten a = true) (v : Word) :
    (d.writePlain a v).reg a = mergeShadow (accMaskAt a .rw) (d.reg a) v &&& ~~~(v &&& accMaskAt a .w1c) := by
  rw [Dev.writePlain, Dev.reg_enRises, Dev.reg_clearW1c_self, Dev.reg_storeRw_self d h]

/-- A write of a register with RW fields alone. -/
theorem Dev.reg_writePlain_rw (d : Dev) {a : Nat} (h : storesAsWritten a = true) (hc : accMaskAt a .w1c = 0) (v : Word) :
    (d.writePlain a v).reg a = mergeShadow (accMaskAt a .rw) (d.reg a) v := by
  rw [Dev.reg_writePlain_self d h, hc, show v &&& (0 : Word) = 0 from BitVec.and_zero, word_and_not_zero]

/-! ### Accesses of a chip that runs -/

theorem exec_registerWrite {s : State} (h : Running s) (req : Requester) (acc : RegAccess) :
    exec (.registerWrite req acc) s = .next (s.access req acc) := runState_alive h

theorem exec_rcRead {s : State} (h : Running s) (req : Requester) (addr : Nat) :
    exec (.rcRead req addr) s = .next { s with dev := if hasRc addr then s.dev.read req addr else s.dev } := runDev_alive h

theorem exec_loReadSnapshot {s : State} (h : Running s) (req : Requester) (addr : Nat) :
    exec (.loReadSnapshot req addr) s =
      .next { s with dev := if (partOf addr).any (fun p => p.1 == 0) then s.dev.read req addr else s.dev } := runDev_alive h

theorem exec_hiWriteApply {s : State} (h : Running s) (req : Requester) (addr : Nat) (v : Word) :
    exec (.hiWriteApply req addr v) s =
      .next (if s.dev.reaches req (addr / 0x100000) ∧ (partOf addr).any (fun p => p.1 + 1 == p.2) then
        s.writeReg false req addr v else s) := runState_alive h

theorem Dev.read_reached {d : Dev} {req : Requester} {addr : Nat} (h : d.reaches req (addr / 0x100000) = true) :
    d.read req addr = d.readReg req addr := if_pos h

/-- A write that takes effect is answered, and its block is not in reset (R47). -/
theorem Dev.mayWrite_iff (d : Dev) (req : Requester) (b : Nat) :
    d.mayWrite req b = true ↔ d.reaches req b = true ∧ d.inReset b = false := by
  simp [Dev.mayWrite]

/-- An access of another width than 32 bits, or not aligned, is a bad access (R7). -/
theorem State.access_bad {s : State} {req : Requester} {acc : RegAccess} (h : s.dev.reaches req (acc.addr / 0x100000) = true)
    (hb : acc.width ≠ 4 ∨ acc.addr % 4 ≠ 0) : s.access req acc = { s with dev := s.dev.badAccess req acc } := by
  have hb' : acc.width ≠ 4 ∨ acc.addr % 4 ≠ 0 ∨ acc.be ≠ 0xF := hb.imp_right .inl
  simp only [State.access, h, Bool.not_true, Bool.false_eq_true, if_false, if_pos hb']

/-- An aligned word read is a read of the register. -/
theorem State.access_read {s : State} {req : Requester} {addr : Nat} (h : s.dev.reaches req (addr / 0x100000) = true)
    (ha : addr % 4 = 0) : s.access req ⟨addr, 4, 0xF, none⟩ = { s with dev := s.dev.readReg req addr } := by
  simp [State.access, h, ha]

/-- An aligned word write is a write of the register. -/
theorem State.access_write {s : State} {req : Requester} {addr : Nat} (h : s.dev.reaches req (addr / 0x100000) = true)
    (ha : addr % 4 = 0) (v : Word) : s.access req ⟨addr, 4, 0xF, some v⟩ = s.writeReg false req addr v := by
  simp [State.access, h, ha]

/-- A write where no register stands is discarded (R8). -/
theorem State.writeReg_unallocated {s : State} {p : Bool} {req : Requester} {addr : Nat} {v : Word}
    (hf : foreign req addr = false) (hr : regAt addr = none) : s.writeReg p req addr v = s := by
  simp [State.writeReg, hf, hr]

/-- A write to a part below the highest is held (R21). -/
theorem State.writeReg_lowerPart {s : State} {p : Bool} {req : Requester} {addr i n : Nat} {v : Word}
    (hf : foreign req addr = false) (hr : (regAt addr).isSome = true) (hw : s.dev.inReset (addr / 0x100000) = false)
    (hp : partOf addr = some (i, n)) (hi : i + 1 < n) :
    s.writeReg p req addr v = { s with dev := s.dev.holdPart addr v } := by
  simp [State.writeReg, hf, Option.isNone_eq_false_iff.2 hr, hw, hp, hi]

/-- A write to the highest part applies all parts (R21). -/
theorem State.writeReg_highestPart {s : State} {p : Bool} {req : Requester} {addr i n : Nat} {v : Word}
    (hf : foreign req addr = false) (hr : (regAt addr).isSome = true) (hw : s.dev.inReset (addr / 0x100000) = false)
    (hp : partOf addr = some (i, n)) (hi : ¬ i + 1 < n) :
    s.writeReg p req addr v = s.onDev (fun d => d.writeWide (addr - 4 * i) n v) := by
  simp [State.writeReg, hf, Option.isNone_eq_false_iff.2 hr, hw, hp, hi]

@[simp] theorem State.onDev_reg (f : Dev → Dev) (s : State) (a : Nat) : (s.onDev f).dev.reg a = (f s.dev).reg a := rfl
@[simp] theorem State.onDev_held (f : Dev → Dev) (s : State) : (s.onDev f).dev.held = (f s.dev).held := rfl

end Sys2Proof.Machine
end

section
/-! The statements of the scope (00_scope.md): the form of accesses, unallocated offsets, access codes and wide values. -/

namespace Sys2Proof.Machine

/-! ### Accesses that are not aligned words (R7) -/

/-- The data that a bad access leaves a requester, before anything is recorded: a read returns 0. -/
def Dev.badData (req : Requester) (acc : RegAccess) (d : Dev) : Dev := if acc.data.isNone then d.readData req 0 else d

/-- The record of the first bad access (Tables 17 and 18 of 01_planes_and_datapath.md). -/
def Dev.recordBad (req : Requester) (acc : RegAccess) (d : Dev) : Dev :=
  if d.isSet Fld.GLB_ACC_ERR_INFO.VALID then d
  else (d.setReg Reg.GLB_ACC_ERR_ADDR (BitVec.ofNat 32 (accErrAddr req acc.addr))).setReg Reg.GLB_ACC_ERR_INFO
    (wordOf [(31, 1), (8, req.code), (4, bit acc.data.isSome), (0, acc.be.toNat)])

theorem Dev.badAccess_eq (d : Dev) (req : Requester) (acc : RegAccess) :
    d.badAccess req acc = ((d.badData req acc).recordBad req acc).raise 0 := rfl

theorem Dev.badData_onlyData (d : Dev) (req : Requester) (acc : RegAccess) :
    d.badData req acc = { d with rdata := (d.badData req acc).rdata } := by
  unfold Dev.badData; split <;> rfl

theorem Dev.recordBad_onlyRegs (d : Dev) (req : Requester) (acc : RegAccess) : OnlyRegs d (d.recordBad req acc) :=
  .ite (.refl d) ((OnlyRegs.setReg d _ _).trans (.setReg _ _ _))

/-- A bad access changes no register but its record. -/
theorem Dev.badAccess_regsKept (d : Dev) (req : Requester) (acc : RegAccess) :
    RegsKept [Reg.GLB_ACC_ERR_ADDR, Reg.GLB_ACC_ERR_INFO] d (d.badAccess req acc) := by
  have hd : RegsOut (· ∉ [Reg.GLB_ACC_ERR_ADDR, Reg.GLB_ACC_ERR_INFO]) d (d.badData req acc) :=
    .same (.refl _ d) (by rw [Dev.badData_onlyData])
  refine RegsOut.raise (.ite hd ((hd.setReg _ _ fun b hb => ?_).setReg _ _ fun b hb => ?_)) 0
  · exact fun h => hb (by simp [h])
  · exact fun h => hb (by simp [h])

theorem Dev.badAccess_shadow (d : Dev) (req : Requester) (acc : RegAccess) : (d.badAccess req acc).shadow = d.shadow := by
  rw [Dev.badAccess_eq, Dev.raise_shadow, Dev.recordBad_onlyRegs, Dev.badData_onlyData]

theorem Dev.badAccess_held (d : Dev) (req : Requester) (acc : RegAccess) : (d.badAccess req acc).held = d.held := by
  rw [Dev.badAccess_eq, Dev.raise_held, Dev.recordBad_onlyRegs, Dev.badData_onlyData]

theorem Dev.badAccess_rdata (d : Dev) (req : Requester) (acc : RegAccess) :
    (d.badAccess req acc).rdata = (d.badData req acc).rdata := by
  rw [Dev.badAccess_eq, Dev.raise_rdata, Dev.recordBad_onlyRegs]

/-- Settles O7: such an access is a bad access, which changes its record, the read data and the causes on their way alone. -/
theorem accessesMustBeAlignedWords : Obligations.AccessesMustBeAlignedWords := by
  intro s req acc hrun hreach hbad
  refine ⟨_, exec_registerWrite hrun req acc, ?_⟩
  rw [State.access_bad hreach hbad]
  refine ⟨Dev.raise_arises _ 0, .ofDev (Dev.badAccess_regsKept s.dev req acc), Dev.badAccess_shadow .., Dev.badAccess_held ..,
    ?_, ?_⟩
  · intro hread
    rw [Dev.badAccess_rdata, Dev.badData, if_pos (by simp [hread]), Dev.get_rdata_readData]
  · intro hwrite
    rw [Dev.badAccess_rdata, Dev.badData, if_neg (by simpa [← Option.isSome_iff_ne_none] using hwrite)]

/-! ### Wide reads (R18 to R20) -/

/-- Settles O10: the _LO read takes its snapshots before RC fields are cleared, under keys of the requester's own; a read of a
higher part answers from them. -/
theorem wideReadsTakeSnapshots : Obligations.WideReadsTakeSnapshots := by
  refine ⟨fun s req addr n hrun hreach hpart hchan hreg hend => ?_, fun s req addr i n hrun hreach halign hpart hchan => ?_⟩
  · have hf := foreign_of_channelOf_none req hchan
    refine ⟨_, exec_loReadSnapshot hrun req addr, ⟨rfl, rfl, rfl⟩, ?_⟩
    rw [if_pos (by simp [hpart]), Dev.read_reached hreach, Dev.readReg_loPart hf hpart]
    refine ⟨?_, fun i hi hin => ?_, fun other b hother hb => ?_⟩
    · rw [Dev.get_rdata_readData, if_neg (by simpa [← Option.isSome_iff_ne_none] using hreg)]
    · obtain ⟨j, rfl⟩ : ∃ j, i = j + 1 := ⟨i - 1, by omega⟩
      simpa using Dev.snapParts_snap s.dev req addr (show j < n - 1 by omega)
    · simpa using Dev.snapParts_other s.dev hother (n := n - 1) (addr := addr) (by omega) hb
  · have hf := foreign_of_channelOf_none req hchan
    refine ⟨_, exec_registerWrite hrun req _, ?_⟩
    rw [State.access_read hreach halign, Dev.readReg_higherPart hf hpart]
    exact ⟨.ofDev (.ofRegs rfl), rfl, Dev.get_rdata_readData ..⟩

/-! ### Unallocated offsets (R8) -/

/-- Settles O8: no register table, no wide value and no channel reaches past 0x0120_0000; where none stands a write is discarded and
a read answers 0. -/
theorem unallocatedOffsets : Obligations.UnallocatedOffsets := by
  refine ⟨fun addr h => ⟨regAt_beyond h, partOf_beyond h, channelOf_beyond h⟩, ?_⟩
  intro s req addr hrun hreach hbar halign hreg hpart hchan
  have hf := foreign_of_channelOf_none req hchan
  refine ⟨fun v => ?_, _, exec_registerWrite hrun req _, ?_⟩
  · rw [exec_registerWrite hrun, State.access_write hreach halign, State.writeReg_unallocated hf hreg]
  · have hkey : regAt (keyAddr (s.dev.keyOf req addr)) = none := by
      rw [keyAddr_keyOf _ _ (by unfold reqBase; omega), hreg]
    obtain ⟨hregs, harising, hcauses⟩ := Dev.clearOnRead_unallocated (d := s.dev) (addr := addr) hkey
    rw [State.access_read hreach halign, Dev.readReg_single hf hpart]
    exact ⟨by rw [Dev.get_rdata_readData, if_pos (by simp [hreg])], .ofDev fun b _ => hregs b, harising, hcauses⟩

/-! ### Access codes (R12) -/

/-- A write to a register of GLB without an effect of its own. -/
theorem State.writeReg_glbPlain {s : State} {p : Bool} {req : Requester} {addr : Nat} (hb : addr < 0x100000)
    (hw : s.dev.inReset 0 = false) (hr : (regAt addr).isSome = true) (hp : partOf addr = none)
    (ha : addr ≠ 0x10 ∧ addr ≠ 0x30 ∧ addr ≠ 0x34) (v : Word) :
    s.writeReg p req addr v = { s with dev := s.dev.writePlain addr v } := by
  obtain ⟨h10, h30, h34⟩ := ha
  have hblock : addr / 0x100000 = 0 := by omega
  have hf : foreign req addr = false := foreign_of_channelOf_none req (if_neg (by omega))
  have hkey : s.dev.keyOf req addr = addr := keyOf_shared s.dev req (by simp [perRequester]; omega) (by omega)
  have haddr : keyAddr addr = addr := keyAddr_of_lt (by unfold reqBase; omega)
  have hqueue : ¬ queueBase ≤ addr := by unfold queueBase; omega
  simp [State.writeReg, hf, Option.isNone_eq_false_iff.2 hr, hblock, hw, hp, hkey, hqueue, State.writeGlb, haddr, h10, h30, h34]

/-- The command that writes such a register. -/
theorem exec_write_glbPlain {s : State} {req : Requester} {addr : Nat} (hs : Writable req 0 s) (hb : addr < 0x100000)
    (h4 : addr % 4 = 0) (hr : (regAt addr).isSome = true) (hp : partOf addr = none)
    (ha : addr ≠ 0x10 ∧ addr ≠ 0x30 ∧ addr ≠ 0x34) (v : Word) :
    exec (.registerWrite req ⟨addr, 4, 0xF, some v⟩) s = .next { s with dev := s.dev.writePlain addr v } := by
  obtain ⟨hrun, hmay⟩ := hs
  obtain ⟨hreach, hw⟩ := (Dev.mayWrite_iff ..).1 hmay
  have hblock : addr / 0x100000 = 0 := by omega
  rw [exec_registerWrite hrun, State.access_write (by rw [hblock]; exact hreach) h4, State.writeReg_glbPlain hb hw hr hp ha]

/-- GLB_ID is RO: a write leaves it. -/
theorem Dev.reg_writePlain_glbId (d : Dev) (v : Word) : (d.writePlain 0x0 v).reg 0x0 = d.reg 0x0 := by
  rw [Dev.reg_writePlain_rw d (by decide) (by decide), show accMaskAt 0x0 .rw = 0 by decide, mergeShadow_zero]

/-- GLB_SHADOW_HOLD has RW bits 14 to 11 and 9 to 2. -/
theorem Dev.reg_writePlain_shadowHold (d : Dev) (v : Word) : (d.writePlain Reg.GLB_SHADOW_HOLD v).reg Reg.GLB_SHADOW_HOLD =
    (d.reg Reg.GLB_SHADOW_HOLD &&& 0xFFFF8403) ||| (v &&& 0x7BFC) := by
  rw [Dev.reg_writePlain_rw d (by decide) (by decide), show accMaskAt Reg.GLB_SHADOW_HOLD .rw = 0x7BFC by decide, mergeShadow]
  rfl

/-- GLB_RESET_CAUSE has W1C bits 5 to 2 and 0. -/
theorem Dev.reg_writePlain_resetCause (d : Dev) (v : Word) : (d.writePlain Reg.GLB_RESET_CAUSE v).reg Reg.GLB_RESET_CAUSE =
    d.reg Reg.GLB_RESET_CAUSE &&& ~~~(v &&& 0x3D) := by
  rw [Dev.reg_writePlain_self d (by decide), show accMaskAt Reg.GLB_RESET_CAUSE .rw = 0 by decide, mergeShadow_zero,
    show accMaskAt Reg.GLB_RESET_CAUSE .w1c = 0x3D by decide]

/-! Facts of the register table about LNx_OVR_CNT, the counters of overrange runs. -/

theorem hasRc_ovrCnt : ∀ (x : Port) (a : Fin 4), hasRc (Reg.LNx_OVR_CNT x.val a.val) = true := by decide
theorem partOf_ovrCnt : ∀ (x : Port) (a : Fin 4), partOf (Reg.LNx_OVR_CNT x.val a.val) = none := by decide
theorem regAt_ovrCnt : ∀ (x : Port) (a : Fin 4), (regAt (Reg.LNx_OVR_CNT x.val a.val)).isNone = false := by decide
theorem rcMask_ovrCnt : ∀ (x : Port) (a : Fin 4), accMaskAt (Reg.LNx_OVR_CNT x.val a.val) .rc = BitVec.allOnes 32 := by decide
theorem shadowMask_ovrCnt : ∀ (x : Port) (a : Fin 4), shadowMaskOf (Reg.LNx_OVR_CNT x.val a.val) = 0 := by decide
theorem perRequester_ovrCnt : ∀ (x : Port) (a : Fin 4), perRequester (Reg.LNx_OVR_CNT x.val a.val) = false := by decide

theorem ovrCnt_block (x : Port) (a : Fin 4) : Reg.LNx_OVR_CNT x.val a.val / 0x100000 = 2 + x.val := by
  unfold Reg.LNx_OVR_CNT; omega

theorem ovrCnt_offset (x : Port) (a : Fin 4) : Reg.LNx_OVR_CNT x.val a.val % 0x100000 = 0x14 + 4 * a.val := by
  unfold Reg.LNx_OVR_CNT; omega

theorem ovrCnt_lt (x : Port) (a : Fin 4) : Reg.LNx_OVR_CNT x.val a.val < 0x400000 := by
  unfold Reg.LNx_OVR_CNT; omega

theorem keyAddr_ovrCnt (x : Port) (a : Fin 4) : keyAddr (Reg.LNx_OVR_CNT x.val a.val) = Reg.LNx_OVR_CNT x.val a.val :=
  keyAddr_of_lt (by have := ovrCnt_lt x a; unfold reqBase; omega)

theorem keyBlock_ovrCnt (x : Port) (a : Fin 4) : keyBlock (Reg.LNx_OVR_CNT x.val a.val) = 2 + x.val := by
  rw [keyBlock, keyAddr_ovrCnt, ovrCnt_block]

/-- No count of overrange runs is among the computed registers of a line port. -/
theorem Dev.viewLn_ovrCnt (d : Dev) (x : Nat) (a : Fin 4) : d.viewLn x (0x14 + 4 * a.val) = none := by
  simp only [Dev.viewLn]
  repeat rw [if_neg (by omega)]

/-- Nothing but the register itself gives the count. -/
theorem Dev.computed_ovrCnt (d : Dev) (r : Nat) (x : Port) (a : Fin 4) : d.computed r (Reg.LNx_OVR_CNT x.val a.val) = none := by
  have hx : x.val = 0 ∨ x.val = 1 := by omega
  simp only [Dev.computed, keyBlock_ovrCnt, keyAddr_ovrCnt, ovrCnt_offset]
  rcases hx with hx | hx
  · rw [hx]; exact d.viewLn_ovrCnt 0 a
  · rw [hx]; exact d.viewLn_ovrCnt 1 a

/-- A requester sees the count as it stands. -/
theorem Dev.view_ovrCnt {d : Dev} (r : Nat) {x : Port} (a : Fin 4) (hw : d.inReset (2 + x.val) = false) :
    d.view r (Reg.LNx_OVR_CNT x.val a.val) = d.reg (Reg.LNx_OVR_CNT x.val a.val) := by
  simp only [Dev.view, keyBlock_ovrCnt, hw, Bool.false_eq_true, if_false, d.computed_ovrCnt, shadowMask_ovrCnt, mergeShadow_zero]

/-- Reading a count answers it and clears it. -/
theorem Dev.readReg_ovrCnt {d : Dev} (req : Requester) {x : Port} (a : Fin 4) (hw : d.inReset (2 + x.val) = false) :
    d.readReg req (Reg.LNx_OVR_CNT x.val a.val) =
      (d.clearOnRead (Reg.LNx_OVR_CNT x.val a.val) (Reg.LNx_OVR_CNT x.val a.val)).readData req
        (d.reg (Reg.LNx_OVR_CNT x.val a.val)) := by
  have hlt := ovrCnt_lt x a
  have hf : foreign req (Reg.LNx_OVR_CNT x.val a.val) = false := foreign_of_channelOf_none req (if_neg (by omega))
  rw [Dev.readReg_single hf (partOf_ovrCnt x a), keyOf_shared d req (perRequester_ovrCnt x a) (by omega), regAt_ovrCnt,
    Dev.view_ovrCnt _ a hw]
  rfl

/-- Settles O9: RO, RW and W1C by the masks of the registers' fields, RC by the read of a counter whose bits are all RC. -/
theorem accessCodes : Obligations.AccessCodes := by
  refine ⟨fun s req v hs => ?_, fun s req v hs => ?_, fun s req v hs => ?_, fun s req x a hs => ?_⟩
  · refine ⟨_, exec_write_glbPlain hs (by decide) (by decide) (by decide) (by decide) (by decide) v, .ofDev fun b _ => ?_⟩
    by_cases hb : b = 0x0
    · rw [hb, Dev.reg_writePlain_glbId]
    · exact Dev.reg_writePlain_ne _ v hb
  · exact ⟨_, exec_write_glbPlain hs (by decide) (by decide) (by decide) (by decide) (by decide) v,
      .ofDev (regsKept_singleton fun b => Dev.reg_writePlain_ne _ v), Dev.reg_writePlain_shadowHold ..⟩
  · exact ⟨_, exec_write_glbPlain hs (by decide) (by decide) (by decide) (by decide) (by decide) v,
      .ofDev (regsKept_singleton fun b => Dev.reg_writePlain_ne _ v), Dev.reg_writePlain_resetCause ..⟩
  · obtain ⟨hrun, hmay⟩ := hs
    obtain ⟨hreach, hw⟩ := (Dev.mayWrite_iff ..).1 hmay
    refine ⟨_, exec_rcRead hrun req _, ?_⟩
    have hblock := ovrCnt_block x a
    rw [if_pos (hasRc_ovrCnt x a), Dev.read_reached (by rw [hblock]; exact hreach), Dev.readReg_ovrCnt req a hw,
      Dev.clearOnRead_working (by rw [hblock]; exact hw)]
    refine ⟨.ofDev (regsKept_singleton fun b hb => ?_), Dev.get_rdata_readData .., ?_⟩
    · exact (Dev.reg_clearRc s.dev _ b).trans (if_neg hb)
    · refine (Dev.reg_clearRc s.dev _ _).trans ?_
      rw [if_pos rfl, rcMask_ovrCnt]
      simp

/-! ### Wide writes (R21) -/

theorem Dev.holdPart_regs (d : Dev) (a : Nat) (v : Word) : (d.holdPart a v).regs = d.regs := by
  unfold Dev.holdPart; split <;> rfl

/-- A part that can be written is held as it was written last. -/
theorem Dev.get_held_holdPart (d : Dev) {a : Nat} (h : accMaskAt a .rw ||| accMaskAt a .rws ||| accMaskAt a .w1s ≠ 0)
    (v e : Word) :
    Sparse.get e (d.holdPart a v).held a = v := by
  rw [Dev.holdPart, if_neg h]; exact Sparse.get_insert_self _ _ _ _

/-- The HI write of the address of an image load writes both registers, the low one with its held part. -/
theorem Dev.writeWide_loadAddr (d : Dev) (hi : Word) : d.writeWide 0x100008 2 hi =
    ((d.unhold 0x100008 2).writePlain 0x100008 (d.heldPart 0x100008)).writePlain 0x10000C hi := rfl

/-- The parts used up are held no more. -/
theorem Dev.unhold_lo (d : Dev) (lo : Nat) {n : Nat} (h : 0 < n) : (d.unhold lo n).held.all (fun e => e.1 != lo) = true := by
  simp only [Dev.unhold, List.all_eq_true, List.mem_filter, bne_iff_ne]
  rintro e ⟨-, he⟩ rfl
  simp [h] at he

/-- Both registers of the address of an image load take the whole written word. -/
theorem Dev.reg_writePlain_loadAddr (d : Dev) {a : Nat} (h : a = 0x100008 ∨ a = 0x10000C) (v : Word) :
    (d.writePlain a v).reg a = v := by
  have hs : storesAsWritten a = true ∧ accMaskAt a .w1c = 0 ∧ accMaskAt a .rw = BitVec.allOnes 32 := by
    rcases h with rfl | rfl <;> decide
  obtain ⟨hst, hc, hm⟩ := hs
  rw [Dev.reg_writePlain_rw d hst hc, hm, mergeShadow_allOnes]

/-- Settles O11: the part is held beside the registers, and the HI write takes it from there and uses it up. -/
theorem wideWritesApplyTogether : Obligations.WideWritesApplyTogether := by
  refine ⟨fun s req lo hs => ?_, fun s req lo hi hs hheld => ?_⟩
  · obtain ⟨hrun, hmay⟩ := hs
    obtain ⟨hreach, hw⟩ := (Dev.mayWrite_iff ..).1 hmay
    have hf : foreign req 0x100008 = false := foreign_of_channelOf_none req (by decide)
    refine ⟨_, exec_registerWrite hrun req _, ?_⟩
    rw [State.access_write hreach (by decide),
      State.writeReg_lowerPart hf (by decide) hw (show partOf 0x100008 = some (0, 2) by decide) (by decide)]
    exact ⟨.ofDev (.ofRegs (Dev.holdPart_regs ..)), fun d => Dev.get_held_holdPart _ (by decide) lo d⟩
  · obtain ⟨hrun, hmay⟩ := hs
    obtain ⟨hreach, hw⟩ := (Dev.mayWrite_iff ..).1 hmay
    have hf : foreign req 0x10000C = false := foreign_of_channelOf_none req (by decide)
    have hpart : partOf 0x10000C = some (1, 2) := by decide
    have hlo : s.dev.heldPart 0x100008 = lo := hheld _
    refine ⟨_, exec_hiWriteApply hrun req _ hi, ?_⟩
    rw [if_pos ⟨hreach, by decide⟩, State.writeReg_highestPart hf (by decide) hw hpart (by decide)]
    refine ⟨fun b hb => ?_, ?_, ?_⟩
    · obtain ⟨hb8, hbC⟩ : b ≠ 0x100008 ∧ b ≠ 0x10000C := by simpa using hb
      rw [State.onDev_reg, Dev.writeWide_loadAddr, Dev.reg_writePlain_ne _ _ hbC, Dev.reg_writePlain_ne _ _ hb8]
      rfl
    · have hhi : (s.dev.writeWide 0x100008 2 hi).reg 0x10000C = hi := by
        rw [Dev.writeWide_loadAddr, Dev.reg_writePlain_loadAddr _ (.inr rfl)]
      have hlow : (s.dev.writeWide 0x100008 2 hi).reg 0x100008 = lo := by
        rw [Dev.writeWide_loadAddr, Dev.reg_writePlain_ne _ _ (by decide), Dev.reg_writePlain_loadAddr _ (.inl rfl), hlo]
      exact congrArg₂ (fun h l : Word => h.toNat * 2 ^ 32 + l.toNat) hhi hlow
    · rw [State.onDev_held, Dev.writeWide_loadAddr, Dev.writePlain_held, Dev.writePlain_held]
      exact Dev.unhold_lo s.dev 0x100008 (by decide)

end Sys2Proof.Machine
end

section
/-! That every command of the table answers a next state and keeps the queue (R43). -/

namespace Sys2Proof.Machine

/-- A meaning that gives its next state outright. -/
theorem Answers.next {s t : State} (h : Keeps s t) : Answers s (.next t) := ⟨t, rfl, h⟩

/-- A meaning that has its effect where a premise holds, and none elsewhere. -/
theorem Answers.nextIf {c : Prop} {_ : Decidable c} {s t : State} (h : Keeps s t) : Answers s (.next (if c then t else s)) :=
  .next (.ite h (.refl s))

/-- Every command answers a next state with the queue of s. The named cases have effects beyond the device, each with the lemma
that says what its effect keeps; every other command changes the device at most. -/
theorem exec_answers (i : Instr) (s : State) : Answers s (exec i s) := by
  cases i with
  | registerWrite req acc => exact runState_answers (State.access_keeps req acc)
  | hiWriteApply req addr v => exact .nextIf (.ite (State.writeReg_keeps false req addr v s) (.refl s))
  | glbFence req token => exact .nextIf (.ite (State.writeGlb_keeps req 0x10 (token.zeroExtend 32) s) (.refl s))
  | shadowCopy u => exact runBlockState_answers (State.boundary_keeps u)
  | blockReset req b => exact .nextIf (.ite (State.blockReset_keeps b.val s) (.refl s))
  | blockResetDone b => exact runState_answers (State.resetDone_keeps b.val)
  | chipReset req key chip => exact .nextIf (.ite (State.chipReset_keeps 2 s) (.refl s))
  | thermtrip => exact .nextIf (.thenDev _ (State.chipReset_keeps 4 s))
  | powerOn v => exact .next (State.powerOn_keeps v s)
  | vinLoss => exact .next (.dev s _)
  | pcieFunctionReset => exact runState_answers (State.onDev_keeps _)
  | loadFetchDone data => exact runState_answers (State.loadFetched_keeps data)
  | commitChecksDone => exact runState_answers State.commitChecked_keeps
  | commitEnd => exact runState_answers State.commitEnds_keeps
  | globalCommitReset => exact runState_answers State.globalReset_keeps
  | globalRecommit => exact runState_answers State.globalAgain_keeps
  | cryptoJob => exact runBlockState_answers State.cryptoJob_keeps
  | cryptoJobDone j => exact runBlockState_answers (State.cryptoJobDone_keeps j.val)
  | mergeCopy | mergeSlot | pathTimeout | pathSignalFail | pathSignalClear => exact runMrg_answers _ s
  | tsucorFrameRx l frame => exact runBlockState_answers (State.tsucorRx_keeps l.val frame)
  | dbProd | dbCons => exact runState_answers (State.onDev_keeps _)
  | windowRead r off len => exact runState_answers (State.windowRead_keeps r off len)
  | windowWrite r off data => exact runState_answers (State.windowWrite_keeps r off data)
  | dmaComplete ch data err => exact runBlockState_answers (State.dmaComplete_keeps ch.val data err)
  | pageOut | pageAck | pageAckTimeout | pageIn => exact runQ_answers _ s
  | pageData => exact runBlockState_answers State.pageData_keeps
  | streamSeqTimeout q => exact runBlockState_answers (State.streamSkip_keeps q.val)
  | carouselArm src q | carouselTrigger src q | carouselStop src q =>
    exact runState_answers (State.queueCommand_keeps src q.val _ _)
  | qEnWrite req q en => exact runState_answers (State.queueEnable_keeps req q.val en)
  | queueCaptureWrite t item full => exact runBlockState_answers (State.tapData_keeps t.val item full)
  | tapStop t => exact runBlockState_answers (State.tapStop_keeps t.val)
  | recordClose t => exact runBlockState_answers (State.recordFull_keeps t.val)
  | recordFlush t => exact runBlockState_answers (State.recordFlush_keeps t.val)
  | tapRetry t item => exact runBlockState_answers (State.tapRetry_keeps t.val item)
  | tapSourceLoss t => exact runBlockState_answers (State.sourceLoss_keeps t.val)
  | bufferCaptureEnd t => exact runBlockState_answers (State.bufferEnd_keeps t.val)
  | sramOvf t => exact runBlockState_answers (State.sramOvf_keeps t.val)
  | decReset c => exact runBlockState_answers (State.chainReset_keeps c.val)
  | capSyncReset req mask => exact .nextIf (.ite (State.chainsReset_keeps mask.toNat s) (.refl s))
  | syncEvent => exact runBlockState_answers State.syncEvent_keeps
  | fwdExecute origin => exact runBlockState_answers (State.fwdExecute_keeps origin.val)
  | fwWrite ch flashOk => exact runState_answers (State.fwWrite_keeps ch.val flashOk)
  | faultCause f => exact runState_answers (State.faultCause_keeps f.val)
  | stickyClear | injPulse | injHold | fltEnWrite => exact .nextIf (.ite (State.fltWrite_keeps _ _ _ _ s) (.refl s))
  | clrAll req => exact runWriteState_answers State.clrAll_keeps
  | tempSample temps => exact .next (.ite (.refl s) (.ite (.dev s _) (State.tempSample_keeps temps s)))
  | tightropeDecision => exact .next (.ite (.refl s) (.ite (.dev s _) (State.decision_keeps s)))
  | i2cWrite | i2cRead => exact .next (.dev s _)
  | _ => exact .nextIf (.dev s _)

/-- Settles O5: every command's answer is a next state that keeps the queue. -/
theorem everyCommandAnswers : Obligations.EveryCommandAnswers := fun i s => by
  obtain ⟨t, ht, hk⟩ := exec_answers i s
  exact ⟨t, ht, hk.pending⟩

end Sys2Proof.Machine
end

section
/-! Fences (R46). -/

namespace Sys2Proof.Machine

/-- DONE stands above TOKEN in the fence's register, so writing it keeps the token. -/
theorem Dev.fenceToken_put_done (d : Dev) (r v : Nat) :
    (d.put (Fld.GLB_FENCE.DONE r) v).get (Fld.GLB_FENCE.TOKEN r) = d.get (Fld.GLB_FENCE.TOKEN r) :=
  Dev.get_put_ne d _ _ v (Fld.ok_of _ rfl rfl) (Fld.ok_of _ rfl rfl) (.inr (.inr (Fld.above rfl)))

/-- DONE reads back its one bit. -/
theorem Dev.fenceDone_put (d : Dev) (r v : Nat) : (d.put (Fld.GLB_FENCE.DONE r) v).get (Fld.GLB_FENCE.DONE r) = v % 2 :=
  Dev.get_put_self d _ v (Fld.ok_of _ rfl rfl)

/-- The fence of a requester with code r: its token is kept, and DONE reads 0. -/
def Dev.fence (d : Dev) (r : Nat) (v : Word) : Dev := (d.put (Fld.GLB_FENCE.TOKEN r) v.toNat).put (Fld.GLB_FENCE.DONE r) 0

/-- A write of GLB_FENCE changes the fence of its requester alone. -/
theorem State.writeGlb_fence (req : Requester) (v : Word) (s : State) :
    s.writeGlb req 0x10 v = { s with dev := s.dev.fence req.code v } :=
  if_pos (by decide)

/-- A fence of a requester that is answered. -/
theorem exec_glbFence {s : State} (hrun : Running s) {req : Requester} (hreach : s.dev.reaches req 0 = true) (token : BitVec 16) :
    exec (.glbFence req token) s = .next { s with dev := s.dev.fence req.code (token.zeroExtend 32) } := by
  have h : exec (.glbFence req token) s =
      .next (if s.dev.reaches req 0 = true then s.writeGlb req 0x10 (token.zeroExtend 32) else s) := runState_alive hrun
  rw [h, if_pos hreach, State.writeGlb_fence]

theorem exec_fenceDone {s : State} (hrun : Running s) (req : Requester) :
    exec (.fenceDone req) s = .next { s with dev := s.dev.put (Fld.GLB_FENCE.DONE req.code) 1 } :=
  runDev_alive (f := fun d => d.put (Fld.GLB_FENCE.DONE req.code) 1) hrun

/-- The fence's token reads back. -/
theorem Dev.fenceToken_fence (d : Dev) (r : Nat) (token : BitVec 16) :
    (d.fence r (token.zeroExtend 32)).get (Fld.GLB_FENCE.TOKEN r) = token.toNat := by
  have htoken : (token.zeroExtend 32).toNat % 2 ^ 16 = token.toNat := by
    rw [BitVec.toNat_setWidth, Nat.mod_eq_of_lt (by omega), Nat.mod_eq_of_lt (by omega)]
  rw [Dev.fence, Dev.fenceToken_put_done, Dev.get_put_self _ _ _ (Fld.ok_of _ rfl rfl)]
  exact htoken

/-- Settles O12: the fence's two fields share no bit, and both stand in the register of its requester. -/
theorem fencesCompletePerRequester : Obligations.FencesCompletePerRequester := by
  refine ⟨fun s req token hrun hreach => ⟨_, exec_glbFence hrun hreach token, ?_⟩, fun s req hrun => ⟨_, exec_fenceDone hrun req, ?_⟩⟩
  · exact ⟨Dev.fenceToken_fence .., Dev.fenceDone_put ..,
      .ofDev (regsKept_singleton fun b hb => (Dev.reg_put_ne _ _ _ hb).trans (Dev.reg_put_ne _ _ _ hb))⟩
  · exact ⟨Dev.fenceDone_put .., Dev.fenceToken_put_done .., .ofDev (regsKept_singleton fun b hb => Dev.reg_put_ne _ _ _ hb)⟩

end Sys2Proof.Machine
end

section
/-! Refutation: at a boundary of pending shadow values, those of a region that restructures wait on (R78). -/

namespace Sys2Proof.Machine

/-- Region LINE_A restructures while the mode of DSP A has a value pending. -/
def restructuringLineA : Dev :=
  ({ State.reset.dev with shadow := [(Reg.LNx_DSP_MODE 0, 1)] } : Dev).setBit Reg.STR_STATE (24 + 1)

/-- The pending value waits for the first boundary after the commit. -/
theorem waitsForCommit_restructuringLineA : restructuringLineA.waitsForCommit (Reg.LNx_DSP_MODE 0) = true := by decide +kernel

/-- A pending value of a region that restructures is not copied, whatever keys the boundary concerns. -/
theorem Dev.copyShadow_shadow_of_waits {d : Dev} (h : ∀ e ∈ d.shadow, d.waitsForCommit e.1 = true) (p : Nat → Bool) :
    (d.copyShadow p).shadow = d.shadow := by
  have hnone : d.shadow.filter (fun e => p e.1 && !d.waitsForCommit e.1) = [] :=
    List.filter_eq_nil_iff.2 fun e he => by simp [h e he]
  have hall : d.shadow.filter (fun e => !(p e.1 && !d.waitsForCommit e.1)) = d.shadow :=
    List.filter_eq_self.2 fun e he => by simp [h e he]
  simp only [Dev.copyShadow, hnone, hall, List.foldl_nil]

/-- Refutes O13: the pending mode of DSP A is of the keys concerned, but LINE_A restructures, so it still waits after the boundary. -/
theorem not_shadowCopiesTogether : ¬ Obligations.ShadowCopiesTogether := by
  intro h
  have hwait : (restructuringLineA.copyShadow fun _ => true).shadow = [(Reg.LNx_DSP_MODE 0, 1)] :=
    Dev.copyShadow_shadow_of_waits (fun e he => by rw [List.mem_singleton.1 he]; exact waitsForCommit_restructuringLineA) _
  obtain ⟨-, -, hcopied⟩ := h restructuringLineA (fun _ => true) (List.nodup_singleton _)
  rw [hwait] at hcopied
  exact List.cons_ne_nil _ _ hcopied

end Sys2Proof.Machine
end

section
/-! Refutation: the boundary of a queue that closes is the boundary of the taps that capture to it (R373, R394). -/

namespace Sys2Proof.Machine

/-- Queue 0 runs with a pending RMS_Q_DESC0 that disables it, and tap 0, whose CAP_TAP_CTL is pending too, captures to it. -/
def closingQueue : State :=
  let d : Dev := { State.reset.dev with shadow := [(Reg.RMS_Q_DESC0 0, 0), (Reg.CAP_TAP_CTL 0, 1)] }
  let d := (d.put (Fld.RMS_Q_DESC0.EN 0) 1).put (Fld.RMS_Q_STATE.STATE 0) 2
  { State.reset with dev := (d.put (Fld.CAP_TAP_STATUS.DEST 0) 0).put (Fld.CAP_TAP_STATUS.STATE 0) 2 }

/-- The chip runs, RMS works and is not held. -/
theorem working_closingQueue : Working (unitBlock (.rms 0)) closingQueue ∧ closingQueue.dev.held? (unitBlock (.rms 0)) = false := by
  decide +kernel

/-- The fields of the tap are not the queue's: only the queue's own come due at its boundary. -/
theorem waiting_closingQueue :
    closingQueue.dev.shadow.filter (fun e => !comesDue closingQueue.dev (.rms 0) e.1) = [(Reg.CAP_TAP_CTL 0, 1)] := by
  decide +kernel

/-- The queue is disabled at its boundary, which ends the capture to it, and the tap's pending fields take effect there. -/
theorem boundary_closingQueue : (closingQueue.boundary (.rms 0)).dev.shadow = [] := by decide +kernel

/-- A boundary of a unit whose block works. -/
theorem exec_shadowCopy {s : State} {u : ShadowUnit} (h : Working (unitBlock u) s) :
    exec (.shadowCopy u) s = .next (s.boundary u) :=
  runBlockState_runs h.1 h.2

/-- Refutes O14: a pending field of the tap does not wait for the tap's own boundary, but takes effect at that of queue 0. -/
theorem not_boundariesAndHolds : ¬ Obligations.BoundariesAndHolds := by
  rintro ⟨hcopy, -⟩
  obtain ⟨hwork, hheld⟩ := working_closingQueue
  obtain ⟨t, ht, -, hwait⟩ := hcopy closingQueue (.rms 0) hwork hheld nofun nofun nofun nofun (by decide +kernel)
  obtain rfl : closingQueue.boundary (.rms 0) = t := Host.Outcome.next.inj ((exec_shadowCopy hwork).symm.trans ht)
  rw [boundary_closingQueue, waiting_closingQueue] at hwait
  exact List.cons_ne_nil _ _ hwait.symm

end Sys2Proof.Machine
end

section
/-! Refutation: the head of a chain has its position without a neighbour, in block reset too (R456). -/

namespace Sys2Proof.Machine

/-- A module powered on with the strap of the head of a chain. -/
def headOfChain : State := State.powerOn 4 { State.reset with dev := { State.reset.dev with powered := false } }

/-- The head runs, and CHN is not in reset and not being committed. -/
theorem running_headOfChain :
    Running headOfChain ∧ headOfChain.dev.reaches .trusted 0 = true ∧ headOfChain.dev.inReset 14 = false ∧
      headOfChain.dev.commitOf 14 = false := by
  decide +kernel

/-- CHN_STATUS is a register of CHN that does not survive its reset, and its reset word shows no position. -/
theorem chnStatus_isCleared :
    keyBlock Reg.CHN_STATUS = 14 ∧ survivesReset 14 Reg.CHN_STATUS = false ∧
      Reg.CHN_STATUS ∉ [Reg.LNx_CNV_STATE 0, Reg.LNx_CNV_STATE 1, Reg.FRM_TSI_PAGE_STATUS] ∧ resetWordOf Reg.CHN_STATUS = 0 := by
  decide +kernel

/-- The reset clears CHN_STATUS, and the head takes position 0 in a chain of one at once: POS_VALID and N show it. -/
theorem blockReset_headOfChain : (headOfChain.blockReset 14).dev.reg Reg.CHN_STATUS = 12 := by decide +kernel

/-- A block reset by a requester that is answered. -/
theorem exec_blockReset {s : State} (hrun : Running s) {req : Requester} (hreach : s.dev.reaches req 0 = true) (b : Fin 18) :
    exec (.blockReset req b) s = .next (s.blockReset b.val) := by
  have h : exec (.blockReset req b) s = .next (if s.dev.reaches req 0 = true then s.blockReset b.val else s) := runState_alive hrun
  rw [h, if_pos hreach]

/-- Refutes O15: after a block reset of CHN in the head of a chain, CHN_STATUS reads POS_VALID and N = 1, not its reset value. -/
theorem not_blockResetsClearAndEnd : ¬ Obligations.BlockResetsClearAndEnd := by
  rintro ⟨hclear, -⟩
  obtain ⟨hrun, hreach, hreset, hcommit⟩ := running_headOfChain
  obtain ⟨hblock, hsurvives, hnot, hword⟩ := chnStatus_isCleared
  obtain ⟨t, ht, -, hregs, -⟩ :=
    hclear headOfChain .trusted 14 hrun hreach (by decide) (by decide) (by decide) (by decide) hreset hcommit
  obtain rfl : headOfChain.blockReset 14 = t := Host.Outcome.next.inj ((exec_blockReset hrun hreach 14).symm.trans ht)
  have hzero : (headOfChain.blockReset 14).dev.reg Reg.CHN_STATUS = 0 := (hregs _ hblock hsurvives hnot).trans hword
  exact absurd (blockReset_headOfChain.symm.trans hzero) (by decide)

end Sys2Proof.Machine
end

section
/-! The chip reset (R52). In a chip just reset no region is active and no link is in RUN, so bringing the links up to date touches
registers of CHN alone. -/

namespace Sys2Proof.Machine

/-! ### Links that are idle -/

/-- e has the structure and the security state of d, and its registers but for those of l. -/
structure ShownIn (l : List Nat) (d e : Dev) : Prop where
  str : e.str = d.str
  sec : e.sec = d.sec
  regs : RegsOut (· ∉ l) d e

namespace ShownIn

variable {l m : List Nat} {d e f : Dev}

theorem refl (l : List Nat) (d : Dev) : ShownIn l d d := ⟨rfl, rfl, .refl _ d⟩

theorem trans (h : ShownIn l d e) (k : ShownIn l e f) : ShownIn l d f :=
  ⟨k.str.trans h.str, k.sec.trans h.sec, h.regs.trans k.regs⟩

theorem mono (h : ShownIn l d e) (hlm : l ⊆ m) : ShownIn m d e := ⟨h.str, h.sec, fun a ha => h.regs a fun hl => ha (hlm hl)⟩

theorem put (h : ShownIn l d e) (g : Fld) (v : Nat) (hg : g.addr ∈ l) : ShownIn l d (e.put g v) :=
  ⟨h.str, h.sec, h.regs.put g v fun _ hb he => hb (he ▸ hg)⟩

theorem putIf (h : ShownIn l d e) {c : Prop} {_ : Decidable c} (g : Fld) (v : Nat) (hg : g.addr ∈ l) :
    ShownIn l d (if c then e.put g v else e) := by
  split
  · exact h.put g v hg
  · exact h

theorem setIntUnless (h : ShownIn l d e) {c : Prop} {_ : Decidable c} (b : IntBank) (i : Nat) (hb : b.status ∈ l) :
    ShownIn l d (if c then e else e.setInt b i) := by
  split
  · exact h
  · exact ⟨(Dev.setInt_str ..).trans h.str, (Dev.setInt_sec ..).trans h.sec, h.regs.setInt b i fun _ ha he => ha (he ▸ hb)⟩

theorem causeIs (h : ShownIn l d e) (i : Nat) (b : Bool) : ShownIn l d (e.causeIs i b) :=
  ⟨(Dev.causeIs_str ..).trans h.str, (Dev.causeIs_sec ..).trans h.sec, h.regs.causeIs i b⟩

end ShownIn

/-- CHN is not active, and link k is not in RUN. -/
structure LinkIdle (d : Dev) (k : Nat) : Prop where
  inactive : d.regionActive 7 = false
  notRun : d.linkRun k = false

/-- Registers elsewhere do not concern whether a link is idle. -/
theorem LinkIdle.of_shownIn {l : List Nat} {d e : Dev} {k : Nat} (h : LinkIdle d k) (hs : ShownIn l d e)
    (hactive : Reg.STR_ACTIVE ∉ l) (hlink : Reg.CHN_LINK_STATUS k ∉ l) : LinkIdle e k :=
  ⟨(hs.regs.bitAt _ 7 hactive).trans h.inactive, (congrArg (· != 0) (hs.regs.get (Fld.CHN_LINK_STATUS.RUN k) hlink)).trans h.notRun⟩

/-- A link that is idle stays so: its lanes are counted, RUN is 0 and nothing else follows (R457). -/
theorem Dev.linkCheck_idle {d : Dev} {k : Nat} (h : LinkIdle d k) :
    ∃ n b, d.linkCheck k = ((d.put (Fld.CHN_LINK_STATUS.LANES_UP k) n).put (Fld.CHN_LINK_STATUS.RUN k) 0).causeIs (448 + k) b :=
  ⟨(d.linkLanes k).length, _, by simp [Dev.linkCheck, h.notRun, Dev.linkOn, h.inactive, bit]; rfl⟩

theorem Dev.linkCheck_shownIn {d : Dev} {k : Nat} (h : LinkIdle d k) : ShownIn [Reg.CHN_LINK_STATUS k] d (d.linkCheck k) := by
  obtain ⟨n, b, he⟩ := Dev.linkCheck_idle h
  have hk : Reg.CHN_LINK_STATUS k ∈ [Reg.CHN_LINK_STATUS k] := List.mem_singleton_self _
  exact he ▸ (((ShownIn.refl _ d).put _ n hk).put _ 0 hk).causeIs _ b

theorem Dev.linkRun_linkCheck_self {d : Dev} {k : Nat} (h : LinkIdle d k) : (d.linkCheck k).linkRun k = false := by
  obtain ⟨n, b, he⟩ := Dev.linkCheck_idle h
  simp [he, Dev.linkRun, Dev.isSet, Dev.get_put_self _ _ _ (Fld.ok_of (Fld.CHN_LINK_STATUS.RUN k) rfl rfl)]

/-- CHN alone shows the position, the size and the topology (R456). -/
theorem Dev.posCheck_shownIn (d : Dev) : ShownIn [Reg.CHN_STATUS, Reg.CHN_INT_STATUS] d d.posCheck := by
  have hstart := ShownIn.refl [Reg.CHN_STATUS, Reg.CHN_INT_STATUS] d
  have hstatus : Reg.CHN_STATUS ∈ [Reg.CHN_STATUS, Reg.CHN_INT_STATUS] := List.mem_cons_self ..
  have hint : intCHN.status ∈ [Reg.CHN_STATUS, Reg.CHN_INT_STATUS] := List.mem_cons_of_mem _ (List.mem_cons_self ..)
  refine .causeIs (.causeIs (.causeIs (.setIntUnless (.put (.put (.putIf ?_ _ _ hstatus) _ _ hstatus) _ _ hstatus) _ 1 hint)
    _ _) _ _) _ _
  split
  · split
    · exact hstart.put _ _ hstatus
    · exact (hstart.put _ _ hstatus).put _ _ hstatus
  · exact hstart

/-- Without a link in RUN there is none towards position 0 (R458). -/
theorem Dev.upstream_eq_none {d : Dev} (h0 : d.linkRun 0 = false) (h1 : d.linkRun 1 = false) : d.upstream = none := by
  simp [Dev.upstream, Dev.routeTo, h0, h1]

/-- The registers in which CHN shows its links and its position, and its interrupts. -/
def chnShown : List Nat := [Reg.CHN_LINK_STATUS 0, Reg.CHN_LINK_STATUS 1, Reg.CHN_STATUS, Reg.CHN_INT_STATUS]

/-- Bringing idle links up to date, with no chain clock offered, changes nothing but what CHN shows. -/
theorem Dev.linksCheck_shownIn {d : Dev} (h0 : LinkIdle d 0) (h1 : LinkIdle d 1) (hclock : d.refHz 10 = 0) :
    ShownIn chnShown d d.linksCheck := by
  have hs0 := Dev.linkCheck_shownIn h0
  have h1' : LinkIdle (d.linkCheck 0) 1 := h1.of_shownIn hs0 (by decide) (by decide)
  have h0' : LinkIdle (d.linkCheck 0) 0 := ⟨h1'.inactive, Dev.linkRun_linkCheck_self h0⟩
  have hs1 := Dev.linkCheck_shownIn h1'
  have hp := Dev.posCheck_shownIn ((d.linkCheck 0).linkCheck 1)
  have hs : ShownIn chnShown d ((d.linkCheck 0).linkCheck 1).posCheck :=
    ((hs0.mono (by decide)).trans (hs1.mono (by decide))).trans (hp.mono (by decide))
  have hrun0 := ((h0'.of_shownIn hs1 (by decide) (by decide)).of_shownIn hp (by decide) (by decide)).notRun
  have hrun1 := (LinkIdle.of_shownIn ⟨(h0'.of_shownIn hs1 (by decide) (by decide)).inactive, Dev.linkRun_linkCheck_self h1'⟩ hp
    (by decide) (by decide)).notRun
  have hup := Dev.upstream_eq_none hrun0 hrun1
  have hrefs : ((d.linkCheck 0).linkCheck 1).posCheck.refHz 10 = 0 :=
    (hs.regs.get (Fld.TIM_REF_FREQ_OTHER.HZ 8) (by decide)).trans hclock
  have hkept : ((d.linkCheck 0).linkCheck 1).posCheck.chainClock = ((d.linkCheck 0).linkCheck 1).posCheck := by
    simp [Dev.chainClock, hup, hrefs]
  rw [Dev.linksCheck, hkept, Dev.alignCause]
  split
  · exact hs
  · exact hs.causeIs 457 false

/-! ### The reset -/

/-- What a chip reset with cause i leaves before the links are brought up to date. -/
def Dev.justReset (i : Nat) (d : Dev) : Dev :=
  let e : Dev := {
    fresh := d.fresh, rdata := d.rdata, msix := d.msix, traps := d.traps, coreInts := d.coreInts, powered := d.powered,
    thermHold := d.thermHold, straps := d.straps, hk := d.hk, i2c := d.i2c,
    sec := { fuses := d.sec.fuses, flash := d.sec.flash, boots := d.sec.boots + 1 },
    tim := { xoOk := d.tim.xoOk, rootLocked := d.tim.rootLocked }, pwr := { calDue := d.pwr.calDue } }
  let e := (e.setReg Reg.GLB_RESET_CAUSE (d.reg Reg.GLB_RESET_CAUSE ||| placeBits i i 1)).setReg Reg.FLT_RST_ID (d.reg Reg.FLT_RST_ID)
  (e.causeIs 423 (!d.tim.xoOk)).causeIs 424 (!d.tim.rootLocked)

theorem Dev.afterReset_eq (i : Nat) (d : Dev) : d.afterReset i = (d.justReset i).linksCheck := rfl

/-- Just after a chip reset every register but the two that keep the cause reads its reset value. -/
theorem Dev.reg_justReset (i : Nat) (d : Dev) {a : Nat} (hc : a ≠ Reg.GLB_RESET_CAUSE) (hf : a ≠ Reg.FLT_RST_ID) :
    (d.justReset i).reg a = resetWordOf a := by
  rw [Dev.justReset, Dev.causeIs_reg, Dev.causeIs_reg, Dev.reg_setReg_ne _ _ hf, Dev.reg_setReg_ne _ _ hc]
  rfl

/-- The cause of the reset joins those that stand (R52). -/
theorem Dev.reg_justReset_cause (i : Nat) (d : Dev) :
    (d.justReset i).reg Reg.GLB_RESET_CAUSE = d.reg Reg.GLB_RESET_CAUSE ||| placeBits i i 1 := by
  rw [Dev.justReset, Dev.causeIs_reg, Dev.causeIs_reg, Dev.reg_setReg_ne _ _ (by decide), Dev.reg_setReg_self]

theorem Dev.justReset_str (i : Nat) (d : Dev) : (d.justReset i).str = {} := by
  rw [Dev.justReset, Dev.causeIs_str, Dev.causeIs_str]; rfl

theorem Dev.justReset_sec (i : Nat) (d : Dev) :
    (d.justReset i).sec = { fuses := d.sec.fuses, flash := d.sec.flash, boots := d.sec.boots + 1 } := by
  rw [Dev.justReset, Dev.causeIs_sec, Dev.causeIs_sec]; rfl

/-- Just after a chip reset the links are idle. -/
theorem Dev.linkIdle_justReset (i : Nat) (d : Dev) {k : Nat} (h : Reg.CHN_LINK_STATUS k ≠ Reg.GLB_RESET_CAUSE ∧
    Reg.CHN_LINK_STATUS k ≠ Reg.FLT_RST_ID ∧ resetWordOf (Reg.CHN_LINK_STATUS k) = 0) : LinkIdle (d.justReset i) k := by
  obtain ⟨hc, hf, hw⟩ := h
  have hactive : resetWordOf Reg.STR_ACTIVE = 0 := by decide +kernel
  refine ⟨?_, ?_⟩
  · rw [Dev.regionActive, Dev.bitAt, Dev.reg_justReset i d (by decide) (by decide), hactive]; rfl
  · rw [Dev.linkRun, Dev.isSet, Dev.get, show (Fld.CHN_LINK_STATUS.RUN k).addr = Reg.CHN_LINK_STATUS k from rfl,
      Dev.reg_justReset i d hc hf, hw]; rfl

/-- A chip reset leaves what it leaves before the links are brought up to date, but for what CHN shows. -/
theorem Dev.afterReset_shownIn (i : Nat) (d : Dev) : ShownIn chnShown (d.justReset i) (d.afterReset i) := by
  have hclock : (d.justReset i).refHz 10 = 0 := by
    show (d.justReset i).get (Fld.TIM_REF_FREQ_OTHER.HZ 8) = 0
    rw [Dev.get, Dev.reg_justReset i d (by decide) (by decide)]
    decide +kernel
  rw [Dev.afterReset_eq]
  exact Dev.linksCheck_shownIn (Dev.linkIdle_justReset i d (by decide +kernel)) (Dev.linkIdle_justReset i d (by decide +kernel)) hclock

/-- A register elsewhere reads its reset value after a chip reset. -/
theorem Dev.reg_afterReset (i : Nat) (d : Dev) {a : Nat} (hs : a ∉ chnShown) (hc : a ≠ Reg.GLB_RESET_CAUSE)
    (hf : a ≠ Reg.FLT_RST_ID) : (d.afterReset i).reg a = resetWordOf a :=
  ((Dev.afterReset_shownIn i d).regs a hs).trans (Dev.reg_justReset i d hc hf)

/-- GLB_RESET_CAUSE takes the cause of the reset. -/
theorem Dev.bitAt_afterReset_cause (d : Dev) {i : Nat} (hi : i < 32) : (d.afterReset i).bitAt Reg.GLB_RESET_CAUSE i = true := by
  rw [Dev.bitAt, (Dev.afterReset_shownIn i d).regs _ (by decide), Dev.reg_justReset_cause, BitVec.getLsbD_or, getLsbD_placeBit]
  simp [hi]

/-- The boot starts over after a chip reset. -/
theorem Dev.stage_afterReset (i : Nat) (d : Dev) : (d.afterReset i).stage = 0 := by
  rw [Dev.stage, Dev.get, Dev.reg_afterReset i d (by decide) (by decide) (by decide)]
  decide +kernel

/-- A write to GLB_RESET_CTL of a requester that is answered resets the chip where it has the key and CHIP = 1. -/
theorem exec_chipReset {s : State} (hrun : Running s) (req : Requester) (key : BitVec 16) (chip : Bool) :
    exec (.chipReset req key chip) s =
      .next (if s.dev.reaches req 0 = true ∧ key = 0x6B1D ∧ chip = true then s.chipReset 2 else s) :=
  runState_alive hrun

/-- Settles O16: the reset gives a device of reset values, which bringing the links up to date changes in CHN alone. -/
theorem chipResetNeedsItsKey : Obligations.ChipResetNeedsItsKey := by
  refine ⟨fun s req hrun hreach => ?_, fun s req key chip hrun hbad => ?_⟩
  · have hs := Dev.afterReset_shownIn 2 s.dev
    have hsec := hs.sec.trans (Dev.justReset_sec 2 s.dev)
    refine ⟨s.chipReset 2, ?_, rfl, rfl, rfl, Dev.bitAt_afterReset_cause s.dev (by decide), Dev.stage_afterReset 2 s.dev, ?_,
      congrArg _ (hs.str.trans (Dev.justReset_str ..)), congrArg (·.fuses) hsec, congrArg (·.flash) hsec⟩
    · rw [exec_chipReset hrun, if_pos ⟨hreach, rfl, rfl⟩]
    · exact (Dev.reg_afterReset 2 s.dev (by decide) (by decide) (by decide)).trans (by decide +kernel)
  · have hno : ¬ (s.dev.reaches req 0 = true ∧ key = 0x6B1D ∧ chip = true) := by
      rintro ⟨-, hkey, hchip⟩
      rcases hbad with h | h
      · exact h hkey
      · simp [hchip] at h
    rw [exec_chipReset hrun, if_neg hno]

end Sys2Proof.Machine
end

section
/-! Encoding and decoding of superframes (R28, R156, R162, R167, R168, R171). -/

namespace Sys2Proof.Machine

/-! ### The FEC of a port beside its registers -/

theorem Dev.fecOf_congr {d e : Dev} (h : e.fec = d.fec) (x : Nat) : e.fecOf x = d.fecOf x := by rw [Dev.fecOf, h]; rfl

@[simp] theorem Dev.fecOf_setFec_self (d : Dev) (x : Nat) (f : FecState) : (d.setFec x f).fecOf x = f :=
  Sparse.get_put_self _ _ _ _

theorem Dev.fecOf_setFec_ne (d : Dev) {x y : Nat} (h : y ≠ x) (f : FecState) : (d.setFec x f).fecOf y = d.fecOf y :=
  Sparse.get_put_ne _ _ _ _ h

@[simp] theorem Dev.fecOf_put (d : Dev) (g : Fld) (v x : Nat) : (d.put g v).fecOf x = d.fecOf x :=
  Dev.fecOf_congr (Dev.put_fec ..) x

/-! ### What feeds a sink does not depend on FEC_x_STATUS -/

/-- e has the structure of d and its registers, but for the status of FEC port x. -/
structure FecStatusAlone (x : Nat) (d e : Dev) : Prop where
  str : e.str = d.str
  regs : RegsOut (· ≠ Reg.FEC_x_STATUS x) d e

section
variable {x : Port} {d e : Dev} (h : FecStatusAlone x d e)
include h

theorem FecStatusAlone.inReset (b : Nat) : e.inReset b = d.inReset b :=
  h.regs.bitAt _ b (by unfold Reg.GLB_BLK_RESET Reg.FEC_x_STATUS; omega)

theorem FecStatusAlone.sourceOf (level sink inst : Nat) : e.sourceOf level sink inst = d.sourceOf level sink inst := by
  have he : e.sourceOf level sink inst = ({ d with str := e.str } : Dev).sourceOf level sink inst := rfl
  rw [he, h.str]

theorem FecStatusAlone.regionRuns (r : Nat) : e.regionRuns r = d.regionRuns r := by
  have hactive := h.regs.bitAt Reg.STR_ACTIVE r (by unfold Reg.STR_ACTIVE Reg.FEC_x_STATUS; omega)
  have hstate := h.regs.bitAt Reg.STR_STATE (24 + r) (by unfold Reg.STR_STATE Reg.FEC_x_STATUS; omega)
  rw [Dev.regionRuns, Dev.regionRuns, Dev.regionActive, Dev.regionActive, Dev.restructuring, Dev.restructuring, hactive, hstate]

theorem FecStatusAlone.played (out inst : Nat) : e.played out inst = d.played out inst := by
  have hstate (p : Nat) := h.regs.get (Fld.CAP_PLY_STATUS.STATE p) (by
    show Reg.CAP_PLY_STATUS p ≠ _; unfold Reg.CAP_PLY_STATUS Reg.FEC_x_STATUS; omega)
  have hout (p : Nat) := h.regs.get (Fld.CAP_PLY_CTL.OUT p) (by
    show Reg.CAP_PLY_CTL p ≠ _; unfold Reg.CAP_PLY_CTL Reg.FEC_x_STATUS; omega)
  have hinst (p : Nat) := h.regs.get (Fld.CAP_PLY_CTL.INST p) (by
    show Reg.CAP_PLY_CTL p ≠ _; unfold Reg.CAP_PLY_CTL Reg.FEC_x_STATUS; omega)
  simp only [Dev.played, hstate, hout, hinst]

theorem FecStatusAlone.delivers (code inst : Nat) : e.delivers code inst = d.delivers code inst := by
  have hdec {y : Nat} (hy : y < 2) : e.isSet (Fld.FEC_x_CTL.DEC_EN y) = d.isSet (Fld.FEC_x_CTL.DEC_EN y) :=
    congrArg (· != 0) (h.regs.get _ (by show Reg.FEC_x_CTL y ≠ _; unfold Reg.FEC_x_CTL Reg.FEC_x_STATUS; omega))
  have hframer {y : Nat} (hy : y < 2) : e.isSet (Fld.FRM_x_OTU_CTL.TX_EN y) = d.isSet (Fld.FRM_x_OTU_CTL.TX_EN y) :=
    congrArg (· != 0) (h.regs.get _ (by show Reg.FRM_x_OTU_CTL y ≠ _; unfold Reg.FRM_x_OTU_CTL Reg.FEC_x_STATUS; omega))
  have hmode {y : Nat} (hy : y < 2) : e.get (Fld.LNx_DSP_STATE.MODE_ERR y) = d.get (Fld.LNx_DSP_STATE.MODE_ERR y) :=
    h.regs.get _ (by show Reg.LNx_DSP_STATE y ≠ _; unfold Reg.LNx_DSP_STATE Reg.FEC_x_STATUS; omega)
  unfold Dev.delivers
  simp only [h.regionRuns, h.inReset, h.played, hdec Nat.zero_lt_two, hdec Nat.one_lt_two, hframer Nat.zero_lt_two,
    hframer Nat.one_lt_two, hmode Nat.zero_lt_two, hmode Nat.one_lt_two]

theorem FecStatusAlone.feeds (level sink inst : Nat) : e.feeds level sink inst = d.feeds level sink inst := by
  simp only [Dev.feeds, h.inReset, h.sourceOf, h.delivers]

end

/-! ### The encoder -/

/-- The device whose encoder of port x forms a superframe from its input. -/
def Dev.encoding (d : Dev) (x : Nat) : Dev := (d.superframeStart x true).put (Fld.FEC_x_STATUS.ENC_RUN x) 1

theorem Dev.encoding_alone (d : Dev) (x : Nat) : FecStatusAlone x d (d.encoding x) :=
  ⟨rfl, (RegsOut.refl _ d).put (Fld.FEC_x_STATUS.ENC_RUN x) 1 fun _ h => h⟩

theorem Dev.superframeEncode_stopped {d : Dev} {x : Nat} (h : d.fecRuns x = false) (bits : List Bool) :
    d.superframeEncode x bits = d := by
  simp [Dev.superframeEncode, h]

/-- With ENC_EN = 0 the encoder sends line idle from the PRBS (R162). -/
theorem Dev.superframeEncode_idle {d : Dev} {x : Nat} (h : d.fecRuns x = true) (hen : d.get (Fld.FEC_x_CTL.ENC_EN x) = 0)
    (bits : List Bool) :
    d.superframeEncode x bits = ((d.superframeStart x true).setFec x { d.fecOf x with
      prbs := (prbs31Bits (packing (d.fecFmt x)).netBits (d.fecOf x).prbs).2,
      sent := encodeNet (packing (d.fecFmt x)) (prbs31Bits (packing (d.fecFmt x)).netBits (d.fecOf x).prbs).1 }).put
      (Fld.FEC_x_STATUS.ENC_RUN x) 0 := by
  have hoff : (d.superframeStart x true).isSet (Fld.FEC_x_CTL.ENC_EN x) = false := congrArg (· != 0) hen
  simp only [Dev.superframeEncode, h, hoff]
  rfl

/-- With ENC_EN = 0 the PRBS has moved on, and the encoder changes its port's status alone, where ENC_RUN is 0. -/
theorem Dev.superframeEncode_idle_shows {d : Dev} {x : Nat} (h : d.fecRuns x = true) (hen : d.get (Fld.FEC_x_CTL.ENC_EN x) = 0)
    (bits : List Bool) :
    ((d.superframeEncode x bits).fecOf x).sent =
        encodeNet (packing (d.fecFmt x)) (prbs31Bits (packing (d.fecFmt x)).netBits (d.fecOf x).prbs).1 ∧
      ((d.superframeEncode x bits).fecOf x).prbs = (prbs31Bits (packing (d.fecFmt x)).netBits (d.fecOf x).prbs).2 ∧
      (d.superframeEncode x bits).get (Fld.FEC_x_STATUS.ENC_RUN x) = 0 ∧
      RegsKept [Reg.FEC_x_STATUS x] d (d.superframeEncode x bits) := by
  rw [Dev.superframeEncode_idle h hen, Dev.fecOf_put, Dev.fecOf_setFec_self]
  dsimp only
  exact ⟨rfl, rfl, Dev.get_put_self _ _ _ (Fld.ok_of _ rfl rfl), regsKept_singleton fun b hb => Dev.reg_put_ne _ _ _ hb⟩

/-- With ENC_EN = 1 the encoder sends its encoded input (R156). -/
theorem Dev.superframeEncode_on {d : Dev} {x : Nat} (h : d.fecRuns x = true) (hen : d.get (Fld.FEC_x_CTL.ENC_EN x) = 1)
    (bits : List Bool) :
    d.superframeEncode x bits =
      ((d.encoding x).otuBits x (packing (d.fecFmt x)).otuBits bits).2.setFec x
        { ((d.encoding x).otuBits x (packing (d.fecFmt x)).otuBits bits).2.fecOf x with
          sent := encodeNet (packing (d.fecFmt x)) (netStream (packing (d.fecFmt x))
            ((d.encoding x).otuBits x (packing (d.fecFmt x)).otuBits bits).1) } := by
  have hon : (d.superframeStart x true).isSet (Fld.FEC_x_CTL.ENC_EN x) = true := congrArg (· != 0) hen
  simp only [Dev.superframeEncode, h, hon]
  rfl

/-- Taking the OTU bits changes no register. -/
theorem Dev.otuBits_regs (d : Dev) (x n : Nat) (bits : List Bool) : (d.otuBits x n bits).2.regs = d.regs := by
  unfold Dev.otuBits
  split <;> rfl

/-- An encoder that a decoder feeds gets its last superframe. -/
theorem Dev.otuBits_of_decoder {d : Dev} {x i : Nat} {y : Port} (h : d.feeds 2 (0x402 + x) noInst = some (0x400 + y.val, i))
    (n : Nat) (bits : List Bool) : (d.otuBits x n bits).1 = (d.fecOf y).received := by
  have hs : d.sinkSignal 2 (0x402 + x) noInst = .stream (0x400 + y.val) i := by rw [Dev.sinkSignal, h]
  unfold Dev.otuBits
  rw [hs]
  match y with
  | 0 => rfl
  | 1 => rfl

/-- An encoder that a framer feeds gets the bits that the other encoder has taken already, then the framer's (R28). -/
theorem Dev.otuBits_of_framer {d : Dev} {x : Nat} {src : Nat × Nat} (h : d.feeds 2 (0x402 + x) noInst = some src)
    (h0 : src.1 ≠ 0x400) (h1 : src.1 ≠ 0x401) (n : Nat) (bits : List Bool) :
    (d.otuBits x n bits).1 = ((d.fecOf x).ahead ++ bits).take n := by
  have hs : d.sinkSignal 2 (0x402 + x) noInst = .stream src.1 src.2 := by rw [Dev.sinkSignal, h]
  unfold Dev.otuBits
  rw [hs]
  split
  case h_1 heq => exact absurd (Signal.stream.inj heq).1 h0
  case h_2 heq => exact absurd (Signal.stream.inj heq).1 h1
  case h_3 => rfl
  case h_4 hne => exact absurd rfl (hne src.1 src.2)

/-- With ENC_EN = 1 the encoder shows ENC_RUN, changes its port's status alone, and has sent its input encoded. -/
theorem Dev.superframeEncode_shows {d : Dev} {x : Nat} (h : d.fecRuns x = true) (hen : d.get (Fld.FEC_x_CTL.ENC_EN x) = 1)
    (bits : List Bool) :
    ((d.superframeEncode x bits).fecOf x).sent = encodeNet (packing (d.fecFmt x)) (netStream (packing (d.fecFmt x))
        ((d.encoding x).otuBits x (packing (d.fecFmt x)).otuBits bits).1) ∧
      (d.superframeEncode x bits).get (Fld.FEC_x_STATUS.ENC_RUN x) = 1 ∧
      RegsKept [Reg.FEC_x_STATUS x] d (d.superframeEncode x bits) := by
  have hregs : (d.superframeEncode x bits).regs = (d.encoding x).regs := by
    rw [Dev.superframeEncode_on h hen]
    exact Dev.otuBits_regs ..
  have hsame := (RegsOut.refl (fun _ => True) (d.encoding x)).same hregs
  refine ⟨?_, ?_, regsKept_singleton fun b hb => (hsame b trivial).trans ((d.encoding_alone x).regs b hb)⟩
  · rw [Dev.superframeEncode_on h hen, Dev.fecOf_setFec_self]
  · rw [hsame.get _ trivial]
    exact Dev.get_put_self _ _ _ (Fld.ok_of _ rfl rfl)

/-! ### Values over two registers -/

/-- A value of 64 bits over two registers reads back. -/
theorem Dev.reg64_setReg64_self (d : Dev) (lo : Nat) {v : Nat} (h : v < 2 ^ 64) : (d.setReg64 lo v).reg64 lo = v := by
  have hlo : (d.setReg64 lo v).reg lo = BitVec.ofNat 32 v := by
    rw [Dev.setReg64, Dev.reg_setReg_ne _ _ (by omega), Dev.reg_setReg_self]
  have hhi : (d.setReg64 lo v).reg (lo + 4) = BitVec.ofNat 32 (v / 2 ^ 32) := by rw [Dev.setReg64, Dev.reg_setReg_self]
  rw [Dev.reg64, hlo, hhi, BitVec.toNat_ofNat, BitVec.toNat_ofNat]
  omega

theorem RegsOut.reg64 {p : Nat → Prop} {d e : Dev} (h : RegsOut p d e) {lo : Nat} (hlo : p lo) (hhi : p (lo + 4)) :
    e.reg64 lo = d.reg64 lo := by
  rw [Dev.reg64, Dev.reg64, h _ hlo, h _ hhi]

/-- A 48-bit counter over two registers counts, and saturates (R16). -/
theorem Dev.reg64_incWide_self (d : Dev) (lo n : Nat) : (d.incWide lo 48 n).reg64 lo = min (d.reg64 lo + n) (2 ^ 48 - 1) := by
  rw [Dev.incWide, Dev.reg64_setReg64_self]
  omega

/-! ### The decoder -/

/-- The two registers of running counter i of port x. -/
def fecCounter (x i : Nat) : List Nat := [Reg.FEC_x_CNT_LO x i, Reg.FEC_x_CNT_LO x i + 4]

/-- A running counter depends on its own two registers. -/
theorem RegsOut.fecCounter {x i : Nat} {d e : Dev} (h : RegsOut (· ∈ fecCounter x i) d e) :
    e.reg64 (Reg.FEC_x_CNT_LO x i) = d.reg64 (Reg.FEC_x_CNT_LO x i) :=
  h.reg64 (List.mem_cons_self ..) (List.mem_cons_of_mem _ (List.mem_cons_self ..))

/-- Changing one running counter leaves the registers of another. -/
theorem RegsOut.setFecCounter {x i j : Nat} {d e : Dev} (h : RegsOut (· ∈ Machine.fecCounter x i) d e) (hij : i ≠ j) (v : Nat) :
    RegsOut (· ∈ Machine.fecCounter x i) d (e.setReg64 (Reg.FEC_x_CNT_LO x j) v) :=
  h.setReg64 _ v fun b hb => by
    simp only [Machine.fecCounter, List.mem_cons, List.not_mem_nil, or_false, Reg.FEC_x_CNT_LO] at hb ⊢
    omega

/-- What follows the first running counter once a superframe is decoded: the other three, the interrupts and the cause, and DEC_RUN. -/
def Dev.decodeEnds (x corr bad shape : Nat) (d : Dev) : Dev :=
  let d := ((d.fecCount x 1 corr).fecCount x 2 bad).fecCount x 3 shape
  let d := if bad = 0 then d else d.setInt (intFEC x) 1
  let d := if shape = 0 then d else (d.setInt (intFEC x) 2).raise (fFEC x 1)
  d.put (Fld.FEC_x_STATUS.DEC_RUN x) 1

@[simp] theorem Dev.fecCount_fec (d : Dev) (x i n : Nat) : (d.fecCount x i n).fec = d.fec := Dev.setReg64_fec ..

theorem Dev.decodeEnds_fec (x corr bad shape : Nat) (d : Dev) : (d.decodeEnds x corr bad shape).fec = d.fec := by
  simp only [Dev.decodeEnds, Dev.put_fec, apply_ite Dev.fec, Dev.raise_fec, Dev.setInt_fec, ite_self, Dev.fecCount_fec]

theorem Dev.decodeEnds_decRun (x corr bad shape : Nat) (d : Dev) :
    (d.decodeEnds x corr bad shape).get (Fld.FEC_x_STATUS.DEC_RUN x) = 1 :=
  Dev.get_put_self _ _ _ (Fld.ok_of _ rfl rfl)

/-- What follows leaves the first running counter. -/
theorem Dev.decodeEnds_keepsCounter (x corr bad shape : Nat) (d : Dev) :
    RegsOut (· ∈ fecCounter x 0) d (d.decodeEnds x corr bad shape) := by
  have hint : ∀ b ∈ fecCounter x 0, b ≠ (intFEC x).status := by
    simp only [fecCounter, List.mem_cons, List.not_mem_nil, or_false, Reg.FEC_x_CNT_LO, intFEC, Reg.FEC_x_INT_STATUS]
    omega
  have hstatus : ∀ b ∈ fecCounter x 0, b ≠ (Fld.FEC_x_STATUS.DEC_RUN x).addr := by
    simp only [fecCounter, List.mem_cons, List.not_mem_nil, or_false, Reg.FEC_x_CNT_LO, Fld.FEC_x_STATUS.DEC_RUN, Reg.FEC_x_STATUS]
    omega
  have hcounts : RegsOut (· ∈ fecCounter x 0) d (((d.fecCount x 1 corr).fecCount x 2 bad).fecCount x 3 shape) :=
    (((RegsOut.refl _ d).setFecCounter (by decide) _).setFecCounter (by decide) _).setFecCounter (by decide) _
  have hbad := RegsOut.ite (c := bad = 0) hcounts (hcounts.setInt _ 1 hint)
  exact (RegsOut.ite (c := shape = 0) hbad ((hbad.setInt _ 2 hint).raise _)).put _ _ hstatus

/-- A decoder that does not work, or is disabled, shows no DEC_RUN. -/
theorem Dev.superframeDecode_stopped {d : Dev} {x : Nat} (h : d.fecRuns x = false ∨ d.get (Fld.FEC_x_CTL.DEC_EN x) = 0)
    (llrs : List (BitVec 5)) : d.superframeDecode x llrs = d.put (Fld.FEC_x_STATUS.DEC_RUN x) 0 := by
  have hoff : (!d.fecRuns x || !d.isSet (Fld.FEC_x_CTL.DEC_EN x)) = true := by
    rcases h with h | h <;> simp [Dev.isSet, h]
  rw [Dev.superframeDecode, if_pos hoff]

/-- The codewords of a superframe at the decoder of port x. -/
def Dev.codewordsAt (d : Dev) (x : Nat) (llrs : List (BitVec 5)) : List Decoded :=
  (List.range (packing (d.fecFmt x)).codewords).map (decodeCodeword (packing (d.fecFmt x)) (d.get (Fld.FEC_x_DEC_CTL.NORM x))
    (d.get (Fld.FEC_x_DEC_STATUS.ITER_ACT x)) (d.isSet (Fld.FEC_x_DEC_CTL.EARLY_STOP x)) llrs)

/-- A superframe that no port in TRACK feeds gives zeros (R168). -/
theorem Dev.superframeDecode_untracked {d : Dev} {x : Nat} (h : d.fecRuns x = true) (hen : d.get (Fld.FEC_x_CTL.DEC_EN x) = 1)
    (htrack : d.decodes x = false) (llrs : List (BitVec 5)) :
    d.superframeDecode x llrs =
      (d.setFec x { d.fecOf x with received := List.replicate (packing (d.fecFmt x)).otuBits false }).put
        (Fld.FEC_x_STATUS.DEC_RUN x) 0 := by
  simp [Dev.superframeDecode, h, Dev.isSet, hen, htrack]

/-- A superframe that a port in TRACK feeds is decoded and counted (R167, R171). -/
theorem Dev.superframeDecode_tracked {d : Dev} {x : Nat} (h : d.fecRuns x = true) (hen : d.get (Fld.FEC_x_CTL.DEC_EN x) = 1)
    (htrack : d.decodes x = true) (llrs : List (BitVec 5)) :
    ∃ corr bad iters shape, d.superframeDecode x llrs =
      (((d.superframeStart x false).setFec x { d.fecOf x with
        cw := (d.fecOf x).cw + (packing (d.fecFmt x)).codewords, corr := (d.fecOf x).corr + corr,
        uncorr := (d.fecOf x).uncorr + bad, iters := iters, shape := (d.fecOf x).shape + shape,
        received := (rebuild (packing (d.fecFmt x)) (d.codewordsAt x llrs)).1 }).fecCount x 0
          (packing (d.fecFmt x)).codewords).decodeEnds x corr bad shape := by
  have hon : ¬ (!d.fecRuns x || !d.isSet (Fld.FEC_x_CTL.DEC_EN x)) = true := by simp [Dev.isSet, h, hen]
  have hdec : ¬ (!d.decodes x) = true := by simp [htrack]
  rw [Dev.superframeDecode, if_neg hon, if_neg hdec]
  exact ⟨_, _, _, _, rfl⟩

/-- A decoded superframe shows DEC_RUN; its OTU bits are rebuilt from its codewords, which are counted. -/
theorem Dev.superframeDecode_shows {d : Dev} {x : Nat} (h : d.fecRuns x = true) (hen : d.get (Fld.FEC_x_CTL.DEC_EN x) = 1)
    (htrack : d.decodes x = true) (llrs : List (BitVec 5)) :
    (d.superframeDecode x llrs).get (Fld.FEC_x_STATUS.DEC_RUN x) = 1 ∧
      ((d.superframeDecode x llrs).fecOf x).received = (rebuild (packing (d.fecFmt x)) (d.codewordsAt x llrs)).1 ∧
      ((d.superframeDecode x llrs).fecOf x).cw = (d.fecOf x).cw + (packing (d.fecFmt x)).codewords ∧
      (d.superframeDecode x llrs).reg64 (Reg.FEC_x_CNT_LO x 0) =
        min (d.reg64 (Reg.FEC_x_CNT_LO x 0) + (packing (d.fecFmt x)).codewords) (2 ^ 48 - 1) := by
  obtain ⟨corr, bad, iters, shape, he⟩ := Dev.superframeDecode_tracked h hen htrack llrs
  have hfec := Dev.fecOf_congr ((congrArg Dev.fec he).trans ((Dev.decodeEnds_fec ..).trans (Dev.fecCount_fec ..))) x
  rw [Dev.fecOf_setFec_self] at hfec
  refine ⟨?_, congrArg FecState.received hfec, congrArg FecState.cw hfec, ?_⟩
  · rw [he, Dev.decodeEnds_decRun]
  · rw [he, RegsOut.fecCounter (Dev.decodeEnds_keepsCounter x corr bad shape _), Dev.fecCount, Dev.reg64_incWide_self]
    rfl

/-! ### The counters -/

/-- CNT_CLR changes the running counters alone. -/
theorem Dev.fecCntClr_kept (x : Nat) (d : Dev) :
    RegsKept ((List.range 4).flatMap (fun i => [Reg.FEC_x_CNT_LO x i, Reg.FEC_x_CNT_LO x i + 4])) d (d.fecCntClr x) :=
  RegsOut.forUpTo 4 _ (fun _ i hi h => h.setReg64 _ 0 fun b hb => by
    have hno := fun hm => hb (List.mem_flatMap.2 ⟨i, List.mem_range.2 hi, hm⟩)
    simpa using hno) (.refl _ d)

/-- After CNT_CLR the running counters are 0: clearing a later one leaves the earlier ones. -/
theorem Dev.reg64_fecCntClr (x : Nat) (d : Dev) {i : Nat} (hi : i < 4) : (d.fecCntClr x).reg64 (Reg.FEC_x_CNT_LO x i) = 0 := by
  have hself (e : Dev) (j : Nat) : (e.setReg64 (Reg.FEC_x_CNT_LO x j) 0).reg64 (Reg.FEC_x_CNT_LO x j) = 0 :=
    Dev.reg64_setReg64_self e _ (by decide)
  have hne (e : Dev) (j k : Nat) (hjk : j ≠ k) :
      (e.setReg64 (Reg.FEC_x_CNT_LO x k) 0).reg64 (Reg.FEC_x_CNT_LO x j) = e.reg64 (Reg.FEC_x_CNT_LO x j) :=
    ((RegsOut.refl _ e).setFecCounter hjk 0).fecCounter
  have hall : d.fecCntClr x = (((d.setReg64 (Reg.FEC_x_CNT_LO x 0) 0).setReg64 (Reg.FEC_x_CNT_LO x 1) 0).setReg64
    (Reg.FEC_x_CNT_LO x 2) 0).setReg64 (Reg.FEC_x_CNT_LO x 3) 0 := rfl
  rw [hall]
  match i with
  | 0 => rw [hne _ _ _ (by decide), hne _ _ _ (by decide), hne _ _ _ (by decide), hself]
  | 1 => rw [hne _ _ _ (by decide), hne _ _ _ (by decide), hself]
  | 2 => rw [hne _ _ _ (by decide), hself]
  | 3 => exact hself _ _

/-! ### The commands -/

theorem exec_superframeEncode {s : State} (h : Running s) (x : Port) (bits : List Bool) :
    exec (.superframeEncode x bits) s = .next { s with dev := s.dev.superframeEncode x bits } :=
  runDev_alive (f := Dev.superframeEncode x bits) h

theorem exec_superframeDecode {s : State} (h : Running s) (x : Port) (llrs : List (BitVec 5)) :
    exec (.superframeDecode x llrs) s = .next { s with dev := s.dev.superframeDecode x llrs } :=
  runDev_alive (f := Dev.superframeDecode x llrs) h

theorem exec_fecCntClr {s : State} {req : Requester} (h : Writable req 4 s) (x : Port) :
    exec (.fecCntClr req x) s = .next { s with dev := s.dev.fecCntClr x } :=
  runWrite_runs (f := Dev.fecCntClr x) h.1 h.2

/-- Settles O25: each command by the case of its encoder or decoder. -/
theorem superframesAreEncodedAndDecoded : Obligations.SuperframesAreEncodedAndDecoded := by
  refine ⟨fun s x bits hrun => ⟨?_, ?_, ?_, ?_, ?_⟩, fun s x llrs hrun => ⟨?_, ?_, ?_⟩, fun s req x hw => ?_⟩
  · intro hstop
    rw [exec_superframeEncode hrun, Dev.superframeEncode_stopped hstop]
  · intro src hfec hen hfeeds h0 h1
    obtain ⟨hsent, hshow, hkept⟩ := Dev.superframeEncode_shows hfec hen bits
    rw [Dev.otuBits_of_framer (((s.dev.encoding_alone x).feeds ..).trans hfeeds) h0 h1] at hsent
    exact ⟨_, exec_superframeEncode hrun x bits, hsent, hshow, .ofDev hkept⟩
  · intro y i hfec hen hfeeds
    obtain ⟨hsent, hshow, hkept⟩ := Dev.superframeEncode_shows hfec hen bits
    rw [Dev.otuBits_of_decoder (((s.dev.encoding_alone x).feeds ..).trans hfeeds)] at hsent
    exact ⟨_, exec_superframeEncode hrun x bits, hsent, hshow, .ofDev hkept⟩
  · intro hfec hen _
    obtain ⟨-, hshow, hkept⟩ := Dev.superframeEncode_shows hfec hen bits
    exact ⟨_, exec_superframeEncode hrun x bits, hshow, .ofDev hkept⟩
  · intro hfec hen
    obtain ⟨hsent, hprbs, hshow, hkept⟩ := Dev.superframeEncode_idle_shows hfec hen bits
    exact ⟨_, exec_superframeEncode hrun x bits, hsent, hprbs, hshow, .ofDev hkept⟩
  · intro hstop
    refine ⟨_, exec_superframeDecode hrun x llrs, ?_⟩
    rw [Dev.superframeDecode_stopped hstop]
    exact ⟨Dev.get_put_self _ _ _ (Fld.ok_of _ rfl rfl), .ofDev (regsKept_singleton fun b hb => Dev.reg_put_ne _ _ _ hb)⟩
  · intro hfec hen htrack
    refine ⟨_, exec_superframeDecode hrun x llrs, ?_⟩
    rw [Dev.superframeDecode_untracked hfec hen htrack]
    exact ⟨Dev.get_put_self _ _ _ (Fld.ok_of _ rfl rfl), congrArg FecState.received (Dev.fecOf_setFec_self ..),
      .ofDev (regsKept_singleton fun b hb => Dev.reg_put_ne _ _ _ hb)⟩
  · intro hfec hen htrack
    exact ⟨_, exec_superframeDecode hrun x llrs, ⟨rfl, rfl, rfl⟩, Dev.superframeDecode_shows hfec hen htrack llrs⟩
  · exact ⟨_, exec_fecCntClr hw x, fun i hi => Dev.reg64_fecCntClr x s.dev hi, .ofDev (Dev.fecCntClr_kept x s.dev)⟩

end Sys2Proof.Machine
end

section
/-! Block STR (02_structure_images.md): what its operations leave and show, and the loading of an image (R69 to R72). -/

namespace Sys2Proof.Machine

-- In sequence: a side goal left to an `autoParam` of this text waits for all that stands before it, a thread for each that waits.
set_option Elab.async false

/-! ### Registers kept by changes within a list of keys -/

section
variable {l : List Nat} {d e : Dev} (h : RegsKept l d e)
include h

theorem RegsKept.setReg (a : Nat) (v : Word) (ha : a ∈ l := by decide) : RegsKept l d (e.setReg a v) :=
  RegsOut.setReg h a v fun _ hb hba => hb (hba ▸ ha)

theorem RegsKept.put (f : Fld) (v : Nat) (hf : f.addr ∈ l := by decide) : RegsKept l d (e.put f v) := h.setReg _ _ hf

theorem RegsKept.setInt (b : IntBank) (i : Nat) (hb : b.status ∈ l := by decide) : RegsKept l d (e.setInt b i) :=
  RegsOut.setInt h b i fun _ hc hcb => hc (hcb ▸ hb)

theorem RegsKept.raise (f : Nat) : RegsKept l d (e.raise f) := RegsOut.raise h f

/-- A further change that leaves the register file as it is. -/
theorem RegsKept.same {f : Dev} (hf : f.regs = e.regs := by rfl) : RegsKept l d f := RegsOut.same h hf

end

theorem RegsKept.refl (l : List Nat) (d : Dev) : RegsKept l d d := RegsOut.refl _ d

/-! ### Fields and interrupt bits -/

/-- Writing a field leaves the fields of every other register. -/
theorem Dev.get_put_elsewhere (d : Dev) {f g : Fld} (v : Nat) (h : g.addr ≠ f.addr) : (d.put f v).get g = d.get g := by
  rw [Dev.get_put, if_neg h]

/-- The interrupt bit that is set reads 1. -/
theorem Dev.bitAt_setInt_self (d : Dev) (b : IntBank) {i : Nat} (hi : i < 32) : (d.setInt b i).bitAt b.status i = true := by
  unfold Dev.setInt
  dsimp only
  split
  · exact Dev.bitAt_setBit_self d _ i hi
  · exact Dev.bitAt_setBit_self d _ i hi

/-- Setting an interrupt bit leaves every other register. -/
theorem Dev.reg_setInt_ne (d : Dev) (b : IntBank) (i : Nat) {a : Nat} (h : a ≠ b.status) : (d.setInt b i).reg a = d.reg a :=
  (RegsOut.refl (· ≠ b.status) d).setInt b i (fun _ => id) a h

theorem Dev.get_setInt_ne (d : Dev) (b : IntBank) (i : Nat) {g : Fld} (h : g.addr ≠ b.status) : (d.setInt b i).get g = d.get g := by
  rw [Dev.get, Dev.reg_setInt_ne d b i h, Dev.get]

/-! ### A failed load or a refused commit -/

/-- What a failure of STR leaves as it is and what it shows: only ERR, its detail and an interrupt bit change. -/
theorem Dev.strFail_regsKept (d : Dev) (code detail int fault : Nat) :
    RegsKept [Reg.STR_STATE, Reg.STR_ERR_DETAIL, Reg.STR_INT_STATUS] d (d.strFail code detail int fault) :=
  ((((RegsKept.refl _ d).put _ _).setReg _ _).setInt _ _).raise _

@[simp] theorem Dev.strFail_str (d : Dev) (code detail int fault : Nat) : (d.strFail code detail int fault).str = d.str := by
  simp [Dev.strFail]

theorem Dev.strFail_arising (d : Dev) (code detail int fault : Nat) : Arising fault (d.strFail code detail int fault) :=
  Dev.raise_arises _ _

/-- The state register after a failure is that with ERR written. -/
theorem Dev.get_strFail (d : Dev) (code detail int fault : Nat) {g : Fld} (hg : g.addr = Reg.STR_STATE) :
    (d.strFail code detail int fault).get g = (d.put Fld.STR_STATE.ERR code).get g := by
  have hd : g.addr ≠ Reg.STR_ERR_DETAIL := by rw [hg]; decide
  have hi : g.addr ≠ intSTR.status := by rw [hg]; decide
  rw [Dev.strFail, Dev.raise_get, Dev.get_setInt_ne _ _ _ hi, Dev.get_setReg, if_neg hd]

theorem Dev.err_strFail (d : Dev) (code detail int fault : Nat) :
    (d.strFail code detail int fault).get Fld.STR_STATE.ERR = code % 256 := by
  rw [Dev.get_strFail _ _ _ _ _ rfl, Dev.get_put_self _ _ _ (Fld.ok_of _ rfl rfl)]
  rfl

theorem Dev.stage_strFail (d : Dev) (code detail int fault : Nat) :
    (d.strFail code detail int fault).get Fld.STR_STATE.STAGE = d.get Fld.STR_STATE.STAGE := by
  rw [Dev.get_strFail _ _ _ _ _ rfl, Dev.get_put_ne _ _ _ _ (Fld.ok_of _ rfl rfl) (Fld.ok_of _ rfl rfl) (.inr (.inr (Fld.above rfl)))]

theorem Dev.detail_strFail (d : Dev) (code detail int fault : Nat) :
    (d.strFail code detail int fault).reg Reg.STR_ERR_DETAIL = BitVec.ofNat 32 detail := by
  rw [Dev.strFail, Dev.raise_reg, Dev.reg_setInt_ne _ _ _ (by decide), Dev.reg_setReg_self]

theorem Dev.int_strFail (d : Dev) (code detail fault : Nat) {int : Nat} (h : int < 32) :
    (d.strFail code detail int fault).bitAt Reg.STR_INT_STATUS int = true := by
  rw [Dev.strFail, Dev.raise_bitAt]
  exact Dev.bitAt_setInt_self _ intSTR h

/-! ### The end of a load -/

theorem Dev.loadEnd_regsKept (d : Dev) (stage : Nat) : RegsKept [Reg.STR_LOAD_CTL, Reg.STR_STATE] d (d.loadEnd stage) :=
  (((RegsKept.refl _ d).same).put _ _).put _ _

theorem Dev.loadEnd_stage (d : Dev) (stage : Nat) : (d.loadEnd stage).get Fld.STR_STATE.STAGE = stage % 16 :=
  Dev.get_put_self _ _ _ (Fld.ok_of _ rfl rfl)

theorem Dev.loadEnd_start (d : Dev) (stage : Nat) : (d.loadEnd stage).get Fld.STR_LOAD_CTL.START = 0 := by
  rw [Dev.loadEnd, Dev.get_put_elsewhere _ _ (by decide), Dev.get_put_self _ _ _ (Fld.ok_of _ rfl rfl)]
  rfl

/-- What a failed load shows: the staged image is lost, STAGE is FAILED, ERR and its detail tell why, STR.00 arises. -/
theorem Dev.loadFail_shows (d : Dev) (code detail : Nat) :
    (d.loadFail code detail).get Fld.STR_STATE.STAGE = 4 ∧ (d.loadFail code detail).get Fld.STR_STATE.ERR = code % 256 ∧
      (d.loadFail code detail).reg Reg.STR_ERR_DETAIL = BitVec.ofNat 32 detail ∧
      (d.loadFail code detail).str = { d.str with cfgSram := [], load := none } ∧ Arising 32 (d.loadFail code detail) :=
  ⟨(Dev.stage_strFail ..).trans (Dev.loadEnd_stage ..), Dev.err_strFail .., Dev.detail_strFail .., Dev.strFail_str ..,
    Dev.strFail_arising ..⟩

theorem Dev.loadFail_regsKept (d : Dev) (code detail : Nat) :
    RegsKept [Reg.STR_LOAD_CTL, Reg.STR_STATE, Reg.STR_ERR_DETAIL, Reg.STR_INT_STATUS] d (d.loadFail code detail) :=
  (((((((RegsKept.refl _ d).same).put _ _).put _ _).put _ _).setReg _ _).setInt _ _).raise _

theorem Dev.loadFail_start (d : Dev) (code detail : Nat) : (d.loadFail code detail).get Fld.STR_LOAD_CTL.START = 0 := by
  have h := RegsOut.get (Dev.strFail_regsKept (({ d with str := { d.str with cfgSram := [] } } : Dev).loadEnd 4) code detail 1 32)
    Fld.STR_LOAD_CTL.START (by decide)
  exact h.trans (Dev.loadEnd_start ..)

/-! ### START (R69, R72) -/

/-- Whether STR is busy does not depend on SRC. -/
theorem Dev.loadBusy_putSrc (d : Dev) (v : Nat) : (d.put Fld.STR_LOAD_CTL.SRC v).loadBusy = d.loadBusy := by
  simp only [Dev.loadBusy, Dev.put_str, Dev.get_put_elsewhere d (f := Fld.STR_LOAD_CTL.SRC) (g := Fld.STR_STATE.COMMIT) v (by decide),
    Dev.get_put_elsewhere d (f := Fld.STR_LOAD_CTL.SRC) (g := Fld.STR_STATE.STAGE) v (by decide)]

/-- While a load or commit runs START is refused with BUSY. -/
theorem Dev.loadStart_busy {d : Dev} (h : d.loadBusy = true) (src : Nat) :
    d.loadStart src = (d.put Fld.STR_LOAD_CTL.SRC src).strFail 0x1A noItem 1 32 := by
  rw [Dev.loadStart, Dev.loadBusy_putSrc, if_pos h]

/-- The device as the fetch of a load begins: the source, address and length are taken, configuration SRAM is empty. -/
def Dev.fetching (d : Dev) (src addr len : Nat) : Dev :=
  { d.put Fld.STR_LOAD_CTL.SRC src with
    str := { d.str with cfgSram := [], load := some (src, addr, len), loadFuses := d.sec.fuses } }

theorem Dev.fetching_regsKept (d : Dev) (src addr len : Nat) :
    RegsKept [Reg.STR_LOAD_CTL, Reg.STR_STATE] d (d.fetching src addr len) :=
  ((RegsKept.refl _ d).put Fld.STR_LOAD_CTL.SRC src).same

/-- START begins the fetch of what stands in the registers. -/
theorem Dev.loadStart_fetches {d : Dev} (h : d.loadBusy = false) {src : Nat}
    (hf : fetchBad src (d.reg64 Reg.STR_LOAD_ADDR_LO) (d.get Fld.STR_LOAD_LEN.LEN) = false) :
    d.loadStart src = ((d.fetching src (d.reg64 Reg.STR_LOAD_ADDR_LO) (d.get Fld.STR_LOAD_LEN.LEN)).put Fld.STR_LOAD_CTL.START 1).put
      Fld.STR_STATE.STAGE 1 := by
  have hregs : RegsKept [Reg.STR_LOAD_CTL] d (d.put Fld.STR_LOAD_CTL.SRC src) := (RegsKept.refl _ d).put _ _
  have haddr : (d.put Fld.STR_LOAD_CTL.SRC src).reg64 Reg.STR_LOAD_ADDR_LO = d.reg64 Reg.STR_LOAD_ADDR_LO :=
    RegsOut.reg64 hregs (by decide) (by decide)
  have hlen : (d.put Fld.STR_LOAD_CTL.SRC src).get Fld.STR_LOAD_LEN.LEN = d.get Fld.STR_LOAD_LEN.LEN :=
    RegsOut.get hregs _ (by decide)
  have hbusy : ¬ (d.put Fld.STR_LOAD_CTL.SRC src).loadBusy = true := by rw [Dev.loadBusy_putSrc, h]; decide
  have hgood : ¬ fetchBad src (d.reg64 Reg.STR_LOAD_ADDR_LO) (d.get Fld.STR_LOAD_LEN.LEN) = true := by rw [hf]; decide
  simp only [Dev.loadStart, if_neg hbusy, haddr, hlen, if_neg hgood]
  rfl

theorem exec_loadStart {s : State} {req : Requester} (h : Writable req 1 s) (src : BitVec 2) :
    exec (.loadStart req src) s = .next { s with dev := s.dev.loadStart src.toNat } :=
  runWrite_runs (f := Dev.loadStart src.toNat) h.1 h.2

/-! ### The fetch (R69) -/

theorem exec_loadFetchDone {s : State} (h : Running s) (data : Option (List Byte)) :
    exec (.loadFetchDone data) s = .next (s.loadFetched data) :=
  runState_alive (f := State.loadFetched data) h

/-- The bytes x are fetched: they stand in configuration SRAM, and STAGE is VERIFYING. -/
def Dev.fetched (d : Dev) (x : List Byte) : Dev := { d with str := { d.str with cfgSram := x } }.put Fld.STR_STATE.STAGE 2

theorem Dev.fetched_shows (d : Dev) (x : List Byte) :
    (d.fetched x).get Fld.STR_STATE.STAGE = 2 ∧ (d.fetched x).str.cfgSram = x ∧ RegsKept [Reg.STR_STATE] d (d.fetched x) :=
  ⟨Dev.get_put_self _ _ _ (Fld.ok_of _ rfl rfl), rfl, ((RegsKept.refl _ d).same).put _ _⟩

/-- A fetch that succeeds takes its bytes from the host, from HBM or from flash. -/
theorem State.loadFetched_some {s : State} (hs : s.dev.get Fld.STR_STATE.STAGE = 1) {src addr len : Nat}
    (hl : s.dev.str.load = some (src, addr, len)) (hflash : src = 2 → s.dev.sec.flashBusy = none) (l : List Byte) :
    s.loadFetched (some l) = { s with dev := s.dev.fetched (if src = 0 then sliceBytes l 0 len
      else if src = 1 then s.hbm.readBytes addr len else s.dev.flashRead addr len) } := by
  have hwait : ¬ (src = 2 ∧ s.dev.sec.flashBusy.isSome = true) := fun ⟨h2, hb⟩ => by simp [hflash h2] at hb
  simp only [State.loadFetched, Dev.fetched, hs, hl, ne_eq, not_true_eq_false, if_false, if_neg hwait]

/-- A fetch whose read fails ends the load with FETCH. -/
theorem State.loadFetched_none {s : State} (hs : s.dev.get Fld.STR_STATE.STAGE = 1) {src addr len : Nat}
    (hl : s.dev.str.load = some (src, addr, len)) (h : src < 2) :
    s.loadFetched none = { s with dev := s.dev.loadFail 0x01 noItem } := by
  have hwait : ¬ (src = 2 ∧ s.dev.sec.flashBusy.isSome = true) := fun ⟨h2, _⟩ => by omega
  simp only [State.loadFetched, hs, hl, ne_eq, not_true_eq_false, if_false, if_neg hwait]

/-! ### Verification (R71) -/

theorem exec_loadVerifyDone {s : State} (h : Running s) :
    exec .loadVerifyDone s = .next { s with dev := s.dev.loadVerified } :=
  runDev_alive (f := Dev.loadVerified) h

/-- Verification that finds nothing wrong ends in STAGED. -/
theorem Dev.loadVerified_good {d : Dev} (hs : d.get Fld.STR_STATE.STAGE = 2) {src addr len : Nat}
    (hl : d.str.load = some (src, addr, len)) (hv : d.verifyImage len = none) :
    d.loadVerified = (d.loadEnd 3).setInt intSTR 0 := by
  simp only [Dev.loadVerified, hs, hl, hv, ne_eq, not_true_eq_false, if_false]

/-- Verification in which a check fails ends the load with its code. -/
theorem Dev.loadVerified_bad {d : Dev} (hs : d.get Fld.STR_STATE.STAGE = 2) {src addr len code detail : Nat}
    (hl : d.str.load = some (src, addr, len)) (hv : d.verifyImage len = some (code, detail)) :
    d.loadVerified = d.loadFail code detail := by
  simp only [Dev.loadVerified, hs, hl, hv, ne_eq, not_true_eq_false, if_false]

/-- A load that is verified. -/
theorem Dev.loadStaged_shows (d : Dev) :
    ((d.loadEnd 3).setInt intSTR 0).get Fld.STR_STATE.STAGE = 3 ∧ ((d.loadEnd 3).setInt intSTR 0).get Fld.STR_LOAD_CTL.START = 0 ∧
      ((d.loadEnd 3).setInt intSTR 0).str = { d.str with load := none } ∧
      ((d.loadEnd 3).setInt intSTR 0).bitAt Reg.STR_INT_STATUS 0 = true ∧
      RegsKept [Reg.STR_LOAD_CTL, Reg.STR_STATE, Reg.STR_ERR_DETAIL, Reg.STR_INT_STATUS] d ((d.loadEnd 3).setInt intSTR 0) := by
  refine ⟨?_, ?_, ?_, Dev.bitAt_setInt_self _ intSTR (by decide), ?_⟩
  · rw [Dev.get_setInt_ne _ _ _ (by decide), Dev.loadEnd_stage]
  · rw [Dev.get_setInt_ne _ _ _ (by decide), Dev.loadEnd_start]
  · exact Dev.setInt_str ..
  · exact ((((RegsKept.refl _ d).same).put _ _).put _ _).setInt _ _

/-- Settles O19: each command by the case of what stands in STR. -/
theorem loadsStageAnImage : Obligations.LoadsStageAnImage := by
  refine ⟨fun s req src hw hidle hgood => ?_, fun s req src hw hbusy => ?_, fun s addr len l hrun hs => ?_,
    fun s src addr len hrun hs hl h2 => ?_, fun s src addr len hrun hs hl => ?_⟩
  · refine ⟨_, exec_loadStart hw src, ?_⟩
    rw [Dev.loadStart_fetches hidle hgood]
    refine ⟨Dev.get_put_self _ _ _ (Fld.ok_of _ rfl rfl), ?_, rfl, rfl, rfl,
      .ofDev (((s.dev.fetching_regsKept _ _ _).put _ _).put _ _)⟩
    rw [Dev.get_put_elsewhere _ _ (by decide), Dev.get_put_self _ _ _ (Fld.ok_of _ rfl rfl)]
    rfl
  · refine ⟨_, exec_loadStart hw src, ?_⟩
    rw [Dev.loadStart_busy hbusy]
    refine ⟨Dev.err_strFail .., Dev.strFail_arising .., Dev.strFail_str .., ?_, .ofDev ?_⟩
    · rw [Dev.stage_strFail, Dev.get_put_elsewhere _ _ (by decide)]
    · exact (((((RegsKept.refl _ s.dev).put _ _).put _ _).setReg _ _).setInt _ _).raise _
  · have hfetch (x : List Byte) : (s.dev.fetched x).get Fld.STR_STATE.STAGE = 2 ∧ (s.dev.fetched x).str.cfgSram = x ∧
        Frame [Reg.STR_STATE] s { s with dev := s.dev.fetched x } := by
      obtain ⟨hstage, hsram, hkept⟩ := s.dev.fetched_shows x
      exact ⟨hstage, hsram, .ofDev hkept⟩
    refine ⟨fun hl => ⟨_, exec_loadFetchDone hrun _, ?_⟩, fun hl => ⟨_, exec_loadFetchDone hrun _, ?_⟩,
      fun hl hflash => ⟨_, exec_loadFetchDone hrun _, ?_⟩⟩
    · rw [State.loadFetched_some hs hl (by omega)]
      exact hfetch _
    · rw [State.loadFetched_some hs hl (by omega)]
      exact hfetch _
    · rw [State.loadFetched_some hs hl fun _ => hflash]
      exact hfetch _
  · refine ⟨_, exec_loadFetchDone hrun none, ?_⟩
    rw [State.loadFetched_none hs hl h2]
    obtain ⟨hstage, herr, -, hstr, harising⟩ := s.dev.loadFail_shows 0x01 noItem
    exact ⟨hstage, herr, congrArg StrState.cfgSram hstr, congrArg StrState.load hstr, harising, .ofDev (s.dev.loadFail_regsKept _ _)⟩
  · refine ⟨_, exec_loadVerifyDone hrun, ?_⟩
    match hv : s.dev.verifyImage len with
    | none =>
      rw [Dev.loadVerified_good hs hl hv]
      obtain ⟨hstage, hstart, hstr, hint, hkept⟩ := s.dev.loadStaged_shows
      exact ⟨congrArg StrState.load hstr, hstart, .ofDev hkept, hstage, by rw [hstr], hint⟩
    | some (code, detail) =>
      rw [Dev.loadVerified_bad hs hl hv]
      obtain ⟨hstage, herr, hdetail, hstr, harising⟩ := s.dev.loadFail_shows code detail
      exact ⟨congrArg StrState.load hstr, s.dev.loadFail_start .., .ofDev (s.dev.loadFail_regsKept _ _), hstage, herr, hdetail,
        congrArg StrState.cfgSram hstr, harising⟩

end Sys2Proof.Machine
end

section
/-! What the blocks' operations leave alone: the structure, the registers of STR, and the causes on their way (R6, R63, R76, R77). One
lemma for each operation on the device that a commit or a block reset uses. -/

namespace Sys2Proof.Machine

set_option Elab.async false

/-- A key above the registers of STR. -/
def AboveStr (a : Nat) : Prop := 0x200000 ≤ a

theorem AboveStr.lit {a : Nat} (h : Nat.ble 0x200000 a = true) : AboveStr a := Nat.le_of_ble_eq_true h

theorem AboveStr.add {a b : Nat} (h : AboveStr a) : AboveStr (a + b) := Nat.le_add_right_of_le h

/-- The copy of a register for a requester lies above all of BAR0. -/
theorem AboveStr.ofRequester (r o : Nat) : AboveStr (0x100000000 * (r + 1) + o) := by
  unfold AboveStr; omega

theorem AboveStr.notStr {a : Nat} (h : AboveStr a) : a / 0x100000 ≠ 1 := by
  unfold AboveStr at h; omega

/-- e has the structure of d and the registers of STR, and every cause on its way in d is on its way in e. -/
structure KeepsStr (d e : Dev) : Prop where
  str : e.str = d.str
  regs : RegsOut (fun a => a / 0x100000 = 1) d e
  arising : ∀ f, Arising f d → Arising f e

namespace KeepsStr

/-! ### Shared operations -/

theorem refl (d : Dev) : KeepsStr d d := ⟨rfl, .refl _ d, fun _ => id⟩

theorem ite {d f g : Dev} {c : Prop} {_ : Decidable c} (hf : KeepsStr d f) (hg : KeepsStr d g) :
    KeepsStr d (if c then f else g) := by
  split <;> assumption

theorem foldl {α : Type} {d e : Dev} {f : Dev → α → Dev} {l : List α} (h : KeepsStr d e)
    (hf : ∀ {e} a, KeepsStr d e → KeepsStr d (f e a)) : KeepsStr d (l.foldl f e) := by
  induction l generalizing e with
  | nil => exact h
  | cons a l ih => exact ih (hf a h)

theorem forUpTo {d e : Dev} {n : Nat} {f : Dev → Nat → Dev} (h : KeepsStr d e) (hf : ∀ {e} i, KeepsStr d e → KeepsStr d (f e i)) :
    KeepsStr d (Dev.forUpTo n f e) := h.foldl hf

/-- A run of changes of the state. -/
theorem foldlState {α : Type} {d : Dev} {s : State} {f : State → α → State} {l : List α} (h : KeepsStr d s.dev)
    (hf : ∀ {s} a, KeepsStr d s.dev → KeepsStr d (f s a).dev) : KeepsStr d (l.foldl f s).dev := by
  induction l generalizing s with
  | nil => exact h
  | cons a l ih => exact ih (hf a h)

theorem iteState {d : Dev} {s t : State} {c : Prop} {_ : Decidable c} (hs : KeepsStr d s.dev) (ht : KeepsStr d t.dev) :
    KeepsStr d (if c then s else t).dev := by
  split <;> assumption

section
variable {d e : Dev} (h : KeepsStr d e)
include h

/-- A change of what is neither register nor structure nor cause. -/
theorem same {f : Dev} (hr : f.regs = e.regs := by rfl) (hs : f.str = e.str := by rfl) (ha : f.arising = e.arising := by rfl) :
    KeepsStr d f :=
  ⟨hs.trans h.str, h.regs.same hr, fun g hg => by rw [Arising, ha]; exact h.arising g hg⟩

/-- A register that is not one of STR. -/
theorem setRegOff (a : Nat) (v : Word) (k : a / 0x100000 ≠ 1) : KeepsStr d (e.setReg a v) :=
  ⟨h.str, h.regs.setReg a v fun _ hb hba => k (hba ▸ hb), h.arising⟩

/-- A run of registers that are none of STR is dropped. -/
theorem filterRegs {f : Dev} (p : Nat × Word → Bool) (hp : ∀ a v, a / 0x100000 = 1 → p (a, v) = true)
    (hr : f.regs = e.regs.filter p := by rfl) (hs : f.str = e.str := by rfl) (ha : f.arising = e.arising := by rfl) :
    KeepsStr d f := by
  refine ⟨hs.trans h.str, fun a k => ?_, fun g hg => by rw [Arising, ha]; exact h.arising g hg⟩
  have hget : Sparse.get (resetWordOf a) (e.regs.filter p) a = Sparse.get (resetWordOf a) e.regs a := by
    induction e.regs with
    | nil => rfl
    | cons x m ih =>
      by_cases hx : a = x.1
      · have : p x = true := by simpa [hx] using hp x.1 x.2 (hx ▸ k)
        simp [this, Sparse.get, hx]
      · by_cases hpx : p x = true <;> simp [hpx, Sparse.get, hx, ih]
  rw [← h.regs a k]
  show Sparse.get (resetWordOf a) f.regs a = _
  rw [hr, hget]
  rfl

theorem setReg (a : Nat) (v : Word) (k : AboveStr a := by (repeat apply AboveStr.add); exact .lit rfl) :
    KeepsStr d (e.setReg a v) := h.setRegOff a v k.notStr

theorem put (f : Fld) (v : Nat) (k : AboveStr f.addr := by (repeat apply AboveStr.add); exact .lit rfl) :
    KeepsStr d (e.put f v) := h.setReg _ _ k

theorem incSat (f : Fld) (n : Nat) (k : AboveStr f.addr := by (repeat apply AboveStr.add); exact .lit rfl) :
    KeepsStr d (e.incSat f n) := h.setReg _ _ k

theorem putIntSat (f : Fld) (i : Int) (k : AboveStr f.addr := by (repeat apply AboveStr.add); exact .lit rfl) :
    KeepsStr d (e.putIntSat f i) := h.setReg _ _ k

theorem setReg64 (a v : Nat) (k : AboveStr a := by (repeat apply AboveStr.add); exact .lit rfl) : KeepsStr d (e.setReg64 a v) :=
  (h.setReg _ _ k).setReg _ _ k.add

theorem incWide (a w n : Nat) (k : AboveStr a := by (repeat apply AboveStr.add); exact .lit rfl) : KeepsStr d (e.incWide a w n) :=
  h.setReg64 _ _ k

theorem setBit (a i : Nat) (k : AboveStr a := by (repeat apply AboveStr.add); exact .lit rfl) : KeepsStr d (e.setBit a i) :=
  h.setReg _ _ k

theorem clrBit (a i : Nat) (k : AboveStr a := by (repeat apply AboveStr.add); exact .lit rfl) : KeepsStr d (e.clrBit a i) :=
  h.setReg _ _ k

theorem putBit (a i : Nat) (b : Bool) (k : AboveStr a := by (repeat apply AboveStr.add); exact .lit rfl) :
    KeepsStr d (e.putBit a i b) := .ite (h.setBit _ _ k) (h.clrBit _ _ k)

theorem setInt (b : IntBank) (i : Nat) (k : AboveStr b.status := by (repeat apply AboveStr.add); exact .lit rfl) :
    KeepsStr d (e.setInt b i) := .ite (h.setBit _ _ k).same (h.setBit _ _ k)

theorem arise (f : Nat) : KeepsStr d (e.arise f) :=
  ⟨(Dev.arise_str e f).trans h.str, h.regs.arise f, fun g hg => Dev.arise_mono e f g (h.arising g hg)⟩

theorem raise (f : Nat) : KeepsStr d (e.raise f) := h.arise f

theorem causeOn (f : Nat) : KeepsStr d (e.causeOn f) := .ite h (h.same.arise f)

theorem causeOff (f : Nat) : KeepsStr d (e.causeOff f) := h.same

theorem causeIs (f : Nat) (b : Bool) : KeepsStr d (e.causeIs f b) := .ite (h.causeOn f) (h.causeOff f)

/-- Pending shadow values of keys outside STR. -/
theorem copyShadow (p : Nat → Bool) (hp : ∀ a, p a = true → a / 0x100000 ≠ 1) : KeepsStr d (e.copyShadow p) := by
  have hmem : ∀ x ∈ e.shadow.filter (fun x => p x.1 && !e.waitsForCommit x.1), x.1 / 0x100000 ≠ 1 := by
    intro x hx
    simp only [List.mem_filter, Bool.and_eq_true] at hx
    exact hp _ hx.2.1
  have hall : ∀ (l : List (Nat × Word)) {f : Dev}, (∀ x ∈ l, x.1 / 0x100000 ≠ 1) → KeepsStr d f →
      KeepsStr d (l.foldl (fun d x => d.setReg x.1 (mergeShadow (shadowMaskOf x.1) (d.reg x.1) x.2)) f) := by
    intro l
    induction l with
    | nil => exact fun _ hf => hf
    | cons x l ih =>
      exact fun hl hf => ih (fun y hy => hl y (List.mem_cons_of_mem _ hy)) (hf.setRegOff _ _ (hl x (List.mem_cons_self ..)))
  exact hall _ hmem h.same

end

/-! ### The probe engines -/

section
variable {d e : Dev} (h : KeepsStr d e)
include h

theorem latch (n mask : Nat) : KeepsStr d (e.latch n mask) := h.put _ _

theorem addCounter (c n : Nat) : KeepsStr d (e.addCounter c n) := h.setReg64 _ _

theorem latchLines (l : List Nat) : KeepsStr d (e.latchLines l) := .ite h (h.foldl fun _ h => h.latch _ _)

theorem assertLines (l : List Nat) : KeepsStr d (e.assertLines l) :=
  .ite h (.ite (h.latchLines _) ((h.latchLines _).foldl fun _ h => h.addCounter _ _))

theorem assertEvent (c : Nat) : KeepsStr d (e.assertEvent c) := .ite (h.latchLines _) (h.assertLines _)

theorem unlatch (n mask : Nat) : KeepsStr d (e.unlatch n mask) := .ite (h.put _ _) ((h.put _ _).latch _ _)

theorem setEng (n : Nat) (g : Engine) : KeepsStr d (e.setEng n g) := h.same

theorem setPc (n pc : Nat) : KeepsStr d (e.setPc n pc) := h.put _ _

theorem setEngState (n st cause : Nat) : KeepsStr d (e.setEngState n st cause) := (h.put _ _).put _ _

theorem setX (n i v : Nat) : KeepsStr d (e.setX n i v) := .ite h (h.setReg64 _ _)

theorem engFaultCause : KeepsStr d e.engFaultCause := h.causeIs _ _

theorem pulsePin (n i : Nat) : KeepsStr d (e.pulsePin n i) := h.setEng _ _

end

/-- A change that may move event lines: what the lines assert touches PRB alone. -/
theorem withLinesAt {d e : Dev} {f : Dev → Dev} (wait : Nat) (hf : KeepsStr d (f e)) : KeepsStr d (e.withLinesAt wait f) :=
  (((hf.forUpTo fun _ h => .ite h (.ite (h.same.assertEvent _) h.same)).forUpTo fun _ h =>
    .ite h (.ite (h.same.assertEvent _) h.same)).forUpTo fun _ h => .ite h h.same).forUpTo fun _ h => .ite h.same h

theorem withLines {d e : Dev} {f : Dev → Dev} (hf : KeepsStr d (f e)) : KeepsStr d (e.withLines f) := withLinesAt 4 hf

section
variable {d e : Dev} (h : KeepsStr d e)
include h

theorem releaseDrives (n : Nat) : KeepsStr d (e.releaseDrives n) := withLines (h.setEng _ _)

theorem haltEng (n cause : Nat) : KeepsStr d (e.haltEng n cause) := (h.setEngState _ _ _).releaseDrives _

theorem faultEng (n cause pc : Nat) : KeepsStr d (e.faultEng n cause pc) :=
  ((((h.setEngState _ _ _).setPc _ _).releaseDrives _).setInt _ _).engFaultCause

end
end KeepsStr
end Sys2Proof.Machine
end

section
/-! What the probe engines (R328 to R355) and the time block (R425 to R451) do leaves STR alone. -/

namespace Sys2Proof.Machine

set_option Elab.async false

namespace KeepsStr

section
variable {d e : Dev} (h : KeepsStr d e)
include h

theorem trigPulse (n kind i : Nat) : KeepsStr d (e.trigPulse n kind i) := by
  unfold Dev.trigPulse
  split
  · have hp : KeepsStr d ((e.withLines (fun d => d.setEng n { d.eng n with lineSet := (d.eng n).lineSet ||| (1#64 <<< i) })).withLines
        (fun d => d.setEng n { d.eng n with lineSet := (d.eng n).lineSet &&& ~~~(1#64 <<< i) })) :=
      withLines ((withLines (h.setEng _ _)).setEng _ _)
    exact .ite h (.ite hp (hp.assertEvent _))
  · exact .ite h (withLines (h.pulsePin _ _))
  · have hp : KeepsStr d ((e.withLines (fun d => d.setEng n { d.eng n with chainSet := (d.eng n).chainSet ||| (1#8 <<< i) })).withLines
        (fun d => d.setEng n { d.eng n with chainSet := (d.eng n).chainSet &&& ~~~(1#8 <<< i) })) :=
      withLines ((withLines (h.setEng _ _)).setEng _ _)
    exact .ite h (.ite hp (hp.assertEvent _))

theorem trigDrive (n kind i : Nat) (on : Bool) : KeepsStr d (e.trigDrive n kind i on) := by
  refine withLines ?_
  split <;> exact h.setEng _ _

theorem clearEng (n : Nat) : KeepsStr d (e.clearEng n) :=
  ((((((withLines (h.setEng _ _)).forUpTo fun _ h => h.setReg64 _ _).put _ _).setEngState _ _ _).setPc _ _)).engFaultCause

theorem issueCmd (c : ProbeCmd) : KeepsStr d (e.issueCmd c) := h.same

theorem loadTimer (n t c : Nat) (periodic : Bool) : KeepsStr d (e.loadTimer n t c periodic) := (h.setEng _ _).unlatch _ _

/-- No instruction of an engine reaches STR but through a command issued. -/
theorem insEffect (n : Nat) (i : EngIns) : KeepsStr d (e.insEffect n i) := by
  cases i with
  | alu | addi | ldi | ins | jal | evrd | trd | get => exact h.setX _ _ _
  | evclr mask => exact h.unlatch _ _
  | esel k ev => exact (h.put _ _).unlatch _ _
  | tset t ra p => exact h.loadTimer _ _ _ _
  | cnt op r c =>
    unfold Dev.insEffect
    dsimp only
    split
    · exact h.addCounter _ _
    · exact h.addCounter _ _
    · exact h.setReg64 _ _
    · exact h.setX _ _ _
  | trig mode kind i =>
    unfold Dev.insEffect
    dsimp only
    split
    · exact h.trigPulse _ _ _
    · exact h.trigDrive _ _ _ _
    · exact h.trigDrive _ _ _ _
  | cap | qcmd | play => exact h.issueCmd _
  | tsr rd second =>
    cases second with
    | false => exact (h.setEng _ _).setX _ _ _
    | true => exact h.setX _ _ _
  | put k ra => exact KeepsStr.put h _ _
  | sig b => exact (h.setBit _ _).setInt _ _
  | nop | br | jmp | halt | wait | jr => exact h

theorem goOn (n pc : Nat) : KeepsStr d (e.goOn n pc) := .ite (h.setPc _ _) (h.faultEng _ _ _)

theorem releaseWait (n : Nat) (keep : Bool) (mask : Nat) : KeepsStr d (e.releaseWait n keep mask) :=
  .ite (h.setX _ _ _) ((h.setX _ _ _).unlatch _ _)

theorem issueIns (n pc : Nat) (i : EngIns) (stepping : Bool) : KeepsStr d (e.issueIns n pc i stepping) := by
  unfold Dev.issueIns
  split
  · exact (h.setPc _ _).haltEng _ _
  · exact .ite (h.setPc _ _) (h.faultEng _ _ _)
  · exact .ite ((h.releaseWait _ _ _).goOn _ _) (.ite h (h.setEngState _ _ _))
  · exact (h.insEffect _ _).goOn _ _

theorem ungate (n : Nat) : KeepsStr d (e.ungate n) := h.same

theorem runEng (n : Nat) : KeepsStr d (e.runEng n) :=
  .ite (.ite ((h.ungate _).setEngState _ _ _) ((h.ungate _).faultEng _ _ _)) h

theorem haltCmd (n : Nat) : KeepsStr d (e.haltCmd n) := .ite (h.haltEng _ _) h

theorem runMask (mask : BitVec 64) : KeepsStr d (e.runMask mask) := .ite (h.forUpTo fun _ h => .ite (h.runEng _) h) h

theorem haltMask (mask : BitVec 64) : KeepsStr d (e.haltMask mask) := h.forUpTo fun _ h => .ite (h.haltCmd _) h

theorem restartEng (n : Nat) : KeepsStr d (e.restartEng n) := .ite h (h.clearEng _)

theorem stepEng (n : Nat) : KeepsStr d (e.stepEng n) := by
  unfold Dev.stepEng
  refine .ite (.ite ?_ (h.faultEng _ _ _)) h
  split
  · exact .ite ((h.ungate _).issueIns _ _ _ _) (((h.ungate _).issueIns _ _ _ _).haltEng _ _)
  · exact h

theorem startEngines : KeepsStr d e.startEngines :=
  ((h.foldl fun _ h => .ite h (h.clearEng _)).foldl fun _ h => .ite ((h.ungate _).setEngState _ _ _) h).engFaultCause

theorem endPulses (n : Nat) : KeepsStr d (e.endPulses n) := withLines (h.setEng _ _)

theorem stopEngines : KeepsStr d e.stopEngines :=
  h.foldl fun _ h => (KeepsStr.ite (h.haltEng _ _) (h.releaseDrives _)).endPulses _

theorem clearProbeCounts : KeepsStr d e.clearProbeCounts := by
  refine h.filterRegs _ fun a v k => ?_
  have hlow : a < 0x200000 := by omega
  have hcnt : ¬ Reg.PRB_CNT_LO 0 ≤ a := by unfold Reg.PRB_CNT_LO; omega
  have hpm : ¬ 0xA40000 ≤ a := by omega
  simp [hcnt, hpm]

theorem pmLoadOp (x : Nat) : KeepsStr d (e.pmLoadOp x) := h.same

theorem pmHitsClrOp (x : Nat) : KeepsStr d (e.pmHitsClrOp x) := (h.setReg64 (Reg.PRB_PM_HITS_LO x) 0).same

theorem prbCntWrite (c : Nat) (hi : Word) : KeepsStr d (e.prbCntWrite c hi) := by
  unfold Dev.prbCntWrite
  exact (h.setReg64 (Reg.PRB_CNT_LO c) _).same

theorem installPrograms (l : List (Nat × List Word)) : KeepsStr d (e.installPrograms l) := by
  refine h.forUpTo fun _ h => ?_
  split
  · exact h.setEng _ _
  · exact (h.setEng _ _).setReg _ _

/-! ### Clocks and time -/

theorem refreshRefs : KeepsStr d e.refreshRefs := (h.forUpTo fun _ h => (h.put _ _).put _ _).causeIs _ _

theorem requalify (i : Nat) : KeepsStr d (e.requalify i) := by
  have hq := h.put (Fld.TIM_REF_STATUS.QUAL i) 1
  have hn := ((h.put (Fld.TIM_REF_STATUS.QUAL i) 0).put (Fld.TIM_REF_STATUS.WTR_RUN i) 0).put (Fld.TIM_REF_STATUS.WTR_LEFT i) 0
  exact .ite (.ite hq ((hq.same.put _ _).put _ _)) (.ite (.ite ((hn.raise _).incSat _ _) hn) h)

theorem refInactive (i : Nat) : KeepsStr d (e.refInactive i) :=
  (((((h.put (Fld.TIM_REF_STATUS.ACT i) 0).put (Fld.TIM_REF_STATUS.FREQ_OK i) 0).put (Fld.TIM_REF_FO.FO i) 0).same).requalify
    _).refreshRefs

theorem offerRef (i hz : Nat) : KeepsStr d (e.offerRef i hz) := h.put _ _

theorem withdrawRef (i : Nat) : KeepsStr d (e.withdrawRef i) := .ite ((h.put _ _).refInactive _) (h.put _ _)

theorem setDpll (st sel : Nat) : KeepsStr d (e.setDpll st sel) := by
  have hs : KeepsStr d (if (decide (e.get Fld.TIM_DPLL_STATUS.SEL = sel) && decide (e.dpll = st)) = true
      then e.put Fld.TIM_DPLL_STATUS.SEL sel
      else { e.put Fld.TIM_DPLL_STATUS.SEL sel with
        tim := { (e.put Fld.TIM_DPLL_STATUS.SEL sel).tim with dpllSince := (e.put Fld.TIM_DPLL_STATUS.SEL sel).ticks } }) :=
    .ite (h.put _ _) (h.put Fld.TIM_DPLL_STATUS.SEL sel).same
  have ht := (((hs.put Fld.TIM_DPLL_STATUS.STATE st).setInt intTIM 0).same (f := Dev.tapEvent _ 0x3003 st)).causeIs 417 (st == 3)
  exact .ite hs (.ite (((ht.causeIs _ _).put _ _).forUpTo fun _ h => (h.put _ _).put _ _).refreshRefs (ht.causeIs _ _))

theorem dpllHold : KeepsStr d e.dpllHold := (h.setDpll _ _).put _ _

theorem dpllGoto (b : Nat) (phase : Int) : KeepsStr d (e.dpllGoto b phase) := by
  have hstep : KeepsStr d (((((e.setDpll (if e.dpll = 2 ∨ e.dpll = 4 then 4 else 1) b).putIntSat Fld.TIM_SW_STEP.PS
      (phaseStep phase (e.refHz b))).incSat Fld.TIM_SW_CNT.SWITCHES).raise 420).setInt intTIM 1) :=
    ((((h.setDpll _ _).putIntSat _ _).incSat _ _).raise _).setInt _ _
  exact hstep.same.causeIs _ _

theorem refSelect (phase : Int) : KeepsStr d (e.refSelect phase) := by
  unfold Dev.refSelect
  refine .ite h.dpllHold ?_
  split
  · refine .ite ((h.setDpll _ _).put _ _) (.ite ?_ ?_)
    · split
      · exact .ite (h.dpllGoto _ _) h
      · exact h
    · split
      · exact h.dpllGoto _ _
      · exact h.dpllHold
  · exact .ite (.ite h (h.dpllGoto _ _)) h.dpllHold
  · exact h.dpllHold
  · exact (h.setDpll _ _).put _ _

theorem reselect : KeepsStr d e.reselect := (h.refSelect _).same

theorem timModes (old : Word) : KeepsStr d (e.timModes old) := by
  have ho : KeepsStr d (e.hoAvgChange old) := .ite h (h.put Fld.TIM_DPLL_STATUS.HO_VALID 0).same
  exact .ite ho ho.reselect

theorem ppsOffer : KeepsStr d e.ppsOffer := .ite (h.offerRef _ _) (.ite h (h.withdrawRef _))

theorem tcWrite (t : Int) : KeepsStr d (e.tcWrite t) := h.same

theorem tcStep (hi : Nat) : KeepsStr d (e.tcStep hi) := (((h.same).setReg _ _).put _ _).tcWrite _

theorem ptpPop (rx : Bool) : KeepsStr d (e.ptpPop rx) := .ite h.same h.same

end
end KeepsStr
end Sys2Proof.Machine
end

section
/-! What the line ports, their converters, the FEC blocks, the framer and encryption do leaves STR alone. -/

namespace Sys2Proof.Machine

set_option Elab.async false

namespace KeepsStr

section
variable {d e : Dev} (h : KeepsStr d e)
include h

/-! ### Line ports -/

theorem setLn (x : Nat) (l : LineState) : KeepsStr d (e.setLn x l) := h.same

theorem notLocked (x : Nat) : KeepsStr d (e.notLocked x) := h.causeIs _ _

theorem snrCause (x : Nat) : KeepsStr d (e.snrCause x) := h.causeIs _ _

theorem foCause (x : Nat) : KeepsStr d (e.foCause x) := h.causeIs _ _

theorem setGuard (x : Nat) (g : Bool) : KeepsStr d (e.setGuard x g) := ((h.put _ _).put _ _).causeIs _ _

theorem clearGuard (x : Nat) : KeepsStr d (e.clearGuard x) := (h.setGuard _ _).setLn _ _

theorem uncap (x : Nat) : KeepsStr d (e.uncap x) := h.same.setLn _ _

theorem tapAt (t c v : Nat) : KeepsStr d (e.tapAt t c v) := h.same

theorem enterRx (x st : Nat) : KeepsStr d (e.enterRx x st) := by
  unfold Dev.enterRx
  extract_lets old d1 d2 d3 d4 d5
  have h2 : KeepsStr d d2 := .ite (h.put _ _) ((h.put _ _).uncap _)
  have h3 : KeepsStr d d3 := .ite (((h2.setInt _ _).tapAt _ _ _).withdrawRef _) h2
  have h4 : KeepsStr d d4 := .ite h3 (h3.clearGuard _)
  have h5 : KeepsStr d d5 := .ite ((((h4.incSat _ _).setInt _ _).tapAt _ _ _).offerRef _ _) h4
  exact ((h5.causeIs _ _).notLocked _).foCause _

theorem cdClamp (x : Nat) : KeepsStr d (e.cdClamp x) := (h.put _ _).causeIs _ _

theorem rxCheck (x : Nat) : KeepsStr d (e.rxCheck x) :=
  .ite (.ite (h.notLocked _) (h.enterRx _ _)) (.ite (h.enterRx _ _) (h.notLocked _))

theorem rxCheckAll : KeepsStr d e.rxCheckAll := (h.rxCheck _).rxCheck _

theorem startFade (x bank : Nat) : KeepsStr d (e.startFade x bank) := ((h.put _ _).put _ _).setLn _ _

theorem pdRequest (x bank : Nat) : KeepsStr d (e.pdRequest x bank) := by
  have hl := h.setLn x { e.ln x with pdReq := bank }
  exact .ite (.ite (hl.put _ _) (.ite hl (hl.startFade _ _))) (.ite ((hl.put _ _).put _ _) ((hl.put _ _).put _ _))

theorem pdBoundary (x : Nat) : KeepsStr d (e.pdBoundary x) := by
  unfold Dev.pdBoundary
  extract_lets d1 b
  have h1 : KeepsStr d d1 := .ite (((h.put _ _).put _ _).startFade _ _) h
  exact .ite h1 (h1.pdRequest _ _)

theorem pdCoefWrite (x bank dac tap : Nat) (coef : BitVec 16) : KeepsStr d (e.pdCoefWrite x bank dac tap coef) :=
  .ite ((h.incSat _ _).raise _) (h.put _ _)

theorem modeCheck (x : Nat) : KeepsStr d (e.modeCheck x) := (h.put _ _).causeIs _ _

theorem tapsSync (x : Nat) : KeepsStr d (e.tapsSync x) := h.put _ _

theorem dspApply (d0 : Dev) (x : Nat) : KeepsStr d (d0.dspApply x e) := by
  unfold Dev.dspApply
  extract_lets d1 d2 d3
  have h2 : KeepsStr d d2 := .ite ((h.modeCheck _).enterRx _ _) (h.modeCheck _)
  have h3 : KeepsStr d d3 := .ite (h2.clearGuard _) (h2.setGuard _ _)
  exact (((((h3.cdClamp _).snrCause _).foCause _).tapsSync _).pdBoundary _).rxCheck _

theorem dspRestart (x : Nat) : KeepsStr d (e.dspRestart x) := h.put _ _

/-! ### Converters -/

theorem setConv (x c : Nat) (v : Converter) : KeepsStr d (e.setConv x c v) := h.setLn _ _

theorem lagCheck (x : Nat) : KeepsStr d (e.lagCheck x) := (h.forUpTo fun _ h => h.putBit _ _ _).causeIs _ _

theorem ovrCause (x : Nat) : KeepsStr d (e.ovrCause x) := h.causeIs _ _

theorem setCnvState (x c st : Nat) : KeepsStr d (e.setCnvState x c st) := by
  unfold Dev.setCnvState
  extract_lets d1 v d2
  have h1 : KeepsStr d d1 := h.setReg _ _
  have h2 : KeepsStr d d2 := h1.setConv _ _ _
  exact .ite (.ite ((h2.clrBit _ _).ovrCause _) h2) h1

theorem converge (x c : Nat) (factory : Bool) : KeepsStr d (e.converge x c factory) :=
  .ite ((h.setConv _ _ _).setCnvState _ _ _) ((h.setConv _ _ _).setCnvState _ _ _)

theorem cnvCheck (x : Nat) : KeepsStr d (e.cnvCheck x) := by
  unfold Dev.cnvCheck
  extract_lets on d1 l d2
  have h1 : KeepsStr d d1 := h.forUpTo fun _ h => .ite (.ite h (h.setCnvState _ _ _)) (.ite (h.setCnvState _ _ _) h)
  have h2 : KeepsStr d d2 := .ite h1 ((h1.setLn _ _).causeOff _)
  exact (h2.lagCheck _).rxCheckAll

theorem relock (x : Nat) : KeepsStr d (e.relock x) := by
  unfold Dev.relock
  extract_lets l d1 d2
  have h1 : KeepsStr d d1 := h.setLn _ _
  have h2 : KeepsStr d d2 := .ite (h1.forUpTo fun _ h => .ite (h.setCnvState _ _ _) h) h1
  exact (h2.lagCheck _).rxCheckAll

theorem cnvRateWrite (x m : Nat) : KeepsStr d (e.cnvRateWrite x m) := .ite (h.raise _) (.ite h ((h.put _ _).relock _))

theorem cnvEnWrite (x en : Nat) : KeepsStr d (e.cnvEnWrite x en) := (h.put _ _).cnvCheck _

theorem freezeWrite (x : Nat) (on : Bool) : KeepsStr d (e.freezeWrite x on) :=
  .ite (h.put _ _) ((h.put _ _).forUpTo fun _ h => .ite (h.setConv _ _ _) h)

theorem calNow (x : Nat) : KeepsStr d (e.calNow x) := (h.forUpTo fun _ h => .ite (h.converge _ _ _) h).lagCheck _

/-! ### FEC -/

theorem iterSync (x : Nat) : KeepsStr d (e.iterSync x) := (h.put _ _).put _ _

theorem berCause (x : Nat) : KeepsStr d (e.berCause x) := h.causeIs _ _

theorem fecApply (x : Nat) : KeepsStr d (e.fecApply x) := by
  unfold Dev.fecApply
  extract_lets fmt d1 d2 d3
  have h1 : KeepsStr d d1 := h.put _ _
  have h2 : KeepsStr d d2 := .ite h1 (h1.put _ _)
  have h3 : KeepsStr d d3 := .ite h2 (h2.put _ _)
  exact (h3.iterSync _).berCause _

theorem fecCntClr (x : Nat) : KeepsStr d (e.fecCntClr x) := h.forUpTo fun _ h => h.setReg64 _ _

/-! ### The framer -/

theorem flowCheck : KeepsStr d e.flowCheck := (h.foldl fun _ h => h.put _ _).causeIs _ _

theorem flowEvt (f i : Nat) : KeepsStr d (e.flowEvt f i) := (h.setBit _ _).setInt _ _

theorem showFlow (f x : Nat) (a : Aligner) : KeepsStr d (e.showFlow f x a) :=
  .ite ((((h.put _ _).put _ _).put _ _).put _ _) h

theorem setAligner (u : AlignUnit) (a : Aligner) : KeepsStr d (e.setAligner u a) := by
  unfold Dev.setAligner
  extract_lets old r1 d1 leaves r2 d2
  have h2 : KeepsStr d d2 := .ite h.same h.same
  split
  · rename_i x
    have h3 := ((((h2.put (Fld.FRM_x_OTU_STATUS.STATE x) a.state).put (Fld.FRM_x_OTU_STATUS.CANDS x) a.cands.length).put
      (Fld.FRM_x_OTU_STATUS.OOM x) (bit a.oom)).put (Fld.FRM_x_OTU_STATUS.LOF x) (bit a.lof)).put (Fld.FRM_x_OTU_STATUS.LOM x) (bit a.lom)
    exact ((KeepsStr.ite (h3.setInt _ _) h3).causeIs _ _).causeIs _ _
  · have h3 := h2.showFlow
    exact (KeepsStr.ite ((h3 _ _ _).same.flowEvt _ _) (h3 _ _ _)).flowCheck

theorem timCheck (x : Nat) : KeepsStr d (e.timCheck x) := (h.put _ _).causeIs _ _

theorem plmCheck (x : Nat) : KeepsStr d (e.plmCheck x) := ((h.put _ _).put _ _).causeIs _ _

theorem flowPlm (f : Nat) : KeepsStr d (e.flowPlm f) := by
  unfold Dev.flowPlm
  split <;> exact h.put _ _

theorem setBitOf (f : Fld) (s : Nat) (on : Bool) (k : AboveStr f.addr := by (repeat apply AboveStr.add); exact .lit rfl) :
    KeepsStr d (e.setBitOf f s on) := h.putBit _ _ _ k

theorem tsiSbyWrite (s t : Nat) (v : Word) : KeepsStr d (e.tsiSbyWrite s t v) := .ite ((h.incSat _ _).raise _) (h.setReg _ _)

theorem tsiCopy (s : Nat) : KeepsStr d (e.tsiCopy s) := (h.setBit _ _).setBit _ _

theorem copyPage (s : Nat) : KeepsStr d (e.copyPage s) := h.forUpTo fun _ h => h.setReg _ _

theorem endCopy (s : Nat) : KeepsStr d (e.endCopy s) := (h.clrBit _ _).clrBit _ _

theorem endSwap (s : Nat) : KeepsStr d (e.endSwap s) := (h.clrBit _ _).clrBit _ _

theorem refuseSwap (s : Nat) : KeepsStr d (e.refuseSwap s) := (((h.endSwap _).setBitOf _ _ _).setInt _ _).raise _

theorem tsiSwap (s : Nat) : KeepsStr d (e.tsiSwap s) := .ite h (.ite ((h.setBit _ _).setBit _ _) (h.refuseSwap _))

theorem exchangePages (s : Nat) : KeepsStr d (e.exchangePages s) :=
  ((((h.forUpTo fun _ h => (h.setReg _ _).setReg _ _).endSwap _).setBitOf _ _ _).setBitOf _ _ _).setInt _ _

theorem pagesChanged : KeepsStr d e.pagesChanged := (h.flowCheck.plmCheck _).plmCheck _

theorem tsiCommit : KeepsStr d e.tsiCommit := by
  refine (h.forUpTo fun i h => ?_).pagesChanged
  have he := (h.endSwap i).endCopy i
  exact (KeepsStr.ite (he.exchangePages _) ((he.refuseSwap _).forUpTo fun _ h => h.setReg _ _)).copyPage _

theorem framerReset (x : Fin 2) : KeepsStr d (e.framerReset x) := by
  unfold Dev.framerReset
  exact h.setAligner _ _

theorem smCauses (x : Nat) : KeepsStr d (e.smCauses x) := ((h.timCheck _).plmCheck _).causeIs _ _

theorem flowsReset (x : Fin 2) : KeepsStr d (e.flowsReset x) := by
  refine h.foldl fun _ h => ?_
  split
  · exact .ite (h.setAligner _ _) h
  · exact h

theorem frmApply (x : Fin 2) : KeepsStr d (e.frmApply x) := by
  unfold Dev.frmApply
  extract_lets n was changed d1 r d2 d3 d4
  have h1 : KeepsStr d d1 := h.put _ _
  have h2 : KeepsStr d d2 := .ite h1.same h1
  have h3 : KeepsStr d d3 := .ite ((h2.framerReset _).flowsReset _) h2
  have h4 : KeepsStr d d4 := h3.foldl fun _ h => by exact .ite (h.flowPlm _) h
  exact (h4.smCauses _).flowCheck

/-! ### Encryption -/

theorem setCryFlow (f : Nat) (v : CryFlow) : KeepsStr d (e.setCryFlow f v) := h.same

theorem cryCauses : KeepsStr d e.cryCauses := (((h.causeIs _ _).causeIs _ _).causeIs _ _).causeIs _ _

theorem setSlotState (s st : Nat) : KeepsStr d (e.setSlotState s st) := .ite h ((h.put _ _).setInt _ _)

theorem setKeySlot (s : Nat) (k : KeySlot) : KeepsStr d (e.setKeySlot s k) := h.same

theorem wipeSlot (s : Nat) : KeepsStr d (e.wipeSlot s) :=
  ((((((h.setKeySlot _ _).setReg64 _ _).put _ _).put _ _).put _ _).put _ _).setSlotState _ _

theorem kiKnown (f : Nat) : KeepsStr d (e.kiKnown f) := .ite h h.same

theorem reownSlots (old : List Nat) : KeepsStr d (e.reownSlots old) := by
  unfold Dev.reownSlots
  extract_lets now d1 d2 d3 d4
  have h1 : KeepsStr d d1 := h.forUpTo fun _ h => .ite h (h.wipeSlot _)
  have h2 : KeepsStr d d2 := h1.forUpTo fun _ h => h.put _ _
  have h3 : KeepsStr d d3 := h2.put _ _
  have h4 : KeepsStr d d4 := h3.forUpTo fun _ h => by
    split
    · exact (h.put _ _).put _ _
    · exact h.setReg _ _
  exact h4.cryCauses

end
end KeepsStr
end Sys2Proof.Machine
end

section
/-! What the Horug links and the host lanes do leaves STR alone. -/

namespace Sys2Proof.Machine

set_option Elab.async false

namespace KeepsStr

section
variable {d e : Dev} (h : KeepsStr d e)
include h

/-! ### Horug links -/

theorem setRemote (orig line : Nat) (on : Bool) : KeepsStr d (e.setRemote orig line on) := withLinesAt 0 h.same

theorem unlearn (k : Nat) : KeepsStr d (e.unlearn k) := by
  unfold Dev.unlearn
  extract_lets gone d1
  have h1 : KeepsStr d d1 := h.foldl fun _ h => h.setRemote _ _ _
  exact h1.same

theorem setLink (k : Nat) (v : LinkSt) : KeepsStr d (e.setLink k v) := h.same

theorem linkCheck (k : Nat) : KeepsStr d (e.linkCheck k) := by
  unfold Dev.linkCheck
  extract_lets up was run d1 d2 v d3 d4
  have h1 : KeepsStr d d1 := (h.put _ _).put _ _
  have h2 : KeepsStr d d2 := .ite h1 (h1.setInt _ _)
  have h3 : KeepsStr d d3 := .ite (h2.setLink _ _) h2
  have h4 : KeepsStr d d4 := .ite (h3.unlearn _) h3
  exact h4.causeIs _ _

theorem posCheck : KeepsStr d e.posCheck := by
  unfold Dev.posCheck
  extract_lets old d1 d2 d3 d4 d5
  have h1 : KeepsStr d d1 := by
    unfold d1
    split
    · exact .ite (h.put _ _) ((h.put _ _).put _ _)
    · exact h
  have h2 : KeepsStr d d2 := .ite (h1.put _ _) h1
  have h4 : KeepsStr d d4 := (h2.put _ _).put _ _
  have h5 : KeepsStr d d5 := .ite h4 (h4.setInt _ _)
  exact ((h5.causeIs _ _).causeIs _ _).causeIs _ _

theorem chainClock : KeepsStr d e.chainClock := .ite (h.offerRef _ _) (.ite h (h.withdrawRef _))

theorem alignCause : KeepsStr d e.alignCause := .ite h (h.causeOff _)

theorem linksCheck : KeepsStr d e.linksCheck := ((((h.linkCheck _).linkCheck _).posCheck).chainClock).alignCause

theorem chainSyncOriginate (sw : Option Requester) : KeepsStr d (e.chainSyncOriginate sw) := by
  unfold Dev.chainSyncOriginate
  extract_lets go origin d1 x
  have h1 : KeepsStr d d1 := .ite h.same h
  exact .ite h h1.same

theorem fwdEnd (r st : Nat) (data : Option Word) : KeepsStr d (e.fwdEnd r st data) := by
  unfold Dev.fwdEnd
  extract_lets c d1 d2
  have h1 : KeepsStr d d1 := h.same
  have h2 : KeepsStr d d2 := by
    unfold d2
    split
    · exact h1.setReg _ _ (.ofRequester _ _)
    · exact h1
  exact (((h2.put _ _ (.ofRequester _ _)).put _ _ (.ofRequester _ _)).put _ _ (.ofRequester _ _)).setInt _ _

theorem fwdGo (r : Nat) (write : Bool) : KeepsStr d (e.fwdGo r write) := by
  have hp := (h.put (Fld.CHN_FWD_CTL.WRITE r) (bit write) (.ofRequester _ _)).put (Fld.CHN_FWD_CTL.STATUS r) 0 (.ofRequester _ _)
  exact .ite h (.ite (hp.fwdEnd _ _ _) (hp.same.put _ _ (.ofRequester _ _)))

/-! ### Host lanes -/

/-- A write of a word to a key outside STR stores RW fields there. -/
theorem storeRwOff (a : Nat) (v : Word) (k : a / 0x100000 ≠ 1) : KeepsStr d (e.storeRw a v) := by
  unfold Dev.storeRw
  split
  · exact h
  · exact .ite (h.setRegOff _ _ k) (h.setRegOff _ _ k).same

theorem storeRw (a : Nat) (v : Word) (k : AboveStr a := by (repeat apply AboveStr.add); exact .lit rfl) :
    KeepsStr d (e.storeRw a v) := h.storeRwOff _ _ k.notStr

theorem setHl (l : Nat) (v : LaneState) : KeepsStr d (e.setHl l v) := h.same

theorem partnerOff (l : Nat) : KeepsStr d (e.partnerOff l) := .ite (((h.put _ _).raise _).setInt _ _) h

theorem clientCheck (c : Nat) : KeepsStr d (e.clientCheck c) := by
  unfold Dev.clientCheck
  extract_lets on d1 d2 was now d3
  have h3 : KeepsStr d d3 := ((h.put _ _).put _ _).put _ _
  exact .ite h3 (h3.setInt _ _)

theorem octetClock (g : Nat) : KeepsStr d (e.octetClock g) := .ite (h.offerRef _ _) (.ite h (h.withdrawRef _))

theorem hstCheck : KeepsStr d e.hstCheck := by
  unfold Dev.hstCheck
  extract_lets d1 d2 d3 lanes
  have h1 : KeepsStr d d1 := h.forUpTo fun _ h => h.clientCheck _
  have h2 : KeepsStr d d2 := h1.forUpTo fun _ h => (h.put _ _).put _ _
  have h3 : KeepsStr d d3 := h2.linksCheck.forUpTo fun _ h => h.octetClock _
  exact (((((h3.causeIs _ _).causeIs _ _).causeIs _ _).causeIs _ _).causeIs _ _).causeIs _ _

theorem setCtle (l : Nat) (eq : Option LaneEq) : KeepsStr d (e.setCtle l eq) := by
  unfold Dev.setCtle
  refine .ite h ?_
  split
  · exact (h.put _ _).setHl _ _
  · exact h.setHl _ _

theorem fillIdle (l : Nat) : KeepsStr d (e.fillIdle l) := .ite h h.same

theorem prbsEnd (l bits : Nat) : KeepsStr d (e.prbsEnd l bits) := by
  unfold Dev.prbsEnd
  dsimp only
  split
  · exact h
  · exact (h.setReg64 _ _).setHl _ _

theorem laneTo (l st : Nat) : KeepsStr d (e.laneTo l st) := by
  unfold Dev.laneTo
  extract_lets old d0 d1 d2 d3 d4 v d5 d6
  have h1 : KeepsStr d d1 := .ite (h.fillIdle _) h
  have h2 : KeepsStr d d2 := h1.put _ _
  have h3 : KeepsStr d d3 := .ite ((((h2.incSat _ _).setInt _ _).put _ _).partnerOff _) h2
  have h4 : KeepsStr d d4 := .ite ((h3.prbsEnd _ _).put _ _) h3
  have h6 : KeepsStr d d6 := (h4.setHl _ _).setHl _ _
  exact .ite h (.ite ((h6.setHl _ _).setInt _ _) h6)

theorem laneUpEnter (l : Nat) (eq : Option LaneEq) : KeepsStr d (e.laneUpEnter l eq) := (h.setCtle _ _).laneTo _ _

theorem laneGo (l : Nat) (eq : Option LaneEq) : KeepsStr d (e.laneGo l eq) := .ite (.ite (h.laneTo _ _) (h.laneUpEnter _ _)) h

theorem trainAbort (l : Nat) : KeepsStr d (e.trainAbort l) := ((h.incSat _ _).raise _).setHl _ _

theorem laneBack (l : Nat) : KeepsStr d (e.laneBack l) := by
  unfold Dev.laneBack
  extract_lets d1 v d2
  have h1 : KeepsStr d d1 := .ite (h.trainAbort _) h
  have h2 : KeepsStr d d2 := .ite h1 (h1.setHl _ _)
  exact ((h2.put _ _).laneTo _ _).laneGo _ _

theorem laneCheck (l : Nat) : KeepsStr d (e.laneCheck l) := .ite (h.laneGo _ _) (h.laneBack _)

theorem lanesCheck : KeepsStr d e.lanesCheck := (h.forUpTo fun _ h => h.laneCheck _).hstCheck

theorem octetWrite (g : Nat) (v : Word) : KeepsStr d (e.octetWrite g v) :=
  .ite (h.storeRw _ _).hstCheck (((h.storeRw _ _).clrBit _ _).forUpTo fun _ h => h.laneBack _).hstCheck

theorem setFir (l : Nat) (t : List Int) : KeepsStr d (e.setFir l t) := by
  have hd : KeepsStr d (if decide (64 < firSum t) = true then (e.setHl l { e.hl l with firAt := none }).draw 6
      else (0, e.setHl l { e.hl l with firAt := none })).2 := by
    split
    · exact h.same
    · exact h.setHl _ _
  exact ((((((hd.put _ _).put _ _).put _ _).put _ _).put _ _).put _ _).put _ _

theorem txFirStore (l reg : Nat) (v : Word) : KeepsStr d (e.txFirStore l reg v) := h.setFir _ _

theorem txFirWrite (l reg : Nat) (v : Word) : KeepsStr d (e.txFirWrite l reg v) := .ite (h.put _ _) (h.txFirStore _ _ _)

theorem laneRestart (l : Nat) : KeepsStr d (e.laneRestart l) := .ite ((h.laneTo _ _).laneGo _ _).hstCheck h

theorem laneCtl (l : Nat) (v : Word) : KeepsStr d (e.laneCtl l v) := by
  unfold Dev.laneCtl
  extract_lets old d1 d2
  have h1 : KeepsStr d d1 := h.storeRw _ _
  have h2 : KeepsStr d d2 := .ite h1 (h1.laneBack _)
  exact .ite (h2.laneRestart _) h2.hstCheck

theorem clientCntClr (c : Nat) : KeepsStr d (e.clientCntClr c) := h.forUpTo fun _ h => h.setReg64 _ _

theorem clientCtl (c : Nat) (v : Word) : KeepsStr d (e.clientCtl c v) := by
  unfold Dev.clientCtl
  extract_lets old had d1 d2
  have h1 : KeepsStr d d1 := h.storeRw _ _
  have h2 : KeepsStr d d2 := .ite h1 (h1.foldl fun _ h => .ite (h.laneBack _) h)
  exact (KeepsStr.ite (h2.clientCntClr _) h2).hstCheck

theorem prbsCntClr (l : Nat) : KeepsStr d (e.prbsCntClr l) := ((h.setReg64 _ _).setReg64 _ _).setHl _ _

theorem prbsCtl (l : Nat) (v : Word) : KeepsStr d (e.prbsCtl l v) := by
  unfold Dev.prbsCtl
  extract_lets d1 d2 d3
  have h1 : KeepsStr d d1 := h.storeRw _ _
  have h2 : KeepsStr d d2 := .ite h1 ((h1.prbsEnd _ _).put _ _)
  have h3 : KeepsStr d d3 := .ite (h2.prbsCntClr _) h2
  exact (h3.laneCheck _).hstCheck

theorem rxEqWrite (l : Nat) (v : Word) : KeepsStr d (e.rxEqWrite l v) := by
  have hs := h.storeRw (Reg.HST_LANE_RX_EQ l) (if v.getLsbD 8 then setBits v 5 0 (e.get (Fld.HST_LANE_RX_EQ.CTLE l)) else v)
  exact (KeepsStr.ite hs (hs.setHl _ _)).setHl _ _

theorem countTx (l n : Nat) : KeepsStr d (e.countTx l n) := h.incWide _ _ _

theorem lineFill (l n : Nat) : KeepsStr d (e.lineFill l n) := (h.fillIdle _).setHl _ _

theorem tsuSend (l : Nat) (f : TsuFrame) : KeepsStr d (e.tsuSend l f) := by
  unfold Dev.tsuSend
  have hl : KeepsStr d (e.lineFill l 1) := h.lineFill l 1
  generalize e.lineFill l 1 = g at hl ⊢
  exact .ite (hl.same.countTx _ _) (.ite hl.same (hl.same.countTx _ _))

theorem retrainLanes (d0 : Dev) : KeepsStr d (d0.retrainLanes e) :=
  (h.forUpTo fun _ h => .ite h (.ite (h.laneBack _) h)).lanesCheck

end
end KeepsStr
end Sys2Proof.Machine
end

section
/-! What the queues, the DMA channels and the grants do leaves STR alone. -/

namespace Sys2Proof.Machine

set_option Elab.async false

namespace KeepsStr

section
variable {d e : Dev} (h : KeepsStr d e)
include h

/-! ### Queues -/

theorem tapEvent (code data : Nat) : KeepsStr d (e.tapEvent code data) := h.tapAt _ _ _

theorem sendMsix (v : Nat) : KeepsStr d (e.sendMsix v) := h.same

theorem setQ (q : Nat) (v : QueueSt) : KeepsStr d (e.setQ q v) := h.same

theorem qEvt (q i : Nat) : KeepsStr d (e.qEvt q i) := by
  have hs := ((h.setBit (Reg.RMS_Q_EVT q) i).setInt intRMS 0).tapEvent (0x6000 + i) q
  exact .ite h (.ite (hs.sendMsix _) hs)

theorem watermarks (q before : Nat) : KeepsStr d (e.watermarks q before) := by
  unfold Dev.watermarks
  extract_lets now d1
  have h1 : KeepsStr d d1 := .ite (h.qEvt _ _) h
  exact .ite (h1.qEvt _ _) h1

theorem takePage (q k : Nat) : KeepsStr d (e.takePage q k) := (h.same (f := e.drawPage.2)).setQ _ _ |>.watermarks _ _

theorem freeOne (p : Nat) : KeepsStr d (e.freeOne p) := h.same

theorem poolCheck : KeepsStr d e.poolCheck := .ite (h.same.causeOff _) h

theorem releasePage (q k : Nat) : KeepsStr d (e.releasePage q k) := by
  unfold Dev.releasePage
  extract_lets v gone d1 rms d2 d3
  have h2 : KeepsStr d d2 := h.same
  have h3 : KeepsStr d d3 := .ite (h2.put _ _) h2
  exact ((h3.foldl fun _ h => h.freeOne _).watermarks _ _).poolCheck

theorem moveHead (q pos : Nat) : KeepsStr d (e.moveHead q pos) := (h.setReg64 _ _).foldl fun _ h => h.releasePage _ _

theorem followCons (q : Nat) : KeepsStr d (e.followCons q) := .ite h (h.setReg64 _ _)

theorem consCheck : KeepsStr d e.consCheck := h.foldl fun _ h => h.followCons _

theorem setWb (q wb : Nat) : KeepsStr d (e.setWb q wb) := by
  unfold Dev.setWb
  extract_lets v newly d1 tail d2 d3
  have h2 : KeepsStr d d2 := (h.setQ _ _).setReg64 _ _
  have h3 : KeepsStr d d3 := .ite h2 (h2.setReg64 _ _)
  exact .ite h3 (h3.qEvt _ _)

theorem doorbellError (q : Nat) : KeepsStr d (e.doorbellError q) := (KeepsStr.ite h (h.qEvt _ _)).raise _

theorem dbProd (q n : Nat) : KeepsStr d (e.dbProd q n) :=
  .ite h (.ite (h.doorbellError _) ((h.foldl fun _ h => h.takePage _ _).setWb _ _))

theorem dbCons (q n : Nat) : KeepsStr d (e.dbCons q n) := .ite h (.ite (h.doorbellError _) (h.moveHead _ _))

theorem markTrigger (q pos : Nat) : KeepsStr d (e.markTrigger q pos) := ((h.setReg64 _ _).put _ _).setQ _ _

theorem setQState (q st : Nat) : KeepsStr d (e.setQState q st) := by
  have hp := h.put (Fld.RMS_Q_STATE.STATE q) st
  exact .ite h (.ite ((KeepsStr.ite (hp.markTrigger _ _) hp).qEvt _ _) hp)

theorem qArm (q : Nat) : KeepsStr d (e.qArm q) := by
  unfold Dev.qArm
  split
  · extract_lets d1 t d2 d3 q0 d4 rms d5
    have h1 : KeepsStr d d1 := h.foldl fun _ h => h.releasePage _ _
    have h4 : KeepsStr d d4 := ((((h1.setReg64 _ _).setReg64 _ _).setReg64 _ _).put _ _).setQ _ _
    have h5 : KeepsStr d d5 := h4.same
    exact h5.setQState _ _
  · exact h

theorem qTrigger (q : Nat) : KeepsStr d (e.qTrigger q) :=
  .ite (((((h.setReg64 _ _).put _ _).setQ _ _).setQState _ _).qEvt _ _) h

theorem qStop (q : Nat) : KeepsStr d (e.qStop q) := .ite (h.setQState _ _) h

theorem qEnState (q : Nat) : KeepsStr d (e.qEnState q) := h.setQState _ _

theorem qTruncate (q : Nat) : KeepsStr d (e.qTruncate q) := ((h.incSat _ _).qEvt _ _).raise _

theorem fillHole (q g : Nat) : KeepsStr d (e.fillHole q g) := h.setQ _ _

theorem haltCause : KeepsStr d e.haltCause := h.causeIs _ _

theorem pagingResume (q : Nat) : KeepsStr d (e.pagingResume q) := (h.put _ _).haltCause

theorem egressPut (q : Nat) (r : List Byte) : KeepsStr d (e.egressPut q r).1 := by
  unfold Dev.egressPut
  split
  · exact (h.setQ _ _).setWb _ _
  · exact h.qTruncate _

theorem sendPage (t : PageTransfer) : KeepsStr d (e.sendPage t) := by
  unfold Dev.sendPage
  extract_lets lanes n d1 hst d2
  have h1 : KeepsStr d d1 := h.foldl fun _ h => h.fillIdle _
  have h2 : KeepsStr d d2 := h1.same
  exact h2.foldl fun _ h => (h.lineFill _ _).countTx _ _

theorem sendRead (t : PageTransfer) : KeepsStr d (e.sendRead t) := by
  unfold Dev.sendRead
  split
  · exact h.tsuSend _ _
  · exact h

/-! ### Data between the host and the queues -/

theorem dmaQpos (j : DmaJob) : KeepsStr d (e.dmaQpos j).2 := by
  unfold Dev.dmaQpos
  split
  · exact h
  · exact h.same

theorem endDma (ch status : Nat) : KeepsStr d (e.endDma ch status) := by
  unfold Dev.endDma
  split
  · exact h
  · rename_i j _
    have hq := h.dmaQpos j
    generalize e.dmaQpos j = w at hq ⊢
    obtain ⟨qpos, f⟩ := w
    dsimp -zeta only
    extract_lets done cons at_ flags bytes q rms d1 d2 d3 d4
    have h1 : KeepsStr d d1 := hq.same
    have h3 : KeepsStr d d3 := (((h1.put _ _).put _ _).put _ _).incSat _ _
    have h4 : KeepsStr d d4 := .ite (h3.qEvt _ _) h3
    exact .ite h4 ((h4.put _ _).raise _)

theorem dmaProd (ch v : Nat) : KeepsStr d (e.dmaProd ch v) := .ite (h.put _ _) (h.put _ _)

theorem dmaAbort (ch : Nat) : KeepsStr d (e.dmaAbort ch) := (h.put _ _).endDma _ _

theorem dmaCtl (ch : Nat) (v : Word) : KeepsStr d (e.dmaCtl ch v) := .ite ((h.dmaAbort _).storeRw _ _) (h.storeRw _ _)

/-! ### Admission and grants -/

theorem regrantHbm : KeepsStr d e.regrantHbm := by
  unfold Dev.regrantHbm
  extract_lets d1 l order short d2 sum d3
  have h1 : KeepsStr d d1 := h.same
  have h2 : KeepsStr d d2 := h1.foldl fun _ h => h.put _ _
  have h3 : KeepsStr d d3 := h2.forUpTo fun _ h => .ite ((h.put _ _).put _ _) (((h.put _ _).put _ _).setInt _ _)
  exact h3.causeIs _ _

theorem regrantGroups : KeepsStr d e.regrantGroups := by
  refine KeepsStr.causeIs (h.forUpTo fun {f} g hf => ?_) _ _
  have hs : KeepsStr d _ := ((hf.put (Fld.RMS_GRP.LOAD g) (e.trafficLoad g true + e.trafficLoad g false)).put (Fld.RMS_GRP.CAPACITY g)
    (e.groupCapacity g).all).foldl (l := grantEach (e.groupClaims g) (e.groupCapacity g))
      (f := fun e x => e.put (Fld.RMS_Q_GRANT.GRANT_GRP x.1) x.2) fun _ h => h.put _ _
  exact .ite hs (hs.setInt _ _)

theorem mergeRates : KeepsStr d e.mergeRates := h.foldl fun _ h => .ite ((h.put _ _).put _ _) h

theorem regrant : KeepsStr d e.regrant := h.mergeRates.regrantHbm.regrantGroups

theorem setShadow (a : Nat) (v : Word) : KeepsStr d (e.setShadow a v) := h.same

theorem admLimit (v : Nat) : KeepsStr d (e.admLimit v) := h.setShadow _ _

theorem rmsGlobal : KeepsStr d e.rmsGlobal := by
  refine .ite h (h.copyShadow _ fun a ha => ?_)
  simp only [Bool.or_eq_true, beq_iff_eq] at ha
  obtain (rfl | rfl) | rfl := ha <;> decide

theorem rmsQueue (q : Nat) : KeepsStr d (e.rmsQueue q) := by
  have hc : KeepsStr d (e.copyShadow fun a => decide (Reg.RMS_Q_DESC0 q ≤ a) && decide (a < Reg.RMS_Q_DESC0 (q + 1))) := by
    refine h.copyShadow _ fun a ha => AboveStr.notStr ?_
    simp only [Bool.and_eq_true, decide_eq_true_eq] at ha
    exact Nat.le_trans (AboveStr.add (.add (.lit rfl)) : AboveStr (Reg.RMS_Q_DESC0 q)) ha.1
  exact .ite h (.ite hc (hc.qEnState _))

theorem rmsWritten (q : Nat) : KeepsStr d (e.rmsWritten q) := .ite h (h.rmsQueue _)

/-! ### Queue maps -/

theorem setDesc (q : Nat) (desc : List Word) : KeepsStr d (e.setDesc q desc) := h.forUpTo fun _ h => h.setReg _ _

theorem deleteQueue (q : Nat) : KeepsStr d (e.deleteQueue q) := by
  unfold Dev.deleteQueue
  extract_lets gone chs d1 rms d2
  have h1 : KeepsStr d d1 := h.foldl fun _ h => h.freeOne _
  have h2 : KeepsStr d d2 := h1.filterRegs
    (fun e => !(decide (Reg.RMS_Q_DESC0 q ≤ e.1) && decide (e.1 < Reg.RMS_Q_DESC0 (q + 1)))) fun a _ ha => by
      have hq : AboveStr (Reg.RMS_Q_DESC0 q) := .add (.add (.lit rfl))
      have hlt : a < Reg.RMS_Q_DESC0 q := Nat.lt_of_not_le fun hle => AboveStr.notStr (Nat.le_trans hq hle) ha
      simp [Nat.not_le.mpr hlt]
  exact ((h2.foldl fun _ h => h.endDma _ _).poolCheck).haltCause

theorem declareQueue (r : Nat) (x : QueueDecl) : KeepsStr d (e.declareQueue r x) := by
  unfold Dev.declareQueue
  extract_lets q type keep en d1 round d2 d3
  have h1 : KeepsStr d d1 := .ite h (.ite h (h.deleteQueue _))
  have h2 : KeepsStr d d2 := h1.setDesc _ _
  exact .ite (.ite (h2.setQ _ _) ((h2.setQ _ _).qEnState _)) ((h2.setQ _ _).qEnState _)

theorem installQueues (maps : List (Nat × List QueueDecl)) : KeepsStr d (e.installQueues maps) :=
  (h.foldl fun _ h => h.deleteQueue _).foldl fun _ h => h.foldl fun _ h => h.declareQueue _ _

theorem rmsReset : KeepsStr d e.rmsReset := by
  unfold Dev.rmsReset
  extract_lets d1 rms d2
  have h1 : KeepsStr d d1 := h.foldl fun _ h => h.endDma _ _
  have h2 : KeepsStr d d2 := h1.same
  exact h2.foldl fun _ h => .ite (h.sendPage _) (h.sendRead _)

/-! ### Offers to queues -/

theorem wrapOn (q : Nat) (l : List QPage) : KeepsStr d (Dev.wrapOn q l e) := by
  induction l generalizing e with
  | nil => exact h.moveHead _ _
  | cons p r ih =>
    unfold Dev.wrapOn
    split
    · exact h.moveHead _ _
    · exact .ite (h.moveHead _ _) (ih (h.releasePage _ _))

theorem wrap (q : Nat) : KeepsStr d (e.wrap q) := by
  unfold Dev.wrap
  split
  · exact (h.releasePage _ _).wrapOn _ _
  · exact h

theorem obtain (q k : Nat) : KeepsStr d (e.obtain q k) := by
  unfold Dev.obtain
  extract_lets rms d1 d2
  have h1 : KeepsStr d d1 := .ite (h.same.causeOn _) h
  have h2 : KeepsStr d d2 := h1.wrap _
  exact .ite (h.takePage _ _) (.ite (.ite (h2.takePage _ _) h2) h1)

theorem growFrom (q b n k : Nat) : KeepsStr d (Dev.growFrom q b n k e).2 := by
  induction n generalizing e k with
  | zero => exact h
  | succ n ih =>
    unfold Dev.growFrom
    dsimp only
    split
    · exact h
    · split
      · exact ih h _
      · split
        · exact ih (h.obtain _ _) _
        · exact h.obtain _ _

theorem startRecord (q g : Nat) : KeepsStr d (e.startRecord q g) := (KeepsStr.ite (h.markTrigger _ _) h).setQ _ _

end
end KeepsStr
end Sys2Proof.Machine
end

section
/-! What an offer to a queue, merging, Calliope, capture, the players, and the security, power and time registers do leaves STR alone. -/

namespace Sys2Proof.Machine

set_option Elab.async false

namespace KeepsStr

section
variable {d e : Dev} (h : KeepsStr d e)
include h

theorem ofGrown {q b n k : Nat} {w : Nat × Dev} (hw : Dev.growFrom q b n k e = w) : KeepsStr d w.2 := hw ▸ h.growFrom q b n k

/-- What an offer has come to before its outcome is told: the bytes that the pages obtained hold are taken. -/
theorem grown (q g got : Nat) (start : Bool) {c : Prop} {_ : Decidable c} :
    KeepsStr d (if c then (if start = true then e.startRecord q g else e).setWb q got else e) :=
  .ite ((KeepsStr.ite (h.startRecord _ _) h).setWb _ _) h

/-- An offer comes to an outcome with a device that keeps STR. -/
theorem offered (P : Offered → Prop) (hP : ∀ {f r p t k}, KeepsStr d f → P ⟨f, r, p, t, k⟩) (q n : Nat) (start full : Bool) :
    P (e.offer q n start full) := by
  unfold Dev.offer
  refine iteInduction (fun _ => hP (h.incSat _ _)) fun _ => iteInduction (fun _ => hP (h.qTruncate _)) fun _ => ?_
  extract_lets +onlyGivenNames wb b k trig stop lim
  clear_value stop lim
  generalize hw : Dev.growFrom _ _ _ _ _ = w
  have hg := h.ofGrown hw
  clear hw
  obtain ⟨got, f⟩ := w
  dsimp only at hg ⊢
  clear_value b k
  cases stop with
  | none => exact iteInduction (fun _ => hP ((hg.grown _ _ _ _).qTruncate _)) fun _ => hP (hg.grown _ _ _ _)
  | some x =>
    exact iteInduction
      (fun _ => hP (.ite (((hg.grown _ _ _ _).setQState _ _).incSat _ _) ((hg.grown _ _ _ _).setQState _ _)))
      fun _ => iteInduction (fun _ => hP ((hg.grown _ _ _ _).qTruncate _)) fun _ => hP (hg.grown _ _ _ _)

theorem offer (q n : Nat) (start full : Bool) : KeepsStr d (e.offer q n start full).dev :=
  h.offered (fun o => KeepsStr d o.dev) id q n start full

/-! ### Merge -/

theorem setMf (f : Nat) (v : MergeFlow) : KeepsStr d (e.setMf f v) := h.same

theorem mergeEvt (f i : Nat) : KeepsStr d (e.mergeEvt f i) := (h.setBit _ _).setInt _ _

theorem mrgCheck : KeepsStr d e.mrgCheck :=
  ((((((h.foldl fun _ h => h.put _ _).put _ _).causeIs _ _).causeIs _ _).causeIs _ _).causeIs _ _).causeIs _ _

theorem dropHeld (f : Nat) : KeepsStr d (e.dropHeld f) := by
  unfold Dev.dropHeld
  dsimp only
  split
  · exact (h.setMf _ _).moveHead _ _
  · exact h.setMf _ _

theorem dropAnchor (f : Nat) : KeepsStr d (e.dropAnchor f) := (h.put _ _).setReg _ _

theorem anchorCheck (f : Nat) : KeepsStr d (e.anchorCheck f) := .ite h ((h.dropAnchor _).dropHeld _)

/-- STATE, CAUSE and CLASS of a path of a flow. -/
theorem putPath (f : Nat) (p : MergePath) (st cause cls : Nat) :
    KeepsStr d (((e.put (fldState f p) st).put (fldCause f p) cause).put (fldClass f p) cls) := by
  cases p with
  | pathW => exact ((h.put (Fld.MRG_FLOW_STATUS.STATE_W f) st).put (Fld.MRG_FLOW_STATUS.CAUSE_W f) cause).put (Fld.MRG_FLOW_STATUS.CLASS_W f) cls
  | pathP => exact ((h.put (Fld.MRG_FLOW_STATUS.STATE_P f) st).put (Fld.MRG_FLOW_STATUS.CAUSE_P f) cause).put (Fld.MRG_FLOW_STATUS.CLASS_P f) cls

theorem pathFail (f : Nat) (p : MergePath) (cause : Nat) : KeepsStr d (e.pathFail f p cause) :=
  ((((h.putPath f p 3 cause 0).setMf _ _).mergeEvt _ _).anchorCheck _).mrgCheck

theorem pathTo (f : Nat) (p : MergePath) (st : Nat) : KeepsStr d (e.pathTo f p st) :=
  (((h.putPath f p st 0 0).setMf _ _).anchorCheck _).mrgCheck

theorem pathJoin (f : Nat) (p : MergePath) : KeepsStr d (e.pathJoin f p) := by
  unfold Dev.pathJoin
  extract_lets st d1
  have h1 : KeepsStr d d1 := .ite (h.pathTo _ _ _) h
  exact .ite (.ite h (h.pathTo _ _ _)) (.ite (h1.pathFail _ _ _) h1)

theorem mergeRealign (f : Nat) : KeepsStr d (e.mergeRealign f) := .ite h (h.put _ _)

theorem mrgStart (commit : Bool) : KeepsStr d (e.mrgStart commit) := by
  unfold Dev.mrgStart
  extract_lets once mrg d1 d2
  have h1 : KeepsStr d d1 := h.same
  have h2 : KeepsStr d d2 := h1.foldl fun _ h => ((h.setReg _ _).setReg _ _).setReg _ _
  exact (h2.foldl fun _ h => ((h.dropHeld _).pathJoin _ _).pathJoin _ _).mrgCheck

/-! ### Calliope -/

theorem setCp (x : Nat) (v : ClpPort) : KeepsStr d (e.setCp x v) := by
  unfold Dev.setCp
  extract_lets d1
  have h1 : KeepsStr d d1 := h.same
  exact (h1.put _ _).put _ _

theorem clpTxCheck (x : Nat) : KeepsStr d (e.clpTxCheck x) := .ite h (h.put _ _)

theorem clpPush (x : Nat) : KeepsStr d (e.clpPush x) := .ite (h.incSat _ _) (h.setCp _ _)

theorem copyMasked (a : Nat) (mask : Word) (k : AboveStr a := by (repeat apply AboveStr.add); exact .lit rfl) :
    KeepsStr d (e.copyMasked a mask) := .ite (h.setReg _ _ k).same (h.setReg _ _ k)

theorem clpTxFields (x : Nat) : KeepsStr d (e.clpTxFields x) :=
  .ite h (((((h.copyMasked _ _).copyMasked _ _).copyMasked _ _).copyMasked _ _).clpTxCheck _)

theorem clpRxFields (x : Nat) : KeepsStr d (e.clpRxFields x) :=
  .ite h ((((h.copyMasked _ _).copyMasked _ _).copyMasked _ _).copyMasked _ _)

theorem clpFields (x : Nat) : KeepsStr d (e.clpFields x) := by
  unfold Dev.clpFields
  extract_lets d1
  have h1 : KeepsStr d d1 := .ite h (h.clpTxFields _)
  exact .ite h1 (h1.clpRxFields _)

theorem partnerExpiry (x i : Nat) : KeepsStr d (e.partnerExpiry x i) := .ite (((h.put _ _).raise _).setInt _ _) h

theorem clpPop (x : Nat) : KeepsStr d (e.clpPop x) := h.setCp _ _

theorem eqReset (x : Nat) : KeepsStr d (e.eqReset x) := h.setCp _ _

theorem clpLineReset (x : Nat) : KeepsStr d (e.clpLineReset x) := (h.setCp _ _).forUpTo fun _ h => h.partnerExpiry _ _

/-! ### Capture and players -/

theorem setTap (t : Nat) (v : TapState) : KeepsStr d (e.setTap t v) := h.same

theorem bufCheck : KeepsStr d e.bufCheck := (h.forUpTo fun _ h => h.put _ _).causeIs _ _

/-- Pending values of two registers above STR. -/
theorem copyTwo (a b : Nat) (ka : AboveStr a := by (repeat apply AboveStr.add); exact .lit rfl)
    (kb : AboveStr b := by (repeat apply AboveStr.add); exact .lit rfl) : KeepsStr d (e.copyShadow fun k => k == a || k == b) := by
  refine h.copyShadow _ fun k hk => ?_
  simp only [Bool.or_eq_true, beq_iff_eq] at hk
  obtain rfl | rfl := hk
  · exact ka.notStr
  · exact kb.notStr

theorem bufBoundary (b : Nat) : KeepsStr d (e.bufBoundary b) := .ite h (h.copyTwo _ _).bufCheck

theorem bufFree (b : Nat) : KeepsStr d (e.bufFree b) := (h.put _ _).bufBoundary _

theorem chainBoundary (c : Nat) : KeepsStr d (e.chainBoundary c) := .ite h (h.copyTwo _ _)

theorem tapBoundary (t : Nat) : KeepsStr d (e.tapBoundary t) := .ite h (h.copyTwo _ _)

theorem openRecord (t g : Nat) (p : Piece) : KeepsStr d (e.openRecord t g p) :=
  ((h.setReg64 (Reg.CAP_TAP_SEQ_LO t) ((e.reg64 (Reg.CAP_TAP_SEQ_LO t) + 1) % 2 ^ 64)).setTap _ _).put _ _

theorem truncated (t : Nat) : KeepsStr d (e.truncated t) := ((((h.incSat _ _).raise _).setInt _ _).put _ _).setTap _ _

theorem recordBoundary (t : Nat) : KeepsStr d (e.recordBoundary t) := by
  unfold Dev.recordBoundary
  dsimp only
  split
  · exact ((h.put _ _).setTap _ _).tapBoundary _
  · exact h.tapBoundary _

theorem endCapture (t : Nat) : KeepsStr d (e.endCapture t) := (((h.put _ _).put _ _).setTap _ _).tapBoundary _

theorem bufRecord (t : Nat) : KeepsStr d (e.bufRecord t).2 := by
  unfold Dev.bufRecord
  split
  · exact h
  · exact (h.same (f := (e.draw tcMax).2)).openRecord _ _ _

theorem queueLost (q : Nat) : KeepsStr d (e.queueLost q) :=
  h.foldl fun _ h => (KeepsStr.ite (h.truncated _) h).endCapture _

theorem sourceReturn (t : Nat) : KeepsStr d (e.sourceReturn t) := by
  have ht := h.setTap t { e.tap t with lost := false }
  exact .ite (ht.put _ _) ht

theorem playRelease (p : Nat) : KeepsStr d (e.playRelease p) := h.forUpTo fun _ h => .ite (h.bufFree _) h

theorem playIdle (p : Nat) : KeepsStr d (e.playIdle p) := (((h.playRelease _).put _ _).put _ _).put _ _

theorem playersIdle : KeepsStr d e.playersIdle := h.forUpTo fun _ h => .ite h (h.playIdle _)

theorem segWrite (g w : Nat) (v : Word) : KeepsStr d (e.segWrite g w v) := by
  refine .ite (((h.incSat _ _).raise _).setInt _ _) ?_
  match w with
  | 0 => exact h.storeRw (Reg.CAP_SEG0 g) v
  | 1 => exact h.storeRw (Reg.CAP_SEG1 g) v
  | 2 => exact h.storeRw (Reg.CAP_SEG2 g) v
  | 3 => exact h.storeRw (Reg.CAP_SEG3 g) v
  | _ + 4 => exact h.storeRw (Reg.CAP_SEG4 g) v

/-- Receivers, host clients and protected flows judged anew. -/
theorem switchCheck : KeepsStr d e.switchCheck := by
  unfold Dev.switchCheck
  extract_lets d1 d2
  have h2 : KeepsStr d d2 := .ite h.rxCheckAll h.rxCheckAll.hstCheck
  exact .ite h2 h2.mrgCheck

theorem leaveTrack (x : Nat) : KeepsStr d (e.leaveTrack x) := .ite (h.withdrawRef _) h

/-! ### Security, power and time -/

theorem setChan (c : Nat) (v : MbChannel) : KeepsStr d (e.setChan c v) := h.same

theorem mbGo (c : Nat) : KeepsStr d (e.mbGo c) := .ite (h.put _ _) (((h.forUpTo fun _ h => h.setReg _ _).setChan _ _).put _ _)

theorem wdtKick (key : Nat) : KeepsStr d (e.wdtKick key) := .ite (h.same.causeOff _) h

theorem alertSync : KeepsStr d e.alertSync := h.put _ _

theorem hkConvert (ch : Nat) : KeepsStr d (e.hkConvert ch) := by
  unfold Dev.hkConvert
  extract_lets pwr d1
  have h1 : KeepsStr d d1 := h.same
  exact ((h1.put _ _).put _ _).put _ _

theorem hkCalibrate : KeepsStr d e.hkCalibrate := ((h.put _ _).put _ _).put _ _

theorem hkStart (ch : Nat) : KeepsStr d (e.hkStart ch) := by
  have hp := h.put Fld.PWR_HK_CTL.CH ch
  exact .ite ((hp.same.put _ _).put _ _) (hp.hkConvert _)

theorem hkCalNow : KeepsStr d e.hkCalNow := .ite h (.ite (h.put _ _) h.hkCalibrate)

theorem tcSet : KeepsStr d e.tcSet := h.tcWrite _

theorem realign (off : Int) : KeepsStr d (e.realign off) := h.same

end

/-! ### The state -/

section
variable {d : Dev} {s : State} (h : KeepsStr d s.dev)
include h

theorem settle : KeepsStr d s.settle.dev := h.same

theorem onDev {f : Dev → Dev} (hf : ∀ {e}, KeepsStr d e → KeepsStr d (f e)) : KeepsStr d (s.onDev f).dev := (hf h).same

theorem bufWrite (b a : Nat) (l : List Byte) : KeepsStr d (State.bufWrite b a l s).dev := by
  induction l generalizing s a with
  | nil => exact h
  | cons v r ih =>
    refine ih ?_ _
    exact h

theorem qStore (q b : Nat) (l : List Byte) : KeepsStr d (State.qStore q b l s).dev := by
  induction l generalizing s b with
  | nil => exact h
  | cons v r ih =>
    refine ih ?_ _
    split <;> exact h

theorem closeRecord (t : Nat) (truncated : Bool) : KeepsStr d (s.closeRecord t truncated).dev := by
  unfold State.closeRecord
  extract_lets d0 q tap d1
  have h1 : KeepsStr d d1 := h.setTap _ _
  split
  · exact h
  · extract_lets head pad s1 s2
    have hs1 : KeepsStr d s1.dev := (h1.setWb _ _).fillHole _ _
    have h2 : KeepsStr d s2.dev := by
      refine .iteState ?_ ((hs1.qStore _ _ _).qStore _ _ _)
      have he := h1.egressPut q (head ++ (OpenRecord.data ‹_›) ++ pad)
      generalize d1.egressPut q _ = w at he ⊢
      exact .ite he (he.truncated _)
    exact (KeepsStr.ite (h2.truncated _) h2).recordBoundary _

theorem endQueueCapture (t : Nat) (truncated : Bool) : KeepsStr d (s.endQueueCapture t truncated).dev :=
  (h.closeRecord _ _).endCapture _

theorem endBufferCapture (t : Nat) (truncated : Bool) : KeepsStr d (s.endBufferCapture t truncated).dev := by
  unfold State.endBufferCapture
  extract_lets b
  have hr := h.bufRecord t
  generalize s.dev.bufRecord t = w at hr ⊢
  obtain ⟨r, f⟩ := w
  dsimp -zeta only at hr ⊢
  extract_lets cap ring oldest pos r' head f1 s1 f2
  have h1 : KeepsStr d s1.dev := bufWrite ((hr.put _ _).setInt _ _) _ _ _
  have h2 : KeepsStr d f2 := (h1.bufFree _).put _ _
  exact (KeepsStr.ite (h2.truncated _) h2).endCapture _

theorem endAny (t : Nat) (truncated : Bool) : KeepsStr d (s.endAny t truncated).dev :=
  .iteState h (.iteState (h.endBufferCapture _ _) (.iteState (h.endCapture _) (h.endQueueCapture _ _)))

theorem endCaptures : KeepsStr d s.endCaptures.dev := h.foldlState fun _ h => h.endAny _ _

theorem queueClosed (q : Nat) : KeepsStr d (s.queueClosed q).dev := .iteState h (h.foldlState fun _ h => h.endQueueCapture _ _)

theorem sourceLoss (t : Nat) : KeepsStr d (s.sourceLoss t).dev := by
  have ht : KeepsStr d ({ s with dev := s.dev.setTap t { s.dev.tap t with lost := true } } : State).dev := h.setTap _ _
  exact .iteState ht (.iteState (ht.endBufferCapture _ _) (((ht.closeRecord _ _).setTap _ _).put _ _))

theorem chainReset (c : Nat) : KeepsStr d (s.chainReset c).dev := by
  unfold State.chainReset
  dsimp only
  refine (KeepsStr.chainBoundary ?_ _).same
  split
  · exact .iteState (h.endBufferCapture _ _) (h.closeRecord _ _)
  · exact h

theorem chainsReset (mask : Nat) : KeepsStr d (s.chainsReset mask).dev := h.foldlState fun _ h => .iteState (h.chainReset _) h

theorem logAction (action arg : Nat) : KeepsStr d (s.logAction action arg).dev := by
  unfold State.logAction
  extract_lets d1 q o
  have h1 : KeepsStr d d1 := h.tapEvent _ _
  have ho : KeepsStr d o.dev := h1.offer _ _ _ _
  refine .iteState h1 (.iteState (settle (qStore ?_ _ _ _)) (h1.incSat _ _))
  exact ho.incSat _ _

theorem logAdapt (d0 : Dev) (x : Nat) : KeepsStr d (s.logAdapt d0 x).dev := by
  unfold State.logAdapt
  extract_lets shed t s1 i
  have h1 : KeepsStr d s1.dev := .iteState h (h.logAction _ _)
  exact .iteState h1 (h1.logAction _ _)

theorem lostSources (d0 : Dev) : KeepsStr d (s.lostSources d0).dev := h.foldlState fun _ h => .iteState (h.sourceLoss _) h

theorem switchChanged (d0 : Dev) : KeepsStr d (s.switchChanged d0).dev :=
  (KeepsStr.lostSources h.switchCheck d0).forUpTo fun _ h => .ite (h.sourceReturn _) h

theorem installMaps (maps : List (Nat × List QueueDecl)) : KeepsStr d (s.installMaps maps).dev :=
  h.onDev fun h => (h.foldl fun _ h => h.queueLost _).installQueues _

end
end KeepsStr
end Sys2Proof.Machine
end

section
/-! A block reset (R51) and the writes to the blocks other than STR and FLT leave STR alone. -/

namespace Sys2Proof.Machine

set_option Elab.async false

namespace KeepsStr

/-! ### Block reset (R51) -/

theorem keyBlock_str {a : Nat} (h : a / 0x100000 = 1) : keyBlock a = 1 := by
  have hlt : a < reqBase := by unfold reqBase; omega
  rw [keyBlock, keyAddr, if_pos hlt, h]

section
variable {d e : Dev} (h : KeepsStr d e)
include h

theorem clearBlock (b : Nat) (hb : 2 ≤ b) : KeepsStr d (e.clearBlock b) :=
  h.filterRegs (fun x => keyBlock x.1 != b || survivesReset b x.1) fun a _ ha => by
    have : (1 != b) = true := by simp; omega
    simp [keyBlock_str ha, this]

theorem clearLine (x : Nat) : KeepsStr d (e.clearLine x) := h.setLn _ _

theorem clearUnit (b : Nat) : KeepsStr d (e.clearUnit b) := by
  unfold Dev.clearUnit
  dsimp only
  split
  case h_1 => exact h.clearLine _
  case h_2 => exact h.clearLine _
  all_goals exact h.same

/-- The merge buffers of the protected flows are emptied. -/
theorem dropAll : KeepsStr d (e.protectedFlows.foldl (fun d w => d.dropHeld w.flow) e) := h.foldl fun _ h => h.dropHeld _

theorem keepLevels (b : Nat) (old : Dev) : KeepsStr d (Dev.keepLevels b old e) := by
  unfold Dev.keepLevels
  split
  · exact h.setReg _ _
  · exact h.setReg _ _
  · exact h.put _ _
  · exact (h.forUpTo fun _ h => h.put _ _).hstCheck
  · exact h

end

section
variable {d : Dev} {s : State} (h : KeepsStr d s.dev)
include h

omit h in
theorem setDev {e : Dev} (h : KeepsStr d e) : KeepsStr d ({ s with dev := e } : State).dev := h

theorem resetActions (b : Nat) : KeepsStr d (s.resetActions b).dev := by
  unfold State.resetActions
  split
  · exact (h.clpLineReset _).leaveTrack _
  · exact (h.clpLineReset _).leaveTrack _
  · refine onDev h ?_
    intro f hf
    exact hf.dropAll
  · exact h.onDev fun h => h.rmsReset
  · exact h.stopEngines
  · extract_lets s1
    have h1 : KeepsStr d s1.dev := h.endCaptures
    exact setDev h1.playersIdle
  · exact (h.unlearn _).unlearn _
  · exact h

theorem startReset (b : Nat) (hb : 2 ≤ b) : KeepsStr d (s.startReset b).dev := by
  unfold State.startReset
  extract_lets d0 s1 old d1 d2
  have h0 : KeepsStr d old := h.resetActions b
  have h1 : KeepsStr d d1 := (h0.clearBlock b hb).clearUnit b
  have h2 : KeepsStr d d2 := h1.same
  have h3 := (h2.keepLevels b old).setRegOff Reg.GLB_BLK_RESET
    ((Dev.keepLevels b old d2).reg Reg.GLB_BLK_RESET ||| placeBits b b 1) (by decide)
  exact h3.consCheck.switchChanged _

theorem blockReset (b : Nat) : KeepsStr d (s.blockReset b).dev := by
  unfold State.blockReset
  split
  · exact h
  · rename_i hb
    exact .iteState (.iteState h h.same) (h.startReset b (by omega))

theorem runWaiting : KeepsStr d s.runWaiting.dev :=
  foldlState h.same fun _ h => h.blockReset _

end


/-! ### Writes (R12, R63) -/

/-- A value of several registers that has one outside STR lies outside STR. -/
theorem wideRegs_str : ∀ w ∈ wideRegs, w.1 / 0x100000 = 1 ∧ w.1 + dimsEnd w.2.1 + 4 * w.2.2 ≤ 0x200000 ∨
    w.1 + dimsEnd w.2.1 + 4 * w.2.2 ≤ 0x100000 ∨ 0x200000 ≤ w.1 := by decide

theorem partOf_str {addr i n : Nat} (h : partOf addr = some (i, n)) (k : addr / 0x100000 ≠ 1) (j : Nat) (hj : j < n) :
    (addr - 4 * i + 4 * j) / 0x100000 ≠ 1 := by
  unfold partOf at h
  obtain ⟨w, hw, hm⟩ := List.exists_of_findSome?_eq_some h
  obtain ⟨i', hi', he⟩ := Option.map_eq_some_iff.mp hm
  obtain ⟨rfl, rfl⟩ := Prod.mk.inj he
  have hfi := List.find?_some hi'
  have hin := List.mem_range.mp (List.mem_of_find?_eq_some hi')
  simp only [Bool.and_eq_true, decide_eq_true_eq] at hfi
  have hd := dimsMatch_le_dimsEnd hfi.2
  have hs := wideRegs_str w hw
  omega

theorem keyOf_str (e : Dev) (req : Requester) {a : Nat} (k : a / 0x100000 ≠ 1) : e.keyOf req a / 0x100000 ≠ 1 := by
  unfold Dev.keyOf reqBase queueBase
  split
  · omega
  · split
    · omega
    · exact k

theorem keyOf_low (e : Dev) (req : Requester) {a b : Nat} (hb : b < reqBase) (h : e.keyOf req a = b) : a = b := by
  revert h
  unfold Dev.keyOf
  unfold reqBase at *
  unfold queueBase
  split
  · omega
  · split
    · omega
    · exact id

section
variable {d e : Dev} (h : KeepsStr d e)
include h

theorem clearW1c (a : Nat) (v : Word) (k : a / 0x100000 ≠ 1) : KeepsStr d (e.clearW1c a v) := .ite h (h.setRegOff _ _ k)

theorem enRises (a : Nat) (old : Word) : KeepsStr d (e.enRises a old) := by
  unfold Dev.enRises
  split
  · exact .ite h.same (h.same.sendMsix _)
  · split
    · exact .ite h (h.sendMsix _)
    · exact h

theorem writePlain (a : Nat) (v : Word) (k : a / 0x100000 ≠ 1) : KeepsStr d (e.writePlain a v) :=
  ((h.storeRwOff a v k).clearW1c a v k).enRises _ _

theorem holdPart (a : Nat) (v : Word) : KeepsStr d (e.holdPart a v) := .ite h h.same

theorem writeWide (lo n : Nat) (v : Word) (k : ∀ i < n, (lo + 4 * i) / 0x100000 ≠ 1) : KeepsStr d (e.writeWide lo n v) := by
  unfold Dev.writeWide
  extract_lets both f i a
  have hf : KeepsStr d f := h.same
  refine .ite (hf.runMask _) (.ite (hf.haltMask _) (.ite (.ite (hf.setX _ _ _) hf) (.ite (h.prbCntWrite _ _)
    (.ite (h.tcStep _) (.ite ((hf.setShadow _ _).setShadow _ _) ?_)))))
  have hall : ∀ (l : List Nat) {g : Dev}, (∀ i ∈ l, i < n) → KeepsStr d g →
      KeepsStr d (l.foldl (fun g i => g.writePlain (lo + 4 * i) (if i + 1 = n then v else e.heldPart (lo + 4 * i))) g) := by
    intro l
    induction l with
    | nil => exact fun _ hg => hg
    | cons i l ih =>
      exact fun hl hg => ih (fun j hj => hl j (List.mem_cons_of_mem _ hj)) (hg.writePlain _ _ (k i (hl i (List.mem_cons_self ..))))
  exact hall _ (fun i hi => List.mem_range.mp hi) hf

variable (a o : Nat) (v : Word) (k : a / 0x100000 ≠ 1)
include k

theorem writeLn (p : Bool) (x : Nat) : KeepsStr d (Dev.writeLn p x a o v e) := by
  have hs := h.storeRwOff a v k
  have hw := h.writePlain a v k
  have hf := hs.freezeWrite x (v.getLsbD 8)
  exact .ite (h.cnvRateWrite _ _) (.ite (h.cnvEnWrite _ _) (.ite (hw.setRegOff _ _ k) (.ite (.ite (hf.calNow _) hf)
    (.ite (hs.lagCheck _) (.ite (.ite (h.setRegOff _ _ k) (h.pdCoefWrite _ _ _ _ _)) (.ite (.ite (hs.dspRestart _) hs) hw))))))

theorem writeFec : KeepsStr d (Dev.writeFec a o v e) := by
  have hs := h.storeRwOff a v k
  exact .ite (.ite (hs.fecCntClr _) hs) (h.writePlain a v k)

theorem writeFrm (p : Bool) : KeepsStr d (Dev.writeFrm p a o v e) :=
  .ite ((h.forUpTo fun _ h => .ite (h.tsiSwap _) h).forUpTo fun _ h => .ite (h.tsiCopy _) h)
    (.ite (.ite (h.setRegOff _ _ k) (h.tsiSbyWrite _ _ _)) (h.writePlain a v k))

theorem writeCry : KeepsStr d (Dev.writeCry a o v e) := (h.writePlain a v k).consCheck

theorem writeMrg : KeepsStr d (Dev.writeMrg a o v e) := by
  have hs := h.storeRwOff a v k
  exact .ite (h.writePlain a v k) (.ite h (.ite (.ite (hs.mergeRealign _) hs) (h.writePlain a v k)))

theorem writeHst (p : Bool) : KeepsStr d (Dev.writeHst p a o v e) := by
  refine .ite (h.octetWrite _ _) (.ite ?_ (.ite (h.clientCtl _ _) (h.writePlain a v k)))
  dsimp only
  split
  · exact h.laneCtl _ _
  · exact h.rxEqWrite _ _
  · exact .ite (h.txFirStore _ _ _) (h.txFirWrite _ _ _)
  · exact .ite (h.txFirStore _ _ _) (h.txFirWrite _ _ _)
  · exact h.prbsCtl _ _
  · exact h.writePlain a v k

theorem writeRms : KeepsStr d (Dev.writeRms a o v e) := by
  refine .ite (h.admLimit _) (.ite ?_ (.ite (.ite (h.dbProd _ _) (h.dbCons _ _)) (h.writePlain a v k)))
  dsimp only
  split
  · exact h.dmaCtl _ _
  · exact h.dmaProd _ _
  · exact h.writePlain a v k

theorem writePrb : KeepsStr d (Dev.writePrb a o v e) := by
  have hs := h.storeRwOff a v k
  have hr n : KeepsStr d (if v.getLsbD 30 = true then (e.storeRw a v).restartEng n else e.storeRw a v) := .ite (hs.restartEng n) hs
  have hl x : KeepsStr d (if v.getLsbD 31 = true then (e.storeRw a v).pmLoadOp x else e.storeRw a v) := .ite (hs.pmLoadOp x) hs
  exact .ite (h.storeRwOff _ _ k) (.ite (hs.setReg _ _) (.ite (hs.unlatch _ _) (.ite (.ite ((hr _).stepEng _) (hr _))
    (.ite (.ite ((hl _).pmHitsClrOp _) (hl _)) (h.writePlain a v k)))))

theorem writeClp : KeepsStr d (Dev.writeClp a o v e) := by
  have hs := h.storeRwOff a v k
  unfold Dev.writeClp
  extract_lets x d1
  split
  · exact .ite (h.clpPush _) h
  · exact .ite (h.clpPop _) h
  · exact (KeepsStr.ite (hs.eqReset _) hs).clpFields _
  · exact hs.clpFields _
  · exact hs.clpFields _
  · exact hs.clpFields _
  · exact hs.clpFields _
  · exact h.writePlain a v k

theorem writeTim : KeepsStr d (Dev.writeTim a o v e) := by
  have hs := h.storeRwOff a v k
  unfold Dev.writeTim
  split
  · exact h.storeRwOff _ _ k
  · extract_lets d1
    have h1 : KeepsStr d d1 := .ite (h.put _ _) h
    exact .ite h1.tcSet h1
  · exact .ite (hs.realign _) hs
  · exact .ite hs.same hs
  · exact .ite (h.ptpPop _) h
  · exact .ite (h.ptpPop _) h
  · exact h.writePlain a v k

theorem writeChn (req : Requester) : KeepsStr d (Dev.writeChn req a o v e) := by
  have hs := h.storeRwOff a v k
  have hw := h.writePlain a v k
  exact .ite (.ite (hs.chainSyncOriginate _) hs) (.ite (.ite (hw.fwdGo _ _) hw) hw)

theorem writeSec : KeepsStr d (Dev.writeSec a o v e) := by
  have hs := h.storeRwOff a v k
  have hw := h.writePlain a v k
  exact .ite (.ite hs.same hs) (.ite (h.wdtKick _) (.ite (.ite (.ite (h.mbGo _) h) (.ite (h.put _ _) hw)) hw))

theorem writePwr : KeepsStr d (Dev.writePwr a o v e) := by
  unfold Dev.writePwr
  extract_lets ch d1
  have h1 : KeepsStr d d1 := .ite (h.hkStart _) (h.put _ _)
  exact .ite (h.storeRwOff a v k).alertSync (.ite (.ite h1.hkCalNow h1) (h.writePlain a v k))

end

end KeepsStr
end Sys2Proof.Machine
end

section
/-! A write outside STR and FLT (R12), a preset (R63), and what regions do at a commit (R76, R77) leave STR alone. -/

namespace Sys2Proof.Machine

set_option Elab.async false

namespace KeepsStr

section
variable {d : Dev} {s : State} (h : KeepsStr d s.dev)
include h

/-! ### The whole write, from GLB to PWR -/

theorem queueCommand (req : Requester) (q : Nat) (c : ProbeCmd) {f : Dev → Dev} (hf : ∀ {e}, KeepsStr d e → KeepsStr d (f e)) :
    KeepsStr d (s.queueCommand (.sw req) q c f).dev := by
  unfold State.queueCommand
  exact .iteState ((h.onDev hf).queueClosed _) h

theorem writeQueue (req : Requester) (q a off : Nat) (v : Word) (k : a / 0x100000 ≠ 1) : KeepsStr d (s.writeQueue req q a off v).dev := by
  unfold State.writeQueue
  refine .iteState h (.iteState ?_ (.iteState ?_ (setDev (h.writePlain a v k))))
  · extract_lets go
    have hgo {s : State} (hs : KeepsStr d s.dev) (i : Nat) {f : Dev → Dev} (hf : ∀ {e}, KeepsStr d e → KeepsStr d (f e)) :
        KeepsStr d (go i f s).dev := .iteState (hs.queueCommand _ _ _ hf) hs
    exact hgo (hgo (hgo (hgo h 0 fun h => h.qArm _) 1 fun h => h.qTrigger _) 2 fun h => h.qStop _) 3 fun h => h.pagingResume _
  · refine queueClosed (onDev h ?_) _
    intro e he
    exact (he.storeRwOff _ _ k).rmsWritten _

theorem writeGlb (req : Requester) (a : Nat) (v : Word) (k : a / 0x100000 ≠ 1) (kc : a = 0x34 → v.getLsbD 0 = false) :
    KeepsStr d (s.writeGlb req a v).dev := by
  unfold State.writeGlb
  refine .iteState ?_ (.iteState (h.foldlState fun _ h => .iteState (h.blockReset _) h) ?_)
  · exact setDev ((h.put _ _ (.ofRequester _ _)).put _ _ (.ofRequester _ _))
  · split
    · rename_i ha
      rw [if_neg fun hc => absurd hc.2 (by rw [kc ha]; decide)]
      exact h
    · exact setDev (h.writePlain a v k)

theorem writeCap (a o : Nat) (v : Word) (k : a / 0x100000 ≠ 1) : KeepsStr d (s.writeCap a o v).dev := by
  have hs := h.storeRwOff a v k
  have hw := h.writePlain a v k
  exact .iteState (h.chainsReset _) (.iteState (setDev (hs.bufBoundary _)) (.iteState (setDev (.ite (hw.tapBoundary _) hw))
    (.iteState (setDev (h.segWrite _ _ _).consCheck) (setDev hw))))

/-- A write outside STR and FLT, where it is no chip reset, leaves STR alone. -/
theorem writeReg (p : Bool) (req : Requester) (addr : Nat) (v : Word) (k : addr / 0x100000 ≠ 1) (kf : addr / 0x100000 ≠ 16)
    (kc : addr = 0x34 → v.getLsbD 0 = false) : KeepsStr d (s.writeReg p req addr v).dev := by
  unfold State.writeReg
  extract_lets d0 b o a
  have ka : a / 0x100000 ≠ 1 := keyOf_str d0 req k
  refine .iteState (setDev (h.raise _)) (.iteState h ?_)
  split
  · rename_i i n hp
    refine .iteState (setDev (h.holdPart _ _)) (onDev h ?_)
    intro e he
    exact he.writeWide _ _ _ (partOf_str hp k)
  · refine .iteState (h.writeQueue _ _ _ _ _ ka) ?_
    have kb : b ≠ 1 := k
    have kbf : b ≠ 16 := kf
    clear_value b
    split
    · exact h.writeGlb _ _ _ ka fun ha => kc (keyOf_low d0 req (by decide) ha)
    · exact absurd rfl kb
    · exact setDev (h.writeLn a o v ka _ _)
    · exact setDev (h.writeLn a o v ka _ _)
    · exact setDev (h.writeFec a o v ka)
    · exact setDev (h.writeFrm a o v ka _)
    · exact setDev (h.writeCry a o v ka)
    · exact setDev (h.writeMrg a o v ka)
    · exact setDev (h.writeHst a o v ka _)
    · refine onDev h ?_
      intro e he
      exact he.writeRms a o v ka
    · exact setDev (h.writePrb a o v ka)
    · exact h.writeCap a o v ka
    · exact setDev (h.writeClp a o v ka)
    · exact setDev (h.writeTim a o v ka)
    · exact setDev (h.writeChn a o v ka _)
    · exact setDev (h.writeSec a o v ka)
    · exact absurd rfl kbf
    · exact setDev (h.writePwr a o v ka)
    · exact h

/-! ### Presets (R63) -/

omit h in
/-- The write of the command register CHIP_RESET by a preset has no effect: its fields are no RW fields. -/
theorem rwMask_chipReset : rwMaskAt 0x34 = 0 := by decide

theorem preset (p : Preset) (pend : List (Nat × Word)) (k : p.addr / 0x100000 ≠ 1) (kf : p.addr / 0x100000 ≠ 16) :
    KeepsStr d (State.preset (s, pend) p).1.dev := by
  unfold State.preset
  extract_lets s0 d0 a old v s1
  have h1 : KeepsStr d s1.dev := by
    refine h.writeReg true .trusted p.addr v k kf fun hp => ?_
    have hv : v = 0 := by
      show _ &&& rwMaskAt p.addr = 0
      rw [hp, rwMask_chipReset]
      exact BitVec.and_zero
    rw [hv]
    decide
  split
  · exact h
  · split
    rename_i ks mask hw
    have hks : ∀ x ∈ ks, x / 0x100000 ≠ 1 := by
      intro x hx
      split at hw
      · rename_i i n hp
        obtain ⟨rfl, -⟩ := Prod.mk.inj hw
        obtain ⟨j, hj, rfl⟩ := List.mem_map.mp hx
        exact partOf_str hp k j (List.mem_range.mp hj)
      · obtain ⟨rfl, -⟩ := Prod.mk.inj hw
        obtain rfl := List.mem_singleton.mp hx
        exact keyOf_str d0 .trusted k
    extract_lets d1 d2 d3
    have hd1 : KeepsStr d d1 := h1.copyShadow _ fun x hx => hks x (of_decide_eq_true hx)
    have hd2 : KeepsStr d d2 := by
      unfold d2
      split
      · exact .ite (hd1.kiKnown _) hd1
      · exact hd1
    have hd3 : KeepsStr d d3 := by
      unfold d3
      split
      · exact .ite (hd2.setCryFlow _ _) hd2
      · exact hd2
    exact hd3

theorem applyBlock (d0 : Dev) (b : Nat) : KeepsStr d (State.applyBlock d0 s b).dev := by
  unfold State.applyBlock
  extract_lets e
  have he : KeepsStr d e := h
  split
  · exact logAdapt (setDev (he.dspApply _ _)) _ _
  · exact logAdapt (setDev (he.dspApply _ _)) _ _
  · exact logAdapt (logAdapt (setDev ((he.fecApply _).fecApply _)) _ _) _ _
  · exact setDev ((he.frmApply _).frmApply _)
  · exact setDev he.lanesCheck
  · exact setDev he.rmsGlobal.regrant
  · exact setDev he.bufCheck
  · exact setDev ((he.clpFields _).clpFields _)
  · exact setDev (he.ppsOffer.refreshRefs.timModes _)
  · exact setDev he.lanesCheck.linksCheck
  · exact h

/-! ### Regions (R76, R77) -/

theorem enterRegion (r : Nat) : KeepsStr d (s.enterRegion r).dev := by
  unfold State.enterRegion
  split
  · exact setDev (h.clpTxCheck _)
  · exact setDev (h.clpTxCheck _)
  · exact setDev ((h.frmApply _).frmApply _)
  · exact setDev h.stopEngines
  · exact setDev h.endCaptures.playersIdle
  · exact setDev h.linksCheck
  · exact h

theorem startRegion (d0 : Dev) (r : Nat) : KeepsStr d (State.startRegion d0 s r).dev := by
  unfold State.startRegion
  extract_lets e keep frm e1 s1 e2
  have he : KeepsStr d e := h
  split
  · exact setDev ((he.cnvCheck _).clpTxCheck _)
  · exact setDev ((he.cnvCheck _).clpTxCheck _)
  · have h1 : KeepsStr d e1 := he.same
    refine onDev h ?_
    intro _ _
    exact ((h1.tsiCommit.reownSlots _).mrgStart _).hstCheck
  · exact setDev (KeepsStr.retrainLanes he d0)
  · exact setDev he.clearProbeCounts.startEngines
  · have h0 : KeepsStr d (State.renewBanks d0 s).dev := h
    have h1 : KeepsStr d s1.dev := h0.chainsReset 0xFF
    have h2 : KeepsStr d e2 := h1.forUpTo fun _ h => h.setTap _ _
    exact setDev h2.playersIdle
  · exact setDev (KeepsStr.retrainLanes he d0).linksCheck
  · exact h

end
end KeepsStr
end Sys2Proof.Machine
end

section
/-! Presets leave STR alone; the table of the regions' bodies and the bits of the regions. -/

namespace Sys2Proof.Machine

set_option Elab.async false

namespace KeepsStr

/-- A preset that names no register of STR and none of FLT. -/
def PresetOutside (p : Preset) : Prop := p.addr / 0x100000 ≠ 1 ∧ p.addr / 0x100000 ≠ 16

theorem presets {d : Dev} (l : List Preset) (hl : ∀ p ∈ l, PresetOutside p) {a : State × List (Nat × Word)} (h : KeepsStr d a.1.dev) :
    KeepsStr d (l.foldl State.preset a).1.dev := by
  induction l generalizing a with
  | nil => exact h
  | cons p l ih =>
    obtain ⟨k, kf⟩ := hl p (List.mem_cons_self ..)
    exact ih (fun q hq => hl q (List.mem_cons_of_mem _ hq)) (h.preset p a.2 k kf)

theorem presetSection {d : Dev} (l : List Preset) (hl : ∀ p ∈ l, PresetOutside p) {a : State × List (Nat × Word)}
    (h : KeepsStr d a.1.dev) : KeepsStr d (State.presetSection a l).1.dev := (presets l hl h).same

theorem presetSections {d : Dev} (ls : List (List Preset)) (hl : ∀ l ∈ ls, ∀ p ∈ l, PresetOutside p) {a : State × List (Nat × Word)}
    (h : KeepsStr d a.1.dev) : KeepsStr d (ls.foldl State.presetSection a).1.dev := by
  induction ls generalizing a with
  | nil => exact h
  | cons l ls ih => exact ih (fun m hm => hl m (List.mem_cons_of_mem _ hm)) (presetSection l (hl l (List.mem_cons_self ..)) h)

/-- Presets outside STR and FLT leave STR alone. -/
theorem applyPresets {d : Dev} {s : State} (h : KeepsStr d s.dev) (ls : List (List Preset)) (bs : List Nat)
    (hl : ∀ l ∈ ls, ∀ p ∈ l, PresetOutside p) : KeepsStr d (s.applyPresets ls bs).dev := by
  unfold State.applyPresets
  extract_lets d0 hold s1
  have h0 : KeepsStr d d0 := h
  have h1 : KeepsStr d s1.dev := (h0.same (f := { d0 with shadow := [], held := [] })).setRegOff Reg.GLB_SHADOW_HOLD 0 (by decide)
  have h2 : KeepsStr d (ls.foldl State.presetSection (s1, d0.shadow)).1.dev := presetSections ls hl h1
  generalize ls.foldl State.presetSection (s1, d0.shadow) = w at h2 ⊢
  obtain ⟨s2, pend⟩ := w
  dsimp -zeta only at h2 ⊢
  extract_lets s3
  have h3 : KeepsStr d s3.dev := h2.foldlState fun _ h => h.applyBlock d0 _
  exact (h3.same (f := { s3.dev with shadow := pend, held := d0.held })).setRegOff Reg.GLB_SHADOW_HOLD hold (by decide)

end KeepsStr

/-! ### The table of bodies -/

theorem Sparse.find?_insert {α : Type} (a b : Nat) (v : α) (m : List (Nat × α)) :
    (Sparse.insert a v m).find? (fun e => e.1 == b) = if a = b then some (a, v) else m.find? (fun e => e.1 == b) := by
  induction m with
  | nil => by_cases h : a = b <;> simp [Sparse.insert, h]
  | cons e m ih =>
    obtain ⟨k, w⟩ := e
    unfold Sparse.insert
    split
    · rename_i hk
      by_cases h : a = b
      · simp [h]
      · have : ¬ k = b := hk ▸ h
        simp [h, this]
    · rename_i hk
      split
      · by_cases h : a = b <;> simp [h]
      · by_cases h : k = b
        · have : ¬ a = b := fun hab => hk (hab.trans h.symm)
          simp [h, this]
        · rw [List.find?_cons_of_neg (by simpa using h), ih, List.find?_cons_of_neg (by simpa using h)]

/-- A key that a run of insertions does not name keeps its entry. -/
theorem Sparse.find?_foldl_insert_ne {α : Type} (l m : List (Nat × α)) (b : Nat) (h : b ∉ l.map (·.1)) :
    (l.foldl (fun m e => Sparse.insert e.1 e.2 m) m).find? (fun e => e.1 == b) = m.find? (fun e => e.1 == b) := by
  induction l generalizing m with
  | nil => rfl
  | cons x l ih =>
    obtain ⟨hx, hl⟩ := not_or.mp (fun hor => h (List.mem_cons.mpr hor))
    rw [List.foldl_cons, ih _ hl, Sparse.find?_insert, if_neg fun hxb => hx hxb.symm]

/-- A run of insertions under different keys lists each. -/
theorem Sparse.find?_foldl_insert_mem {α : Type} (l m : List (Nat × α)) (hd : (l.map (·.1)).Nodup) {x : Nat × α} (hx : x ∈ l) :
    (l.foldl (fun m e => Sparse.insert e.1 e.2 m) m).find? (fun e => e.1 == x.1) = some x := by
  induction l generalizing m with
  | nil => exact absurd hx (List.not_mem_nil)
  | cons y l ih =>
    rw [List.map_cons, List.nodup_cons] at hd
    obtain ⟨hy, hl⟩ := hd
    rw [List.foldl_cons]
    obtain rfl | hm := List.mem_cons.mp hx
    · rw [Sparse.find?_foldl_insert_ne _ _ _ hy, Sparse.find?_insert, if_pos rfl]
    · exact ih _ hl hm

/-! ### Bits set one by one -/

/-- A run of bits set in one register: those of the run read 1, every other as before. -/
theorem Dev.bitAt_foldl_setBit (a n : Nat) (rs : List Nat) (d : Dev) {j : Nat} (hj : j < 32) :
    (rs.foldl (fun d r => d.setBit a (n + r)) d).bitAt a j = (decide (∃ r ∈ rs, j = n + r) || d.bitAt a j) := by
  induction rs generalizing d with
  | nil => simp
  | cons r rs ih =>
    rw [List.foldl_cons, ih]
    by_cases hr : j = n + r
    · subst hr
      simp [Dev.bitAt_setBit_self d a _ hj]
    · rw [Dev.bitAt_setBit_ne d a _ _ _ (.inr hr)]
      simp [hr]

end Sys2Proof.Machine
end

section
/-! Committing (R74 to R77, R80): each phase of a commit, and the obligation. -/

namespace Sys2Proof.Machine

set_option Elab.async false

/-! ### Starting a commit (R74) -/

theorem exec_commit {s : State} {req : Requester} (h : Writable req 1 s) (key : BitVec 16) (mask : BitVec 8) :
    exec (.commit req key mask) s = .next { s with dev := s.dev.commitStart key.toNat mask.toNat } :=
  runWrite_runs (f := Dev.commitStart key.toNat mask.toNat) h.1 h.2

/-- The device as the checks of a commit of the regions of a mask begin. -/
def Dev.checking (d : Dev) (mask : Nat) : Dev :=
  ({ d with str := { d.str with committing := (List.range 8).filter (fun r => mask.testBit r) } } : Dev).put Fld.STR_STATE.COMMIT 1

theorem Dev.commitStart_checks {d : Dev} (hc : d.get Fld.STR_STATE.COMMIT = 0) (hg : d.str.globalPending = false) (mask : Nat) :
    d.commitStart 0x5A17 mask = d.checking mask := by
  simp [Dev.commitStart, Dev.checking, hc, hg]

theorem Dev.commitStart_wrongKey (d : Dev) {key : Nat} (h : key ≠ 0x5A17) (mask : Nat) : d.commitStart key mask = d := by
  simp [Dev.commitStart, h]

theorem Dev.commitStart_busy {d : Dev} (hc : d.get Fld.STR_STATE.COMMIT ≠ 0) (mask : Nat) :
    d.commitStart 0x5A17 mask = d.strFail 0x1A noItem 3 33 := by
  simp [Dev.commitStart, hc]

theorem Dev.checking_committing (d : Dev) (mask : BitVec 8) {r : Nat} (hr : r < 8) :
    r ∈ (d.checking mask.toNat).str.committing ↔ mask.getLsbD r = true := by
  show r ∈ (List.range 8).filter (fun r => mask.toNat.testBit r) ↔ _
  simp [hr, BitVec.getLsbD]

/-! ### A refused commit (R75) -/

/-- Block resets that waited leave STR alone. -/
theorem State.runWaiting_keepsStr (s : State) : KeepsStr s.dev s.runWaiting.dev := (KeepsStr.refl s.dev).runWaiting

/-- The device with its commit refused, before the block resets that waited. -/
def Dev.refused (d : Dev) (code detail : Nat) : Dev :=
  ({ d.strFail code detail 3 33 with str := { (d.strFail code detail 3 33).str with committing := [] } } : Dev).put Fld.STR_STATE.COMMIT 0

theorem Dev.refused_regsKept (d : Dev) (code detail : Nat) :
    RegsKept [Reg.STR_STATE, Reg.STR_ERR_DETAIL, Reg.STR_INT_STATUS] d (d.refused code detail) :=
  ((d.strFail_regsKept code detail 3 33).same).put _ _

theorem Dev.refused_err (d : Dev) (code detail : Nat) : (d.refused code detail).get Fld.STR_STATE.ERR = code % 256 := by
  rw [Dev.refused, Dev.get_put_ne _ _ _ _ (Fld.ok_of _ rfl rfl) (Fld.ok_of _ rfl rfl) (.inr (.inl (Fld.above rfl)))]
  exact d.err_strFail code detail 3 33

theorem State.refuseCommit_refuses (s : State) (code detail : Nat) : CommitRefused code detail s (s.refuseCommit code detail) := by
  have h : KeepsStr (s.dev.refused code detail) (s.refuseCommit code detail).dev :=
    State.runWaiting_keepsStr { s with dev := s.dev.refused code detail }
  refine ⟨?_, ?_, ?_, ?_, ?_, ?_, ?_, fun hw => ?_⟩
  · rw [RegsOut.get h.regs _ (by decide)]
    exact Dev.get_put_self _ _ _ (Fld.ok_of _ rfl rfl)
  · rw [RegsOut.get h.regs _ (by decide), Dev.refused_err]
  · rw [h.regs _ (by decide), Dev.refused, Dev.reg_put_ne _ _ _ (by decide)]
    exact s.dev.detail_strFail code detail 3 33
  · exact congrArg StrState.committing h.str
  · rw [h.str, Dev.refused, Dev.put_str, Dev.strFail_str]
  · exact h.arising 33 (s.dev.strFail_arising code detail 3 33)
  · rw [RegsOut.bitAt h.regs _ _ (by decide), Dev.refused, Dev.bitAt_put_ne _ _ _ _ _ (by decide)]
    exact s.dev.int_strFail code detail 33 (by decide)
  · have hwait : (s.dev.refused code detail).resetWait = [] := by
      simpa [Dev.refused, Dev.strFail] using hw
    have heq : s.refuseCommit code detail = { s with dev := { s.dev.refused code detail with resetWait := [] } } := by
      show State.runWaiting { s with dev := s.dev.refused code detail } = _
      rw [State.runWaiting, hwait]
      rfl
    rw [heq]
    exact .ofDev ((s.dev.refused_regsKept code detail).same)

/-! ### Maintenance (R76) -/

/-- The regions rs restructure. -/
def Dev.restructure (d : Dev) (rs : List Nat) : Dev := rs.foldl (fun d r => d.setBit Reg.STR_STATE (24 + r)) (d.put Fld.STR_STATE.COMMIT 2)

theorem Dev.foldl_setBit_str (a n : Nat) (rs : List Nat) (d : Dev) : (rs.foldl (fun d r => d.setBit a (n + r)) d).str = d.str := by
  induction rs generalizing d with
  | nil => rfl
  | cons r rs ih => exact ih _

/-- A field whose bits are those of another device reads as there. -/
theorem Dev.get_of_bits {d e : Dev} (f : Fld) (hf : f.ok)
    (h : ∀ j, j < 32 → f.lo ≤ j → j ≤ f.hi → e.bitAt f.addr j = d.bitAt f.addr j) : e.get f = d.get f := by
  obtain ⟨hlo, hhi⟩ := hf
  apply Nat.eq_of_testBit_eq
  intro j
  unfold Dev.get
  rw [testBit_getBits, testBit_getBits]
  by_cases hj : j < f.hi - f.lo + 1
  · have := h (f.lo + j) (by omega) (by omega) (by omega)
    unfold Dev.bitAt at this
    rw [this]
  · simp [hj]

theorem Dev.restructure_commit (d : Dev) (rs : List Nat) : (d.restructure rs).get Fld.STR_STATE.COMMIT = 2 := by
  have hbits : (d.restructure rs).get Fld.STR_STATE.COMMIT = (d.put Fld.STR_STATE.COMMIT 2).get Fld.STR_STATE.COMMIT := by
    refine Dev.get_of_bits _ (Fld.ok_of _ rfl rfl) fun j hj _ hhi => ?_
    have hlow : j ≤ 11 := hhi
    have hno : ¬ ∃ r ∈ rs, j = 24 + r := fun ⟨r, _, hjr⟩ => by omega
    show (d.restructure rs).bitAt Reg.STR_STATE j = (d.put Fld.STR_STATE.COMMIT 2).bitAt Reg.STR_STATE j
    rw [Dev.restructure, Dev.bitAt_foldl_setBit _ _ _ _ hj]
    simp [hno]
  rw [hbits, Dev.get_put_self _ _ _ (Fld.ok_of _ rfl rfl)]
  rfl

/-- A bit of a register that a field written in it does not hold. -/
theorem Dev.bitAt_put_beside (d : Dev) (f : Fld) (v : Nat) {j : Nat} (hf : f.ok) (hj : j < 32) (h : j < f.lo ∨ f.hi < j) :
    (d.put f v).bitAt f.addr j = d.bitAt f.addr j := by
  have hout : ¬ (f.lo ≤ j ∧ j ≤ f.hi) := by omega
  unfold Dev.bitAt
  rw [Dev.reg_put_self, getLsbD_setBits hf.1, if_neg hout]
  simp [hj]

theorem Dev.restructure_restructuring (d : Dev) (rs : List Nat) {r : Nat} (hr : r < 8) :
    (d.restructure rs).restructuring r = true ↔ r ∈ rs ∨ d.restructuring r = true := by
  have hput : (d.put Fld.STR_STATE.COMMIT 2).bitAt Reg.STR_STATE (24 + r) = d.bitAt Reg.STR_STATE (24 + r) :=
    Dev.bitAt_put_beside d Fld.STR_STATE.COMMIT 2 (Fld.ok_of _ rfl rfl) (by omega) (.inr (show 11 < 24 + r by omega))
  unfold Dev.restructuring Dev.restructure
  rw [Dev.bitAt_foldl_setBit _ _ _ _ (by omega), hput]
  simp

theorem State.enterMaintenance_keepsStr (s : State) :
    KeepsStr (s.dev.restructure s.dev.str.committing) s.enterMaintenance.dev := by
  unfold State.enterMaintenance
  extract_lets rs d
  have hd : KeepsStr (s.dev.restructure rs) d := KeepsStr.withLines (KeepsStr.refl (s.dev.restructure rs))
  exact (KeepsStr.foldlState (s := { s with dev := d }) hd fun _ h => h.enterRegion _).switchChanged s.dev

theorem State.enterMaintenance_enters (s : State) : InMaintenance s.dev.str.committing s s.enterMaintenance := by
  have h := s.enterMaintenance_keepsStr
  have hstr : s.enterMaintenance.dev.str = s.dev.str := h.str.trans (Dev.foldl_setBit_str ..)
  refine ⟨?_, by rw [hstr], by rw [hstr], by rw [hstr], fun r hr => ?_⟩
  · rw [RegsOut.get h.regs _ (by decide), Dev.restructure_commit]
  · rw [← Dev.restructure_restructuring _ _ hr, Dev.restructuring, RegsOut.bitAt h.regs _ _ (by decide), Dev.restructuring]

/-! ### The end of a commit (R77) -/

/-- The regions of the running commit with the bodies that the staged image gives them. -/
def Dev.newBodies (d : Dev) : List (Nat × RegionBody) :=
  (d.stagedBodies d.str.committing).map (fun e => (e.1, e.2.body (BitVec.ofNat 32 (imgId d.str.cfgSram))))

/-- The bodies of the running commit become those of the active structure. -/
def Dev.takeBodies (d : Dev) : Dev :=
  { d with
    str := { d.str with active := d.newBodies.foldl (fun l e => Sparse.insert e.1 e.2 l) d.str.active, committing := [] },
    sec := { d.sec with
      regionDigest := d.str.committing.foldl (fun l r => Sparse.insert r (imageDigest d.str.cfgSram) l) d.sec.regionDigest } }

/-- The regions rs show as active, with the image that they come from. -/
def Dev.showRegions (d : Dev) (rs : List Nat) (img : Word) : Dev :=
  rs.foldl (fun d r => (d.setBit Reg.STR_ACTIVE r).setReg (Reg.STR_REGION_IMG r) img) d

/-- What a commit's end shows in STR of the commit itself, before the event lines tell. -/
def Dev.countCommit (d : Dev) : Dev :=
  ((d.incSat Fld.STR_ACTIVE.COMMITS).setTime3 Reg.STR_CMT_TIME_LO d.tc).put Fld.STR_STATE.RSTR 0

theorem Dev.showRegions_str (d : Dev) (rs : List Nat) (img : Word) : (d.showRegions rs img).str = d.str := by
  unfold Dev.showRegions
  induction rs generalizing d with
  | nil => rfl
  | cons r rs ih => exact ih _

/-- Of STR_ACTIVE just the bits of the regions shown change. -/
theorem Dev.bitAt_showRegions {rs : List Nat} (hrs : ∀ r ∈ rs, r < 8) (img : Word) (d : Dev) {j : Nat} (hj : j < 32) :
    (d.showRegions rs img).bitAt Reg.STR_ACTIVE j = (decide (j ∈ rs) || d.bitAt Reg.STR_ACTIVE j) := by
  unfold Dev.showRegions
  induction rs generalizing d with
  | nil => simp
  | cons r rs ih =>
    have hr : r < 8 := hrs r (List.mem_cons_self ..)
    have hne : Reg.STR_ACTIVE ≠ Reg.STR_REGION_IMG r := by unfold Reg.STR_ACTIVE Reg.STR_REGION_IMG; omega
    rw [List.foldl_cons, ih fun q hq => hrs q (List.mem_cons_of_mem _ hq), Dev.bitAt, Dev.reg_setReg_ne _ _ hne]
    change (decide (j ∈ rs) || (d.setBit Reg.STR_ACTIVE r).bitAt Reg.STR_ACTIVE j) = _
    by_cases hjr : j = r
    · subst hjr
      simp [Dev.bitAt_setBit_self d _ _ hj]
    · rw [Dev.bitAt_setBit_ne _ _ _ _ _ (.inr hjr)]
      simp [hjr]

theorem Dev.showRegions_commits {rs : List Nat} (hrs : ∀ r ∈ rs, r < 8) (img : Word) (d : Dev) :
    (d.showRegions rs img).get Fld.STR_ACTIVE.COMMITS = d.get Fld.STR_ACTIVE.COMMITS := by
  refine Dev.get_of_bits _ (Fld.ok_of _ rfl rfl) fun j hj hlo _ => ?_
  have hlow : 16 ≤ j := hlo
  have hno : j ∉ rs := fun hm => absurd (hrs j hm) (by omega)
  refine (Dev.bitAt_showRegions hrs img d hj).trans ?_
  rw [decide_eq_false hno, Bool.false_or]
  rfl

/-- What counting a commit leaves of STR_ACTIVE is what the count of commits leaves. -/
theorem Dev.countCommit_active (d : Dev) : d.countCommit.reg Reg.STR_ACTIVE = (d.incSat Fld.STR_ACTIVE.COMMITS).reg Reg.STR_ACTIVE := by
  rw [Dev.countCommit, Dev.reg_put_ne _ _ _ (by decide), Dev.setTime3, Dev.reg_setReg_ne _ _ (by decide),
    Dev.reg_setReg_ne _ _ (by decide), Dev.reg_setReg_ne _ _ (by decide)]

theorem Dev.countCommit_commits (d : Dev) :
    d.countCommit.get Fld.STR_ACTIVE.COMMITS = min (d.get Fld.STR_ACTIVE.COMMITS + 1) (2 ^ 16 - 1) := by
  have hreg : d.countCommit.get Fld.STR_ACTIVE.COMMITS = (d.incSat Fld.STR_ACTIVE.COMMITS).get Fld.STR_ACTIVE.COMMITS :=
    congrArg (getBits · 31 16) d.countCommit_active
  rw [hreg, Dev.get_incSat_self _ _ _ (Fld.ok_of _ rfl rfl)]
  rfl

theorem Dev.countCommit_regionActive (d : Dev) {r : Nat} (hr : r < 8) : d.countCommit.regionActive r = d.regionActive r := by
  rw [Dev.regionActive, Dev.bitAt, d.countCommit_active]
  exact Dev.bitAt_put_beside d Fld.STR_ACTIVE.COMMITS _ (Fld.ok_of _ rfl rfl) (by omega) (.inl (show r < 16 by omega))

theorem Dev.countCommit_restructuring (d : Dev) {r : Nat} (hr : r < 8) : d.countCommit.restructuring r = false := by
  have hin : Fld.STR_STATE.RSTR.lo ≤ 24 + r ∧ 24 + r ≤ Fld.STR_STATE.RSTR.hi := ⟨Nat.le_add_right .., show 24 + r ≤ 31 by omega⟩
  unfold Dev.restructuring Dev.countCommit Dev.bitAt
  rw [show Reg.STR_STATE = Fld.STR_STATE.RSTR.addr from rfl, Dev.reg_put_self, getLsbD_setBits (by decide), if_pos hin]
  simp

/-- The event lines tell of the end of maintenance, which touches PRB alone. -/
def Dev.leaveMaintenance (d : Dev) : Dev :=
  ((d.incSat Fld.STR_ACTIVE.COMMITS).setTime3 Reg.STR_CMT_TIME_LO d.tc).withLines (fun d => d.put Fld.STR_STATE.RSTR 0)

theorem Dev.leaveMaintenance_keepsStr (d : Dev) : KeepsStr d.countCommit d.leaveMaintenance :=
  KeepsStr.withLines (f := fun d => d.put Fld.STR_STATE.RSTR 0) (.refl _)

/-- The device as the commit is over in STR, before programs, queue maps and presets take effect. -/
def Dev.committed (d : Dev) : Dev :=
  (d.takeBodies.showRegions d.str.committing (BitVec.ofNat 32 (imgId d.str.cfgSram))).leaveMaintenance.put Fld.STR_STATE.COMMIT 0

/-- What the end of a commit shows in STR. -/
theorem Dev.committed_shows (d : Dev) (hrs : ∀ r ∈ d.str.committing, r < 8) :
    d.committed.str = d.takeBodies.str ∧ d.committed.get Fld.STR_STATE.COMMIT = 0 ∧
      (∀ r, r < 8 → d.committed.restructuring r = false) ∧
      (∀ r, r < 8 → (d.committed.regionActive r = true ↔ r ∈ d.str.committing ∨ d.regionActive r = true)) ∧
      d.committed.get Fld.STR_ACTIVE.COMMITS = min (d.get Fld.STR_ACTIVE.COMMITS + 1) (2 ^ 16 - 1) := by
  have hkeep := (d.takeBodies.showRegions d.str.committing (BitVec.ofNat 32 (imgId d.str.cfgSram))).leaveMaintenance_keepsStr
  refine ⟨?_, Dev.get_put_self _ _ _ (Fld.ok_of _ rfl rfl), fun r hr => ?_, fun r hr => ?_, ?_⟩
  · exact hkeep.str.trans (Dev.showRegions_str ..)
  · rw [← Dev.countCommit_restructuring _ hr]
    exact (Dev.bitAt_put_beside _ Fld.STR_STATE.COMMIT 0 (Fld.ok_of _ rfl rfl) (by omega) (.inr (show 11 < 24 + r by omega))).trans
      (RegsOut.bitAt hkeep.regs _ _ (by decide))
  · have hact : d.committed.regionActive r = _ := (Dev.bitAt_put_ne _ Fld.STR_STATE.COMMIT 0 Reg.STR_ACTIVE r (by decide)).trans
      ((RegsOut.bitAt hkeep.regs Reg.STR_ACTIVE r (by decide)).trans (Dev.countCommit_regionActive _ hr))
    rw [hact, Dev.regionActive, Dev.bitAt_showRegions hrs _ _ (by omega)]
    simp [Dev.regionActive]
    rfl
  · rw [Dev.committed, Dev.get_put_elsewhere _ _ (by decide), RegsOut.get hkeep.regs _ (by decide), Dev.countCommit_commits,
      Dev.showRegions_commits hrs]
    rfl

/-- What follows the end of a commit in STR leaves STR alone but for its interrupt. -/
theorem State.commitEnds_keepsStr {s : State} (hc : s.dev.get Fld.STR_STATE.COMMIT = 2)
    (hp : ∀ e ∈ s.dev.newBodies, ∀ p ∈ e.2.presets, KeepsStr.PresetOutside p) :
    ∃ e, KeepsStr s.dev.committed e ∧ KeepsStr (e.setInt intSTR 2) s.commitEnds.dev := by
  unfold State.commitEnds
  extract_lets d0 rs img bodies str sec d1 d2 d3 d4 d5 s1 s2 s3 s4
  have h4 : KeepsStr s.dev.committed d4 := .refl _
  have h5 : KeepsStr s.dev.committed d5 := h4.foldl fun _ h => .ite (h.installPrograms _) h
  have h1 : KeepsStr s.dev.committed s1.dev := KeepsStr.installMaps (s := { s with dev := d5 }) h5 _
  have hl : ∀ l ∈ bodies.map (fun e => e.2.presets), ∀ p ∈ l, KeepsStr.PresetOutside p := by
    intro l hl p hpl
    obtain ⟨x, hx, rfl⟩ := List.mem_map.mp hl
    exact hp x hx p hpl
  have h2 : KeepsStr s.dev.committed s2.dev := h1.applyPresets _ _ hl
  have h6 : KeepsStr s.dev.committed s4.dev := (h2.foldlState fun _ h => h.startRegion _ _).switchChanged _
  refine ⟨s4.dev.consCheck.regrant, h6.consCheck.regrant, ?_⟩
  rw [if_neg (not_not.mpr hc)]
  exact State.runWaiting_keepsStr { s4 with dev := s4.dev.consCheck.regrant.setInt intSTR 2 }

/-- What the end of a commit leaves in STR. -/
theorem State.commitEnds_shows {s : State} (hc : s.dev.get Fld.STR_STATE.COMMIT = 2)
    (hp : ∀ e ∈ s.dev.newBodies, ∀ p ∈ e.2.presets, KeepsStr.PresetOutside p) :
    s.commitEnds.dev.str = s.dev.committed.str ∧ s.commitEnds.dev.bitAt Reg.STR_INT_STATUS 2 = true ∧
      RegsOut (fun a => a / 0x100000 = 1 ∧ a ≠ Reg.STR_INT_STATUS) s.dev.committed s.commitEnds.dev := by
  obtain ⟨e, he, ht⟩ := State.commitEnds_keepsStr hc hp
  refine ⟨?_, ?_, fun a ⟨ha, hne⟩ => ?_⟩
  · rw [ht.str, Dev.setInt_str, he.str]
  · rw [RegsOut.bitAt ht.regs _ _ (by decide)]
    exact Dev.bitAt_setInt_self _ intSTR (by decide)
  · rw [ht.regs a ha, Dev.reg_setInt_ne _ _ _ hne, he.regs a ha]

/-- Each region of the commit has its body of the staged image. -/
theorem Dev.takeBodies_body {d : Dev} (hd : ((d.stagedBodies d.str.committing).map (·.1)).Nodup) {x : Nat × RegionBody}
    (hx : x ∈ d.newBodies) : d.takeBodies.body x.1 = some x.2 := by
  have hkeys : (d.newBodies.map (·.1)).Nodup := by
    rw [Dev.newBodies, List.map_map]
    exact hd
  show ((d.newBodies.foldl (fun l e => Sparse.insert e.1 e.2 l) d.str.active).find? (fun e => e.1 == x.1)).map (·.2) = _
  rw [Sparse.find?_foldl_insert_mem _ _ hkeys hx]
  rfl

/-- A region outside the commit keeps its body. -/
theorem Dev.takeBodies_body_ne {d : Dev} {r : Nat} (hr : r ∉ d.str.committing) : d.takeBodies.body r = d.body r := by
  have hno : r ∉ d.newBodies.map (·.1) := by
    intro hm
    rw [Dev.newBodies, List.map_map] at hm
    obtain ⟨y, hy, rfl⟩ := List.mem_map.mp hm
    exact hr (of_decide_eq_true (List.mem_filter.mp hy).2)
  show ((d.newBodies.foldl (fun l e => Sparse.insert e.1 e.2 l) d.str.active).find? (fun e => e.1 == r)).map (·.2) = _
  rw [Sparse.find?_foldl_insert_ne _ _ _ hno]
  rfl

theorem exec_commitEnd {s : State} (h : Running s) : exec .commitEnd s = .next s.commitEnds := runState_alive (f := State.commitEnds) h

theorem State.commitEnds_idle {s : State} (hc : s.dev.get Fld.STR_STATE.COMMIT ≠ 2) : s.commitEnds = s := by
  unfold State.commitEnds
  exact if_pos hc

/-! ### The checks, a late end, and GLOBAL (R75, R76, R80) -/

theorem exec_commitChecksDone {s : State} (h : Running s) : exec .commitChecksDone s = .next s.commitChecked :=
  runState_alive (f := State.commitChecked) h

theorem exec_commitLate {s : State} (h : Running s) (hc : s.dev.get Fld.STR_STATE.COMMIT = 2) :
    exec .commitLate s = .next { s with dev := s.dev.raise 34 } := by
  rw [show s.dev.raise 34 = (fun d : Dev => if d.get Fld.STR_STATE.COMMIT = 2 then d.raise 34 else d) s.dev from (if_pos hc).symm]
  exact runDev_alive h

theorem exec_globalCommitReset {s : State} (h : Running s) : exec .globalCommitReset s = .next s.globalReset :=
  runState_alive (f := State.globalReset) h

theorem exec_globalRecommit {s : State} (h : Running s) : exec .globalRecommit s = .next s.globalAgain :=
  runState_alive (f := State.globalAgain) h

/-- The checks of a commit end: refused, waiting for the chip reset, or in maintenance. -/
theorem State.commitChecked_eq {s : State} (hc : s.dev.get Fld.STR_STATE.COMMIT = 1) :
    s.commitChecked = match s.dev.commitBad with
      | some (c, o) => s.refuseCommit c o
      | none => if 0 ∈ s.dev.str.committing then { s with dev := s.dev.put Fld.STR_STATE.COMMIT 3 } else s.enterMaintenance := by
  unfold State.commitChecked
  simp only [hc, ne_eq, not_true_eq_false, if_false, List.contains_iff_mem] <;> rfl

/-- The device of a GLOBAL commit after trusted boot: all eight regions are those of the commit. -/
def Dev.recommitting (d : Dev) : Dev := { d with str := { d.str with globalPending := false, committing := List.range 8 } }

/-- The device of a GLOBAL commit that is given up after trusted boot: every region stays empty. -/
def Dev.givenUp (d : Dev) : Dev := { d with str := { d.str with globalPending := false, committing := [] } }

/-- A GLOBAL commit goes on after trusted boot: the image fails its verification, the commit is refused, or all regions are in
maintenance. -/
theorem State.globalAgain_eq {s : State} (hp : s.dev.str.globalPending = true) (hs : 2 ≤ s.dev.stage) :
    s.globalAgain = match s.dev.recommitting.verifyImage s.dev.str.cfgSram.length with
      | some (c, o) => { s with dev := s.dev.givenUp.loadFail c o }
      | none => match s.dev.recommitting.commitBad with
        | some (c, o) => State.refuseCommit c o { s with dev := s.dev.recommitting }
        | none => State.enterMaintenance { s with dev := s.dev.recommitting } := by
  have hgo : (!s.dev.str.globalPending || decide (s.dev.stage < 2)) = false := by simp [hp, Nat.not_lt.mpr hs]
  unfold State.globalAgain
  simp only [hgo, Bool.false_eq_true, if_false] <;> rfl

/-! ### O20 -/

/-- The checks of a running commit end as the obligation says. -/
theorem State.commitChecked_settles {s : State} (hc : s.dev.get Fld.STR_STATE.COMMIT = 1) :
    match s.dev.commitBad with
    | some (code, detail) => CommitRefused code detail s s.commitChecked
    | none => if 0 ∈ s.dev.str.committing
      then s.commitChecked.dev.get Fld.STR_STATE.COMMIT = 3 ∧ s.commitChecked.dev.str = s.dev.str ∧
        Frame [Reg.STR_STATE] s s.commitChecked
      else InMaintenance s.dev.str.committing s s.commitChecked := by
  rw [State.commitChecked_eq hc]
  match s.dev.commitBad with
  | some (code, detail) => exact s.refuseCommit_refuses code detail
  | none =>
    by_cases h0 : 0 ∈ s.dev.str.committing
    · simp only [if_pos h0]
      exact ⟨Dev.get_put_self _ _ _ (Fld.ok_of _ rfl rfl), rfl, .ofDev ((RegsKept.refl _ s.dev).put _ _)⟩
    · simp only [if_neg h0]
      exact s.enterMaintenance_enters

/-- The end of a running commit, as the obligation says. -/
theorem State.commitEnds_settles {s : State} (hc : s.dev.get Fld.STR_STATE.COMMIT = 2) (hrs : ∀ r ∈ s.dev.str.committing, r < 8)
    (hd : ((s.dev.stagedBodies s.dev.str.committing).map (·.1)).Nodup)
    (hp : ∀ e ∈ s.dev.stagedBodies s.dev.str.committing, ∀ w, ∀ p ∈ (e.2.body w).presets,
      p.addr / 0x100000 ≠ 1 ∧ p.addr / 0x100000 ≠ 16) :
    s.commitEnds.dev.get Fld.STR_STATE.COMMIT = 0 ∧ s.commitEnds.dev.str.committing = [] ∧
      (∀ r, r < 8 → s.commitEnds.dev.restructuring r = false) ∧
      (∀ r, r < 8 → (s.commitEnds.dev.regionActive r = true ↔ r ∈ s.dev.str.committing ∨ s.dev.regionActive r = true)) ∧
      (∀ e ∈ s.dev.stagedBodies s.dev.str.committing,
        s.commitEnds.dev.body e.1 = some (e.2.body (BitVec.ofNat 32 (imgId s.dev.str.cfgSram)))) ∧
      (∀ r, r ∉ s.dev.str.committing → s.commitEnds.dev.body r = s.dev.body r) ∧
      s.commitEnds.dev.get Fld.STR_ACTIVE.COMMITS = min (s.dev.get Fld.STR_ACTIVE.COMMITS + 1) (2 ^ 16 - 1) ∧
      s.commitEnds.dev.bitAt Reg.STR_INT_STATUS 2 = true := by
  have hpresets : ∀ e ∈ s.dev.newBodies, ∀ p ∈ e.2.presets, KeepsStr.PresetOutside p := by
    intro e he p hpe
    obtain ⟨x, hx, rfl⟩ := List.mem_map.mp he
    exact hp x hx _ p hpe
  obtain ⟨hstr, hint, hregs⟩ := State.commitEnds_shows hc hpresets
  obtain ⟨htake, hcommit, hrestr, hactive, hcount⟩ := s.dev.committed_shows hrs
  have hbody r : s.commitEnds.dev.body r = s.dev.takeBodies.body r := by rw [Dev.body, hstr, htake, Dev.body]
  refine ⟨?_, ?_, fun r hr => ?_, fun r hr => ?_, fun e he => ?_, fun r hr => ?_, ?_, hint⟩
  · rw [RegsOut.get hregs _ (by decide), hcommit]
  · rw [hstr, htake]
    rfl
  · rw [← hrestr r hr]
    exact RegsOut.bitAt hregs _ _ (by decide)
  · rw [← hactive r hr, Dev.regionActive, RegsOut.bitAt hregs _ _ (by decide), Dev.regionActive]
  · exact (hbody e.1).trans (Dev.takeBodies_body hd (List.mem_map.mpr ⟨e, he, rfl⟩))
  · rw [hbody, Dev.takeBodies_body_ne hr]
  · rw [RegsOut.get hregs _ (by decide), hcount]

/-- A GLOBAL commit goes on after trusted boot as the obligation says. -/
theorem State.globalAgain_settles {s : State} (hp : s.dev.str.globalPending = true) (hs : 2 ≤ s.dev.stage) :
    match s.dev.recommitting.verifyImage s.dev.str.cfgSram.length, s.dev.recommitting.commitBad with
    | some _, _ => s.globalAgain.dev.get Fld.STR_STATE.STAGE = 4 ∧ s.globalAgain.dev.str.active = s.dev.str.active ∧
        s.globalAgain.dev.str.committing = [] ∧ SameMemory s s.globalAgain
    | none, some (code, detail) => CommitRefused code detail s s.globalAgain
    | none, none => InMaintenance (List.range 8) s s.globalAgain := by
  rw [State.globalAgain_eq hp hs]
  match s.dev.recommitting.verifyImage s.dev.str.cfgSram.length, s.dev.recommitting.commitBad with
  | some (code, detail), _ =>
    obtain ⟨hstage, -, -, hstr, -⟩ := s.dev.givenUp.loadFail_shows code detail
    have hactive : (s.dev.givenUp.loadFail code detail).str.active = s.dev.str.active := by rw [hstr]; rfl
    have hover : (s.dev.givenUp.loadFail code detail).str.committing = [] := by rw [hstr]; rfl
    exact ⟨hstage, hactive, hover, rfl, rfl, rfl⟩
  | none, some (code, detail) => exact State.refuseCommit_refuses { s with dev := s.dev.recommitting } code detail
  | none, none => exact State.enterMaintenance_enters { s with dev := s.dev.recommitting }

/-- Settles O20: each command by the case of what stands in STR; what a refusal, maintenance and the end of a commit run besides leaves
STR alone. -/
theorem commitsRunThroughTheirPhases : Obligations.CommitsRunThroughTheirPhases := by
  refine ⟨fun s req mask hw hc hg => ?_, fun s req key mask hw hk => ?_, fun s req mask hw hc => ?_,
    fun s hrun hc => ⟨_, exec_commitChecksDone hrun, State.commitChecked_settles hc⟩, fun s hrun hc => ?_,
    fun s hrun hc hrs hd hp => ⟨_, exec_commitEnd hrun, State.commitEnds_settles hc hrs hd hp⟩, fun s hrun hc => ?_,
    fun s hrun hc => ?_, fun s hrun hp hs => ⟨_, exec_globalRecommit hrun, State.globalAgain_settles hp hs⟩⟩
  · refine ⟨_, exec_commit hw 0x5A17 mask, ?_⟩
    rw [show (0x5A17 : BitVec 16).toNat = 0x5A17 from rfl, Dev.commitStart_checks hc hg]
    exact ⟨Dev.get_put_self _ _ _ (Fld.ok_of _ rfl rfl), fun r hr => Dev.checking_committing _ mask hr, rfl,
      .ofDev (((RegsKept.refl _ s.dev).same).put _ _)⟩
  · have hkey : key.toNat ≠ 0x5A17 := fun h => hk (BitVec.eq_of_toNat_eq h)
    rw [exec_commit hw, Dev.commitStart_wrongKey _ hkey]
  · refine ⟨_, exec_commit hw 0x5A17 mask, ?_⟩
    rw [show (0x5A17 : BitVec 16).toNat = 0x5A17 from rfl, Dev.commitStart_busy hc]
    exact ⟨Dev.err_strFail .., Dev.strFail_arising .., Dev.strFail_str .., .ofDev (s.dev.strFail_regsKept _ _ _ _)⟩
  · rw [exec_commitEnd hrun, State.commitEnds_idle hc]
  · exact ⟨_, exec_commitLate hrun hc, Dev.raise_arises _ _, Dev.raise_str .., .ofDev ((RegsKept.refl _ s.dev).raise _)⟩
  · refine ⟨_, exec_globalCommitReset hrun, ?_⟩
    rw [State.globalReset, if_neg (not_not.mpr hc)]
    exact ⟨rfl, rfl, Dev.get_put_self _ _ _ (Fld.ok_of _ rfl rfl), rfl, rfl, rfl⟩

end Sys2Proof.Machine
end

section
/-! What the receivers of the line ports (R117, R135 to R140) leave of the converters: the registers of the converters, the lock of the
synthesiser and the cause of LNx.01. -/

namespace Sys2Proof.Machine

/-- A key beyond the line ports, or in a block from the DSP's registers on: no register of the converters is there. -/
def OffConverters (a : Nat) : Prop := 0x400000 ≤ a ∨ 0x1000 ≤ a % 0x100000

theorem OffConverters.dsp {b : Nat} (h : Nat.ble 0x1000 (b % 0x100000) = true) (x : Nat) : OffConverters (b + 0x100000 * x) := by
  have := Nat.le_of_ble_eq_true h
  exact .inr (by omega)

theorem OffConverters.above {b : Nat} (h : Nat.ble 0x400000 b = true) (o : Nat) : OffConverters (b + o) :=
  .inl (Nat.le_add_right_of_le (Nat.le_of_ble_eq_true h))

theorem Dev.ln_setLn (d : Dev) (x y : Nat) (l : LineState) : (d.setLn x l).ln y = if y = x then l else d.ln y :=
  Sparse.get_put _ _ _ _ _ _ fun _ => rfl

/-- e has the converters' registers of d, and of each port the lock of its synthesiser and whether LNx.01 is present. -/
structure KeepsConverters (d e : Dev) : Prop where
  regs : RegsOut (¬ OffConverters ·) d e
  locked : ∀ x, (e.ln x).locked = (d.ln x).locked
  unlocked : ∀ x, Present (fLN x 1) e ↔ Present (fLN x 1) d

namespace KeepsConverters

/-! ### Shared operations -/

theorem refl (d : Dev) : KeepsConverters d d := ⟨.refl _ d, fun _ => rfl, fun _ => .rfl⟩

theorem ite {d f g : Dev} {c : Prop} {_ : Decidable c} (hf : KeepsConverters d f) (hg : KeepsConverters d g) :
    KeepsConverters d (if c then f else g) := by
  split <;> assumption

theorem forUpTo {d e : Dev} {n : Nat} {f : Dev → Nat → Dev} (h : KeepsConverters d e)
    (hf : ∀ {e} i, KeepsConverters d e → KeepsConverters d (f e i)) : KeepsConverters d (Dev.forUpTo n f e) := by
  unfold Dev.forUpTo
  induction List.range n generalizing e with
  | nil => exact h
  | cons i l ih => exact ih (hf i h)

section
variable {d e : Dev} (h : KeepsConverters d e)
include h

/-- A change of what is no register, line port or cause. -/
theorem same {f : Dev} (hr : f.regs = e.regs := by rfl) (hl : f.line = e.line := by rfl) (hc : f.causes = e.causes := by rfl) :
    KeepsConverters d f := by
  refine ⟨h.regs.same hr, fun x => ?_, fun x => ?_⟩
  · rw [← h.locked x, Dev.ln, hl, Dev.ln]
  · rw [← h.unlocked x, Present, hc]

theorem put (f : Fld) (v : Nat) (k : OffConverters f.addr) : KeepsConverters d (e.put f v) :=
  ⟨h.regs.put f v fun _ hb hbf => hb (hbf ▸ k), h.locked, h.unlocked⟩

theorem setInt (b : IntBank) (i : Nat) (k : OffConverters b.status) : KeepsConverters d (e.setInt b i) := by
  refine ⟨h.regs.setInt b i fun _ ha hab => ha (hab ▸ k), fun x => ?_, fun x => ?_⟩
  · rw [← h.locked x, Dev.ln, Dev.setInt_line, Dev.ln]
  · rw [← h.unlocked x, Present, Dev.setInt_causes]

theorem setLn (y : Nat) (l : LineState) (hl : l.locked = (e.ln y).locked) : KeepsConverters d (e.setLn y l) := by
  refine ⟨h.regs, fun x => ?_, h.unlocked⟩
  rw [← h.locked x, Dev.ln_setLn]
  split
  · next hx => rw [hx, hl]
  · rfl

theorem raise (f : Nat) : KeepsConverters d (e.raise f) := by
  refine ⟨h.regs.raise f, fun x => ?_, fun x => ?_⟩
  · rw [← h.locked x, Dev.ln, Dev.raise_line, Dev.ln]
  · rw [← h.unlocked x, Present, Dev.raise_causes]

/-- A cause whose local id is not 1 (R10). -/
theorem causeIs (f : Nat) (b : Bool) (k : f % 32 ≠ 1) : KeepsConverters d (e.causeIs f b) := by
  refine ⟨h.regs.causeIs f b, fun x => ?_, fun x => ?_⟩
  · rw [← h.locked x, Dev.ln, Dev.causeIs_line, Dev.ln]
  · have hne : fLN x 1 ≠ f := by unfold fLN; omega
    rw [← h.unlocked x, Present, Dev.mem_causes_causeIs]
    simp [hne]

/-! ### Reference candidates (R425 to R429) -/

theorem refreshRefs : KeepsConverters d e.refreshRefs :=
  (h.forUpTo fun _ h => (h.put _ _ (.above rfl _)).put _ _ (.above rfl _)).causeIs _ _ (by decide)

theorem requalify (i : Nat) : KeepsConverters d (e.requalify i) := by
  have hkey : OffConverters (Reg.TIM_REF_STATUS i) := .above rfl _
  have hq := h.put (Fld.TIM_REF_STATUS.QUAL i) 1 hkey
  have hn := ((h.put (Fld.TIM_REF_STATUS.QUAL i) 0 hkey).put (Fld.TIM_REF_STATUS.WTR_RUN i) 0 hkey).put
    (Fld.TIM_REF_STATUS.WTR_LEFT i) 0 hkey
  exact .ite (.ite hq ((hq.same.put _ _ hkey).put _ _ hkey))
    (.ite (.ite ((hn.raise _).put _ _ (.above (b := Reg.TIM_SW_CNT) rfl 0)) hn) h)

theorem refInactive (i : Nat) : KeepsConverters d (e.refInactive i) := by
  have hkey : OffConverters (Reg.TIM_REF_STATUS i) := .above rfl _
  have hoff := ((h.put (Fld.TIM_REF_STATUS.ACT i) 0 hkey).put (Fld.TIM_REF_STATUS.FREQ_OK i) 0 hkey).put (Fld.TIM_REF_FO.FO i) 0
    (.above rfl _)
  exact (hoff.same.requalify i).refreshRefs

theorem offerRef (i hz : Nat) : KeepsConverters d (e.offerRef i hz) := h.put _ _ (.above rfl _)

theorem withdrawRef (i : Nat) : KeepsConverters d (e.withdrawRef i) := .ite ((h.offerRef i 0).refInactive i) (h.offerRef i 0)

/-! ### Receivers (R117, R135 to R140) -/

theorem notLocked (x : Nat) : KeepsConverters d (e.notLocked x) := h.causeIs _ _ (by unfold fLN; omega)

theorem foCause (x : Nat) : KeepsConverters d (e.foCause x) := h.causeIs _ _ (by unfold fLN; omega)

theorem uncap (x : Nat) : KeepsConverters d (e.uncap x) := h.same.setLn _ _ rfl

theorem clearGuard (x : Nat) : KeepsConverters d (e.clearGuard x) :=
  (((h.put _ _ (.dsp rfl x)).put _ _ (.dsp rfl x)).causeIs _ _ (by unfold fLN; omega)).setLn _ _ rfl

theorem enterRx (x st : Nat) : KeepsConverters d (e.enterRx x st) := by
  unfold Dev.enterRx
  extract_lets old d1 d2 d3 d4 d5
  have hint : OffConverters (intLN x).status := .dsp rfl x
  have h1 : KeepsConverters d d1 := h.put _ _ (.dsp rfl x)
  have h2 : KeepsConverters d d2 := .ite h1 (h1.uncap x)
  have h3 : KeepsConverters d d3 := .ite ((h2.setInt _ 1 hint).same.withdrawRef _) h2
  have h4 : KeepsConverters d d4 := .ite h3 (h3.clearGuard x)
  have h5 : KeepsConverters d d5 := .ite (((h4.put _ _ (.dsp rfl x)).setInt _ 0 hint).same.offerRef _ _) h4
  exact ((h5.causeIs _ _ (by unfold fLN; omega)).notLocked x).foCause x

theorem rxCheck (x : Nat) : KeepsConverters d (e.rxCheck x) :=
  .ite (.ite (h.notLocked x) (h.enterRx x 0)) (.ite (h.enterRx x 1) (h.notLocked x))

theorem rxCheckAll : KeepsConverters d e.rxCheckAll := (h.rxCheck 0).rxCheck 1

end
end KeepsConverters
end Sys2Proof.Machine
end

section
/-! The converters of a line port (R89 to R94, 03_line_converters.md): what each operation makes of their states, and what it leaves of
what the states follow from. -/

namespace Sys2Proof.Machine

/-! ### What the states follow from -/

/-- STATE of converter c of port x. -/
def Fld.cnvState (x c : Nat) : Fld := ⟨Reg.LNx_CNV_STATE x, 4 * c + 1, 4 * c⟩

theorem Fld.cnvState_ok (x : Nat) {c : Nat} (hc : c < 8) : (Fld.cnvState x c).ok := by
  unfold Fld.ok Fld.cnvState
  dsimp only
  omega

/-- The keys of the regions with a structure and of the rate and the enables of port x. -/
def controlKeys (x : Nat) : List Nat := [Reg.STR_ACTIVE, Reg.LNx_CNV_RATE x, Reg.LNx_CNV_EN x]

/-- None of the controls stands in the registers of the states or of the overranges. -/
theorem ne_of_mem_controlKeys {x a : Nat} (h : a ∈ controlKeys x) : a ≠ Reg.LNx_CNV_STATE x ∧ a ≠ Reg.LNx_OVR_STATUS x := by
  simp only [controlKeys, List.mem_cons, List.not_mem_nil, or_false, Reg.STR_ACTIVE, Reg.LNx_CNV_RATE, Reg.LNx_CNV_EN] at h
  unfold Reg.LNx_CNV_STATE Reg.LNx_OVR_STATUS
  omega

/-- e has what the states of port x's converters follow from as it is in d. -/
structure KeepsControls (x : Nat) (d e : Dev) : Prop where
  regs : RegsOut (· ∈ controlKeys x) d e
  degraded : ∀ c, c < 8 → e.degraded x c = d.degraded x c
  locked : (e.ln x).locked = (d.ln x).locked
  unlocked : Present (fLN x 1) e ↔ Present (fLN x 1) d

namespace KeepsControls

variable {x : Nat} {d e f : Dev}

theorem refl (x : Nat) (d : Dev) : KeepsControls x d d := ⟨.refl _ d, fun _ _ => rfl, rfl, .rfl⟩

theorem trans (h : KeepsControls x d e) (k : KeepsControls x e f) : KeepsControls x d f :=
  ⟨h.regs.trans k.regs, fun c hc => (k.degraded c hc).trans (h.degraded c hc), k.locked.trans h.locked, k.unlocked.trans h.unlocked⟩

theorem regionActive (h : KeepsControls x d e) (r : Nat) : e.regionActive r = d.regionActive r :=
  h.regs.bitAt _ _ (by simp [controlKeys])

theorem lnM (h : KeepsControls x d e) : e.lnM x = d.lnM x := h.regs.get _ (by simp [controlKeys, Fld.LNx_CNV_RATE.M])

theorem cnvEn (h : KeepsControls x d e) (c : Nat) : e.cnvEn x c = d.cnvEn x c := h.regs.bitAt _ _ (by simp [controlKeys])

end KeepsControls

/-- e has the states of port x's converters as well. -/
structure KeepsStates (x : Nat) (d e : Dev) : Prop where
  controls : KeepsControls x d e
  states : ∀ c, c < 8 → e.cnvState x c = d.cnvState x c

namespace KeepsStates

variable {x : Nat} {d e f : Dev}

theorem refl (x : Nat) (d : Dev) : KeepsStates x d d := ⟨.refl x d, fun _ _ => rfl⟩

theorem trans (h : KeepsStates x d e) (k : KeepsStates x e f) : KeepsStates x d f :=
  ⟨h.controls.trans k.controls, fun c hc => (k.states c hc).trans (h.states c hc)⟩

theorem ite {c : Prop} {_ : Decidable c} (he : KeepsStates x d e) (hf : KeepsStates x d f) : KeepsStates x d (if c then e else f) := by
  split <;> assumption

/-- The register of the states kept with the controls. -/
theorem of_regs (hr : RegsOut (fun a => a ∈ controlKeys x ∨ a = Reg.LNx_CNV_STATE x) d e) (hl : (e.ln x).locked = (d.ln x).locked)
    (hc : Present (fLN x 1) e ↔ Present (fLN x 1) d) : KeepsStates x d e :=
  ⟨⟨fun a ha => hr a (.inl ha), fun _ _ => hr.bitAt _ _ (.inr rfl), hl, hc⟩, fun c _ => hr.get (Fld.cnvState x c) (.inr rfl)⟩

/-- What the receivers do is not among it. -/
theorem of_keepsConverters (hx : x < 2) (h : KeepsConverters d e) : KeepsStates x d e := by
  refine of_regs (fun a ha => h.regs a ?_) (h.locked x) (h.unlocked x)
  simp only [controlKeys, List.mem_cons, List.not_mem_nil, or_false, Reg.STR_ACTIVE, Reg.LNx_CNV_RATE, Reg.LNx_CNV_EN,
    Reg.LNx_CNV_STATE] at ha
  unfold OffConverters
  omega

theorem setConv (h : KeepsStates x d e) (c : Nat) (v : Converter) : KeepsStates x d (e.setConv x c v) :=
  h.trans (of_regs (.refl _ e) (by rw [Dev.setConv, Dev.ln_setLn, if_pos rfl]) .rfl)

theorem clrOverrange (h : KeepsStates x d e) (c : Nat) : KeepsStates x d (e.clrBit (Reg.LNx_OVR_STATUS x) c) := by
  refine h.trans (of_regs ((RegsOut.refl _ e).clrBit _ c ?_) rfl .rfl)
  rintro a (ha | rfl)
  · exact (ne_of_mem_controlKeys ha).2
  · unfold Reg.LNx_CNV_STATE Reg.LNx_OVR_STATUS
    omega

theorem causeIs (h : KeepsStates x d e) {l : Nat} (hl : l ≠ 1) (b : Bool) : KeepsStates x d (e.causeIs (fLN x l) b) := by
  have hne : fLN x 1 ≠ fLN x l := by unfold fLN; omega
  refine h.trans (of_regs ((RegsOut.refl _ e).causeIs _ b) (by rw [Dev.ln, Dev.causeIs_line, Dev.ln]) ?_)
  rw [Present, Dev.mem_causes_causeIs]
  simp [hne]

theorem ovrCause (h : KeepsStates x d e) : KeepsStates x d (e.ovrCause x) := h.causeIs (by decide) _

end KeepsStates

/-! ### CAL_LAG (R102) -/

theorem Dev.bitAt_putBit_ne (d : Dev) {a i b j : Nat} (v : Bool) (h : b ≠ a ∨ j ≠ i) : (d.putBit a i v).bitAt b j = d.bitAt b j := by
  cases v
  · exact Dev.bitAt_clrBit_ne d a i b j h
  · exact Dev.bitAt_setBit_ne d a i b j h

/-- CAL_LAG stands beside STATE and DEGRADED. -/
theorem KeepsStates.putLag {x : Nat} {d e : Dev} (h : KeepsStates x d e) (i : Nat) (b : Bool) :
    KeepsStates x d (e.putBit (Reg.LNx_CNV_STATE x) (4 * i + 3) b) := by
  refine h.trans ⟨⟨(RegsOut.refl _ e).putBit _ _ b fun a ha => (ne_of_mem_controlKeys ha).1, fun c _ => ?_, ?_, ?_⟩, fun c hc => ?_⟩
  · exact Dev.bitAt_putBit_ne e b (.inr (by omega))
  · rw [Dev.ln, Dev.putBit_line, Dev.ln]
  · rw [Present, Dev.putBit_causes]
  · refine Dev.get_of_bits (Fld.cnvState x c) (Fld.cnvState_ok x hc) fun j _ hlo hhi => Dev.bitAt_putBit_ne e b (.inr ?_)
    have hlow : 4 * c ≤ j := hlo
    have hhigh : j ≤ 4 * c + 1 := hhi
    omega

theorem KeepsStates.lagCheck {x : Nat} {d e : Dev} (h : KeepsStates x d e) : KeepsStates x d (e.lagCheck x) := by
  refine KeepsStates.causeIs ?_ (by decide) _
  unfold Dev.forUpTo
  induction List.range 8 generalizing e with
  | nil => exact h
  | cons i l ih => exact ih (h.putLag i _)

/-- Bringing the lag and the receivers up to date leaves the states. -/
theorem KeepsStates.lagCheck_rxCheckAll {x : Nat} (hx : x < 2) (d : Dev) : KeepsStates x d (d.lagCheck x).rxCheckAll :=
  (KeepsStates.refl x d).lagCheck.trans (.of_keepsConverters hx (KeepsConverters.refl _).rxCheckAll)

/-! ### A converter takes a state (R91) -/

/-- Of d, converter c of port x has taken a state in e, and no other has. -/
structure ConverterTakes (x c st : Nat) (d e : Dev) : Prop where
  controls : KeepsControls x d e
  state : e.cnvState x c = st
  others : ∀ i, i < 8 → i ≠ c → e.cnvState x i = d.cnvState x i

namespace ConverterTakes

variable {x c st : Nat} {d e f : Dev}

theorem stay (x c : Nat) (d : Dev) : ConverterTakes x c (d.cnvState x c) d d := ⟨.refl x d, rfl, fun _ _ _ => rfl⟩

theorem before (h : ConverterTakes x c st e f) (k : KeepsStates x d e) : ConverterTakes x c st d f :=
  ⟨k.controls.trans h.controls, h.state, fun i hi hne => (h.others i hi hne).trans (k.states i hi)⟩

theorem after (h : ConverterTakes x c st d e) (k : KeepsStates x e f) (hc : c < 8) : ConverterTakes x c st d f :=
  ⟨h.controls.trans k.controls, (k.states c hc).trans h.state, fun i hi hne => (k.states i hi).trans (h.others i hi hne)⟩

end ConverterTakes

theorem Dev.put_takes (d : Dev) (x : Nat) {c st : Nat} (hc : c < 8) (hst : st < 4) :
    ConverterTakes x c st d (d.put (Fld.cnvState x c) st) := by
  have hok := Fld.cnvState_ok x hc
  refine ⟨⟨(RegsOut.refl _ d).put _ _ fun a ha => (ne_of_mem_controlKeys ha).1, fun i hi => ?_, rfl, .rfl⟩, ?_, fun i hi hne => ?_⟩
  · refine Dev.bitAt_put_beside d (Fld.cnvState x c) st hok (by omega) ?_
    show 4 * i + 2 < 4 * c ∨ 4 * c + 1 < 4 * i + 2
    omega
  · refine (Dev.get_put_self d (Fld.cnvState x c) st hok).trans ?_
    have hwidth : (Fld.cnvState x c).hi - (Fld.cnvState x c).lo + 1 = 2 := by
      show 4 * c + 1 - 4 * c + 1 = 2
      omega
    rw [hwidth]
    exact Nat.mod_eq_of_lt hst
  · refine Dev.get_put_ne d (Fld.cnvState x c) (Fld.cnvState x i) st hok (Fld.cnvState_ok x hi) (.inr ?_)
    show 4 * c + 1 < 4 * i ∨ 4 * i + 1 < 4 * c
    omega

theorem Dev.setCnvState_takes (d : Dev) (x : Nat) {c st : Nat} (hc : c < 8) (hst : st < 4) :
    ConverterTakes x c st d (d.setCnvState x c st) := by
  unfold Dev.setCnvState
  extract_lets d1 v d2
  have h1 : KeepsStates x d1 d1 := .refl x d1
  have h2 : KeepsStates x d1 d2 := h1.setConv c _
  exact (d.put_takes x hc hst).after (.ite (.ite (h2.clrOverrange c).ovrCause h2) h1) hc

/-- CONVERGING, or RUN where the converter is DEGRADED (Table 3). -/
theorem Dev.converge_takes (d : Dev) (x : Nat) {c : Nat} (hc : c < 8) (factory : Bool) :
    ConverterTakes x c (if d.degraded x c then 3 else 2) d (d.converge x c factory) := by
  unfold Dev.converge
  extract_lets v t w
  split
  · exact (Dev.setCnvState_takes _ x hc (by decide)).before ((KeepsStates.refl x d).setConv c _)
  · exact (Dev.setCnvState_takes _ x hc (by decide)).before ((KeepsStates.refl x d).setConv c _)

/-- Where f has each converter take the state that g gives it, which no other converter's state concerns, the first n have taken theirs. -/
theorem Dev.forUpTo_takes {x : Nat} {f : Dev → Nat → Dev} {g : Dev → Nat → Nat} {d : Dev}
    (hf : ∀ e i, i < 8 → ConverterTakes x i (g e i) e (f e i))
    (hg : ∀ e i, i < 8 → KeepsControls x d e → e.cnvState x i = d.cnvState x i → g e i = g d i) {n : Nat} (hn : n ≤ 8) :
    KeepsControls x d (Dev.forUpTo n f d) ∧
      ∀ c, c < 8 → (Dev.forUpTo n f d).cnvState x c = if c < n then g d c else d.cnvState x c := by
  induction n with
  | zero => exact ⟨.refl x d, fun _ _ => rfl⟩
  | succ n ih =>
    obtain ⟨hkeep, hstates⟩ := ih (by omega)
    have hold : (Dev.forUpTo n f d).cnvState x n = d.cnvState x n := (hstates n (by omega)).trans (if_neg (Nat.lt_irrefl n))
    obtain ⟨hctl, hstate, hothers⟩ := hf (Dev.forUpTo n f d) n (by omega)
    have hlast : Dev.forUpTo (n + 1) f d = f (Dev.forUpTo n f d) n := by simp [Dev.forUpTo, List.range_succ]
    rw [hlast]
    refine ⟨hkeep.trans hctl, fun c hc => ?_⟩
    by_cases hcn : c = n
    · subst hcn
      rw [hstate, if_pos (Nat.lt_succ_self c), hg _ c hc hkeep hold]
    · have hlt : c < n + 1 ↔ c < n := by omega
      rw [hothers c hc hcn, hstates c hc]
      simp only [hlt]

/-- All eight converters in turn. -/
theorem Dev.forAll_takes {x : Nat} {f : Dev → Nat → Dev} {g : Dev → Nat → Nat} {d : Dev}
    (hf : ∀ e i, i < 8 → ConverterTakes x i (g e i) e (f e i))
    (hg : ∀ e i, i < 8 → KeepsControls x d e → e.cnvState x i = d.cnvState x i → g e i = g d i) :
    KeepsControls x d (Dev.forUpTo 8 f d) ∧ ∀ c, c < 8 → (Dev.forUpTo 8 f d).cnvState x c = g d c := by
  obtain ⟨hkeep, hstates⟩ := Dev.forUpTo_takes hf hg (Nat.le_refl 8)
  exact ⟨hkeep, fun c hc => (hstates c hc).trans (if_pos hc)⟩

/-! ### Relocks (R89, R93) -/

/-- Port x's synthesiser counts as not locked. -/
def Dev.dropLock (d : Dev) (x : Nat) : Dev := d.setLn x { d.ln x with locked := false }

/-- Converter c of port x takes LOCKING where it is enabled. -/
def Dev.lockEnabled (x : Nat) (d : Dev) (c : Nat) : Dev := if d.cnvEn x c then d.setCnvState x c 1 else d

theorem Dev.lockEnabled_takes (x : Nat) (d : Dev) {c : Nat} (hc : c < 8) :
    ConverterTakes x c (if d.cnvEn x c then 1 else d.cnvState x c) d (d.lockEnabled x c) := by
  unfold Dev.lockEnabled
  split
  · exact d.setCnvState_takes x hc (by decide)
  · exact .stay x c d

theorem Dev.relock_eq (d : Dev) (x : Nat) : d.relock x =
    ((if d.regionActive (1 + x) then Dev.forUpTo 8 (Dev.lockEnabled x) (d.dropLock x) else d.dropLock x).lagCheck x).rxCheckAll := rfl

/-- A relock leaves no lock, and every enabled converter of an active region in LOCKING. -/
theorem Dev.relock_shows {x : Nat} (hx : x < 2) (d : Dev) : KeepsControls x (d.dropLock x) (d.relock x) ∧
    ∀ c, c < 8 → (d.relock x).cnvState x c = if d.regionActive (1 + x) && d.cnvEn x c then 1 else d.cnvState x c := by
  rw [Dev.relock_eq]
  cases d.regionActive (1 + x) with
  | false =>
    obtain ⟨hkeep, hstates⟩ := KeepsStates.lagCheck_rxCheckAll hx (d.dropLock x)
    exact ⟨hkeep, hstates⟩
  | true =>
    obtain ⟨htail, hlast⟩ := KeepsStates.lagCheck_rxCheckAll hx (Dev.forUpTo 8 (Dev.lockEnabled x) (d.dropLock x))
    obtain ⟨hkeep, hstates⟩ := Dev.forAll_takes (d := d.dropLock x) (fun e _ => e.lockEnabled_takes x)
      fun e c _ hk hold => by simp only [hk.cnvEn, hold]
    exact ⟨hkeep.trans htail, fun c hc => (hlast c hc).trans (hstates c hc)⟩

theorem Dev.locked_relock {x : Nat} (hx : x < 2) (d : Dev) : ((d.relock x).ln x).locked = false := by
  rw [(d.relock_shows hx).1.locked, Dev.dropLock, Dev.ln_setLn, if_pos rfl]

/-! ### Enables (R91, R93) -/

/-- Converter c of port x takes what its enable and its region demand: OFF at once, or LOCKING from OFF. -/
def Dev.followEnable (x : Nat) (d : Dev) (c : Nat) : Dev :=
  if !(d.cnvEn x c && d.regionActive (1 + x)) then (if d.cnvState x c = 0 then d else d.setCnvState x c 0)
  else if d.cnvState x c = 0 then d.setCnvState x c 1 else d

theorem Dev.followEnable_takes (x : Nat) (d : Dev) {c : Nat} (hc : c < 8) :
    ConverterTakes x c (if d.cnvEn x c && d.regionActive (1 + x) then max 1 (d.cnvState x c) else 0) d (d.followEnable x c) := by
  have hstay := ConverterTakes.stay x c d
  unfold Dev.followEnable
  cases d.cnvEn x c && d.regionActive (1 + x) with
  | false =>
    by_cases h0 : d.cnvState x c = 0
    · simpa [h0] using hstay
    · simpa [h0] using d.setCnvState_takes x hc (by decide)
  | true =>
    by_cases h0 : d.cnvState x c = 0
    · simpa [h0] using d.setCnvState_takes x hc (by decide)
    · simpa [h0, Nat.max_eq_right (Nat.pos_of_ne_zero h0)] using hstay

/-- The states follow the enables; whether the synthesiser runs besides, no state shows. -/
theorem Dev.cnvCheck_shows {x : Nat} (hx : x < 2) (d : Dev) : RegsOut (· ∈ controlKeys x) d (d.cnvCheck x) ∧
    ∀ c, c < 8 → (d.cnvCheck x).cnvState x c = if d.cnvEn x c && d.regionActive (1 + x) then max 1 (d.cnvState x c) else 0 := by
  unfold Dev.cnvCheck
  extract_lets on d1 l d2
  obtain ⟨hkeep, hstates⟩ : KeepsControls x d d1 ∧
      ∀ c, c < 8 → d1.cnvState x c = if d.cnvEn x c && d.regionActive (1 + x) then max 1 (d.cnvState x c) else 0 :=
    Dev.forAll_takes (f := Dev.followEnable x) (fun e _ => e.followEnable_takes x)
      fun e c _ hk hold => by simp only [hk.cnvEn, hk.regionActive, hold]
  have hregs : d2.regs = d1.regs := by
    unfold d2
    split <;> rfl
  obtain ⟨htail, hlast⟩ := KeepsStates.lagCheck_rxCheckAll hx d2
  refine ⟨(hkeep.regs.same hregs).trans htail.regs, fun c hc => (hlast c hc).trans (Eq.trans ?_ (hstates c hc))⟩
  exact ((RegsOut.refl (fun _ => True) d1).same hregs).get (Fld.cnvState x c) trivial

/-! ### Lock and its loss (R91, R94) -/

/-- Port x's synthesiser is locked, and LNx.01 has ended. -/
def Dev.gainLock (d : Dev) (x : Nat) : Dev := (d.setLn x { d.ln x with locked := true, lost := false }).causeOff (fLN x 1)

theorem Dev.gainLock_shows (d : Dev) (x : Nat) : ((d.gainLock x).ln x).locked = true ∧ ¬ Present (fLN x 1) (d.gainLock x) := by
  refine ⟨?_, fun h => ((Dev.mem_causes_causeOff ..).mp h).1 rfl⟩
  show ((d.setLn x { d.ln x with locked := true, lost := false }).ln x).locked = true
  rw [Dev.ln_setLn, if_pos rfl]

/-- A converter in LOCKING goes on as it converges, with the synthesiser locked. -/
theorem Dev.converterLocked_takes {x c : Nat} (hx : x < 2) (hc : c < 8) {d : Dev} (h : d.cnvState x c = 1) :
    ConverterTakes x c (if d.degraded x c then 3 else 2) (d.gainLock x) (d.converterLocked x c) := by
  unfold Dev.converterLocked
  rw [if_pos h]
  exact ((d.gainLock x).converge_takes x hc false).after (.lagCheck_rxCheckAll hx _) hc

/-- Port x's synthesiser has lost its lock, and LNx.01 is present. -/
def Dev.loseLock (d : Dev) (x : Nat) : Dev := (d.setLn x { d.ln x with lost := true }).causeOn (fLN x 1)

theorem Dev.loseLock_regsOut (d : Dev) (x : Nat) : RegsOut (fun _ => True) d (d.loseLock x) :=
  RegsOut.causeOn (e := d.setLn x { d.ln x with lost := true }) (.refl _ d) _

theorem Dev.present_loseLock (d : Dev) (x : Nat) : Present (fLN x 1) (d.loseLock x) := (Dev.mem_causes_causeOn ..).mpr (.inl rfl)

/-- The loss of lock of a running synthesiser is a relock. -/
theorem Dev.cnvUnlock_eq {x : Nat} {d : Dev} (hr : d.regionActive (1 + x) = true) (hl : (d.ln x).locked = true)
    (he : (List.range 8).any (fun c => d.cnvEn x c) = true) : d.cnvUnlock x = (d.loseLock x).relock x := by
  have hrun : (d.regionActive (1 + x) && (d.ln x).locked && (List.range 8).any (fun c => d.cnvEn x c)) = true := by
    simp only [hr, hl, he, Bool.and_self]
  exact if_pos hrun

/-! ### O21 -/

theorem exec_cnvRateWrite {s : State} {req : Requester} {x : Port} (h : Writable req (2 + x) s) (m : BitVec 6) :
    exec (.cnvRateWrite req x m) s = .next { s with dev := s.dev.cnvRateWrite x m.toNat } :=
  runWrite_runs (f := Dev.cnvRateWrite x m.toNat) h.1 h.2

theorem exec_cnvEnWrite {s : State} {req : Requester} {x : Port} (h : Writable req (2 + x) s) (en : BitVec 8) :
    exec (.cnvEnWrite req x en) s = .next { s with dev := s.dev.cnvEnWrite x en.toNat } :=
  runWrite_runs (f := Dev.cnvEnWrite x en.toNat) h.1 h.2

theorem exec_converterLocked {s : State} (h : Running s) (x : Port) (c : Fin 8) :
    exec (.converterLocked x c) s = .next { s with dev := s.dev.converterLocked x c } := runDev_alive (f := Dev.converterLocked x c) h

theorem exec_cnvUnlock {s : State} (h : Running s) (x : Port) :
    exec (.cnvUnlock x) s = .next { s with dev := s.dev.cnvUnlock x } := runDev_alive (f := Dev.cnvUnlock x) h

/-- The write of another rate within range (R89). -/
theorem Dev.rateChange_shows {x m : Nat} (hx : x < 2) (hm : m ≤ 50) (d : Dev) :
    ((d.put (Fld.LNx_CNV_RATE.M x) m).relock x).lnM x = m ∧
      ∀ c, c < 8 → d.regionActive (1 + x) = true → d.cnvEn x c = true →
        ((d.put (Fld.LNx_CNV_RATE.M x) m).relock x).cnvState x c = 1 := by
  obtain ⟨hkeep, hstates⟩ := (d.put (Fld.LNx_CNV_RATE.M x) m).relock_shows hx
  refine ⟨?_, fun c hc hactive hen => ?_⟩
  · refine hkeep.lnM.trans ((Dev.get_put_self d (Fld.LNx_CNV_RATE.M x) m (Fld.ok_of _ rfl rfl)).trans (Nat.mod_eq_of_lt ?_))
    show m < 64
    omega
  · have hstr : Reg.STR_ACTIVE ≠ Reg.LNx_CNV_RATE x := by unfold Reg.STR_ACTIVE Reg.LNx_CNV_RATE; omega
    have hens : Reg.LNx_CNV_EN x ≠ Reg.LNx_CNV_RATE x := by unfold Reg.LNx_CNV_EN Reg.LNx_CNV_RATE; omega
    have hactive' : (d.put (Fld.LNx_CNV_RATE.M x) m).regionActive (1 + x) = true := (Dev.bitAt_put_ne d _ m _ _ hstr).trans hactive
    have hen' : (d.put (Fld.LNx_CNV_RATE.M x) m).cnvEn x c = true := (Dev.bitAt_put_ne d _ m _ c hens).trans hen
    rw [hstates c hc, hactive', hen']
    rfl

/-- The write of the enables (R91, R93). -/
theorem Dev.cnvEnWrite_shows {x : Nat} (hx : x < 2) (en : BitVec 8) (d : Dev) :
    (d.cnvEnWrite x en.toNat).get (Fld.LNx_CNV_EN.EN x) = en.toNat ∧
      ∀ c, c < 8 → (d.cnvEnWrite x en.toNat).cnvState x c =
        if en.getLsbD c && d.regionActive (1 + x) then max 1 (d.cnvState x c) else 0 := by
  obtain ⟨hregs, hstates⟩ := (d.put (Fld.LNx_CNV_EN.EN x) en.toNat).cnvCheck_shows hx
  refine ⟨?_, fun c hc => ?_⟩
  · refine (hregs.get (Fld.LNx_CNV_EN.EN x) (by simp [controlKeys, Fld.LNx_CNV_EN.EN])).trans ?_
    exact (Dev.get_put_self d _ en.toNat (Fld.ok_of _ rfl rfl)).trans (Nat.mod_eq_of_lt en.isLt)
  · have hstr : Reg.STR_ACTIVE ≠ Reg.LNx_CNV_EN x := by unfold Reg.STR_ACTIVE Reg.LNx_CNV_EN; omega
    have hsts : (Fld.cnvState x c).addr ≠ (Fld.LNx_CNV_EN.EN x).addr := by
      show Reg.LNx_CNV_STATE x ≠ Reg.LNx_CNV_EN x
      unfold Reg.LNx_CNV_STATE Reg.LNx_CNV_EN
      omega
    have hen : (d.put (Fld.LNx_CNV_EN.EN x) en.toNat).cnvEn x c = en.getLsbD c := by
      have hin : 0 ≤ c ∧ c ≤ 7 := by omega
      have h32 : c < 32 := by omega
      unfold Dev.cnvEn Dev.bitAt
      rw [show Reg.LNx_CNV_EN x = (Fld.LNx_CNV_EN.EN x).addr from rfl, Dev.reg_put_self]
      unfold Fld.LNx_CNV_EN.EN
      rw [getLsbD_setBits (Nat.zero_le 7), if_pos hin, Nat.sub_zero, BitVec.testBit_toNat, decide_eq_true h32, Bool.true_and]
    have hactive : (d.put (Fld.LNx_CNV_EN.EN x) en.toNat).regionActive (1 + x) = d.regionActive (1 + x) :=
      Dev.bitAt_put_ne d _ _ _ _ hstr
    have hstate : (d.put (Fld.LNx_CNV_EN.EN x) en.toNat).cnvState x c = d.cnvState x c :=
      Dev.get_put_elsewhere d (g := Fld.cnvState x c) _ hsts
    rw [← hen, ← hactive, ← hstate]
    exact hstates c hc

/-- Settles O21: a converter that takes a state leaves the others, and bringing lag and receivers up to date leaves all of them. -/
theorem convertersFollowRateAndEnables : Obligations.ConvertersFollowRateAndEnables := by
  refine ⟨fun s req x m hw => ⟨fun hout => ?_, fun hlo hhi hsame => ?_, fun hlo hhi hnew => ?_⟩, fun s req x en hw => ?_,
    fun s x c hrun => ⟨fun hother => ?_, fun hlocking => ?_⟩, fun s x hrun hactive hlocked hen => ?_⟩
  · rw [exec_cnvRateWrite hw, Dev.cnvRateWrite, if_pos hout]
  · have hin : ¬ (m.toNat < 20 ∨ 50 < m.toNat) := by omega
    rw [exec_cnvRateWrite hw, Dev.cnvRateWrite, if_neg hin, if_pos hsame]
  · have hin : ¬ (m.toNat < 20 ∨ 50 < m.toNat) := by omega
    refine ⟨_, exec_cnvRateWrite hw m, ?_⟩
    rw [Dev.cnvRateWrite, if_neg hin, if_neg hnew]
    obtain ⟨hrate, hstates⟩ := s.dev.rateChange_shows x.isLt hhi
    exact ⟨rfl, ⟨rfl, rfl, rfl⟩, hrate, Dev.locked_relock x.isLt _, hstates⟩
  · obtain ⟨hget, hstates⟩ := s.dev.cnvEnWrite_shows x.isLt en
    exact ⟨_, exec_cnvEnWrite hw en, rfl, ⟨rfl, rfl, rfl⟩, hget, hstates⟩
  · rw [exec_converterLocked hrun, Dev.converterLocked, if_neg hother]
  · obtain ⟨hkeep, hstate, hothers⟩ := Dev.converterLocked_takes x.isLt c.isLt hlocking
    obtain ⟨hlock, hend⟩ := s.dev.gainLock_shows x
    exact ⟨_, exec_converterLocked hrun x c, ⟨rfl, rfl, rfl⟩, hkeep.locked.trans hlock, fun h => hend (hkeep.unlocked.mp h), hstate,
      hothers⟩
  · refine ⟨_, exec_cnvUnlock hrun x, ⟨rfl, rfl, rfl⟩, ?_⟩
    rw [Dev.cnvUnlock_eq hactive hlocked hen]
    obtain ⟨hkeep, hstates⟩ := (s.dev.loseLock x).relock_shows x.isLt
    refine ⟨Dev.locked_relock x.isLt _, hkeep.unlocked.mpr (s.dev.present_loseLock x), fun c hc => ?_⟩
    have hregs := s.dev.loseLock_regsOut x
    have hactive' : (s.dev.loseLock x).regionActive (1 + x) = true := (hregs.bitAt _ _ trivial).trans hactive
    have hen' : (s.dev.loseLock x).cnvEn x c = s.dev.cnvEn x c := hregs.bitAt _ _ trivial
    have hstate : (s.dev.loseLock x).cnvState x c = s.dev.cnvState x c := hregs.get (Fld.cnvState x c) trivial
    rw [hstates c hc, hactive', hen', hstate, Bool.true_and]

end Sys2Proof.Machine
end

section
/-! Rotation of the slices, CAL_NOW and overrange (R92, R96, R100, R108, R113; 03_line_converters.md). -/

namespace Sys2Proof.Machine

/-! ### What shows the slices of a converter -/

theorem Dev.conv_setConv_self (d : Dev) (x c : Nat) (v : Converter) : (d.setConv x c v).conv x c = v := by
  rw [Dev.conv, Dev.setConv, Dev.ln_setLn, if_pos rfl]
  exact Sparse.get_put_self ..

/-- A converter in CONVERGING takes RUN. -/
def Dev.endConverging (d : Dev) (x c : Nat) : Dev := if d.cnvState x c = 2 then d.setCnvState x c 3 else d

/-- e has CAL_INFO of converter c of port x, and what stands beside its registers, as d has them. -/
structure KeepsSlices (x c : Nat) (d e : Dev) : Prop where
  info : e.reg (Reg.LNx_CAL_INFO x c) = d.reg (Reg.LNx_CAL_INFO x c)
  conv : e.conv x c = d.conv x c

namespace KeepsSlices

variable {x c : Nat} {d e f : Dev}

theorem refl (x c : Nat) (d : Dev) : KeepsSlices x c d d := ⟨rfl, rfl⟩

theorem ite {p : Prop} {_ : Decidable p} (he : KeepsSlices x c d e) (hf : KeepsSlices x c d f) :
    KeepsSlices x c d (if p then e else f) := by
  split <;> assumption

/-- A field of CAL_INFO. -/
theorem get (h : KeepsSlices x c d e) {g : Fld} (hg : g.addr = Reg.LNx_CAL_INFO x c) : e.get g = d.get g := by
  rw [Dev.get, hg, h.info, Dev.get, hg]

theorem setReg (h : KeepsSlices x c d e) {a : Nat} (v : Word) (ha : Reg.LNx_CAL_INFO x c ≠ a) : KeepsSlices x c d (e.setReg a v) :=
  ⟨(Dev.reg_setReg_ne e v ha).trans h.info, h.conv⟩

theorem setReg64 (h : KeepsSlices x c d e) {a : Nat} (v : Nat) (ha : Reg.LNx_CAL_INFO x c ≠ a) (hb : Reg.LNx_CAL_INFO x c ≠ a + 4) :
    KeepsSlices x c d (e.setReg64 a v) := (h.setReg _ ha).setReg _ hb

theorem causeIs (h : KeepsSlices x c d e) (f : Nat) (b : Bool) : KeepsSlices x c d (e.causeIs f b) :=
  ⟨(Dev.causeIs_reg ..).trans h.info, by rw [Dev.conv, Dev.ln, Dev.causeIs_line]; exact h.conv⟩

theorem calInfo_ne_cnvState (x c : Nat) : Reg.LNx_CAL_INFO x c ≠ Reg.LNx_CNV_STATE x := by
  unfold Reg.LNx_CAL_INFO Reg.LNx_CNV_STATE
  omega

theorem putBit (h : KeepsSlices x c d e) (i : Nat) (b : Bool) : KeepsSlices x c d (e.putBit (Reg.LNx_CNV_STATE x) i b) :=
  .ite (h.setReg _ (calInfo_ne_cnvState x c)) (h.setReg _ (calInfo_ne_cnvState x c))

theorem endConverging (h : KeepsSlices x c d e) : KeepsSlices x c d (e.endConverging x c) :=
  .ite (h.setReg _ (calInfo_ne_cnvState x c)) h

theorem retireCause (h : KeepsSlices x c d e) : KeepsSlices x c d (e.retireCause x) := (h.causeIs _ _).causeIs _ _

theorem lagCheck (h : KeepsSlices x c d e) : KeepsSlices x c d (e.lagCheck x) := by
  refine KeepsSlices.causeIs ?_ _ _
  unfold Dev.forUpTo
  induction List.range 8 generalizing e with
  | nil => exact h
  | cons i l ih => exact ih (h.putBit _ _)

theorem rotationDone (h : KeepsSlices x c d e) : KeepsSlices x c d (e.rotationDone x c) := by
  have hcount : Reg.LNx_CAL_INFO x c = Reg.LNx_CAL_CNT_LO x c + 16 := by unfold Reg.LNx_CAL_INFO Reg.LNx_CAL_CNT_LO; omega
  have hsec : Reg.LNx_CAL_INFO x c = Reg.LNx_CAL_SEC_LO x c + 8 := by unfold Reg.LNx_CAL_INFO Reg.LNx_CAL_SEC_LO; omega
  exact KeepsSlices.endConverging ((h.setReg64 _ (by omega) (by omega)).setReg64 _ (by omega) (by omega))

end KeepsSlices

/-! ### A step of a rotation (R96, R100) -/

/-- The device as a step has given its position to the spare: the next position stands, and a rotation that this completes counts. -/
def Dev.rotated (x c : Nat) (est : SliceCorr) (d : Dev) : Dev :=
  let v := d.conv x c
  let q := d.get (Fld.LNx_CAL_INFO.POS x c)
  let e := d.setConv x c { v with
    serve := v.serve.set q (d.get (Fld.LNx_CAL_INFO.SPARE x c)), steps := v.steps + 1, inStep := correctionInRange est && !d.frozen x,
    corr := if correctionInRange est then Sparse.insert (v.serve.getD q 0) est v.corr else v.corr,
    temps := Sparse.insert q (d.localTemp x c) v.temps }
  let e := e.put (Fld.LNx_CAL_INFO.POS x c) ((q + 1) % 64)
  if (v.steps + 1) % 64 = 0 then e.rotationDone x c else e

theorem Dev.rotated_shows (x c : Nat) (est : SliceCorr) (d : Dev) :
    (d.rotated x c est).get (Fld.LNx_CAL_INFO.POS x c) = (d.get (Fld.LNx_CAL_INFO.POS x c) + 1) % 64 ∧
      ((d.rotated x c est).conv x c).serve =
        (d.conv x c).serve.set (d.get (Fld.LNx_CAL_INFO.POS x c)) (d.get (Fld.LNx_CAL_INFO.SPARE x c)) := by
  unfold Dev.rotated
  extract_lets v q e1 e2
  have hkeep : KeepsSlices x c e2 (if (v.steps + 1) % 64 = 0 then e2.rotationDone x c else e2) :=
    .ite (KeepsSlices.refl x c e2).rotationDone (.refl x c e2)
  refine ⟨(hkeep.get rfl).trans ((Dev.get_put_self e1 (Fld.LNx_CAL_INFO.POS x c) _ (Fld.ok_of _ rfl rfl)).trans ?_), ?_⟩
  · exact Nat.mod_mod _ 64
  · rw [hkeep.conv]
    exact congrArg Converter.serve (d.conv_setConv_self x c _)

/-- The slice that a step takes from its position. -/
def Dev.leaving (d : Dev) (x c : Nat) : Nat := (d.conv x c).serve.getD (d.get (Fld.LNx_CAL_INFO.POS x c)) 0

/-- A step in progress of a running converter ends: the slice that leaves becomes the spare, or is retired. -/
theorem Dev.calStep_eq {x c : Nat} (est : SliceCorr) {d : Dev} (hin : (d.conv x c).inStep = true) (hrun : 2 ≤ d.cnvState x c) :
    d.calStep x c est = (if correctionInRange est then (d.rotated x c est).put (Fld.LNx_CAL_INFO.SPARE x c) (d.leaving x c)
      else (d.rotated x c est).retire x c (d.leaving x c)).lagCheck x := by
  have hgo : ¬ (!(d.conv x c).inStep || decide (d.cnvState x c ≤ 1)) = true := by
    simp [hin]
    omega
  exact if_neg hgo

/-- A field that stands below the one written. -/
theorem Dev.get_put_below (d : Dev) {f g : Fld} (v : Nat) (hf : f.ok) (hg : g.ok) (h : Nat.ble (g.hi + 1) f.lo = true) :
    (d.put f v).get g = d.get g := Dev.get_put_ne d f g v hf hg (.inr (.inr (Fld.above h)))

/-- A slice within range becomes the spare. -/
theorem Dev.spare_shows (x c u : Nat) (d : Dev) :
    let t := (d.put (Fld.LNx_CAL_INFO.SPARE x c) u).lagCheck x
    t.get (Fld.LNx_CAL_INFO.POS x c) = d.get (Fld.LNx_CAL_INFO.POS x c) ∧ (t.conv x c).serve = (d.conv x c).serve ∧
      t.get (Fld.LNx_CAL_INFO.SPARE x c) = u % 128 := by
  have hkeep := (KeepsSlices.refl x c (d.put (Fld.LNx_CAL_INFO.SPARE x c) u)).lagCheck
  refine ⟨(hkeep.get rfl).trans ?_, congrArg _ hkeep.conv, (hkeep.get rfl).trans (Dev.get_put_self _ _ _ (Fld.ok_of _ rfl rfl))⟩
  exact Dev.get_put_below _ _ (Fld.ok_of _ rfl rfl) (Fld.ok_of _ rfl rfl) rfl

/-- CAL_INFO as slice u is retired: there is no spare. -/
def Dev.showRetired (d : Dev) (x c u : Nat) : Dev :=
  ((d.put (Fld.LNx_CAL_INFO.RETIRED x c) 1).put (Fld.LNx_CAL_INFO.RET_SLICE x c) u).put (Fld.LNx_CAL_INFO.SPARE x c) 127

theorem Dev.showRetired_shows (x c u : Nat) (d : Dev) :
    (d.showRetired x c u).get (Fld.LNx_CAL_INFO.POS x c) = d.get (Fld.LNx_CAL_INFO.POS x c) ∧
      (d.showRetired x c u).get (Fld.LNx_CAL_INFO.SPARE x c) = 127 ∧
      (d.showRetired x c u).get (Fld.LNx_CAL_INFO.RETIRED x c) = 1 ∧
      (d.showRetired x c u).get (Fld.LNx_CAL_INFO.RET_SLICE x c) = u % 128 := by
  have hpos : (Fld.LNx_CAL_INFO.POS x c).ok := Fld.ok_of _ rfl rfl
  have hspare : (Fld.LNx_CAL_INFO.SPARE x c).ok := Fld.ok_of _ rfl rfl
  have hslice : (Fld.LNx_CAL_INFO.RET_SLICE x c).ok := Fld.ok_of _ rfl rfl
  have hretired : (Fld.LNx_CAL_INFO.RETIRED x c).ok := Fld.ok_of _ rfl rfl
  unfold Dev.showRetired
  refine ⟨?_, Dev.get_put_self _ _ _ hspare, ?_, ?_⟩
  · rw [Dev.get_put_below _ _ hspare hpos rfl, Dev.get_put_below _ _ hslice hpos rfl, Dev.get_put_below _ _ hretired hpos rfl]
  · rw [Dev.get_put_ne _ _ _ _ hspare hretired (.inr (.inl (Fld.above rfl))),
      Dev.get_put_ne _ _ _ _ hslice hretired (.inr (.inl (Fld.above rfl)))]
    exact Dev.get_put_self _ _ _ hretired
  · rw [Dev.get_put_ne _ _ _ _ hspare hslice (.inr (.inl (Fld.above rfl)))]
    exact Dev.get_put_self _ _ _ hslice

/-- Converter c of port x is DEGRADED, and no step is in progress. -/
def Dev.degrade (d : Dev) (x c : Nat) : Dev :=
  (d.setBit (Reg.LNx_CNV_STATE x) (4 * c + 2)).setConv x c { d.conv x c with inStep := false }

theorem Dev.degrade_get (d : Dev) (x c : Nat) {g : Fld} (hg : g.addr = Reg.LNx_CAL_INFO x c) : (d.degrade x c).get g = d.get g := by
  have hne : g.addr ≠ Reg.LNx_CNV_STATE x := hg ▸ KeepsSlices.calInfo_ne_cnvState x c
  exact (Dev.get_setReg d _ _ g).trans (if_neg hne)

theorem Dev.degrade_conv (d : Dev) (x c : Nat) : (d.degrade x c).conv x c = { d.conv x c with inStep := false } :=
  Dev.conv_setConv_self ..

theorem Dev.degrade_degraded (d : Dev) (x : Nat) {c : Nat} (hc : c < 8) : (d.degrade x c).degraded x c = true :=
  Dev.bitAt_setBit_self d _ _ (by omega)

/-- A slice is retired in four parts. -/
theorem Dev.retire_eq (d : Dev) (x c u : Nat) :
    d.retire x c u = (((d.showRetired x c u).degrade x c).endConverging x c).retireCause x := rfl

theorem Dev.endConverging_degraded (d : Dev) (x : Nat) {c : Nat} (hc : c < 8) :
    (d.endConverging x c).degraded x c = d.degraded x c := by
  unfold Dev.endConverging
  split
  · exact (d.setCnvState_takes x hc (by decide)).controls.degraded c hc
  · rfl

theorem KeepsStates.retireCause {x : Nat} {d e : Dev} (h : KeepsStates x d e) : KeepsStates x d (e.retireCause x) :=
  (h.causeIs (by decide) _).causeIs (by decide) _

/-- A slice out of range is retired (R100). -/
theorem Dev.retire_shows {x c : Nat} (hc : c < 8) (u : Nat) (d : Dev) :
    let t := (d.retire x c u).lagCheck x
    t.get (Fld.LNx_CAL_INFO.POS x c) = d.get (Fld.LNx_CAL_INFO.POS x c) ∧ (t.conv x c).serve = (d.conv x c).serve ∧
      t.get (Fld.LNx_CAL_INFO.SPARE x c) = 127 ∧ t.get (Fld.LNx_CAL_INFO.RETIRED x c) = 1 ∧ t.degraded x c = true ∧
      t.get (Fld.LNx_CAL_INFO.RET_SLICE x c) = u % 128 ∧ (t.conv x c).inStep = false := by
  obtain ⟨hpos, hspare, hretired, hslice⟩ := d.showRetired_shows x c u
  have hstay := (KeepsSlices.refl x c ((d.showRetired x c u).degrade x c)).endConverging.retireCause.lagCheck
  have hdegraded := (KeepsStates.refl x (((d.showRetired x c u).degrade x c).endConverging x c)).retireCause.lagCheck.controls.degraded c hc
  rw [Dev.endConverging_degraded _ x hc, Dev.degrade_degraded _ x hc] at hdegraded
  rw [Dev.retire_eq]
  refine ⟨?_, ?_, ?_, ?_, hdegraded, ?_, ?_⟩
  · rw [hstay.get rfl, Dev.degrade_get _ x c rfl, hpos]
  · rw [hstay.conv, Dev.degrade_conv]
    rfl
  · rw [hstay.get rfl, Dev.degrade_get _ x c rfl, hspare]
  · rw [hstay.get rfl, Dev.degrade_get _ x c rfl, hretired]
  · rw [hstay.get rfl, Dev.degrade_get _ x c rfl, hslice]
  · rw [hstay.conv, Dev.degrade_conv]

/-- The end of a step in progress, as the rules say. -/
theorem Dev.calStep_shows {x c : Nat} (hc : c < 8) (est : SliceCorr) {d : Dev} (hin : (d.conv x c).inStep = true)
    (hrun : 2 ≤ d.cnvState x c) :
    let t := d.calStep x c est
    t.get (Fld.LNx_CAL_INFO.POS x c) = (d.get (Fld.LNx_CAL_INFO.POS x c) + 1) % 64 ∧
      (t.conv x c).serve = (d.conv x c).serve.set (d.get (Fld.LNx_CAL_INFO.POS x c)) (d.get (Fld.LNx_CAL_INFO.SPARE x c)) ∧
      t.get (Fld.LNx_CAL_INFO.SPARE x c) = (if correctionInRange est then d.leaving x c % 128 else 127) ∧
      (correctionInRange est = false → t.get (Fld.LNx_CAL_INFO.RETIRED x c) = 1 ∧ t.degraded x c = true ∧
        t.get (Fld.LNx_CAL_INFO.RET_SLICE x c) = d.leaving x c % 128 ∧ (t.conv x c).inStep = false) := by
  obtain ⟨hpos, hserve⟩ := d.rotated_shows x c est
  rw [Dev.calStep_eq est hin hrun]
  cases correctionInRange est with
  | true =>
    obtain ⟨hp, hs, hspare⟩ := (d.rotated x c est).spare_shows x c (d.leaving x c)
    exact ⟨hp.trans hpos, hs.trans hserve, hspare, fun h => absurd h (by decide)⟩
  | false =>
    obtain ⟨hp, hs, hspare, hretired, hdegraded, hslice, hstep⟩ := (d.rotated x c est).retire_shows hc (d.leaving x c)
    exact ⟨hp.trans hpos, hs.trans hserve, hspare, fun _ => ⟨hretired, hdegraded, hslice, hstep⟩⟩

/-! ### CAL_NOW (R92) -/

/-- Converter c of port x starts over from the factory record where it is enabled and past LOCKING. -/
def Dev.startOver (x : Nat) (d : Dev) (c : Nat) : Dev :=
  if d.cnvEn x c && decide (2 ≤ d.cnvState x c) then d.converge x c true else d

theorem Dev.startOver_takes (x : Nat) (d : Dev) {c : Nat} (hc : c < 8) :
    ConverterTakes x c (if d.cnvEn x c && decide (2 ≤ d.cnvState x c) then (if d.degraded x c then 3 else 2) else d.cnvState x c) d
      (d.startOver x c) := by
  unfold Dev.startOver
  split
  · exact d.converge_takes x hc true
  · exact .stay x c d

theorem Dev.calNow_shows (x : Nat) (d : Dev) {c : Nat} (hc : c < 8) : (d.calNow x).cnvState x c =
    if d.cnvEn x c && decide (2 ≤ d.cnvState x c) then (if d.degraded x c then 3 else 2) else d.cnvState x c := by
  obtain ⟨-, hstates⟩ := Dev.forAll_takes (f := Dev.startOver x) (d := d) (fun e _ => e.startOver_takes x)
    fun e c hc hk hold => by simp only [hk.cnvEn, hk.degraded c hc, hold]
  exact ((KeepsStates.refl x (Dev.forUpTo 8 (Dev.startOver x) d)).lagCheck.states c hc).trans (hstates c hc)

/-! ### Overrange (R108, R113) -/

/-- LNx.00 is present while a live bit is set, and no register follows it. -/
theorem Dev.ovrCause_shows (d : Dev) (x : Nat) : RegsOut (fun _ => True) d (d.ovrCause x) ∧
    (Present (fLN x 0) (d.ovrCause x) ↔ (d.ovrCause x).get (Fld.LNx_OVR_STATUS.OVR_LIVE x) ≠ 0) := by
  refine ⟨(RegsOut.refl _ d).causeIs _ _, ?_⟩
  rw [Dev.ovrCause, Dev.causeIs_get, Present, Dev.mem_causes_causeIs]
  simp

/-- A live bit that is set makes OVR_LIVE other than 0. -/
theorem Dev.live_ne_zero {d : Dev} {x a : Nat} (ha : a < 4) (h : d.bitAt (Reg.LNx_OVR_STATUS x) a = true) :
    d.get (Fld.LNx_OVR_STATUS.OVR_LIVE x) ≠ 0 := by
  intro h0
  have hbit : (d.get (Fld.LNx_OVR_STATUS.OVR_LIVE x)).testBit a = true := by
    have hin : a < 3 - 0 + 1 := ha
    unfold Dev.get Fld.LNx_OVR_STATUS.OVR_LIVE
    rw [testBit_getBits, decide_eq_true hin, Nat.zero_add, Bool.true_and]
    exact h
  rw [h0, Nat.zero_testBit] at hbit
  exact absurd hbit (by decide)

/-- An overrange sample counts where it is the first of a run, which a gap of 64 samples breaks. -/
def Dev.countRun (d : Dev) (x a gap : Nat) : Dev :=
  if !(d.conv x a).overranged || decide (64 ≤ gap) then d.incSat (Fld.LNx_OVR_CNT.RUNS x a) else d

theorem Dev.countRun_shows (x a gap : Nat) (d : Dev) :
    (d.countRun x a gap).get (Fld.LNx_OVR_CNT.RUNS x a) = (if (d.conv x a).overranged && decide (gap < 64)
      then d.get (Fld.LNx_OVR_CNT.RUNS x a) else min (d.get (Fld.LNx_OVR_CNT.RUNS x a) + 1) (2 ^ 32 - 1)) ∧
      RegsKept [Reg.LNx_OVR_CNT x a] d (d.countRun x a gap) := by
  have hcond : (!(d.conv x a).overranged || decide (64 ≤ gap)) = !((d.conv x a).overranged && decide (gap < 64)) := by
    rw [Bool.not_and, ← decide_not]
    simp only [Nat.not_lt]
  unfold Dev.countRun
  rw [hcond]
  cases (d.conv x a).overranged && decide (gap < 64) with
  | true => exact ⟨rfl, .refl _ d⟩
  | false =>
    exact ⟨Dev.get_incSat_self d (Fld.LNx_OVR_CNT.RUNS x a) 1 (Fld.ok_of _ rfl rfl),
      (RegsKept.refl [Reg.LNx_OVR_CNT x a] d).put (Fld.LNx_OVR_CNT.RUNS x a) _ (List.mem_singleton_self _)⟩

/-- ADC a has seen an overrange: its live and its sticky bit are set. -/
def Dev.flagOverrange (d : Dev) (x a : Nat) : Dev :=
  ((d.setConv x a { d.conv x a with overranged := true }).setBit (Reg.LNx_OVR_STATUS x) a).setBit (Reg.LNx_OVR_STATUS x) (8 + a)

theorem Dev.flagOverrange_shows (x : Nat) {a : Nat} (ha : a < 4) (d : Dev) :
    (d.flagOverrange x a).bitAt (Reg.LNx_OVR_STATUS x) a = true ∧
      (d.flagOverrange x a).bitAt (Reg.LNx_OVR_STATUS x) (8 + a) = true ∧ RegsKept [Reg.LNx_OVR_STATUS x] d (d.flagOverrange x a) := by
  refine ⟨?_, Dev.bitAt_setBit_self _ _ _ (by omega), ?_⟩
  · exact (Dev.bitAt_setBit_ne _ _ _ _ _ (.inr (by omega))).trans (Dev.bitAt_setBit_self _ _ a (by omega))
  · exact (((RegsKept.refl _ d).same).setReg _ _ (List.mem_singleton_self _)).setReg _ _ (List.mem_singleton_self _)

/-- A sample counts and is flagged, LNx.00 follows, and the records are marked. -/
theorem Dev.adcOverrange_eq {x a : Nat} (gap : Nat) {d : Dev} (h : 2 ≤ d.cnvState x a) :
    d.adcOverrange x a gap = (((d.countRun x a gap).flagOverrange x a).ovrCause x).markOverrange x := by
  have hgo : ¬ d.cnvState x a ≤ 1 := by omega
  exact if_neg hgo

/-- Marking the records touches no register and no cause. -/
theorem Dev.markOverrange_shows (d : Dev) (x : Nat) :
    RegsOut (fun _ => True) d (d.markOverrange x) ∧ (Present (fLN x 0) (d.markOverrange x) ↔ Present (fLN x 0) d) :=
  ⟨.refl _ d, .rfl⟩

/-- An overrange sample of an ADC that runs, as the rules say. -/
theorem Dev.adcOverrange_shows {x a : Nat} (ha : a < 4) (gap : Nat) {d : Dev} (h : 2 ≤ d.cnvState x a) :
    (d.adcOverrange x a gap).bitAt (Reg.LNx_OVR_STATUS x) a = true ∧
      (d.adcOverrange x a gap).bitAt (Reg.LNx_OVR_STATUS x) (8 + a) = true ∧ Present (fLN x 0) (d.adcOverrange x a gap) ∧
      (d.adcOverrange x a gap).get (Fld.LNx_OVR_CNT.RUNS x a) = (if (d.conv x a).overranged && decide (gap < 64)
        then d.get (Fld.LNx_OVR_CNT.RUNS x a) else min (d.get (Fld.LNx_OVR_CNT.RUNS x a) + 1) (2 ^ 32 - 1)) ∧
      RegsKept [Reg.LNx_OVR_STATUS x, Reg.LNx_OVR_CNT x a] d (d.adcOverrange x a gap) := by
  obtain ⟨hruns, hcount⟩ := d.countRun_shows x a gap
  obtain ⟨hlive, hsticky, hstatus⟩ := (d.countRun x a gap).flagOverrange_shows x ha
  obtain ⟨hregs, hcause⟩ := ((d.countRun x a gap).flagOverrange x a).ovrCause_shows x
  obtain ⟨hmark, hsame⟩ := (((d.countRun x a gap).flagOverrange x a).ovrCause x).markOverrange_shows x
  have hother : Reg.LNx_OVR_CNT x a ∉ [Reg.LNx_OVR_STATUS x] := by
    rw [List.mem_singleton]
    unfold Reg.LNx_OVR_CNT Reg.LNx_OVR_STATUS
    omega
  rw [Dev.adcOverrange_eq gap h]
  have hend := hregs.trans hmark
  refine ⟨?_, ?_, hsame.mpr (hcause.mpr (Dev.live_ne_zero ha ?_)), ?_, fun b hb => ?_⟩
  · rw [hend.bitAt _ _ trivial, hlive]
  · rw [hend.bitAt _ _ trivial, hsticky]
  · rw [hregs.bitAt _ _ trivial, hlive]
  · rw [hend.get _ trivial, RegsOut.get hstatus _ hother, hruns]
  · obtain ⟨hbs, hbc⟩ := not_or.mp (List.mem_cons.not.mp hb)
    rw [hend b trivial, hstatus b (List.mem_singleton.not.mpr hbs), hcount b hbc]

/-- The live bit of ADC a ends (R108). -/
theorem Dev.ovrLiveExpiry_shows (x : Nat) (a : Fin 4) (d : Dev) :
    let t := d.ovrLiveExpiry x (some a)
    t.bitAt (Reg.LNx_OVR_STATUS x) a = false ∧
      (Present (fLN x 0) t ↔ t.get (Fld.LNx_OVR_STATUS.OVR_LIVE x) ≠ 0) ∧ RegsKept [Reg.LNx_OVR_STATUS x] d t := by
  obtain ⟨hregs, hcause⟩ := (d.clrBit (Reg.LNx_OVR_STATUS x) a).ovrCause_shows x
  have hkept : RegsKept [Reg.LNx_OVR_STATUS x] d (d.clrBit (Reg.LNx_OVR_STATUS x) a) :=
    (RegsKept.refl _ d).setReg _ _ (List.mem_singleton_self _)
  exact ⟨(hregs.bitAt _ _ trivial).trans (Dev.bitAt_clrBit_self ..), hcause, fun b hb => (hregs b trivial).trans (hkept b hb)⟩

/-! ### O22 -/

theorem exec_calStep {s : State} (h : Running s) (x : Port) (c : Fin 8) (est : SliceCorr) :
    exec (.calStep x c est) s = .next { s with dev := s.dev.calStep x c est } := runDev_alive (f := Dev.calStep x c est) h

theorem exec_calNow {s : State} {req : Requester} {x : Port} (h : Writable req (2 + x) s) :
    exec (.calNow req x) s = .next { s with dev := s.dev.calNow x } := runWrite_runs (f := Dev.calNow x) h.1 h.2

theorem exec_adcOverrange {s : State} (h : Running s) (x : Port) (a : Fin 4) (gap : Nat) :
    exec (.adcOverrange x a gap) s = .next { s with dev := s.dev.adcOverrange x a gap } := runDev_alive (f := Dev.adcOverrange x a gap) h

theorem exec_ovrLiveExpiry {s : State} (h : Running s) (x : Port) (adc : Option (Fin 4)) :
    exec (.ovrLiveExpiry x adc) s = .next { s with dev := s.dev.ovrLiveExpiry x adc } := runDev_alive (f := Dev.ovrLiveExpiry x adc) h

/-- Without a step in progress none ends. -/
theorem Dev.calStep_idle {x c : Nat} (est : SliceCorr) {d : Dev} (h : (d.conv x c).inStep = false) : d.calStep x c est = d := by
  have hidle : (!(d.conv x c).inStep || decide (d.cnvState x c ≤ 1)) = true := by simp [h]
  exact if_pos hidle

/-- Settles O22: a step by whether its slice is retired, CAL_NOW converter by converter, an overrange by what it counts and shows. -/
theorem slicesRotateAndOverrangesCount : Obligations.SlicesRotateAndOverrangesCount := by
  refine ⟨fun s x c est hrun hin hstate => ?_, fun s x c est hrun hidle => ?_, fun s req x hw => ?_,
    fun s x a gap hrun => ⟨fun hoff => ?_, fun hon => ?_⟩, fun s x a hrun => ?_, fun s x hrun => ?_⟩
  · exact ⟨_, exec_calStep hrun x c est, ⟨rfl, rfl, rfl⟩, Dev.calStep_shows c.isLt est hin hstate⟩
  · rw [exec_calStep hrun, Dev.calStep_idle est hidle]
  · exact ⟨_, exec_calNow hw, ⟨rfl, rfl, rfl⟩, fun c hc => s.dev.calNow_shows x hc⟩
  · rw [exec_adcOverrange hrun, Dev.adcOverrange, if_pos hoff]
  · obtain ⟨hlive, hsticky, hcause, hruns, hkept⟩ := Dev.adcOverrange_shows a.isLt gap hon
    exact ⟨_, exec_adcOverrange hrun x a gap, hlive, hsticky, hcause, hruns, .ofDev hkept⟩
  · obtain ⟨hlive, hcause, hkept⟩ := s.dev.ovrLiveExpiry_shows x a
    exact ⟨_, exec_ovrLiveExpiry hrun x (some a), hlive, hcause, .ofDev hkept⟩
  · exact ⟨_, exec_ovrLiveExpiry hrun x none, fun h => ((Dev.mem_causes_causeOff ..).mp h).1 rfl, .ofDev (.ofRegs rfl)⟩

end Sys2Proof.Machine
end

section
/-! What the time block (R425 to R429) does leaves the registers of the blocks below it, and the line ports. -/

namespace Sys2Proof.Machine

/-- A key from the registers of TIM on. -/
def FromTim (a : Nat) : Prop := 0xD00000 ≤ a

theorem FromTim.table {b : Nat} (h : Nat.ble 0xD00000 b = true) (o : Nat) : FromTim (b + o) :=
  Nat.le_add_right_of_le (Nat.le_of_ble_eq_true h)

/-- e has the registers of d below those of TIM, and its line ports. -/
structure KeepsBelowTim (d e : Dev) : Prop where
  regs : RegsOut (¬ FromTim ·) d e
  line : e.line = d.line

namespace KeepsBelowTim

theorem refl (d : Dev) : KeepsBelowTim d d := ⟨.refl _ d, rfl⟩

theorem ite {d f g : Dev} {c : Prop} {_ : Decidable c} (hf : KeepsBelowTim d f) (hg : KeepsBelowTim d g) :
    KeepsBelowTim d (if c then f else g) := by
  split <;> assumption

section
variable {d e : Dev} (h : KeepsBelowTim d e)
include h

/-- A change of what is neither register nor line port. -/
theorem same {f : Dev} (hr : f.regs = e.regs := by rfl) (hl : f.line = e.line := by rfl) : KeepsBelowTim d f :=
  ⟨h.regs.same hr, hl.trans h.line⟩

theorem put (f : Fld) (v : Nat) (hf : FromTim f.addr) : KeepsBelowTim d (e.put f v) :=
  ⟨h.regs.put f v fun _ ha haf => ha (haf ▸ hf), h.line⟩

theorem raise (f : Nat) : KeepsBelowTim d (e.raise f) := ⟨h.regs.raise f, (e.raise_line f).trans h.line⟩

theorem causeIs (f : Nat) (b : Bool) : KeepsBelowTim d (e.causeIs f b) := ⟨h.regs.causeIs f b, (e.causeIs_line f b).trans h.line⟩

theorem refreshRefs : KeepsBelowTim d e.refreshRefs := by
  refine KeepsBelowTim.causeIs ?_ _ _
  unfold Dev.forUpTo
  induction List.range 12 generalizing e with
  | nil => exact h
  | cons i l ih => exact ih ((h.put _ _ (.table rfl _)).put _ _ (.table rfl _))

theorem requalify (i : Nat) : KeepsBelowTim d (e.requalify i) := by
  have hkey : FromTim (Reg.TIM_REF_STATUS i) := .table rfl _
  have hq := h.put (Fld.TIM_REF_STATUS.QUAL i) 1 hkey
  have hn := ((h.put (Fld.TIM_REF_STATUS.QUAL i) 0 hkey).put (Fld.TIM_REF_STATUS.WTR_RUN i) 0 hkey).put
    (Fld.TIM_REF_STATUS.WTR_LEFT i) 0 hkey
  exact .ite (.ite hq ((hq.same.put _ _ hkey).put _ _ hkey))
    (.ite (.ite ((hn.raise _).put _ _ (.table (b := Reg.TIM_SW_CNT) rfl 0)) hn) h)

theorem refInactive (i : Nat) : KeepsBelowTim d (e.refInactive i) := by
  have hkey : FromTim (Reg.TIM_REF_STATUS i) := .table rfl _
  have hoff := ((h.put (Fld.TIM_REF_STATUS.ACT i) 0 hkey).put (Fld.TIM_REF_STATUS.FREQ_OK i) 0 hkey).put (Fld.TIM_REF_FO.FO i) 0
    (.table rfl _)
  exact (hoff.same.requalify i).refreshRefs

theorem offerRef (i hz : Nat) : KeepsBelowTim d (e.offerRef i hz) := h.put _ _ (.table rfl _)

theorem withdrawRef (i : Nat) : KeepsBelowTim d (e.withdrawRef i) := .ite ((h.offerRef i 0).refInactive i) (h.offerRef i 0)

end
end KeepsBelowTim
end Sys2Proof.Machine
end

section
/-! Acquisition (R123, R135 to R139, 04_coherent_dsp.md): what entering a receive state shows, and what it leaves. -/

namespace Sys2Proof.Machine

/-! ### What entering a receive state leaves -/

/-- The fields of port x that entering a receive state may write beside RX_STATE. -/
def rxFields (x : Nat) : List Fld := [Fld.LNx_DSP_STATE.GUARD x, Fld.LNx_MIMO_STATUS.PILOT_ONLY x, Fld.LNx_ACQ_CNT.LOCK x]

/-- Field g lies below TIM, is none of port x's interrupts, and shares no bit with one of those fields. -/
abbrev BesideRx (x : Nat) (g : Fld) : Prop :=
  (g.lo ≤ g.hi ∧ g.hi < 32) ∧ g.addr < 0xD00000 ∧ g.addr ≠ Reg.LNx_INT_STATUS x ∧
    ∀ f ∈ rxFields x, (f.lo ≤ f.hi ∧ f.hi < 32) ∧ (g.addr ≠ f.addr ∨ f.hi < g.lo ∨ g.hi < f.lo)

/-- e has field g of d, and the dispersion that the search of port x found. -/
structure KeepsRx (x : Nat) (g : Fld) (d e : Dev) : Prop where
  field : e.get g = d.get g
  found : (e.ln x).cdFound = (d.ln x).cdFound

namespace KeepsRx

variable {x : Nat} {g : Fld} {d e : Dev}

theorem refl (x : Nat) (g : Fld) (d : Dev) : KeepsRx x g d d := ⟨rfl, rfl⟩

theorem ite {f : Dev} {c : Prop} {_ : Decidable c} (he : KeepsRx x g d e) (hf : KeepsRx x g d f) :
    KeepsRx x g d (if c then e else f) := by
  split <;> assumption

section
variable (h : KeepsRx x g d e)
include h

/-- A change that keeps the register of g and the line ports. -/
theorem beside {f : Dev} (hr : f.reg g.addr = e.reg g.addr) (hl : f.line = e.line) : KeepsRx x g d f := by
  refine ⟨?_, ?_⟩
  · rw [← h.field, Dev.get, hr, Dev.get]
  · rw [← h.found, Dev.ln, hl, Dev.ln]

theorem causeIs (f : Nat) (b : Bool) : KeepsRx x g d (e.causeIs f b) := h.beside (Dev.causeIs_reg ..) (Dev.causeIs_line ..)

theorem setLn (l : LineState) (hl : l.cdFound = (e.ln x).cdFound) : KeepsRx x g d (e.setLn x l) := by
  refine ⟨h.field, ?_⟩
  rw [Dev.ln_setLn, if_pos rfl, hl, h.found]

/-- A change of what is neither register nor line port. -/
theorem same {f : Dev} (hr : f.regs = e.regs := by rfl) (hl : f.line = e.line := by rfl) : KeepsRx x g d f :=
  h.beside ((RegsOut.refl (fun _ => True) e).same hr _ trivial) hl

theorem uncap : KeepsRx x g d (e.uncap x) := h.same.setLn _ rfl

theorem setInt (hg : BesideRx x g) (i : Nat) : KeepsRx x g d (e.setInt (intLN x) i) :=
  have ⟨_, _, hint, _⟩ := hg
  h.beside (Dev.reg_setInt_ne _ _ _ hint) (Dev.setInt_line ..)

/-- One of the fields that entering a receive state may write. -/
theorem put (hg : BesideRx x g) {f : Fld} (v : Nat) (hf : f ∈ rxFields x) : KeepsRx x g d (e.put f v) := by
  obtain ⟨hok, -, -, hbeside⟩ := hg
  obtain ⟨hfok, happart⟩ := hbeside f hf
  exact ⟨(Dev.get_put_ne e f g v hfok hok happart).trans h.field, h.found⟩

theorem belowTim (hg : BesideRx x g) {f : Dev} (k : KeepsBelowTim e f) : KeepsRx x g d f := by
  obtain ⟨-, hbelow, -, -⟩ := hg
  exact h.beside (k.regs _ (Nat.not_le.mpr hbelow)) k.line

theorem withdrawRef (hg : BesideRx x g) (i : Nat) : KeepsRx x g d (e.withdrawRef i) := h.belowTim hg ((KeepsBelowTim.refl e).withdrawRef i)

theorem offerRef (hg : BesideRx x g) (i hz : Nat) : KeepsRx x g d (e.offerRef i hz) := h.belowTim hg ((KeepsBelowTim.refl e).offerRef i hz)

theorem incLock (hg : BesideRx x g) : KeepsRx x g d (e.incSat (Fld.LNx_ACQ_CNT.LOCK x)) := h.put hg _ (by simp [rxFields])

theorem clearGuard (hg : BesideRx x g) : KeepsRx x g d (e.clearGuard x) :=
  (((h.put hg _ (by simp [rxFields])).put hg _ (by simp [rxFields])).causeIs _ _).setLn _ rfl

end
end KeepsRx

/-- The causes of port x that follow its receive state st (R136, R140). -/
def Dev.rxCauses (x st : Nat) (d : Dev) : Dev := ((d.causeIs (fLN x 8) (st == 1)).notLocked x).foCause x

/-- What entering receive state st from state old does besides once RX_STATE shows st, up to the causes. -/
def Dev.rxEntered (x old st : Nat) (d : Dev) : Dev :=
  let d := if st = 8 then d else d.uncap x
  let d := if old = 8 ∧ st ≠ 8 then ((d.setInt (intLN x) 1).tapAt (timeTap x false) 0x1002 0).withdrawRef (2 + x) else d
  let d := if st = 7 ∨ st = 8 then d else d.clearGuard x
  if st = 8 ∧ old ≠ 8 then
    (((d.incSat (Fld.LNx_ACQ_CNT.LOCK x)).setInt (intLN x) 0).tapAt (timeTap x false) 0x1001 0).offerRef (2 + x) (d.symbolRate x / 256)
  else d

theorem Dev.enterRx_eq (d : Dev) (x st : Nat) :
    d.enterRx x st = ((d.put (Fld.LNx_DSP_STATE.RX_STATE x) st).rxEntered x (d.rxState x) st).rxCauses x st := rfl

theorem Dev.rxCauses_regs (x st : Nat) (d : Dev) : RegsOut (fun _ => True) d (d.rxCauses x st) :=
  (((RegsOut.refl _ d).causeIs _ _).causeIs _ _).causeIs _ _

theorem KeepsRx.rxEntered {x : Nat} {g : Fld} {d e : Dev} (h : KeepsRx x g d e) (hg : BesideRx x g) (old st : Nat) :
    KeepsRx x g d (e.rxEntered x old st) := by
  unfold Dev.rxEntered
  extract_lets d1 d2 d3
  have h1 : KeepsRx x g d d1 := .ite h h.uncap
  have h2 : KeepsRx x g d d2 := .ite ((h1.setInt hg 1).same.withdrawRef hg _) h1
  have h3 : KeepsRx x g d d3 := .ite h2 (h2.clearGuard hg)
  exact .ite (((h3.incLock hg).setInt hg 0).same.offerRef hg _ _) h3

theorem KeepsRx.rxCauses {x : Nat} {g : Fld} {d e : Dev} (h : KeepsRx x g d e) (st : Nat) : KeepsRx x g d (e.rxCauses x st) :=
  ((h.causeIs _ _).causeIs _ _).causeIs _ _

/-- Field g is one that entering a receive state leaves. -/
abbrev OffRx (x : Nat) (g : Fld) : Prop := BesideRx x g ∧ g.addr ≠ Reg.LNx_DSP_STATE x

/-- Such a field, and the dispersion found, stay as a receive state is entered. -/
theorem Dev.enterRx_keeps (d : Dev) {x : Nat} (st : Nat) {g : Fld} (hoff : OffRx x g) : KeepsRx x g d (d.enterRx x st) := by
  obtain ⟨hg, hrx⟩ := hoff
  have hput : KeepsRx x g d (d.put (Fld.LNx_DSP_STATE.RX_STATE x) st) := (KeepsRx.refl x g d).beside (Dev.reg_put_ne _ _ _ hrx) rfl
  exact (hput.rxEntered hg (d.rxState x) st).rxCauses st

/-! ### What entering a receive state shows -/

theorem besideRx_rxState : ∀ x : Port, BesideRx x (Fld.LNx_DSP_STATE.RX_STATE x) := by decide

theorem offRx_swap : ∀ x : Port, OffRx x (Fld.LNx_MIMO_STATUS.SWAP x) := by decide

theorem offRx_fail : ∀ x : Port, OffRx x (Fld.LNx_ACQ_CNT.FAIL x) := by decide

theorem offRx_losses : ∀ x : Port, OffRx x (Fld.LNx_SYNC_LOSS_CNT.LOSSES x) := by decide

/-- The state entered is the receive state. -/
theorem Dev.enterRx_rxState (d : Dev) (x : Port) {st : Nat} (hst : st < 16) : (d.enterRx x st).rxState x = st := by
  have hkeep := ((KeepsRx.refl x _ (d.put (Fld.LNx_DSP_STATE.RX_STATE x) st)).rxEntered (besideRx_rxState x) (d.rxState x) st).rxCauses st
  rw [Dev.enterRx_eq, Dev.rxState, hkeep.field, Dev.get_put_self _ _ _ (Fld.ok_of _ rfl rfl)]
  exact Nat.mod_eq_of_lt hst

/-- LNx.08 is present in LOS alone (R136). -/
theorem Dev.present_rxCauses_los (x st : Nat) (d : Dev) : Present (fLN x 8) (d.rxCauses x st) ↔ st = 1 := by
  have h10 : fLN x 8 ≠ fLN x 10 := by unfold fLN; omega
  have h18 : fLN x 8 ≠ fLN x 18 := by unfold fLN; omega
  simp only [Present, Dev.rxCauses, Dev.notLocked, Dev.foCause, Dev.mem_causes_causeIs]
  simp [h10, h18]

/-- LNx.10 is absent in TRACK (R140). -/
theorem Dev.absent_rxCauses_track {x : Nat} (st : Nat) {d : Dev} (h : d.rxState x = 8) : ¬ Present (fLN x 10) (d.rxCauses x st) := by
  have h18 : fLN x 10 ≠ fLN x 18 := by unfold fLN; omega
  have hstate : (d.causeIs (fLN x 8) (st == 1)).rxState x = 8 := (((RegsOut.refl (fun _ => True) d).causeIs _ _).get _ trivial).trans h
  simp only [Present, Dev.rxCauses, Dev.notLocked, Dev.foCause, Dev.mem_causes_causeIs, h18, hstate]
  simp

theorem Dev.present_enterRx_los (d : Dev) (x st : Nat) : Present (fLN x 8) (d.enterRx x st) ↔ st = 1 := Dev.present_rxCauses_los ..

/-- A port that enters TRACK signals it, and LNx.10 is absent. -/
theorem Dev.enterRx_track (x : Port) {d : Dev} (h : d.rxState x ≠ 8) :
    ¬ Present (fLN x 10) (d.enterRx x 8) ∧ (d.enterRx x 8).bitAt (Reg.LNx_INT_STATUS x) 0 = true := by
  have hregs := ((d.put (Fld.LNx_DSP_STATE.RX_STATE x) 8).rxEntered x (d.rxState x) 8).rxCauses_regs x 8
  refine ⟨Dev.absent_rxCauses_track 8 ?_, ?_⟩
  · exact (hregs.get _ trivial).symm.trans (d.enterRx_rxState x (by decide))
  · have hbelow : ¬ FromTim (Reg.LNx_INT_STATUS x) := by unfold FromTim Reg.LNx_INT_STATUS; omega
    rw [Dev.enterRx_eq, hregs.bitAt _ _ trivial, Dev.rxEntered, if_pos ⟨rfl, h⟩,
      ((KeepsBelowTim.refl _).offerRef _ _).regs.bitAt _ _ hbelow]
    exact Dev.bitAt_setInt_self _ (intLN x) (by decide)

/-- Causes on their way stay on their way as a receive state is entered. -/
theorem Dev.enterRx_arising {d : Dev} (x st : Nat) {f : Nat} (h : Arising f d) : Arising f (d.enterRx x st) :=
  ((KeepsStr.refl d).enterRx x st).arising f h

/-! ### Dispersion (R122, R123) -/

/-- The fields of port x by which acquisition begins with a search or without. -/
def searchFields (x : Nat) : List Fld := [Fld.LNx_CD_CTL.SEARCH x, Fld.LNx_CD_MIN.VALUE x, Fld.LNx_CD_MAX.VALUE x,
  Fld.LNx_DSP_MODE.MODE x, Fld.LNx_DSP_MODE.DECIM x, Fld.LNx_DSP_STATE.MODE_ERR x, Fld.LNx_CNV_RATE.M x]

theorem Dev.cdSearches_congr {x : Nat} {d e : Dev} (h : ∀ f ∈ searchFields x, e.get f = d.get f) :
    e.cdSearches x = d.cdSearches x := by
  simp only [searchFields, List.forall_mem_cons, List.not_mem_nil, false_imp_iff, implies_true, and_true] at h
  obtain ⟨hsearch, hmin, hmax, hmode, hdecim, herr, hm⟩ := h
  have hfactor : e.lnDecim x = d.lnDecim x := by
    unfold Dev.lnDecim Dev.modeErr Dev.lnMode Dev.isSet
    rw [hmode, hdecim, herr]
  have hrange : e.cdRange x = d.cdRange x := by
    unfold Dev.cdRange Dev.lnMode Dev.lnM
    rw [hmode, hfactor, hm]
  unfold Dev.cdSearches Dev.cdMin Dev.cdMax Dev.clampCd Dev.isSet Dev.getInt
  rw [hsearch, hmin, hmax, hrange]

/-- A search that ends at the coarse and fine points gives this dispersion (R123). -/
def Dev.cdResult (d : Dev) (x coarse : Nat) (fine : Int) : Int :=
  clampInt (d.cdMin x) (d.cdMax x) (d.cdMin x + (coarse : Int) * (d.get (Fld.LNx_CD_CTL.STEP x) : Int) +
    fine * ((max 1 (d.get (Fld.LNx_CD_CTL.STEP x) / 10) : Nat) : Int))

/-- The device that has found dispersion v for port x. -/
def Dev.cdKept (d : Dev) (x : Nat) (v : Int) : Dev := (d.setLn x { d.ln x with cdFound := some v }).cdClamp x

theorem Dev.cdKept_found (d : Dev) (x : Nat) (v : Int) : ((d.cdKept x v).ln x).cdFound = some v := by
  rw [Dev.cdKept, Dev.cdClamp, Dev.ln, Dev.causeIs_line, Dev.put_line]
  exact congrArg LineState.cdFound ((Dev.ln_setLn ..).trans (if_pos rfl))

/-- A search whose points are tested ends, and TIMING begins. -/
theorem Dev.cdSearchDone_eq {x coarse : Nat} {fine : Int} {d : Dev} (h : d.rxState x = 2)
    (hcoarse : d.cdMin x + (coarse : Int) * (d.get (Fld.LNx_CD_CTL.STEP x) : Int) ≤ d.cdMax x)
    (hfine : fine.natAbs ≤ d.get (Fld.LNx_CD_CTL.STEP x) / max 1 (d.get (Fld.LNx_CD_CTL.STEP x) / 10)) :
    d.cdSearchDone x coarse fine = (d.cdKept x (d.cdResult x coarse fine)).enterRx x 3 := if_pos ⟨h, hcoarse, hfine⟩

/-! ### The states' ends (R135 to R139) -/

theorem Dev.rxAdvance_eq {x st : Nat} {d : Dev} (h : d.rxState x = st) : d.rxAdvance x st = d.enterRx x (st + 1) := if_pos h

theorem Dev.reacquire_rxState (d : Dev) (x : Port) : (d.reacquire x).rxState x = if d.cdSearches x then 2 else 3 :=
  d.enterRx_rxState x (by split <;> decide)

theorem Dev.rxLosEnter_eq {x below : Nat} {d : Dev} (h : 2 ≤ d.rxState x) (hpower : d.get (Fld.LNx_RX_FE_CTL.LOS_THR x) * 10 < below) :
    d.rxLosEnter x below = d.enterRx x 1 := by
  have hacquiring : ¬ d.rxState x ≤ 1 := by omega
  rw [Dev.rxLosEnter, if_neg hacquiring, if_pos (.inr hpower)]

theorem Dev.losExit_eq {x : Nat} {below : List Nat} {d : Dev} (h : d.rxState x = 1) (hinput : d.noInput x = false)
    (hlen : 16 ≤ below.length) (hpower : ∀ b ∈ below, b + 20 ≤ d.get (Fld.LNx_RX_FE_CTL.LOS_THR x) * 10) :
    d.losExit x below = d.reacquire x :=
  if_pos ⟨h, by rw [hinput]; rfl, hlen, List.all_eq_true.mpr fun b hb => decide_eq_true (hpower b hb)⟩

theorem Dev.syncFound_same {x : Nat} (w : Nat) {d : Dev} (h : d.rxState x = 6) : d.syncFound x w w = d.enterRx x 5 := by
  rw [Dev.syncFound, if_neg (not_not.mpr h), if_pos rfl]

theorem Dev.syncFound_ne {x w0 w1 : Nat} {d : Dev} (h : d.rxState x = 6) (hw : w0 ≠ w1) :
    d.syncFound x w0 w1 = (d.put (Fld.LNx_MIMO_STATUS.SWAP x) w0).enterRx x 7 := by
  rw [Dev.syncFound, if_neg (not_not.mpr h), if_neg hw]

/-- SWAP is what output 0 has matched (R138). -/
theorem Dev.swap_shows (d : Dev) (x w : Port) :
    ((d.put (Fld.LNx_MIMO_STATUS.SWAP x) w).enterRx x 7).get (Fld.LNx_MIMO_STATUS.SWAP x) = w := by
  rw [(Dev.enterRx_keeps _ 7 (offRx_swap x)).field, Dev.get_put_self _ _ _ (Fld.ok_of _ rfl rfl)]
  exact Nat.mod_eq_of_lt w.isLt

/-! ### Failures (R137, R139) -/

/-- The device as the count of a failure goes up and its cause arises. -/
def Dev.countFail (d : Dev) (f : Fld) (fault : Nat) : Dev := (d.incSat f).raise fault

theorem Dev.countFail_regs (d : Dev) (f : Fld) (fault : Nat) : RegsOut (· ≠ f.addr) d (d.countFail f fault) :=
  ((RegsOut.refl _ d).incSat f 1 fun _ => id).raise fault

/-- As a receive state is entered after a failure, the cause is on its way and the count shows it. -/
theorem Dev.countFail_shows (d : Dev) (x st fault : Nat) {f : Fld} (hf : OffRx x f) :
    Arising fault ((d.countFail f fault).enterRx x st) ∧
      ((d.countFail f fault).enterRx x st).get f = min (d.get f + 1) (2 ^ (f.hi - f.lo + 1) - 1) := by
  refine ⟨Dev.enterRx_arising x st (Dev.raise_arises _ _), ?_⟩
  have ⟨⟨hok, _⟩, _⟩ := hf
  rw [(Dev.enterRx_keeps _ st hf).field, Dev.countFail, ((RegsOut.refl (fun _ => True) _).raise fault).get _ trivial]
  exact Dev.get_incSat_self d f 1 hok

theorem Dev.acqTimeout_eq {x : Nat} {d : Dev} (hlo : 3 ≤ d.rxState x) (hhi : d.rxState x ≤ 7) :
    d.acqTimeout x = (d.countFail (Fld.LNx_ACQ_CNT.FAIL x) (fLN x 9)).reacquire x := if_pos ⟨hlo, hhi⟩

/-- The count of failures does not decide whether a search begins. -/
theorem Dev.cdSearches_countFail (d : Dev) (x : Port) (fault : Nat) :
    (d.countFail (Fld.LNx_ACQ_CNT.FAIL x) fault).cdSearches x = d.cdSearches x := by
  have hother : ∀ f ∈ searchFields x, f.addr ≠ (Fld.LNx_ACQ_CNT.FAIL x).addr := by revert x; decide
  exact Dev.cdSearches_congr fun f hf => (d.countFail_regs _ fault).get f (hother f hf)

theorem Dev.acqTimeout_shows (x : Port) {d : Dev} (hlo : 3 ≤ d.rxState x) (hhi : d.rxState x ≤ 7) :
    (d.acqTimeout x).rxState x = (if d.cdSearches x then 2 else 3) ∧ Arising (fLN x 9) (d.acqTimeout x) ∧
      (d.acqTimeout x).get (Fld.LNx_ACQ_CNT.FAIL x) = min (d.get (Fld.LNx_ACQ_CNT.FAIL x) + 1) 0xFFFF := by
  rw [Dev.acqTimeout_eq hlo hhi]
  refine ⟨?_, Dev.countFail_shows d x _ _ (offRx_fail x)⟩
  rw [Dev.reacquire_rxState, Dev.cdSearches_countFail]

theorem Dev.syncLoss_eq {x : Nat} {p : List (Nat × Nat)} {d : Dev} (h : d.rxState x = 8) (hlen : 4 ≤ p.length)
    (hp : ∀ e ∈ p, syncMatches e = false) :
    d.syncLoss x p = (d.countFail (Fld.LNx_SYNC_LOSS_CNT.LOSSES x) (fLN x 11)).enterRx x 5 :=
  if_pos ⟨h, hlen, List.all_eq_true.mpr fun e he => by rw [hp e he]; rfl⟩

theorem Dev.syncLoss_shows (x : Port) {p : List (Nat × Nat)} {d : Dev} (h : d.rxState x = 8) (hlen : 4 ≤ p.length)
    (hp : ∀ e ∈ p, syncMatches e = false) :
    (d.syncLoss x p).rxState x = 5 ∧ Arising (fLN x 11) (d.syncLoss x p) ∧
      (d.syncLoss x p).get (Fld.LNx_SYNC_LOSS_CNT.LOSSES x) = min (d.get (Fld.LNx_SYNC_LOSS_CNT.LOSSES x) + 1) (2 ^ 32 - 1) := by
  rw [Dev.syncLoss_eq h hlen hp]
  exact ⟨Dev.enterRx_rxState _ x (by decide), Dev.countFail_shows d x 5 _ (offRx_losses x)⟩

/-! ### O23 -/

/-- A state of Table 7 ends and the next one begins. -/
theorem State.rxAdvance_shows {s : State} (hrun : Running s) (x : Port) {st : Nat} (h : s.dev.rxState x = st) (hst : st < 8) :
    ∃ t, runDev (Dev.rxAdvance x st) s = .next t ∧ SameMemory s t ∧ t.dev = s.dev.enterRx x (st + 1) ∧ t.dev.rxState x = st + 1 := by
  refine ⟨_, runDev_alive hrun, ⟨rfl, rfl, rfl⟩, Dev.rxAdvance_eq h, ?_⟩
  rw [Dev.rxAdvance_eq h]
  exact s.dev.enterRx_rxState x (by omega)

theorem exec_rxLosEnter {s : State} (h : Running s) (x : Port) (below : Nat) :
    exec (.rxLosEnter x below) s = .next { s with dev := s.dev.rxLosEnter x below } := runDev_alive (f := Dev.rxLosEnter x below) h

theorem exec_losExit {s : State} (h : Running s) (x : Port) (below : List Nat) :
    exec (.losExit x below) s = .next { s with dev := s.dev.losExit x below } := runDev_alive (f := Dev.losExit x below) h

theorem exec_cdSearchDone {s : State} (h : Running s) (x : Port) (coarse : Nat) (fine : Int) :
    exec (.cdSearchDone x coarse fine) s = .next { s with dev := s.dev.cdSearchDone x coarse fine } :=
  runDev_alive (f := Dev.cdSearchDone x coarse fine) h

theorem exec_syncFound {s : State} (h : Running s) (x w0 w1 : Port) :
    exec (.syncFound x w0 w1) s = .next { s with dev := s.dev.syncFound x w0 w1 } := runDev_alive (f := Dev.syncFound x w0 w1) h

theorem exec_acqTimeout {s : State} (h : Running s) (x : Port) :
    exec (.acqTimeout x) s = .next { s with dev := s.dev.acqTimeout x } := runDev_alive (f := Dev.acqTimeout x) h

theorem exec_dspRestart {s : State} {req : Requester} {x : Port} (h : Writable req (2 + x) s) :
    exec (.dspRestart req x) s = .next { s with dev := s.dev.dspRestart x } := runWrite_runs (f := Dev.dspRestart x) h.1 h.2

theorem exec_syncLoss {s : State} (h : Running s) (x : Port) (p : List (Nat × Nat)) :
    exec (.syncLoss x p) s = .next { s with dev := s.dev.syncLoss x p } := runDev_alive (f := Dev.syncLoss x p) h

/-- Settles O23: each command by the receive state that it enters, and by what entering a receive state shows and leaves. -/
theorem acquisitionFollowsItsStates : Obligations.AcquisitionFollowsItsStates := by
  refine ⟨fun s x below hrun hst hpower => ?_, fun s x below hrun hst hinput hlen hpower => ?_,
    fun s x coarse fine hrun hst hcoarse hfine => ?_,
    fun s x hrun => ⟨fun hst => State.rxAdvance_shows hrun x hst (by decide), fun hst => State.rxAdvance_shows hrun x hst (by decide),
      fun hst => State.rxAdvance_shows hrun x hst (by decide), fun hst => ?_⟩,
    fun s x w0 w1 hrun hst => ⟨fun hw => ?_, fun hw => ?_⟩,
    fun s x hrun hlo hhi => ⟨_, exec_acqTimeout hrun x, ⟨rfl, rfl, rfl⟩, Dev.acqTimeout_shows x hlo hhi⟩, fun s req x hw => ?_,
    fun s x p hrun hst hlen hp => ⟨_, exec_syncLoss hrun x p, ⟨rfl, rfl, rfl⟩, Dev.syncLoss_shows x hst hlen hp⟩⟩
  · refine ⟨_, exec_rxLosEnter hrun x below, ⟨rfl, rfl, rfl⟩, ?_⟩
    rw [Dev.rxLosEnter_eq hst hpower]
    exact ⟨rfl, s.dev.enterRx_rxState x (by decide), (s.dev.present_enterRx_los x 1).mpr rfl⟩
  · refine ⟨_, exec_losExit hrun x below, ⟨rfl, rfl, rfl⟩, ?_⟩
    rw [Dev.losExit_eq hst hinput hlen hpower]
    have hnext : (if s.dev.cdSearches x then 2 else 3) ≠ 1 := by split <;> decide
    exact ⟨s.dev.reacquire_rxState x, fun h => hnext ((s.dev.present_enterRx_los x _).mp h)⟩
  · refine ⟨_, exec_cdSearchDone hrun x coarse fine, ⟨rfl, rfl, rfl⟩, ?_⟩
    rw [Dev.cdSearchDone_eq hst hcoarse hfine]
    have hkeep := (s.dev.cdKept x (s.dev.cdResult x coarse fine)).enterRx_keeps 3 (offRx_swap x)
    exact ⟨Dev.enterRx_rxState _ x (by decide), hkeep.found.trans (Dev.cdKept_found ..)⟩
  · obtain ⟨t, hexec, hmem, hdev, hstate⟩ := State.rxAdvance_shows hrun x hst (by decide)
    have hnot : s.dev.rxState x ≠ 8 := by omega
    exact ⟨t, hexec, hmem, hdev, hstate, hdev ▸ Dev.enterRx_track x hnot⟩
  · refine ⟨_, exec_syncFound hrun x w0 w1, ⟨rfl, rfl, rfl⟩, ?_⟩
    rw [hw, Dev.syncFound_same w1 hst]
    exact ⟨rfl, s.dev.enterRx_rxState x (by decide)⟩
  · refine ⟨_, exec_syncFound hrun x w0 w1, ⟨rfl, rfl, rfl⟩, ?_⟩
    rw [Dev.syncFound_ne hst (Fin.val_ne_of_ne hw)]
    exact ⟨Dev.enterRx_rxState _ x (by decide), s.dev.swap_shows x w0⟩
  · exact ⟨_, exec_dspRestart hw, Dev.get_put_self _ _ _ (Fld.ok_of _ rfl rfl),
      .ofDev ((RegsKept.refl _ s.dev).put _ _ (List.mem_singleton_self _))⟩

end Sys2Proof.Machine
end

section
/-! Frame alignment (R180 to R185): what storing an aligner leaves and shows, and what each event makes of an aligner. -/

namespace Sys2Proof.Machine

/-! ### Registers kept, continued -/

section
variable {l : List Nat} {d e : Dev} (h : RegsKept l d e)
include h

theorem RegsKept.incSat (f : Fld) (hf : f.addr ∈ l) : RegsKept l d (e.incSat f) := h.put _ _ hf

theorem RegsKept.causeIs (f : Nat) (b : Bool) : RegsKept l d (e.causeIs f b) := RegsOut.causeIs h f b

theorem RegsKept.ite {f : Dev} {c : Prop} {_ : Decidable c} (hf : RegsKept l d f) : RegsKept l d (if c then e else f) := by
  split <;> assumption

end

/-! ### Flags -/

theorem bit_mod_two (b : Bool) : bit b % 2 = bit b := by cases b <;> rfl

/-- A one-bit field written with a flag reads the flag. -/
theorem Dev.get_put_bit (d : Dev) (f : Fld) (b : Bool) (hf : f.ok) (h : f.hi = f.lo) : (d.put f (bit b)).get f = bit b := by
  rw [Dev.get_put_self d f _ hf, h, Nat.sub_self]
  exact bit_mod_two b

/-! ### Aligners as they are stored -/

theorem Dev.aligner_congr {d e : Dev} (h : e.frm.align = d.frm.align) (u : AlignUnit) : e.aligner u = d.aligner u := by
  rw [Dev.aligner, h, Dev.aligner]

/-- The device with an aligner stored; the filters of what leaves IF are reset (R188). -/
def Dev.storeAligner (d : Dev) (u : AlignUnit) (a : Aligner) : Dev :=
  let e := { d with frm := { d.frm with align := Sparse.put {} d.frm.align (AlignKey u) a } }
  if decide ((d.aligner u).state = 3) && decide (a.state ≠ 3) then { e with frm := { e.frm with
      filters := e.frm.filters.filter (fun i => !OhItem.unitIs u i.2.1 && !e.carriesItem u i.2.1),
      aps := e.frm.aps.filter (fun i => match u with | .port x => decide (e.flowPort i.1 ≠ x) | .flow _ _ => true),
      bei := e.frm.bei.filter (fun i => match u with
        | .port x => decide (i.1 ≠ x ∧ i.1 ≠ 2 + x)
        | .flow f _ => decide (i.1 ≠ 4 + f)) } } else e

/-- What the status register of port x shows of its aligner. -/
def Dev.showPort (d : Dev) (x : Nat) (a : Aligner) : Dev :=
  ((((d.put (Fld.FRM_x_OTU_STATUS.STATE x) a.state).put (Fld.FRM_x_OTU_STATUS.CANDS x) a.cands.length).put
    (Fld.FRM_x_OTU_STATUS.OOM x) (bit a.oom)).put (Fld.FRM_x_OTU_STATUS.LOF x) (bit a.lof)).put
    (Fld.FRM_x_OTU_STATUS.LOM x) (bit a.lom)

/-- The interrupt of port x when it enters or leaves IF. -/
def Dev.signalFrame (d : Dev) (x : Nat) (old a : Aligner) : Dev :=
  if (old.state = 3) ≠ (a.state = 3) then d.setInt intFRM (2 + x) else d

theorem Dev.setAligner_port (d : Dev) (x : Port) (a : Aligner) :
    d.setAligner (.port x) a = ((((d.storeAligner (.port x) a).showPort x a).signalFrame x (d.aligner (.port x)) a).causeIs
      (fFRM x 0) a.lof).causeIs (fFRM x 1) a.lom := rfl

theorem Dev.setAligner_flow (d : Dev) (f : Fin 1280) (x : Port) (a : Aligner) :
    d.setAligner (.flow f x) a =
      (let e := (d.storeAligner (.flow f x) a).showFlow f x a
       if (decide ((d.aligner (.flow f x)).state = 3) && decide (a.state ≠ 3)) = true ∧ e.flowPort f = x then
         { e with frm := { e.frm with aps := Sparse.erase f e.frm.aps } }.flowEvt f 1 else e).flowCheck := rfl

theorem Dev.storeAligner_regs (d : Dev) (u : AlignUnit) (a : Aligner) : (d.storeAligner u a).regs = d.regs := by
  unfold Dev.storeAligner; dsimp only; split <;> rfl

theorem Dev.storeAligner_align (d : Dev) (u : AlignUnit) (a : Aligner) :
    (d.storeAligner u a).frm.align = Sparse.put {} d.frm.align (AlignKey u) a := by
  unfold Dev.storeAligner; dsimp only; split <;> rfl

theorem OnlyRegs.frm {d e : Dev} (h : OnlyRegs d e) : e.frm = d.frm := by rw [h]

theorem Dev.showFlow_onlyRegs (d : Dev) (f x : Nat) (a : Aligner) : OnlyRegs d (d.showFlow f x a) :=
  .ite ((((OnlyRegs.put d _ _).trans (.put _ _ _)).trans (.put _ _ _)).trans (.put _ _ _)) (.refl d)

theorem Dev.showFlow_frm (d : Dev) (f x : Nat) (a : Aligner) : (d.showFlow f x a).frm = d.frm := (Dev.showFlow_onlyRegs ..).frm

theorem Dev.flowCheck_frm (d : Dev) : d.flowCheck.frm = d.frm :=
  (Dev.causeIs_frm ..).trans (OnlyRegs.foldl _ (fun e _ => .put e _ _) d.flows d).frm

theorem Dev.flowEvt_frm (d : Dev) (f i : Nat) : (d.flowEvt f i).frm = d.frm := Dev.setInt_frm ..

theorem Dev.setAligner_align (d : Dev) (u : AlignUnit) (a : Aligner) :
    (d.setAligner u a).frm.align = Sparse.put {} d.frm.align (AlignKey u) a := by
  rw [← d.storeAligner_align u a]
  cases u with
  | port x =>
    rw [Dev.setAligner_port, Dev.causeIs_frm, Dev.causeIs_frm, Dev.signalFrame]
    split
    · rw [Dev.setInt_frm]; rfl
    · rfl
  | flow f x =>
    rw [Dev.setAligner_flow, Dev.flowCheck_frm, ← Dev.showFlow_frm (d.storeAligner (.flow f x) a) f x a]
    dsimp only
    split
    · rw [Dev.flowEvt_frm]
    · rfl

/-- The aligner stored is read back. -/
@[simp] theorem Dev.aligner_setAligner (d : Dev) (u : AlignUnit) (a : Aligner) : (d.setAligner u a).aligner u = a := by
  rw [Dev.aligner, Dev.setAligner_align, Sparse.get_put_self]

/-- Causes on their way stay on their way as an aligner is stored. -/
theorem Dev.setAligner_arising {d : Dev} (u : AlignUnit) (a : Aligner) {f : Nat} (h : Arising f d) : Arising f (d.setAligner u a) :=
  ((KeepsStr.refl d).setAligner u a).arising f h

/-! ### What a port shows of its aligner -/

theorem RegsKept.showPort {l : List Nat} {d e : Dev} (h : RegsKept l d e) (x : Nat) (a : Aligner) (hl : Reg.FRM_x_OTU_STATUS x ∈ l) :
    RegsKept l d (e.showPort x a) := ((((h.put _ _ hl).put _ _ hl).put _ _ hl).put _ _ hl).put _ _ hl

/-- A port's aligner is stored: its status register changes, and the interrupt status where it enters or leaves IF. -/
theorem RegsKept.setAligner {l : List Nat} {d e : Dev} (h : RegsKept l d e) (x : Port) (a : Aligner) (hl : Reg.FRM_x_OTU_STATUS x ∈ l)
    (hi : ((e.aligner (.port x)).state = 3 ↔ a.state = 3) ∨ Reg.FRM_INT_STATUS ∈ l) : RegsKept l d (e.setAligner (.port x) a) := by
  have hshow : RegsKept l d ((e.storeAligner (.port x) a).showPort x a) := (h.same (e.storeAligner_regs _ a)).showPort x a hl
  rw [Dev.setAligner_port, Dev.signalFrame]
  split
  · next hne => exact ((hshow.setInt _ _ (hi.resolve_left fun hiff => hne (propext hiff))).causeIs _ _).causeIs _ _
  · exact (hshow.causeIs _ _).causeIs _ _

/-- A field of the port's status register, as storing an aligner leaves it. -/
theorem Dev.get_setAligner_port (d : Dev) (x : Port) (a : Aligner) {g : Fld} (hg : g.addr = Reg.FRM_x_OTU_STATUS x) :
    (d.setAligner (.port x) a).get g = ((d.storeAligner (.port x) a).showPort x a).get g := by
  have hint : g.addr ≠ intFRM.status := by
    rw [hg]; show Reg.FRM_x_OTU_STATUS x ≠ Reg.FRM_INT_STATUS; unfold Reg.FRM_x_OTU_STATUS Reg.FRM_INT_STATUS; omega
  rw [Dev.setAligner_port, Dev.causeIs_get, Dev.causeIs_get, Dev.signalFrame]
  split
  · exact Dev.get_setInt_ne _ _ _ hint
  · rfl

theorem Dev.state_setAligner (d : Dev) (x : Port) (a : Aligner) :
    (d.setAligner (.port x) a).get (Fld.FRM_x_OTU_STATUS.STATE x) = a.state % 8 := by
  rw [Dev.get_setAligner_port d x a rfl, Dev.showPort,
    Dev.get_put_below _ _ (Fld.ok_of _ rfl rfl) (Fld.ok_of _ rfl rfl) rfl,
    Dev.get_put_below _ _ (Fld.ok_of _ rfl rfl) (Fld.ok_of _ rfl rfl) rfl,
    Dev.get_put_below _ _ (Fld.ok_of _ rfl rfl) (Fld.ok_of _ rfl rfl) rfl,
    Dev.get_put_below _ _ (Fld.ok_of _ rfl rfl) (Fld.ok_of _ rfl rfl) rfl,
    Dev.get_put_self _ _ _ (Fld.ok_of _ rfl rfl)]
  rfl

theorem Dev.oom_setAligner (d : Dev) (x : Port) (a : Aligner) :
    (d.setAligner (.port x) a).get (Fld.FRM_x_OTU_STATUS.OOM x) = bit a.oom := by
  rw [Dev.get_setAligner_port d x a rfl, Dev.showPort,
    Dev.get_put_below _ _ (Fld.ok_of _ rfl rfl) (Fld.ok_of _ rfl rfl) rfl,
    Dev.get_put_below _ _ (Fld.ok_of _ rfl rfl) (Fld.ok_of _ rfl rfl) rfl,
    Dev.get_put_bit _ _ _ (Fld.ok_of _ rfl rfl) rfl]

theorem Dev.lof_setAligner (d : Dev) (x : Port) (a : Aligner) :
    (d.setAligner (.port x) a).get (Fld.FRM_x_OTU_STATUS.LOF x) = bit a.lof := by
  rw [Dev.get_setAligner_port d x a rfl, Dev.showPort,
    Dev.get_put_below _ _ (Fld.ok_of _ rfl rfl) (Fld.ok_of _ rfl rfl) rfl,
    Dev.get_put_bit _ _ _ (Fld.ok_of _ rfl rfl) rfl]

theorem Dev.lom_setAligner (d : Dev) (x : Port) (a : Aligner) :
    (d.setAligner (.port x) a).get (Fld.FRM_x_OTU_STATUS.LOM x) = bit a.lom := by
  rw [Dev.get_setAligner_port d x a rfl, Dev.showPort, Dev.get_put_bit _ _ _ (Fld.ok_of _ rfl rfl) rfl]

/-- FRM.0 of the port is present with LOF, FRM.1 with LOM (R185). -/
theorem Dev.present_setAligner (d : Dev) (x : Port) (a : Aligner) :
    (Present (fFRM x 0) (d.setAligner (.port x) a) ↔ a.lof = true) ∧ (Present (fFRM x 1) (d.setAligner (.port x) a) ↔ a.lom = true) := by
  have hne : fFRM x 0 ≠ fFRM x 1 := by unfold fFRM; omega
  simp [Present, Dev.setAligner_port, Dev.mem_causes_causeIs, hne]

/-- A port that enters IF signals it. -/
theorem Dev.setAligner_signals {d : Dev} {x : Port} {a : Aligner} (hold : (d.aligner (.port x)).state ≠ 3) (ha : a.state = 3) :
    (d.setAligner (.port x) a).bitAt Reg.FRM_INT_STATUS (2 + x) = true := by
  rw [Dev.setAligner_port, Dev.causeIs_bitAt, Dev.causeIs_bitAt, Dev.signalFrame, if_pos (by simp [hold, ha])]
  exact Dev.bitAt_setInt_self _ intFRM (by omega)

end Sys2Proof.Machine
end

section
/-! Frame alignment (R180 to R184): matches, misses, check frames, revocation and loss, and the obligation. -/

namespace Sys2Proof.Machine

/-! ### The FAS (R180) -/

theorem getElem?_sliceBytes (l : List Byte) (off n i : Nat) :
    (sliceBytes l off n)[i]? = if i < n then some (l.getD (off + i) 0) else none := by
  unfold sliceBytes
  rw [List.getElem?_append, List.getElem?_replicate, List.getElem?_take, List.getElem?_drop]
  simp only [List.length_take, List.length_drop, List.getD_eq_getElem?_getD]
  by_cases hi : off + i < l.length
  · by_cases hn : i < n
    · have hin : i < min n (l.length - off) := by omega
      simp [hin, hn, hi]
    · have hout : ¬ i < min n (l.length - off) := by omega
      have hpad : ¬ i - min n (l.length - off) < n - min n (l.length - off) := by omega
      simp [hout, hpad, hn]
  · have hout : ¬ i < min n (l.length - off) := by omega
    have hpad : i - min n (l.length - off) < n - min n (l.length - off) ↔ i < n := by omega
    rw [if_neg hout, List.getElem?_eq_none (Nat.le_of_not_lt hi)]
    simp only [hpad, Option.getD_none]

/-- A slice of a slice of bytes. -/
theorem sliceBytes_add {b n m : Nat} (h : b + n ≤ m) (l : List Byte) (a : Nat) :
    sliceBytes l (a + b) n = ((sliceBytes l a m).drop b).take n := by
  apply List.ext_getElem?
  intro i
  rw [List.getElem?_take, List.getElem?_drop, getElem?_sliceBytes, getElem?_sliceBytes]
  by_cases hi : i < n
  · have hm : b + i < m := by omega
    rw [if_pos hi, if_pos hi, if_pos hm, Nat.add_assoc]
  · rw [if_neg hi, if_neg hi]

/-- A FAS of either length has bytes 2 to 5 of the pattern. -/
theorem not_fasAt_of_noFas {head : List Byte} (h : NoFas head) (long : Bool) : fasAt long head 0 = false := by
  cases long
  · exact beq_eq_false_iff_ne.mpr h
  · refine beq_eq_false_iff_ne.mpr fun hsix => h ?_
    rw [show (1 : Nat) = 16 * 0 + 1 from rfl, sliceBytes_add (m := 6) (by decide), hsix]
    rfl

theorem Dev.fasSeen_of_noFas (d : Dev) (u : AlignUnit) {head : List Byte} (h : NoFas head) : d.fasSeen u head = false := by
  rw [Dev.fasSeen, not_fasAt_of_noFas h, Bool.and_false]

theorem Dev.fasSeen_of_matches {s : State} {u : AlignUnit} {head : List Byte} (h : FasMatches u head s) :
    s.dev.fasSeen u head = true := by
  obtain ⟨hlen, hfas⟩ := h
  have hbit : s.dev.get (Fld.FRM_x_OTU_CTL.FAS_LEN (alignPort u)) < 2 := s.dev.get_lt _
  rw [Dev.fasSeen, decide_eq_true hlen, Bool.true_and, Dev.isSet]
  split at hfas
  · next hlong => rw [hlong]; exact beq_iff_eq.mpr hfas
  · next hshort =>
    have hzero : s.dev.get (Fld.FRM_x_OTU_CTL.FAS_LEN (alignPort u)) = 0 := by omega
    rw [hzero]
    exact beq_iff_eq.mpr hfas

/-! ### Candidates (R181, R182) -/

@[simp] theorem Aligner.search_cands (a : Aligner) : a.search.cands = a.cands := rfl
@[simp] theorem Aligner.search_barred (a : Aligner) : a.search.barred = a.barred := rfl

@[simp] theorem Aligner.enterCheck_cands (a : Aligner) : a.enterCheck.cands = a.cands := by
  unfold Aligner.enterCheck; split <;> [split; skip] <;> rfl

@[simp] theorem Aligner.enterCheck_barred (a : Aligner) : a.enterCheck.barred = a.barred := by
  unfold Aligner.enterCheck; split <;> [split; skip] <;> rfl

/-- A match where no candidate stands makes one, while fewer than 16 are held. -/
theorem Aligner.matched_new {a : Aligner} {o : Nat} (hnew : a.cands.find? (fun c => c.offset == o) = none) (hbar : o ∉ a.barred)
    (hroom : a.cands.length < 16) (nIn : Nat) (mfas : BitVec 8) :
    (a.matched nIn o mfas).1.cands = a.cands ++ [{ offset := o, count := 1, mfas := mfas }] ∧ (a.matched nIn o mfas).2 = false := by
  have hheld : ¬ 16 ≤ a.cands.length := by omega
  simp only [Aligner.matched, hnew, hbar, hheld, if_false, Aligner.search_cands, Aligner.enterCheck_cands, and_self]

/-- The same match is dropped where 16 are held. -/
theorem Aligner.matched_full {a : Aligner} {o : Nat} (hnew : a.cands.find? (fun c => c.offset == o) = none) (hbar : o ∉ a.barred)
    (hfull : 16 ≤ a.cands.length) (nIn : Nat) (mfas : BitVec 8) : a.matched nIn o mfas = (a, true) := by
  simp only [Aligner.matched, hnew, hbar, hfull, if_true, if_false]

/-! ### Matches and misses (R181, R184) -/

section
variable {d : Dev} {u : AlignUnit} {o : Nat} {head : List Byte} {e : FrameErrs}

theorem Dev.fasMatch_off (h : d.alignOn u = false) : d.fasMatch u o head e = d := by
  simp [Dev.fasMatch, h]

theorem Dev.fasMiss_off {m : FrameSeen} (h : d.alignOn u = false) : d.fasMiss u m = d := by
  simp [Dev.fasMiss, h]

/-- What a match dropped since 16 candidates are held reports of its port. -/
def Dev.reportOvf (d : Dev) : AlignUnit → Dev
  | .port x => (d.incSat (Fld.FRM_x_ALIGN_CNT.CAND_OVF x)).raise 180
  | .flow _ _ => d.raise 180

/-- A match outside IF. -/
theorem Dev.fasMatch_search (hon : d.alignOn u = true) (hfas : d.fasSeen u head = true) (hst : (d.aligner u).state ≠ 3) :
    d.fasMatch u o head e =
      (let r := (d.aligner u).matched (d.get (Fld.FRM_x_OTU_CTL.N_IN (alignPort u))) o (frameMfas head)
       (if r.2 then d.reportOvf u else d).setAligner u r.1) := by
  simp only [Dev.fasMatch, hon, hfas, Bool.not_true, Bool.or_self, Bool.false_eq_true, if_false, if_neg hst]
  cases u <;> rfl

/-- The entry in the port's timing tap as a frame is checked. -/
def Dev.frameStarts (d : Dev) (mfas : BitVec 8) : AlignUnit → Dev
  | .port x => d.otuFrameStart x false mfas.toNat
  | .flow _ _ => d

/-- A match in IF at the expected position. -/
theorem Dev.fasMatch_inFrame (hon : d.alignOn u = true) (hfas : d.fasSeen u head = true) (hst : (d.aligner u).state = 3) :
    d.fasMatch u (d.aligner u).offset head e =
      ((d.frameStarts (frameMfas head) u).setAligner u ((d.aligner u).inFrame (frameMfas head))).countErrs u head e := by
  simp only [Dev.fasMatch, hon, hfas, Bool.not_true, Bool.or_self, Bool.false_eq_true, if_false, if_pos hst, if_true]
  cases u <;> rfl

/-- An aligner in IF that misses a FAS. -/
def Aligner.missed (a : Aligner) : Aligner :=
  { a with misses := a.misses + 1, follow := 0, phase := if a.oom then a.phase else a.phase + 1 }

/-- A miss in IF at the expected position. -/
theorem Dev.fasMiss_inFrame {m : FrameSeen} (hon : d.alignOn u = true) (hfas : d.fasSeen u m.head = false)
    (hst : (d.aligner u).state = 3) (ho : m.offset = (d.aligner u).offset) :
    d.fasMiss u m = (d.setAligner u (d.aligner u).missed).countErrs u m.head m.errs := by
  simp only [Dev.fasMiss, hon, hfas, Bool.not_true, Bool.or_self, Bool.false_eq_true, if_false, if_pos hst, if_pos ho, Aligner.missed]

/-- An aligner outside IF without the candidate at an offset. -/
def Aligner.discard (a : Aligner) (o : Nat) : Aligner :=
  { a with cands := a.cands.filter (fun c => c.offset != o), eligible := a.eligible.filter (fun p => p != o) }

/-- A miss outside IF discards the candidate, but for the one in MF_CHECK. -/
theorem Dev.fasMiss_search {m : FrameSeen} (hon : d.alignOn u = true) (hfas : d.fasSeen u m.head = false)
    (hst : (d.aligner u).state ≠ 3) (hcheck : (d.aligner u).check.map (·.1) ≠ some m.offset) :
    d.fasMiss u m = d.setAligner u ((d.aligner u).discard m.offset).search := by
  simp only [Dev.fasMiss, hon, hfas, Bool.not_true, Bool.or_self, Bool.false_eq_true, if_false, if_neg hst, if_neg hcheck, Aligner.discard]

end

/-- The counters of a unit as errors are counted. -/
def Dev.errsCounted (d : Dev) (u : AlignUnit) (head : List Byte) (e : FrameErrs) : Dev :=
  match u with
  | .port x =>
    ((((if d.slicesBad x head then d.incSat (Fld.FRM_x_SLICE_FAS_CNT.FRAMES x) else d).incSat (Fld.FRM_x_SM_BIP_CNT.ERRORS x)
      (sumErrs e.smBip)).incSat (Fld.FRM_x_SM_BEI_CNT.ERRORS x) e.smBei).incSat
      (Fld.FRM_x_PM_BIP_CNT.ERRORS x) (sumErrs e.pmBip)).incSat (Fld.FRM_x_PM_BEI_CNT.ERRORS x) e.pmBei
  | .flow f _ => (d.incSat (Fld.FRM_FLOW_BIP_CNT.ERRORS f) (sumErrs e.pmBip)).incSat (Fld.FRM_FLOW_BEI_CNT.ERRORS f) e.pmBei

theorem Dev.errsCounted_frm (d : Dev) (u : AlignUnit) (head : List Byte) (e : FrameErrs) : (d.errsCounted u head e).frm = d.frm := by
  cases u with
  | port x => simp only [Dev.errsCounted, Dev.incSat_frm, apply_ite Dev.frm, ite_self]
  | flow f x => simp only [Dev.errsCounted, Dev.incSat_frm]

theorem Dev.countErrs_frm (d : Dev) (u : AlignUnit) (head : List Byte) (e : FrameErrs) :
    ∃ l, (d.countErrs u head e).frm = { (d.errsCounted u head e).frm with bei := l } := by
  cases u <;> exact ⟨_, rfl⟩

/-- Counting errors leaves the aligners. -/
theorem Dev.countErrs_align (d : Dev) (u : AlignUnit) (head : List Byte) (e : FrameErrs) :
    (d.countErrs u head e).frm.align = d.frm.align := by
  obtain ⟨l, hl⟩ := d.countErrs_frm u head e
  rw [hl, Dev.errsCounted_frm]

@[simp] theorem Dev.aligner_countErrs (d : Dev) (u v : AlignUnit) (head : List Byte) (e : FrameErrs) :
    (d.countErrs u head e).aligner v = d.aligner v := Dev.aligner_congr (d.countErrs_align u head e) v

/-- A frame with a FAS in IF ends the misses; the phase goes on, or stays held while OOM lasts. -/
theorem Aligner.inFrame_shows (a : Aligner) (mfas : BitVec 8) :
    (a.inFrame mfas).misses = 0 ∧ (a.inFrame mfas).state = a.state ∧
      (a.inFrame mfas).phase = if a.oom then a.phase else a.phase + 1 := by
  unfold Aligner.inFrame
  split
  · exact ⟨rfl, rfl, rfl⟩
  · exact ⟨rfl, rfl, rfl⟩

/-! ### The check of a candidate (R182, R183) -/

section
variable {d : Dev} {u : AlignUnit} {head : List Byte} {o : Nat} {l : List (Option (BitVec 8))}

/-- The MFAS of a check frame; none where its FAS is missing. -/
def Dev.checkedMfas (d : Dev) (u : AlignUnit) (head : List Byte) : Option (BitVec 8) :=
  if d.fasSeen u head then some (frameMfas head) else none

/-- An aligner that enters IF at an offset with a phase. -/
def Aligner.enterFrame (a : Aligner) (o : Nat) (mfas : BitVec 8) : Aligner :=
  { state := 3, offset := o, phase := mfas, lof := a.lof, lom := a.lom, barred := a.barred }

theorem Dev.mfCheckFrame_confirms (hon : d.alignOn u = true) (hc : (d.aligner u).check = some (o, l)) (hl : l.length < 5)
    (hconf : confirmed (l ++ [d.checkedMfas u head]) = true) :
    d.mfCheckFrame u head = d.setAligner u ((d.aligner u).enterFrame o (frameMfas head)) := by
  have hroom : ¬ 5 ≤ l.length := by omega
  rw [Dev.checkedMfas] at hconf
  simp only [Dev.mfCheckFrame, hon, hc, if_neg hroom, if_pos hconf, Aligner.enterFrame]

theorem Dev.mfCheckFrame_goesOn (hon : d.alignOn u = true) (hc : (d.aligner u).check = some (o, l)) (hl : l.length < 5)
    (hconf : confirmed (l ++ [d.checkedMfas u head]) = false) :
    d.mfCheckFrame u head = d.setAligner u { d.aligner u with check := some (o, l ++ [d.checkedMfas u head]) } := by
  have hroom : ¬ 5 ≤ l.length := by omega
  rw [Dev.checkedMfas] at *
  simp only [Dev.mfCheckFrame, hon, hc, if_neg hroom, hconf, Bool.false_eq_true, if_false]

/-- A missed FAS confirms nothing. -/
theorem confirmed_append_none (l : List (Option (BitVec 8))) : confirmed (l ++ [none]) = false := by
  simp [confirmed]

/-- What revoking a candidate counts and reports of its port. -/
def Dev.reportRevoke (d : Dev) : AlignUnit → Dev
  | .port x => (d.incSat (Fld.FRM_x_ALIGN_CNT.REVOKE x)).raise (fFRM x 5)
  | .flow _ x => d.raise (fFRM x 5)

/-- An aligner whose candidate in MF_CHECK is revoked and its offset barred. -/
def Aligner.revoked (a : Aligner) (o : Nat) : Aligner :=
  { a with check := none, cands := a.cands.filter (fun c => c.offset != o), barred := a.barred ++ [o] }

theorem Dev.revoke_eq (hc : (d.aligner u).check = some (o, l)) (hl : 5 ≤ l.length) :
    d.revoke u = (d.reportRevoke u).setAligner u ((d.aligner u).revoked o).enterCheck.search := by
  have hdone : ¬ l.length < 5 := by omega
  simp only [Dev.revoke, hc, if_neg hdone]
  cases u <;> rfl

end

/-! ### Counters of a port's aligner (Table 17) -/

/-- A counter of FRM_x_ALIGN_CNT, as storing the port's aligner leaves it. -/
theorem Dev.alignCnt_setAligner (d : Dev) (x : Port) (a : Aligner) {g : Fld} (hg : g.addr = Reg.FRM_x_ALIGN_CNT x) :
    (d.setAligner (.port x) a).get g = d.get g := by
  have hkept : RegsKept [Reg.FRM_x_OTU_STATUS x, Reg.FRM_INT_STATUS] d (d.setAligner (.port x) a) :=
    (RegsKept.refl _ d).setAligner x a (by simp) (.inr (by simp))
  refine RegsOut.get hkept g ?_
  rw [hg]
  unfold Reg.FRM_x_ALIGN_CNT Reg.FRM_x_OTU_STATUS Reg.FRM_INT_STATUS
  simp only [List.mem_cons, List.not_mem_nil, or_false]
  omega

/-- A counter of a port's aligner goes up, a cause arises, and an aligner is stored: the count is read back. -/
theorem Dev.alignCnt_counted (d : Dev) (x : Port) (a : Aligner) (fault : Nat) {g : Fld} (hg : g.addr = Reg.FRM_x_ALIGN_CNT x) (hok : g.ok) :
    (((d.incSat g).raise fault).setAligner (.port x) a).get g = min (d.get g + 1) (2 ^ (g.hi - g.lo + 1) - 1) := by
  rw [Dev.alignCnt_setAligner _ x a hg, Dev.raise_get, Dev.get_incSat_self d g 1 hok]

/-! ### The events of a port's aligner -/

theorem Dev.reportOvf_frm (d : Dev) (u : AlignUnit) : (d.reportOvf u).frm = d.frm := by
  cases u with
  | port x => exact (Dev.raise_frm ..).trans (Dev.incSat_frm ..)
  | flow f x => exact Dev.raise_frm ..

/-- A match dropped since 16 candidates are held: the port's aligner stays, and the drop is counted and reported. -/
theorem Dev.fasMatch_dropped {d : Dev} {x : Port} {o : Nat} {head : List Byte} (e : FrameErrs) (hon : d.alignOn (.port x) = true)
    (hfas : d.fasSeen (.port x) head = true) (hst : (d.aligner (.port x)).state ≠ 3)
    (hnew : (d.aligner (.port x)).cands.find? (fun c => c.offset == o) = none) (hbar : o ∉ (d.aligner (.port x)).barred)
    (hfull : 16 ≤ (d.aligner (.port x)).cands.length) :
    d.fasMatch (.port x) o head e = (d.reportOvf (.port x)).setAligner (.port x) (d.aligner (.port x)) := by
  rw [Dev.fasMatch_search hon hfas hst, Aligner.matched_full hnew hbar hfull]
  rfl

/-- A port whose candidate is confirmed enters IF and signals it. -/
theorem Dev.setAligner_enterFrame {d : Dev} {x : Port} (hst : (d.aligner (.port x)).state ≠ 3) (o : Nat) (mfas : BitVec 8) :
    let e := d.setAligner (.port x) ((d.aligner (.port x)).enterFrame o mfas)
    e.get (Fld.FRM_x_OTU_STATUS.STATE x) = 3 ∧ e.bitAt Reg.FRM_INT_STATUS (2 + x) = true ∧
      RegsKept [Reg.FRM_x_OTU_STATUS x, Reg.FRM_INT_STATUS] d e :=
  ⟨d.state_setAligner x _, Dev.setAligner_signals hst rfl, (RegsKept.refl _ d).setAligner x _ (by simp) (.inr (by simp))⟩

/-- A port whose aligner keeps its state changes its status register at most. -/
theorem Dev.setAligner_regsKept {d : Dev} {x : Port} {a : Aligner} (h : a.state = (d.aligner (.port x)).state) :
    RegsKept [Reg.FRM_x_OTU_STATUS x] d (d.setAligner (.port x) a) :=
  (RegsKept.refl _ d).setAligner x a (List.mem_singleton_self _) (.inl (by rw [h]))

/-- A port that has missed N_OUT frames counts the loss and stands in OOF. -/
theorem Dev.outOfFrame_port {d : Dev} {x : Port} (hst : (d.aligner (.port x)).state = 3)
    (hout : d.get (Fld.FRM_x_OTU_CTL.N_OUT x) ≤ (d.aligner (.port x)).misses) :
    d.outOfFrame (.port x) = (d.incSat (Fld.FRM_x_ALIGN_CNT.OOF x)).setAligner (.port x) (d.aligner (.port x)).lost := if_pos ⟨hst, hout⟩

/-! ### O26 -/

theorem exec_fasMatch {s : State} (h : Running s) (u : AlignUnit) (o : Nat) (head : List Byte) (e : FrameErrs) :
    exec (.fasMatch u o head e) s = .next { s with dev := s.dev.fasMatch u o head e } := runDev_alive (f := Dev.fasMatch u o head e) h

theorem exec_fasMiss {s : State} (h : Running s) (u : AlignUnit) (m : FrameSeen) :
    exec (.fasMiss u m) s = .next { s with dev := s.dev.fasMiss u m } := runDev_alive (f := Dev.fasMiss u m) h

theorem exec_mfCheckFrame {s : State} (h : Running s) (u : AlignUnit) (head : List Byte) :
    exec (.mfCheckFrame u head) s = .next { s with dev := s.dev.mfCheckFrame u head } := runDev_alive (f := Dev.mfCheckFrame u head) h

theorem exec_revoke {s : State} (h : Running s) (u : AlignUnit) :
    exec (.revoke u) s = .next { s with dev := s.dev.revoke u } := runDev_alive (f := Dev.revoke u) h

theorem exec_barExpiry {s : State} (h : Running s) (u : AlignUnit) (o : Nat) :
    exec (.barExpiry u o) s = .next { s with dev := s.dev.barExpiry u o } := runDev_alive (f := Dev.barExpiry u o) h

theorem exec_oof {s : State} (h : Running s) (u : AlignUnit) :
    exec (.oof u) s = .next { s with dev := s.dev.outOfFrame u } := runDev_alive (f := Dev.outOfFrame u) h

/-- Settles O26: each event by the aligner that it stores, and by what storing an aligner shows and leaves. -/
theorem framersAlign : Obligations.FramersAlign := by
  refine ⟨fun s u o h e m hrun hoff => ?off, fun s u o h e hrun hon hfas hst hnew hbar hroom => ?newCandidate,
    fun s x o h e hrun hon hfas hst hnew hbar hfull => ?dropped,
    fun s u h e m hrun hon hst => ⟨fun hfas => ?matchInFrame, fun hno ho => ?missInFrame⟩, fun s u m hrun hon hst hno hcheck => ?missSearching,
    fun s x h o l hrun hon hc hl => ⟨fun hfas hconf hst => ?confirms, fun hfas hconf => ?goesOn, fun hno => ?checkMissed⟩,
    fun s x o l hrun hc hl => ?revokes, fun s u o hrun => ?barEnds, fun s x hrun hst hout => ?loses⟩
  case off =>
    rw [exec_fasMatch hrun, exec_fasMiss hrun, Dev.fasMatch_off hoff, Dev.fasMiss_off hoff]
    exact ⟨rfl, rfl⟩
  case newCandidate =>
    obtain ⟨hcands, hkept⟩ := Aligner.matched_new hnew hbar hroom (s.dev.get (Fld.FRM_x_OTU_CTL.N_IN (alignPort u))) (frameMfas h)
    refine ⟨_, exec_fasMatch hrun u o h e, ⟨rfl, rfl, rfl⟩, ?_⟩
    rw [Dev.fasMatch_search hon (Dev.fasSeen_of_matches hfas) hst, Dev.aligner_setAligner, hcands, frameMfas]
  case dropped =>
    refine ⟨_, exec_fasMatch hrun _ o h e, ?_⟩
    rw [Dev.fasMatch_dropped e hon (Dev.fasSeen_of_matches hfas) hst hnew hbar hfull]
    refine ⟨Dev.aligner_setAligner .., Dev.setAligner_arising _ _ (Dev.raise_arises _ _),
      Dev.alignCnt_counted _ x _ 180 rfl (Fld.ok_of _ rfl rfl), .ofDev ?_⟩
    have hcount : RegsKept [Reg.FRM_x_ALIGN_CNT x, Reg.FRM_x_OTU_STATUS x] s.dev (s.dev.reportOvf (.port x)) :=
      ((RegsKept.refl _ s.dev).incSat (Fld.FRM_x_ALIGN_CNT.CAND_OVF x) (by simp [Fld.FRM_x_ALIGN_CNT.CAND_OVF])).raise 180
    have hsame : (s.dev.reportOvf (.port x)).aligner (.port x) = s.dev.aligner (.port x) :=
      Dev.aligner_congr (congrArg FrmState.align (Dev.reportOvf_frm ..)) _
    exact hcount.setAligner x _ (by simp) (.inl (by rw [hsame]))
  case matchInFrame =>
    refine ⟨_, exec_fasMatch hrun u _ h e, ⟨rfl, rfl, rfl⟩, ?_⟩
    rw [Dev.fasMatch_inFrame hon (Dev.fasSeen_of_matches hfas) hst, Dev.aligner_countErrs, Dev.aligner_setAligner]
    obtain ⟨hmisses, hstate, hphase⟩ := Aligner.inFrame_shows (s.dev.aligner u) (frameMfas h)
    exact ⟨hmisses, hstate.trans hst, hphase⟩
  case missInFrame =>
    refine ⟨_, exec_fasMiss hrun u m, ⟨rfl, rfl, rfl⟩, ?_⟩
    rw [Dev.fasMiss_inFrame hon (Dev.fasSeen_of_noFas _ _ hno) hst ho, Dev.aligner_countErrs, Dev.aligner_setAligner]
    exact ⟨rfl, rfl⟩
  case missSearching =>
    refine ⟨_, exec_fasMiss hrun u m, ⟨rfl, rfl, rfl⟩, ?_⟩
    rw [Dev.fasMiss_search hon (Dev.fasSeen_of_noFas _ _ hno) hst hcheck, Dev.aligner_setAligner]
    refine ⟨fun c hc => ?_, fun ho => ?_, rfl⟩
    · exact bne_iff_ne.mp (List.mem_filter.mp hc).2
    · exact bne_iff_ne.mp (List.mem_filter.mp ho).2 rfl
  case confirms =>
    have hmfas : s.dev.checkedMfas (.port x) h = some (frameMfas h) := if_pos (Dev.fasSeen_of_matches hfas)
    obtain ⟨hshown, hint, hkept⟩ := Dev.setAligner_enterFrame hst o (frameMfas h)
    refine ⟨_, exec_mfCheckFrame hrun _ h, ?_⟩
    rw [Dev.mfCheckFrame_confirms hon hc hl (hmfas ▸ hconf), Dev.aligner_setAligner]
    exact ⟨rfl, rfl, rfl, rfl, hshown, hint, .ofDev hkept⟩
  case goesOn =>
    have hmfas : s.dev.checkedMfas (.port x) h = some (frameMfas h) := if_pos (Dev.fasSeen_of_matches hfas)
    refine ⟨_, exec_mfCheckFrame hrun _ h, ?_⟩
    rw [Dev.mfCheckFrame_goesOn hon hc hl (hmfas ▸ hconf), Dev.aligner_setAligner, hmfas]
    exact ⟨rfl, .ofDev (Dev.setAligner_regsKept rfl)⟩
  case checkMissed =>
    have hmfas : s.dev.checkedMfas (.port x) h = none := if_neg (by rw [Dev.fasSeen_of_noFas _ _ hno]; decide)
    refine ⟨_, exec_mfCheckFrame hrun _ h, ?_⟩
    rw [Dev.mfCheckFrame_goesOn hon hc hl (hmfas ▸ confirmed_append_none l), Dev.aligner_setAligner, hmfas]
    exact ⟨rfl, .ofDev (Dev.setAligner_regsKept rfl)⟩
  case revokes =>
    refine ⟨_, exec_revoke hrun _, ⟨rfl, rfl, rfl⟩, ?_⟩
    rw [Dev.revoke_eq hc hl, Dev.aligner_setAligner, Aligner.search_cands, Aligner.enterCheck_cands, Aligner.search_barred,
      Aligner.enterCheck_barred]
    exact ⟨Dev.setAligner_arising _ _ (Dev.raise_arises _ _), fun c hc => bne_iff_ne.mp (List.mem_filter.mp hc).2, rfl,
      Dev.alignCnt_counted _ x _ (fFRM x 5) rfl (Fld.ok_of _ rfl rfl)⟩
  case barEnds =>
    refine ⟨_, exec_barExpiry hrun u o, ⟨rfl, rfl, rfl⟩, ?_⟩
    rw [Dev.barExpiry, Dev.aligner_setAligner]
    exact ⟨fun ho => bne_iff_ne.mp (List.mem_filter.mp ho).2 rfl, rfl⟩
  case loses =>
    refine ⟨_, exec_oof hrun _, ?_⟩
    rw [Dev.outOfFrame_port hst hout, Dev.aligner_setAligner]
    refine ⟨rfl, rfl, rfl, Dev.state_setAligner .., ?_, .ofDev ?_⟩
    · rw [Dev.alignCnt_setAligner _ x _ rfl]
      exact Dev.get_incSat_self _ _ 1 (Fld.ok_of _ rfl rfl)
    · exact ((RegsKept.refl _ s.dev).incSat (Fld.FRM_x_ALIGN_CNT.OOF x) (by simp [Fld.FRM_x_ALIGN_CNT.OOF])).setAligner x _ (by simp)
        (.inr (by simp))

end Sys2Proof.Machine
end

section
/-! Multiframe alignment, LOF and LOM, overhead and flows (R184, R185, R188 to R190, R195). -/

namespace Sys2Proof.Machine

/-! ### OOM, LOF and LOM (R184, R185) -/

/-- An aligner as OOM sets: the phase is held. -/
def Aligner.holdPhase (a : Aligner) : Aligner := { a with oom := true, follow := 0 }

/-- An aligner as OOM clears: the phase is that of the frames that followed the held one. -/
def Aligner.retakePhase (a : Aligner) : Aligner :=
  { a with oom := false, mismatches := 0, phase := a.phase + BitVec.ofNat 8 a.follow, follow := 0 }

/-- An aligner whose LOF has followed its state. -/
def Aligner.followLof (a : Aligner) : Aligner := { a with lof := decide (a.state ≠ 3) }

/-- An aligner whose LOM has followed OOM. -/
def Aligner.followLom (a : Aligner) : Aligner := { a with lom := a.oom }

section
variable {d : Dev} {u : AlignUnit}

theorem Dev.oomSet_eq (hst : (d.aligner u).state = 3) (hoom : (d.aligner u).oom = false) (hm : 5 ≤ (d.aligner u).mismatches) :
    d.oomSet u = d.setAligner u (d.aligner u).holdPhase := if_pos ⟨hst, by rw [hoom]; rfl, hm⟩

theorem Dev.oomClear_eq (hst : (d.aligner u).state = 3) (hoom : (d.aligner u).oom = true) (hf : 2 ≤ (d.aligner u).follow) :
    d.oomClear u = d.setAligner u (d.aligner u).retakePhase := if_pos ⟨hst, hoom, hf⟩

theorem Dev.lofChange_eq (hon : d.frmRxOn (alignPort u) = true) :
    d.lofChange u = d.setAligner u (d.aligner u).followLof := if_pos hon

theorem Dev.lomChange_eq (hon : d.frmRxOn (alignPort u) = true) :
    d.lomChange u = d.setAligner u (d.aligner u).followLom := if_pos hon

end

/-! ### Flags, and places that a run updates -/

/-- The flag of what does not hold. -/
theorem bit_decide_not (p : Prop) [Decidable p] : bit (decide ¬p) = if p then 0 else 1 := by
  by_cases h : p <;> simp [bit, h]

/-- A run of updates of n places, each of which f updates by g, leaving the others: every place is updated once. -/
theorem Dev.forUpTo_places {α : Type} {view : Dev → Nat → α} {g : Nat → α → α} {f : Dev → Nat → Dev} {n : Nat}
    (hown : ∀ e i, i < n → view (f e i) i = g i (view e i))
    (hother : ∀ e i j, i < n → j < n → j ≠ i → view (f e i) j = view e j) (d : Dev) {j : Nat} (hj : j < n) :
    view (Dev.forUpTo n f d) j = g j (view d j) := by
  have hprefix : ∀ m, m ≤ n → view (Dev.forUpTo m f d) j = if j < m then g j (view d j) else view d j := by
    intro m hm
    induction m with
    | zero => rfl
    | succ m ih =>
      have hlast : Dev.forUpTo (m + 1) f d = f (Dev.forUpTo m f d) m := by simp [Dev.forUpTo, List.range_succ]
      have ih := ih (by omega)
      rw [hlast]
      by_cases hjm : j = m
      · subst hjm
        rw [hown _ j hj, ih, if_neg (Nat.lt_irrefl j), if_pos (Nat.lt_succ_self j)]
      · have hlt : j < m + 1 ↔ j < m := by omega
        rw [hother _ m j (by omega) hj hjm, ih]
        simp only [hlt]
  rw [hprefix n (Nat.le_refl n), if_pos hj]

/-! ### What follows a change of flows and pages (R190, R195, R209) -/

/-- INCOMPLETE is brought up to date: fields of any register that stand below its bit stay. -/
theorem Dev.get_flowCheck (d : Dev) {g : Fld} (hg : g.ok) (hlow : Nat.ble (g.hi + 1) 11 = true) : d.flowCheck.get g = d.get g := by
  rw [Dev.flowCheck, Dev.causeIs_get]
  induction d.flows using List.reverseRecOn with
  | nil => rfl
  | append_singleton l w ih => rw [List.foldl_append, List.foldl_cons, List.foldl_nil, Dev.get_put_below _ _ (Fld.ok_of _ rfl rfl) hg hlow, ih]

/-- INCOMPLETE is brought up to date: registers below those of the flows stay. -/
theorem RegsOut.flowCheck {p : Nat → Prop} {d e : Dev} (h : RegsOut p d e) (hp : ∀ a, p a → a < 0x540000) : RegsOut p d e.flowCheck := by
  refine (RegsOut.foldl _ e.flows (fun e w _ h => h.put _ _ fun a ha => ?_) h).causeIs _ _
  have hlow := hp a ha
  show a ≠ Reg.FRM_FLOW_STATUS w.flow
  unfold Reg.FRM_FLOW_STATUS
  omega

/-- TIM is brought up to date in the status register of SM alone. -/
theorem RegsOut.timCheck {p : Nat → Prop} {d e : Dev} (h : RegsOut p d e) (x : Nat) (hp : ∀ a, p a → a ≠ Reg.FRM_x_SM_STATUS x) :
    RegsOut p d (e.timCheck x) := (h.put _ _ hp).causeIs _ _

/-- PLM and MSIM are brought up to date in the status register of SM alone. -/
theorem RegsOut.plmCheck {p : Nat → Prop} {d e : Dev} (h : RegsOut p d e) (x : Nat) (hp : ∀ a, p a → a ≠ Reg.FRM_x_SM_STATUS x) :
    RegsOut p d (e.plmCheck x) := ((h.put _ _ hp).put _ _ hp).causeIs _ _

theorem RegsOut.flowEvt {p : Nat → Prop} {d e : Dev} (h : RegsOut p d e) (f i : Nat)
    (hp : ∀ a, p a → a ≠ Reg.FRM_FLOW_EVT f ∧ a ≠ Reg.FRM_INT_STATUS) : RegsOut p d (e.flowEvt f i) :=
  (h.setBit _ _ fun a ha => (hp a ha).1).setInt _ _ fun a ha => (hp a ha).2

/-- PLM of a port with an accepted payload type (R190). -/
theorem Dev.plm_plmCheck {d : Dev} {x : Nat} {v : BitVec 8} (h : d.frm.opuPt.find? (fun e => e.1 == x) = some (x, v)) :
    (d.plmCheck x).get (Fld.FRM_x_SM_STATUS.PLM x) = bit (v != 0x22) := by
  simp only [Dev.plmCheck, h]
  rw [Dev.causeIs_get, Dev.get_put_below _ _ (Fld.ok_of _ rfl rfl) (Fld.ok_of _ rfl rfl) rfl,
    Dev.get_put_bit _ _ _ (Fld.ok_of _ rfl rfl) rfl]

/-- MSIM of a port with an accepted MSI (R190). -/
theorem Dev.msim_plmCheck {d : Dev} {x : Nat} {l : List (Option Nat)} (h : d.frm.opuMsi.find? (fun e => e.1 == x) = some (x, l)) :
    (d.plmCheck x).get (Fld.FRM_x_SM_STATUS.MSIM x) = bit (l != d.impliedMsi x) := by
  simp only [Dev.plmCheck, h]
  rw [Dev.causeIs_get, Dev.get_put_bit _ _ _ (Fld.ok_of _ rfl rfl) rfl]

/-- PLM of a flow with an accepted payload type (R190). -/
theorem Dev.plm_flowPlm {d : Dev} {f : Nat} {v : BitVec 8} (h : d.frm.flowPt.find? (fun e => e.1 == f) = some (f, v)) :
    (d.flowPlm f).get (Fld.FRM_FLOW_STATUS.PLM f) = bit (v != d.expectedPt f) := by
  simp only [Dev.flowPlm, h]
  rw [Dev.get_put_bit _ _ _ (Fld.ok_of _ rfl rfl) rfl]

/-! ### Overhead (R188, R190) -/

/-- The device whose filter of an item has seen n occurrences of it. -/
def Dev.withFilter (d : Dev) (i : OhItem) (n : Nat) : Dev :=
  { d with frm := { d.frm with filters := Sparse.insert (ohKey i) (i, n) d.frm.filters } }

section
variable {d : Dev} {i : OhItem} {n : Nat}

theorem Dev.ohAccept_off (h : d.ohInFrame i = false) : d.ohAccept i = d := by
  simp [Dev.ohAccept, h]

/-- A further occurrence of an item that its filter has seen n times. -/
theorem Dev.ohAccept_seen (hin : d.ohInFrame i = true) (hf : d.frm.filters.find? (fun e => e.1 == ohKey i) = some (ohKey i, (i, n))) :
    d.ohAccept i = if ohPersistence i ≤ n + 1 then (d.withFilter i (n + 1)).ohApply i else d.withFilter i (n + 1) := by
  simp [Dev.ohAccept, hin, hf, Dev.withFilter]

end

/-- The words of a trail trace identifier, as an accepted one is shown. -/
theorem Dev.reg_ohApply_smTti (d : Dev) (x : Port) (bytes : List Byte) {k : Nat} (hk : k < 16) :
    (d.ohApply (.smTti x bytes)).reg (Reg.FRM_x_TTI_RX x k) = BitVec.ofNat 32 (leAt bytes (4 * k) 4) := by
  have hstatus : ∀ a, a = Reg.FRM_x_TTI_RX x k → a ≠ Reg.FRM_x_SM_STATUS x := by
    unfold Reg.FRM_x_TTI_RX Reg.FRM_x_SM_STATUS; omega
  have hwords := Dev.forUpTo_places (n := 16) (view := fun e i => e.reg (Reg.FRM_x_TTI_RX x i))
    (g := fun i _ => BitVec.ofNat 32 (leAt bytes (4 * i) 4))
    (f := fun e i => e.setReg (Reg.FRM_x_TTI_RX x i) (BitVec.ofNat 32 (leAt bytes (4 * i) 4)))
    (fun e i _ => Dev.reg_setReg_self ..)
    (fun e i j _ _ hne => Dev.reg_setReg_ne _ _ (by unfold Reg.FRM_x_TTI_RX; omega)) d hk
  rw [← hwords]
  exact (RegsOut.ite (.refl _ _) ((RegsOut.refl _ _).put _ _ hstatus)).timCheck x hstatus _ rfl

/-- What the status register of flow f shows of its STAT. -/
def Dev.showStat (d : Dev) (f : Nat) (v : BitVec 3) : Dev :=
  ((d.put (Fld.FRM_FLOW_STATUS.AIS f) (bit (v == 7))).put (Fld.FRM_FLOW_STATUS.LCK f) (bit (v == 5))).put
    (Fld.FRM_FLOW_STATUS.OCI f) (bit (v == 6))

theorem Dev.ohApply_flowStat (d : Dev) (f : Fin 1280) (v : BitVec 3) :
    d.ohApply (.flowStat f v) =
      (if (d.showStat f v).reg (Reg.FRM_FLOW_STATUS f) &&& 0x000001C0 = d.reg (Reg.FRM_FLOW_STATUS f) &&& 0x000001C0
        then d.showStat f v else (d.showStat f v).flowEvt f 3).flowCheck := rfl

/-- A field below INCOMPLETE of a flow's status register, as an accepted STAT leaves it. -/
theorem Dev.get_ohApply_flowStat_eq_showStat (d : Dev) (f : Fin 1280) (v : BitVec 3) {g : Fld} (hg : g.ok) (hlow : Nat.ble (g.hi + 1) 11 = true)
    (ha : g.addr = Reg.FRM_FLOW_STATUS f) : (d.ohApply (.flowStat f v)).get g = (d.showStat f v).get g := by
  have hreg : ∀ a, a = Reg.FRM_FLOW_STATUS f → a ≠ Reg.FRM_FLOW_EVT f ∧ a ≠ Reg.FRM_INT_STATUS := by
    unfold Reg.FRM_FLOW_STATUS Reg.FRM_FLOW_EVT Reg.FRM_INT_STATUS; omega
  rw [Dev.ohApply_flowStat, Dev.get_flowCheck _ hg hlow]
  exact (RegsOut.ite (.refl (· = Reg.FRM_FLOW_STATUS f) _) ((RegsOut.refl _ _).flowEvt f 3 hreg)).get g ha

/-- The flags of an accepted STAT of a flow. -/
theorem Dev.get_ohApply_flowStat (d : Dev) (f : Fin 1280) (v : BitVec 3) :
    (d.ohApply (.flowStat f v)).get (Fld.FRM_FLOW_STATUS.AIS f) = bit (v == 7) ∧
      (d.ohApply (.flowStat f v)).get (Fld.FRM_FLOW_STATUS.LCK f) = bit (v == 5) ∧
      (d.ohApply (.flowStat f v)).get (Fld.FRM_FLOW_STATUS.OCI f) = bit (v == 6) := by
  refine ⟨?_, ?_, ?_⟩
  · rw [Dev.get_ohApply_flowStat_eq_showStat d f v (Fld.ok_of _ rfl rfl) rfl rfl, Dev.showStat,
      Dev.get_put_below _ _ (Fld.ok_of _ rfl rfl) (Fld.ok_of _ rfl rfl) rfl,
      Dev.get_put_below _ _ (Fld.ok_of _ rfl rfl) (Fld.ok_of _ rfl rfl) rfl, Dev.get_put_bit _ _ _ (Fld.ok_of _ rfl rfl) rfl]
  · rw [Dev.get_ohApply_flowStat_eq_showStat d f v (Fld.ok_of _ rfl rfl) rfl rfl, Dev.showStat,
      Dev.get_put_below _ _ (Fld.ok_of _ rfl rfl) (Fld.ok_of _ rfl rfl) rfl, Dev.get_put_bit _ _ _ (Fld.ok_of _ rfl rfl) rfl]
  · rw [Dev.get_ohApply_flowStat_eq_showStat d f v (Fld.ok_of _ rfl rfl) rfl rfl, Dev.showStat, Dev.get_put_bit _ _ _ (Fld.ok_of _ rfl rfl) rfl]

/-- What an accepted value shows, whatever its filter has seen (R190). -/
theorem acceptedShows_ohApply (i : OhItem) (s : State) (n : Nat) :
    AcceptedShows i s { s with dev := (s.dev.withFilter i n).ohApply i } := by
  cases i with
  | smTti x bytes => exact fun k hk => Dev.reg_ohApply_smTti _ x bytes hk
  | smBdi x on => exact (Dev.causeIs_get ..).trans (Dev.get_put_bit _ _ _ (Fld.ok_of _ rfl rfl) rfl)
  | smIae x on => exact Dev.get_put_bit _ _ _ (Fld.ok_of _ rfl rfl) rfl
  | smBiae x on => exact Dev.get_put_bit _ _ _ (Fld.ok_of _ rfl rfl) rfl
  | pmBdi x on => exact Sparse.get_insert_self ..
  | pmStat x v => exact Sparse.get_insert_self ..
  | opuPt x v => exact Dev.plm_plmCheck ((Sparse.find?_insert ..).trans (if_pos rfl))
  | opuMsi x l => exact Dev.msim_plmCheck ((Sparse.find?_insert ..).trans (if_pos rfl))
  | flowBdi f on => exact Dev.get_put_bit _ _ _ (Fld.ok_of _ rfl rfl) rfl
  | flowStat f v => exact Dev.get_ohApply_flowStat _ f v
  | flowPt f v =>
    exact (Dev.get_flowCheck _ (Fld.ok_of _ rfl rfl) rfl).trans (Dev.plm_flowPlm ((Sparse.find?_insert ..).trans (if_pos rfl)))

/-- An accepted SM BDI: its flag and its cause follow, and no other register (R190, R209). -/
theorem Dev.ohApply_smBdi {d : Dev} {x : Port} (hon : d.frmRxOn x = true) (on : Bool) :
    (d.ohApply (.smBdi x on)).get (Fld.FRM_x_SM_STATUS.BDI x) = bit on ∧ (Present (fFRM x 3) (d.ohApply (.smBdi x on)) ↔ on = true) ∧
      RegsKept [Reg.FRM_x_SM_STATUS x] d (d.ohApply (.smBdi x on)) := by
  refine ⟨(Dev.causeIs_get ..).trans (Dev.get_put_bit _ _ _ (Fld.ok_of _ rfl rfl) rfl), ?_,
    ((RegsKept.refl _ d).put (Fld.FRM_x_SM_STATUS.BDI x) _ (List.mem_singleton_self _)).causeIs _ _⟩
  simp [Present, Dev.ohApply, Dev.mem_causes_causeIs, hon]

theorem Dev.frmRxOn_of_ohInFrame {d : Dev} {x : Port} {on : Bool} (h : d.ohInFrame (.smBdi x on) = true) : d.frmRxOn x = true :=
  (Bool.and_eq_true_iff.mp h).2

/-! ### APS (R189) -/

/-- The device whose APS filter of flow f holds nothing. -/
def Dev.dropAps (d : Dev) (f : Nat) : Dev := { d with frm := { d.frm with aps := Sparse.erase f d.frm.aps } }

/-- The device as it shows and signals an APS value of flow f. -/
def Dev.showAps (d : Dev) (f : Nat) (v : BitVec 32) : Dev :=
  ((((d.dropAps f).setReg (Reg.FRM_FLOW_APS_RX f) v).flowEvt f 0).setInt intFRM 4).raise 178

section
variable {d : Dev} {f : Fin 1280} {m : BitVec 8} {v : BitVec 32} {n : Nat}

/-- The value that is shown already. -/
theorem Dev.apsAccept_shown (hin : d.ohInFrame (.flowBdi f false) = true) (hm : d.apsFrame f m = true)
    (hv : v = d.reg (Reg.FRM_FLOW_APS_RX f)) : d.apsAccept f ⟨m, v⟩ = d.dropAps f := by
  simp [Dev.apsAccept, hin, hm, hv, Dev.dropAps]

/-- The last occurrence that another value needs. -/
theorem Dev.apsAccept_new (hin : d.ohInFrame (.flowBdi f false) = true) (hm : d.apsFrame f m = true)
    (hv : v ≠ d.reg (Reg.FRM_FLOW_APS_RX f)) (ha : d.frm.aps.find? (fun e => e.1 == f.val) = some (f.val, { cand := v, count := n }))
    (hn : d.get (Fld.FRM_FLOW_CTL.APS_N f) ≤ n + 1) : d.apsAccept f ⟨m, v⟩ = d.showAps f v := by
  simp [Dev.apsAccept, hin, hm, hv, ha, hn, Dev.showAps, Dev.dropAps]

end

/-- A bit of a flow's events is set and signalled. -/
theorem Dev.bitAt_flowEvt (d : Dev) (f : Nat) {i : Nat} (hi : i < 32) : (d.flowEvt f i).bitAt (Reg.FRM_FLOW_EVT f) i = true := by
  have hne : Reg.FRM_FLOW_EVT f ≠ Reg.FRM_INT_STATUS := by unfold Reg.FRM_FLOW_EVT Reg.FRM_INT_STATUS; omega
  rw [Dev.flowEvt, Dev.bitAt, Dev.reg_setInt_ne _ intFRM 5 hne]
  exact Dev.bitAt_setBit_self d _ i hi

theorem RegsKept.flowEvt {l : List Nat} {d e : Dev} (h : RegsKept l d e) (f i : Nat) (he : Reg.FRM_FLOW_EVT f ∈ l)
    (hi : Reg.FRM_INT_STATUS ∈ l) : RegsKept l d (e.flowEvt f i) :=
  RegsOut.flowEvt h f i fun _ ha => ⟨fun hae => ha (hae ▸ he), fun hai => ha (hai ▸ hi)⟩

theorem Dev.showAps_shows (d : Dev) (f : Fin 1280) (v : BitVec 32) :
    (d.showAps f v).reg (Reg.FRM_FLOW_APS_RX f) = v ∧ (d.showAps f v).bitAt (Reg.FRM_FLOW_EVT f) 0 = true ∧
      (d.showAps f v).bitAt Reg.FRM_INT_STATUS 4 = true ∧ Arising 178 (d.showAps f v) ∧
      RegsKept [Reg.FRM_FLOW_APS_RX f, Reg.FRM_FLOW_EVT f, Reg.FRM_INT_STATUS] d (d.showAps f v) := by
  have haps : Reg.FRM_FLOW_APS_RX f ≠ Reg.FRM_FLOW_EVT f ∧ Reg.FRM_FLOW_APS_RX f ≠ Reg.FRM_INT_STATUS := by
    unfold Reg.FRM_FLOW_APS_RX Reg.FRM_FLOW_EVT Reg.FRM_INT_STATUS; omega
  have hevt : Reg.FRM_FLOW_EVT f ≠ Reg.FRM_INT_STATUS := by unfold Reg.FRM_FLOW_EVT Reg.FRM_INT_STATUS; omega
  refine ⟨?_, ?_, ?_, Dev.raise_arises _ _, ?_⟩
  · rw [Dev.showAps, Dev.raise_reg, Dev.reg_setInt_ne _ intFRM 4 haps.2,
      (RegsOut.refl (· = Reg.FRM_FLOW_APS_RX f) _).flowEvt f 0 (fun a ha => ha ▸ haps) _ rfl, Dev.reg_setReg_self]
  · rw [Dev.showAps, Dev.raise_bitAt, Dev.bitAt, Dev.reg_setInt_ne _ intFRM 4 hevt]
    exact Dev.bitAt_flowEvt _ f (by decide)
  · rw [Dev.showAps, Dev.raise_bitAt]
    exact Dev.bitAt_setInt_self _ intFRM (by decide)
  · have hdrop : RegsKept [Reg.FRM_FLOW_APS_RX f, Reg.FRM_FLOW_EVT f, Reg.FRM_INT_STATUS] d (d.dropAps f) := .ofRegs rfl
    exact (((hdrop.setReg _ v (by simp)).flowEvt f 0 (by simp) (by simp)).setInt intFRM 4 (by simp [intFRM])).raise 178

/-! ### Mapping errors (R195) -/

/-- The device that keeps the tick of a mapping error of flow f. -/
def Dev.mapErrNow (d : Dev) (f : Nat) : Dev := { d with frm := { d.frm with mapErrAt := Sparse.insert f d.ticks d.frm.mapErrAt } }

theorem Dev.mapErr_eq {d : Dev} {f : Nat} (h : (d.flowOf f).isSome = true) :
    d.mapErr f = (((d.mapErrNow f).incSat (Fld.FRM_FLOW_MAP_CNT.ERRORS f)).flowEvt f 2).raise 177 := by
  have hsome : (d.flowOf f).isNone = false := by rw [Option.isNone_eq_false_iff]; exact h
  simp [Dev.mapErr, hsome, Dev.mapErrNow]

theorem Dev.mapErr_shows {d : Dev} {f : Fin 1280} (h : (d.flowOf f).isSome = true) :
    Arising 177 (d.mapErr f) ∧ (d.mapErr f).bitAt (Reg.FRM_FLOW_EVT f) 2 = true ∧
      (d.mapErr f).get (Fld.FRM_FLOW_MAP_CNT.ERRORS f) = min (d.get (Fld.FRM_FLOW_MAP_CNT.ERRORS f) + 1) (2 ^ 32 - 1) ∧
      RegsKept [Reg.FRM_FLOW_MAP_CNT f, Reg.FRM_FLOW_EVT f, Reg.FRM_INT_STATUS] d (d.mapErr f) := by
  have hcnt : ∀ a, a = Reg.FRM_FLOW_MAP_CNT f → a ≠ Reg.FRM_FLOW_EVT f ∧ a ≠ Reg.FRM_INT_STATUS := by
    unfold Reg.FRM_FLOW_MAP_CNT Reg.FRM_FLOW_EVT Reg.FRM_INT_STATUS; omega
  rw [Dev.mapErr_eq h]
  refine ⟨Dev.raise_arises _ _, ?_, ?_, ?_⟩
  · rw [Dev.raise_bitAt]
    exact Dev.bitAt_flowEvt _ f (by decide)
  · rw [Dev.raise_get, ((RegsOut.refl (· = Reg.FRM_FLOW_MAP_CNT f) _).flowEvt f 2 hcnt).get _ rfl]
    exact Dev.get_incSat_self _ _ 1 (Fld.ok_of _ rfl rfl)
  · have hnow : RegsKept [Reg.FRM_FLOW_MAP_CNT f, Reg.FRM_FLOW_EVT f, Reg.FRM_INT_STATUS] d (d.mapErrNow f) := .ofRegs rfl
    have hcount := hnow.incSat (Fld.FRM_FLOW_MAP_CNT.ERRORS f) (by simp [Fld.FRM_FLOW_MAP_CNT.ERRORS])
    exact (hcount.flowEvt f 2 (by simp) (by simp)).raise 177

/-! ### O27 -/

theorem exec_oomSet {s : State} (h : Running s) (u : AlignUnit) :
    exec (.oomSet u) s = .next { s with dev := s.dev.oomSet u } := runDev_alive (f := Dev.oomSet u) h

theorem exec_oomClear {s : State} (h : Running s) (u : AlignUnit) :
    exec (.oomClear u) s = .next { s with dev := s.dev.oomClear u } := runDev_alive (f := Dev.oomClear u) h

theorem exec_lofChange {s : State} (h : Running s) (u : AlignUnit) :
    exec (.lofChange u) s = .next { s with dev := s.dev.lofChange u } := runDev_alive (f := Dev.lofChange u) h

theorem exec_lomChange {s : State} (h : Running s) (u : AlignUnit) :
    exec (.lomChange u) s = .next { s with dev := s.dev.lomChange u } := runDev_alive (f := Dev.lomChange u) h

theorem exec_ohAccept {s : State} (h : Running s) (i : OhItem) :
    exec (.ohAccept i) s = .next { s with dev := s.dev.ohAccept i } := runDev_alive (f := Dev.ohAccept i) h

theorem exec_apsAccept {s : State} (h : Running s) (f : Fin 1280) (oh : ApsBytes) :
    exec (.apsAccept f oh) s = .next { s with dev := s.dev.apsAccept f oh } := runDev_alive (f := Dev.apsAccept f oh) h

theorem exec_mapErr {s : State} (h : Running s) (f : Fin 1280) :
    exec (.mapErr f) s = .next { s with dev := s.dev.mapErr f } := runDev_alive (f := Dev.mapErr f) h

/-- Settles O27: the alarms by what storing an aligner shows, the overhead by what an accepted value shows. -/
theorem alarmsAndOverheadFollowTheirRules : Obligations.AlarmsAndOverheadFollowTheirRules := by
  refine ⟨fun s x hrun hst => ⟨fun hoom hm => ?oomSets, fun hoom hf => ?oomClears⟩,
    fun s x hrun hon => ⟨?lofOfPort, ?lomOfPort⟩, fun s f x hrun hon => ⟨?lofOfFlow, ?lomOfFlow⟩, fun s i hrun hoff => ?outsideIF,
    fun s i n hrun hin hfind => ⟨fun hn => ?counts, fun hn => ?accepts⟩, fun s x on n hrun hin hn hfind => ?smBdi,
    fun s f m v n hrun hin hm => ⟨fun hv => ?apsShown, fun hv ha hn => ?apsNew⟩, fun s f hrun hflow => ?mapErr⟩
  case oomSets =>
    refine ⟨_, exec_oomSet hrun _, ?_⟩
    rw [Dev.oomSet_eq hst hoom hm, Dev.aligner_setAligner]
    exact ⟨Dev.oom_setAligner .., rfl, .ofDev (Dev.setAligner_regsKept rfl)⟩
  case oomClears =>
    refine ⟨_, exec_oomClear hrun _, ?_⟩
    rw [Dev.oomClear_eq hst hoom hf, Dev.aligner_setAligner]
    exact ⟨Dev.oom_setAligner .., rfl, .ofDev (Dev.setAligner_regsKept rfl)⟩
  case lofOfPort =>
    refine ⟨_, exec_lofChange hrun _, ?_⟩
    rw [Dev.lofChange_eq (u := .port x) hon]
    obtain ⟨hlof, -⟩ := s.dev.present_setAligner x (s.dev.aligner (.port x)).followLof
    exact ⟨(Dev.lof_setAligner ..).trans (bit_decide_not _), hlof.trans decide_eq_true_iff, .ofDev (Dev.setAligner_regsKept rfl)⟩
  case lomOfPort =>
    refine ⟨_, exec_lomChange hrun _, ?_⟩
    rw [Dev.lomChange_eq (u := .port x) hon]
    obtain ⟨-, hlom⟩ := s.dev.present_setAligner x (s.dev.aligner (.port x)).followLom
    exact ⟨Dev.lom_setAligner .., hlom, .ofDev (Dev.setAligner_regsKept rfl)⟩
  case lofOfFlow =>
    refine ⟨_, exec_lofChange hrun _, ⟨rfl, rfl, rfl⟩, ?_⟩
    rw [Dev.lofChange_eq (u := .flow f x) hon, Dev.aligner_setAligner, Aligner.followLof]
  case lomOfFlow =>
    refine ⟨_, exec_lomChange hrun _, ⟨rfl, rfl, rfl⟩, ?_⟩
    rw [Dev.lomChange_eq (u := .flow f x) hon, Dev.aligner_setAligner, Aligner.followLom]
  case outsideIF => rw [exec_ohAccept hrun, Dev.ohAccept_off hoff]
  case counts =>
    refine ⟨_, exec_ohAccept hrun i, ?_⟩
    rw [Dev.ohAccept_seen hin hfind, if_neg (Nat.not_le.mpr hn)]
    exact ⟨.ofDev (.ofRegs rfl), rfl, (Sparse.find?_insert ..).trans (if_pos rfl)⟩
  case accepts =>
    refine ⟨_, exec_ohAccept hrun i, ⟨rfl, rfl, rfl⟩, ?_⟩
    rw [Dev.ohAccept_seen hin hfind, if_pos hn]
    exact acceptedShows_ohApply i s (n + 1)
  case smBdi =>
    have hpersist : ohPersistence (.smBdi x on) ≤ n + 1 := Nat.succ_le_succ hn
    refine ⟨_, exec_ohAccept hrun _, ?_⟩
    rw [Dev.ohAccept_seen hin hfind, if_pos hpersist]
    have hon : (s.dev.withFilter (.smBdi x on) (n + 1)).frmRxOn x = true := Dev.frmRxOn_of_ohInFrame (d := s.dev) hin
    obtain ⟨hbdi, hcause, hkept⟩ := Dev.ohApply_smBdi hon on
    exact ⟨hbdi, hcause, .ofDev (RegsOut.trans (RegsKept.ofRegs rfl) hkept)⟩
  case apsShown =>
    refine ⟨_, exec_apsAccept hrun f _, ?_⟩
    rw [Dev.apsAccept_shown hin (decide_eq_true hm) hv]
    exact .ofDev (.ofRegs rfl)
  case apsNew =>
    refine ⟨_, exec_apsAccept hrun f _, ?_⟩
    rw [Dev.apsAccept_new hin (decide_eq_true hm) hv ha hn]
    obtain ⟨hreg, hevt, hint, hcause, hkept⟩ := s.dev.showAps_shows f v
    exact ⟨hreg, hevt, hint, hcause, .ofDev hkept⟩
  case mapErr =>
    obtain ⟨hcause, hevt, hcount, hkept⟩ := Dev.mapErr_shows hflow
    exact ⟨_, exec_mapErr hrun f, hcause, hevt, hcount, .ofDev hkept⟩

end Sys2Proof.Machine
end

section
/-! Slot interchange (R198 to R201): writes to standby pages, copies, and swaps of pages. -/

namespace Sys2Proof.Machine

/-! ### Status bits -/

section
variable {l : List Nat} {d e : Dev} (h : RegsKept l d e)
include h

theorem RegsKept.setBit (a i : Nat) (ha : a ∈ l) : RegsKept l d (e.setBit a i) := h.setReg _ _ ha

theorem RegsKept.clrBit (a i : Nat) (ha : a ∈ l) : RegsKept l d (e.clrBit a i) := h.setReg _ _ ha

theorem RegsKept.putBit (a i : Nat) (b : Bool) (ha : a ∈ l) : RegsKept l d (e.putBit a i b) := .ite (h.setBit a i ha) (h.clrBit a i ha)

theorem RegsKept.forUpTo (n : Nat) (f : Dev → Nat → Dev) (hf : ∀ e i, i < n → RegsKept l d e → RegsKept l d (f e i)) :
    RegsKept l d (Dev.forUpTo n f e) := RegsOut.forUpTo n f hf h

end

theorem Dev.bitAt_putBit_self (d : Dev) (a : Nat) {i : Nat} (hi : i < 32) (b : Bool) : (d.putBit a i b).bitAt a i = b := by
  cases b
  · exact Dev.bitAt_clrBit_self d a i
  · exact Dev.bitAt_setBit_self d a i hi

theorem Dev.bitAt_setInt_ne (d : Dev) (b : IntBank) (i : Nat) {a j : Nat} (h : a ≠ b.status) : (d.setInt b i).bitAt a j = d.bitAt a j := by
  rw [Dev.bitAt, Dev.reg_setInt_ne d b i h, Dev.bitAt]

/-- The pages' control and status. -/
abbrev pageRegs : List Nat := [Reg.FRM_TSI_PAGE_CTL, Reg.FRM_TSI_PAGE_STATUS]

/-! ### Writes to a standby page (R198) -/

section
variable {d : Dev} {k t : Nat} {v : Word}

theorem Dev.tsiSbyWrite_stored (h : (d.swapPending k || d.copyPending k) = false) :
    d.tsiSbyWrite k t v = d.setReg (Reg.FRM_TSI_SBY k t) (v &&& 0x800007FF) := if_neg (by rw [h]; decide)

theorem Dev.tsiSbyWrite_refused (h : (d.swapPending k || d.copyPending k) = true) :
    d.tsiSbyWrite k t v = (d.incSat Fld.FRM_CM_REFUSED.WRITES).raise 179 := if_pos h

end

/-! ### Copies (R199) -/

/-- A copy starts: it is pending, its request shows, and nothing else changes. -/
theorem Dev.tsiCopy_shows (d : Dev) (k : Fin 4) :
    (d.tsiCopy k).copyPending k = true ∧ (d.tsiCopy k).bitAt Reg.FRM_TSI_PAGE_CTL (8 + k) = true ∧
      RegsKept pageRegs d (d.tsiCopy k) := by
  refine ⟨Dev.bitAt_setBit_self _ _ _ (by omega), ?_, ((RegsKept.refl _ d).setBit _ _ (by simp)).setBit _ _ (by simp)⟩
  rw [Dev.tsiCopy, Dev.bitAt_setBit_ne _ _ _ _ _ (.inl (by decide))]
  exact Dev.bitAt_setBit_self _ _ _ (by omega)

/-- Entry t of the active and of the standby page of set k. -/
def Dev.slotPair (d : Dev) (k t : Nat) : Word × Word := (d.reg (Reg.FRM_TSI_ACT k t), d.reg (Reg.FRM_TSI_SBY k t))

/-- Registers below 0x510000 hold no page. -/
def BelowPages (a : Nat) : Prop := a < 0x510000

theorem Dev.slotPair_of_regsOut {p : Nat → Prop} {d e : Dev} (h : RegsOut p d e) {k t : Nat} (ha : p (Reg.FRM_TSI_ACT k t))
    (hs : p (Reg.FRM_TSI_SBY k t)) : e.slotPair k t = d.slotPair k t := by
  rw [Dev.slotPair, h _ ha, h _ hs, Dev.slotPair]

section
variable {k : Fin 4} {t u : Nat} (ht : t < 640) (hu : u < 640)
include ht hu

/-- No register of an active page is one of a standby page. -/
theorem tsiAct_ne_tsiSby : Reg.FRM_TSI_ACT k t ≠ Reg.FRM_TSI_SBY k u := by
  unfold Reg.FRM_TSI_ACT Reg.FRM_TSI_SBY; omega

theorem Dev.slotPair_setSby (d : Dev) (v : Word) :
    (d.setReg (Reg.FRM_TSI_SBY k t) v).slotPair k u =
      if u = t then ((d.slotPair k u).1, v) else d.slotPair k u := by
  have hact : Reg.FRM_TSI_ACT k u ≠ Reg.FRM_TSI_SBY k t := tsiAct_ne_tsiSby hu ht
  rw [Dev.slotPair, Dev.reg_setReg_ne _ _ hact, Dev.reg_setReg]
  have hsame : Reg.FRM_TSI_SBY k u = Reg.FRM_TSI_SBY k t ↔ u = t := by unfold Reg.FRM_TSI_SBY; omega
  simp only [hsame, Dev.slotPair]
  split <;> rfl

theorem Dev.slotPair_setAct (d : Dev) (v : Word) :
    (d.setReg (Reg.FRM_TSI_ACT k t) v).slotPair k u =
      if u = t then (v, (d.slotPair k u).2) else d.slotPair k u := by
  have hsby : Reg.FRM_TSI_SBY k u ≠ Reg.FRM_TSI_ACT k t := (tsiAct_ne_tsiSby ht hu).symm
  rw [Dev.slotPair, Dev.reg_setReg_ne _ _ hsby, Dev.reg_setReg]
  have hsame : Reg.FRM_TSI_ACT k u = Reg.FRM_TSI_ACT k t ↔ u = t := by unfold Reg.FRM_TSI_ACT; omega
  simp only [hsame, Dev.slotPair]
  split <;> rfl

end

/-- Copying a page makes each entry of the standby page that of the active one. -/
theorem Dev.slotPair_copyPage (d : Dev) (k : Fin 4) {t : Nat} (ht : t < 640) :
    (d.copyPage k).slotPair k t = ((d.slotPair k t).1, (d.slotPair k t).1) := by
  refine Dev.forUpTo_places (view := fun e i => e.slotPair k i) (g := fun _ p => (p.1, p.1)) (fun e i hi => ?_)
    (fun e i j hi hj hne => ?_) d ht
  · rw [Dev.slotPair_setSby hi hi, if_pos rfl]; rfl
  · rw [Dev.slotPair_setSby hi hj, if_neg hne]

/-- The registers a copy of a page changes: its control and status, and the standby entries. -/
theorem Dev.endCopy_copyPage_regsKept (d : Dev) (k : Fin 4) :
    RegsKept (Reg.FRM_TSI_PAGE_CTL :: Reg.FRM_TSI_PAGE_STATUS :: (List.range 640).map (fun t => Reg.FRM_TSI_SBY k t)) d
      ((d.copyPage k).endCopy k) := by
  refine (((RegsKept.refl _ d).forUpTo 640 _ fun e t ht h => h.setReg _ _ ?_).clrBit _ _ ?_).clrBit _ _ ?_
  · exact List.mem_cons_of_mem _ (List.mem_cons_of_mem _ (List.mem_map_of_mem (List.mem_range.mpr ht)))
  · exact List.mem_cons_self ..
  · exact List.mem_cons_of_mem _ (List.mem_cons_self ..)

/-- Ending a copy leaves the pages. -/
theorem Dev.slotPair_endCopy (d : Dev) (k : Nat) (s : Fin 4) (t : Nat) : (d.endCopy k).slotPair s t = d.slotPair s t := by
  have hp : ∀ a, ¬ BelowPages a → a ≠ Reg.FRM_TSI_PAGE_CTL ∧ a ≠ Reg.FRM_TSI_PAGE_STATUS := by
    unfold BelowPages Reg.FRM_TSI_PAGE_CTL Reg.FRM_TSI_PAGE_STATUS; omega
  refine Dev.slotPair_of_regsOut (p := fun a => ¬ BelowPages a)
    (((RegsOut.refl _ d).clrBit _ _ fun a ha => (hp a ha).1).clrBit _ _ fun a ha => (hp a ha).2) ?_ ?_
  · unfold BelowPages Reg.FRM_TSI_ACT; omega
  · unfold BelowPages Reg.FRM_TSI_SBY; omega

/-- A copy that runs completes: it is no longer pending, and the standby page is the active one. -/
theorem Dev.tsiCopyDone_shows {d : Dev} {k : Fin 4} (h : d.copyPending k = true) :
    (d.tsiCopyDone k).copyPending k = false ∧
      (∀ t, t < 640 → (d.tsiCopyDone k).reg (Reg.FRM_TSI_SBY k t) = d.reg (Reg.FRM_TSI_ACT k t)) ∧
      RegsKept (Reg.FRM_TSI_PAGE_CTL :: Reg.FRM_TSI_PAGE_STATUS :: (List.range 640).map (fun t => Reg.FRM_TSI_SBY k t)) d
        (d.tsiCopyDone k) := by
  rw [Dev.tsiCopyDone, if_pos h]
  refine ⟨Dev.bitAt_clrBit_self .., fun t ht => ?_, d.endCopy_copyPage_regsKept k⟩
  have hpair := ((d.copyPage k).slotPair_endCopy k k t).trans (d.slotPair_copyPage k ht)
  exact congrArg Prod.snd hpair

/-! ### Swaps (R200) -/

section
variable {d : Dev} {k : Fin 4}

theorem Dev.tsiSwap_pending (h : d.swapPending k = true) : d.tsiSwap k = d := if_pos h

/-- A swap whose standby page passes the check waits. -/
theorem Dev.tsiSwap_waits (h : d.swapPending k = false) (hok : d.swapOk k = true) :
    (d.tsiSwap k).swapPending k = true ∧ RegsKept pageRegs d (d.tsiSwap k) := by
  have hset : d.tsiSwap k = (d.setBit Reg.FRM_TSI_PAGE_CTL k).setBit Reg.FRM_TSI_PAGE_STATUS k :=
    (if_neg (by rw [h]; decide)).trans (if_pos hok)
  rw [hset]
  exact ⟨Dev.bitAt_setBit_self _ _ _ (by omega), ((RegsKept.refl _ d).setBit _ _ (by simp)).setBit _ _ (by simp)⟩

/-- A swap whose standby page fails the check is refused. -/
theorem Dev.tsiSwap_refused (h : d.swapPending k = false) (hok : d.swapOk k = false) : d.tsiSwap k = d.refuseSwap k :=
  (if_neg (by rw [h]; decide)).trans (if_neg (by rw [hok]; decide))

end

theorem Dev.refuseSwap_shows (d : Dev) (k : Fin 4) :
    (d.refuseSwap k).swapPending k = false ∧ Arising 179 (d.refuseSwap k) ∧
      (d.refuseSwap k).bitAt Reg.FRM_TSI_PAGE_STATUS (24 + k) = true ∧ (d.refuseSwap k).bitAt Reg.FRM_INT_STATUS 1 = true ∧
      RegsKept [Reg.FRM_TSI_PAGE_CTL, Reg.FRM_TSI_PAGE_STATUS, Reg.FRM_INT_STATUS] d (d.refuseSwap k) := by
  have hint : Reg.FRM_TSI_PAGE_STATUS ≠ intFRM.status := by decide
  refine ⟨?_, Dev.raise_arises _ _, ?_, ?_, ?_⟩
  · rw [Dev.swapPending, Dev.refuseSwap, Dev.raise_bitAt, Dev.bitAt_setInt_ne _ _ _ hint, Dev.setBitOf,
      Dev.bitAt_putBit_ne _ _ (.inr (by show (k : Nat) ≠ 24 + k; omega))]
    exact Dev.bitAt_clrBit_self ..
  · rw [Dev.refuseSwap, Dev.raise_bitAt, Dev.bitAt_setInt_ne _ _ _ hint]
    exact Dev.bitAt_putBit_self _ _ (by show 24 + (k : Nat) < 32; omega) true
  · rw [Dev.refuseSwap, Dev.raise_bitAt]
    exact Dev.bitAt_setInt_self _ intFRM (by decide)
  · have hend : RegsKept [Reg.FRM_TSI_PAGE_CTL, Reg.FRM_TSI_PAGE_STATUS, Reg.FRM_INT_STATUS] d (d.endSwap k) :=
      ((RegsKept.refl _ d).clrBit _ _ (by simp)).clrBit _ _ (by simp)
    exact ((hend.putBit _ _ _ (by simp [Fld.FRM_TSI_PAGE_STATUS.REFUSED])).setInt intFRM 1 (by simp [intFRM])).raise 179

/-! ### The exchange of pages (R201) -/

/-- The pages of set k exchange entry t. -/
def Dev.exchangeSlot (k : Nat) (d : Dev) (t : Nat) : Dev :=
  (d.setReg (Reg.FRM_TSI_ACT k t) (d.reg (Reg.FRM_TSI_SBY k t))).setReg (Reg.FRM_TSI_SBY k t) (d.reg (Reg.FRM_TSI_ACT k t))

/-- The pages of set k, entry by entry exchanged. -/
def Dev.exchanged (d : Dev) (k : Nat) : Dev := Dev.forUpTo 640 (Dev.exchangeSlot k) d

/-- What the status shows of an exchange that ends the swap of set k. -/
def Dev.showSwapped (d : Dev) (k : Nat) : Dev :=
  ((((d.endSwap k).setBitOf Fld.FRM_TSI_PAGE_STATUS.DONE k true).setBitOf Fld.FRM_TSI_PAGE_STATUS.ACTIVE k
    (!d.bitAt Reg.FRM_TSI_PAGE_STATUS (8 + k))).setInt intFRM 0)

theorem Dev.exchangePages_eq (d : Dev) (k : Nat) : d.exchangePages k = (d.exchanged k).showSwapped k := rfl

theorem Dev.slotPair_exchanged (d : Dev) (k : Fin 4) {t : Nat} (ht : t < 640) : (d.exchanged k).slotPair k t = (d.slotPair k t).swap := by
  refine Dev.forUpTo_places (view := fun e i => e.slotPair k i) (g := fun _ p => p.swap) (fun e i hi => ?_)
    (fun e i j hi hj hne => ?_) d ht
  · rw [Dev.exchangeSlot, Dev.slotPair_setSby hi hi, if_pos rfl, Dev.slotPair_setAct hi hi, if_pos rfl]; rfl
  · rw [Dev.exchangeSlot, Dev.slotPair_setSby hi hj, if_neg hne, Dev.slotPair_setAct hi hj, if_neg hne]

/-- The exchange leaves the registers that hold no page. -/
theorem Dev.exchanged_regs (d : Dev) (k : Nat) : RegsOut BelowPages d (d.exchanged k) := by
  refine RegsOut.forUpTo 640 _ (fun e t _ h => (h.setReg _ _ fun a ha => ?_).setReg _ _ fun a ha => ?_) (.refl _ d)
  · unfold BelowPages at ha; unfold Reg.FRM_TSI_ACT; omega
  · unfold BelowPages at ha; unfold Reg.FRM_TSI_SBY; omega

/-- The status of an exchange stands outside the pages. -/
theorem Dev.showSwapped_regs (d : Dev) (k : Nat) : RegsOut (fun a => ¬ BelowPages a) d (d.showSwapped k) := by
  have hctl : ∀ a, ¬ BelowPages a → a ≠ Reg.FRM_TSI_PAGE_CTL := by unfold BelowPages Reg.FRM_TSI_PAGE_CTL; omega
  have hstatus : ∀ a, ¬ BelowPages a → a ≠ Reg.FRM_TSI_PAGE_STATUS := by unfold BelowPages Reg.FRM_TSI_PAGE_STATUS; omega
  have hint : ∀ a, ¬ BelowPages a → a ≠ Reg.FRM_INT_STATUS := by unfold BelowPages Reg.FRM_INT_STATUS; omega
  exact (((((RegsOut.refl _ d).clrBit _ _ hctl).clrBit _ _ hstatus).putBit _ _ _ hstatus).putBit _ _ _ hstatus).setInt intFRM 0 hint

/-- What the status shows: the swap is over and DONE, and the other page is active. -/
theorem Dev.showSwapped_shows (d : Dev) (k : Fin 4) :
    (d.showSwapped k).bitAt Reg.FRM_TSI_PAGE_STATUS k = false ∧ (d.showSwapped k).bitAt Reg.FRM_TSI_PAGE_STATUS (16 + k) = true ∧
      (d.showSwapped k).bitAt Reg.FRM_TSI_PAGE_STATUS (8 + k) = !d.bitAt Reg.FRM_TSI_PAGE_STATUS (8 + k) := by
  have hint : Reg.FRM_TSI_PAGE_STATUS ≠ intFRM.status := by decide
  refine ⟨?_, ?_, ?_⟩
  · rw [Dev.showSwapped, Dev.bitAt_setInt_ne _ _ _ hint, Dev.setBitOf, Dev.bitAt_putBit_ne _ _ (.inr (by show (k : Nat) ≠ 8 + k; omega)),
      Dev.setBitOf, Dev.bitAt_putBit_ne _ _ (.inr (by show (k : Nat) ≠ 16 + k; omega))]
    exact Dev.bitAt_clrBit_self ..
  · rw [Dev.showSwapped, Dev.bitAt_setInt_ne _ _ _ hint, Dev.setBitOf,
      Dev.bitAt_putBit_ne _ _ (.inr (by show 16 + (k : Nat) ≠ 8 + k; omega))]
    exact Dev.bitAt_putBit_self _ _ (by show 16 + (k : Nat) < 32; omega) true
  · rw [Dev.showSwapped, Dev.bitAt_setInt_ne _ _ _ hint]
    exact Dev.bitAt_putBit_self _ _ (by show 8 + (k : Nat) < 32; omega) _

/-- What follows new active pages changes no page and no status of pages. -/
theorem Dev.pagesChanged_regs (d : Dev) :
    RegsOut (fun a => a < 0x540000 ∧ a ≠ Reg.FRM_x_SM_STATUS 0 ∧ a ≠ Reg.FRM_x_SM_STATUS 1) d d.pagesChanged :=
  (((RegsOut.refl _ d).flowCheck fun _ ⟨hlow, _⟩ => hlow).plmCheck 0 fun _ ⟨_, hport, _⟩ => hport).plmCheck 1 fun _ ⟨_, _, hport⟩ => hport

theorem Dev.bitAt_pagesChanged (d : Dev) (i : Nat) : d.pagesChanged.bitAt Reg.FRM_TSI_PAGE_STATUS i = d.bitAt Reg.FRM_TSI_PAGE_STATUS i :=
  d.pagesChanged_regs.bitAt _ i (by decide)

theorem Dev.slotPair_pagesChanged (d : Dev) (k : Fin 4) {t : Nat} (ht : t < 640) : d.pagesChanged.slotPair k t = d.slotPair k t := by
  refine Dev.slotPair_of_regsOut d.pagesChanged_regs ?_ ?_
  · unfold Reg.FRM_TSI_ACT Reg.FRM_x_SM_STATUS; omega
  · unfold Reg.FRM_TSI_SBY Reg.FRM_x_SM_STATUS; omega

/-- A pending swap takes effect: it is over and DONE, and each entry of the pages is exchanged. -/
theorem Dev.tsiSwapApply_shows {d : Dev} {k : Fin 4} (h : d.swapPending k = true) :
    (d.tsiSwapApply k).swapPending k = false ∧ (d.tsiSwapApply k).bitAt Reg.FRM_TSI_PAGE_STATUS (16 + k) = true ∧
      (d.tsiSwapApply k).bitAt Reg.FRM_TSI_PAGE_STATUS (8 + k) = !d.bitAt Reg.FRM_TSI_PAGE_STATUS (8 + k) ∧
      ∀ t, t < 640 → (d.tsiSwapApply k).slotPair k t = (d.slotPair k t).swap := by
  have happly : d.tsiSwapApply k = (d.exchangePages k).pagesChanged := if_pos h
  obtain ⟨hswap, hdone, hactive⟩ := (d.exchanged k).showSwapped_shows k
  rw [happly, Dev.exchangePages_eq]
  refine ⟨(Dev.bitAt_pagesChanged ..).trans hswap, (Dev.bitAt_pagesChanged ..).trans hdone, (Dev.bitAt_pagesChanged ..).trans ?_, fun t ht => ?_⟩
  · rw [hactive, (d.exchanged_regs k).bitAt _ _ (by unfold BelowPages; decide)]
  · have hact : ¬ BelowPages (Reg.FRM_TSI_ACT k t) := by unfold BelowPages Reg.FRM_TSI_ACT; omega
    have hsby : ¬ BelowPages (Reg.FRM_TSI_SBY k t) := by unfold BelowPages Reg.FRM_TSI_SBY; omega
    rw [Dev.slotPair_pagesChanged _ k ht, Dev.slotPair_of_regsOut ((d.exchanged k).showSwapped_regs k) hact hsby, d.slotPair_exchanged k ht]

/-! ### O28 -/

theorem exec_tsiSbyWrite {s : State} {req : Requester} (h : Writable req 5 s) (k : Fin 4) (t : Fin 640) (v : Word) :
    exec (.tsiSbyWrite req k t v) s = .next { s with dev := s.dev.tsiSbyWrite k t v } := runWrite_runs (f := Dev.tsiSbyWrite k t v) h.1 h.2

theorem exec_tsiCopy {s : State} {req : Requester} (h : Writable req 5 s) (k : Fin 4) :
    exec (.tsiCopy req k) s = .next { s with dev := s.dev.tsiCopy k } := runWrite_runs (f := Dev.tsiCopy k) h.1 h.2

theorem exec_tsiCopyDone {s : State} (h : Running s) (k : Fin 4) :
    exec (.tsiCopyDone k) s = .next { s with dev := s.dev.tsiCopyDone k } := runDev_alive (f := Dev.tsiCopyDone k) h

theorem exec_tsiSwap {s : State} {req : Requester} (h : Writable req 5 s) (k : Fin 4) :
    exec (.tsiSwap req k) s = .next { s with dev := s.dev.tsiSwap k } := runWrite_runs (f := Dev.tsiSwap k) h.1 h.2

theorem exec_tsiSwapApply {s : State} (h : Running s) (k : Fin 4) :
    exec (.tsiSwapApply k) s = .next { s with dev := s.dev.tsiSwapApply k } := runDev_alive (f := Dev.tsiSwapApply k) h

/-- Settles O28: a copy and an exchange by what each entry of the two pages becomes. -/
theorem slotPagesCopyAndSwap : Obligations.SlotPagesCopyAndSwap := by
  refine ⟨fun s req k t v hw => ⟨fun hidle => ?stored, fun hbusy => ?refusedWrite⟩, fun s req k hw => ?copyStarts,
    fun s k hrun => ⟨fun hidle => ?noCopy, fun hcopy => ?copied⟩,
    fun s req k hw => ⟨fun hswap => ?swapPending, fun hidle hok => ?swapWaits, fun hidle hbad => ?swapRefused⟩,
    fun s k hrun => ⟨fun hidle => ?noSwap, fun hswap => ?swapped⟩⟩
  case stored =>
    refine ⟨_, exec_tsiSbyWrite hw k t v, ?_⟩
    rw [Dev.tsiSbyWrite_stored hidle]
    exact ⟨Dev.reg_setReg_self .., .ofDev ((RegsKept.refl _ s.dev).setReg _ _ (List.mem_singleton_self _))⟩
  case refusedWrite =>
    refine ⟨_, exec_tsiSbyWrite hw k t v, ?_⟩
    rw [Dev.tsiSbyWrite_refused hbusy]
    refine ⟨Dev.raise_arises _ _, ?_, .ofDev (((RegsKept.refl _ s.dev).incSat Fld.FRM_CM_REFUSED.WRITES (by decide)).raise 179)⟩
    rw [Dev.raise_get]
    exact Dev.get_incSat_self _ _ 1 (Fld.ok_of _ rfl rfl)
  case copyStarts =>
    obtain ⟨hpending, hctl, hkept⟩ := s.dev.tsiCopy_shows k
    exact ⟨_, exec_tsiCopy hw k, hpending, hctl, .ofDev hkept⟩
  case noCopy => rw [exec_tsiCopyDone hrun, Dev.tsiCopyDone, if_neg (by rw [hidle]; decide)]
  case copied =>
    obtain ⟨hdone, hpages, hkept⟩ := Dev.tsiCopyDone_shows hcopy
    exact ⟨_, exec_tsiCopyDone hrun k, hdone, hpages, .ofDev hkept⟩
  case swapPending => rw [exec_tsiSwap hw, Dev.tsiSwap_pending hswap]
  case swapWaits =>
    obtain ⟨hpending, hkept⟩ := Dev.tsiSwap_waits hidle hok
    exact ⟨_, exec_tsiSwap hw k, hpending, .ofDev hkept⟩
  case swapRefused =>
    obtain ⟨hover, hcause, hstatus, hint, hkept⟩ := s.dev.refuseSwap_shows k
    refine ⟨_, exec_tsiSwap hw k, ?_⟩
    rw [Dev.tsiSwap_refused hidle hbad]
    exact ⟨hover, hcause, hstatus, hint, .ofDev hkept⟩
  case noSwap => rw [exec_tsiSwapApply hrun, Dev.tsiSwapApply, if_neg (by rw [hidle]; decide)]
  case swapped =>
    obtain ⟨hover, hdone, hactive, hpages⟩ := Dev.tsiSwapApply_shows hswap
    exact ⟨_, exec_tsiSwapApply hrun k, ⟨rfl, rfl, rfl⟩, hover, hdone, hactive,
      fun t ht => Prod.ext_iff.mp (hpages t ht)⟩

end Sys2Proof.Machine
end

section
/-! Block CRY (R215 to R229): what its key slots, flows, cores and counts show after each shared operation, and what each leaves. -/

namespace Sys2Proof.Machine

/-! ### Slots and flows beside their registers -/

@[simp] theorem Dev.cryFlow_setCryFlow (d : Dev) (f : Nat) (v : CryFlow) : (d.setCryFlow f v).cryFlow f = v := Sparse.get_put_self _ _ _ _

@[simp] theorem Dev.keySlot_setKeySlot (d : Dev) (s : Nat) (k : KeySlot) : (d.setKeySlot s k).keySlot s = k := Sparse.get_put_self _ _ _ _

theorem Dev.cryFlow_congr {d e : Dev} (h : e.cry.flows = d.cry.flows) (f : Nat) : e.cryFlow f = d.cryFlow f := by
  rw [Dev.cryFlow, h, Dev.cryFlow]

theorem Dev.keySlot_congr {d e : Dev} (h : e.cry.slots = d.cry.slots) (s : Nat) : e.keySlot s = d.keySlot s := by
  rw [Dev.keySlot, h, Dev.keySlot]

/-- The flows that encrypt follow from the structure alone (R215). -/
theorem Dev.encFlows_congr {d e : Dev} (h : e.str = d.str) : e.encFlows = d.encFlows := by
  unfold Dev.encFlows Dev.flowOf Dev.flows Dev.body
  rw [h]

theorem Dev.lt_of_mem_encFlows {d : Dev} {f : Nat} (h : f ∈ d.encFlows) : f < 1280 := List.mem_range.mp (List.mem_filter.mp h).1

@[simp] theorem Dev.cryCauses_regs (d : Dev) : d.cryCauses.regs = d.regs := by simp [Dev.cryCauses]

@[simp] theorem Dev.cryCauses_cry (d : Dev) : d.cryCauses.cry = d.cry := by simp [Dev.cryCauses]

@[simp] theorem Dev.cryCauses_sec (d : Dev) : d.cryCauses.sec = d.sec := by simp [Dev.cryCauses]

@[simp] theorem Dev.cryCauses_get (d : Dev) (g : Fld) : d.cryCauses.get g = d.get g := by simp [Dev.cryCauses]

@[simp] theorem Dev.cryCauses_reg (d : Dev) (a : Nat) : d.cryCauses.reg a = d.reg a := by simp [Dev.cryCauses]

/-! ### Fields -/

/-- Two fields, each within a word, that share no bit where they stand in one register. -/
def Fld.apart (f g : Fld) : Bool :=
  Nat.ble f.lo f.hi && Nat.ble (f.hi + 1) 32 && Nat.ble g.lo g.hi && Nat.ble (g.hi + 1) 32 && (Nat.ble (f.hi + 1) g.lo || Nat.ble (g.hi + 1) f.lo)

/-- Writing a field leaves the fields apart from it: `Dev.get_put_apart _ _ rfl`. -/
theorem Dev.get_put_apart (d : Dev) {f g : Fld} (v : Nat) (h : f.apart g = true) : (d.put f v).get g = d.get g := by
  simp only [Fld.apart, Bool.and_eq_true, Bool.or_eq_true, Nat.ble_eq] at h
  obtain ⟨⟨⟨⟨hf, hf32⟩, hg⟩, hg32⟩, hapart⟩ := h
  exact Dev.get_put_ne _ _ _ _ ⟨hf, hf32⟩ ⟨hg, hg32⟩ (.inr hapart)

theorem RegsKept.mono {l m : List Nat} {d e : Dev} (h : RegsKept l d e) (hlm : l ⊆ m) : RegsKept m d e := fun a ha => h a fun hl => ha (hlm hl)

theorem RegsKept.trans {l : List Nat} {d e f : Dev} (h : RegsKept l d e) (k : RegsKept l e f) : RegsKept l d f := RegsOut.trans h k

theorem RegsKept.setReg64 {l : List Nat} {d e : Dev} (h : RegsKept l d e) (lo v : Nat) (hlo : lo ∈ l) (hhi : lo + 4 ∈ l) :
    RegsKept l d (e.setReg64 lo v) := (h.setReg _ _ hlo).setReg _ _ hhi

/-- A value over two registers reads back, cut to 64 bits. -/
theorem Dev.reg64_setReg64 (d : Dev) (lo v : Nat) : (d.setReg64 lo v).reg64 lo = v % 2 ^ 64 := by
  have hcut : d.setReg64 lo v = d.setReg64 lo (v % 2 ^ 64) := by
    have hlo : BitVec.ofNat 32 v = BitVec.ofNat 32 (v % 2 ^ 64) := BitVec.eq_of_toNat_eq (by simp only [BitVec.toNat_ofNat]; omega)
    have hhi : BitVec.ofNat 32 (v / 2 ^ 32) = BitVec.ofNat 32 (v % 2 ^ 64 / 2 ^ 32) :=
      BitVec.eq_of_toNat_eq (by simp only [BitVec.toNat_ofNat]; omega)
    rw [Dev.setReg64, hlo, hhi, Dev.setReg64]
  rw [hcut, Dev.reg64_setReg64_self d lo (Nat.mod_lt _ (by decide))]

/-! ### Cores and randomness (R226, R228) -/

/-- e differs from d in the uses of cores, the DRBG's requests and the free values drawn at most. -/
structure CoresAlone (d e : Dev) : Prop where
  regs : e.regs = d.regs
  str : e.str = d.str
  sec : e.sec = d.sec
  slots : e.cry.slots = d.cry.slots
  flows : e.cry.flows = d.cry.flows
  jobs : e.cry.jobs = d.cry.jobs

theorem Dev.drbgTake_alone (d : Dev) (n : Nat) : CoresAlone d (d.drbgTake n).2 := by
  unfold Dev.drbgTake
  dsimp only
  split <;> exact ⟨rfl, rfl, rfl, rfl, rfl, rfl⟩

theorem Dev.takeCore_alone (d : Dev) (job : Bool) (ticks : Nat) (key : List Byte) : CoresAlone d (d.takeCore job ticks key) := by
  obtain ⟨hregs, hstr, hsec, hslots, hflows, hjobs⟩ := d.drbgTake_alone (2 ^ 512)
  exact ⟨hregs, hstr, hsec, hslots, hflows, hjobs⟩

theorem CoresAlone.reg {d e : Dev} (h : CoresAlone d e) (a : Nat) : e.reg a = d.reg a := (RegsOut.refl (fun _ => True) d).same h.regs a trivial

theorem CoresAlone.get {d e : Dev} (h : CoresAlone d e) (g : Fld) : e.get g = d.get g := by rw [Dev.get, h.reg, Dev.get]

theorem CoresAlone.slotCount {d e : Dev} (h : CoresAlone d e) (s : Nat) : e.slotCount s = d.slotCount s := by
  rw [Dev.slotCount, Dev.reg64, h.reg, h.reg, Dev.slotCount, Dev.reg64]

/-! ### The state and the COUNT of a slot (R216, R222) -/

theorem ksState_ne_int (s : Nat) : Reg.CRY_KS_STATE s ≠ Reg.CRY_INT_STATUS := by unfold Reg.CRY_KS_STATE Reg.CRY_INT_STATUS; omega

theorem ksState_ne_flowStatus (s f : Nat) : Reg.CRY_KS_STATE s ≠ Reg.CRY_FLOW_STATUS f := by
  unfold Reg.CRY_KS_STATE Reg.CRY_FLOW_STATUS; omega

/-- The registers of a slot, and the interrupt of a change of its state. -/
abbrev slotRegs (s : Nat) : List Nat := [Reg.CRY_KS_STATE s, Reg.CRY_KS_CNT_LO s, Reg.CRY_KS_CNT_LO s + 4, Reg.CRY_INT_STATUS]

theorem slotCount_ne_state (s t : Nat) : Reg.CRY_KS_CNT_LO s ≠ Reg.CRY_KS_STATE t ∧ Reg.CRY_KS_CNT_LO s + 4 ≠ Reg.CRY_KS_STATE t := by
  unfold Reg.CRY_KS_CNT_LO Reg.CRY_KS_STATE; omega

theorem slotCount_ne_int (s : Nat) : Reg.CRY_KS_CNT_LO s ≠ Reg.CRY_INT_STATUS ∧ Reg.CRY_KS_CNT_LO s + 4 ≠ Reg.CRY_INT_STATUS := by
  unfold Reg.CRY_KS_CNT_LO Reg.CRY_INT_STATUS; omega

theorem slotCount_ne_flowStatus {s : Nat} (hs : s < 512) (f : Nat) :
    Reg.CRY_KS_CNT_LO s ≠ Reg.CRY_FLOW_STATUS f ∧ Reg.CRY_KS_CNT_LO s + 4 ≠ Reg.CRY_FLOW_STATUS f := by
  unfold Reg.CRY_KS_CNT_LO Reg.CRY_FLOW_STATUS; omega

/-- A field in a register that is kept. -/
theorem RegsKept.get {l : List Nat} {d e : Dev} (h : RegsKept l d e) (g : Fld) (hg : g.addr ∉ l) : e.get g = d.get g := RegsOut.get h g hg

/-- A change that leaves the two registers of a COUNT leaves the COUNT. -/
theorem RegsKept.slotCount {l : List Nat} {d e : Dev} (h : RegsKept l d e) {s : Nat}
    (hs : Reg.CRY_KS_CNT_LO s ∉ l ∧ Reg.CRY_KS_CNT_LO s + 4 ∉ l) : e.slotCount s = d.slotCount s := RegsOut.reg64 h hs.1 hs.2

theorem Dev.slotCount_cryCauses (d : Dev) (s : Nat) : d.cryCauses.slotCount s = d.slotCount s :=
  (RegsKept.ofRegs (l := []) d.cryCauses_regs).slotCount ⟨List.not_mem_nil, List.not_mem_nil⟩

theorem Dev.slotState_setSlotState (d : Dev) (s st : Nat) (hst : st < 4) : (d.setSlotState s st).slotState s = st := by
  unfold Dev.setSlotState
  split
  · assumption
  · rw [Dev.slotState, Dev.get_setInt_ne _ _ _ (ksState_ne_int s), Dev.get_put_self _ _ _ (Fld.ok_of _ rfl rfl)]
    exact Nat.mod_eq_of_lt hst

/-- The state of a slot shares no bit with the fields above it. -/
theorem Dev.get_setSlotState_above (d : Dev) (s st : Nat) {g : Fld} (hg : g.ok) (haddr : g.addr = Reg.CRY_KS_STATE s)
    (hlo : Nat.ble 2 g.lo = true) : (d.setSlotState s st).get g = d.get g := by
  unfold Dev.setSlotState
  split
  · rfl
  · rw [Dev.get_setInt_ne _ _ _ (haddr ▸ ksState_ne_int s)]
    exact Dev.get_put_ne _ _ _ _ (Fld.ok_of _ rfl rfl) hg (.inr (.inl (Nat.le_of_ble_eq_true hlo)))

theorem RegsKept.setSlotState {l : List Nat} {d e : Dev} (h : RegsKept l d e) (s st : Nat) (hs : Reg.CRY_KS_STATE s ∈ l)
    (hi : Reg.CRY_INT_STATUS ∈ l) : RegsKept l d (e.setSlotState s st) := h.ite ((h.put _ _ hs).setInt _ _ hi)

@[simp] theorem Dev.setSlotState_cry (d : Dev) (s st : Nat) : (d.setSlotState s st).cry = d.cry := by unfold Dev.setSlotState; split <;> simp

@[simp] theorem Dev.setSlotState_str (d : Dev) (s st : Nat) : (d.setSlotState s st).str = d.str := by unfold Dev.setSlotState; split <;> simp

@[simp] theorem Dev.setSlotState_sec (d : Dev) (s st : Nat) : (d.setSlotState s st).sec = d.sec := by unfold Dev.setSlotState; split <;> simp

/-- A slot that has given its COUNT once more: WARN from 2^47 on (R222). -/
def Dev.counted (d : Dev) (s : Nat) : Dev :=
  if 2 ^ 47 ≤ d.slotCount s + 1 then (d.setReg64 (Reg.CRY_KS_CNT_LO s) (d.slotCount s + 1)).put (Fld.CRY_KS_STATE.WARN s) 1
  else d.setReg64 (Reg.CRY_KS_CNT_LO s) (d.slotCount s + 1)

theorem Dev.takeCount_eq (d : Dev) (s : Nat) : d.takeCount s = (d.slotCount s,
    if 2 ^ 48 ≤ d.slotCount s + 1 then ((d.counted s).setSlotState s 2).put (Fld.CRY_KS_STATE.TX_ACT s) 0 else d.counted s) := rfl

/-- Beside the COUNT itself, giving it changes the slot's state at most. -/
theorem Dev.takeCount_afterCount (d : Dev) (s : Nat) : RegsKept [Reg.CRY_KS_STATE s, Reg.CRY_INT_STATUS]
    (d.setReg64 (Reg.CRY_KS_CNT_LO s) (d.slotCount s + 1)) (d.takeCount s).2 := by
  have hcount := RegsKept.refl [Reg.CRY_KS_STATE s, Reg.CRY_INT_STATUS] (d.setReg64 (Reg.CRY_KS_CNT_LO s) (d.slotCount s + 1))
  have hcounted : RegsKept [Reg.CRY_KS_STATE s, Reg.CRY_INT_STATUS] _ (d.counted s) := (hcount.put _ _ List.mem_cons_self).ite hcount
  rw [Dev.takeCount_eq]
  exact ((hcounted.setSlotState s 2 (by simp) (by simp)).put _ _ List.mem_cons_self).ite hcounted

theorem Dev.takeCount_slotCount (d : Dev) (s : Nat) : (d.takeCount s).2.slotCount s = (d.slotCount s + 1) % 2 ^ 64 := by
  rw [(d.takeCount_afterCount s).slotCount (by simp [slotCount_ne_state, slotCount_ne_int]), Dev.slotCount, Dev.reg64_setReg64]

theorem Dev.takeCount_regsKept (d : Dev) (s : Nat) : RegsKept (slotRegs s) d (d.takeCount s).2 :=
  ((RegsKept.refl (slotRegs s) d).setReg64 _ _ (by simp) (by simp)).trans ((d.takeCount_afterCount s).mono (by simp))

theorem Dev.takeCount_role (d : Dev) (s : Nat) : (d.takeCount s).2.get (Fld.CRY_KS_STATE.ROLE s) = d.get (Fld.CRY_KS_STATE.ROLE s) := by
  have hreg : Reg.CRY_KS_STATE s ≠ Reg.CRY_KS_CNT_LO s ∧ Reg.CRY_KS_STATE s ≠ Reg.CRY_KS_CNT_LO s + 4 := by
    unfold Reg.CRY_KS_STATE Reg.CRY_KS_CNT_LO; omega
  have hcount : (d.setReg64 (Reg.CRY_KS_CNT_LO s) (d.slotCount s + 1)).get (Fld.CRY_KS_STATE.ROLE s) = d.get (Fld.CRY_KS_STATE.ROLE s) :=
    ((RegsOut.refl (· = Reg.CRY_KS_STATE s) d).setReg64 _ _ fun _ h => h ▸ hreg).get _ rfl
  have hcounted : (d.counted s).get (Fld.CRY_KS_STATE.ROLE s) = d.get (Fld.CRY_KS_STATE.ROLE s) := by
    unfold Dev.counted
    split
    · rw [Dev.get_put_apart _ _ rfl, hcount]
    · exact hcount
  rw [Dev.takeCount_eq]
  dsimp only
  split
  · rw [Dev.get_put_apart _ _ rfl, Dev.get_setSlotState_above _ _ _ (Fld.ok_of _ rfl rfl) rfl rfl, hcounted]
  · exact hcounted

@[simp] theorem Dev.counted_cry (d : Dev) (s : Nat) : (d.counted s).cry = d.cry := by
  unfold Dev.counted
  split
  · rw [Dev.put_cry, Dev.setReg64_cry]
  · rw [Dev.setReg64_cry]

@[simp] theorem Dev.takeCount_cry (d : Dev) (s : Nat) : (d.takeCount s).2.cry = d.cry := by
  rw [Dev.takeCount_eq]
  dsimp only
  split
  · rw [Dev.put_cry, Dev.setSlotState_cry, Dev.counted_cry]
  · exact d.counted_cry s

end Sys2Proof.Machine
end

section
/-! Transmitting blocks of an encrypted flow (R211 to R214, R221, R222, R226). -/

namespace Sys2Proof.Machine

/-! ### The slot of a block (R221) -/

section
variable {d : Dev} {f e k : Nat} {b : Bool}

/-- The slot chosen is one of the flow's own two. -/
theorem Dev.chooseSlot_some (h : d.chooseSlot f e = (some k, b)) : k = 2 * e ∨ k = 2 * e + 1 := by
  have hsel := d.get_lt (Fld.CRY_FLOW_CTL.TX_SEL f)
  change d.get (Fld.CRY_FLOW_CTL.TX_SEL f) < 2 at hsel
  unfold Dev.chooseSlot at h
  dsimp only at h
  split at h
  · simp only [Prod.mk.injEq, Option.some.injEq] at h
    omega
  · split at h
    · simp only [Prod.mk.injEq, Option.some.injEq] at h
      omega
    · simp at h

theorem Dev.chooseSlot_lt (h : d.chooseSlot f e = (some k, b)) (he : e < 256) : k < 512 := by
  have hown := Dev.chooseSlot_some h
  omega

/-- The tag of flow f's last block is not sent any more (R214). -/
def Dev.dropTag (d : Dev) (f : Nat) : Dev := d.setCryFlow f { d.cryFlow f with tagPrev := none }

/-- The choice does not depend on the tag of the block before. -/
theorem Dev.chooseSlot_dropTag (d : Dev) (f e : Nat) :
    (d.dropTag f).chooseSlot f e = d.chooseSlot f e := by
  unfold Dev.chooseSlot Dev.dropTag
  rw [Dev.cryFlow_setCryFlow]
  rfl

/-- The registers in which the choice of a slot shows. -/
abbrev txSlotRegs (f e : Nat) : List Nat := [Reg.CRY_FLOW_STATUS f, Reg.CRY_KS_STATE (2 * e), Reg.CRY_KS_STATE (2 * e + 1)]

/-- What a choice of a slot shows: TX_ACT of the flow's two slots, and TX_SLOT. -/
def Dev.txSlotShown (d : Dev) (f e v w x : Nat) : Dev :=
  ((d.put (Fld.CRY_KS_STATE.TX_ACT (2 * e)) v).put (Fld.CRY_KS_STATE.TX_ACT (2 * e + 1)) w).put (Fld.CRY_FLOW_STATUS.TX_SLOT f) x

theorem Dev.useTxSlot_cases (d : Dev) (f e : Nat) (t : Option Nat) : ∃ v w x, d.useTxSlot f e t = d.txSlotShown f e v w x ∨
    d.useTxSlot f e t = (d.txSlotShown f e v w x).setInt intCRY 2 := ⟨_, _, _, ite_eq_or_eq ..⟩

theorem Dev.useTxSlot_none (d : Dev) (f e : Nat) : d.useTxSlot f e none = d.txSlotShown f e 0 0 2 := if_pos (.inr rfl)

theorem Dev.txSlotShown_regsKept (d : Dev) (f e v w x : Nat) : RegsKept (txSlotRegs f e) d (d.txSlotShown f e v w x) :=
  (((RegsKept.refl _ d).put _ _ (by simp [Fld.CRY_KS_STATE.TX_ACT])).put _ _ (by simp [Fld.CRY_KS_STATE.TX_ACT])).put _ _
    (by simp [Fld.CRY_FLOW_STATUS.TX_SLOT])

theorem Dev.useTxSlot_regsKept (d : Dev) (f e : Nat) (t : Option Nat) :
    RegsKept (Reg.CRY_INT_STATUS :: txSlotRegs f e) d (d.useTxSlot f e t) := by
  obtain ⟨v, w, x, hcases⟩ := d.useTxSlot_cases f e t
  have hshown : RegsKept (Reg.CRY_INT_STATUS :: txSlotRegs f e) d (d.txSlotShown f e v w x) :=
    (d.txSlotShown_regsKept f e v w x).mono (List.subset_cons_self ..)
  rcases hcases with hshows | hsignals
  · rwa [hshows]
  · rw [hsignals]
    exact hshown.setInt _ _ List.mem_cons_self

theorem Dev.useTxSlot_cry (d : Dev) (f e : Nat) (t : Option Nat) : (d.useTxSlot f e t).cry = d.cry := by
  obtain ⟨v, w, x, hshows | hsignals⟩ := d.useTxSlot_cases f e t
  · rw [hshows]
    rfl
  · rw [hsignals, Dev.setInt_cry]
    rfl

/-- TX_ACT of the two slots and TX_SLOT share no bit with ROLE. -/
theorem Dev.useTxSlot_role (d : Dev) (f e : Nat) (t : Option Nat) :
    (d.useTxSlot f e t).get (Fld.CRY_KS_STATE.ROLE k) = d.get (Fld.CRY_KS_STATE.ROLE k) := by
  obtain ⟨v, w, x, hcases⟩ := d.useTxSlot_cases f e t
  have hshown : (d.txSlotShown f e v w x).get (Fld.CRY_KS_STATE.ROLE k) = d.get (Fld.CRY_KS_STATE.ROLE k) := by
    rw [Dev.txSlotShown, Dev.get_put_elsewhere _ _ (ksState_ne_flowStatus k f),
      Dev.get_put_apart _ _ rfl, Dev.get_put_apart _ _ rfl]
  rcases hcases with hshows | hsignals
  · rw [hshows, hshown]
  · rw [hsignals, Dev.get_setInt_ne _ _ _ (ksState_ne_int k), hshown]

end

/-! ### One block (R212, R213, R222) -/

/-- A block depends on its slot's key, salt and role, on SIZE, and on the tag of the block before. -/
theorem Dev.encryptBlock_congr {d d' : Dev} {f k : Nat} (hslot : d'.keySlot k = d.keySlot k)
    (hsize : d'.get (Fld.CRY_FLOW_CTL.SIZE f) = d.get (Fld.CRY_FLOW_CTL.SIZE f))
    (hrole : d'.get (Fld.CRY_KS_STATE.ROLE k) = d.get (Fld.CRY_KS_STATE.ROLE k)) (htag : (d'.cryFlow f).tagPrev = (d.cryFlow f).tagPrev)
    (count : Nat) (l : List OduFrame) : d'.encryptBlock f k count l = d.encryptBlock f k count l := by
  unfold Dev.encryptBlock Dev.isSet
  rw [hslot, hsize, hrole, htag]

/-- The end of a block of flow f: the tag for the next one, and TX_LCK. -/
def Dev.endTxBlock (d : Dev) (f : Nat) (tag : Option (List Byte)) (lck : Nat) : Dev :=
  ((d.setCryFlow f { d.cryFlow f with tagPrev := tag, selFresh := false }).put (Fld.CRY_FLOW_STATUS.TX_LCK f) lck).cryCauses

theorem Dev.endTxBlock_cryFlow (d : Dev) (f : Nat) (tag : Option (List Byte)) (lck : Nat) :
    ((d.endTxBlock f tag lck).cryFlow f).tagPrev = tag := by
  rw [Dev.cryFlow_congr (d := d.setCryFlow f { d.cryFlow f with tagPrev := tag, selFresh := false }) (by rw [Dev.endTxBlock, Dev.cryCauses_cry]; rfl),
    Dev.cryFlow_setCryFlow]

theorem Dev.endTxBlock_txLck (d : Dev) (f : Nat) (tag : Option (List Byte)) (lck : Nat) :
    (d.endTxBlock f tag lck).get (Fld.CRY_FLOW_STATUS.TX_LCK f) = lck % 2 := by
  rw [Dev.endTxBlock, Dev.cryCauses_get, Dev.get_put_self _ _ _ (Fld.ok_of _ rfl rfl)]
  rfl

theorem Dev.endTxBlock_txSlot (d : Dev) (f : Nat) (tag : Option (List Byte)) (lck : Nat) :
    (d.endTxBlock f tag lck).get (Fld.CRY_FLOW_STATUS.TX_SLOT f) = d.get (Fld.CRY_FLOW_STATUS.TX_SLOT f) := by
  rw [Dev.endTxBlock, Dev.cryCauses_get, Dev.get_put_apart _ _ rfl]
  rfl

theorem Dev.endTxBlock_regsKept (d : Dev) (f : Nat) (tag : Option (List Byte)) (lck : Nat) :
    RegsKept [Reg.CRY_FLOW_STATUS f] d (d.endTxBlock f tag lck) :=
  have hflow : RegsKept [Reg.CRY_FLOW_STATUS f] d (d.setCryFlow f { d.cryFlow f with tagPrev := tag, selFresh := false }) := .ofRegs rfl
  (hflow.put (Fld.CRY_FLOW_STATUS.TX_LCK f) lck List.mem_cons_self).same (Dev.cryCauses_regs _)

/-- SEL_REFUSED where the block's choice refuses TX_SEL. -/
def Dev.selRefused (d : Dev) (b : Bool) : Dev := if b then d.raise 201 else d

theorem Dev.selRefused_regs (d : Dev) (b : Bool) : (d.selRefused b).regs = d.regs := by cases b <;> simp [Dev.selRefused]

theorem Dev.selRefused_cry (d : Dev) (b : Bool) : (d.selRefused b).cry = d.cry := by cases b <;> simp [Dev.selRefused]

/-- A block that slot k encrypts has its slot and its core. -/
def Dev.txBegun (d : Dev) (f e k : Nat) (b : Bool) : Dev :=
  let d' := (d.selRefused b).useTxSlot f e (some k)
  d'.takeCore false (coreTicks (framePayload * 2 ^ d'.get (Fld.CRY_FLOW_CTL.SIZE f))) (d'.keySlot k).key

section
variable {d : Dev} {f e k : Nat} {b : Bool} {l : List OduFrame}

theorem Dev.cryTxBlock_lck (h : d.chooseSlot f e = (none, b)) (whole : Bool) :
    d.cryTxBlock f e l whole = (((d.selRefused b).useTxSlot f e none).endTxBlock f none 1, .lck) := by
  unfold Dev.cryTxBlock
  rw [h]
  rfl

theorem Dev.cryTxBlock_encrypts (h : d.chooseSlot f e = (some k, b)) :
    d.cryTxBlock f e l true =
      let r := ((d.txBegun f e k b).takeCount k).2.encryptBlock f k ((d.txBegun f e k b).slotCount k) l
      (((d.txBegun f e k b).takeCount k).2.endTxBlock f (some r.2) 0, .frames r.1) := by
  unfold Dev.cryTxBlock
  rw [h]
  rfl

/-- The flow has no slot to encrypt under: ODU-LCK. -/
theorem Dev.cryTxBlock_lck_shows (h : d.chooseSlot f e = (none, b)) (whole : Bool) :
    (d.cryTxBlock f e l whole).2 = .lck ∧ (d.cryTxBlock f e l whole).1.get (Fld.CRY_FLOW_STATUS.TX_LCK f) = 1 ∧
      (d.cryTxBlock f e l whole).1.get (Fld.CRY_FLOW_STATUS.TX_SLOT f) = 2 ∧ RegsKept (txSlotRegs f e) d (d.cryTxBlock f e l whole).1 := by
  rw [Dev.cryTxBlock_lck h, Dev.useTxSlot_none]
  refine ⟨rfl, by rw [Dev.endTxBlock_txLck], ?_, ?_⟩
  · rw [Dev.endTxBlock_txSlot, Dev.txSlotShown, Dev.get_put_self _ _ _ (Fld.ok_of _ rfl rfl)]
    rfl
  · have hshown := (RegsKept.ofRegs (d.selRefused_regs b)).trans ((d.selRefused b).txSlotShown_regsKept f e 0 0 2)
    dsimp only
    exact hshown.trans ((Dev.endTxBlock_regsKept _ f none 1).mono (by simp))

theorem Dev.txBegun_alone (d : Dev) (f e k : Nat) (b : Bool) :
    CoresAlone ((d.selRefused b).useTxSlot f e (some k)) (d.txBegun f e k b) := Dev.takeCore_alone ..

theorem Dev.txBegun_flows (d : Dev) (f e k : Nat) (b : Bool) : (d.txBegun f e k b).cry.flows = d.cry.flows := by
  rw [(d.txBegun_alone f e k b).flows, Dev.useTxSlot_cry, Dev.selRefused_cry]

theorem Dev.txBegun_slots (d : Dev) (f e k : Nat) (b : Bool) : (d.txBegun f e k b).cry.slots = d.cry.slots := by
  rw [(d.txBegun_alone f e k b).slots, Dev.useTxSlot_cry, Dev.selRefused_cry]

theorem Dev.txBegun_regsKept (d : Dev) (f e k : Nat) (b : Bool) : RegsKept (Reg.CRY_INT_STATUS :: txSlotRegs f e) d (d.txBegun f e k b) :=
  ((RegsKept.ofRegs (d.selRefused_regs b)).trans (Dev.useTxSlot_regsKept _ f e (some k))).same (d.txBegun_alone f e k b).regs

theorem Dev.txBegun_slotCount (d : Dev) (f e : Nat) (b : Bool) (hk : k < 512) : (d.txBegun f e k b).slotCount k = d.slotCount k :=
  (d.txBegun_regsKept f e k b).slotCount (by simp [slotCount_ne_int, slotCount_ne_state, slotCount_ne_flowStatus hk])

theorem Dev.txBegun_role (d : Dev) (f e k : Nat) (b : Bool) :
    (d.txBegun f e k b).get (Fld.CRY_KS_STATE.ROLE k) = d.get (Fld.CRY_KS_STATE.ROLE k) := by
  rw [(d.txBegun_alone f e k b).get, Dev.useTxSlot_role]
  exact (RegsKept.ofRegs (d.selRefused_regs b)).get _ List.not_mem_nil

/-- The choice of a slot and its COUNT stand in other registers than the flow's SIZE. -/
theorem flowCtl_notMem (f : Nat) (he : e < 256) (hk : k < 512) :
    Reg.CRY_FLOW_CTL f ∉ Reg.CRY_INT_STATUS :: txSlotRegs f e ∧ Reg.CRY_FLOW_CTL f ∉ slotRegs k := by
  simp only [List.mem_cons, List.not_mem_nil, or_false, Reg.CRY_FLOW_CTL, Reg.CRY_INT_STATUS, Reg.CRY_FLOW_STATUS, Reg.CRY_KS_STATE,
    Reg.CRY_KS_CNT_LO]
  omega

theorem Dev.size_txBegun_takeCount (d : Dev) (f : Nat) (b : Bool) (he : e < 256) (hk : k < 512) :
    ((d.txBegun f e k b).takeCount k).2.get (Fld.CRY_FLOW_CTL.SIZE f) = d.get (Fld.CRY_FLOW_CTL.SIZE f) := by
  obtain ⟨hchoice, hcount⟩ := flowCtl_notMem f he hk
  rw [((d.txBegun f e k b).takeCount_regsKept k).get _ hcount, (d.txBegun_regsKept f e k b).get _ hchoice]

/-- A whole block is encrypted under the chosen slot, whose COUNT goes up by one. -/
theorem Dev.cryTxBlock_encrypts_shows (h : d.chooseSlot f e = (some k, b)) (he : e < 256) :
    (d.cryTxBlock f e l true).2 = .frames (d.encryptBlock f k (d.slotCount k) l).1 ∧
      ((d.cryTxBlock f e l true).1.cryFlow f).tagPrev = some (d.encryptBlock f k (d.slotCount k) l).2 ∧
      (d.cryTxBlock f e l true).1.slotCount k = (d.slotCount k + 1) % 2 ^ 64 ∧
      (d.cryTxBlock f e l true).1.get (Fld.CRY_FLOW_STATUS.TX_LCK f) = 0 := by
  have hk := Dev.chooseSlot_lt h he
  have hcount := d.txBegun_slotCount f e b hk
  have hblock : ((d.txBegun f e k b).takeCount k).2.encryptBlock f k (d.slotCount k) l = d.encryptBlock f k (d.slotCount k) l := by
    refine Dev.encryptBlock_congr (Dev.keySlot_congr ?_ k) (d.size_txBegun_takeCount f b he hk) ?_ ?_ _ _
    · rw [Dev.takeCount_cry, Dev.txBegun_slots]
    · rw [Dev.takeCount_role, Dev.txBegun_role]
    · rw [Dev.cryFlow_congr (d := d) (by rw [Dev.takeCount_cry, Dev.txBegun_flows])]
  rw [Dev.cryTxBlock_encrypts h, hcount]
  dsimp only
  rw [hblock]
  refine ⟨rfl, Dev.endTxBlock_cryFlow _ _ _ _, ?_, by rw [Dev.endTxBlock_txLck]⟩
  rw [RegsKept.slotCount (Dev.endTxBlock_regsKept _ f _ 0) (by simp [slotCount_ne_flowStatus hk]), Dev.takeCount_slotCount, hcount]

end

/-! ### The pieces of a run of frames (R214) -/

section
variable {f e n : Nat} {m l : List OduFrame}

/-- Frames that satisfy p stand before frames that do not: the run that satisfies p ends between them. -/
theorem takeWhile_append_none {α : Type} {p : α → Bool} {m l : List α} (hm : ∀ x ∈ m, p x = true) (hl : ∀ x ∈ l, p x = false) :
    (m ++ l).takeWhile p = m := by
  rw [List.takeWhile_append_of_pos hm]
  cases l with
  | nil => simp
  | cons x r => simp [hl x]

theorem Dev.cryTxRun_nil (f e n fuel : Nat) (d : Dev) (out : List (CryOut × Nat)) : Dev.cryTxRun f e n fuel [] d out = (d, out) := by
  cases fuel with
  | zero => rfl
  | succ fuel => simp [Dev.cryTxRun]

theorem Dev.cryTxRun_maint (hm : m ≠ []) (hmaint : ∀ w ∈ m, odMaint w = true) (hl : ∀ w ∈ l, odMaint w = false) (fuel : Nat) (d : Dev)
    (out : List (CryOut × Nat)) : Dev.cryTxRun f e n (fuel + 1) (m ++ l) d out =
      Dev.cryTxRun f e n fuel l (d.dropTag f) (out ++ [(.frames m, m.length)]) := by
  have hsome : m.isEmpty = false := List.isEmpty_eq_false_iff.mpr hm
  rw [Dev.cryTxRun, takeWhile_append_none hmaint hl]
  simp [hsome, Dev.dropTag]

theorem Dev.cryTxRun_block (hl : ∀ w ∈ l, odMaint w = false) (hn : l.length = n) (h0 : 0 < n) (fuel : Nat) (d : Dev)
    (out : List (CryOut × Nat)) : Dev.cryTxRun f e n (fuel + 1) l d out =
      ((d.cryTxBlock f e l true).1, out ++ [((d.cryTxBlock f e l true).2, n)]) := by
  have hnone : l.takeWhile odMaint = [] := takeWhile_append_none (m := []) (by simp) hl
  have hall : l.takeWhile (fun w => !odMaint w) = l := List.takeWhile_eq_self_iff.mpr fun w hw => by
    simp [hl w hw]
  have hsome : l.isEmpty = false := List.isEmpty_eq_false_iff.mpr (List.length_pos_iff.mp (hn ▸ h0))
  rw [Dev.cryTxRun, hnone, hall, ← hn, List.take_length]
  simp [hsome, Dev.cryTxRun_nil]

/-- What flow f gives out. -/
def Dev.sends (d : Dev) (f : Nat) (o : CryOut) : Dev := d.setCryFlow f { d.cryFlow f with txOut := o }

@[simp] theorem Dev.cryFlow_sends (d : Dev) (f : Nat) (o : CryOut) : (d.sends f o).cryFlow f = { d.cryFlow f with txOut := o } :=
  Dev.cryFlow_setCryFlow ..

/-- A run of frames whose last block is whole is taken piece by piece. -/
theorem Dev.cryptoBlockTx_eq {s : State} {f : Fin 1280} {e : Nat} {l : List OduFrame} (h : Encrypting f e s) (hl : l ≠ [])
    (hwhole : (l.reverse.takeWhile (fun w => !odMaint w)).length % 2 ^ s.dev.get (Fld.CRY_FLOW_CTL.SIZE f) = 0) :
    s.dev.cryptoBlockTx f l =
      let r := Dev.cryTxRun f e (2 ^ s.dev.get (Fld.CRY_FLOW_CTL.SIZE f)) l.length l s.dev []
      r.1.sends f (joinOut r.2) := by
  obtain ⟨_, hruns, hindex⟩ := h
  unfold Dev.cryptoBlockTx
  rw [hindex]
  simp [hruns, hl, hwhole, Dev.sends]

/-- Frames of a maintenance signal alone, in the one piece that they are. -/
theorem Dev.cryptoBlockTx_maint {s : State} {f : Fin 1280} (h : Encrypting f e s) (hm : m ≠ []) (hmaint : ∀ w ∈ m, odMaint w = true) :
    s.dev.cryptoBlockTx f m = (s.dev.dropTag f).sends f (.frames m) := by
  have hnone : m.reverse.takeWhile (fun w => !odMaint w) = [] :=
    takeWhile_append_none (m := []) (by simp) fun w hw => by simp [hmaint w (List.mem_reverse.mp hw)]
  obtain ⟨i, hi⟩ := Nat.exists_eq_succ_of_ne_zero (mt List.length_eq_zero_iff.mp hm)
  have hrun := Dev.cryTxRun_maint (f := f) (e := e) (n := 2 ^ s.dev.get (Fld.CRY_FLOW_CTL.SIZE f)) hm hmaint (l := []) (by simp) i s.dev []
  rw [List.append_nil] at hrun
  rw [Dev.cryptoBlockTx_eq h hm (by rw [hnone]; exact Nat.zero_mod _), hi, hrun, Dev.cryTxRun_nil]
  rfl

/-- One block of frames of no maintenance signal. -/
theorem Dev.cryptoBlockTx_block {s : State} {f : Fin 1280} (h : Encrypting f e s) (hl : ∀ w ∈ l, odMaint w = false)
    (hn : l.length = 2 ^ s.dev.get (Fld.CRY_FLOW_CTL.SIZE f)) :
    s.dev.cryptoBlockTx f l = (s.dev.cryTxBlock f e l true).1.sends f (s.dev.cryTxBlock f e l true).2 := by
  have h0 : 0 < l.length := hn ▸ Nat.two_pow_pos _
  have hall : l.reverse.takeWhile (fun w => !odMaint w) = l.reverse := List.takeWhile_eq_self_iff.mpr fun w hw => by
    simp [hl w (List.mem_reverse.mp hw)]
  obtain ⟨i, hi⟩ := Nat.exists_eq_succ_of_ne_zero (Nat.ne_of_gt h0)
  rw [Dev.cryptoBlockTx_eq h (List.length_pos_iff.mp h0) (by rw [hall, List.length_reverse, hn, Nat.mod_self]), hi,
    Dev.cryTxRun_block hl hn (Nat.two_pow_pos _)]
  rfl

/-- Frames of a maintenance signal, and a block after them. -/
theorem Dev.cryptoBlockTx_resumes {s : State} {f : Fin 1280} {l' : List OduFrame} (h : Encrypting f e s) (hm : m ≠ [])
    (hmaint : ∀ w ∈ m, odMaint w = true) (hl : ∀ w ∈ l, odMaint w = false) (hn : l.length = 2 ^ s.dev.get (Fld.CRY_FLOW_CTL.SIZE f))
    (hout : ((s.dev.dropTag f).cryTxBlock f e l true).2 = .frames l') :
    s.dev.cryptoBlockTx f (m ++ l) = ((s.dev.dropTag f).cryTxBlock f e l true).1.sends f (.frames (m ++ l')) := by
  have hlast : (m ++ l).reverse.takeWhile (fun w => !odMaint w) = l.reverse := by
    rw [List.reverse_append]
    exact takeWhile_append_none (fun w hw => by simp [hl w (List.mem_reverse.mp hw)]) fun w hw => by simp [hmaint w (List.mem_reverse.mp hw)]
  have hm0 : 0 < m.length := List.length_pos_iff.mpr hm
  have hl0 : 0 < l.length := hn ▸ Nat.two_pow_pos _
  obtain ⟨i, hi⟩ : ∃ i, (m ++ l).length = i + 1 + 1 := ⟨m.length + l.length - 2, by rw [List.length_append]; omega⟩
  rw [Dev.cryptoBlockTx_eq h (by simp [hm]) (by rw [hlast, List.length_reverse, hn, Nat.mod_self]), hi, Dev.cryTxRun_maint hm hmaint hl,
    Dev.cryTxRun_block hl hn (Nat.two_pow_pos _), hout]
  simp [joinOut]

end

/-! ### O29 -/

theorem exec_cryptoBlockTx {s : State} (h : Working 6 s) (f : Fin 1280) (l : List OduFrame) :
    exec (.cryptoBlockTx f l) s = .next { s with dev := s.dev.cryptoBlockTx f l } := runBlock_runs (f := Dev.cryptoBlockTx f l) h.1 h.2

theorem exec_cryptoLate {s : State} (h : Working 6 s) (f : Fin 1280) (tx : Bool) :
    exec (.cryptoLate f tx) s = .next { s with dev := s.dev.cryptoLate f tx } := runBlock_runs (f := Dev.cryptoLate f tx) h.1 h.2

theorem Dev.cryptoBlockTx_notEncrypting {d : Dev} {f : Nat} (h : d.eIndex f = none) (l : List OduFrame) : d.cryptoBlockTx f l = d := by
  unfold Dev.cryptoBlockTx
  rw [h]

theorem exec_cryptoBlockTx_notEncrypting {s : State} (h : Running s) {f : Fin 1280} (hf : s.dev.eIndex f = none) (l : List OduFrame) :
    exec (.cryptoBlockTx f l) s = .next s := by
  cases hreset : s.dev.inReset 6 with
  | true => exact runBlock_inReset hreset
  | false => rw [exec_cryptoBlockTx ⟨h, hreset⟩, Dev.cryptoBlockTx_notEncrypting hf]

theorem Dev.cryptoLate_eq {s : State} {f : Fin 1280} {e : Nat} (h : Encrypting f e s) (tx : Bool) : s.dev.cryptoLate f tx =
    (s.dev.setCryFlow f (if tx then { s.dev.cryFlow f with txOut := .ais, tagPrev := none } else
      { s.dev.cryFlow f with rxOut := .ais })).raise 205 := by
  obtain ⟨_, hruns, hindex⟩ := h
  rw [Dev.cryptoLate, hindex, hruns]
  rfl

/-- Settles O29: by what one block of a flow becomes, and the pieces into which maintenance frames cut a run of frames. -/
theorem blocksAreEncrypted : Obligations.BlocksAreEncrypted := by
  refine ⟨fun s f l hrun hf => exec_cryptoBlockTx_notEncrypting hrun hf l, fun s f e m henc hm hmaint => ?maintenance,
    fun s f e b l henc he hl hn hslot => ?noSlot, fun s f e k b l henc he hl hn hslot => ?encrypted,
    fun s f e k b m l henc he hm hmaint hl hn hslot => ?resumed, fun s f e tx henc => ?late⟩
  case maintenance =>
    refine ⟨_, exec_cryptoBlockTx henc.1 f m, ?_⟩
    rw [Dev.cryptoBlockTx_maint henc hm hmaint, Dev.cryFlow_sends, Dev.dropTag, Dev.cryFlow_setCryFlow]
    exact ⟨rfl, rfl, .ofDev (.ofRegs rfl)⟩
  case noSlot =>
    obtain ⟨hout, hlck, htx, hkept⟩ := Dev.cryTxBlock_lck_shows (l := l) hslot true
    refine ⟨_, exec_cryptoBlockTx henc.1 f l, ?_⟩
    rw [Dev.cryptoBlockTx_block henc hl hn, Dev.cryFlow_sends]
    exact ⟨hout, hlck, htx, .ofDev (hkept.same rfl)⟩
  case encrypted =>
    obtain ⟨hout, htag, hcount, hlck⟩ := Dev.cryTxBlock_encrypts_shows (l := l) hslot he
    refine ⟨_, exec_cryptoBlockTx henc.1 f l, ⟨rfl, rfl, rfl⟩, ?_⟩
    rw [Dev.cryptoBlockTx_block henc hl hn, Dev.cryFlow_sends]
    exact ⟨hout, htag, hcount, hlck⟩
  case resumed =>
    intro r
    rw [← Dev.chooseSlot_dropTag] at hslot
    obtain ⟨hout, htag, hcount, -⟩ := Dev.cryTxBlock_encrypts_shows (l := l) hslot he
    refine ⟨_, exec_cryptoBlockTx henc.1 f (m ++ l), ⟨rfl, rfl, rfl⟩, ?_⟩
    rw [Dev.cryptoBlockTx_resumes henc hm hmaint hl hn hout, Dev.cryFlow_sends]
    exact ⟨rfl, htag, hcount⟩
  case late =>
    refine ⟨_, exec_cryptoLate henc.1 f tx, ?_⟩
    rw [Dev.cryptoLate_eq henc, Dev.cryFlow_congr (congrArg CryState.flows (Dev.raise_cry _ 205)), Dev.cryFlow_setCryFlow]
    refine ⟨Dev.raise_arises _ _, ?_, .ofDev (.ofRegs (Dev.raise_regs _ _))⟩
    cases tx
    · rfl
    · exact ⟨rfl, rfl⟩

end Sys2Proof.Machine
end

section
/-! Memory-to-memory jobs, and the DRBG (R228 to R232). -/

namespace Sys2Proof.Machine

/-! ### A job is taken (R231, R232) -/

theorem Sparse.mem_insert_self {α : Type} (a : Nat) (v : α) (m : List (Nat × α)) : (a, v) ∈ Sparse.insert a v m := by
  induction m with
  | nil => exact List.mem_cons_self
  | cons e r ih =>
    unfold Sparse.insert
    split
    · exact List.mem_cons_self
    · split
      · exact List.mem_cons_self
      · exact List.mem_cons_of_mem _ ih

/-- Job queue j runs a job and was served last. -/
def State.keepJob (s : State) (j : Nat) (b : CryJob) : State :=
  { s with dev := { s.dev with cry := { s.dev.cry with jobLast := j, jobs := Sparse.insert j b s.dev.cry.jobs } } }

theorem State.mem_jobs_keepJob (s : State) (j : Nat) (b : CryJob) : (j, b) ∈ (s.keepJob j b).dev.cry.jobs := Sparse.mem_insert_self j b _

@[simp] theorem State.keepJob_hbm (s : State) (j : Nat) (b : CryJob) : (s.keepJob j b).hbm = s.hbm := rfl

@[simp] theorem State.keepJob_sram (s : State) (j : Nat) (b : CryJob) : (s.keepJob j b).sram = s.sram := rfl

@[simp] theorem State.keepJob_regs (s : State) (j : Nat) (b : CryJob) : (s.keepJob j b).dev.regs = s.dev.regs := rfl

@[simp] theorem State.keepJob_pending (s : State) (j : Nat) (b : CryJob) : (s.keepJob j b).pending = s.pending := rfl

theorem State.slotCount_keepJob (s : State) (j : Nat) (b : CryJob) (k : Nat) : (s.keepJob j b).dev.slotCount k = s.dev.slotCount k := rfl

section
variable {s : State} {j a : Nat}

theorem State.cryptoJob_idle (h : s.dev.nextJobQueue = none) : s.cryptoJob = s := by
  unfold State.cryptoJob
  rw [h]

/-- A job with errors takes a free value that says which of their codes it ends with. -/
theorem State.cryptoJob_faulty (hj : s.dev.nextJobQueue = some j)
    (ha : s.dev.qAddr (s.dev.jobQueue j) (64 * s.dev.qCons (s.dev.jobQueue j)) = some a) (herr : s.dev.jobErrors (s.hbm.readBytes a 64) ≠ []) :
    s.cryptoJob =
      let errs := s.dev.jobErrors (s.hbm.readBytes a 64)
      let r := s.dev.draw errs.length
      ({ s with dev := r.2 } : State).keepJob j { queue := s.dev.jobQueue j, desc := a, status := errs.getD r.1 0 } := by
  have hsome : (s.dev.jobErrors (s.hbm.readBytes a 64)).isEmpty = false := List.isEmpty_eq_false_iff.mpr herr
  unfold State.cryptoJob
  rw [hj]
  dsimp only
  rw [ha]
  dsimp only
  rw [if_neg (by rw [hsome]; exact Bool.false_ne_true)]
  dsimp only [State.keepJob]

theorem State.cryptoJob_works (hj : s.dev.nextJobQueue = some j)
    (ha : s.dev.qAddr (s.dev.jobQueue j) (64 * s.dev.qCons (s.dev.jobQueue j)) = some a) (herr : s.dev.jobErrors (s.hbm.readBytes a 64) = []) :
    s.cryptoJob = (s.jobWork a (s.hbm.readBytes a 64)).1.keepJob j
      { queue := s.dev.jobQueue j, desc := a, status := (s.jobWork a (s.hbm.readBytes a 64)).2 } := by
  unfold State.cryptoJob
  rw [hj]
  dsimp only
  rw [ha]
  dsimp only
  rw [if_pos (by rw [herr]; rfl)]
  dsimp only [State.keepJob]

end

theorem getD_mem_of_lt {α : Type} {l : List α} {i : Nat} (h : i < l.length) (x : α) : l.getD i x ∈ l := by
  rw [List.getD_eq_getElem l x h]
  exact List.getElem_mem h

theorem Dev.draw_regs (d : Dev) (n : Nat) : (d.draw n).2.regs = d.regs := rfl

theorem Dev.draw_cry (d : Dev) (n : Nat) : (d.draw n).2.cry = d.cry := rfl

theorem Dev.draw_arising (d : Dev) (n : Nat) : (d.draw n).2.arising = d.arising := rfl

theorem Dev.draw_lt (d : Dev) {n : Nat} (h : 0 < n) : (d.draw n).1 < n := Nat.mod_lt _ h

/-! ### The work of a job (R231) -/

/-- A core takes the job of a descriptor. -/
def State.jobBegun (s : State) (x : List Byte) : State :=
  { s with dev := s.dev.takeCore true ((leAt x 4 4 + 31) / 32 + 24 * ((leAt x 4 4 + 65535) / 65536)) (s.dev.keySlot (leAt x 2 2)).key }

theorem State.jobBegun_alone (s : State) (x : List Byte) : CoresAlone s.dev (s.jobBegun x).dev := Dev.takeCore_alone ..

/-- The state with another device and another HBM. -/
def State.withWork (s : State) (d : Dev) (m : Memory) : State := { s with dev := d, hbm := m }

theorem State.withWork_keeps (s : State) (d : Dev) (m : Memory) :
    (s.withWork d m).sram = s.sram ∧ (s.withWork d m).pending = s.pending ∧ (s.withWork d m).dev = d := ⟨rfl, rfl, rfl⟩

theorem State.jobWork_encrypts {s : State} {x : List Byte} (h : leAt x 0 1 = 1) (a : Nat) :
    ∃ m, s.jobWork a x = (s.withWork ((s.jobBegun x).dev.takeCount (leAt x 2 2)).2.cryCauses m, 0) := by
  unfold State.jobWork
  dsimp only
  rw [if_pos h]
  exact ⟨_, rfl⟩

/-- An encrypt job takes its slot's COUNT, and changes no memory but HBM. -/
theorem State.jobWork_encrypts_shows {s : State} {x : List Byte} (h : leAt x 0 1 = 1) (a : Nat) :
    (s.jobWork a x).1.sram = s.sram ∧ (s.jobWork a x).1.pending = s.pending ∧ (s.jobWork a x).2 = 0 ∧
      (s.jobWork a x).1.dev.slotCount (leAt x 2 2) = (s.dev.slotCount (leAt x 2 2) + 1) % 2 ^ 64 := by
  obtain ⟨m, hm⟩ := State.jobWork_encrypts (s := s) h a
  obtain ⟨hsram, hpending, hdev⟩ := s.withWork_keeps ((s.jobBegun x).dev.takeCount (leAt x 2 2)).2.cryCauses m
  rw [hm]
  refine ⟨hsram, hpending, rfl, ?_⟩
  rw [hdev, Dev.slotCount_cryCauses, Dev.takeCount_slotCount, (s.jobBegun_alone x).slotCount]

/-- The bytes whose tag a decrypt job checks, in the bytes of its descriptor, are authentic. -/
abbrev JobGood (s : State) (x : List Byte) : Prop :=
  sliceBytes (Config.gcmTag (s.dev.keySlot (leAt x 2 2)).key (sliceBytes x 36 12) (s.hbm.readBytes (leAt x 24 8) (leAt x 32 2))
    (s.hbm.readBytes (leAt x 8 8) (leAt x 4 4))) 0 16 = sliceBytes x 48 16

theorem State.jobWork_decrypts {s : State} {x : List Byte} (h : leAt x 0 1 ≠ 1) (a : Nat) :
    s.jobWork a x = ({ s.jobBegun x with hbm := s.hbm.writeBytes (leAt x 16 8) (if JobGood s x
      then sliceBytes (Config.gcmCrypt (s.dev.keySlot (leAt x 2 2)).key (sliceBytes x 36 12) (s.hbm.readBytes (leAt x 8 8) (leAt x 4 4))) 0
        (leAt x 4 4) else List.replicate (leAt x 4 4) 0) }, if JobGood s x then 0 else 7) := by
  unfold State.jobWork
  dsimp only
  rw [if_neg h]
  by_cases hgood : JobGood s x
  · rw [if_pos hgood, if_pos hgood, if_pos hgood]
    rfl
  · rw [if_neg hgood, if_neg hgood, if_neg hgood]
    rfl

/-- A decrypt job changes no memory but HBM, and no register. -/
theorem State.jobWork_decrypts_shows {s : State} {x : List Byte} (h : leAt x 0 1 ≠ 1) (a : Nat) :
    (s.jobWork a x).1.sram = s.sram ∧ (s.jobWork a x).1.pending = s.pending ∧ (s.jobWork a x).1.dev.regs = s.dev.regs := by
  rw [State.jobWork_decrypts h]
  exact ⟨rfl, rfl, (s.jobBegun_alone x).regs⟩

/-! ### The end of a job (R231) -/

/-- Job queue j has no job in progress. -/
def Dev.dropJob (d : Dev) (j : Nat) : Dev := { d with cry := { d.cry with jobs := d.cry.jobs.filter (fun e => e.1 != j) } }

/-- A job of job queue j has ended and counts. -/
def Dev.countJob (d : Dev) (j status : Nat) : Dev :=
  if status = 0 then (d.dropJob j).incSat Fld.CRY_JOB_CNT.JOBS
  else (((d.dropJob j).incSat Fld.CRY_JOB_CNT.JOBS).incSat Fld.CRY_JOB_ERR_CNT.JOBS).raise 202

/-- CONS of a queue passes one descriptor. -/
def Dev.passCons (d : Dev) (q : Nat) : Dev := d.setReg64 (Reg.RMS_Q_CONS_LO q) (min (d.qTail q) (d.qCons q + 1))

/-- CONS of a queue passes one descriptor, and the queue event is raised. -/
def Dev.passDescriptor (d : Dev) (q : Nat) : Dev := ((d.passCons q).draw 9).2.qEvt q ((d.passCons q).draw 9).1

theorem State.cryptoJobDone_eq {s : State} {j : Nat} {b : CryJob} (h : s.dev.cry.jobs.find? (fun e => e.1 == j) = some (j, b)) :
    s.cryptoJobDone j = { s with hbm := s.hbm.write (b.desc + 1) (BitVec.ofNat 8 b.status),
                                 dev := (s.dev.countJob j b.status).passDescriptor b.queue } := by
  unfold State.cryptoJobDone
  rw [h]
  rfl

theorem Dev.countJob_jobs (d : Dev) (j status : Nat) (c : CryJob) : (j, c) ∉ (d.countJob j status).cry.jobs := by
  have hdropped : (d.countJob j status).cry = (d.dropJob j).cry := by
    unfold Dev.countJob
    split <;> simp
  simp [hdropped, Dev.dropJob]

theorem Dev.countJob_arising (d : Dev) (j : Nat) {status : Nat} (h : status ≠ 0) : Arising 202 (d.countJob j status) := by
  rw [Dev.countJob, if_neg h]
  exact Dev.raise_arises _ _

theorem Dev.jobs_countJob (d : Dev) (j status : Nat) :
    (d.countJob j status).get Fld.CRY_JOB_CNT.JOBS = min (d.get Fld.CRY_JOB_CNT.JOBS + 1) (2 ^ 32 - 1) := by
  have hcount := (d.dropJob j).get_incSat_self Fld.CRY_JOB_CNT.JOBS 1 (Fld.ok_of _ rfl rfl)
  unfold Dev.countJob
  split
  · exact hcount
  · rw [Dev.raise_get]
    exact (Dev.get_put_elsewhere _ _ (by decide)).trans hcount

theorem Dev.jobErrs_countJob (d : Dev) (j status : Nat) : (d.countJob j status).get Fld.CRY_JOB_ERR_CNT.JOBS =
    min (d.get Fld.CRY_JOB_ERR_CNT.JOBS + (if status = 0 then 0 else 1)) (2 ^ 32 - 1) := by
  have hother : ((d.dropJob j).incSat Fld.CRY_JOB_CNT.JOBS).get Fld.CRY_JOB_ERR_CNT.JOBS = d.get Fld.CRY_JOB_ERR_CNT.JOBS :=
    Dev.get_put_elsewhere (d.dropJob j) _ (by decide)
  have hlt : d.get Fld.CRY_JOB_ERR_CNT.JOBS < 2 ^ 32 := d.get_lt Fld.CRY_JOB_ERR_CNT.JOBS
  unfold Dev.countJob
  split
  · rw [hother]
    omega
  · rw [Dev.raise_get, Dev.get_incSat_self _ _ _ (Fld.ok_of _ rfl rfl), hother]
    rfl

/-- A register below block RMS. -/
abbrev BelowRms (a : Nat) : Prop := a < 0x900000

/-- Event bit i of a queue is set, and reported on its tap. -/
def Dev.qEvtSet (d : Dev) (q i : Nat) : Dev := ((d.setBit (Reg.RMS_Q_EVT q) i).setInt intRMS 0).tapEvent (0x6000 + i) q

theorem Dev.qEvt_cases (d : Dev) (q i : Nat) :
    d.qEvt q i = d ∨ d.qEvt q i = d.qEvtSet q i ∨ ∃ v, d.qEvt q i = (d.qEvtSet q i).sendMsix v := by
  unfold Dev.qEvt
  split
  · exact .inl rfl
  · dsimp only
    split
    · exact .inr (.inr ⟨_, rfl⟩)
    · exact .inr (.inl rfl)

theorem Dev.qEvtSet_regs (d : Dev) (q i : Nat) : RegsOut BelowRms d (d.qEvtSet q i) := by
  have hint : ∀ a, BelowRms a → a ≠ Reg.RMS_INT_STATUS := by unfold BelowRms Reg.RMS_INT_STATUS; omega
  have hevt : ∀ a, BelowRms a → a ≠ Reg.RMS_Q_EVT q := by unfold BelowRms Reg.RMS_Q_EVT; omega
  exact (((RegsOut.refl BelowRms d).setBit (Reg.RMS_Q_EVT q) i hevt).setInt intRMS 0 hint).tapEvent (0x6000 + i) q

theorem Dev.qEvtSet_cry (d : Dev) (q i : Nat) : (d.qEvtSet q i).cry = d.cry := by
  rw [Dev.qEvtSet, Dev.tapEvent_cry, Dev.setInt_cry, Dev.setBit_cry]

theorem Dev.qEvtSet_arising (d : Dev) (q i : Nat) : (d.qEvtSet q i).arising = d.arising := by
  rw [Dev.qEvtSet, Dev.tapEvent_arising, Dev.setInt_arising, Dev.setBit_arising]

/-- An event of a queue shows in block RMS alone. -/
theorem Dev.qEvt_alone (d : Dev) (q i : Nat) : RegsOut BelowRms d (d.qEvt q i) ∧ (d.qEvt q i).cry = d.cry ∧ (d.qEvt q i).arising = d.arising := by
  obtain h | h | ⟨v, h⟩ := d.qEvt_cases q i
  · rw [h]
    exact ⟨.refl _ d, rfl, rfl⟩
  · rw [h]
    exact ⟨d.qEvtSet_regs q i, d.qEvtSet_cry q i, d.qEvtSet_arising q i⟩
  · rw [h]
    exact ⟨(d.qEvtSet_regs q i).sendMsix v, d.qEvtSet_cry q i, d.qEvtSet_arising q i⟩

theorem Dev.passDescriptor_alone (d : Dev) (q : Nat) :
    RegsOut BelowRms d (d.passDescriptor q) ∧ (d.passDescriptor q).cry = d.cry ∧ (d.passDescriptor q).arising = d.arising := by
  have hcons : ∀ a, BelowRms a → a ≠ Reg.RMS_Q_CONS_LO q ∧ a ≠ Reg.RMS_Q_CONS_LO q + 4 := by
    unfold BelowRms Reg.RMS_Q_CONS_LO; omega
  have hset : RegsOut BelowRms d (d.passCons q) := (RegsOut.refl BelowRms d).setReg64 _ _ hcons
  obtain ⟨hregs, hcry, harising⟩ := Dev.qEvt_alone ((d.passCons q).draw 9).2 q ((d.passCons q).draw 9).1
  refine ⟨(hset.same (Dev.draw_regs ..)).trans hregs, ?_, ?_⟩
  · rw [Dev.passDescriptor, hcry, Dev.draw_cry, Dev.passCons, Dev.setReg64_cry]
  · rw [Dev.passDescriptor, harising, Dev.draw_arising, Dev.passCons, Dev.setReg64_arising]

/-! ### The DRBG (R228, R229) -/

/-- Whether the DRBG delivers: DRBG_OK, and the causes of its two faults. -/
def DrbgShows (on : Bool) (d : Dev) : Prop :=
  d.get Fld.CRY_STATUS.DRBG_OK = bit on ∧ (Present 203 d ↔ on = false) ∧ (Present 485 d ↔ on = false)

theorem Dev.drbgReseed_shows (d : Dev) : DrbgShows true d.drbgReseed ∧ RegsKept [Reg.CRY_STATUS] d d.drbgReseed := by
  have hseeded : RegsKept [Reg.CRY_STATUS] d ({ d with cry := { d.cry with requests := 0, seeded := d.ticks } } : Dev) := .ofRegs rfl
  refine ⟨⟨?_, ?_, ?_⟩, (hseeded.put Fld.CRY_STATUS.DRBG_OK 1).same rfl⟩
  · rw [Dev.drbgReseed, Dev.causeOff_get, Dev.causeOff_get, Dev.get_put_self _ _ _ (Fld.ok_of _ rfl rfl)]
    rfl
  all_goals simp [Present, Dev.drbgReseed, Dev.mem_causes_causeOff]

theorem Dev.entropyFail_shows (d : Dev) : DrbgShows false d.entropyFail ∧ RegsKept [Reg.CRY_STATUS] d d.entropyFail := by
  refine ⟨⟨?_, ?_, ?_⟩, ((RegsKept.refl _ d).put Fld.CRY_STATUS.DRBG_OK 0).same ?_⟩
  · rw [Dev.entropyFail, Dev.causeOn_get, Dev.causeOn_get, Dev.get_put_self _ _ _ (Fld.ok_of _ rfl rfl)]
    rfl
  · simp [Present, Dev.entropyFail, Dev.mem_causes_causeOn]
  · simp [Present, Dev.entropyFail, Dev.mem_causes_causeOn]
  · rw [Dev.entropyFail, Dev.causeOn_regs, Dev.causeOn_regs]

/-! ### O31 -/

theorem exec_cryptoJob {s : State} (h : Working 6 s) : exec .cryptoJob s = .next s.cryptoJob :=
  runBlockState_runs (f := State.cryptoJob) h.1 h.2

theorem exec_cryptoJobDone {s : State} (h : Working 6 s) (j : Fin 4) : exec (.cryptoJobDone j) s = .next (s.cryptoJobDone j) :=
  runBlockState_runs (f := State.cryptoJobDone j) h.1 h.2

theorem exec_drbgReseed {s : State} (h : Running s) : exec .drbgReseed s = .next { s with dev := s.dev.drbgReseed } :=
  runDev_alive (f := Dev.drbgReseed) h

theorem exec_entropyFail {s : State} (h : Running s) : exec .entropyFail s = .next { s with dev := s.dev.entropyFail } :=
  runDev_alive (f := Dev.entropyFail) h

/-- Settles O31: by what the work of a job and its end change. -/
theorem cryptoJobsAndRandomness : Obligations.CryptoJobsAndRandomness := by
  refine ⟨fun s hw hj => ?idle, fun s j a hw hj ha herr => ?faulty, fun s j a hw hj ha herr => ⟨fun hop => ?decrypted, fun hop => ?encrypted⟩,
    fun s j b hw hfind => ?done, fun s hrun => ⟨?reseeded, ?failed⟩⟩
  case idle => rw [exec_cryptoJob hw, State.cryptoJob_idle hj]
  case faulty =>
    refine ⟨_, (s.dev.jobErrors (s.hbm.readBytes a 64)).getD (s.dev.draw (s.dev.jobErrors (s.hbm.readBytes a 64)).length).1 0,
      exec_cryptoJob hw, ?_⟩
    rw [State.cryptoJob_faulty hj ha herr]
    exact ⟨getD_mem_of_lt (Dev.draw_lt _ (List.length_pos_iff.mpr herr)) 0, State.mem_jobs_keepJob .., rfl, .ofDev (.ofRegs rfl)⟩
  case decrypted =>
    have hnot : leAt (s.hbm.readBytes a 64) 0 1 ≠ 1 := by rw [hop]; decide
    obtain ⟨hsram, hpending, hregs⟩ := State.jobWork_decrypts_shows (s := s) hnot a
    refine ⟨_, exec_cryptoJob hw, ?_⟩
    rw [State.cryptoJob_works hj ha herr, State.keepJob_sram, State.keepJob_pending, State.keepJob_hbm]
    refine ⟨hsram, hpending, .ofRegs ((State.keepJob_regs ..).trans hregs), ?_⟩
    rw [State.jobWork_decrypts hnot]
    exact ⟨rfl, State.mem_jobs_keepJob ..⟩
  case encrypted =>
    obtain ⟨hsram, hpending, hstatus, hcount⟩ := State.jobWork_encrypts_shows (s := s) hop a
    refine ⟨_, exec_cryptoJob hw, ?_⟩
    rw [State.cryptoJob_works hj ha herr, hstatus, State.keepJob_sram, State.keepJob_pending, State.keepJob_hbm, State.slotCount_keepJob]
    exact ⟨hsram, hpending, rfl, hcount, State.mem_jobs_keepJob ..⟩
  case done =>
    obtain ⟨hregs, hcry, harising⟩ := (s.dev.countJob j b.status).passDescriptor_alone b.queue
    refine ⟨_, exec_cryptoJobDone hw j, ?_⟩
    rw [State.cryptoJobDone_eq hfind]
    refine ⟨rfl, rfl, rfl, ?_, fun hst => ?_, ?_, ?_⟩
    · rw [hcry]
      exact s.dev.countJob_jobs j b.status
    · rw [Arising, harising]
      exact s.dev.countJob_arising j hst
    · rw [hregs.get _ (by decide), Dev.jobs_countJob]
    · rw [hregs.get _ (by decide), Dev.jobErrs_countJob]
  case reseeded =>
    obtain ⟨⟨hok, hstopped, hlost⟩, hkept⟩ := s.dev.drbgReseed_shows
    exact ⟨_, exec_drbgReseed hrun, hok, by simp [hstopped], by simp [hlost], .ofDev hkept⟩
  case failed =>
    obtain ⟨⟨hok, hstopped, hlost⟩, hkept⟩ := s.dev.entropyFail_shows
    exact ⟨_, exec_entropyFail hrun, hok, hstopped.mpr rfl, hlost.mpr rfl, .ofDev hkept⟩

end Sys2Proof.Machine
end

section
/-! The mailbox (R485 to R490, R494, R498, R499): what a request's command does, and the bytes of the replies. -/

namespace Sys2Proof.Machine

/-! ### Bytes at an offset -/

theorem sliceBytes_append_right {p : List Byte} {off : Nat} (h : p.length ≤ off) (q : List Byte) (n : Nat) :
    sliceBytes (p ++ q) off n = sliceBytes q (off - p.length) n := by
  apply List.ext_getElem?
  intro i
  have hi : off + i - p.length = off - p.length + i := by omega
  rw [getElem?_sliceBytes, getElem?_sliceBytes, List.getD_append_right _ _ _ _ (by omega), hi]

theorem sliceBytes_append_left {p : List Byte} {off n : Nat} (h : off + n ≤ p.length) (q : List Byte) :
    sliceBytes (p ++ q) off n = sliceBytes p off n := by
  apply List.ext_getElem?
  intro i
  rw [getElem?_sliceBytes, getElem?_sliceBytes]
  by_cases hi : i < n
  · rw [List.getD_append _ _ _ _ (by omega)]
  · rw [if_neg hi, if_neg hi]

theorem sliceBytes_self {l : List Byte} {n : Nat} (h : l.length = n) : sliceBytes l 0 n = l := by
  subst h
  simp [sliceBytes]

/-- A slice of a slice. -/
theorem sliceBytes_sliceBytes {b n m : Nat} (h : b + n ≤ m) (l : List Byte) (a : Nat) :
    sliceBytes (sliceBytes l a m) b n = sliceBytes l (a + b) n := by
  apply List.ext_getElem?
  intro i
  rw [getElem?_sliceBytes, getElem?_sliceBytes]
  by_cases hi : i < n
  · rw [List.getD_eq_getElem?_getD, getElem?_sliceBytes, if_pos (by omega : b + i < m), Option.getD_some, Nat.add_assoc]
  · rw [if_neg hi, if_neg hi]

theorem leAt_sliceBytes {b n m : Nat} (h : b + n ≤ m) (l : List Byte) (a : Nat) : leAt (sliceBytes l a m) b n = leAt l (a + b) n := by
  rw [leAt, sliceBytes_sliceBytes h, leAt]

/-- A number read back from its little-endian bytes, cut to their number. -/
theorem leNat_leBytes_mod (n v : Nat) : leNat (leBytes n v) = v % 256 ^ n := by
  induction n generalizing v with
  | zero => simp [leBytes, leNat, Nat.mod_one]
  | succ n ih => rw [leBytes, leNat, ih, Nat.pow_succ', Nat.mod_mul, BitVec.toNat_ofNat]

/-- A number read back behind other bytes. -/
theorem leAt_leBytes {p : List Byte} {off : Nat} (h : p.length = off) (n v : Nat) (r : List Byte) :
    leAt (p ++ (leBytes n v ++ r)) off n = v % 256 ^ n := by
  rw [leAt, sliceBytes_append_right (Nat.le_of_eq h), h, Nat.sub_self, sliceBytes_append_left (by rw [leBytes_length, Nat.zero_add]),
    sliceBytes_self (leBytes_length n v), leNat_leBytes_mod]

/-! ### Channels -/

@[simp] theorem Dev.chan_setChan (d : Dev) (c : Nat) (v : MbChannel) : (d.setChan c v).chan c = v := Sparse.get_put_self _ _ _ _

theorem Dev.chan_congr {d e : Dev} (h : e.sec = d.sec) (c : Nat) : e.chan c = d.chan c := by rw [Dev.chan, h, Dev.chan]

theorem Dev.chan_mbReply (d : Dev) (c st : Nat) (p : List Byte) : (d.mbReply c st p).chan c = { d.chan c with reply := some (st, p) } :=
  Dev.chan_setChan ..

/-- A reply on the same registers, as the outcome of a command. -/
theorem replied_mbReply {s : State} {d : Dev} (c : Fin 5) (st : Nat) (p : List Byte) (h : d.regs = s.dev.regs) :
    Replied c st p { s with dev := d.mbReply c st p } ∧ Frame [] s { s with dev := d.mbReply c st p } :=
  ⟨by rw [Replied, Dev.chan_mbReply], .ofDev ((RegsKept.ofRegs h).same rfl)⟩

/-! ### Requests (R485 to R487) -/

section
variable {d : Dev} {c cmd : Nat} {x : List Byte}

theorem Dev.mbTake_idle (h : (d.chan c).req = none ∨ (d.chan c).reply ≠ none ∨ d.mbServes c = false) (cmd : Nat) : d.mbTake c cmd = .inl d := by
  unfold Dev.mbTake
  split
  · rename_i hreq hreply
    obtain hnone | hsome | hserves := h
    · rw [hnone] at hreq
      cases hreq
    · exact absurd hreply hsome
    · rw [hserves]
      rfl
  · rfl

theorem Dev.mbTake_other (hreq : (d.chan c).req = some x) (hcmd : mbCmd x ≠ cmd) : d.mbTake c cmd = .inl d := by
  unfold Dev.mbTake
  rw [hreq]
  split
  · rename_i hx hreply
    cases hx
    rw [if_pos (by simp [hcmd])]
  · rfl

/-- What a request that is served becomes: a refusal, or its payload. -/
theorem Dev.mbTake_served (hreq : (d.chan c).req = some x) (hreply : (d.chan c).reply = none) (hserves : d.mbServes c = true)
    (hcmd : mbCmd x = cmd) :
    d.mbTake c cmd = (d.mbRefusal x).elim (.inr (sliceBytes x 8 (mbLen x))) fun st => .inl (d.mbReply c st) := by
  unfold Dev.mbTake
  rw [hreq, hreply]
  dsimp only
  rw [if_neg (by simp [hserves, hcmd])]
  cases d.mbRefusal x with
  | none => rfl
  | some st => rfl

end

/-- i serves the requests of one command on a channel. -/
def Serves (c : Fin 5) (cmd : Nat) (i : Instr) (f : List Byte → Dev → Dev) : Prop := ∀ s, exec i s = runDev (Dev.mbServe c cmd f) s

/-- The commands of the mailbox that change the device alone (Table 5 of 16_boot_firmware_identity.md). -/
theorem serves_of_mem {c : Fin 5} {burnt : Bool} {img : Option (List Byte)} {cmd : Nat} {i : Instr}
    (h : (cmd, i) ∈ [(0x01, Instr.getInfo c), (0x02, .getCert c), (0x03, .attest c), (0x04, .getChallenge c), (0x10, .kekExchange c),
      (0x11, .keyLoad c), (0x12, .keyErase c), (0x20, .enrollKey c burnt), (0x21, .revokeKey c burnt), (0x22, .setCustOnly c burnt),
      (0x23, .advanceSecver c burnt), (0x40, .debugUnlock c), (0x50, .recover c img)]) : ∃ f, Serves c cmd i f := by
  simp only [List.mem_cons, Prod.mk.injEq, List.not_mem_nil, or_false] at h
  rcases h with ⟨rfl, rfl⟩ | ⟨rfl, rfl⟩ | ⟨rfl, rfl⟩ | ⟨rfl, rfl⟩ | ⟨rfl, rfl⟩ | ⟨rfl, rfl⟩ | ⟨rfl, rfl⟩ | ⟨rfl, rfl⟩ | ⟨rfl, rfl⟩ |
    ⟨rfl, rfl⟩ | ⟨rfl, rfl⟩ | ⟨rfl, rfl⟩ | ⟨rfl, rfl⟩
  all_goals exact ⟨_, fun _ => rfl⟩

section
variable {s : State} {c : Fin 5} {cmd : Nat} {i : Instr} {f : List Byte → Dev → Dev} {x : List Byte}

theorem Serves.exec_inl (h : Serves c cmd i f) (hrun : Running s) {d : Dev} (ht : s.dev.mbTake c cmd = .inl d) :
    exec i s = .next { s with dev := d } := by
  rw [h, runDev_alive hrun, Dev.mbServe, ht]

/-- A request that is not refused at once is served by its command, with its payload (R486). -/
theorem Serves.exec_serving (h : Serves c cmd i f) (hx : Serving c cmd x s) {n : Nat} (hn : mbSize cmd = some n) :
    exec i s = .next { s with dev := f (sliceBytes x 8 n) s.dev } := by
  obtain ⟨hrun, hreq, hreply, hserves, hcmd, hrefusal⟩ := hx
  have hlen : mbLen x = n := by
    unfold Dev.mbRefusal at hrefusal
    dsimp only at hrefusal
    rw [hcmd, hn] at hrefusal
    dsimp only at hrefusal
    split at hrefusal
    · cases hrefusal
    · split at hrefusal
      · assumption
      · cases hrefusal
  rw [h, runDev_alive hrun, Dev.mbServe, Dev.mbTake_served hreq hreply hserves hcmd, hrefusal, Option.elim_none, hlen]

end

/-! ### Information and certificates (R488, R498) -/

/-- The payload of GET_INFO. -/
def Dev.infoBytes (d : Dev) : List Byte :=
  leBytes 4 (d.reg Reg.SEC_LYF_VER).toNat ++ leBytes 4 (d.reg Reg.SEC_APP_VER).toNat ++
    leBytes 1 (d.get Fld.SEC_BOOT_STATUS.LYF_BANK) ++ leBytes 1 (d.get Fld.SEC_BOOT_STATUS.APP_BANK) ++ leBytes 2 d.secFlags ++
    leBytes 1 d.sec.fuses.secver ++ leBytes 1 d.sec.fuses.lyfSecver ++ [0, 0] ++ leBytes 8 Config.dieId.toNat

theorem Dev.getInfo_eq (d : Dev) (c : Nat) : d.getInfo c = d.mbReply c 0 d.infoBytes := rfl

theorem Dev.infoBytes_length (d : Dev) : d.infoBytes.length = 24 := by simp [Dev.infoBytes, leBytes_length]

theorem Dev.infoBytes_version (d : Dev) : leAt d.infoBytes 0 4 = (d.reg Reg.SEC_LYF_VER).toNat := by
  have hlt := (d.reg Reg.SEC_LYF_VER).isLt
  simp only [Dev.infoBytes, List.append_assoc]
  exact (leAt_leBytes (p := []) rfl 4 _ _).trans (Nat.mod_eq_of_lt hlt)

theorem Dev.infoBytes_dieId (d : Dev) : leAt d.infoBytes 16 8 = Config.dieId.toNat := by
  have hlt := Config.dieId.isLt
  rw [Dev.infoBytes, ← List.append_nil (leBytes 8 _), leAt_leBytes (by simp [leBytes_length])]
  exact Nat.mod_eq_of_lt hlt

/-! ### Reports, challenges and key exchanges (R490, R494, R499) -/

theorem Dev.report_length (d : Dev) (nonce : List Byte) : (d.report nonce).length = 544 := by
  simp [Dev.report, leBytes_length, sliceBytes_length, List.length_flatMap]

theorem Dev.report_nonce (d : Dev) {nonce : List Byte} (h : nonce.length = 32) : sliceBytes (d.report nonce) 16 32 = nonce := by
  simp only [Dev.report, List.append_assoc]
  rw [sliceBytes_append_right (by rw [leBytes_length]; decide), sliceBytes_append_right (by simp only [leBytes_length]; decide),
    sliceBytes_append_right (by simp only [leBytes_length]; decide), sliceBytes_append_right (by simp only [leBytes_length]; decide),
    sliceBytes_append_left (by simp only [leBytes_length, sliceBytes_length]; decide)]
  simp only [leBytes_length]
  rw [sliceBytes_self (sliceBytes_length ..), sliceBytes_self h]

theorem Dev.report_dieId (d : Dev) (nonce : List Byte) : leAt (d.report nonce) 8 8 = Config.dieId.toNat := by
  have hlt := Config.dieId.isLt
  simp only [Dev.report, List.append_assoc]
  rw [← List.append_assoc, ← List.append_assoc, leAt_leBytes (by simp [leBytes_length])]
  exact Nat.mod_eq_of_lt hlt

/-- The device after one more draw of its DRBG. -/
def Dev.drawn (d : Dev) : Dev := { d with fresh := d.fresh + 1 }

section
variable {d : Dev} (c : Nat)

theorem Dev.drbgOff_replies (h : d.drbgOk = false) (x : List Byte) : d.attest c x = d.mbReply c 0x0A ∧ d.getChallenge c = d.mbReply c 0x0A ∧
    d.kekExchange c x = d.mbReply c 0x0A := by
  simp [Dev.attest, Dev.getChallenge, Dev.kekExchange, h]

theorem Dev.attest_on (h : d.drbgOk = true) (nonce : List Byte) :
    d.attest c nonce = d.drawn.mbReply c 0 (d.drawn.report nonce ++ sliceBytes (Config.identitySign d.fresh (d.drawn.report nonce)) 0 96) := by
  simp [Dev.attest, h, Dev.drbg, Dev.drawn]

theorem Dev.getChallenge_on (h : d.drbgOk = true) : d.getChallenge c =
    let l := (List.range 32).map (Config.freeByte d.fresh)
    (d.drawn.setChan c { d.drawn.chan c with challenge := some l }).mbReply c 0 l := by
  simp [Dev.getChallenge, h, Dev.drbg, Dev.drawn]

theorem Dev.kekExchange_bad (h : d.drbgOk = true) {qr : List Byte} (hq : Config.ecdh d.fresh qr = none) :
    d.kekExchange c qr = d.drawn.mbReply c 0x21 := by
  simp [Dev.kekExchange, h, Dev.drbg, Dev.drawn, hq]

/-- The key-encryption key of an exchange (R494). -/
def kekOf (qr qd z : List Byte) : List Byte :=
  (Config.sha384 ([0, 0, 0, 1] ++ z ++ [0x50, 0x42, 0x36, 0x34, 0x33, 0x32, 0x2D, 0x4B, 0x45, 0x4B] ++ beBytes 8 Config.dieId.toNat ++
    qr ++ qd)).take 32

theorem Dev.kekExchange_good (h : d.drbgOk = true) {qr qd z : List Byte} (hq : Config.ecdh d.fresh qr = some (qd, z)) :
    ∃ m, d.kekExchange c qr = (d.drawn.drawn.setChan c { d.drawn.drawn.chan c with kek := some (kekOf qr qd z) }).mbReply c 0
      (sliceBytes qd 0 96 ++ sliceBytes m 0 96) := by
  refine ⟨Config.identitySign (d.fresh + 1) (qr ++ qd ++ beBytes 8 Config.dieId.toNat), ?_⟩
  simp [Dev.kekExchange, h, Dev.drbg, Dev.drawn, hq, kekOf]

end

end Sys2Proof.Machine
end

section
/-! Keys that are loaded and erased (R217, R219). -/

namespace Sys2Proof.Machine

/-! ### A slot is filled or wiped -/

/-- The state of a slot stands below its other fields: setting it leaves them. -/
theorem Dev.slotCount_setSlotState (d : Dev) (s st : Nat) : (d.setSlotState s st).slotCount s = d.slotCount s :=
  RegsKept.slotCount ((RegsKept.refl [Reg.CRY_KS_STATE s, Reg.CRY_INT_STATUS] d).setSlotState s st (by simp) (by simp))
    (by simp [slotCount_ne_state, slotCount_ne_int])

theorem Dev.slotCount_put_state (d : Dev) {s : Nat} {f : Fld} (v : Nat) (h : f.addr = Reg.CRY_KS_STATE s) : (d.put f v).slotCount s = d.slotCount s :=
  RegsKept.slotCount ((RegsKept.refl [f.addr] d).put f v List.mem_cons_self) (by simp [h, slotCount_ne_state])

/-- A change of state is reported (R219). -/
theorem Dev.bitAt_setSlotState (d : Dev) {s st : Nat} (h : d.slotState s ≠ st) : (d.setSlotState s st).bitAt Reg.CRY_INT_STATUS 0 = true := by
  rw [Dev.setSlotState, if_neg h]
  exact Dev.bitAt_setInt_self _ intCRY (by decide)

/-- Slot s holds key slot k, and a COUNT of 0. -/
def Dev.withKey (d : Dev) (s : Nat) (k : KeySlot) : Dev := (d.setKeySlot s k).setReg64 (Reg.CRY_KS_CNT_LO s) 0

theorem Dev.withKey_keySlot (d : Dev) (s : Nat) (k : KeySlot) : (d.withKey s k).keySlot s = k :=
  (Dev.keySlot_congr (congrArg CryState.slots (Dev.setReg64_cry ..)) s).trans (d.keySlot_setKeySlot s k)

theorem Dev.withKey_slotCount (d : Dev) (s : Nat) (k : KeySlot) : (d.withKey s k).slotCount s = 0 := Dev.reg64_setReg64_self _ _ (by decide)

theorem Dev.withKey_regsKept (d : Dev) (s : Nat) (k : KeySlot) : RegsKept (slotRegs s) d (d.withKey s k) :=
  (RegsKept.ofRegs (e := d.setKeySlot s k) rfl).setReg64 _ _ (by simp) (by simp)

/-- Slot s takes a key in one step (R217). -/
def Dev.fillSlot (d : Dev) (s : Nat) (k : KeySlot) (role : Bool) : Dev :=
  ((((d.withKey s k).put (Fld.CRY_KS_STATE.ROLE s) (bit role)).put (Fld.CRY_KS_STATE.WARN s) 0).setSlotState s 1).cryCauses

/-- What a slot holds and shows: its key, its state, a COUNT of 0, its ROLE, and no WARN. -/
structure SlotShows (s : Nat) (k : KeySlot) (st role : Nat) (d : Dev) : Prop where
  key : d.keySlot s = k
  state : d.slotState s = st
  count : d.slotCount s = 0
  role : d.get (Fld.CRY_KS_STATE.ROLE s) = role
  warn : d.get (Fld.CRY_KS_STATE.WARN s) = 0

theorem Dev.fillSlot_shows (d : Dev) (s : Nat) (k : KeySlot) (role : Bool) : SlotShows s k 1 (bit role) (d.fillSlot s k role) := by
  refine ⟨?_, ?_, ?_, ?_, ?_⟩
  · refine (Dev.keySlot_congr ?_ s).trans (d.withKey_keySlot s k)
    rw [Dev.fillSlot, Dev.cryCauses_cry, Dev.setSlotState_cry, Dev.put_cry, Dev.put_cry]
  · rw [Dev.fillSlot, Dev.slotState, Dev.cryCauses_get]
    exact Dev.slotState_setSlotState _ _ _ (by decide)
  · rw [Dev.fillSlot, Dev.slotCount_cryCauses, Dev.slotCount_setSlotState, Dev.slotCount_put_state _ _ rfl, Dev.slotCount_put_state _ _ rfl,
      Dev.withKey_slotCount]
  · rw [Dev.fillSlot, Dev.cryCauses_get, Dev.get_setSlotState_above _ _ _ (Fld.ok_of _ rfl rfl) rfl rfl,
      Dev.get_put_apart _ _ rfl, Dev.get_put_bit _ _ _ (Fld.ok_of _ rfl rfl) rfl]
  · rw [Dev.fillSlot, Dev.cryCauses_get, Dev.get_setSlotState_above _ _ _ (Fld.ok_of _ rfl rfl) rfl rfl,
      Dev.get_put_self _ _ _ (Fld.ok_of _ rfl rfl), Nat.zero_mod]

theorem Dev.fillSlot_regsKept (d : Dev) (s : Nat) (k : KeySlot) (role : Bool) : RegsKept (slotRegs s) d (d.fillSlot s k role) :=
  ((((d.withKey_regsKept s k).put _ _ List.mem_cons_self).put _ _ List.mem_cons_self).setSlotState s 1 (by simp) (by simp)).same
    (Dev.cryCauses_regs _)

/-- What wiping a slot clears before its state. -/
def Dev.cleared (d : Dev) (s : Nat) : Dev :=
  ((((d.withKey s {}).put (Fld.CRY_KS_STATE.TX_ACT s) 0).put (Fld.CRY_KS_STATE.RX_ACT s) 0).put (Fld.CRY_KS_STATE.WARN s) 0).put
    (Fld.CRY_KS_STATE.ROLE s) 0

theorem Dev.wipeSlot_eq (d : Dev) (s : Nat) : d.wipeSlot s = (d.cleared s).setSlotState s 0 := rfl

theorem Dev.cleared_regsKept (d : Dev) (s : Nat) : RegsKept (slotRegs s) d (d.cleared s) :=
  ((((d.withKey_regsKept s {}).put _ _ List.mem_cons_self).put _ _ List.mem_cons_self).put _ _ List.mem_cons_self).put _ _ List.mem_cons_self

theorem Dev.wipeSlot_regsKept (d : Dev) (s : Nat) : RegsKept (slotRegs s) d (d.wipeSlot s) :=
  (d.cleared_regsKept s).setSlotState s 0 (by simp) (by simp)

theorem Dev.wipeSlot_str (d : Dev) (s : Nat) : (d.wipeSlot s).str = d.str := by
  rw [Dev.wipeSlot_eq, Dev.setSlotState_str, Dev.cleared, Dev.put_str, Dev.put_str, Dev.put_str, Dev.put_str, Dev.withKey, Dev.setReg64_str]
  rfl

theorem Dev.cleared_slotState (d : Dev) (s : Nat) : (d.cleared s).slotState s = d.slotState s := by
  have hkey : (d.withKey s {}).slotState s = d.slotState s :=
    ((RegsOut.same (f := d.setKeySlot s {}) (.refl (· = Reg.CRY_KS_STATE s) d) rfl).setReg64 _ 0
      fun a ha => ha ▸ ⟨(slotCount_ne_state s s).1.symm, (slotCount_ne_state s s).2.symm⟩).get _ rfl
  rw [Dev.slotState, Dev.cleared, Dev.get_put_apart _ _ rfl, Dev.get_put_apart _ _ rfl, Dev.get_put_apart _ _ rfl,
    Dev.get_put_apart _ _ rfl]
  exact hkey

/-- A wiped slot is EMPTY and not active. -/
theorem Dev.wipeSlot_shows (d : Dev) (s : Nat) : SlotShows s {} 0 0 (d.wipeSlot s) ∧ (d.wipeSlot s).slotActive s = false ∧
    (d.slotState s ≠ 0 → (d.wipeSlot s).bitAt Reg.CRY_INT_STATUS 0 = true) := by
  have htx : (d.wipeSlot s).get (Fld.CRY_KS_STATE.TX_ACT s) = 0 := by
    rw [Dev.wipeSlot_eq, Dev.get_setSlotState_above _ _ _ (Fld.ok_of _ rfl rfl) rfl rfl, Dev.cleared, Dev.get_put_apart _ _ rfl,
      Dev.get_put_apart _ _ rfl, Dev.get_put_apart _ _ rfl, Dev.get_put_self _ _ _ (Fld.ok_of _ rfl rfl), Nat.zero_mod]
  have hrx : (d.wipeSlot s).get (Fld.CRY_KS_STATE.RX_ACT s) = 0 := by
    rw [Dev.wipeSlot_eq, Dev.get_setSlotState_above _ _ _ (Fld.ok_of _ rfl rfl) rfl rfl, Dev.cleared, Dev.get_put_apart _ _ rfl,
      Dev.get_put_apart _ _ rfl, Dev.get_put_self _ _ _ (Fld.ok_of _ rfl rfl), Nat.zero_mod]
  refine ⟨⟨?_, Dev.slotState_setSlotState _ _ _ (by decide), ?_, ?_, ?_⟩, ?_, fun hst => ?_⟩
  · refine (Dev.keySlot_congr ?_ s).trans (d.withKey_keySlot s {})
    rw [Dev.wipeSlot_eq, Dev.setSlotState_cry, Dev.cleared, Dev.put_cry, Dev.put_cry, Dev.put_cry, Dev.put_cry]
  · rw [Dev.wipeSlot_eq, Dev.slotCount_setSlotState, Dev.cleared, Dev.slotCount_put_state _ _ rfl, Dev.slotCount_put_state _ _ rfl,
      Dev.slotCount_put_state _ _ rfl, Dev.slotCount_put_state _ _ rfl, Dev.withKey_slotCount]
  · rw [Dev.wipeSlot_eq, Dev.get_setSlotState_above _ _ _ (Fld.ok_of _ rfl rfl) rfl rfl, Dev.cleared,
      Dev.get_put_self _ _ _ (Fld.ok_of _ rfl rfl), Nat.zero_mod]
  · rw [Dev.wipeSlot_eq, Dev.get_setSlotState_above _ _ _ (Fld.ok_of _ rfl rfl) rfl rfl, Dev.cleared,
      Dev.get_put_apart _ _ rfl, Dev.get_put_self _ _ _ (Fld.ok_of _ rfl rfl), Nat.zero_mod]
  · rw [Dev.slotActive, Dev.isSet, Dev.isSet, htx, hrx]
    rfl
  · rw [Dev.wipeSlot_eq]
    exact Dev.bitAt_setSlotState _ (by rwa [Dev.cleared_slotState])

/-! ### KEY_LOAD (R217) -/

section
variable {d : Dev} {kek : Option (List Byte)} {k : Nat} (role : Bool) {w : List Byte}

theorem Dev.keyLoad_beyond (h : 511 < k) : d.keyLoad kek k role w = (3, d) := if_pos h

theorem Dev.keyLoad_busy (h : k ≤ 511) (hbusy : d.slotActive k = true ∨ d.restructuring 3 = true) :
    d.keyLoad kek k role w = (1, d.raise 204) := by
  rw [Dev.keyLoad, if_neg (Nat.not_lt.mpr h), if_pos (by simpa using hbusy)]

section
variable (h : k ≤ 511) (hactive : d.slotActive k = false) (hrstr : d.restructuring 3 = false)
include h hactive hrstr

theorem Dev.keyLoad_noDrbg (hd : d.drbgOk = false) : d.keyLoad kek k role w = (10, d) := by
  rw [Dev.keyLoad, if_neg (Nat.not_lt.mpr h), if_neg (by simp [hactive, hrstr])]
  exact if_pos (congrArg not hd)

theorem Dev.keyLoad_badKey (hd : d.drbgOk = true) (hw : (kek.bind fun q => Config.keyUnwrap q w) = none) :
    d.keyLoad kek k role w = (11, d) := by
  rw [Dev.keyLoad, if_neg (Nat.not_lt.mpr h), if_neg (by simp [hactive, hrstr]), if_neg (by rw [show d.isSet _ = true from hd]; decide), hw]

/-- A key that unwraps fills its slot, with a salt of the DRBG. -/
theorem Dev.keyLoad_fills (hd : d.drbgOk = true) {key : List Byte} (hw : (kek.bind fun q => Config.keyUnwrap q w) = some key) :
    d.keyLoad kek k role w = (0, (d.drbgTake (2 ^ 32)).2.fillSlot k
      { key := key, salt := BitVec.ofNat 32 (d.drbgTake (2 ^ 32)).1, lastCount := none } role) := by
  rw [Dev.keyLoad, if_neg (Nat.not_lt.mpr h), if_neg (by simp [hactive, hrstr]), if_neg (by rw [show d.isSet _ = true from hd]; decide), hw]
  rfl

end
end

theorem Dev.mbKeyLoad_open {d : Dev} (h : d.get Fld.SEC_BOOT_STATUS.DEBUG = 2) (c : Nat) (x : List Byte) :
    d.mbKeyLoad c x = (d.raise 204).mbReply c 1 := if_pos h

theorem Dev.mbKeyLoad_eq {d : Dev} (h : d.get Fld.SEC_BOOT_STATUS.DEBUG ≠ 2) (c : Nat) (x : List Byte) : d.mbKeyLoad c x =
    let r := d.keyLoad (d.chan c).kek (leAt x 0 2) (leAt x 2 1 % 2 == 1) (sliceBytes x 4 40)
    r.2.mbReply c r.1 := if_neg h

/-! ### KEY_ERASE (R219) -/

/-- Flow f has lost the slot it received with. -/
def Dev.loseRx (d : Dev) (f slot : Nat) : Dev :=
  (d.setCryFlow f { d.cryFlow f with erased := some slot }).put (Fld.CRY_FLOW_STATUS.RX_LCK f) 1

/-- What the owner of a slot loses with it: rx where it received with the slot, tx where it sent with it. -/
def Dev.loseSlot (d : Dev) (f slot : Nat) (rx tx : Bool) : Dev :=
  let d' := if rx then d.loseRx f slot else d
  if tx then d'.put (Fld.CRY_FLOW_STATUS.TX_SLOT f) 2 else d'

theorem Dev.slotOwner_wipeSlot (d : Dev) (s k : Nat) : (d.wipeSlot s).slotOwner k = d.encFlows[k / 2]? := by
  rw [Dev.slotOwner, Dev.encFlows_congr (d.wipeSlot_str s)]

theorem Dev.keyErase_owned {d : Dev} {k f : Nat} (h : d.encFlows[k / 2]? = some f) : d.keyErase k =
    ((d.wipeSlot k).loseSlot f k (d.isSet (Fld.CRY_KS_STATE.RX_ACT k)) (d.isSet (Fld.CRY_KS_STATE.TX_ACT k))).cryCauses := by
  rw [Dev.keyErase, Dev.slotOwner_wipeSlot, h]
  rfl

theorem Dev.keyErase_free {d : Dev} {k : Nat} (h : d.encFlows[k / 2]? = none) : d.keyErase k = (d.wipeSlot k).cryCauses := by
  rw [Dev.keyErase, Dev.slotOwner_wipeSlot, h]

theorem Dev.loseRx_regsKept (d : Dev) (f slot : Nat) : RegsKept [Reg.CRY_FLOW_STATUS f] d (d.loseRx f slot) :=
  (RegsKept.ofRegs (e := d.setCryFlow f { d.cryFlow f with erased := some slot }) rfl).put _ _ List.mem_cons_self

theorem Dev.loseSlot_regsKept (d : Dev) (f slot : Nat) (rx tx : Bool) : RegsKept [Reg.CRY_FLOW_STATUS f] d (d.loseSlot f slot rx tx) := by
  have hrx : RegsKept [Reg.CRY_FLOW_STATUS f] d (if rx then d.loseRx f slot else d) := (d.loseRx_regsKept f slot).ite (.refl _ d)
  exact (hrx.put _ _ List.mem_cons_self).ite hrx

theorem Dev.loseSlot_alone (d : Dev) (f slot : Nat) (rx tx : Bool) :
    (d.loseSlot f slot rx tx).cry.slots = d.cry.slots ∧ (d.loseSlot f slot rx tx).str = d.str := by
  have hrx : (d.loseRx f slot).cry.slots = d.cry.slots ∧ (d.loseRx f slot).str = d.str := by
    rw [Dev.loseRx, Dev.put_cry, Dev.put_str]
    exact ⟨rfl, rfl⟩
  cases rx <;> cases tx
  · exact ⟨rfl, rfl⟩
  · exact ⟨congrArg CryState.slots (Dev.put_cry ..), Dev.put_str ..⟩
  · exact hrx
  · exact ⟨(congrArg CryState.slots (Dev.put_cry ..)).trans hrx.1, (Dev.put_str ..).trans hrx.2⟩

theorem Dev.loseSlot_rxLck (d : Dev) (f slot : Nat) (tx : Bool) : (d.loseSlot f slot true tx).get (Fld.CRY_FLOW_STATUS.RX_LCK f) = 1 := by
  have hrx : (d.loseRx f slot).get (Fld.CRY_FLOW_STATUS.RX_LCK f) = 1 := Dev.get_put_self _ _ 1 (Fld.ok_of _ rfl rfl)
  cases tx
  · exact hrx
  · exact (Dev.get_put_apart _ _ rfl).trans hrx

theorem Dev.loseSlot_txSlot (d : Dev) (f slot : Nat) (rx : Bool) : (d.loseSlot f slot rx true).get (Fld.CRY_FLOW_STATUS.TX_SLOT f) = 2 :=
  Dev.get_put_self _ _ 2 (Fld.ok_of _ rfl rfl)

/-- RX_LCK of some flow that encrypts is the cause of CRY.06 (R233). -/
theorem Dev.present_rxLck_cryCauses (d : Dev) :
    Present 198 d.cryCauses ↔ d.encFlows.any (fun f => d.isSet (Fld.CRY_FLOW_STATUS.RX_LCK f)) = true := by
  simp [Present, Dev.cryCauses, Dev.mem_causes_causeIs]

/-- A register below those of the flows. -/
abbrev BelowFlows (a : Nat) : Prop := a < 0x640000

/-- Erasing a slot: beyond the wiped slot, its owner's status alone changes. -/
theorem Dev.keyErase_beyond (d : Dev) (k : Nat) :
    RegsOut BelowFlows (d.wipeSlot k) (d.keyErase k) ∧ (d.keyErase k).cry.slots = (d.wipeSlot k).cry.slots := by
  cases howner : d.encFlows[k / 2]? with
  | none =>
    rw [Dev.keyErase_free howner, Dev.cryCauses_cry]
    exact ⟨(RegsOut.refl _ _).same (Dev.cryCauses_regs _), rfl⟩
  | some f =>
    have hflow : ∀ a, BelowFlows a → a ∉ [Reg.CRY_FLOW_STATUS f] := by
      simp only [BelowFlows, List.mem_singleton, Reg.CRY_FLOW_STATUS]
      omega
    rw [Dev.keyErase_owned howner, Dev.cryCauses_cry]
    exact ⟨RegsOut.same (fun a ha => (d.wipeSlot k).loseSlot_regsKept f k _ _ a (hflow a ha)) (Dev.cryCauses_regs _),
      ((d.wipeSlot k).loseSlot_alone f k _ _).1⟩

theorem slotRegs_belowFlows {k : Nat} (h : k ≤ 511) : ∀ a ∈ slotRegs k, BelowFlows a := by
  simp only [List.mem_cons, List.not_mem_nil, or_false, forall_eq_or_imp, forall_eq, BelowFlows, Reg.CRY_KS_STATE, Reg.CRY_KS_CNT_LO,
    Reg.CRY_INT_STATUS]
  omega

theorem Dev.keyErase_shows (d : Dev) {k : Nat} (h : k ≤ 511) : SlotShows k {} 0 0 (d.keyErase k) ∧ (d.keyErase k).slotActive k = false ∧
    (d.slotState k ≠ 0 → (d.keyErase k).bitAt Reg.CRY_INT_STATUS 0 = true) := by
  have hbelow := slotRegs_belowFlows h
  obtain ⟨hregs, hslots⟩ := d.keyErase_beyond k
  obtain ⟨hshows, hactive, hint⟩ := d.wipeSlot_shows k
  have hstate (g : Fld) (hg : g.addr = Reg.CRY_KS_STATE k) : (d.keyErase k).get g = (d.wipeSlot k).get g :=
    hregs.get g (hg ▸ hbelow _ List.mem_cons_self)
  refine ⟨⟨(Dev.keySlot_congr hslots k).trans hshows.key, (hstate _ rfl).trans hshows.state, ?_, (hstate _ rfl).trans hshows.role,
    (hstate _ rfl).trans hshows.warn⟩, ?_, fun hst => (hregs.bitAt _ 0 (by decide)).trans (hint hst)⟩
  · exact (hregs.reg64 (hbelow _ (by simp)) (hbelow _ (by simp))).trans hshows.count
  · rw [← hactive, Dev.slotActive, Dev.isSet, Dev.isSet, hstate _ rfl, hstate _ rfl]
    rfl

/-- The owner of an erased slot sends, or outputs, ODU-LCK. -/
theorem Dev.keyErase_owner {d : Dev} {k f : Nat} (h : d.encFlows[k / 2]? = some f) :
    (d.get (Fld.CRY_KS_STATE.RX_ACT k) = 1 →
      (d.keyErase k).get (Fld.CRY_FLOW_STATUS.RX_LCK f) = 1 ∧ Present 198 (d.keyErase k)) ∧
    (d.get (Fld.CRY_KS_STATE.TX_ACT k) = 1 → (d.keyErase k).get (Fld.CRY_FLOW_STATUS.TX_SLOT f) = 2) := by
  have hisSet (g : Fld) (hg : d.get g = 1) : d.isSet g = true := by rw [Dev.isSet, hg]; rfl
  rw [Dev.keyErase_owned h]
  refine ⟨fun hrx => ?_, fun htx => ?_⟩
  · rw [hisSet _ hrx, Dev.cryCauses_get, Dev.loseSlot_rxLck, Dev.present_rxLck_cryCauses, List.any_eq_true]
    refine ⟨rfl, f, ?_, by rw [Dev.isSet, Dev.loseSlot_rxLck]; rfl⟩
    rw [Dev.encFlows_congr (((d.wipeSlot k).loseSlot_alone ..).2.trans (d.wipeSlot_str k))]
    exact List.mem_of_getElem? h
  · rw [hisSet _ htx, Dev.cryCauses_get, Dev.loseSlot_txSlot]

theorem Dev.keyErase_regsKept {d : Dev} {k : Nat} (h : d.encFlows[k / 2]? = none) : RegsKept (slotRegs k) d (d.keyErase k) := by
  rw [Dev.keyErase_free h]
  exact (d.wipeSlot_regsKept k).same (Dev.cryCauses_regs _)

end Sys2Proof.Machine
end

section
/-! The end of a request (R486, R487), and O56. -/

namespace Sys2Proof.Machine

/-! ### SEC_INT_STATUS (R503) -/

theorem Dev.setIntSEC_cases (d : Dev) (i : Nat) : d.setIntSEC i = d.setBit Reg.SEC_INT_STATUS i ∨
    (∃ l, d.setIntSEC i = { d.setBit Reg.SEC_INT_STATUS i with coreInts := l }) ∨
    ∃ v, d.setIntSEC i = (d.setBit Reg.SEC_INT_STATUS i).sendMsix v := by
  unfold Dev.setIntSEC
  dsimp only
  split
  · split
    · exact .inr (.inl ⟨_, rfl⟩)
    · exact .inr (.inr ⟨_, rfl⟩)
  · exact .inl rfl

theorem Dev.setIntSEC_regs (d : Dev) (i : Nat) : (d.setIntSEC i).regs = (d.setBit Reg.SEC_INT_STATUS i).regs := by
  obtain h | ⟨l, h⟩ | ⟨v, h⟩ := d.setIntSEC_cases i
  · rw [h]
  · rw [h]
  · rw [h, Dev.sendMsix_regs]

theorem Dev.setIntSEC_sec (d : Dev) (i : Nat) : (d.setIntSEC i).sec = d.sec := by
  rw [← Dev.setBit_sec d Reg.SEC_INT_STATUS i]
  obtain h | ⟨l, h⟩ | ⟨v, h⟩ := d.setIntSEC_cases i
  · rw [h]
  · rw [h]
  · rw [h, Dev.sendMsix_sec]

theorem Dev.setIntSEC_arising (d : Dev) (i : Nat) : (d.setIntSEC i).arising = d.arising := by
  rw [← Dev.setBit_arising d Reg.SEC_INT_STATUS i]
  obtain h | ⟨l, h⟩ | ⟨v, h⟩ := d.setIntSEC_cases i
  · rw [h]
  · rw [h]
  · rw [h, Dev.sendMsix_arising]

theorem RegsKept.setIntSEC {l : List Nat} {d e : Dev} (h : RegsKept l d e) (i : Nat) (hi : Reg.SEC_INT_STATUS ∈ l) :
    RegsKept l d (e.setIntSEC i) := (h.setBit _ _ hi).same (Dev.setIntSEC_regs e i)

theorem Dev.bitAt_setIntSEC (d : Dev) (i j : Nat) :
    (d.setIntSEC i).bitAt Reg.SEC_INT_STATUS j = (d.setBit Reg.SEC_INT_STATUS i).bitAt Reg.SEC_INT_STATUS j :=
  ((RegsOut.refl (fun _ => True) _).same (d.setIntSEC_regs i)).bitAt _ j trivial

theorem Dev.bitAt_setIntSEC_self (d : Dev) {i : Nat} (h : i < 32) : (d.setIntSEC i).bitAt Reg.SEC_INT_STATUS i = true :=
  (d.bitAt_setIntSEC i i).trans (d.bitAt_setBit_self _ i h)

/-- An interrupt bit that is set stays set as others are set. -/
theorem Dev.bitAt_setIntSEC_mono {d : Dev} {j : Nat} (h : d.bitAt Reg.SEC_INT_STATUS j = true) (i : Nat) :
    (d.setIntSEC i).bitAt Reg.SEC_INT_STATUS j = true := by
  rw [Dev.bitAt_setIntSEC, Dev.bitAt_setBit, h, Bool.true_or]

/-! ### A reply is written (R486, R487) -/

/-- The flash operation of channel c has ended. -/
def Dev.endFlash (d : Dev) (c : Nat) : Dev :=
  if d.sec.flashBusy = some c then
    ((({ d with sec := { d.sec with flashBusy := none } }.put Fld.SEC_FLASH_STATUS.BUSY 0).put Fld.SEC_FLASH_STATUS.OP 0).setIntSEC 7)
  else d

/-- The fuse command of channel c has ended. -/
def Dev.endFuses (d : Dev) (c : Nat) : Dev :=
  { d with sec := { d.sec with fuseBusy := if d.sec.fuseBusy = some c then none else d.sec.fuseBusy } }

/-- FLASH_FAIL where a flash operation failed. -/
def Dev.flashFailed (d : Dev) (st : Nat) : Dev := if st = 0x2B then d.raise 486 else d

/-- Channel c waits for another request. -/
def Dev.endRequest (d : Dev) (c st : Nat) : Dev :=
  (((d.endFlash c).endFuses c).flashFailed st).setChan c { d.chan c with req := none, reply := none, discard := false }

/-- The bytes of a reply: its header and its payload. -/
def replyBytes (x : List Byte) (st : Nat) (p : List Byte) : List Byte :=
  leBytes 4 (mbCmd x + 2 ^ 16 * p.length) ++ leBytes 4 (leAt x 4 4) ++ leBytes 4 st ++ p

/-- Bytes stand in the reply buffer of channel c. -/
def Dev.writeReply (d : Dev) (c : Nat) (out : List Byte) : Dev :=
  Dev.forUpTo 256 (fun d w => d.setReg (Reg.SEC_MB_RSP c w) (BitVec.ofNat 32 (leAt out (4 * w) 4))) d

/-- The reply buffer of channel c is filled, and the channel says so. -/
def Dev.respond (d : Dev) (c : Nat) (out : List Byte) : Dev :=
  (((d.writeReply c out).put (Fld.SEC_MB_STATUS.BUSY c) 0).put (Fld.SEC_MB_STATUS.DONE c) 1).setIntSEC c

theorem Dev.mbComplete_eq {d : Dev} {c st : Nat} {x p : List Byte} (hreq : (d.chan c).req = some x) (hreply : (d.chan c).reply = some (st, p)) :
    d.mbComplete c = if (d.chan c).discard then (d.endRequest c st).put (Fld.SEC_MB_STATUS.BUSY c) 0
      else (d.endRequest c st).respond c (replyBytes x st p) := by
  unfold Dev.mbComplete
  dsimp only
  rw [hreq, hreply]
  rfl

theorem Dev.mbComplete_idle {d : Dev} {c : Nat} (h : (d.chan c).req = none) : d.mbComplete c = d := by
  unfold Dev.mbComplete
  dsimp only
  rw [h]

/-! #### The end of what the command ran -/

/-- The registers in which the end of a flash operation shows. -/
abbrev flashRegs : List Nat := [Reg.SEC_FLASH_STATUS, Reg.SEC_INT_STATUS]

theorem Dev.endFlash_regsKept (d : Dev) (c : Nat) : RegsKept flashRegs d (d.endFlash c) := by
  have hfree : RegsKept flashRegs d ({ d with sec := { d.sec with flashBusy := none } } : Dev) := .ofRegs rfl
  exact (((hfree.put Fld.SEC_FLASH_STATUS.BUSY 0).put Fld.SEC_FLASH_STATUS.OP 0).setIntSEC 7 (by simp)).ite (.refl _ d)

/-- The end of a flash operation shows in BUSY and in bit 7 of the interrupts. -/
theorem Dev.endFlash_shows {d : Dev} {c : Nat} (h : d.sec.flashBusy = some c) :
    (d.endFlash c).get Fld.SEC_FLASH_STATUS.BUSY = 0 ∧ (d.endFlash c).bitAt Reg.SEC_INT_STATUS 7 = true := by
  rw [Dev.endFlash, if_pos h]
  refine ⟨?_, Dev.bitAt_setIntSEC_self _ (by decide)⟩
  rw [RegsKept.get ((RegsKept.refl [Reg.SEC_INT_STATUS] _).setIntSEC 7 List.mem_cons_self) _ (by decide), Dev.get_put_apart _ _ rfl,
    Dev.get_put_self _ _ _ (Fld.ok_of _ rfl rfl), Nat.zero_mod]

theorem Dev.flashFailed_regs (d : Dev) (st : Nat) : (d.flashFailed st).regs = d.regs := by
  unfold Dev.flashFailed
  split
  · exact Dev.raise_regs ..
  · rfl

theorem Dev.endRequest_regs (d : Dev) (c st : Nat) : (d.endRequest c st).regs = (d.endFlash c).regs := Dev.flashFailed_regs ..

theorem Dev.endRequest_regsKept (d : Dev) (c st : Nat) : RegsKept flashRegs d (d.endRequest c st) :=
  (d.endFlash_regsKept c).same (d.endRequest_regs c st)

theorem Dev.endRequest_arising (d : Dev) (c : Nat) {st : Nat} (h : st = 0x2B) : Arising 486 (d.endRequest c st) := by
  have hraised : Arising 486 (((d.endFlash c).endFuses c).flashFailed st) := by
    rw [Dev.flashFailed, if_pos h]
    exact Dev.raise_arises ..
  exact hraised

/-- What the end of a request shows, however its reply is taken. -/
structure RequestEnded (c st : Nat) (d e : Dev) : Prop where
  req : (e.chan c).req = none
  reply : (e.chan c).reply = none
  failed : st = 0x2B → Arising 486 e
  flash : d.sec.flashBusy = some c → e.get Fld.SEC_FLASH_STATUS.BUSY = 0 ∧ e.bitAt Reg.SEC_INT_STATUS 7 = true

theorem Dev.endRequest_ended (d : Dev) (c st : Nat) : RequestEnded c st d (d.endRequest c st) := by
  have hsame := (RegsOut.refl (fun _ => True) (d.endFlash c)).same (d.endRequest_regs c st)
  refine ⟨by rw [Dev.endRequest, Dev.chan_setChan], by rw [Dev.endRequest, Dev.chan_setChan], d.endRequest_arising c, fun h => ?_⟩
  obtain ⟨hbusy, hint⟩ := Dev.endFlash_shows h
  exact ⟨(hsame.get _ trivial).trans hbusy, (hsame.bitAt _ _ trivial).trans hint⟩

/-- A register of the trusted core below those of the channels. -/
abbrev BelowChannels (a : Nat) : Prop := a < 0xF10000

/-- A change of a channel's own registers leaves what the end of its request shows. -/
theorem RequestEnded.trans {c st : Nat} {d e f : Dev} (h : RequestEnded c st d e) (hsec : f.sec = e.sec) (harising : f.arising = e.arising)
    (hregs : RegsOut BelowChannels e f) : RequestEnded c st d f := by
  refine ⟨by rw [Dev.chan_congr hsec, h.req], by rw [Dev.chan_congr hsec, h.reply], fun hst => ?_, fun hflash => ?_⟩
  · rw [Arising, harising]
    exact h.failed hst
  · obtain ⟨hbusy, hint⟩ := h.flash hflash
    exact ⟨(hregs.get _ (by decide)).trans hbusy, (hregs.bitAt _ _ (by decide)).trans hint⟩

theorem RequestEnded.setIntSEC {c st : Nat} {d e : Dev} (h : RequestEnded c st d e) (i : Nat) : RequestEnded c st d (e.setIntSEC i) := by
  have hsec := e.setIntSEC_sec i
  refine ⟨by rw [Dev.chan_congr hsec, h.req], by rw [Dev.chan_congr hsec, h.reply], fun hst => ?_, fun hflash => ?_⟩
  · rw [Arising, Dev.setIntSEC_arising]
    exact h.failed hst
  · obtain ⟨hbusy, hint⟩ := h.flash hflash
    exact ⟨(RegsKept.get ((RegsKept.refl [Reg.SEC_INT_STATUS] e).setIntSEC i List.mem_cons_self) _ (by decide)).trans hbusy,
      Dev.bitAt_setIntSEC_mono hint i⟩

/-! #### The channel's registers -/

theorem mbStatus_notBelow (c : Nat) : ∀ a, BelowChannels a → a ≠ Reg.SEC_MB_STATUS c := by
  unfold BelowChannels Reg.SEC_MB_STATUS; omega

theorem mbRsp_ne_status (c w : Nat) : Reg.SEC_MB_RSP c w ≠ Reg.SEC_MB_STATUS c := by
  unfold Reg.SEC_MB_RSP Reg.SEC_MB_STATUS; omega

theorem mbRsp_ne_int (c w : Nat) : Reg.SEC_MB_RSP c w ≠ Reg.SEC_INT_STATUS := by unfold Reg.SEC_MB_RSP Reg.SEC_INT_STATUS; omega

theorem Dev.reg_writeReply (d : Dev) (c : Nat) (out : List Byte) {w : Nat} (hw : w < 256) :
    (d.writeReply c out).reg (Reg.SEC_MB_RSP c w) = BitVec.ofNat 32 (leAt out (4 * w) 4) :=
  Dev.forUpTo_places (view := fun d w => d.reg (Reg.SEC_MB_RSP c w)) (g := fun w _ => BitVec.ofNat 32 (leAt out (4 * w) 4))
    (fun _ _ _ => Dev.reg_setReg_self ..) (fun _ i j _ _ hij => Dev.reg_setReg_ne _ _ (by unfold Reg.SEC_MB_RSP; omega)) d hw

theorem Dev.writeReply_onlyRegs (d : Dev) (c : Nat) (out : List Byte) : OnlyRegs d (d.writeReply c out) :=
  .foldl _ (fun d _ => .setReg d _ _) _ d

theorem Dev.writeReply_sec (d : Dev) (c : Nat) (out : List Byte) : (d.writeReply c out).sec = d.sec := by rw [d.writeReply_onlyRegs c out]

theorem Dev.writeReply_regs (d : Dev) (c : Nat) (out : List Byte) : RegsOut BelowChannels d (d.writeReply c out) :=
  .forUpTo 256 _ (fun _ _ _ h => h.setReg _ _ (by unfold BelowChannels Reg.SEC_MB_RSP; omega)) (.refl _ d)

theorem Dev.respond_status (d : Dev) (c : Nat) (out : List Byte) :
    (d.respond c out).get (Fld.SEC_MB_STATUS.BUSY c) = 0 ∧ (d.respond c out).get (Fld.SEC_MB_STATUS.DONE c) = 1 := by
  have hstatus : Reg.SEC_MB_STATUS c ∉ [Reg.SEC_INT_STATUS] := by
    simp only [List.mem_singleton, Reg.SEC_MB_STATUS, Reg.SEC_INT_STATUS]; omega
  have hint (g : Fld) (hg : g.addr = Reg.SEC_MB_STATUS c) : (d.respond c out).get g =
      (((d.writeReply c out).put (Fld.SEC_MB_STATUS.BUSY c) 0).put (Fld.SEC_MB_STATUS.DONE c) 1).get g :=
    RegsKept.get ((RegsKept.refl [Reg.SEC_INT_STATUS] _).setIntSEC c List.mem_cons_self) g (hg ▸ hstatus)
  rw [hint _ rfl, hint _ rfl, Dev.get_put_apart _ _ rfl, Dev.get_put_self _ _ _ (Fld.ok_of _ rfl rfl),
    Dev.get_put_self _ _ _ (Fld.ok_of _ rfl rfl)]
  exact ⟨rfl, rfl⟩

theorem Dev.reg_respond (d : Dev) (c : Nat) (out : List Byte) {w : Nat} (hw : w < 256) :
    (d.respond c out).reg (Reg.SEC_MB_RSP c w) = BitVec.ofNat 32 (leAt out (4 * w) 4) := by
  have hbeside : Reg.SEC_MB_RSP c w ∉ [Reg.SEC_MB_STATUS c, Reg.SEC_INT_STATUS] := by simp [mbRsp_ne_status, mbRsp_ne_int]
  have hkept : RegsKept [Reg.SEC_MB_STATUS c, Reg.SEC_INT_STATUS] (d.writeReply c out) (d.respond c out) :=
    (((RegsKept.refl _ (d.writeReply c out)).put (Fld.SEC_MB_STATUS.BUSY c) 0 List.mem_cons_self).put (Fld.SEC_MB_STATUS.DONE c) 1
      List.mem_cons_self).setIntSEC c (by simp)
  rw [hkept _ hbeside, d.reg_writeReply c out hw]

/-- A number cut to four bytes is the same word. -/
theorem word_mod (n : Nat) : BitVec.ofNat 32 (n % 256 ^ 4) = BitVec.ofNat 32 n := BitVec.eq_of_toNat_eq (by simp)

theorem leAt_replyBytes (x : List Byte) (st : Nat) (p : List Byte) :
    leAt (replyBytes x st p) 0 4 = (mbCmd x + 2 ^ 16 * p.length) % 256 ^ 4 ∧ leAt (replyBytes x st p) 4 4 = leAt x 4 4 % 256 ^ 4 ∧
      leAt (replyBytes x st p) 8 4 = st % 256 ^ 4 := by
  unfold replyBytes
  refine ⟨?_, ?_, ?_⟩
  · rw [List.append_assoc, List.append_assoc]
    exact leAt_leBytes (p := []) rfl ..
  · rw [List.append_assoc, List.append_assoc]
    exact leAt_leBytes (leBytes_length ..) ..
  · rw [List.append_assoc]
    exact leAt_leBytes (by simp [leBytes_length]) ..

theorem Dev.respond_ended {c st : Nat} {d e : Dev} (h : RequestEnded c st d e) (out : List Byte) : RequestEnded c st d (e.respond c out) := by
  refine (h.trans ?_ ?_ ?_).setIntSEC c
  · rw [Dev.put_sec, Dev.put_sec, Dev.writeReply_sec]
  · rw [Dev.put_arising, Dev.put_arising, (e.writeReply_onlyRegs c out).arising]
  · exact ((e.writeReply_regs c out).put _ _ (mbStatus_notBelow c)).put _ _ (mbStatus_notBelow c)

theorem Dev.discard_ended {c st : Nat} {d e : Dev} (h : RequestEnded c st d e) : RequestEnded c st d (e.put (Fld.SEC_MB_STATUS.BUSY c) 0) :=
  h.trans (Dev.put_sec ..) (Dev.put_arising ..) ((RegsOut.refl _ e).put _ _ (mbStatus_notBelow c))

/-- A discarded reply clears BUSY alone. -/
theorem Dev.discard_status (d : Dev) (c st : Nat) :
    ((d.endRequest c st).put (Fld.SEC_MB_STATUS.BUSY c) 0).get (Fld.SEC_MB_STATUS.BUSY c) = 0 ∧
    ((d.endRequest c st).put (Fld.SEC_MB_STATUS.BUSY c) 0).get (Fld.SEC_MB_STATUS.DONE c) = d.get (Fld.SEC_MB_STATUS.DONE c) := by
  have hstatus : Reg.SEC_MB_STATUS c ∉ flashRegs := by
    simp only [List.mem_cons, List.not_mem_nil, or_false, Reg.SEC_MB_STATUS, Reg.SEC_FLASH_STATUS, Reg.SEC_INT_STATUS]
    omega
  refine ⟨Dev.get_put_self _ _ 0 (Fld.ok_of _ rfl rfl), ?_⟩
  rw [Dev.get_put_apart _ _ rfl, (d.endRequest_regsKept c st).get _ hstatus]

theorem exec_mbComplete {s : State} (h : Running s) (c : Fin 5) : exec (.mbComplete c) s = .next { s with dev := s.dev.mbComplete c } :=
  runDev_alive (f := Dev.mbComplete c) h

/-! ### O56 -/

section
variable {s : State} {c : Fin 5} {x : List Byte}

theorem exec_getInfo (h : Serving c 0x01 x s) : exec (.getInfo c) s = .next { s with dev := s.dev.getInfo c } :=
  Serves.exec_serving (f := fun _ => Dev.getInfo c) (fun _ => rfl) h rfl

theorem exec_getCert (h : Serving c 0x02 x s) : exec (.getCert c) s = .next { s with dev := s.dev.getCert c (sliceBytes x 8 4) } :=
  Serves.exec_serving (f := Dev.getCert c) (fun _ => rfl) h rfl

theorem exec_attest (h : Serving c 0x03 x s) : exec (.attest c) s = .next { s with dev := s.dev.attest c (sliceBytes x 8 32) } :=
  Serves.exec_serving (f := Dev.attest c) (fun _ => rfl) h rfl

theorem exec_getChallenge (h : Serving c 0x04 x s) : exec (.getChallenge c) s = .next { s with dev := s.dev.getChallenge c } :=
  Serves.exec_serving (f := fun _ => Dev.getChallenge c) (fun _ => rfl) h rfl

theorem exec_kekExchange (h : Serving c 0x10 x s) : exec (.kekExchange c) s = .next { s with dev := s.dev.kekExchange c (sliceBytes x 8 96) } :=
  Serves.exec_serving (f := Dev.kekExchange c) (fun _ => rfl) h rfl

theorem exec_keyLoad (h : Serving c 0x11 x s) : exec (.keyLoad c) s = .next { s with dev := s.dev.mbKeyLoad c (sliceBytes x 8 44) } :=
  Serves.exec_serving (f := Dev.mbKeyLoad c) (fun _ => rfl) h rfl

theorem exec_keyErase (h : Serving c 0x12 x s) : exec (.keyErase c) s = .next { s with dev := s.dev.mbKeyErase c (sliceBytes x 8 2) } :=
  Serves.exec_serving (f := Dev.mbKeyErase c) (fun _ => rfl) h rfl

/-- A key that is not loaded is refused with a code, on the same registers and slots. -/
theorem keyLoad_refused {d : Dev} {st : Nat} (h : Serving c 0x11 x s) (hd : s.dev.mbKeyLoad c (sliceBytes x 8 44) = d.mbReply c st)
    (hregs : d.regs = s.dev.regs) (hcry : d.cry = s.dev.cry) :
    ∃ t, exec (.keyLoad c) s = .next t ∧ Replied c st [] t ∧ Frame [] s t ∧ t.dev.cry.slots = s.dev.cry.slots := by
  obtain ⟨hreplied, hframe⟩ := replied_mbReply c st [] hregs
  exact ⟨_, exec_keyLoad h, by rwa [hd], by rwa [hd], by rw [hd]; exact congrArg CryState.slots hcry⟩

/-- A key that is refused with BUSY is reported. -/
theorem keyLoad_busy_refused (h : Serving c 0x11 x s) (hd : s.dev.mbKeyLoad c (sliceBytes x 8 44) = (s.dev.raise 204).mbReply c 1) :
    (∃ t, exec (.keyLoad c) s = .next t ∧ Replied c 1 [] t ∧ Frame [] s t ∧ t.dev.cry.slots = s.dev.cry.slots) ∧
    ∃ t, exec (.keyLoad c) s = .next t ∧ Arising 204 t.dev :=
  ⟨keyLoad_refused h hd (Dev.raise_regs ..) (Dev.raise_cry ..), _, exec_keyLoad h, by rw [hd]; exact Dev.raise_arises s.dev 204⟩

end

section
variable {d : Dev} (c : Nat) {p cert : List Byte} (hcert : cert = if leAt p 0 1 = 0 then Config.deviceCert else Config.caCert)
include hcert

theorem Dev.getCert_refused (h : 1 < leAt p 0 1 ∨ cert.length < leAt p 2 2) : d.getCert c p = d.mbReply c 0x24 := by
  subst hcert
  exact if_pos h

theorem Dev.getCert_read (h : ¬(1 < leAt p 0 1 ∨ cert.length < leAt p 2 2)) :
    d.getCert c p = d.mbReply c 0 (leBytes 2 cert.length ++ [0, 0] ++ (cert.drop (leAt p 2 2)).take 1008) := by
  subst hcert
  exact if_neg h

end

theorem Dev.get_mbReply (d : Dev) (c st : Nat) (p : List Byte) (f : Fld) : (d.mbReply c st p).get f = d.get f := rfl

theorem Dev.bitAt_mbReply (d : Dev) (c st : Nat) (p : List Byte) (a i : Nat) : (d.mbReply c st p).bitAt a i = d.bitAt a i := rfl

theorem Dev.causes_mbReply (d : Dev) (c st : Nat) (p : List Byte) : (d.mbReply c st p).causes = d.causes := rfl

theorem Dev.slotActive_mbReply (d : Dev) (c st : Nat) (p : List Byte) (k : Nat) : (d.mbReply c st p).slotActive k = d.slotActive k := rfl

/-- A reply leaves what a slot shows. -/
theorem SlotShows.mbReply {k st role : Nat} {key : KeySlot} {d : Dev} (h : SlotShows k key st role d) (c r : Nat) (p : List Byte) :
    SlotShows k key st role (d.mbReply c r p) := ⟨h.key, h.state, h.count, h.role, h.warn⟩

/-- The outcome of a command that changes the device and replies. -/
theorem replied_after (s : State) (d : Dev) (c : Fin 5) (st : Nat) : Replied c st [] { s with dev := d.mbReply c st } :=
  (replied_mbReply (s := { s with dev := d }) c st [] rfl).1

theorem frame_mbReply {l : List Nat} {s : State} {d : Dev} (h : RegsKept l s.dev d) (c st : Nat) (p : List Byte) :
    Frame l s { s with dev := d.mbReply c st p } := .ofDev (h.same rfl)

theorem Dev.mbKeyErase_beyond {d : Dev} {x : List Byte} (h : 511 < leAt x 0 2) (c : Nat) : d.mbKeyErase c x = d.mbReply c 3 := if_pos h

theorem Dev.mbKeyErase_slot {d : Dev} {x : List Byte} (h : leAt x 0 2 ≤ 511) (c : Nat) :
    d.mbKeyErase c x = (d.keyErase (leAt x 0 2)).mbReply c 0 := if_neg (Nat.not_lt.mpr h)

theorem bit_odd (n : Nat) : bit (n % 2 == 1) = n % 2 := by
  rcases Nat.mod_two_eq_zero_or_one n with h | h <;> rw [h] <;> rfl

/-- Settles O56: each command by what it makes of the device, beneath the one form in which all of them serve requests. -/
theorem mailboxServesRequests : Obligations.MailboxServesRequests := by
  refine ⟨fun s c burnt img cmd i hrun hmem => ⟨fun hidle => ?idle, fun x hreq hcmd => ?other,
      fun x st hreq hreply hserves hcmd hst => ?refused⟩,
    fun d x hstage => ?refusals, fun s c x hx => ?info, fun s c x hx p hp cert hcert => ?certificate,
    fun s c x hd => ⟨fun hx => ?attestOff, fun hx => ?challengeOff, fun hx => ?kekOff⟩,
    fun s c x hd => ⟨fun hx => ?attested, fun hx => ?challenged, fun hx => ?exchanged⟩, fun s c x hx p hp k hk => ?loading,
    fun s c x hx k hk => ⟨fun hbeyond => ?eraseBeyond, fun hslot => ?erased⟩, fun s c x p st hrun hreq hreply => ?completed,
    fun s c hrun hreq => ?nothing⟩
  case idle =>
    obtain ⟨f, hf⟩ := serves_of_mem hmem
    rw [hf.exec_inl hrun (Dev.mbTake_idle hidle cmd)]
  case other =>
    obtain ⟨f, hf⟩ := serves_of_mem hmem
    rw [hf.exec_inl hrun (Dev.mbTake_other hreq hcmd)]
  case refused =>
    obtain ⟨f, hf⟩ := serves_of_mem hmem
    have htake : s.dev.mbTake c cmd = .inl (s.dev.mbReply c st) := by rw [Dev.mbTake_served hreq hreply hserves hcmd, hst, Option.elim_some]
    exact ⟨_, hf.exec_inl hrun htake, replied_mbReply c st [] rfl⟩
  case refusals =>
    unfold Dev.mbRefusal
    dsimp only
    rw [if_neg (fun h => hstage h.1)]
  case info =>
    obtain ⟨hreplied, hframe⟩ := replied_mbReply c 0 s.dev.infoBytes (s := s) rfl
    exact ⟨_, _, exec_getInfo hx, hreplied, hframe, s.dev.infoBytes_length, s.dev.infoBytes_version, s.dev.infoBytes_dieId⟩
  case certificate =>
    subst hp
    refine ⟨_, exec_getCert hx, ?_⟩
    by_cases hbad : 1 < leAt (sliceBytes x 8 4) 0 1 ∨ cert.length < leAt (sliceBytes x 8 4) 2 2
    · rw [Dev.getCert_refused c hcert hbad, if_pos hbad]
      exact (replied_mbReply c 0x24 [] (s := s) rfl).symm
    · rw [Dev.getCert_read c hcert hbad, if_neg hbad]
      exact (replied_mbReply c 0 _ (s := s) rfl).symm
  case attestOff =>
    refine ⟨_, exec_attest hx, ?_⟩
    rw [(Dev.drbgOff_replies c hd _).1]
    exact replied_mbReply c 0x0A [] rfl
  case challengeOff =>
    refine ⟨_, exec_getChallenge hx, ?_⟩
    rw [(Dev.drbgOff_replies c hd []).2.1]
    exact replied_mbReply c 0x0A [] rfl
  case kekOff =>
    refine ⟨_, exec_kekExchange hx, ?_⟩
    rw [(Dev.drbgOff_replies c hd _).2.2]
    exact replied_mbReply c 0x0A [] rfl
  case attested =>
    have hexec := exec_attest hx
    rw [Dev.attest_on c hd] at hexec
    obtain ⟨hreplied, hframe⟩ := replied_mbReply (s := s) (d := s.dev.drawn) c 0 (s.dev.drawn.report (sliceBytes x 8 32) ++ sliceBytes
      (Config.identitySign s.dev.fresh (s.dev.drawn.report (sliceBytes x 8 32))) 0 96) rfl
    exact ⟨_, _, hexec, sliceBytes_length .., hframe, _, hreplied, Dev.report_length .., Dev.report_nonce _ (sliceBytes_length ..),
      Dev.report_dieId ..⟩
  case challenged =>
    have hexec := exec_getChallenge hx
    rw [Dev.getChallenge_on c hd] at hexec
    obtain ⟨hreplied, hframe⟩ := replied_mbReply (s := s) (d := s.dev.drawn.setChan c { s.dev.drawn.chan c with
      challenge := some ((List.range 32).map (Config.freeByte s.dev.fresh)) }) c 0 ((List.range 32).map (Config.freeByte s.dev.fresh)) rfl
    exact ⟨_, _, hexec, by simp, hreplied, by rw [Dev.chan_mbReply, Dev.chan_setChan], hframe⟩
  case exchanged =>
    refine ⟨_, exec_kekExchange hx, ?_⟩
    cases hq : Config.ecdh s.dev.fresh (sliceBytes x 8 96) with
    | none =>
      rw [Dev.kekExchange_bad c hd hq]
      obtain ⟨hreplied, hframe⟩ := replied_mbReply (s := s) (d := s.dev.drawn) c 0x21 [] rfl
      exact ⟨hframe, hreplied, by rw [Dev.chan_mbReply]; rfl⟩
    | some r =>
      obtain ⟨qd, z⟩ := r
      obtain ⟨m, hm⟩ := Dev.kekExchange_good c hd hq
      rw [hm]
      obtain ⟨hreplied, hframe⟩ := replied_mbReply (s := s) (d := s.dev.drawn.drawn.setChan c { s.dev.drawn.drawn.chan c with
        kek := some (kekOf (sliceBytes x 8 96) qd z) }) c 0 (sliceBytes qd 0 96 ++ sliceBytes m 0 96) rfl
      refine ⟨hframe, ⟨_, hreplied, by simp [sliceBytes_length], List.take_left' (sliceBytes_length ..)⟩, ?_⟩
      rw [Dev.chan_mbReply, Dev.chan_setChan]
      rfl
  case loading =>
    subst hp hk
    intro refused
    refine ⟨fun hopen => keyLoad_busy_refused hx (Dev.mbKeyLoad_open hopen ..), fun hclosed hbeyond => ?_, fun hclosed hslot hbusy => ?_,
      fun hclosed hslot hactive hrstr => ⟨fun hd => ?_, fun hd => ?_⟩⟩
    · exact keyLoad_refused hx (by rw [Dev.mbKeyLoad_eq hclosed, Dev.keyLoad_beyond _ hbeyond]) rfl rfl
    · exact keyLoad_busy_refused hx (by rw [Dev.mbKeyLoad_eq hclosed, Dev.keyLoad_busy _ hslot hbusy])
    · exact keyLoad_refused hx (by rw [Dev.mbKeyLoad_eq hclosed, Dev.keyLoad_noDrbg _ hslot hactive hrstr hd]) rfl rfl
    · cases hw : (s.dev.chan c).kek.bind fun q => Config.keyUnwrap q (sliceBytes (sliceBytes x 8 44) 4 40) with
      | none => exact keyLoad_refused hx (by rw [Dev.mbKeyLoad_eq hclosed, Dev.keyLoad_badKey _ hslot hactive hrstr hd hw]) rfl rfl
      | some key =>
        refine ⟨_, exec_keyLoad hx, ?_⟩
        rw [Dev.mbKeyLoad_eq hclosed, Dev.keyLoad_fills _ hslot hactive hrstr hd hw]
        dsimp only
        obtain ⟨hkey, hstate, hcount, hrole, hwarn⟩ := ((s.dev.drbgTake (2 ^ 32)).2.fillSlot_shows (leAt (sliceBytes x 8 44) 0 2)
          { key := key, salt := BitVec.ofNat 32 (s.dev.drbgTake (2 ^ 32)).1, lastCount := none }
          (leAt (sliceBytes x 8 44) 2 1 % 2 == 1)).mbReply c 0 []
        have hregs := (RegsKept.ofRegs (s.dev.drbgTake_alone (2 ^ 32)).regs).trans (Dev.fillSlot_regsKept _ (leAt (sliceBytes x 8 44) 0 2)
          { key := key, salt := BitVec.ofNat 32 (s.dev.drbgTake (2 ^ 32)).1, lastCount := none } (leAt (sliceBytes x 8 44) 2 1 % 2 == 1))
        exact ⟨replied_after .., by rw [hkey], by rw [hkey], hstate, hcount, hrole.trans (bit_odd _), hwarn, frame_mbReply hregs ..⟩
  case eraseBeyond =>
    rw [hk, ← leAt_sliceBytes (b := 0) (m := 2) (Nat.le_refl _)] at hbeyond
    have hexec := exec_keyErase hx
    rw [Dev.mbKeyErase_beyond hbeyond] at hexec
    exact ⟨_, hexec, replied_mbReply c 3 [] rfl⟩
  case erased =>
    have hslice : leAt (sliceBytes x 8 2) 0 2 = k := (leAt_sliceBytes (Nat.le_refl _) x 8).trans hk.symm
    have hexec := exec_keyErase hx
    rw [Dev.mbKeyErase_slot (hslice.symm ▸ hslot), hslice] at hexec
    obtain ⟨hshows, hactive, hint⟩ := s.dev.keyErase_shows hslot
    obtain ⟨hkey, hstate, hcount, -, hwarn⟩ := hshows.mbReply c 0 []
    refine ⟨_, hexec, replied_after .., hkey, hstate, hcount, (Dev.slotActive_mbReply ..).trans hactive, hwarn,
      fun hst => (Dev.bitAt_mbReply ..).trans (hint hst), fun f howner => ?_, fun hfree => frame_mbReply (Dev.keyErase_regsKept hfree) ..⟩
    rw [Present, Dev.get_mbReply, Dev.get_mbReply, Dev.causes_mbReply]
    exact Dev.keyErase_owner howner
  case completed =>
    refine ⟨_, exec_mbComplete hrun c, ⟨rfl, rfl, rfl⟩, ?_⟩
    have hended := s.dev.endRequest_ended c st
    rw [Dev.mbComplete_eq hreq hreply]
    cases hdiscard : (s.dev.chan c).discard with
    | true =>
      obtain ⟨hnoReq, hnoReply, hfailed, hflash⟩ := Dev.discard_ended hended
      obtain ⟨hbusy, hdone⟩ := s.dev.discard_status c st
      exact ⟨hnoReq, hnoReply, hbusy, hfailed, hflash, fun _ => hdone, nofun⟩
    | false =>
      obtain ⟨hnoReq, hnoReply, hfailed, hflash⟩ := Dev.respond_ended hended (replyBytes x st p)
      obtain ⟨hbusy, hdone⟩ := (s.dev.endRequest c st).respond_status c (replyBytes x st p)
      obtain ⟨hhead, hseq, hcode⟩ := leAt_replyBytes x st p
      refine ⟨hnoReq, hnoReply, hbusy, hfailed, hflash, nofun, fun _ => ⟨hdone, Dev.bitAt_setIntSEC_self _ (by omega), ?_, ?_, ?_⟩⟩
      · exact (Dev.reg_respond _ c _ (by decide)).trans (by rw [Nat.mul_zero, hhead, word_mod])
      · exact (Dev.reg_respond _ c _ (by decide)).trans (by rw [Nat.mul_one, hseq, word_mod])
      · exact (Dev.reg_respond _ c _ (by decide)).trans (by rw [hcode, word_mod])
  case nothing => rw [exec_mbComplete hrun c, Dev.mbComplete_idle hreq]

end Sys2Proof.Machine
end

section
/-! Block MRG (08_hitless_merge.md): what its shared operations show, and what they leave as it was. -/

namespace Sys2Proof.Machine

/-! ### Flows beside their registers -/

@[simp] theorem Dev.mf_setMf (d : Dev) (f : Nat) (v : MergeFlow) : (d.setMf f v).mf f = v := Sparse.get_put_self _ _ _ _

theorem Dev.mf_congr {d e : Dev} (h : e.mrg = d.mrg) (f : Nat) : e.mf f = d.mf f := by rw [Dev.mf, h, Dev.mf]

@[simp] theorem State.onDev_get (f : Dev → Dev) (s : State) (g : Fld) : (s.onDev f).dev.get g = (f s.dev).get g := rfl

@[simp] theorem State.onDev_bitAt (f : Dev → Dev) (s : State) (a i : Nat) : (s.onDev f).dev.bitAt a i = (f s.dev).bitAt a i := rfl

@[simp] theorem State.onDev_mf (f : Dev → Dev) (s : State) (i : Nat) : (s.onDev f).dev.mf i = (f s.dev).mf i := rfl

@[simp] theorem State.onDev_arising (f : Dev → Dev) (s : State) : (s.onDev f).dev.arising = (f s.dev).arising := rfl

theorem RegsKept.onDev {l : List Nat} {s : State} {f : Dev → Dev} (h : RegsKept l s.dev (f s.dev)) : RegsKept l s.dev (s.onDev f).dev := h.same

@[simp] theorem MergeFlow.path_setPath (m : MergeFlow) (p : MergePath) (v : MergePathState) : (m.setPath p v).path p = v := by
  cases p <;> rfl

/-- A protected flow is declared under its own number. -/
theorem Dev.flow_of_protectedFlow {d : Dev} {f : Nat} {w : FlowDecl} (h : d.protectedFlow f = some w) : w.flow = f := by
  have hfind : d.flowOf f = some w := (Option.filter_eq_some_iff.mp h).1
  simpa using List.find?_some hfind

/-- The number after a number, modulo 2^32 (R238). -/
theorem ofNat_succ_word (r : Word) : BitVec.ofNat 32 ((r.toNat + 1) % 2 ^ 32) = r + 1 :=
  BitVec.eq_of_toNat_eq (by simp [BitVec.toNat_add])

/-! ### What queues do leaves MRG alone (R292) -/

/-- e has the registers below block RMS, and the flows of block MRG, of d. -/
structure KeepsMrg (d e : Dev) : Prop where
  regs : RegsOut BelowRms d e
  mrg : e.mrg = d.mrg

/-- A key of a queue lies above the registers below RMS. -/
theorem ne_queueKey {a : Nat} (h : BelowRms a) (q o : Nat) : a ≠ queueBase + 0x100 * q + o := by
  unfold BelowRms at h
  unfold queueBase
  omega

/-- The registers of a flow lie below block RMS. -/
theorem flowReg_below {f : Nat} (hf : f < 1280) {o : Nat} (ho : o < 0x40) : BelowRms (0x0740000 + o + 0x40 * f) := by
  unfold BelowRms
  omega

namespace KeepsMrg

theorem refl (d : Dev) : KeepsMrg d d := ⟨.refl _ d, rfl⟩

theorem ite {d f g : Dev} {c : Prop} {_ : Decidable c} (hf : KeepsMrg d f) (hg : KeepsMrg d g) : KeepsMrg d (if c then f else g) := by
  split <;> assumption

theorem foldl {α : Type} {d e : Dev} {f : Dev → α → Dev} {l : List α} (h : KeepsMrg d e)
    (hf : ∀ {e} a, KeepsMrg d e → KeepsMrg d (f e a)) : KeepsMrg d (l.foldl f e) := by
  induction l generalizing e with
  | nil => exact h
  | cons a l ih => exact ih (hf a h)

section
variable {d e : Dev} (h : KeepsMrg d e)
include h

theorem same {f : Dev} (hr : f.regs = e.regs) (hm : f.mrg = e.mrg) : KeepsMrg d f := ⟨h.regs.same hr, hm.trans h.mrg⟩

theorem qEvt (q i : Nat) : KeepsMrg d (e.qEvt q i) := by
  have hset : (e.qEvtSet q i).mrg = e.mrg := by rw [Dev.qEvtSet, Dev.tapEvent_mrg, Dev.setInt_mrg, Dev.setBit_mrg]
  refine ⟨h.regs.trans (e.qEvt_alone q i).1, ?_⟩
  obtain heq | heq | ⟨v, heq⟩ := e.qEvt_cases q i
  · rw [heq, h.mrg]
  · rw [heq, hset, h.mrg]
  · rw [heq, Dev.sendMsix_mrg, hset, h.mrg]

theorem watermarks (q before : Nat) : KeepsMrg d (e.watermarks q before) := by
  unfold Dev.watermarks
  extract_lets now d1
  have h1 : KeepsMrg d d1 := .ite (h.qEvt _ _) h
  exact .ite (h1.qEvt _ _) h1

theorem freeOne (p : Nat) : KeepsMrg d (e.freeOne p) := h.same rfl rfl

theorem poolCheck : KeepsMrg d e.poolCheck := .ite (h.same rfl rfl) h

theorem releasePage (q k : Nat) : KeepsMrg d (e.releasePage q k) := by
  unfold Dev.releasePage
  extract_lets v gone d1 rms d2 d3
  have h2 : KeepsMrg d d2 := h.same rfl rfl
  have h3 : KeepsMrg d d3 := .ite ⟨h2.regs.put _ _ fun a ha => ne_queueKey ha q 0x20, h2.mrg⟩ h2
  exact ((h3.foldl fun _ h => h.freeOne _).watermarks _ _).poolCheck

/-- What a queue releases as its HEAD moves is no concern of MRG. -/
theorem moveHead (q pos : Nat) : KeepsMrg d (e.moveHead q pos) := by
  have hhead : KeepsMrg d (e.setReg64 (Reg.RMS_Q_HEAD_LO q) pos) :=
    ⟨h.regs.setReg64 _ _ fun a ha => ⟨ne_queueKey ha q 0x30, ne_queueKey ha q 0x34⟩, h.mrg⟩
  exact hhead.foldl fun _ h => h.releasePage _ _

end

end KeepsMrg

theorem Dev.dropHeld_keeps (d : Dev) (f : Nat) : KeepsMrg (d.setMf f { d.mf f with held := [] }) (d.dropHeld f) := by
  unfold Dev.dropHeld
  dsimp only
  split
  · exact (KeepsMrg.refl _).moveHead _ _
  · exact .refl _

/-! ### Events of flows, and the causes of the block (R249, R252) -/

theorem mergeEvt_ne_int (f : Nat) : Reg.MRG_FLOW_EVT f ≠ Reg.MRG_INT_STATUS := by unfold Reg.MRG_FLOW_EVT Reg.MRG_INT_STATUS; omega

@[simp] theorem Dev.mergeEvt_mrg (d : Dev) (f i : Nat) : (d.mergeEvt f i).mrg = d.mrg := by rw [Dev.mergeEvt, Dev.setInt_mrg, Dev.setBit_mrg]

/-- An event of a flow stands in its EVT, and is reported. -/
theorem Dev.mergeEvt_shows (d : Dev) (f : Nat) {i : Nat} (hi : i < 32) :
    (d.mergeEvt f i).bitAt (Reg.MRG_FLOW_EVT f) i = true ∧ (d.mergeEvt f i).bitAt Reg.MRG_INT_STATUS 1 = true :=
  ⟨(Dev.bitAt_setInt_ne _ intMRG 1 (mergeEvt_ne_int f)).trans (Dev.bitAt_setBit_self d _ i hi), Dev.bitAt_setInt_self _ intMRG (by decide)⟩

theorem RegsOut.mergeEvt {p : Nat → Prop} {d e : Dev} (h : RegsOut p d e) (f i : Nat)
    (hp : ∀ a, p a → a ≠ Reg.MRG_FLOW_EVT f ∧ a ≠ Reg.MRG_INT_STATUS) : RegsOut p d (e.mergeEvt f i) :=
  (h.setBit _ _ fun a ha => (hp a ha).1).setInt _ _ fun a ha => (hp a ha).2

theorem RegsKept.mergeEvt {l : List Nat} {d e : Dev} (h : RegsKept l d e) (f i : Nat) (he : Reg.MRG_FLOW_EVT f ∈ l)
    (hs : Reg.MRG_INT_STATUS ∈ l) : RegsKept l d (e.mergeEvt f i) := (h.setBit _ _ he).setInt _ _ hs

/-- A field in another register than those of an event. -/
theorem Dev.get_mergeEvt (d : Dev) (f i : Nat) {g : Fld} (hg : g.addr ≠ Reg.MRG_FLOW_EVT f ∧ g.addr ≠ Reg.MRG_INT_STATUS) :
    (d.mergeEvt f i).get g = d.get g :=
  ((RegsOut.refl (· = g.addr) d).mergeEvt f i fun _ ha => ha ▸ hg).get g rfl

/-- The block's causes are brought up to date: DELAY_MAX of flows and the count of slots change alone. -/
theorem RegsOut.mrgCheck {p : Nat → Prop} {d e : Dev} (h : RegsOut p d e)
    (hp : ∀ a, p a → a ≠ Reg.MRG_STATUS ∧ ∀ i, a ≠ Reg.MRG_FLOW_DMAX i) : RegsOut p d e.mrgCheck :=
  ((((((RegsOut.foldl _ _ (fun _ w _ h => h.put _ _ fun a ha => (hp a ha).2 w.flow) h).put _ _ fun a ha => (hp a ha).1).causeIs _ _).causeIs
    _ _).causeIs _ _).causeIs _ _).causeIs _ _

end Sys2Proof.Machine
end

section
/-! Numbering, copies and slots of protected flows (R238 to R240, R247, R251). -/

namespace Sys2Proof.Machine

/-! ### Numbering (R238, R251) -/

theorem exec_mergeDup {s : State} (h : Working 7 s) (f : Fin 1280) (x : OduFrame) :
    exec (.mergeDup f x) s = .next { s with dev := s.dev.mergeDup f x } := runBlock_runs (f := Dev.mergeDup f x) h.1 h.2

/-- Flow f has sent a frame with number n. -/
def Dev.sendsNumbered (d : Dev) (f : Nat) (x : OduFrame) (n : Nat) : Dev :=
  (d.setReg (Reg.MRG_FLOW_TXSQ f) (BitVec.ofNat 32 n)).setMf f { d.mf f with dup := some (oduWithSq x n) }

section
variable {d : Dev} {f : Nat} (x : OduFrame)

theorem Dev.mergeDup_unprotected (h : d.protectedFlow f = none) : d.mergeDup f x = d := by simp [Dev.mergeDup, h]

variable (hw : (d.protectedFlow f).isSome = true) (hr : d.regionRuns 3 = true)
include hw hr

theorem Dev.mergeDup_eq : d.mergeDup f x =
    d.sendsNumbered f x (if d.relay f then oduSq x else ((d.reg (Reg.MRG_FLOW_TXSQ f)).toNat + 1) % 2 ^ 32) := by
  have hgo : ¬ ((d.protectedFlow f).isNone || !d.regionRuns 3) = true := by rw [Option.isNone_eq_false_iff.mpr hw, hr]; decide
  exact if_neg hgo

end

theorem Dev.sendsNumbered_kept (d : Dev) (f : Nat) (x : OduFrame) (n : Nat) : RegsKept [Reg.MRG_FLOW_TXSQ f] d (d.sendsNumbered f x n) :=
  ((RegsKept.refl _ d).setReg _ _ List.mem_cons_self).same rfl

theorem Dev.dup_sendsNumbered (d : Dev) (f : Nat) (x : OduFrame) (n : Nat) :
    ((d.sendsNumbered f x n).mf f).dup = some (oduWithSq x n) := by rw [Dev.sendsNumbered, Dev.mf_setMf]

theorem Dev.reg_sendsNumbered (d : Dev) (f : Nat) (x : OduFrame) (n : Nat) :
    (d.sendsNumbered f x n).reg (Reg.MRG_FLOW_TXSQ f) = BitVec.ofNat 32 n := Dev.reg_setReg_self d _ _

/-! ### Copies (R239, R240, R247) -/

theorem exec_mergeCopy {s : State} (h : Working 7 s) (f : Fin 1280) (p : MergePath) (x : OduFrame) (u : Bool) :
    exec (.mergeCopy f p x u) s = .next (s.onDev (Dev.mergeCopy f p x u)) := runMrg_runs h.1 h.2

/-- Where no copy is held, none ages. -/
theorem Dev.ageHeld_of_empty {d : Dev} {w : FlowDecl} (h : (d.mf w.flow).held = []) : d.ageHeld w = d := by simp [Dev.ageHeld, h]

/-- A copy with number n has been received on a path: what the path then keeps of the copies received. -/
def MergePathState.received (v : MergePathState) (n now : Nat) : MergePathState :=
  { v with prev := some n, arrived := v.arrived.filter (fun e => decide (now ≤ e.2 + 11200000)) ++ [(n, now)] }

/-- The device with path p of flow f replaced. -/
def Dev.setMfPath (d : Dev) (f : Nat) (p : MergePath) (v : MergePathState) : Dev := d.setMf f ((d.mf f).setPath p v)

@[simp] theorem Dev.path_setMfPath (d : Dev) (f : Nat) (p : MergePath) (v : MergePathState) : ((d.setMfPath f p v).mf f).path p = v := by
  rw [Dev.setMfPath, Dev.mf_setMf, MergeFlow.path_setPath]

/-- The device on which a copy has been received. -/
def Dev.copyReceived (d : Dev) (f : Nat) (p : MergePath) (x : OduFrame) : Dev :=
  d.setMfPath f p (((d.mf f).path p).received (oduSq x) d.ticks)

theorem Dev.path_copyReceived (d : Dev) (f : Nat) (p : MergePath) (x : OduFrame) :
    ((d.copyReceived f p x).mf f).path p = ((d.mf f).path p).received (oduSq x) d.ticks := Dev.path_setMfPath ..

section
variable {d : Dev} {f : Fin 1280} {p : MergePath} {w : FlowDecl} (hw : d.protectedFlow f = some w) (hr : d.regionRuns 3 = true)
  (hj : d.hasJoin f p = true) (hrelay : d.relay f = false) (hheld : (d.mf f).held = [])
include hw hr hj hrelay hheld

/-- A copy received while none is held and the flow is not in RELAY. -/
theorem Dev.mergeCopy_eq (x : OduFrame) (u : Bool) : d.mergeCopy f p x u =
    ((d.copyFails w f p x u).elim ((d.copyReceived f p x).copyValid f p x) ((d.copyReceived f p x).copyInvalid f p)).skew f p (oduSq x) := by
  have hage : d.ageHeld w = d := Dev.ageHeld_of_empty (by rw [Dev.flow_of_protectedFlow hw, hheld])
  have hgo : ¬ (!d.hasJoin f p || !d.regionRuns 3) = true := by rw [hj, hr]; decide
  have hsame : ¬ (d.copyReceived f p x).relay f = true := by
    change ¬ d.relay f = true
    rw [hrelay]; decide
  unfold Dev.mergeCopy
  rw [hw]
  dsimp only
  rw [if_neg hgo, hage]
  cases d.copyFails w f p x u with
  | none => exact congrArg (fun e : Dev => (e.copyValid f p x).skew f p (oduSq x)) (if_neg hsame)
  | some c => exact congrArg (fun e : Dev => (e.copyInvalid f p c).skew f p (oduSq x)) (if_neg hsame)

end

theorem fldState_addr (f : Nat) (p : MergePath) : (fldState f p).addr = Reg.MRG_FLOW_STATUS f := by cases p <;> rfl

theorem fldInv_addr (f : Nat) (p : MergePath) : (fldInv f p).addr = Reg.MRG_FLOW_INV_CNT f := by cases p <;> rfl

/-- FLOW_STATUS is none of the registers of events. -/
theorem flowStatus_ne_evt (f : Nat) : Reg.MRG_FLOW_STATUS f ≠ Reg.MRG_FLOW_EVT f ∧ Reg.MRG_FLOW_STATUS f ≠ Reg.MRG_INT_STATUS := by
  unfold Reg.MRG_FLOW_STATUS Reg.MRG_FLOW_EVT Reg.MRG_INT_STATUS; omega

/-- FLOW_SKEW is none of the registers that show paths and events. -/
theorem flowSkew_ne (f : Nat) : Reg.MRG_FLOW_STATUS f ≠ Reg.MRG_FLOW_SKEW f ∧ Reg.MRG_FLOW_EVT f ≠ Reg.MRG_FLOW_SKEW f ∧
    Reg.MRG_FLOW_INV_CNT f ≠ Reg.MRG_FLOW_SKEW f ∧ Reg.MRG_INT_STATUS ≠ Reg.MRG_FLOW_SKEW f := by
  unfold Reg.MRG_FLOW_STATUS Reg.MRG_FLOW_EVT Reg.MRG_FLOW_INV_CNT Reg.MRG_INT_STATUS Reg.MRG_FLOW_SKEW; omega

/-- A state code of a path reads back. -/
theorem Dev.pathState_put (d : Dev) (f : Nat) (p : MergePath) {st : Nat} (h : st < 4) : (d.put (fldState f p) st).pathState f p = st := by
  cases p <;> exact (Dev.get_put_self d _ st (Fld.ok_of _ rfl rfl)).trans (Nat.mod_eq_of_lt h)

/-- FLOW_SKEW alone takes what a copy tells of the paths' delays (Table 7). -/
theorem Dev.skew_alone (d : Dev) (f : Nat) (p : MergePath) (n : Nat) :
    RegsKept [Reg.MRG_FLOW_SKEW f] d (d.skew f p n) ∧ (d.skew f p n).mrg = d.mrg := by
  unfold Dev.skew
  split
  · split
    · exact ⟨(RegsKept.refl _ d).put _ _ List.mem_cons_self, rfl⟩
    · exact ⟨.refl _ d, rfl⟩
  · exact ⟨.refl _ d, rfl⟩

/-- What a path shows after a copy does not depend on the skew. -/
theorem Dev.skew_shows (d : Dev) (f : Nat) (p : MergePath) (n : Nat) : let t := d.skew f p n
    t.pathState f p = d.pathState f p ∧ t.get (fldInv f p) = d.get (fldInv f p) ∧ t.mf f = d.mf f ∧
      (∀ i, t.bitAt (Reg.MRG_FLOW_EVT f) i = d.bitAt (Reg.MRG_FLOW_EVT f) i) ∧ t.bitAt Reg.MRG_INT_STATUS 1 = d.bitAt Reg.MRG_INT_STATUS 1 := by
  obtain ⟨hregs, hmrg⟩ := d.skew_alone f p n
  obtain ⟨hstatus, hevt, hinv, hint⟩ := flowSkew_ne f
  exact ⟨hregs.get _ (by rwa [fldState_addr, List.mem_singleton]), hregs.get _ (by rwa [fldInv_addr, List.mem_singleton]),
    Dev.mf_congr hmrg f, fun i => RegsOut.bitAt hregs _ i (mt List.mem_singleton.mp hevt), RegsOut.bitAt hregs _ 1 (mt List.mem_singleton.mp hint)⟩

/-- A valid copy adds to the run of valid copies (Table 1). -/
def MergePathState.valid (v : MergePathState) : MergePathState := { v with run := v.run + 1, failed := none }

/-- An invalid copy ends the run (R240). -/
def MergePathState.invalid (v : MergePathState) (cause : Nat) : MergePathState := { v with run := 0, failed := some cause }

section
variable {d : Dev} {f : Nat} {p : MergePath} (hst : d.pathState f p = 1) (x : OduFrame)
include hst

/-- The 32nd valid copy in a row takes its path to OK. -/
theorem Dev.copyValid_ok (hrun : 31 ≤ ((d.mf f).path p).run) :
    d.copyValid f p x = ((d.setMfPath f p ((d.mf f).path p).valid).put (fldState f p) 2).mergeEvt f (2 + pathNum p) := by
  have hne : ¬ d.pathState f p = 2 := by omega
  exact (if_neg hne).trans (if_pos ⟨hst, Nat.succ_le_succ hrun⟩)

/-- A valid copy before the 32nd leaves its path acquiring. -/
theorem Dev.copyValid_more (hrun : ((d.mf f).path p).run < 31) : d.copyValid f p x = d.setMfPath f p ((d.mf f).path p).valid := by
  have hne : ¬ d.pathState f p = 2 := by omega
  have hless : ¬ (d.pathState f p = 1 ∧ 32 ≤ ((d.mf f).path p).run + 1) := by omega
  exact (if_neg hne).trans (if_neg hless)

end

theorem Dev.copyInvalid_eq (d : Dev) (f : Nat) (p : MergePath) (cause : Nat) :
    d.copyInvalid f p cause = (d.setMfPath f p (((d.mf f).path p).invalid cause)).incSat (fldInv f p) := rfl

theorem Dev.copyValid_ok_shows {d : Dev} {f : Nat} {p : MergePath} (hst : d.pathState f p = 1) (x : OduFrame)
    (hrun : 31 ≤ ((d.mf f).path p).run) (n : Nat) : let t := (d.copyValid f p x).skew f p n
    t.pathState f p = 2 ∧ t.bitAt (Reg.MRG_FLOW_EVT f) (2 + pathNum p) = true ∧ t.bitAt Reg.MRG_INT_STATUS 1 = true ∧
      ((t.mf f).path p).prev = ((d.mf f).path p).prev := by
  have hbit : 2 + pathNum p < 32 := by cases p <;> decide
  rw [Dev.copyValid_ok hst x hrun]
  set e := (d.setMfPath f p ((d.mf f).path p).valid).put (fldState f p) 2
  obtain ⟨hstate, -, hmf, hevt, hint⟩ := (e.mergeEvt f (2 + pathNum p)).skew_shows f p n
  obtain ⟨hset, hreport⟩ := e.mergeEvt_shows f hbit
  refine ⟨hstate.trans ?_, (hevt _).trans hset, hint.trans hreport, ?_⟩
  · exact (Dev.get_mergeEvt _ _ _ (fldState_addr f p ▸ flowStatus_ne_evt f)).trans (Dev.pathState_put _ f p (by decide))
  · rw [hmf, Dev.mf_congr (Dev.mergeEvt_mrg ..), Dev.mf_congr (Dev.put_mrg ..), Dev.path_setMfPath, MergePathState.valid]

theorem Dev.copyValid_more_shows {d : Dev} {f : Nat} {p : MergePath} (hst : d.pathState f p = 1) (x : OduFrame)
    (hrun : ((d.mf f).path p).run < 31) (n : Nat) : let t := (d.copyValid f p x).skew f p n
    t.pathState f p = 1 ∧ ((t.mf f).path p).run = ((d.mf f).path p).run + 1 ∧ ((t.mf f).path p).prev = ((d.mf f).path p).prev := by
  obtain ⟨hstate, -, hmf, -⟩ := (d.copyValid f p x).skew_shows f p n
  rw [Dev.copyValid_more hst x hrun] at hstate hmf ⊢
  dsimp only
  rw [hmf, Dev.path_setMfPath]
  exact ⟨hstate.trans hst, rfl, rfl⟩

theorem Dev.copyInvalid_shows {d : Dev} {f : Nat} {p : MergePath} (hst : d.pathState f p = 1) (c n : Nat) :
    let t := (d.copyInvalid f p c).skew f p n
    t.pathState f p = 1 ∧ ((t.mf f).path p).run = 0 ∧ ((t.mf f).path p).failed = some c ∧
      t.get (fldInv f p) = min (d.get (fldInv f p) + 1) 0xFFFF := by
  have hne : (fldState f p).addr ≠ (fldInv f p).addr := by
    rw [fldState_addr, fldInv_addr]
    unfold Reg.MRG_FLOW_STATUS Reg.MRG_FLOW_INV_CNT
    omega
  obtain ⟨hstate, hinv, hmf, -⟩ := (d.copyInvalid f p c).skew_shows f p n
  rw [Dev.copyInvalid_eq] at hstate hinv hmf ⊢
  dsimp only
  rw [hmf, hinv, Dev.mf_congr (Dev.incSat_mrg ..), Dev.path_setMfPath]
  refine ⟨hstate.trans ((Dev.get_put_elsewhere _ _ hne).trans hst), rfl, rfl, ?_⟩
  cases p <;> exact Dev.get_incSat_self _ _ 1 (Fld.ok_of _ rfl rfl)

/-! ### Slots (R247) -/

theorem exec_mergeSlot {s : State} (h : Working 7 s) (f : Fin 1280) :
    exec (.mergeSlot f) s = .next (s.onDev (Dev.mergeSlot f)) := runMrg_runs h.1 h.2

/-- FLOW_OUTSQ is none of the registers that show a slot. -/
theorem outSq_ne (f : Nat) : Reg.MRG_FLOW_STATUS f ≠ Reg.MRG_FLOW_OUTSQ f ∧ Reg.MRG_FLOW_MISS_CNT f ≠ Reg.MRG_FLOW_OUTSQ f ∧
    Reg.MRG_FLOW_EVT f ≠ Reg.MRG_FLOW_OUTSQ f := by
  unfold Reg.MRG_FLOW_STATUS Reg.MRG_FLOW_MISS_CNT Reg.MRG_FLOW_EVT Reg.MRG_FLOW_OUTSQ; omega

/-- What MRG.SEL sends at a slot of flow f. -/
def Dev.selSends (d : Dev) (f : Nat) (o : SelOut) : Dev := d.setMf f { d.mf f with sel := some o }

/-- The slot of number n is over: the held copy of that number is let go, and the next number follows. -/
def Dev.slotOver (d : Dev) (w : FlowDecl) (n : Nat) : Dev :=
  ((d.setMf w.flow { d.mf w.flow with held := (d.mf w.flow).held.filter (fun h => h.sq != n) }).nextSlot w).setReg
    (Reg.MRG_FLOW_OUTSQ w.flow) (BitVec.ofNat 32 ((n + 1) % 2 ^ 32))

/-- What a slot that is over leaves: what it sent, and no held copy of its number. -/
theorem Dev.slotOver_shows (d : Dev) {w : FlowDecl} {f : Nat} (hf : w.flow = f) (n : Nat) : let t := d.slotOver w n
    (t.mf f).sel = (d.mf f).sel ∧ (∀ e ∈ (t.mf f).held, e.sq ≠ n) ∧
      t.reg (Reg.MRG_FLOW_OUTSQ f) = BitVec.ofNat 32 ((n + 1) % 2 ^ 32) ∧ t.arising = d.arising ∧
      RegsKept [Reg.MRG_FLOW_OUTSQ f] d t := by
  subst hf
  have hflow : (d.slotOver w n).mf w.flow = _ := (Dev.mf_congr (Dev.setReg_mrg ..) w.flow).trans (Dev.mf_setMf ..)
  rw [Dev.mf_setMf] at hflow
  dsimp only
  rw [hflow]
  refine ⟨rfl, fun e he => ?_, Dev.reg_setReg_self .., rfl, ((RegsKept.refl _ d).same rfl).setReg _ _ List.mem_cons_self⟩
  simpa using (List.mem_filter.mp he).2

section
variable {d : Dev} {w : FlowDecl} {f : Nat} (hw : d.protectedFlow f = some w) (hr : d.regionRuns 3 = true) (hrelay : d.relay f = false)
include hw hr hrelay

theorem Dev.mergeSlot_unanchored (ha : d.anchored f = false) : d.mergeSlot f = d.selSends f .ais := by
  simp [Dev.mergeSlot, Dev.selSends, hw, hr, hrelay, ha]

theorem Dev.mergeSlot_missed (ha : d.anchored f = true) (hn : (d.mf f).held.find? (fun h => h.sq == d.nOut f) = none) :
    d.mergeSlot f = (d.slotMiss f).slotOver w (d.nOut f) := by
  simp [Dev.mergeSlot, Dev.slotOver, hw, hr, hrelay, ha, hn, Dev.flow_of_protectedFlow hw]

/-- The held copy h of N_out is sent, and the merge-buffer queue may release its pages. -/
theorem Dev.mergeSlot_served {h : HeldFrame} (ha : d.anchored f = true) (hreset : d.inReset 9 = false)
    (hh : (d.mf f).held.find? (fun h => h.sq == d.nOut f) = some h) :
    ∃ e, KeepsMrg ((d.selSends f (.frame h.frame)).put (Fld.MRG_FLOW_STATUS.SERVING f) h.path) e ∧
      d.mergeSlot f = e.slotOver w (d.nOut f) := by
  have hgo : ¬ (d.relay f || !d.regionRuns 3) = true := by rw [hrelay, hr]; decide
  have hanchored : ¬ (!d.anchored f) = true := by rw [ha]; decide
  obtain rfl := Dev.flow_of_protectedFlow hw
  unfold Dev.mergeSlot
  rw [hw]
  dsimp only
  rw [if_neg hgo, if_neg hanchored, hh, hreset]
  dsimp only
  refine ⟨_, ?_, rfl⟩
  split
  · exact (KeepsMrg.refl _).moveHead _ _
  · exact .refl _

end

theorem Dev.slotMiss_kept (d : Dev) (f : Nat) :
    RegsKept [Reg.MRG_FLOW_MISS_CNT f, Reg.MRG_FLOW_EVT f, Reg.MRG_INT_STATUS] d (d.slotMiss f) := by
  have hcount := (RegsKept.ofRegs (l := [Reg.MRG_FLOW_MISS_CNT f, Reg.MRG_FLOW_EVT f, Reg.MRG_INT_STATUS]) (e := d.selSends f .ais)
    rfl).incSat (Fld.MRG_FLOW_MISS_CNT.SLOTS f) List.mem_cons_self
  exact (hcount.mergeEvt f 4 (by simp) (by simp)).raise 226

/-- A slot without a copy sends ODU-AIS, and counts. -/
theorem Dev.slotMiss_shows (d : Dev) (f : Nat) : let t := d.slotMiss f
    (t.mf f).sel = some .ais ∧ Arising 226 t ∧ t.bitAt (Reg.MRG_FLOW_EVT f) 4 = true ∧
      t.get (Fld.MRG_FLOW_MISS_CNT.SLOTS f) = min (d.get (Fld.MRG_FLOW_MISS_CNT.SLOTS f) + 1) (2 ^ 32 - 1) := by
  have hne : (Fld.MRG_FLOW_MISS_CNT.SLOTS f).addr ≠ Reg.MRG_FLOW_EVT f ∧ (Fld.MRG_FLOW_MISS_CNT.SLOTS f).addr ≠ Reg.MRG_INT_STATUS := by
    change Reg.MRG_FLOW_MISS_CNT f ≠ _ ∧ Reg.MRG_FLOW_MISS_CNT f ≠ _
    unfold Reg.MRG_FLOW_MISS_CNT Reg.MRG_FLOW_EVT Reg.MRG_INT_STATUS
    omega
  refine ⟨?_, Dev.raise_arises _ _, ?_, ?_⟩
  · rw [Dev.slotMiss, Dev.mf_congr (Dev.raise_mrg ..), Dev.mf_congr (Dev.mergeEvt_mrg ..), Dev.mf_congr (Dev.incSat_mrg ..), Dev.mf_setMf]
  · rw [Dev.slotMiss, Dev.raise_bitAt]
    exact (Dev.mergeEvt_shows _ f (by decide)).1
  · rw [Dev.slotMiss, Dev.raise_get, Dev.get_mergeEvt _ _ _ hne]
    exact Dev.get_incSat_self _ _ 1 (Fld.ok_of _ rfl rfl)

/-! ### O32 -/

/-- Settles O32: numbering by what a numbered frame leaves, copies by what a valid and an invalid one show, slots by what a missed and a
served one show before their number is over. -/
theorem copiesAreNumberedCheckedAndServed : Obligations.CopiesAreNumberedCheckedAndServed := by
  refine ⟨fun s f x hwork hr => ⟨fun hw => ?unprotected, fun hw hrelay => ?numbered, fun hw hrelay => ?relayed⟩,
    fun s f p x u w hwork hr hw hj hrelay hheld hst => ⟨fun hvalid hrun => ?ok, fun hvalid hrun => ?acquiring, fun c hc => ?invalid⟩,
    fun s f hwork hr hw hrelay => ?slots⟩
  case unprotected => rw [exec_mergeDup hwork, Dev.mergeDup_unprotected x hw]
  case numbered =>
    refine ⟨_, exec_mergeDup hwork f x, ?_⟩
    rw [Dev.mergeDup_eq x hw hr, hrelay, if_neg (by decide)]
    have hnext := ofNat_succ_word (s.dev.reg (Reg.MRG_FLOW_TXSQ f))
    refine ⟨(Dev.reg_sendsNumbered ..).trans hnext, (Dev.dup_sendsNumbered ..).trans ?_, .ofDev (s.dev.sendsNumbered_kept f x _)⟩
    rw [← hnext, BitVec.toNat_ofNat, Nat.mod_mod]
  case relayed =>
    refine ⟨_, exec_mergeDup hwork f x, ?_⟩
    rw [Dev.mergeDup_eq x hw hr, hrelay, if_pos rfl]
    exact ⟨Dev.dup_sendsNumbered .., .ofDev (s.dev.sendsNumbered_kept f x _)⟩
  case ok =>
    have hpath := s.dev.path_copyReceived f p x
    obtain ⟨hstate, hevt, hint, hprev⟩ := Dev.copyValid_ok_shows (d := s.dev.copyReceived f p x) hst x (by rw [hpath]; exact hrun) (oduSq x)
    refine ⟨_, exec_mergeCopy hwork f p x u, ?_⟩
    rw [Dev.pathState, State.onDev_get, State.onDev_bitAt, State.onDev_bitAt, State.onDev_mf, Dev.mergeCopy_eq hw hr hj hrelay hheld, hvalid]
    exact ⟨hstate, hevt, hint, hprev.trans (by rw [hpath, MergePathState.received])⟩
  case acquiring =>
    have hpath := s.dev.path_copyReceived f p x
    obtain ⟨hstate, hmore, hprev⟩ := Dev.copyValid_more_shows (d := s.dev.copyReceived f p x) hst x (by rw [hpath]; exact hrun) (oduSq x)
    refine ⟨_, exec_mergeCopy hwork f p x u, ?_⟩
    rw [Dev.pathState, State.onDev_get, State.onDev_mf, Dev.mergeCopy_eq hw hr hj hrelay hheld, hvalid]
    exact ⟨hstate, hmore.trans (by rw [hpath, MergePathState.received]), hprev.trans (by rw [hpath, MergePathState.received])⟩
  case invalid =>
    obtain ⟨hstate, hrun, hfailed, hcount⟩ := Dev.copyInvalid_shows (d := s.dev.copyReceived f p x) hst c (oduSq x)
    refine ⟨_, exec_mergeCopy hwork f p x u, ?_⟩
    rw [Dev.pathState, State.onDev_get, State.onDev_get, State.onDev_mf, Dev.mergeCopy_eq hw hr hj hrelay hheld, hc]
    exact ⟨hstate, hrun, hfailed, hcount⟩
  case slots =>
    obtain ⟨w, hw⟩ := Option.isSome_iff_exists.mp hw
    have hflow : w.flow = f := Dev.flow_of_protectedFlow hw
    have hnext := ofNat_succ_word (s.dev.reg (Reg.MRG_FLOW_OUTSQ f))
    obtain ⟨hstatus, hmiss, hevtReg⟩ := outSq_ne f
    refine ⟨fun ha => ⟨_, exec_mergeSlot hwork f, ?unanchored⟩, fun ha hn => ⟨_, exec_mergeSlot hwork f, ?missed⟩,
      fun h ha hreset hh => ⟨_, exec_mergeSlot hwork f, ?served⟩⟩
    case unanchored =>
      have heq := Dev.mergeSlot_unanchored hw hr hrelay ha
      refine ⟨?_, .onDev (by rw [heq]; exact .ofRegs rfl)⟩
      rw [State.onDev_mf, heq, Dev.selSends, Dev.mf_setMf]
    case missed =>
      have heq := Dev.mergeSlot_missed hw hr hrelay ha hn
      obtain ⟨hais, hcause, hevt, hcount⟩ := s.dev.slotMiss_shows f
      obtain ⟨hsel, -, hout, harising, hover⟩ := (s.dev.slotMiss f).slotOver_shows hflow (s.dev.nOut f)
      have hkept : RegsKept [Reg.MRG_FLOW_OUTSQ f, Reg.MRG_FLOW_MISS_CNT f, Reg.MRG_FLOW_EVT f, Reg.MRG_INT_STATUS] s.dev
          ((s.dev.slotMiss f).slotOver w (s.dev.nOut f)) := ((s.dev.slotMiss_kept f).mono (by simp)).trans (hover.mono (by simp))
      rw [← heq] at hsel hout harising hover hkept
      refine ⟨hsel.trans hais, ?_, hout.trans hnext, ?_, ?_, .onDev hkept⟩
      · rw [Arising, State.onDev_arising, harising]
        exact hcause
      · rw [State.onDev_get, hover.get _ (mt List.mem_singleton.mp hmiss), hcount]
      · rw [State.onDev_bitAt, RegsOut.bitAt hover _ 4 (mt List.mem_singleton.mp hevtReg), hevt]
    case served =>
      obtain ⟨e, hkeeps, heq⟩ := Dev.mergeSlot_served hw hr hrelay ha hreset hh
      obtain ⟨hsel, hheld, hout, -, hover⟩ := e.slotOver_shows hflow (s.dev.nOut f)
      rw [← heq] at hsel hheld hout hover
      refine ⟨hsel.trans ?_, hout.trans hnext, ?_, hheld⟩
      · rw [Dev.mf_congr hkeeps.mrg, Dev.mf_congr (Dev.put_mrg ..), Dev.selSends, Dev.mf_setMf]
      · rw [State.onDev_get, hover.get _ (mt List.mem_singleton.mp hstatus), hkeeps.regs.get _ (flowReg_below f.isLt (o := 0x8) (by decide))]
        exact Dev.get_put_self _ _ _ (Fld.ok_of _ rfl rfl)

end Sys2Proof.Machine
end

section
/-! States of paths, anchors and heartbeats (R242 to R245, R249). -/

namespace Sys2Proof.Machine

/-! ### What follows a change of a path (R246, R252) -/

theorem fldCause_addr (f : Nat) (p : MergePath) : (fldCause f p).addr = Reg.MRG_FLOW_STATUS f := by cases p <;> rfl

theorem fldClass_addr (f : Nat) (p : MergePath) : (fldClass f p).addr = Reg.MRG_FLOW_STATUS f := by cases p <;> rfl

/-- FLOW_STATUS and FLOW_EVT are none of the registers that the causes of the block write. -/
theorem flowShown_ne_checked (f : Nat) : ∀ a, a = Reg.MRG_FLOW_STATUS f ∨ a = Reg.MRG_FLOW_EVT f →
    a ≠ Reg.MRG_STATUS ∧ ∀ i, a ≠ Reg.MRG_FLOW_DMAX i := by
  unfold Reg.MRG_FLOW_STATUS Reg.MRG_FLOW_EVT Reg.MRG_STATUS Reg.MRG_FLOW_DMAX
  exact fun a ha => ⟨by omega, fun i => by omega⟩

theorem Dev.dropHeld_regs (d : Dev) (f : Nat) : RegsOut BelowRms d (d.dropHeld f) :=
  ((RegsOut.refl _ d).same rfl).trans (d.dropHeld_keeps f).regs

/-- Fields of FLOW_STATUS other than ANCHORED do not depend on the anchor. -/
theorem Dev.get_anchorCheck (d : Dev) (f : Fin 1280) {g : Fld} (hg : g.addr = Reg.MRG_FLOW_STATUS f)
    (hapart : (Fld.MRG_FLOW_STATUS.ANCHORED f).apart g = true) : (d.anchorCheck f).get g = d.get g := by
  unfold Dev.anchorCheck
  split
  · rfl
  · rw [(Dev.dropHeld_regs _ f).get g (hg ▸ flowReg_below f.isLt (o := 0x8) (by decide)), Dev.dropAnchor, Dev.get_setReg,
      if_neg (hg ▸ (outSq_ne f).1), Dev.get_put_apart _ _ hapart]

theorem Dev.reg_evt_anchorCheck (d : Dev) (f : Fin 1280) : (d.anchorCheck f).reg (Reg.MRG_FLOW_EVT f) = d.reg (Reg.MRG_FLOW_EVT f) := by
  unfold Dev.anchorCheck
  split
  · rfl
  · have hbelow : BelowRms (Reg.MRG_FLOW_EVT f) := flowReg_below f.isLt (o := 0x20) (by decide)
    rw [Dev.dropHeld_regs _ f _ hbelow, Dev.dropAnchor, Dev.reg_setReg_ne _ _ (outSq_ne f).2.2,
      Dev.reg_put_ne _ _ _ (flowStatus_ne_evt f).1.symm]

/-- STATE, CAUSE and CLASS of path p of flow f are as given. -/
structure PathShows (f : Nat) (p : MergePath) (st cause cls : Nat) (d : Dev) : Prop where
  state : d.pathState f p = st
  cause : d.get (fldCause f p) = cause
  cls : d.get (fldClass f p) = cls

/-- What a path shows, and the events of its flow, outlast the checks that follow a change of a path. -/
theorem Dev.pathChecks_keep (d : Dev) (f : Fin 1280) (p : MergePath) : let t := (d.anchorCheck f).mrgCheck
    PathShows f p (d.pathState f p) (d.get (fldCause f p)) (d.get (fldClass f p)) t ∧
      ∀ i, t.bitAt (Reg.MRG_FLOW_EVT f) i = d.bitAt (Reg.MRG_FLOW_EVT f) i := by
  have hcheck := (RegsOut.refl _ (d.anchorCheck f)).mrgCheck (flowShown_ne_checked f)
  refine ⟨⟨(hcheck.get _ (.inl (fldState_addr f p))).trans ?_, (hcheck.get _ (.inl (fldCause_addr f p))).trans ?_,
    (hcheck.get _ (.inl (fldClass_addr f p))).trans ?_⟩, fun i => (hcheck.bitAt _ i (.inr rfl)).trans ?_⟩
  · exact d.get_anchorCheck f (fldState_addr f p) (by cases p <;> rfl)
  · exact d.get_anchorCheck f (fldCause_addr f p) (by cases p <;> rfl)
  · exact d.get_anchorCheck f (fldClass_addr f p) (by cases p <;> rfl)
  · rw [Dev.bitAt, d.reg_evt_anchorCheck f, Dev.bitAt]

/-! ### A path changes its state (R242 to R244) -/

/-- STATE, CAUSE and CLASS of a path are written. -/
def Dev.showPath (d : Dev) (f : Nat) (p : MergePath) (st cause cls : Nat) : Dev :=
  ((d.put (fldState f p) st).put (fldCause f p) cause).put (fldClass f p) cls

/-- The device on which the run of valid copies of a path begins anew. -/
def Dev.restartRun (d : Dev) (f : Nat) (p : MergePath) : Dev := d.setMfPath f p { (d.mf f).path p with run := 0, failed := none }

theorem Dev.pathFail_eq (d : Dev) (f : Nat) (p : MergePath) (cause : Nat) :
    d.pathFail f p cause = ((((d.showPath f p 3 cause 0).restartRun f p).mergeEvt f (pathNum p)).anchorCheck f).mrgCheck := rfl

theorem Dev.pathTo_eq (d : Dev) (f : Nat) (p : MergePath) (st : Nat) :
    d.pathTo f p st = (((d.showPath f p st 0 0).restartRun f p).anchorCheck f).mrgCheck := rfl

theorem Dev.showPath_shows (d : Dev) (f : Nat) (p : MergePath) (st cause cls : Nat) :
    PathShows f p (st % 4) (cause % 4) (cls % 4) (d.showPath f p st cause cls) := by
  unfold Dev.showPath
  cases p <;> refine ⟨?_, ?_, Dev.get_put_self _ _ _ (Fld.ok_of _ rfl rfl)⟩
  · exact (Dev.get_put_apart _ _ rfl).trans ((Dev.get_put_apart _ _ rfl).trans (Dev.get_put_self _ _ _ (Fld.ok_of _ rfl rfl)))
  · exact (Dev.get_put_apart _ _ rfl).trans (Dev.get_put_self _ _ _ (Fld.ok_of _ rfl rfl))
  · exact (Dev.get_put_apart _ _ rfl).trans ((Dev.get_put_apart _ _ rfl).trans (Dev.get_put_self _ _ _ (Fld.ok_of _ rfl rfl)))
  · exact (Dev.get_put_apart _ _ rfl).trans (Dev.get_put_self _ _ _ (Fld.ok_of _ rfl rfl))

theorem PathShows.restartRun {f : Nat} {p : MergePath} {st cause cls : Nat} {d : Dev} (h : PathShows f p st cause cls d) :
    PathShows f p st cause cls (d.restartRun f p) := ⟨h.state, h.cause, h.cls⟩

theorem PathShows.mergeEvt {f : Nat} {p : MergePath} {st cause cls : Nat} {d : Dev} (h : PathShows f p st cause cls d) (i : Nat) :
    PathShows f p st cause cls (d.mergeEvt f i) :=
  ⟨(Dev.get_mergeEvt d f i (fldState_addr f p ▸ flowStatus_ne_evt f)).trans h.state,
    (Dev.get_mergeEvt d f i (fldCause_addr f p ▸ flowStatus_ne_evt f)).trans h.cause,
    (Dev.get_mergeEvt d f i (fldClass_addr f p ▸ flowStatus_ne_evt f)).trans h.cls⟩

theorem PathShows.checks {f : Fin 1280} {p : MergePath} {st cause cls : Nat} {d : Dev} (h : PathShows f p st cause cls d) :
    PathShows f p st cause cls (d.anchorCheck f).mrgCheck := by
  obtain ⟨rfl, rfl, rfl⟩ := h
  exact (d.pathChecks_keep f p).1

/-- A path that fails shows FAILED with its cause, and reports it. -/
theorem Dev.pathFail_shows (d : Dev) (f : Fin 1280) (p : MergePath) (cause : Nat) :
    PathShows f p 3 (cause % 4) 0 (d.pathFail f p cause) ∧ (d.pathFail f p cause).bitAt (Reg.MRG_FLOW_EVT f) (pathNum p) = true := by
  rw [Dev.pathFail_eq]
  refine ⟨((d.showPath_shows f p 3 cause 0).restartRun.mergeEvt _).checks, ((Dev.pathChecks_keep _ f p).2 _).trans ?_⟩
  exact (Dev.mergeEvt_shows _ f (by cases p <;> decide)).1

/-- A path that enters another state shows it, without cause and class. -/
theorem Dev.pathTo_shows (d : Dev) (f : Fin 1280) (p : MergePath) {st : Nat} (hst : st < 4) : PathShows f p st 0 0 (d.pathTo f p st) := by
  have hshow := (d.showPath_shows f p st 0 0).restartRun.checks
  rwa [Nat.mod_eq_of_lt hst, ← Dev.pathTo_eq] at hshow

theorem PathShows.onDev {f : Nat} {p : MergePath} {st cause cls : Nat} {s : State} {g : Dev → Dev} (h : PathShows f p st cause cls (g s.dev)) :
    PathShows f p st cause cls (s.onDev g).dev := ⟨h.state, h.cause, h.cls⟩

theorem exec_pathTimeout {s : State} (h : Working 7 s) (f : Fin 1280) (p : MergePath) :
    exec (.pathTimeout f p) s = .next (s.onDev (Dev.pathTimeout f p)) := runMrg_runs h.1 h.2

theorem exec_pathSignalFail {s : State} (h : Working 7 s) (f : Fin 1280) (p : MergePath) :
    exec (.pathSignalFail f p) s = .next (s.onDev (Dev.pathSignalFail f p)) := runMrg_runs h.1 h.2

theorem exec_pathSignalClear {s : State} (h : Working 7 s) (f : Fin 1280) (p : MergePath) :
    exec (.pathSignalClear f p) s = .next (s.onDev (Dev.pathSignalClear f p)) := runMrg_runs h.1 h.2

/-- The cause of a path that times out (R244). -/
def Dev.timeoutCause (d : Dev) (f : Fin 1280) (p : MergePath) : Nat := if d.signalFail f p then 1 else (((d.mf f).path p).failed).getD 1

section
variable {d : Dev} {f : Fin 1280} {p : MergePath}

theorem Dev.pathTimeout_idle (h : d.pathState f p ≠ 2) : d.pathTimeout f p = d := if_neg h

theorem Dev.pathTimeout_eq (h : d.pathState f p = 2) : d.pathTimeout f p = d.pathFail f p (d.timeoutCause f p) := if_pos h

theorem Dev.pathSignalFail_eq (h : d.pathState f p = 1 ∨ d.pathState f p = 2) (hs : d.signalFail f p = true) :
    d.pathSignalFail f p = d.pathFail f p 1 := if_pos ⟨h, hs⟩

theorem Dev.pathSignalClear_eq (h : d.pathState f p = 3) (hs : d.signalFail f p = false) (ha : d.forceAllows f p = true) :
    d.pathSignalClear f p = d.pathTo f p 1 := if_pos ⟨h, by rw [hs]; rfl, ha⟩

theorem Dev.timeoutCause_mod : d.timeoutCause f p % 4 = if d.signalFail f p then 1 else (((d.mf f).path p).failed).getD 1 % 4 := by
  unfold Dev.timeoutCause
  split <;> rfl

end

/-! ### Anchors (R245) -/

theorem exec_anchor {s : State} (h : Working 7 s) (f : Fin 1280) :
    exec (.anchor f) s = .next { s with dev := s.dev.anchorBoth f } := runBlock_runs (f := Dev.anchorBoth f) h.1 h.2

theorem exec_anchorTimeout {s : State} (h : Working 7 s) (f : Fin 1280) :
    exec (.anchorTimeout f) s = .next { s with dev := s.dev.anchorOne f } := runBlock_runs (f := Dev.anchorOne f) h.1 h.2

/-- The registers of an anchor that forms. -/
abbrev anchorRegs (f : Nat) : List Nat := [Reg.MRG_FLOW_STATUS f, Reg.MRG_FLOW_OUTSQ f, Reg.MRG_FLOW_EVT f, Reg.MRG_INT_STATUS]

/-- The output of flow f is anchored at number n, with its slot at a tick. -/
def Dev.anchorAt (d : Dev) (f n slot : Nat) : Dev :=
  (((d.setMf f { d.mf f with slotTick := slot, slotFrac := 0, anchoredOnce := true }).put (Fld.MRG_FLOW_STATUS.ANCHORED f) 1).setReg
    (Reg.MRG_FLOW_OUTSQ f) (BitVec.ofNat 32 n)).mergeEvt f 5

/-- What an anchor at number n with its slot at a tick shows. -/
structure AnchorShows (f n slot : Nat) (d t : Dev) : Prop where
  anchored : t.anchored f = true
  number : t.reg (Reg.MRG_FLOW_OUTSQ f) = BitVec.ofNat 32 n
  slot : (t.mf f).slotTick = slot
  event : t.bitAt (Reg.MRG_FLOW_EVT f) 5 = true
  kept : RegsKept (anchorRegs f) d t

theorem Dev.anchorAt_shows (d : Dev) (f n slot : Nat) : AnchorShows f n slot d (d.anchorAt f n slot) := by
  have hout : Reg.MRG_FLOW_OUTSQ f ≠ Reg.MRG_INT_STATUS := by unfold Reg.MRG_FLOW_OUTSQ Reg.MRG_INT_STATUS; omega
  obtain ⟨hstatus, -, hevt⟩ := outSq_ne f
  have hkept : RegsKept (anchorRegs f) d (d.setMf f { d.mf f with slotTick := slot, slotFrac := 0, anchoredOnce := true }) := .ofRegs rfl
  refine ⟨?_, ?_, ?_, (Dev.mergeEvt_shows _ f (by decide)).1, ?_⟩
  · have hflag : (d.anchorAt f n slot).get (Fld.MRG_FLOW_STATUS.ANCHORED f) = 1 := (Dev.get_mergeEvt _ _ _ (flowStatus_ne_evt f)).trans
      ((Dev.get_setReg ..).trans ((if_neg hstatus).trans (Dev.get_put_self _ _ _ (Fld.ok_of _ rfl rfl))))
    rw [Dev.anchored, Dev.isSet, hflag]
    rfl
  · exact (((RegsOut.refl (· = Reg.MRG_FLOW_OUTSQ f) _).mergeEvt f 5 fun _ ha => ha ▸ ⟨hevt.symm, hout⟩) _ rfl).trans (Dev.reg_setReg_self ..)
  · rw [Dev.anchorAt, Dev.mf_congr (Dev.mergeEvt_mrg ..), Dev.mf_congr (Dev.setReg_mrg ..), Dev.mf_congr (Dev.put_mrg ..), Dev.mf_setMf]
  · exact ((hkept.put _ _ (by simp [Fld.MRG_FLOW_STATUS.ANCHORED])).setReg _ _ (by simp)).mergeEvt f 5 (by simp) (by simp)

/-- The causes on their way do not show in an anchor. -/
theorem AnchorShows.raise {f n slot : Nat} {d t : Dev} (h : AnchorShows f n slot d t) (i : Nat) : AnchorShows f n slot d (t.raise i) where
  anchored := by rw [Dev.anchored, Dev.isSet, Dev.raise_get]; exact h.anchored
  number := (Dev.raise_reg ..).trans h.number
  slot := by rw [Dev.mf_congr (Dev.raise_mrg ..), h.slot]
  event := (Dev.raise_bitAt ..).trans h.event
  kept := h.kept.raise i

section
variable {d : Dev} {f : Nat} {w : FlowDecl} {h : HeldFrame} (hw : d.protectedFlow f = some w) (hh : earliest (d.mf f).held = some h)
  (hrelay : d.relay f = false) (hmax : d.delayMaxBits w ≠ 0)
include hw hh hrelay hmax

theorem Dev.formAnchor_eq : d.formAnchor f = if (d.mf f).anchoredOnce = true then (d.anchorAt f h.sq (h.tick + d.delayTicks w)).raise 230
    else d.anchorAt f h.sq (h.tick + d.delayTicks w) := by
  have hgo : ¬ (d.relay f = true ∨ d.delayMaxBits w = 0) := by simp [hrelay, hmax]
  unfold Dev.formAnchor
  rw [hw, hh]
  exact if_neg hgo

/-- An anchor that forms again since the commit raises MRG.06. -/
theorem Dev.formAnchor_shows : AnchorShows f h.sq (h.tick + d.delayTicks w) d (d.formAnchor f) ∧
    ((d.mf f).anchoredOnce = true → Arising 230 (d.formAnchor f)) := by
  have hshow := d.anchorAt_shows f h.sq (h.tick + d.delayTicks w)
  rw [Dev.formAnchor_eq hw hh hrelay hmax]
  split
  · exact ⟨hshow.raise 230, fun _ => Dev.raise_arises _ _⟩
  · exact ⟨hshow, fun honce => absurd honce ‹_›⟩

end

theorem Dev.anchorBoth_eq {d : Dev} {f : Nat} (hp : d.pathState f .pathW = 2) (hq : d.pathState f .pathP = 2) (ha : d.anchored f = false) :
    d.anchorBoth f = d.formAnchor f := if_pos ⟨hp, hq, by rw [ha]; rfl⟩

theorem Dev.anchorOne_eq {d : Dev} {f : Nat} (hok : d.someOk f = true) (ha : d.anchored f = false) :
    d.anchorOne f = d.formAnchor f := if_pos ⟨hok, by rw [ha]; rfl⟩

/-! ### REALIGN (R245) -/

theorem exec_realign {s : State} {req : Requester} (h : Writable req 7 s) (f : Fin 1280) :
    exec (.realign req f) s = .next { s with dev := s.dev.mergeRealign f } := runWrite_runs (f := Dev.mergeRealign f) h.1 h.2

theorem Dev.mergeRealign_unprotected {d : Dev} {f : Nat} (h : d.protectedFlow f = none) : d.mergeRealign f = d := by simp [Dev.mergeRealign, h]

theorem Dev.mergeRealign_eq {d : Dev} {f : Nat} (h : (d.protectedFlow f).isSome = true) :
    d.mergeRealign f = d.put (Fld.MRG_FLOW_CTL.REALIGN f) 1 := if_neg (by rw [Option.isNone_eq_false_iff.mpr h]; decide)

/-! ### Heartbeats (R249) -/

theorem exec_heartbeatLoss {s : State} (h : Working 7 s) (src : HbSource) :
    exec (.heartbeatLoss src) s = .next { s with dev := s.dev.heartbeatLoss src } := runBlock_runs (f := Dev.heartbeatLoss src) h.1 h.2

theorem exec_pathClassTimeout {s : State} (h : Working 7 s) (f : Fin 1280) (p : MergePath) :
    exec (.pathClassTimeout f p) s = .next { s with dev := s.dev.pathClass f p } := runBlock_runs (f := Dev.pathClass f p) h.1 h.2

/-- The heartbeat flag of a line port. -/
def fldHb (x : Port) : Fld := if x = 0 then Fld.MRG_STATUS.HB_A else Fld.MRG_STATUS.HB_B

theorem fldHb_portA : fldHb 0 = Fld.MRG_STATUS.HB_A := rfl

theorem fldHb_portB : fldHb 1 = Fld.MRG_STATUS.HB_B := rfl

theorem fldHb_addr (x : Port) : (fldHb x).addr = Reg.MRG_STATUS := by unfold fldHb; split <;> rfl

theorem Dev.setHb_port (d : Dev) (x : Port) : d.setHb (.port x) false =
    if d.isSet (fldHb x) = false then d else (d.put (fldHb x) (bit false)).setInt intMRG 0 := rfl

/-- A port's heartbeat that ends clears its flag, and is reported where the flag was set. -/
theorem Dev.setHb_port_shows (d : Dev) (x : Port) : let t := d.setHb (.port x) false
    t.get (fldHb x) = 0 ∧ (d.get (fldHb x) = 1 → t.bitAt Reg.MRG_INT_STATUS 0 = true) := by
  have hbit : (fldHb x).ok ∧ (fldHb x).hi = (fldHb x).lo := by unfold fldHb; split <;> exact ⟨Fld.ok_of _ rfl rfl, rfl⟩
  have hint : (fldHb x).addr ≠ intMRG.status := by rw [fldHb_addr]; decide
  rw [Dev.setHb_port]
  split
  · rename_i hclear
    have hzero : d.get (fldHb x) = 0 := by simpa [Dev.isSet] using hclear
    exact ⟨hzero, fun hset => by omega⟩
  · exact ⟨(Dev.get_setInt_ne _ _ _ hint).trans (Dev.get_put_bit _ _ false hbit.1 hbit.2), fun _ => Dev.bitAt_setInt_self _ intMRG (by decide)⟩

/-- A failed path whose heartbeat is absent takes CLASS LINE. -/
def Dev.classAbsent (d : Dev) (f : Nat) (p : MergePath) : Dev :=
  if d.pathState f p = 3 ∧ d.get (fldClass f p) = 0 ∧ !d.hbPresent f p then d.put (fldClass f p) 1 else d

/-- Every failed path whose heartbeat is absent takes CLASS LINE. -/
def Dev.classAllAbsent (d : Dev) : Dev :=
  d.protectedFlows.foldl (fun d w => (d.classAbsent w.flow .pathW).classAbsent w.flow .pathP) d

theorem Dev.classLine_eq (d : Dev) : d.classLine = d.classAllAbsent.mrgCheck := rfl

theorem Dev.classAllAbsent_onlyRegs (d : Dev) : OnlyRegs d d.classAllAbsent :=
  .foldl _ (fun d _ => OnlyRegs.trans (.ite (.put d _ _) (.refl d)) (.ite (.put _ _ _) (.refl _))) _ d

theorem RegsOut.classAbsent {q : Nat → Prop} {d e : Dev} (h : RegsOut q d e) (f : Nat) (p : MergePath)
    (hq : ∀ a, q a → a ≠ Reg.MRG_FLOW_STATUS f) : RegsOut q d (e.classAbsent f p) :=
  .ite (h.put _ _ fun a ha => (fldClass_addr f p).symm ▸ hq a ha) h

theorem Dev.classAllAbsent_regs (d : Dev) : RegsOut (fun a => ∀ i, a ≠ Reg.MRG_FLOW_STATUS i) d d.classAllAbsent :=
  .foldl _ _ (fun _ w _ h => (h.classAbsent _ _ fun _ ha => ha w.flow).classAbsent _ _ fun _ ha => ha w.flow) (.refl _ d)

/-- Fields of MRG_STATUS other than SLOTS do not depend on the causes of the block. -/
theorem Dev.get_mrgCheck_status (d : Dev) {g : Fld} (hg : g.addr = Reg.MRG_STATUS) (hapart : Fld.MRG_STATUS.SLOTS.apart g = true) :
    d.mrgCheck.get g = d.get g := by
  have hdmax : ∀ i, g.addr ≠ Reg.MRG_FLOW_DMAX i := by rw [hg]; unfold Reg.MRG_STATUS Reg.MRG_FLOW_DMAX; omega
  unfold Dev.mrgCheck
  dsimp only
  rw [Dev.causeIs_get, Dev.causeIs_get, Dev.causeIs_get, Dev.causeIs_get, Dev.causeIs_get, Dev.get_put_apart _ _ hapart]
  exact (RegsOut.foldl (p := (· = g.addr)) _ _ (fun _ w _ h => h.put _ _ fun _ ha => ha ▸ hdmax w.flow) (.refl _ d)).get g rfl

theorem Dev.mrgCheck_mrg (d : Dev) : d.mrgCheck.mrg = d.mrg := by
  have honly := OnlyRegs.foldl (fun d (w : FlowDecl) => d.put (Fld.MRG_FLOW_DMAX.DMAX w.flow) (d.delayMaxUs w)) (fun d _ => .put d _ _)
    d.protectedFlows d
  unfold Dev.mrgCheck
  dsimp only
  rw [Dev.causeIs_mrg, Dev.causeIs_mrg, Dev.causeIs_mrg, Dev.causeIs_mrg, Dev.causeIs_mrg, Dev.put_mrg, honly]

/-- The flags of heartbeats outlast the classes that follow them. -/
theorem Dev.classLine_shows (d : Dev) : d.classLine.mrg = d.mrg ∧ (∀ x, d.classLine.get (fldHb x) = d.get (fldHb x)) ∧
    d.classLine.bitAt Reg.MRG_INT_STATUS 0 = d.bitAt Reg.MRG_INT_STATUS 0 := by
  have hregs := d.classAllAbsent_regs
  have hstatus : ∀ i, Reg.MRG_STATUS ≠ Reg.MRG_FLOW_STATUS i := by unfold Reg.MRG_STATUS Reg.MRG_FLOW_STATUS; omega
  have hint : ∀ i, Reg.MRG_INT_STATUS ≠ Reg.MRG_FLOW_STATUS i := by unfold Reg.MRG_INT_STATUS Reg.MRG_FLOW_STATUS; omega
  have hdmax : ∀ i, Reg.MRG_INT_STATUS ≠ Reg.MRG_FLOW_DMAX i := by unfold Reg.MRG_INT_STATUS Reg.MRG_FLOW_DMAX; omega
  have hcheck := (RegsOut.refl (· = Reg.MRG_INT_STATUS) d.classAllAbsent).mrgCheck fun _ ha => ha ▸ ⟨by decide, hdmax⟩
  rw [Dev.classLine_eq]
  refine ⟨?_, fun x => ?_, (hcheck.bitAt _ 0 rfl).trans (hregs.bitAt _ 0 hint)⟩
  · rw [Dev.mrgCheck_mrg, d.classAllAbsent_onlyRegs]
  · have hapart : Fld.MRG_STATUS.SLOTS.apart (fldHb x) = true := by unfold fldHb; split <;> rfl
    exact (Dev.get_mrgCheck_status _ (fldHb_addr x) hapart).trans (hregs.get _ (fldHb_addr x ▸ hstatus))

/-- The loss of a port's heartbeat clears the port's flag, and is reported where the flag was set. -/
theorem heartbeatLoss_port_answers {s : State} (h : Working 7 s) (x : Port) :
    ∃ t, exec (.heartbeatLoss (.port x)) s = .next t ∧ t.dev.get (fldHb x) = 0 ∧ SameMemory s t ∧
      (s.dev.get (fldHb x) = 1 → t.dev.bitAt Reg.MRG_INT_STATUS 0 = true) := by
  obtain ⟨hclear, hreport⟩ := s.dev.setHb_port_shows x
  obtain ⟨-, hflag, hint⟩ := (s.dev.setHb (.port x) false).classLine_shows
  refine ⟨_, exec_heartbeatLoss h _, ?_⟩
  dsimp only
  exact ⟨(hflag x).trans hclear, ⟨rfl, rfl, rfl⟩, fun hset => hint.trans (hreport hset)⟩

/-- The heartbeat of a Horug link is lost (R466). -/
theorem Dev.heartbeatLoss_link_shows (d : Dev) (k : Fin 2) : k.val ∉ (d.heartbeatLoss (.link k)).mrg.chnHb := by
  have hgone : k.val ∉ d.mrg.chnHb.filter (fun j => j != k.val) := by simp
  rw [Dev.heartbeatLoss, (Dev.classLine_shows _).1]
  exact hgone

/-- A failed path's class follows its heartbeat. -/
theorem Dev.pathClass_shows {d : Dev} {f : Fin 1280} {p : MergePath} (hst : d.pathState f p = 3) (hc : d.get (fldClass f p) = 0) :
    let t := d.pathClass f p
    t.pathState f p = 3 ∧ t.get (fldClass f p) = if d.hbPresent f p then 2 else 1 := by
  have hgo : d.pathClass f p = (d.put (fldClass f p) (if d.hbPresent f p then 2 else 1)).mrgCheck := if_pos ⟨hst, hc⟩
  have hcheck := (RegsOut.refl _ (d.put (fldClass f p) (if d.hbPresent f p then 2 else 1))).mrgCheck (flowShown_ne_checked f)
  have hapart : (fldClass f p).apart (fldState f p) = true := by cases p <;> rfl
  have hwrite : (d.put (fldClass f p) (if d.hbPresent f p then 2 else 1)).get (fldClass f p) =
      (if d.hbPresent f p then 2 else 1) % 4 := by cases p <;> exact Dev.get_put_self _ _ _ (Fld.ok_of _ rfl rfl)
  rw [hgo]
  refine ⟨(hcheck.get _ (.inl (fldState_addr f p))).trans ((Dev.get_put_apart _ _ hapart).trans hst),
    (hcheck.get _ (.inl (fldClass_addr f p))).trans (hwrite.trans ?_)⟩
  split <;> rfl

/-! ### O33 -/

/-- Settles O33: paths by what they show after a change and its checks, anchors by what an anchor shows, heartbeats by what outlasts the
classes that follow them. -/
theorem pathsFailRecoverAndAnchor : Obligations.PathsFailRecoverAndAnchor := by
  refine ⟨fun s f p hwork => ⟨fun hst => ?stays, fun hst => ?timesOut⟩, fun s f p hwork hs hst => ?signalFails,
    fun s f p hwork hs ha hst => ?recovers,
    fun s f w h hwork hw hh hrelay hmax ha => ⟨fun hp hq => ?bothAnchor, fun hok => ?oneAnchors⟩,
    fun s req f hwrite => ⟨fun hw => ?unprotected, fun hw => ?realigns⟩, fun s hwork => ⟨?heartbeatA, ?heartbeatB, fun k => ?heartbeatLink⟩,
    fun s f p hwork hst hc => ?classed⟩
  case stays =>
    refine ⟨_, exec_pathTimeout hwork f p, .onDev ?_⟩
    rw [Dev.pathTimeout_idle hst]
    exact .refl _ _
  case timesOut =>
    have hfail := s.dev.pathFail_shows f p (s.dev.timeoutCause f p)
    rw [Dev.timeoutCause_mod, ← Dev.pathTimeout_eq hst] at hfail
    obtain ⟨hstate, hcause, hcls⟩ := hfail.1.onDev
    exact ⟨_, exec_pathTimeout hwork f p, hstate, hcause, hcls, hfail.2⟩
  case signalFails =>
    have hfail := s.dev.pathFail_shows f p 1
    rw [← Dev.pathSignalFail_eq hst hs] at hfail
    obtain ⟨hstate, hcause, hcls⟩ := hfail.1.onDev
    exact ⟨_, exec_pathSignalFail hwork f p, hstate, hcause, hcls, hfail.2⟩
  case recovers =>
    have hback := s.dev.pathTo_shows f p (st := 1) (by decide)
    rw [← Dev.pathSignalClear_eq hst hs ha] at hback
    obtain ⟨hstate, hcause, hcls⟩ := hback.onDev
    exact ⟨_, exec_pathSignalClear hwork f p, hstate, hcause, hcls⟩
  case bothAnchor =>
    obtain ⟨hshow, hagain⟩ := Dev.formAnchor_shows hw hh hrelay hmax
    refine ⟨_, exec_anchor hwork f, ?_⟩
    rw [Dev.anchorBoth_eq hp hq ha]
    exact ⟨hshow.anchored, hshow.number, hshow.slot, hshow.event, hagain, .ofDev hshow.kept⟩
  case oneAnchors =>
    obtain ⟨hshow, -⟩ := Dev.formAnchor_shows hw hh hrelay hmax
    refine ⟨_, exec_anchorTimeout hwork f, ?_⟩
    rw [Dev.anchorOne_eq hok ha]
    exact ⟨hshow.anchored, hshow.number, hshow.slot, hshow.event, .ofDev hshow.kept⟩
  case unprotected => rw [exec_realign hwrite, Dev.mergeRealign_unprotected hw]
  case realigns =>
    refine ⟨_, exec_realign hwrite f, ?_⟩
    rw [Dev.mergeRealign_eq hw]
    exact ⟨Dev.get_put_self _ _ _ (Fld.ok_of _ rfl rfl), .ofDev ((RegsKept.refl _ _).put _ _ List.mem_cons_self)⟩
  case heartbeatA => simpa only [fldHb_portA] using heartbeatLoss_port_answers hwork 0
  case heartbeatB => simpa only [fldHb_portB] using heartbeatLoss_port_answers hwork 1
  case heartbeatLink =>
    refine ⟨_, exec_heartbeatLoss hwork _, ?_⟩
    dsimp only
    exact ⟨s.dev.heartbeatLoss_link_shows k, rfl, rfl, rfl⟩
  case classed =>
    obtain ⟨hstate, hcls⟩ := Dev.pathClass_shows hst hc
    exact ⟨_, exec_pathClassTimeout hwork f p, ⟨rfl, rfl, rfl⟩, hstate, hcls⟩

end Sys2Proof.Machine
end

section
/-! Refutation: a STREAM frame that is accepted on a spill lane stores its data in HBM (R282, R321). -/

namespace Sys2Proof.Machine

/-- A STREAM frame of queue 5 that carries one byte. -/
def streamByte : TsuFrame := { kind := 1, first := true, last := true, queue := 5, len := 1, seq := 3, data := [1] }

/-- Lane 0 is a spill lane in UP with FRAME_LOCK; queue 5 of its group receives STREAM frames, and its first page is resident. -/
def receivingStream : State :=
  let d : Dev := { State.reset.dev with rms := { State.reset.dev.rms with
    queues := [(5, { region := 3, pages := [{ lpage := 0, phys := 7 }] })] } }
  let d := (d.setReg Reg.STR_ACTIVE 0xFF).put (Fld.HST_OCTET_CTL.EN 0) 1
  let d := ((d.put (Fld.HST_LANE_CTL.ROLE 0) 2).put (Fld.HST_LANE_STATUS.STATE 0) 3).put (Fld.HST_TSU_STATUS.FRAME_LOCK 0) 1
  let d := ((d.put (Fld.RMS_Q_DESC0.TYPE 5) 2).put (Fld.RMS_Q_DESC0.EN 5) 1).put (Fld.RMS_Q_DESC1.QUOTA 5) 4
  { State.reset with dev := d }

/-- HST works, the lane is in FRAME_LOCK. -/
theorem working_receivingStream :
    Working 8 receivingStream ∧ receivingStream.dev.get (Fld.HST_TSU_STATUS.FRAME_LOCK (0 : Fin 48)) = 1 := by decide +kernel

/-- The frame's bytes spell the frame. -/
theorem tsuParse_streamByte : tsuParse streamByte.bytes = streamByte := by decide +kernel

/-- A valid STREAM frame of a queue that takes it from the lane's group is accepted. -/
theorem State.tsucorRx_stream {l : Nat} {b : List Byte} {s : State} {f : TsuFrame} (hparse : tsuParse b = f) (hkind : f.kind = 1)
    (hcrc : tsuCrcOk b = true) (hlock : (s.dev.tsuSync l b).isSet (Fld.HST_TSU_STATUS.FRAME_LOCK l) = true)
    (htarget : (s.dev.tsuSync l b).streamTarget f.queue ((s.dev.tsuSync l b).laneGroup l) = true)
    (hrms : (s.dev.tsuSync l b).inReset 9 = false) :
    State.tsucorRx l b s = State.streamAccept f.queue (some l) f { s with dev := s.dev.tsuSync l b } := by
  subst hparse
  simp [State.tsucorRx, hlock, hcrc, hkind, htarget, hrms]

theorem exec_tsucorFrameRx {s : State} (h : Working 8 s) (l : Fin 48) (b : List Byte) :
    exec (.tsucorFrameRx l b) s = .next (State.tsucorRx l b s) := runBlockState_runs h.1 h.2

/-- The byte of the frame lands at the start of the queue's page. -/
theorem read_tsucorRx_streamByte : (State.tsucorRx 0 streamByte.bytes receivingStream).hbm.read (7 * pageBytes) = 1 := by
  rw [State.tsucorRx_stream tsuParse_streamByte rfl (tsuCrcOk_bytes _) (by decide +kernel) (by decide +kernel) (by decide +kernel)]
  decide +kernel

/-- Refutes O35: a frame received in FRAME_LOCK does not leave HBM as it was where it is a STREAM frame that its queue takes. -/
theorem not_clientsCheckersAndSpillLinks : ¬ Obligations.ClientsCheckersAndSpillLinks := by
  rintro ⟨-, -, -, -, -, -, -, hframe, -⟩
  obtain ⟨hwork, hlock⟩ := working_receivingStream
  obtain ⟨-, hinLock, -⟩ := hframe receivingStream 0 streamByte.bytes hwork
  obtain ⟨t, ht, ⟨hmem, -⟩, -⟩ := hinLock hlock
  obtain rfl : State.tsucorRx 0 streamByte.bytes receivingStream = t :=
    Host.Outcome.next.inj ((exec_tsucorFrameRx hwork 0 _).symm.trans ht)
  have hread := read_tsucorRx_streamByte
  rw [hmem] at hread
  exact absurd hread (by decide +kernel)

end Sys2Proof.Machine
end

section
/-! Host lanes (09_host_lanes.md): changes that write some fields alone, and what bringing block HST up to date leaves as it was. -/

namespace Sys2Proof.Machine

/-! ### Changes that write some fields of HST alone -/

/-- A whole word is a field of 32 bits. -/
theorem setBits_word (w x : Word) : setBits w 31 0 x.toNat = x := BitVec.eq_of_getLsbD_eq fun j hj => by
  rw [getLsbD_setBits (Nat.zero_le _), if_pos ⟨Nat.zero_le _, Nat.le_of_lt_succ hj⟩, Nat.sub_zero, BitVec.testBit_toNat, decide_eq_true hj,
    Bool.true_and]

theorem getBits_word (x : Word) : getBits x 31 0 = x.toNat := by rw [getBits, BitVec.ushiftRight_zero, Nat.mod_eq_of_lt x.isLt]

theorem Dev.put_word (d : Dev) (a : Nat) (x : Word) : d.put ⟨a, 31, 0⟩ x.toNat = d.setReg a x := by
  unfold Dev.put
  dsimp only
  rw [setBits_word]

theorem Dev.reg_eq_of_get {d e : Dev} {a : Nat} (h : e.get ⟨a, 31, 0⟩ = d.get ⟨a, 31, 0⟩) : e.reg a = d.reg a := by
  unfold Dev.get at h
  dsimp only at h
  rw [getBits_word, getBits_word] at h
  exact BitVec.eq_of_toNat_eq h

/-- Writing f leaves g: they stand in different registers, or share no bit. -/
def Fld.Beside (f g : Fld) : Prop := g.addr ≠ f.addr ∨ f.apart g = true

/-- e has the registers of d but for the fields that w names, and for interrupt bits of HST that it sets. -/
structure HstWrites (w : Fld → Prop) (d e : Dev) : Prop where
  noInts : ∀ f, w f → Reg.HST_INT_STATUS ≠ f.addr
  kept : ∀ g : Fld, g.addr ≠ Reg.HST_INT_STATUS → (∀ f, w f → f.Beside g) → e.get g = d.get g
  ints : ∀ i, d.bitAt Reg.HST_INT_STATUS i = true → e.bitAt Reg.HST_INT_STATUS i = true

namespace HstWrites

variable {w v : Fld → Prop} {d e f : Dev}

theorem refl (hw : ∀ f, w f → Reg.HST_INT_STATUS ≠ f.addr) (d : Dev) : HstWrites w d d := ⟨hw, fun _ _ _ => rfl, fun _ => id⟩

theorem trans (h : HstWrites w d e) (k : HstWrites w e f) : HstWrites w d f :=
  ⟨h.noInts, fun g hi hg => (k.kept g hi hg).trans (h.kept g hi hg), fun i hi => k.ints i (h.ints i hi)⟩

theorem mono (h : HstWrites w d e) (hv : ∀ f, v f → Reg.HST_INT_STATUS ≠ f.addr) (hwv : ∀ f, w f → v f) : HstWrites v d e :=
  ⟨hv, fun g hi hg => h.kept g hi fun f hf => hg f (hwv f hf), h.ints⟩

theorem same (h : HstWrites w d e) (hr : f.regs = e.regs) : HstWrites w d f := by
  have hreg : ∀ a, f.reg a = e.reg a := fun a => by rw [Dev.reg, hr, Dev.reg]
  exact ⟨h.noInts, fun g hi hg => by rw [Dev.get, hreg]; exact h.kept g hi hg, fun i hi => by rw [Dev.bitAt, hreg]; exact h.ints i hi⟩

theorem ite {c : Prop} {_ : Decidable c} (he : HstWrites w d e) (hf : HstWrites w d f) : HstWrites w d (if c then e else f) := by
  split <;> assumption

theorem forUpTo {n : Nat} {g : Dev → Nat → Dev} (h : HstWrites w d e) (hg : ∀ {e} i, i < n → HstWrites w d e → HstWrites w d (g e i)) :
    HstWrites w d (Dev.forUpTo n g e) := by
  have hlist : ∀ (l : List Nat), (∀ i ∈ l, i < n) → ∀ {e}, HstWrites w d e → HstWrites w d (l.foldl g e) := by
    intro l
    induction l with
    | nil => exact fun _ _ he => he
    | cons i l ih => exact fun hl _ he => ih (fun j hj => hl j (List.mem_cons_of_mem _ hj)) (hg i (hl i List.mem_cons_self) he)
  exact hlist _ (fun i hi => List.mem_range.mp hi) h

theorem put (h : HstWrites w d e) (f : Fld) (x : Nat) (hf : w f) : HstWrites w d (e.put f x) := by
  refine ⟨h.noInts, fun g hi hg => ?_, fun i hi => ?_⟩
  · obtain haddr | hapart := hg f hf
    · exact (Dev.get_put_elsewhere _ _ haddr).trans (h.kept g hi hg)
    · exact (Dev.get_put_apart _ _ hapart).trans (h.kept g hi hg)
  · exact (Dev.bitAt_put_ne _ _ _ _ _ (h.noInts f hf)).trans (h.ints i hi)

theorem incSat (h : HstWrites w d e) (f : Fld) (hf : w f) : HstWrites w d (e.incSat f) := h.put f _ hf

theorem setReg (h : HstWrites w d e) (a : Nat) (x : Word) (ha : w ⟨a, 31, 0⟩) : HstWrites w d (e.setReg a x) :=
  e.put_word a x ▸ h.put ⟨a, 31, 0⟩ _ ha

theorem setReg64 (h : HstWrites w d e) (a x : Nat) (hlo : w ⟨a, 31, 0⟩) (hhi : w ⟨a + 4, 31, 0⟩) : HstWrites w d (e.setReg64 a x) :=
  (h.setReg _ _ hlo).setReg _ _ hhi

theorem setInt (h : HstWrites w d e) (i : Nat) : HstWrites w d (e.setInt intHST i) := by
  refine ⟨h.noInts, fun g hi hg => (Dev.get_setInt_ne _ _ _ hi).trans (h.kept g hi hg), fun j hj => ?_⟩
  have hbit : (e.setInt intHST i).bitAt Reg.HST_INT_STATUS j = (e.setBit Reg.HST_INT_STATUS i).bitAt Reg.HST_INT_STATUS j := by
    unfold Dev.setInt
    dsimp only [intHST]
    split
    · exact Dev.sendMsix_bitAt ..
    · rfl
  rw [hbit, Dev.bitAt_setBit, h.ints j hj, Bool.true_or]

theorem isSet (h : HstWrites w d e) (g : Fld) (hi : g.addr ≠ Reg.HST_INT_STATUS) (hg : ∀ f, w f → f.Beside g) : e.isSet g = d.isSet g := by
  rw [Dev.isSet, h.kept g hi hg, Dev.isSet]

/-- A register none of whose fields is written. -/
theorem reg (h : HstWrites w d e) {a : Nat} (hi : a ≠ Reg.HST_INT_STATUS) (ha : ∀ f, w f → f.addr ≠ a) : e.reg a = d.reg a :=
  Dev.reg_eq_of_get (h.kept ⟨a, 31, 0⟩ hi fun f hf => .inl (ha f hf).symm)

theorem regsOut (h : HstWrites w d e) {p : Nat → Prop} (hp : ∀ a, p a → a ≠ Reg.HST_INT_STATUS ∧ ∀ f, w f → f.addr ≠ a) : RegsOut p d e :=
  fun a ha => h.reg (hp a ha).1 (hp a ha).2

end HstWrites

/-! ### Horug links and reference candidates leave HST alone (R425 to R429, R452 to R461) -/

/-- A key from the registers of RMS on. -/
def FromRms (a : Nat) : Prop := 0x900000 ≤ a

theorem FromRms.lit {a : Nat} (h : Nat.ble 0x900000 a = true) : FromRms a := Nat.le_of_ble_eq_true h

theorem FromRms.table {b : Nat} (h : Nat.ble 0x900000 b = true) (o : Nat) : FromRms (b + o) :=
  Nat.le_add_right_of_le (Nat.le_of_ble_eq_true h)

/-- e has the registers below block RMS, and the lanes of block HST, of d. -/
structure KeepsHst (d e : Dev) : Prop where
  regs : RegsOut BelowRms d e
  hst : e.hst = d.hst

namespace KeepsHst

theorem refl (d : Dev) : KeepsHst d d := ⟨.refl _ d, rfl⟩

theorem ite {d f g : Dev} {c : Prop} {_ : Decidable c} (hf : KeepsHst d f) (hg : KeepsHst d g) : KeepsHst d (if c then f else g) := by
  split <;> assumption

theorem foldl {α : Type} {d e : Dev} {f : Dev → α → Dev} {l : List α} (h : KeepsHst d e)
    (hf : ∀ {e} a, KeepsHst d e → KeepsHst d (f e a)) : KeepsHst d (l.foldl f e) := by
  induction l generalizing e with
  | nil => exact h
  | cons a l ih => exact ih (hf a h)

theorem forUpTo {d e : Dev} {n : Nat} {f : Dev → Nat → Dev} (h : KeepsHst d e) (hf : ∀ {e} i, KeepsHst d e → KeepsHst d (f e i)) :
    KeepsHst d (Dev.forUpTo n f e) := h.foldl hf

section
variable {d e : Dev} (h : KeepsHst d e)
include h

/-- A change of what is neither register nor lane. -/
theorem same {f : Dev} (hr : f.regs = e.regs := by rfl) (hh : f.hst = e.hst := by rfl) : KeepsHst d f := ⟨h.regs.same hr, hh.trans h.hst⟩

theorem setReg (a : Nat) (v : Word) (ha : FromRms a) : KeepsHst d (e.setReg a v) :=
  ⟨h.regs.setReg a v fun _ hb hba => Nat.not_lt_of_le ha (hba ▸ hb), h.hst⟩

theorem put (f : Fld) (v : Nat) (hf : FromRms f.addr) : KeepsHst d (e.put f v) := h.setReg _ _ hf

theorem setInt (b : IntBank) (i : Nat) (hb : FromRms b.status) : KeepsHst d (e.setInt b i) :=
  .ite (h.setReg _ _ hb).same (h.setReg _ _ hb)

theorem raise (f : Nat) : KeepsHst d (e.raise f) := ⟨h.regs.raise f, (e.raise_hst f).trans h.hst⟩

theorem causeIs (f : Nat) (b : Bool) : KeepsHst d (e.causeIs f b) := ⟨h.regs.causeIs f b, (e.causeIs_hst f b).trans h.hst⟩

/-! #### Reference candidates -/

theorem refreshRefs : KeepsHst d e.refreshRefs :=
  (h.forUpTo fun _ h => (h.put _ _ (.table rfl _)).put _ _ (.table rfl _)).causeIs _ _

theorem requalify (i : Nat) : KeepsHst d (e.requalify i) := by
  have hkey : FromRms (Reg.TIM_REF_STATUS i) := .table rfl _
  have hq := h.put (Fld.TIM_REF_STATUS.QUAL i) 1 hkey
  have hn := ((h.put (Fld.TIM_REF_STATUS.QUAL i) 0 hkey).put (Fld.TIM_REF_STATUS.WTR_RUN i) 0 hkey).put
    (Fld.TIM_REF_STATUS.WTR_LEFT i) 0 hkey
  exact .ite (.ite hq ((hq.same.put _ _ hkey).put _ _ hkey)) (.ite (.ite ((hn.raise _).put _ _ (.lit rfl)) hn) h)

theorem offerRef (i hz : Nat) : KeepsHst d (e.offerRef i hz) := h.put _ _ (.table rfl _)

theorem refInactive (i : Nat) : KeepsHst d (e.refInactive i) := by
  have hkey : FromRms (Reg.TIM_REF_STATUS i) := .table rfl _
  have hoff := ((h.put (Fld.TIM_REF_STATUS.ACT i) 0 hkey).put (Fld.TIM_REF_STATUS.FREQ_OK i) 0 hkey).put (Fld.TIM_REF_FO.FO i) 0
    (.table rfl _)
  exact (hoff.same.requalify i).refreshRefs

theorem withdrawRef (i : Nat) : KeepsHst d (e.withdrawRef i) := .ite ((h.offerRef i 0).refInactive i) (h.offerRef i 0)

/-! #### Event lines -/

theorem latchLines (l : List Nat) : KeepsHst d (e.latchLines l) := .ite h (h.foldl fun _ h => h.put _ _ (.table rfl _))

theorem assertEvent (c : Nat) : KeepsHst d (e.assertEvent c) := by
  refine .ite (h.latchLines _) (.ite h (.ite (h.latchLines _) ((h.latchLines _).foldl fun i h => ?_)))
  have hkey : FromRms (Reg.PRB_CNT_LO i) := .table rfl _
  exact (h.setReg _ _ hkey).setReg _ _ (Nat.le_add_right_of_le hkey)

end

/-- What the lines assert touches PRB alone. -/
theorem withLinesAt {d e : Dev} {f : Dev → Dev} (wait : Nat) (hf : KeepsHst d (f e)) : KeepsHst d (e.withLinesAt wait f) :=
  (((hf.forUpTo fun _ h => .ite h (.ite (h.same.assertEvent _) h.same)).forUpTo fun _ h =>
    .ite h (.ite (h.same.assertEvent _) h.same)).forUpTo fun _ h => .ite h h.same).forUpTo fun _ h => .ite h.same h

section
variable {d e : Dev} (h : KeepsHst d e)
include h

/-! #### Horug links -/

theorem unlearn (k : Nat) : KeepsHst d (e.unlearn k) := by
  unfold Dev.unlearn
  extract_lets gone d1
  have h1 : KeepsHst d d1 := h.foldl fun _ h => withLinesAt 0 h.same
  exact h1.same

theorem linkCheck (k : Nat) : KeepsHst d (e.linkCheck k) := by
  unfold Dev.linkCheck
  extract_lets up was run d1 d2 v d3 d4
  have hkey : FromRms (Reg.CHN_LINK_STATUS k) := .table rfl _
  have h1 : KeepsHst d d1 := (h.put _ _ hkey).put _ _ hkey
  have h2 : KeepsHst d d2 := .ite h1 (h1.setInt _ _ (.lit rfl))
  have h3 : KeepsHst d d3 := .ite h2.same h2
  have h4 : KeepsHst d d4 := .ite (h3.unlearn _) h3
  exact h4.causeIs _ _

theorem posCheck : KeepsHst d e.posCheck := by
  unfold Dev.posCheck
  extract_lets old d1 d2 d3 d4 d5
  have hkey : FromRms Reg.CHN_STATUS := .lit rfl
  have h1 : KeepsHst d d1 := by
    unfold d1
    split
    · exact .ite (h.put _ _ hkey) ((h.put _ _ hkey).put _ _ hkey)
    · exact h
  have h2 : KeepsHst d d2 := .ite (h1.put _ _ hkey) h1
  have h4 : KeepsHst d d4 := (h2.put _ _ hkey).put _ _ hkey
  have h5 : KeepsHst d d5 := .ite h4 (h4.setInt _ _ (.lit rfl))
  exact ((h5.causeIs _ _).causeIs _ _).causeIs _ _

theorem linksCheck : KeepsHst d e.linksCheck := by
  have hp := ((h.linkCheck 0).linkCheck 1).posCheck
  have hc : KeepsHst d ((e.linkCheck 0).linkCheck 1).posCheck.chainClock := .ite (hp.offerRef _ _) (.ite hp (hp.withdrawRef _))
  exact .ite hc hc.same

theorem octetClock (g : Nat) : KeepsHst d (e.octetClock g) := .ite (h.offerRef _ _) (.ite h (h.withdrawRef _))

end
end KeepsHst

/-! ### Bringing HST up to date (R256, R257, R259, R271, R284) -/

/-- What block HST shows of each client and of each lane. -/
def Dev.lanesShown (d : Dev) : Dev :=
  Dev.forUpTo 48 (fun d l => (d.put (Fld.HST_TSU_STATUS.MISMATCH l) (bit (d.groupExcludes l))).put (Fld.HST_LANE_STATUS.PRECODE_ACT l)
    (d.precodeAct l)) (Dev.forUpTo 48 Dev.clientCheck d)

/-- The links and clocks that follow the lanes. -/
def Dev.clocksChecked (d : Dev) : Dev := Dev.forUpTo 6 Dev.octetClock d.lanesShown.linksCheck

theorem Dev.clocksChecked_keeps (d : Dev) : KeepsHst d.lanesShown d.clocksChecked :=
  (KeepsHst.refl _).linksCheck.forUpTo fun _ h => h.octetClock _

/-- Only causes change once links and clocks are up to date. -/
theorem Dev.hstCheck_keeps (d : Dev) : KeepsHst d.lanesShown d.hstCheck := by
  have h := d.clocksChecked_keeps
  unfold Dev.hstCheck
  extract_lets d1 d2 d3 lanes d4 d5 d6 d7 d8
  exact (((((KeepsHst.causeIs h _ _).causeIs _ _).causeIs _ _).causeIs _ _).causeIs _ _).causeIs _ _

/-- The fields in which HST shows client and lane k. -/
def shownFields (k : Nat) : List Fld :=
  [Fld.HST_CLIENT_STATUS.CFG_ERR k, Fld.HST_CLIENT_STATUS.LANES_UP k, Fld.HST_CLIENT_STATUS.FAIL k, Fld.HST_TSU_STATUS.MISMATCH k,
    Fld.HST_LANE_STATUS.PRECODE_ACT k]

/-- A field in which HST shows a client or a lane. -/
def Shown (f : Fld) : Prop := ∃ k < 48, f ∈ shownFields k

theorem shownFields_addr {k : Nat} {f : Fld} (h : f ∈ shownFields k) :
    f.addr = Reg.HST_CLIENT_STATUS k ∨ f.addr = Reg.HST_TSU_STATUS k ∨ f.addr = Reg.HST_LANE_STATUS k := by
  simp only [shownFields, List.mem_cons, List.not_mem_nil, or_false] at h
  obtain rfl | rfl | rfl | rfl | rfl := h
  · exact .inl rfl
  · exact .inl rfl
  · exact .inl rfl
  · exact .inr (.inl rfl)
  · exact .inr (.inr rfl)

theorem shown_noInts (f : Fld) (h : Shown f) : Reg.HST_INT_STATUS ≠ f.addr := by
  obtain ⟨k, -, hk⟩ := h
  have hkey := shownFields_addr hk
  unfold Reg.HST_CLIENT_STATUS Reg.HST_TSU_STATUS Reg.HST_LANE_STATUS at hkey
  unfold Reg.HST_INT_STATUS
  omega

theorem HstWrites.clientCheck {d e : Dev} (h : HstWrites Shown d e) {c : Nat} (hc : c < 48) : HstWrites Shown d (e.clientCheck c) := by
  unfold Dev.clientCheck
  extract_lets on d1 d2 was now d3
  have h3 : HstWrites Shown d d3 :=
    ((h.put _ _ ⟨c, hc, by simp [shownFields]⟩).put _ _ ⟨c, hc, by simp [shownFields]⟩).put _ _ ⟨c, hc, by simp [shownFields]⟩
  exact .ite h3 (h3.setInt _)

theorem Dev.lanesShown_writes (d : Dev) : HstWrites Shown d d.lanesShown :=
  ((HstWrites.refl shown_noInts d).forUpTo fun _ hc h => h.clientCheck hc).forUpTo fun k hk h =>
    (h.put _ _ ⟨k, hk, by simp [shownFields]⟩).put _ _ ⟨k, hk, by simp [shownFields]⟩

@[simp] theorem Dev.clientCheck_hst (d : Dev) (c : Nat) : (d.clientCheck c).hst = d.hst := by
  unfold Dev.clientCheck
  extract_lets on d1 d2 was now d3
  have h3 : d3.hst = d.hst := rfl
  split
  · exact h3
  · exact (Dev.setInt_hst ..).trans h3

theorem Dev.forUpTo_hst {f : Dev → Nat → Dev} (hf : ∀ d i, (f d i).hst = d.hst) (n : Nat) (d : Dev) : (Dev.forUpTo n f d).hst = d.hst := by
  unfold Dev.forUpTo
  induction List.range n generalizing d with
  | nil => rfl
  | cons i l ih => exact (ih _).trans (hf d i)

@[simp] theorem Dev.lanesShown_hst (d : Dev) : d.lanesShown.hst = d.hst :=
  (Dev.forUpTo_hst (fun _ _ => rfl) 48 _).trans (Dev.forUpTo_hst Dev.clientCheck_hst 48 d)

@[simp] theorem Dev.hstCheck_hst (d : Dev) : d.hstCheck.hst = d.hst := d.hstCheck_keeps.hst.trans d.lanesShown_hst

@[simp] theorem Dev.hstCheck_hl (d : Dev) (l : Nat) : d.hstCheck.hl l = d.hl l := by rw [Dev.hl, Dev.hstCheck_hst, Dev.hl]

/-- The registers of HST in which nothing is shown of clients, lanes and interrupts. -/
def PlainKey (a : Nat) : Prop :=
  BelowRms a ∧ a ≠ Reg.HST_INT_STATUS ∧
    ∀ k < 48, a ≠ Reg.HST_CLIENT_STATUS k ∧ a ≠ Reg.HST_TSU_STATUS k ∧ a ≠ Reg.HST_LANE_STATUS k

/-- Links, clocks and causes leave the registers of HST as the clients and lanes are shown. -/
theorem KeepsHst.plain {d e : Dev} (h : KeepsHst d.lanesShown e) : RegsOut PlainKey d e := by
  refine (d.lanesShown_writes.regsOut fun a ha => ⟨ha.2.1, ?_⟩).trans fun a ha => h.regs a ha.1
  rintro f ⟨k, hk, hf⟩
  obtain ⟨hclient, htsu, hlane⟩ := ha.2.2 k hk
  obtain haddr | haddr | haddr := shownFields_addr hf
  · exact haddr ▸ hclient.symm
  · exact haddr ▸ htsu.symm
  · exact haddr ▸ hlane.symm

/-- A field of a lane's status other than PRECODE_ACT. -/
theorem Dev.hstCheck_status (d : Dev) {l : Nat} {g : Fld} (hl : l < 48) (haddr : g.addr = Reg.HST_LANE_STATUS l)
    (hg : (Fld.HST_LANE_STATUS.PRECODE_ACT l).apart g = true) : d.hstCheck.get g = d.get g := by
  have hbelow : BelowRms g.addr := by rw [haddr]; unfold BelowRms Reg.HST_LANE_STATUS; omega
  have hint : g.addr ≠ Reg.HST_INT_STATUS := by rw [haddr]; unfold Reg.HST_INT_STATUS Reg.HST_LANE_STATUS; omega
  refine (d.hstCheck_keeps.regs.get g hbelow).trans (d.lanesShown_writes.kept g hint ?_)
  rintro f ⟨k, hk, hf⟩
  simp only [shownFields, List.mem_cons, List.not_mem_nil, or_false] at hf
  have hclient : g.addr ≠ Reg.HST_CLIENT_STATUS k := by rw [haddr]; unfold Reg.HST_CLIENT_STATUS Reg.HST_LANE_STATUS; omega
  have htsu : g.addr ≠ Reg.HST_TSU_STATUS k := by rw [haddr]; unfold Reg.HST_TSU_STATUS Reg.HST_LANE_STATUS; omega
  obtain rfl | rfl | rfl | rfl | rfl := hf
  · exact .inl hclient
  · exact .inl hclient
  · exact .inl hclient
  · exact .inl htsu
  · exact .inr hg

theorem Dev.hstCheck_laneState (d : Dev) {l : Nat} (hl : l < 48) : d.hstCheck.laneState l = d.laneState l :=
  d.hstCheck_status (g := Fld.HST_LANE_STATUS.STATE l) hl rfl rfl

theorem Dev.hstCheck_int (d : Dev) {i : Nat} (h : d.bitAt Reg.HST_INT_STATUS i = true) : d.hstCheck.bitAt Reg.HST_INT_STATUS i = true :=
  (d.hstCheck_keeps.regs.bitAt _ i (by decide)).trans (d.lanesShown_writes.ints i h)

theorem Dev.hstCheck_arising (d : Dev) {f : Nat} (h : Arising f d) : Arising f d.hstCheck := ((KeepsStr.refl d).hstCheck).arising f h

end Sys2Proof.Machine
end

section
/-! Host lanes: what their roles, clients and states at rest follow from (R254 to R256, R265), and what of it is shown. -/

namespace Sys2Proof.Machine

/-! ### The registers that configure lanes -/

/-- The registers that give octets, lanes and clients their configuration, and the lock of the octets' PLLs. -/
def ConfigKey (a : Nat) : Prop :=
  a = Reg.STR_ACTIVE ∨ a = Reg.CHN_CTL ∨ a = Reg.HST_OCTET_STATUS ∨ (∃ g < 6, a = Reg.HST_OCTET_CTL g) ∨
    ∃ k < 48, a = Reg.HST_LANE_CTL k ∨ a = Reg.HST_LANE_PRBS_CTL k ∨ a = Reg.HST_CLIENT_CTL k

/-- e configures the lanes as d does. -/
def SameConfig (d e : Dev) : Prop := RegsOut ConfigKey d e

namespace SameConfig

variable {d e : Dev} (h : SameConfig d e)
include h

theorem regionActive (r : Nat) : e.regionActive r = d.regionActive r := RegsOut.bitAt h _ _ (.inl rfl)

theorem octetLocked (g : Nat) : e.octetLocked g = d.octetLocked g := RegsOut.bitAt h _ _ (.inr (.inr (.inl rfl)))

theorem octetField {g : Nat} (hg : g < 6) (f : Fld) (hf : f.addr = Reg.HST_OCTET_CTL g) : e.isSet f = d.isSet f := by
  rw [Dev.isSet, RegsOut.get h f (.inr (.inr (.inr (.inl ⟨g, hg, hf⟩)))), Dev.isSet]

theorem octetEn {g : Nat} (hg : g < 6) : e.octetEn g = d.octetEn g := h.octetField hg _ rfl

theorem octetHalf {g : Nat} (hg : g < 6) : e.octetHalf g = d.octetHalf g := h.octetField hg _ rfl

/-- A field of what configures lane or client k. -/
theorem field {k : Nat} (hk : k < 48) (f : Fld)
    (hf : f.addr = Reg.HST_LANE_CTL k ∨ f.addr = Reg.HST_LANE_PRBS_CTL k ∨ f.addr = Reg.HST_CLIENT_CTL k) : e.get f = d.get f :=
  RegsOut.get h f (.inr (.inr (.inr (.inr ⟨k, hk, hf⟩))))

theorem claimed (l : Nat) : e.claimed l = d.claimed l := by
  have hchn : ConfigKey Reg.CHN_CTL := .inr (.inl rfl)
  rw [Dev.claimed, h.regionActive, RegsOut.get h Fld.CHN_CTL.OCTET hchn, RegsOut.bitAt h _ _ hchn, Dev.claimed]

theorem laneGiven {l : Nat} (hl : l < 48) : e.laneGiven l = d.laneGiven l := by
  rw [Dev.laneGiven, h.claimed, h.regionActive, h.field hl (Fld.HST_LANE_CTL.ROLE l) (.inl rfl), Dev.laneGiven]

theorem laneRole {l : Nat} (hl : l < 48) : e.laneRole l = d.laneRole l := by
  rw [Dev.laneRole, h.octetEn (by omega), h.laneGiven hl, Dev.laneRole]

theorem clientType {c : Nat} (hc : c < 48) : e.clientType c = d.clientType c := h.field hc _ (.inr (.inr rfl))

theorem clientHas {c : Nat} (hc : c < 48) (l : Nat) : e.clientHas c l = d.clientHas c l := by
  rw [Dev.clientHas, Dev.clientW, h.clientType hc, h.octetHalf (by omega), Dev.clientHas, Dev.clientW]

theorem clientOf (l : Nat) : e.clientOf l = d.clientOf l :=
  List.find?_congr fun _ hc => h.clientHas (List.mem_range.mp hc) l

end SameConfig

theorem Dev.clientOf_some {d : Dev} {l c : Nat} (h : d.clientOf l = some c) : c < 48 ∧ d.clientHas c l = true :=
  ⟨List.mem_range.mp (List.mem_of_find?_eq_some h), List.find?_some (p := fun c => d.clientHas c l) h⟩

namespace SameConfig

variable {d e : Dev} (h : SameConfig d e)
include h

theorem trains {l : Nat} (hl : l < 48) : e.trains l = d.trains l := by
  rw [Dev.trains, Dev.trains, h.laneRole hl, h.clientOf]
  split
  · rfl
  · rfl
  · split
    next c hc =>
      obtain ⟨hc48, -⟩ := Dev.clientOf_some hc
      rw [h.clientType hc48, Dev.isSet, h.field hc48 _ (.inr (.inr rfl)), Dev.isSet]
    next => rfl
  · rfl

theorem trainsWith {l : Nat} (hl : l < 48) : e.trainsWith l = d.trainsWith l := by
  rw [Dev.trainsWith, Dev.trainsWith, h.laneRole hl, h.clientOf]
  split
  · split
    next c hc => exact List.filter_congr fun m _ => h.clientHas (Dev.clientOf_some hc).1 m
    next => rfl
  · rfl

theorem laneHome {l : Nat} (hl : l < 48) : e.laneHome l = d.laneHome l := by
  rw [Dev.laneHome, h.octetEn (by omega), h.laneRole hl, h.regionActive, Dev.isSet, Dev.isSet, h.field hl _ (.inr (.inl rfl)),
    h.field hl _ (.inr (.inl rfl)), Dev.laneHome, Dev.isSet, Dev.isSet]

theorem precodeAct {l : Nat} (hl : l < 48) (hpre : (e.hl l).precode = (d.hl l).precode) : e.precodeAct l = d.precodeAct l := by
  rw [Dev.precodeAct, h.laneRole hl, h.trains hl, hpre, h.field hl _ (.inl rfl), h.field hl _ (.inl rfl), Dev.precodeAct]

end SameConfig

/-- A lane trains with itself, and with each other lane once (R268). -/
theorem Dev.mem_trainsWith (d : Dev) {l : Nat} (hl : l < 48) : l ∈ d.trainsWith l := by
  unfold Dev.trainsWith
  split
  · split
    next c hc => exact List.mem_filter.mpr ⟨List.mem_range.mpr hl, (Dev.clientOf_some hc).2⟩
    next => exact List.mem_singleton_self l
  · exact List.mem_singleton_self l

theorem Dev.trainsWith_nodup (d : Dev) (l : Nat) : (d.trainsWith l).Nodup := by
  unfold Dev.trainsWith
  split
  · split
    · exact List.nodup_range.filter _
    · exact List.nodup_singleton l
  · exact List.nodup_singleton l

theorem Dev.lt_of_mem_trainsWith {d : Dev} {l m : Nat} (hl : l < 48) (h : m ∈ d.trainsWith l) : m < 48 := by
  unfold Dev.trainsWith at h
  split at h
  · split at h
    · exact List.mem_range.mp (List.mem_filter.mp h).1
    · exact List.mem_singleton.mp h ▸ hl
  · exact List.mem_singleton.mp h ▸ hl

/-- The state that a lane's role and octet give it at rest is OFF, LISTEN or TEST. -/
theorem Dev.laneHome_cases (d : Dev) (l : Nat) : d.laneHome l = 0 ∨ d.laneHome l = 1 ∨ d.laneHome l = 4 := by
  unfold Dev.laneHome
  split_ifs
  · exact .inl rfl
  · exact .inr (.inl rfl)
  · exact .inr (.inr rfl)
  · exact .inl rfl

/-! ### What is shown of the configuration -/

/-- Where the configuration stands. -/
theorem ConfigKey.ranges {a : Nat} (h : ConfigKey a) :
    a < 0x800000 ∨ 0x900000 ≤ a ∨ (0x800000 ≤ a ∧ a ≤ 0x800020) ∨ (0x810000 ≤ a ∧ a < 0x813000 ∧ (a % 0x100 = 0 ∨ a % 0x100 = 0x18)) ∨
      (0x820000 ≤ a ∧ a < 0x820C00 ∧ a % 0x40 = 0) := by
  unfold ConfigKey Reg.STR_ACTIVE Reg.CHN_CTL Reg.HST_OCTET_STATUS Reg.HST_OCTET_CTL Reg.HST_LANE_CTL Reg.HST_LANE_PRBS_CTL
    Reg.HST_CLIENT_CTL at h
  obtain rfl | rfl | rfl | ⟨g, hg, rfl⟩ | ⟨k, hk, rfl | rfl | rfl⟩ := h
  all_goals omega

theorem ConfigKey.noInts {a : Nat} (h : ConfigKey a) : a ≠ Reg.HST_INT_STATUS := by
  have hr := h.ranges
  unfold Reg.HST_INT_STATUS
  omega

theorem HstWrites.config {d e : Dev} (h : HstWrites Shown d e) : SameConfig d e := by
  refine h.regsOut fun a ha => ⟨ha.noInts, ?_⟩
  rintro f ⟨k, hk, hf⟩ rfl
  have hr := ha.ranges
  have haddr := shownFields_addr hf
  unfold Reg.HST_CLIENT_STATUS Reg.HST_TSU_STATUS Reg.HST_LANE_STATUS at haddr
  omega

/-- PRECODE_ACT of a lane is the precoding in use (R259). -/
theorem Dev.lanesShown_precode (d : Dev) {l : Nat} (hl : l < 48) :
    d.lanesShown.get (Fld.HST_LANE_STATUS.PRECODE_ACT l) = d.precodeAct l % 4 := by
  have hstep : ∀ (e : Dev) (k : Nat), k < 48 → HstWrites Shown e ((e.put (Fld.HST_TSU_STATUS.MISMATCH k) (bit (e.groupExcludes k))).put
      (Fld.HST_LANE_STATUS.PRECODE_ACT k) (e.precodeAct k)) := fun e k hk =>
    ((HstWrites.refl shown_noInts e).put _ _ ⟨k, hk, by simp [shownFields]⟩).put _ _ ⟨k, hk, by simp [shownFields]⟩
  have hshown := Dev.forUpTo_places (n := 48) (g := fun _ _ => True)
    (view := fun e k => e.get (Fld.HST_LANE_STATUS.PRECODE_ACT k) = e.precodeAct k % 4)
    (f := fun e k => (e.put (Fld.HST_TSU_STATUS.MISMATCH k) (bit (e.groupExcludes k))).put (Fld.HST_LANE_STATUS.PRECODE_ACT k)
      (e.precodeAct k))
    (fun e k hk => eq_true (by
      rw [(hstep e k hk).config.precodeAct hk rfl]
      exact Dev.get_put_self _ _ _ (Fld.ok_of _ rfl rfl)))
    (fun e k j hk hj hjk => by
      have hkeys : Reg.HST_LANE_STATUS j ≠ Reg.HST_LANE_STATUS k ∧ Reg.HST_LANE_STATUS j ≠ Reg.HST_TSU_STATUS k := by
        unfold Reg.HST_LANE_STATUS Reg.HST_TSU_STATUS
        omega
      have hget := (Dev.get_put_elsewhere (e.put (Fld.HST_TSU_STATUS.MISMATCH k) (bit (e.groupExcludes k))) (e.precodeAct k)
        (f := Fld.HST_LANE_STATUS.PRECODE_ACT k) (g := Fld.HST_LANE_STATUS.PRECODE_ACT j) hkeys.1).trans
        (Dev.get_put_elsewhere e (bit (e.groupExcludes k)) (f := Fld.HST_TSU_STATUS.MISMATCH k) hkeys.2)
      rw [hget, (hstep e k hk).config.precodeAct hj rfl])
    (Dev.forUpTo 48 Dev.clientCheck d) hl
  have hact : d.lanesShown.precodeAct l = d.precodeAct l :=
    d.lanesShown_writes.config.precodeAct hl (by rw [Dev.hl, Dev.lanesShown_hst, Dev.hl])
  exact hact ▸ of_eq_true hshown

theorem Dev.hstCheck_precode (d : Dev) {l : Nat} (hl : l < 48) :
    d.hstCheck.get (Fld.HST_LANE_STATUS.PRECODE_ACT l) = d.precodeAct l % 4 := by
  refine (d.hstCheck_keeps.regs.get _ ?_).trans (d.lanesShown_precode hl)
  unfold BelowRms Fld.HST_LANE_STATUS.PRECODE_ACT Reg.HST_LANE_STATUS
  dsimp only
  omega

/-! ### Registers of the configuration that bringing HST up to date leaves -/

/-- The registers of octets stand below those of lanes and clients. -/
theorem plainKey_octet {a : Nat} (h : a ≤ Reg.HST_OCTET_STATUS) : PlainKey a := by
  unfold Reg.HST_OCTET_STATUS at h
  unfold PlainKey BelowRms Reg.HST_INT_STATUS Reg.HST_CLIENT_STATUS Reg.HST_TSU_STATUS Reg.HST_LANE_STATUS
  refine ⟨?_, ?_, fun k _ => ?_⟩ <;> omega

/-- Of the registers of a lane, its status alone is shown. -/
theorem plainKey_lane (l : Nat) {o : Nat} (ho : o < 0x100) (hstatus : o ≠ 4) (hl : l < 48) : PlainKey (0x810000 + o + 0x100 * l) := by
  unfold PlainKey BelowRms Reg.HST_INT_STATUS Reg.HST_CLIENT_STATUS Reg.HST_TSU_STATUS Reg.HST_LANE_STATUS
  refine ⟨?_, ?_, fun k _ => ?_⟩ <;> omega

theorem plainKey_clientCtl {c : Nat} (hc : c < 48) : PlainKey (Reg.HST_CLIENT_CTL c) := by
  unfold PlainKey BelowRms Reg.HST_CLIENT_CTL Reg.HST_INT_STATUS Reg.HST_CLIENT_STATUS Reg.HST_TSU_STATUS Reg.HST_LANE_STATUS
  refine ⟨?_, ?_, fun k _ => ?_⟩ <;> omega

theorem octetCtl_le {g : Nat} (hg : g < 6) : Reg.HST_OCTET_CTL g ≤ Reg.HST_OCTET_STATUS := by
  unfold Reg.HST_OCTET_CTL Reg.HST_OCTET_STATUS
  omega

theorem Dev.hstCheck_octetLocked (d : Dev) (g : Nat) : d.hstCheck.octetLocked g = d.octetLocked g :=
  d.hstCheck_keeps.plain.bitAt _ _ (plainKey_octet (Nat.le_refl _))

/-- While the PLL of an enabled octet is not locked, HST.02 is present (R257). -/
theorem Dev.hstCheck_unlocked {d : Dev} {g : Nat} (hg : g < 6) (hen : d.octetEn g = true) (hun : d.octetLocked g = false) :
    Present 258 d.hstCheck := by
  have hkeep := d.clocksChecked_keeps
  unfold Dev.hstCheck
  extract_lets d1 d2 d3 lanes d4 d5 d6 d7 d8
  have h4 : RegsOut PlainKey d d4 := (KeepsHst.causeIs hkeep _ _).plain
  have hen4 : d4.octetEn g = true := by
    rw [Dev.octetEn, Dev.isSet, h4.get _ (plainKey_octet (octetCtl_le hg))]
    exact hen
  have hun4 : d4.octetLocked g = false := (h4.bitAt _ _ (plainKey_octet (Nat.le_refl _))).trans hun
  have hany : (List.range 6).any (fun g => d4.octetEn g && !d4.octetLocked g) = true :=
    List.any_eq_true.mpr ⟨g, List.mem_range.mpr hg, by rw [hen4, hun4]; rfl⟩
  have h5 : Present 258 d5 := (Dev.mem_causes_causeIs _ _ _ _).mpr (.inl ⟨rfl, hany⟩)
  have hother : ∀ (e : Dev) (f : Nat) (b : Bool), 258 ≠ f → Present 258 e → Present 258 (e.causeIs f b) :=
    fun e f b hf he => (Dev.mem_causes_causeIs _ _ _ _).mpr (.inr ⟨hf, he⟩)
  exact hother _ _ _ (by decide) (hother _ _ _ (by decide) (hother _ _ _ (by decide) (hother _ _ _ (by decide) h5)))

end Sys2Proof.Machine
end

section
/-! Host lanes: what a lane that takes a state shows, and what it leaves of itself and of the others (R254, R260, R265 to R269). -/

namespace Sys2Proof.Machine

/-! ### Lanes beside their registers -/

theorem Dev.hl_congr {d e : Dev} (h : e.hst = d.hst) (l : Nat) : e.hl l = d.hl l := by rw [Dev.hl, h, Dev.hl]

@[simp] theorem Dev.hl_setHl_self (d : Dev) (l : Nat) (v : LaneState) : (d.setHl l v).hl l = v := Sparse.get_put_self _ _ _ _

theorem Dev.hl_setHl_ne (d : Dev) {l m : Nat} (v : LaneState) (h : m ≠ l) : (d.setHl l v).hl m = d.hl m := Sparse.get_put_ne _ _ _ _ h

/-! ### Changes of one lane -/

/-- The fields that a lane writes as it takes a state, but for the state itself and LINK_DOWN. -/
def tailFields (l : Nat) : List Fld :=
  [Fld.HST_TSU_STATUS.FRAME_LOCK l, Fld.HST_TSU_STATUS.PARTNER l, Fld.HST_LANE_STATUS.PRBS_LOCK l, ⟨Reg.HST_LANE_BITS_LO l, 31, 0⟩,
    ⟨Reg.HST_LANE_BITS_LO l + 4, 31, 0⟩]

/-- The fields that a lane writes as it goes on from LISTEN. -/
def goFields (l : Nat) : List Fld :=
  [Fld.HST_LANE_RX_EQ.CTLE l, Fld.HST_LANE_STATUS.STATE l, Fld.HST_LANE_TRAIN_CNT.LINK_DOWN l] ++ tailFields l

/-- The fields that a lane writes before it returns to its state at rest. -/
def backFields (l : Nat) : List Fld := [Fld.HST_LANE_STATUS.CLAIMED l, Fld.HST_LANE_TRAIN_CNT.ABORT l]

/-- The fields that a lane writes in all. -/
def laneFields (l : Nat) : List Fld := backFields l ++ goFields l

/-- Where those fields stand. -/
def laneKeys (l : Nat) : List Nat :=
  [Reg.HST_LANE_STATUS l, Reg.HST_LANE_RX_EQ l, Reg.HST_LANE_BITS_LO l, Reg.HST_LANE_BITS_LO l + 4, Reg.HST_LANE_TRAIN_CNT l,
    Reg.HST_TSU_STATUS l]

theorem laneFields_addr {l : Nat} {f : Fld} (h : f ∈ laneFields l) : f.addr ∈ laneKeys l := by
  simp only [laneFields, backFields, goFields, tailFields, List.cons_append, List.nil_append, List.mem_cons, List.not_mem_nil, or_false] at h
  obtain rfl | rfl | rfl | rfl | rfl | rfl | rfl | rfl | rfl | rfl := h
  all_goals simp [laneKeys, Fld.HST_LANE_STATUS.CLAIMED, Fld.HST_LANE_TRAIN_CNT.ABORT, Fld.HST_LANE_RX_EQ.CTLE, Fld.HST_LANE_STATUS.STATE,
    Fld.HST_LANE_TRAIN_CNT.LINK_DOWN, Fld.HST_TSU_STATUS.FRAME_LOCK, Fld.HST_TSU_STATUS.PARTNER, Fld.HST_LANE_STATUS.PRBS_LOCK]

theorem tailFields_sub (l : Nat) : tailFields l ⊆ goFields l := List.subset_append_right _ _

theorem goFields_sub (l : Nat) : goFields l ⊆ laneFields l := List.subset_append_right _ _

theorem backFields_sub (l : Nat) : backFields l ⊆ laneFields l := List.subset_append_left _ _

theorem laneKeys_range {l a : Nat} (h : a ∈ laneKeys l) :
    (0x810000 + 0x100 * l + 4 ≤ a ∧ a ≤ 0x810000 + 0x100 * l + 0x30 ∧
      (a % 0x100 = 4 ∨ a % 0x100 = 8 ∨ a % 0x100 = 0x20 ∨ a % 0x100 = 0x24 ∨ a % 0x100 = 0x30)) ∨ a = 0x830000 + 0x40 * l := by
  simp only [laneKeys, List.mem_cons, List.not_mem_nil, or_false] at h
  unfold Reg.HST_LANE_STATUS Reg.HST_LANE_RX_EQ Reg.HST_LANE_BITS_LO Reg.HST_LANE_TRAIN_CNT Reg.HST_TSU_STATUS at h
  omega

theorem laneFields_noInts {l : Nat} (f : Fld) (h : f ∈ laneFields l) : Reg.HST_INT_STATUS ≠ f.addr := by
  have hr := laneKeys_range (laneFields_addr h)
  unfold Reg.HST_INT_STATUS
  omega

theorem goFields_noInts {l : Nat} (f : Fld) (h : f ∈ goFields l) : Reg.HST_INT_STATUS ≠ f.addr := laneFields_noInts f (goFields_sub l h)

theorem tailFields_noInts {l : Nat} (f : Fld) (h : f ∈ tailFields l) : Reg.HST_INT_STATUS ≠ f.addr := goFields_noInts f (tailFields_sub l h)

/-- e is d but for fields w of lane l, interrupt bits of HST that are set, and what lane l keeps beside its registers; of that k stays. -/
structure MovesLane {α : Type} (k : LaneState → α) (w : List Fld) (l : Nat) (d e : Dev) : Prop where
  writes : HstWrites (· ∈ w) d e
  own : k (e.hl l) = k (d.hl l)
  others : ∀ m, m ≠ l → e.hl m = d.hl m

/-- What a lane keeps of itself as it takes a state: whether it waits for its retry interval, and the precoding that training gave it. -/
def LaneState.lasting (v : LaneState) : Bool × Nat := (v.retry, v.precode)

namespace MovesLane

section
variable {α : Type} {k : LaneState → α} {w v : List Fld} {l : Nat} {d e f : Dev}

theorem refl (hw : ∀ f ∈ w, Reg.HST_INT_STATUS ≠ f.addr) (d : Dev) : MovesLane k w l d d := ⟨.refl hw d, rfl, fun _ _ => rfl⟩

theorem trans (h : MovesLane k w l d e) (h' : MovesLane k w l e f) : MovesLane k w l d f :=
  ⟨h.writes.trans h'.writes, h'.own.trans h.own, fun m hm => (h'.others m hm).trans (h.others m hm)⟩

theorem mono (h : MovesLane k w l d e) (hwv : w ⊆ v) (hv : ∀ f ∈ v, Reg.HST_INT_STATUS ≠ f.addr) : MovesLane k v l d e :=
  ⟨h.writes.mono hv fun _ hf => hwv hf, h.own, h.others⟩

theorem ite {c : Prop} {_ : Decidable c} (he : MovesLane k w l d e) (hf : MovesLane k w l d f) : MovesLane k w l d (if c then e else f) := by
  split <;> assumption

/-- What lane l keeps of itself does not matter. -/
theorem forget (h : MovesLane k w l d e) : MovesLane (fun _ => ()) w l d e := ⟨h.writes, rfl, h.others⟩

/-- A change that leaves the lanes beside their registers. -/
theorem step (h : MovesLane k w l d e) (hw : HstWrites (· ∈ w) d f) (hh : f.hst = e.hst) : MovesLane k w l d f :=
  ⟨hw, by rw [Dev.hl_congr hh]; exact h.own, fun m hm => (Dev.hl_congr hh m).trans (h.others m hm)⟩

theorem put (h : MovesLane k w l d e) (g : Fld) (x : Nat) (hg : g ∈ w) : MovesLane k w l d (e.put g x) := h.step (h.writes.put g x hg) rfl

theorem incSat (h : MovesLane k w l d e) (g : Fld) (hg : g ∈ w) : MovesLane k w l d (e.incSat g) := h.put g _ hg

theorem setReg64 (h : MovesLane k w l d e) (a x : Nat) (hlo : ⟨a, 31, 0⟩ ∈ w) (hhi : ⟨a + 4, 31, 0⟩ ∈ w) :
    MovesLane k w l d (e.setReg64 a x) := h.step (h.writes.setReg64 a x hlo hhi) rfl

theorem setInt (h : MovesLane k w l d e) (i : Nat) : MovesLane k w l d (e.setInt intHST i) := h.step (h.writes.setInt i) (Dev.setInt_hst ..)

theorem raise (h : MovesLane k w l d e) (i : Nat) : MovesLane k w l d (e.raise i) :=
  h.step (h.writes.same (Dev.raise_regs ..)) (Dev.raise_hst ..)

theorem setHl (h : MovesLane k w l d e) (x : LaneState) (hx : k x = k (e.hl l)) : MovesLane k w l d (e.setHl l x) :=
  ⟨h.writes.same rfl, by rw [Dev.hl_setHl_self, hx]; exact h.own, fun m hm => (Dev.hl_setHl_ne _ _ hm).trans (h.others m hm)⟩

end

section
variable {w : List Fld} {l : Nat} {d e : Dev} (h : MovesLane LaneState.lasting w l d e)
include h

theorem retry : (e.hl l).retry = (d.hl l).retry := congrArg Prod.fst h.own

theorem precode : (e.hl l).precode = (d.hl l).precode := congrArg Prod.snd h.own

theorem fillIdle : MovesLane LaneState.lasting w l d (e.fillIdle l) := by
  refine .ite h ?_
  have hset : MovesLane LaneState.lasting w l d (e.setHl l { e.hl l with
      txSeq := ((e.hl l).txSeq + e.idleFrames l) % 2 ^ 32, frames := (e.hl l).frames + e.idleFrames l,
      filledTo := (e.hl l).filledTo + e.idleFrames l * e.frameTime l }) := h.setHl _ rfl
  exact ⟨hset.writes.same rfl, hset.own, hset.others⟩

theorem holdEq (d0 : Dev) : MovesLane LaneState.lasting w l d (d0.holdEq l e) := h.setHl _ rfl

theorem setCtle (eq : Option LaneEq) (hw : Fld.HST_LANE_RX_EQ.CTLE l ∈ w) : MovesLane LaneState.lasting w l d (e.setCtle l eq) := by
  refine .ite h ?_
  split
  · exact (h.put _ _ hw).setHl _ rfl
  · exact h.setHl _ rfl

end

section
variable {l : Nat} {d e : Dev} (h : MovesLane LaneState.lasting (tailFields l) l d e)
include h

theorem partnerOff : MovesLane LaneState.lasting (tailFields l) l d (e.partnerOff l) :=
  .ite (((h.put _ _ (by simp [tailFields])).raise _).setInt _) h

theorem prbsEnd (bits : Nat) : MovesLane LaneState.lasting (tailFields l) l d (e.prbsEnd l bits) := by
  unfold Dev.prbsEnd
  dsimp only
  split
  · exact h
  · exact (h.setReg64 _ _ (by simp [tailFields]) (by simp [tailFields])).setHl _ rfl

end
end MovesLane

/-! ### A lane takes a state -/

/-- The lane as its STATE is written and the end of its link is counted (R254). -/
def Dev.stateTaken (d : Dev) (l st : Nat) : Dev :=
  if d.laneState l = 3 then (((d.fillIdle l).put (Fld.HST_LANE_STATUS.STATE l) st).incSat (Fld.HST_LANE_TRAIN_CNT.LINK_DOWN l)).setInt intHST 1
  else d.put (Fld.HST_LANE_STATUS.STATE l) st

theorem Dev.laneTo_same {d : Dev} {l st : Nat} (h : d.laneState l = st) : d.laneTo l st = d := if_pos h

/-- What follows as a lane takes another state. -/
theorem Dev.laneTo_tail {d : Dev} {l st : Nat} (h : d.laneState l ≠ st) :
    MovesLane LaneState.lasting (tailFields l) l (d.stateTaken l st) (d.laneTo l st) := by
  unfold Dev.laneTo
  extract_lets old d0 d1 d2 d3 d4 v d5 d6
  have h3 : MovesLane LaneState.lasting (tailFields l) l (d.stateTaken l st) d3 := by
    by_cases hup : d.laneState l = 3
    · have htaken : d.stateTaken l st = (d2.incSat (Fld.HST_LANE_TRAIN_CNT.LINK_DOWN l)).setInt intHST 1 := by
        rw [Dev.stateTaken, if_pos hup]
        simp only [d2, d1, old, if_pos hup]
      have h3 : d3 = (((d2.incSat (Fld.HST_LANE_TRAIN_CNT.LINK_DOWN l)).setInt intHST 1).put (Fld.HST_TSU_STATUS.FRAME_LOCK l) 0).partnerOff l :=
        if_pos hup
      rw [h3, htaken]
      exact ((MovesLane.refl tailFields_noInts _).put _ _ (by simp [tailFields])).partnerOff
    · have htaken : d.stateTaken l st = d3 := by
        rw [Dev.stateTaken, if_neg hup]
        simp only [d3, d2, d1, old, if_neg hup]
      rw [htaken]
      exact .refl tailFields_noInts _
  have h4 : MovesLane LaneState.lasting (tailFields l) l (d.stateTaken l st) d4 :=
    .ite ((h3.prbsEnd _).put _ _ (by simp [tailFields])) h3
  have h5 : MovesLane LaneState.lasting (tailFields l) l (d.stateTaken l st) d5 := h4.setHl _ rfl
  have h6 : MovesLane LaneState.lasting (tailFields l) l (d.stateTaken l st) d6 := h5.holdEq _
  have h7 := h6.setHl { d6.hl l with filledTo := 10000 * d6.ticks } rfl
  rw [if_neg h]
  exact .ite (h7.setInt _) h6

theorem Dev.stateTaken_moves (d : Dev) (l st : Nat) : MovesLane LaneState.lasting (goFields l) l d (d.stateTaken l st) := by
  have hd : MovesLane LaneState.lasting (goFields l) l d d := .refl goFields_noInts d
  exact .ite (((hd.fillIdle.put _ _ (by simp [goFields])).incSat _ (by simp [goFields])).setInt _) (hd.put _ _ (by simp [goFields]))

theorem Dev.laneTo_moves (d : Dev) (l st : Nat) : MovesLane LaneState.lasting (goFields l) l d (d.laneTo l st) := by
  by_cases h : d.laneState l = st
  · rw [Dev.laneTo_same h]
    exact .refl goFields_noInts d
  · exact (d.stateTaken_moves l st).trans ((Dev.laneTo_tail h).mono (tailFields_sub l) goFields_noInts)

/-! ### Fields that a lane leaves -/

/-- A field of a lane's status beside PRBS_LOCK. -/
theorem besideTail_status {l : Nat} {g : Fld} (haddr : g.addr = Reg.HST_LANE_STATUS l)
    (hg : (Fld.HST_LANE_STATUS.PRBS_LOCK l).apart g = true) : ∀ f ∈ tailFields l, f.Beside g := by
  intro f hf
  simp only [tailFields, List.mem_cons, List.not_mem_nil, or_false] at hf
  have htsu : g.addr ≠ Reg.HST_TSU_STATUS l := by rw [haddr]; unfold Reg.HST_LANE_STATUS Reg.HST_TSU_STATUS; omega
  have hbits : g.addr ≠ Reg.HST_LANE_BITS_LO l ∧ g.addr ≠ Reg.HST_LANE_BITS_LO l + 4 := by
    rw [haddr]; unfold Reg.HST_LANE_STATUS Reg.HST_LANE_BITS_LO; omega
  obtain rfl | rfl | rfl | rfl | rfl := hf
  · exact .inl htsu
  · exact .inl htsu
  · exact .inr hg
  · exact .inl hbits.1
  · exact .inl hbits.2

/-- A field of a lane's training counts. -/
theorem besideTail_count {l : Nat} {g : Fld} (haddr : g.addr = Reg.HST_LANE_TRAIN_CNT l) : ∀ f ∈ tailFields l, f.Beside g := by
  intro f hf
  refine .inl ?_
  simp only [tailFields, List.mem_cons, List.not_mem_nil, or_false] at hf
  rw [haddr]
  unfold Reg.HST_LANE_TRAIN_CNT
  obtain rfl | rfl | rfl | rfl | rfl := hf
  all_goals
    simp only [Fld.HST_TSU_STATUS.FRAME_LOCK, Fld.HST_TSU_STATUS.PARTNER, Fld.HST_LANE_STATUS.PRBS_LOCK, Reg.HST_TSU_STATUS,
      Reg.HST_LANE_STATUS, Reg.HST_LANE_BITS_LO]
    omega

theorem laneStatus_noInt (l : Nat) : Reg.HST_LANE_STATUS l ≠ Reg.HST_INT_STATUS := by unfold Reg.HST_LANE_STATUS Reg.HST_INT_STATUS; omega

theorem trainCnt_noInt (l : Nat) : Reg.HST_LANE_TRAIN_CNT l ≠ Reg.HST_INT_STATUS := by
  unfold Reg.HST_LANE_TRAIN_CNT Reg.HST_INT_STATUS; omega

/-- A field of a lane's status beside STATE and PRBS_LOCK stays as the lane goes on. -/
theorem MovesLane.status {α : Type} {k : LaneState → α} {l : Nat} {d e : Dev} (h : MovesLane k (goFields l) l d e) {g : Fld}
    (haddr : g.addr = Reg.HST_LANE_STATUS l) (hstate : (Fld.HST_LANE_STATUS.STATE l).apart g = true)
    (hlock : (Fld.HST_LANE_STATUS.PRBS_LOCK l).apart g = true) : e.get g = d.get g := by
  refine h.writes.kept g (haddr ▸ laneStatus_noInt l) fun f hf => ?_
  simp only [goFields, List.cons_append, List.nil_append, List.mem_cons] at hf
  obtain rfl | rfl | rfl | hf := hf
  · exact .inl (by rw [haddr]; show Reg.HST_LANE_STATUS l ≠ Reg.HST_LANE_RX_EQ l; unfold Reg.HST_LANE_STATUS Reg.HST_LANE_RX_EQ; omega)
  · exact .inr hstate
  · exact .inl (by rw [haddr]; show Reg.HST_LANE_STATUS l ≠ Reg.HST_LANE_TRAIN_CNT l; unfold Reg.HST_LANE_STATUS Reg.HST_LANE_TRAIN_CNT; omega)
  · exact besideTail_status haddr hlock f hf

theorem MovesLane.signal {α : Type} {k : LaneState → α} {l : Nat} {d e : Dev} (h : MovesLane k (goFields l) l d e) :
    e.get (Fld.HST_LANE_STATUS.SD l) = d.get (Fld.HST_LANE_STATUS.SD l) := h.status rfl rfl rfl

/-- The count of aborts stays as the lane goes on. -/
theorem MovesLane.aborts {α : Type} {k : LaneState → α} {l : Nat} {d e : Dev} (h : MovesLane k (goFields l) l d e) :
    e.get (Fld.HST_LANE_TRAIN_CNT.ABORT l) = d.get (Fld.HST_LANE_TRAIN_CNT.ABORT l) := by
  refine h.writes.kept _ (trainCnt_noInt l) fun f hf => ?_
  simp only [goFields, List.cons_append, List.nil_append, List.mem_cons] at hf
  obtain rfl | rfl | rfl | hf := hf
  · exact .inl (by show Reg.HST_LANE_TRAIN_CNT l ≠ Reg.HST_LANE_RX_EQ l; unfold Reg.HST_LANE_TRAIN_CNT Reg.HST_LANE_RX_EQ; omega)
  · exact .inl (by show Reg.HST_LANE_TRAIN_CNT l ≠ Reg.HST_LANE_STATUS l; unfold Reg.HST_LANE_TRAIN_CNT Reg.HST_LANE_STATUS; omega)
  · exact .inr rfl
  · exact besideTail_count rfl f hf

/-! ### What a lane that takes a state shows -/

theorem Dev.laneState_stateTaken (d : Dev) (l : Nat) {st : Nat} (hst : st < 8) : (d.stateTaken l st).laneState l = st := by
  have hput : ∀ e : Dev, (e.put (Fld.HST_LANE_STATUS.STATE l) st).laneState l = st := fun e =>
    (Dev.get_put_self e _ st (Fld.ok_of _ rfl rfl)).trans (Nat.mod_eq_of_lt hst)
  unfold Dev.stateTaken
  split
  · refine (Dev.get_setInt_ne _ intHST 1 (laneStatus_noInt l)).trans ((Dev.get_put_elsewhere _ _ ?_).trans (hput _))
    show Reg.HST_LANE_STATUS l ≠ Reg.HST_LANE_TRAIN_CNT l
    unfold Reg.HST_LANE_STATUS Reg.HST_LANE_TRAIN_CNT
    omega
  · exact hput d

theorem Dev.laneState_laneTo (d : Dev) (l : Nat) {st : Nat} (hst : st < 8) : (d.laneTo l st).laneState l = st := by
  by_cases h : d.laneState l = st
  · rw [Dev.laneTo_same h, h]
  · exact ((Dev.laneTo_tail h).writes.kept _ (laneStatus_noInt l) (besideTail_status rfl rfl)).trans (d.laneState_stateTaken l hst)

/-- Leaving UP counts and is reported (R254). -/
theorem Dev.laneTo_linkDown {d : Dev} {l st : Nat} (hup : d.laneState l = 3) (hst : st ≠ 3) :
    (d.laneTo l st).get (Fld.HST_LANE_TRAIN_CNT.LINK_DOWN l) = min (d.get (Fld.HST_LANE_TRAIN_CNT.LINK_DOWN l) + 1) 0xFFFF ∧
      (d.laneTo l st).bitAt Reg.HST_INT_STATUS 1 = true := by
  have htail := Dev.laneTo_tail (show d.laneState l ≠ st from fun h => hst (h.symm.trans hup))
  have htaken : d.stateTaken l st = (((d.fillIdle l).put (Fld.HST_LANE_STATUS.STATE l) st).incSat
      (Fld.HST_LANE_TRAIN_CNT.LINK_DOWN l)).setInt intHST 1 := if_pos hup
  have hfill : (d.fillIdle l).get (Fld.HST_LANE_TRAIN_CNT.LINK_DOWN l) = d.get (Fld.HST_LANE_TRAIN_CNT.LINK_DOWN l) := by
    unfold Dev.fillIdle
    dsimp only
    split <;> rfl
  have hne : Reg.HST_LANE_TRAIN_CNT l ≠ Reg.HST_LANE_STATUS l := by unfold Reg.HST_LANE_TRAIN_CNT Reg.HST_LANE_STATUS; omega
  constructor
  · rw [htail.writes.kept _ (trainCnt_noInt l) (besideTail_count rfl), htaken, Dev.get_setInt_ne _ intHST 1 (trainCnt_noInt l),
      Dev.get_incSat_self _ _ _ (Fld.ok_of _ rfl rfl),
      Dev.get_put_elsewhere (f := Fld.HST_LANE_STATUS.STATE l) (g := Fld.HST_LANE_TRAIN_CNT.LINK_DOWN l) _ _ hne, hfill]
    rfl
  · exact htail.writes.ints 1 (htaken ▸ Dev.bitAt_setInt_self _ intHST (by decide))

/-- Entering UP is reported (R254). -/
theorem Dev.laneTo_up {d : Dev} {l : Nat} (h : d.laneState l ≠ 3) : (d.laneTo l 3).bitAt Reg.HST_INT_STATUS 0 = true := by
  unfold Dev.laneTo
  rw [if_neg h]
  extract_lets
  rw [if_pos rfl]
  exact Dev.bitAt_setInt_self _ intHST (by decide)

end Sys2Proof.Machine
end

section
/-! Host lanes: how a lane goes on from LISTEN, and how it returns to its state at rest (R254, R263 to R267). -/

namespace Sys2Proof.Machine

/-! ### On from LISTEN (R265) -/

theorem Dev.laneGo_waits {d : Dev} {l : Nat} (h : d.isSet (Fld.HST_LANE_STATUS.SD l) = false ∨ (d.hl l).retry = true) (eq : Option LaneEq) :
    d.laneGo l eq = d := by
  refine if_neg ?_
  rintro ⟨-, hsd, hretry, -⟩
  obtain h | h := h
  · rw [h] at hsd
    exact Bool.false_ne_true hsd
  · rw [h] at hretry
    exact Bool.false_ne_true hretry

theorem Dev.laneUpEnter_moves (d : Dev) (l : Nat) (eq : Option LaneEq) : MovesLane LaneState.lasting (goFields l) l d (d.laneUpEnter l eq) :=
  ((MovesLane.refl goFields_noInts d).setCtle eq (by simp [goFields])).trans (Dev.laneTo_moves _ l 3)

theorem Dev.laneGo_moves (d : Dev) (l : Nat) (eq : Option LaneEq) : MovesLane LaneState.lasting (goFields l) l d (d.laneGo l eq) :=
  .ite (.ite (d.laneTo_moves l 2) (d.laneUpEnter_moves l eq)) (.refl goFields_noInts d)

/-- With signal detect, the retry interval over and the PLL locked, a lane in LISTEN trains or comes UP. -/
theorem Dev.laneGo_goes {d : Dev} {l : Nat} (hst : d.laneState l = 1) (hsd : d.get (Fld.HST_LANE_STATUS.SD l) = 1)
    (hretry : (d.hl l).retry = false) (hlock : d.octetLocked (l / 8) = true) (eq : Option LaneEq) :
    (d.laneGo l eq).laneState l = if d.trains l then 2 else 3 := by
  have hgo : d.laneState l = 1 ∧ d.isSet (Fld.HST_LANE_STATUS.SD l) ∧ !(d.hl l).retry ∧ d.octetLocked (l / 8) :=
    ⟨hst, by rw [Dev.isSet, hsd]; rfl, by rw [hretry]; rfl, hlock⟩
  rw [Dev.laneGo, if_pos hgo]
  split
  · exact d.laneState_laneTo l (by decide)
  · exact Dev.laneState_laneTo _ l (by decide)

/-! ### Back to the state at rest (R254, R263, R266) -/

/-- The lane before it takes its state at rest: in TRAIN it aborts, and but for Horug it waits for no retry interval. -/
def Dev.backFrom (d : Dev) (l : Nat) : Dev :=
  let d := if d.laneState l = 2 then d.trainAbort l else d
  let d := if d.laneHome l = 1 ∧ d.laneRole l = 3 then d else d.setHl l { d.hl l with retry := false }
  d.put (Fld.HST_LANE_STATUS.CLAIMED l) (bit (d.claimed l))

theorem backFields_noInts {l : Nat} (f : Fld) (h : f ∈ backFields l) : Reg.HST_INT_STATUS ≠ f.addr := laneFields_noInts f (backFields_sub l h)

theorem Dev.trainAbort_moves (d : Dev) (l : Nat) : MovesLane (fun _ => ()) (backFields l) l d (d.trainAbort l) :=
  (((MovesLane.refl backFields_noInts d).incSat _ (by simp [backFields])).raise _).setHl _ rfl

theorem Dev.backFrom_moves (d : Dev) (l : Nat) : MovesLane (fun _ => ()) (backFields l) l d (d.backFrom l) := by
  unfold Dev.backFrom
  extract_lets d1 v d2
  have h1 : MovesLane (fun _ => ()) (backFields l) l d d1 := .ite (d.trainAbort_moves l) (.refl backFields_noInts d)
  have h2 : MovesLane (fun _ => ()) (backFields l) l d d2 := .ite h1 (h1.setHl _ rfl)
  exact h2.put _ _ (by simp [backFields])

/-- Changes of one lane leave the configuration. -/
theorem MovesLane.config {α : Type} {k : LaneState → α} {w : List Fld} {l : Nat} {d e : Dev} (h : MovesLane k w l d e)
    (hw : w ⊆ laneFields l) (hl : l < 48) : SameConfig d e := by
  refine h.writes.regsOut fun a ha => ⟨ha.noInts, ?_⟩
  rintro f hf rfl
  have hr := ha.ranges
  have hk := laneKeys_range (laneFields_addr (hw hf))
  omega

theorem Dev.laneBack_eq (d : Dev) {l : Nat} (hl : l < 48) :
    d.laneBack l = ((d.backFrom l).laneTo l (d.laneHome l)).laneGo l := by
  have hhome : ∀ e, MovesLane (fun _ => ()) (backFields l) l d e → e.laneHome l = d.laneHome l := fun e h =>
    (h.config (backFields_sub l) hl).laneHome hl
  unfold Dev.laneBack Dev.backFrom
  extract_lets d1 v d2
  have h1 : MovesLane (fun _ => ()) (backFields l) l d d1 := .ite (d.trainAbort_moves l) (.refl backFields_noInts d)
  have h2 : MovesLane (fun _ => ()) (backFields l) l d d2 := .ite h1 (h1.setHl _ rfl)
  rw [hhome d2 h2]

theorem Dev.laneBack_moves (d : Dev) {l : Nat} (hl : l < 48) : MovesLane (fun _ => ()) (laneFields l) l d (d.laneBack l) := by
  rw [d.laneBack_eq hl]
  refine (((d.backFrom_moves l).mono (backFields_sub l) laneFields_noInts).trans
    ((Dev.laneTo_moves _ l _).forget.mono (goFields_sub l) laneFields_noInts)).trans
    ((Dev.laneGo_moves _ l none).forget.mono (goFields_sub l) laneFields_noInts)

/-- A field of a lane's status beside CLAIMED stays before the lane takes its state at rest. -/
theorem Dev.backFrom_status (d : Dev) (l : Nat) {g : Fld} (haddr : g.addr = Reg.HST_LANE_STATUS l)
    (hg : (Fld.HST_LANE_STATUS.CLAIMED l).apart g = true) : (d.backFrom l).get g = d.get g := by
  refine (d.backFrom_moves l).writes.kept g (haddr ▸ laneStatus_noInt l) fun f hf => ?_
  simp only [backFields, List.mem_cons, List.not_mem_nil, or_false] at hf
  obtain rfl | rfl := hf
  · exact .inr hg
  · exact .inl (by rw [haddr]; show Reg.HST_LANE_STATUS l ≠ Reg.HST_LANE_TRAIN_CNT l; unfold Reg.HST_LANE_STATUS Reg.HST_LANE_TRAIN_CNT; omega)

theorem Dev.backFrom_linkDown (d : Dev) (l : Nat) :
    (d.backFrom l).get (Fld.HST_LANE_TRAIN_CNT.LINK_DOWN l) = d.get (Fld.HST_LANE_TRAIN_CNT.LINK_DOWN l) := by
  refine (d.backFrom_moves l).writes.kept _ (trainCnt_noInt l) fun f hf => ?_
  simp only [backFields, List.mem_cons, List.not_mem_nil, or_false] at hf
  obtain rfl | rfl := hf
  · exact .inl (by show Reg.HST_LANE_TRAIN_CNT l ≠ Reg.HST_LANE_STATUS l; unfold Reg.HST_LANE_TRAIN_CNT Reg.HST_LANE_STATUS; omega)
  · exact .inr rfl

/-- The state at rest is a state code. -/
theorem Dev.laneHome_lt (d : Dev) (l : Nat) : d.laneHome l < 8 := by
  have := d.laneHome_cases l
  omega

/-- Without signal detect a lane that returns stays at rest. -/
theorem Dev.laneBack_silent {d : Dev} {l : Nat} (hl : l < 48) (hsd : d.get (Fld.HST_LANE_STATUS.SD l) = 0) :
    d.laneBack l = (d.backFrom l).laneTo l (d.laneHome l) := by
  rw [d.laneBack_eq hl]
  refine Dev.laneGo_waits (.inl ?_) none
  rw [Dev.isSet, (Dev.laneTo_moves _ l _).signal, d.backFrom_status l rfl rfl, hsd]
  rfl

theorem Dev.laneState_laneBack {d : Dev} {l : Nat} (hl : l < 48) (hsd : d.get (Fld.HST_LANE_STATUS.SD l) = 0) :
    (d.laneBack l).laneState l = d.laneHome l := by
  rw [Dev.laneBack_silent hl hsd]
  exact Dev.laneState_laneTo _ l (d.laneHome_lt l)

/-- A lane that was UP and returns without signal counts the end of its link, and reports it. -/
theorem Dev.laneBack_linkDown {d : Dev} {l : Nat} (hl : l < 48) (hsd : d.get (Fld.HST_LANE_STATUS.SD l) = 0) (hup : d.laneState l = 3) :
    (d.laneBack l).get (Fld.HST_LANE_TRAIN_CNT.LINK_DOWN l) = min (d.get (Fld.HST_LANE_TRAIN_CNT.LINK_DOWN l) + 1) 0xFFFF ∧
      (d.laneBack l).bitAt Reg.HST_INT_STATUS 1 = true := by
  have hhome : d.laneHome l ≠ 3 := by
    have := d.laneHome_cases l
    omega
  rw [Dev.laneBack_silent hl hsd, ← d.backFrom_linkDown l]
  exact Dev.laneTo_linkDown ((d.backFrom_status l (g := Fld.HST_LANE_STATUS.STATE l) rfl rfl).trans hup) hhome

/-- A lane in TRAIN that returns aborts: counted, and reported (R266). -/
theorem Dev.laneBack_aborts {d : Dev} {l : Nat} (hl : l < 48) (hst : d.laneState l = 2) :
    Arising 256 (d.laneBack l) ∧
      (d.laneBack l).get (Fld.HST_LANE_TRAIN_CNT.ABORT l) = min (d.get (Fld.HST_LANE_TRAIN_CNT.ABORT l) + 1) 0xFFFF := by
  have habort : (d.trainAbort l).get (Fld.HST_LANE_TRAIN_CNT.ABORT l) = min (d.get (Fld.HST_LANE_TRAIN_CNT.ABORT l) + 1) 0xFFFF :=
    (Dev.raise_get ..).trans (Dev.get_incSat_self d _ 1 (Fld.ok_of _ rfl rfl))
  have hback : KeepsStr (d.trainAbort l) (d.backFrom l) ∧
      (d.backFrom l).get (Fld.HST_LANE_TRAIN_CNT.ABORT l) = (d.trainAbort l).get (Fld.HST_LANE_TRAIN_CNT.ABORT l) := by
    have hne : Reg.HST_LANE_TRAIN_CNT l ≠ Reg.HST_LANE_STATUS l := by unfold Reg.HST_LANE_TRAIN_CNT Reg.HST_LANE_STATUS; omega
    unfold Dev.backFrom
    extract_lets d1 v d2
    have h1 : d1 = d.trainAbort l := if_pos hst
    have h2 : KeepsStr (d.trainAbort l) d2 ∧
        d2.get (Fld.HST_LANE_TRAIN_CNT.ABORT l) = (d.trainAbort l).get (Fld.HST_LANE_TRAIN_CNT.ABORT l) := by
      unfold d2
      rw [h1]
      split
      · exact ⟨.refl _, rfl⟩
      · exact ⟨(KeepsStr.refl _).setHl _ _, rfl⟩
    exact ⟨h2.1.put _ _, (Dev.get_put_elsewhere _ _ (f := Fld.HST_LANE_STATUS.CLAIMED l) hne).trans h2.2⟩
  obtain ⟨hkeep, hcount⟩ := hback
  rw [d.laneBack_eq hl]
  exact ⟨((hkeep.laneTo l _).laneGo l none).arising 256 (Dev.raise_arises ..),
    (Dev.laneGo_moves _ l none).aborts.trans ((Dev.laneTo_moves _ l _).aborts.trans (hcount.trans habort))⟩

/-- A Horug lane that aborts waits in LISTEN for its retry interval (R267). -/
theorem Dev.laneBack_retries {d : Dev} {l : Nat} (hl : l < 48) (hst : d.laneState l = 2) (hrole : d.laneRole l = 3) :
    (d.laneBack l).laneState l = 1 ∧ ((d.laneBack l).hl l).retry = true := by
  have hen : d.octetEn (l / 8) = true := by
    by_contra hoff
    rw [Dev.laneRole, if_neg hoff] at hrole
    exact absurd hrole (by decide)
  have hhome : d.laneHome l = 1 := by simp [Dev.laneHome, hen, hrole]
  have hsame : SameConfig d (d.trainAbort l) := (d.trainAbort_moves l).config (backFields_sub l) hl
  have hretry : ((d.backFrom l).hl l).retry = true := by
    have hwait : ((d.trainAbort l).hl l).retry = true := by
      rw [Dev.trainAbort, Dev.hl_setHl_self]
      exact decide_eq_true hrole
    unfold Dev.backFrom
    dsimp only
    rw [if_pos hst, if_pos ⟨(hsame.laneHome hl).trans hhome, (hsame.laneRole hl).trans hrole⟩]
    exact hwait
  have hgone : ((d.backFrom l).laneTo l 1).laneGo l = (d.backFrom l).laneTo l 1 :=
    Dev.laneGo_waits (.inr ((Dev.laneTo_moves _ l 1).retry.trans hretry)) none
  rw [d.laneBack_eq hl, hhome, hgone]
  exact ⟨Dev.laneState_laneTo _ l (by decide), (Dev.laneTo_moves _ l 1).retry.trans hretry⟩

/-! ### A lane among others (R268) -/

/-- A register that other lanes do not write. -/
def OwnKey (l a : Nat) : Prop := a ≠ Reg.HST_INT_STATUS ∧ ∀ m < 48, m ≠ l → a ∉ laneKeys m

/-- e has lane l, and what configures the lanes, of d. -/
structure SameLane (l : Nat) (d e : Dev) : Prop where
  regs : RegsOut (OwnKey l) d e
  hl : e.hl l = d.hl l
  ints : ∀ i, d.bitAt Reg.HST_INT_STATUS i = true → e.bitAt Reg.HST_INT_STATUS i = true
  arising : ∀ f, Arising f d → Arising f e

theorem SameLane.refl (l : Nat) (d : Dev) : SameLane l d d := ⟨.refl _ d, rfl, fun _ => id, fun _ => id⟩

theorem SameLane.trans {l : Nat} {d e f : Dev} (h : SameLane l d e) (k : SameLane l e f) : SameLane l d f :=
  ⟨h.regs.trans k.regs, k.hl.trans h.hl, fun i hi => k.ints i (h.ints i hi), fun i hi => k.arising i (h.arising i hi)⟩

/-- Another lane's changes leave a lane. -/
theorem MovesLane.sameLane {α : Type} {k : LaneState → α} {w : List Fld} {l m : Nat} {d e : Dev} (h : MovesLane k w m d e)
    (hw : w ⊆ laneFields m) (hm : m < 48) (hml : m ≠ l) (ha : ∀ f, Arising f d → Arising f e) : SameLane l d e :=
  ⟨h.writes.regsOut fun _ ha => ⟨ha.1, fun _ hf hfa => ha.2 m hm hml (hfa ▸ laneFields_addr (hw hf))⟩, h.others l hml.symm, h.writes.ints, ha⟩

theorem SameLane.config {l : Nat} {d e : Dev} (h : SameLane l d e) : SameConfig d e := by
  intro a ha
  refine h.regs a ⟨ha.noInts, fun m hm _ hmem => ?_⟩
  have hr := ha.ranges
  have hk := laneKeys_range hmem
  omega

/-- The registers of a lane are its own: those of its control and status, of its TX FIR and of its training counts. -/
theorem ownKey_lane {l o : Nat} (hl : l < 48) (ho : o = 4 ∨ o = 0x10 ∨ o = 0x14 ∨ o = 0x30) : OwnKey l (0x810000 + o + 0x100 * l) := by
  refine ⟨by unfold Reg.HST_INT_STATUS; omega, fun m hm hml hmem => ?_⟩
  have hk := laneKeys_range hmem
  omega

theorem SameLane.status {l : Nat} {d e : Dev} (h : SameLane l d e) (hl : l < 48) (g : Fld) (hg : g.addr = Reg.HST_LANE_STATUS l) :
    e.get g = d.get g := h.regs.get g (hg ▸ ownKey_lane hl (.inl rfl))

/-- A run over distinct lanes, l among them, of changes that leave the lanes they are not of: what comes before and behind leaves lane l. -/
theorem foldl_sameLane {f : Dev → Nat → Dev} {l : Nat} {g : List Nat} (hnodup : g.Nodup) (hmem : l ∈ g)
    (hf : ∀ e, ∀ m ∈ g, m ≠ l → SameLane l e (f e m)) (d : Dev) : ∃ e, SameLane l d e ∧ SameLane l (f e l) (g.foldl f d) := by
  have hrun : ∀ (r : List Nat) (e : Dev), (∀ m ∈ r, m ∈ g ∧ m ≠ l) → SameLane l e (r.foldl f e) := by
    intro r
    induction r with
    | nil => exact fun e _ => .refl l e
    | cons m r ih =>
      intro e hr
      obtain ⟨hmg, hml⟩ := hr m List.mem_cons_self
      exact (hf e m hmg hml).trans (ih _ fun x hx => hr x (List.mem_cons_of_mem _ hx))
  obtain ⟨before, behind, rfl⟩ := List.append_of_mem hmem
  obtain ⟨-, hcons, hdisj⟩ := List.nodup_append.mp hnodup
  refine ⟨before.foldl f d, hrun before d fun m hm => ⟨List.mem_append_left _ hm, hdisj m hm l List.mem_cons_self⟩, ?_⟩
  rw [List.foldl_append, List.foldl_cons]
  refine hrun behind _ fun m hm => ⟨List.mem_append_right _ (List.mem_cons_of_mem _ hm), ?_⟩
  rintro rfl
  exact (List.nodup_cons.mp hcons).1 hm

end Sys2Proof.Machine
end

section
/-! Host lanes: the taps of the TX FIR, and the end of training (R259, R261, R262, R265, R268). -/

namespace Sys2Proof.Machine

/-! ### Signed values of eight bits -/

theorem ofSigned_toSigned_byte (v : Nat) : ofSigned 8 (toSigned 8 v) = v % 256 := by
  unfold ofSigned toSigned
  split <;> omega

theorem toSigned_byte_lt {i : Int} (h : i.natAbs ≤ 64) : toSigned 8 (ofSigned 8 i % 256) = i := by
  unfold ofSigned toSigned
  split <;> omega

/-- A word is its four bytes. -/
theorem eq_of_bytes {x y : Word} (h0 : getBits x 7 0 = getBits y 7 0) (h1 : getBits x 15 8 = getBits y 15 8)
    (h2 : getBits x 23 16 = getBits y 23 16) (h3 : getBits x 31 24 = getBits y 31 24) : x = y := by
  unfold getBits at h0 h1 h2 h3
  simp only [BitVec.toNat_ushiftRight, Nat.shiftRight_eq_div_pow] at h0 h1 h2 h3
  exact BitVec.eq_of_toNat_eq (by omega)

/-! ### The TX FIR (R261, R262) -/

/-- The fields of the TX FIR of a lane, and what tells that its taps were scaled. -/
def firFields (l : Nat) : List Fld :=
  [Fld.HST_LANE_TX_FIR0.CM3 l, Fld.HST_LANE_TX_FIR0.CM2 l, Fld.HST_LANE_TX_FIR0.CM1 l, Fld.HST_LANE_TX_FIR0.C0 l,
    Fld.HST_LANE_TX_FIR1.CP1 l, Fld.HST_LANE_TX_FIR1.CP2 l, Fld.HST_LANE_STATUS.FIR_SCALED l]

theorem firFields_addr {l : Nat} {f : Fld} (h : f ∈ firFields l) :
    f.addr = Reg.HST_LANE_TX_FIR0 l ∨ f.addr = Reg.HST_LANE_TX_FIR1 l ∨ f.addr = Reg.HST_LANE_STATUS l := by
  simp only [firFields, List.mem_cons, List.not_mem_nil, or_false] at h
  obtain rfl | rfl | rfl | rfl | rfl | rfl | rfl := h
  · exact .inl rfl
  · exact .inl rfl
  · exact .inl rfl
  · exact .inl rfl
  · exact .inr (.inl rfl)
  · exact .inr (.inl rfl)
  · exact .inr (.inr rfl)

theorem firFields_noInts {l : Nat} (f : Fld) (h : f ∈ firFields l) : Reg.HST_INT_STATUS ≠ f.addr := by
  have haddr := firFields_addr h
  unfold Reg.HST_LANE_TX_FIR0 Reg.HST_LANE_TX_FIR1 Reg.HST_LANE_STATUS at haddr
  unfold Reg.HST_INT_STATUS
  omega

/-- The four taps of the first FIR register. -/
def Dev.putFir0 (d : Dev) (l : Nat) (t : List Int) : Dev :=
  (((d.put (Fld.HST_LANE_TX_FIR0.CM3 l) (ofSigned 8 (t.getD 0 0))).put (Fld.HST_LANE_TX_FIR0.CM2 l) (ofSigned 8 (t.getD 1 0))).put
    (Fld.HST_LANE_TX_FIR0.CM1 l) (ofSigned 8 (t.getD 2 0))).put (Fld.HST_LANE_TX_FIR0.C0 l) (ofSigned 8 (t.getD 3 0))

/-- The two taps of the second FIR register. -/
def Dev.putFir1 (d : Dev) (l : Nat) (t : List Int) : Dev :=
  (d.put (Fld.HST_LANE_TX_FIR1.CP1 l) (ofSigned 8 (t.getD 4 0))).put (Fld.HST_LANE_TX_FIR1.CP2 l) (ofSigned 8 (t.getD 5 0))

/-- Taps in the FIR registers, scaled or not. -/
def Dev.putTaps (d : Dev) (l : Nat) (t : List Int) (scaled : Bool) : Dev :=
  ((d.putFir0 l t).putFir1 l t).put (Fld.HST_LANE_STATUS.FIR_SCALED l) (bit scaled)

/-- The lane with the taps of its registers in use. -/
def Dev.firOwn (d : Dev) (l : Nat) : Dev := d.setHl l { d.hl l with firAt := none }

/-- Taps within the peak swing go into the registers as they are. -/
theorem Dev.setFir_eq {d : Dev} {l : Nat} {t : List Int} (h : firSum t ≤ 64) : d.setFir l t = (d.firOwn l).putTaps l t false := by
  have hfit : decide (64 < firSum t) = false := decide_eq_false (Nat.not_lt.mpr h)
  unfold Dev.setFir
  rw [hfit]
  rfl

/-- Taps beyond the peak swing are scaled first. -/
theorem Dev.setFir_scaled {d : Dev} {l : Nat} {t : List Int} (h : 64 < firSum t) :
    d.setFir l t = ((d.firOwn l).draw 6).2.putTaps l (firScale ((d.firOwn l).draw 6).1 t) true := by
  have hexcess : decide (64 < firSum t) = true := decide_eq_true h
  unfold Dev.setFir
  rw [hexcess]
  rfl

theorem MovesLane.putTaps {α : Type} {k : LaneState → α} {l : Nat} {d e : Dev} (h : MovesLane k (firFields l) l d e) (t : List Int) (b : Bool) :
    MovesLane k (firFields l) l d (e.putTaps l t b) :=
  ((((((h.put _ _ (by simp [firFields])).put _ _ (by simp [firFields])).put _ _ (by simp [firFields])).put _ _ (by simp [firFields])).put _ _
    (by simp [firFields])).put _ _ (by simp [firFields])).put _ _ (by simp [firFields])

theorem Dev.setFir_moves (d : Dev) (l : Nat) (t : List Int) : MovesLane LaneState.lasting (firFields l) l d (d.setFir l t) := by
  have hown : MovesLane LaneState.lasting (firFields l) l d (d.firOwn l) := (MovesLane.refl firFields_noInts d).setHl _ rfl
  by_cases h : firSum t ≤ 64
  · rw [Dev.setFir_eq h]
    exact hown.putTaps t false
  · rw [Dev.setFir_scaled (Nat.not_le.mp h)]
    have hdraw : MovesLane LaneState.lasting (firFields l) l d ((d.firOwn l).draw 6).2 := hown.step (hown.writes.same rfl) rfl
    exact hdraw.putTaps _ true

theorem Dev.putFir0_bytes (d : Dev) (l : Nat) (t : List Int) :
    (d.putFir0 l t).get (Fld.HST_LANE_TX_FIR0.CM3 l) = ofSigned 8 (t.getD 0 0) % 256 ∧
      (d.putFir0 l t).get (Fld.HST_LANE_TX_FIR0.CM2 l) = ofSigned 8 (t.getD 1 0) % 256 ∧
      (d.putFir0 l t).get (Fld.HST_LANE_TX_FIR0.CM1 l) = ofSigned 8 (t.getD 2 0) % 256 ∧
      (d.putFir0 l t).get (Fld.HST_LANE_TX_FIR0.C0 l) = ofSigned 8 (t.getD 3 0) % 256 := by
  have hself : ∀ (e : Dev) (f : Fld) (x : Nat), f.ok → f.hi - f.lo + 1 = 8 → (e.put f x).get f = x % 256 := fun e f x hf h8 => by
    rw [Dev.get_put_self e f x hf, h8]
    rfl
  unfold Dev.putFir0
  refine ⟨?_, ?_, ?_, hself _ _ _ (Fld.ok_of _ rfl rfl) rfl⟩
  · rw [Dev.get_put_apart _ _ rfl, Dev.get_put_apart _ _ rfl, Dev.get_put_apart _ _ rfl, hself _ _ _ (Fld.ok_of _ rfl rfl) rfl]
  · rw [Dev.get_put_apart _ _ rfl, Dev.get_put_apart _ _ rfl, hself _ _ _ (Fld.ok_of _ rfl rfl) rfl]
  · rw [Dev.get_put_apart _ _ rfl, hself _ _ _ (Fld.ok_of _ rfl rfl) rfl]

theorem Dev.putFir1_bytes (d : Dev) (l : Nat) (t : List Int) :
    (d.putFir1 l t).get (Fld.HST_LANE_TX_FIR1.CP1 l) = ofSigned 8 (t.getD 4 0) % 256 ∧
      (d.putFir1 l t).get (Fld.HST_LANE_TX_FIR1.CP2 l) = ofSigned 8 (t.getD 5 0) % 256 := by
  unfold Dev.putFir1
  refine ⟨(Dev.get_put_apart _ _ rfl).trans ?_, ?_⟩
  · rw [Dev.get_put_self _ _ _ (Fld.ok_of _ rfl rfl)]
    rfl
  · rw [Dev.get_put_self _ _ _ (Fld.ok_of _ rfl rfl)]
    rfl

/-- The registers of a lane's FIR and status are three. -/
theorem firKeys_ne (l : Nat) : Reg.HST_LANE_TX_FIR0 l ≠ Reg.HST_LANE_TX_FIR1 l ∧ Reg.HST_LANE_TX_FIR0 l ≠ Reg.HST_LANE_STATUS l ∧
    Reg.HST_LANE_TX_FIR1 l ≠ Reg.HST_LANE_STATUS l := by
  unfold Reg.HST_LANE_TX_FIR0 Reg.HST_LANE_TX_FIR1 Reg.HST_LANE_STATUS
  omega

theorem Dev.reg_putTaps_fir0 (d : Dev) (l : Nat) (t : List Int) (s : Bool) :
    (d.putTaps l t s).reg (Reg.HST_LANE_TX_FIR0 l) = (d.putFir0 l t).reg (Reg.HST_LANE_TX_FIR0 l) := by
  obtain ⟨h01, h0s, -⟩ := firKeys_ne l
  exact (Dev.reg_put_ne _ _ _ h0s).trans ((Dev.reg_put_ne _ _ _ h01).trans (Dev.reg_put_ne _ _ _ h01))

theorem Dev.reg_putTaps_fir1 (d : Dev) (l : Nat) (t : List Int) (s : Bool) :
    (d.putTaps l t s).reg (Reg.HST_LANE_TX_FIR1 l) = ((d.putFir0 l t).putFir1 l t).reg (Reg.HST_LANE_TX_FIR1 l) := by
  obtain ⟨-, -, h1s⟩ := firKeys_ne l
  exact Dev.reg_put_ne _ _ _ h1s

/-- The taps in the FIR registers follow from the two registers. -/
theorem Dev.firTaps_congr {d e : Dev} {l : Nat} (h0 : e.reg (Reg.HST_LANE_TX_FIR0 l) = d.reg (Reg.HST_LANE_TX_FIR0 l))
    (h1 : e.reg (Reg.HST_LANE_TX_FIR1 l) = d.reg (Reg.HST_LANE_TX_FIR1 l)) : e.firTaps l = d.firTaps l := by
  have hget0 : ∀ f : Fld, f.addr = Reg.HST_LANE_TX_FIR0 l → e.getInt f = d.getInt f := fun f hf => by
    rw [Dev.getInt, Dev.get, hf, h0, ← hf]
    rfl
  have hget1 : ∀ f : Fld, f.addr = Reg.HST_LANE_TX_FIR1 l → e.getInt f = d.getInt f := fun f hf => by
    rw [Dev.getInt, Dev.get, hf, h1, ← hf]
    rfl
  rw [Dev.firTaps, hget0 _ rfl, hget0 _ rfl, hget0 _ rfl, hget0 _ rfl, hget1 _ rfl, hget1 _ rfl, Dev.firTaps]

/-- Taps within the peak swing read back (R261). -/
theorem Dev.firTaps_putTaps (d : Dev) (l : Nat) {t : List Int} (hlen : t.length = 6) (h : firSum t ≤ 64) (s : Bool) :
    (d.putTaps l t s).firTaps l = t := by
  obtain ⟨a, b, c, e, f, g, rfl⟩ : ∃ a b c e f g, t = [a, b, c, e, f, g] := by
    match t, hlen with
    | [a, b, c, e, f, g], _ => exact ⟨a, b, c, e, f, g, rfl⟩
  have hsum : a.natAbs + b.natAbs + c.natAbs + e.natAbs + f.natAbs + g.natAbs ≤ 64 := by simpa [firSum] using h
  obtain ⟨h0, h1, h2, h3⟩ := d.putFir0_bytes l [a, b, c, e, f, g]
  obtain ⟨h4, h5⟩ := (d.putFir0 l [a, b, c, e, f, g]).putFir1_bytes l [a, b, c, e, f, g]
  have hback : ∀ (e : Dev) (x : Fld) (i : Int), x.hi - x.lo + 1 = 8 → i.natAbs ≤ 64 → e.get x = ofSigned 8 i % 256 → e.getInt x = i :=
    fun e x i h8 hi hget => by rw [Dev.getInt, h8, hget, toSigned_byte_lt hi]
  have hget0 : ∀ x : Fld, x.addr = Reg.HST_LANE_TX_FIR0 l →
      (d.putTaps l [a, b, c, e, f, g] s).get x = (d.putFir0 l [a, b, c, e, f, g]).get x := fun x hx => by
    rw [Dev.get, hx, Dev.reg_putTaps_fir0, ← hx, Dev.get]
  have hget1 : ∀ x : Fld, x.addr = Reg.HST_LANE_TX_FIR1 l →
      (d.putTaps l [a, b, c, e, f, g] s).get x = ((d.putFir0 l [a, b, c, e, f, g]).putFir1 l [a, b, c, e, f, g]).get x := fun x hx => by
    rw [Dev.get, hx, Dev.reg_putTaps_fir1, ← hx, Dev.get]
  rw [Dev.firTaps, hback _ _ a rfl (by omega) ((hget0 _ rfl).trans h0), hback _ _ b rfl (by omega) ((hget0 _ rfl).trans h1),
    hback _ _ c rfl (by omega) ((hget0 _ rfl).trans h2), hback _ _ e rfl (by omega) ((hget0 _ rfl).trans h3),
    hback _ _ f rfl (by omega) ((hget1 _ rfl).trans h4), hback _ _ g rfl (by omega) ((hget1 _ rfl).trans h5)]

/-- What writing taps within the peak swing shows (R261). -/
theorem Dev.setFir_shows (d : Dev) (l : Nat) {t : List Int} (hlen : t.length = 6) (h : firSum t ≤ 64) :
    (d.setFir l t).firTaps l = t ∧ (d.setFir l t).get (Fld.HST_LANE_STATUS.FIR_SCALED l) = 0 := by
  rw [Dev.setFir_eq h]
  exact ⟨Dev.firTaps_putTaps _ l hlen h false, Dev.get_put_bit _ _ false (Fld.ok_of _ rfl rfl) rfl⟩

/-- The bytes of a word as taps of the first FIR register spell the word. -/
theorem Dev.setFir_word (d : Dev) (l : Nat) (v : Word) {f g : Int} (h : firSum [toSigned 8 v.toNat, toSigned 8 (v.toNat / 256),
    toSigned 8 (v.toNat / 256 ^ 2), toSigned 8 (v.toNat / 256 ^ 3), f, g] ≤ 64) :
    (d.setFir l [toSigned 8 v.toNat, toSigned 8 (v.toNat / 256), toSigned 8 (v.toNat / 256 ^ 2), toSigned 8 (v.toNat / 256 ^ 3), f, g]).reg
      (Reg.HST_LANE_TX_FIR0 l) = v := by
  rw [Dev.setFir_eq h, Dev.reg_putTaps_fir0]
  obtain ⟨h0, h1, h2, h3⟩ := (d.firOwn l).putFir0_bytes l
    [toSigned 8 v.toNat, toSigned 8 (v.toNat / 256), toSigned 8 (v.toNat / 256 ^ 2), toSigned 8 (v.toNat / 256 ^ 3), f, g]
  have hbyte : ∀ n, getBits v (n + 7) n = v.toNat / 2 ^ n % 256 := fun n => by
    have h8 : n + 7 - n + 1 = 8 := by omega
    rw [getBits, h8, BitVec.toNat_ushiftRight, Nat.shiftRight_eq_div_pow]
    rfl
  have hcut : ∀ n, ofSigned 8 (toSigned 8 n) % 256 = n % 256 := fun n => by rw [ofSigned_toSigned_byte, Nat.mod_mod]
  refine eq_of_bytes (h0.trans ?_) (h1.trans ?_) (h2.trans ?_) (h3.trans ?_)
  · exact (hcut _).trans ((hbyte 0).trans (by rw [Nat.pow_zero, Nat.div_one])).symm
  · exact (hcut _).trans (hbyte 8).symm
  · exact (hcut _).trans (hbyte 16).symm
  · exact (hcut _).trans (hbyte 24).symm

/-- The registers that writing taps leaves. -/
theorem Dev.setFir_kept (d : Dev) (l : Nat) (t : List Int) :
    RegsKept [Reg.HST_LANE_TX_FIR0 l, Reg.HST_LANE_TX_FIR1 l, Reg.HST_LANE_STATUS l] d (d.setFir l t) := by
  have hput : ∀ (e : Dev) (s : List Int) (b : Bool), e.regs = d.regs →
      RegsKept [Reg.HST_LANE_TX_FIR0 l, Reg.HST_LANE_TX_FIR1 l, Reg.HST_LANE_STATUS l] d (e.putTaps l s b) := fun e s b he =>
    ((((((((RegsKept.refl _ d).same he).put _ _ (by simp [Fld.HST_LANE_TX_FIR0.CM3])).put _ _ (by simp [Fld.HST_LANE_TX_FIR0.CM2])).put _ _
      (by simp [Fld.HST_LANE_TX_FIR0.CM1])).put _ _ (by simp [Fld.HST_LANE_TX_FIR0.C0])).put _ _ (by simp [Fld.HST_LANE_TX_FIR1.CP1])).put _ _
      (by simp [Fld.HST_LANE_TX_FIR1.CP2])).put _ _ (by simp [Fld.HST_LANE_STATUS.FIR_SCALED])
  by_cases h : firSum t ≤ 64
  · rw [Dev.setFir_eq h]
    exact hput _ _ _ rfl
  · rw [Dev.setFir_scaled (Nat.not_le.mp h)]
    exact hput _ _ _ rfl

/-! ### The training exchange (R259, R260, R262) -/

/-- The lane as the training exchange has set its TX FIR, CTLE and precoding. -/
def Dev.laneTrained (l : Nat) (eq : LaneEq) (d : Dev) : Dev :=
  let d := (d.setFir l eq.fir).setCtle l (some eq)
  d.setHl l { d.hl l with ready := true, precode := eq.precode.toNat }

/-- A lane of the group in TRAIN goes to UP. -/
def Dev.trainUp (d : Dev) (m : Nat) : Dev := if d.laneState m = 2 then d.laneTo m 3 else d

/-- The lanes that train with lane l go to UP once all are ready (R268). -/
def Dev.groupUp (l : Nat) (d : Dev) : Dev :=
  if (d.trainsWith l).all (fun m => d.laneUp m || (d.hl m).ready) then
    (d.trainsWith l).foldl Dev.trainUp d
  else d

theorem Dev.trainDone_eq {d : Dev} {l : Nat} (h : d.laneState l = 2) (eq : LaneEq) :
    d.trainDone l eq = ((d.laneTrained l eq).groupUp l).hstCheck := if_pos h

/-- The fields that the training exchange writes. -/
def exchangeFields (l : Nat) : List Fld := Fld.HST_LANE_RX_EQ.CTLE l :: firFields l

theorem exchangeFields_addr {l : Nat} {f : Fld} (h : f ∈ exchangeFields l) :
    f.addr = Reg.HST_LANE_RX_EQ l ∨ f.addr = Reg.HST_LANE_TX_FIR0 l ∨ f.addr = Reg.HST_LANE_TX_FIR1 l ∨ f.addr = Reg.HST_LANE_STATUS l := by
  obtain rfl | hf := List.mem_cons.mp h
  · exact .inl rfl
  · exact .inr (firFields_addr hf)

theorem exchangeFields_noInts {l : Nat} (f : Fld) (h : f ∈ exchangeFields l) : Reg.HST_INT_STATUS ≠ f.addr := by
  have haddr := exchangeFields_addr h
  unfold Reg.HST_LANE_RX_EQ Reg.HST_LANE_TX_FIR0 Reg.HST_LANE_TX_FIR1 Reg.HST_LANE_STATUS at haddr
  unfold Reg.HST_INT_STATUS
  omega

theorem Dev.laneTrained_moves (d : Dev) (l : Nat) (eq : LaneEq) :
    MovesLane (fun _ => ()) (exchangeFields l) l d (d.laneTrained l eq) := by
  have hfir := (d.setFir_moves l eq.fir).mono (List.subset_cons_self (Fld.HST_LANE_RX_EQ.CTLE l) _) exchangeFields_noInts
  exact (hfir.setCtle (some eq) List.mem_cons_self).forget.setHl _ rfl

theorem Dev.laneTrained_config (d : Dev) {l : Nat} (hl : l < 48) (eq : LaneEq) : SameConfig d (d.laneTrained l eq) := by
  refine (d.laneTrained_moves l eq).writes.regsOut fun a ha => ⟨ha.noInts, ?_⟩
  rintro f hf rfl
  have hr := ha.ranges
  have haddr := exchangeFields_addr hf
  unfold Reg.HST_LANE_RX_EQ Reg.HST_LANE_TX_FIR0 Reg.HST_LANE_TX_FIR1 Reg.HST_LANE_STATUS at haddr
  omega

/-- No lane changes its state in the training exchange. -/
theorem Dev.laneTrained_laneState (d : Dev) (l m : Nat) (eq : LaneEq) : (d.laneTrained l eq).laneState m = d.laneState m := by
  refine (d.laneTrained_moves l eq).writes.kept _ (laneStatus_noInt m) fun f hf => ?_
  have hne : ∀ o, o = 8 ∨ o = 0x10 ∨ o = 0x14 → Reg.HST_LANE_STATUS m ≠ 0x810000 + o + 0x100 * l := by
    unfold Reg.HST_LANE_STATUS
    omega
  simp only [exchangeFields, firFields, List.mem_cons, List.not_mem_nil, or_false] at hf
  obtain rfl | rfl | rfl | rfl | rfl | rfl | rfl | rfl := hf
  · exact .inl (hne 8 (by decide))
  · exact .inl (hne 0x10 (by decide))
  · exact .inl (hne 0x10 (by decide))
  · exact .inl (hne 0x10 (by decide))
  · exact .inl (hne 0x10 (by decide))
  · exact .inl (hne 0x14 (by decide))
  · exact .inl (hne 0x14 (by decide))
  · exact .inr rfl

theorem Dev.laneTrained_ready (d : Dev) (l : Nat) (eq : LaneEq) :
    ((d.laneTrained l eq).hl l).ready = true ∧ ((d.laneTrained l eq).hl l).precode = eq.precode.toNat := by
  rw [Dev.laneTrained, Dev.hl_setHl_self]
  exact ⟨rfl, rfl⟩

/-- The precoding that the exchange gives (R259). -/
theorem Dev.laneTrained_precodeAct (d : Dev) {l : Nat} (hl : l < 48) (eq : LaneEq) :
    (d.laneTrained l eq).precodeAct l % 4 = if 2 ≤ d.laneRole l then 3 else if d.trains l then eq.precode.toNat
      else 2 * d.get (Fld.HST_LANE_CTL.RX_PRECODE l) + d.get (Fld.HST_LANE_CTL.TX_PRECODE l) := by
  have hsame := d.laneTrained_config hl eq
  rw [Dev.precodeAct, hsame.laneRole hl, hsame.trains hl, (d.laneTrained_ready l eq).2, hsame.field hl _ (.inl rfl),
    hsame.field hl _ (.inl rfl)]
  have hrx : d.get (Fld.HST_LANE_CTL.RX_PRECODE l) < 2 := d.get_lt _
  have htx : d.get (Fld.HST_LANE_CTL.TX_PRECODE l) < 2 := d.get_lt _
  have hpre : eq.precode.toNat < 4 := eq.precode.isLt
  split_ifs <;> omega

/-- What the exchange has set stands as the lane goes up. -/
structure KeepsExchange (l : Nat) (d e : Dev) : Prop where
  config : SameConfig d e
  precode : (e.hl l).precode = (d.hl l).precode
  fir0 : e.reg (Reg.HST_LANE_TX_FIR0 l) = d.reg (Reg.HST_LANE_TX_FIR0 l)
  fir1 : e.reg (Reg.HST_LANE_TX_FIR1 l) = d.reg (Reg.HST_LANE_TX_FIR1 l)
  scaled : e.get (Fld.HST_LANE_STATUS.FIR_SCALED l) = d.get (Fld.HST_LANE_STATUS.FIR_SCALED l)

theorem KeepsExchange.refl (l : Nat) (d : Dev) : KeepsExchange l d d := ⟨.refl _ d, rfl, rfl, rfl, rfl⟩

theorem KeepsExchange.trans {l : Nat} {d e f : Dev} (h : KeepsExchange l d e) (k : KeepsExchange l e f) : KeepsExchange l d f :=
  ⟨h.config.trans k.config, k.precode.trans h.precode, k.fir0.trans h.fir0, k.fir1.trans h.fir1, k.scaled.trans h.scaled⟩

theorem SameLane.exchange {l : Nat} {d e : Dev} (h : SameLane l d e) (hl : l < 48) : KeepsExchange l d e :=
  ⟨h.config, congrArg LaneState.precode h.hl, h.regs _ (ownKey_lane hl (.inr (.inl rfl))), h.regs _ (ownKey_lane hl (.inr (.inr (.inl rfl)))),
    h.status hl _ rfl⟩

/-- The FIR registers are no field that a lane writes as it takes a state. -/
theorem Dev.laneTo_exchange (d : Dev) {l : Nat} (hl : l < 48) (st : Nat) : KeepsExchange l d (d.laneTo l st) := by
  have hmoves := d.laneTo_moves l st
  have hreg : ∀ o, o = 0x10 ∨ o = 0x14 → (d.laneTo l st).reg (0x810000 + o + 0x100 * l) = d.reg (0x810000 + o + 0x100 * l) := by
    refine fun o ho => hmoves.writes.reg (by unfold Reg.HST_INT_STATUS; omega) fun f hf haddr => ?_
    have hk := laneKeys_range (laneFields_addr (goFields_sub l hf))
    omega
  exact ⟨hmoves.config (goFields_sub l) hl, hmoves.precode, hreg 0x10 (.inl rfl), hreg 0x14 (.inr rfl), hmoves.status rfl rfl rfl⟩

/-! ### The lanes of a client go up together (R268) -/

theorem Dev.trainUp_sameLane (d : Dev) {l m : Nat} (hm : m < 48) (hml : m ≠ l) : SameLane l d (d.trainUp m) := by
  unfold Dev.trainUp
  split
  · exact (d.laneTo_moves m 3).sameLane (goFields_sub m) hm hml fun f hf => ((KeepsStr.refl d).laneTo m 3).arising f hf
  · exact .refl l d

section
variable {d : Dev} {l : Nat} (hl : l < 48) (hst : d.laneState l = 2)
include hl hst

/-- The group's lanes go up: so does lane l, and what its exchange set stands. -/
theorem Dev.foldl_trainUp :
    ((d.trainsWith l).foldl Dev.trainUp d).laneState l = 3 ∧ ((d.trainsWith l).foldl Dev.trainUp d).bitAt Reg.HST_INT_STATUS 0 = true ∧
      KeepsExchange l d ((d.trainsWith l).foldl Dev.trainUp d) := by
  obtain ⟨e, hbefore, hbehind⟩ := foldl_sameLane (d.trainsWith_nodup l) (d.mem_trainsWith hl)
    (fun e m hm hml => e.trainUp_sameLane (Dev.lt_of_mem_trainsWith hl hm) hml) d
  have he : e.laneState l = 2 := (hbefore.status hl _ rfl).trans hst
  have hup : e.trainUp l = e.laneTo l 3 := if_pos he
  rw [hup] at hbehind
  exact ⟨(hbehind.status hl _ rfl).trans (e.laneState_laneTo l (by decide)), hbehind.ints 0 (Dev.laneTo_up (by rw [he]; decide)),
    ((hbefore.exchange hl).trans (e.laneTo_exchange hl 3)).trans (hbehind.exchange hl)⟩

theorem Dev.groupUp_exchange : KeepsExchange l d (d.groupUp l) := by
  unfold Dev.groupUp
  split
  · exact (Dev.foldl_trainUp hl hst).2.2
  · exact .refl l d

/-- With every lane of the group UP or ready, lane l goes up. -/
theorem Dev.groupUp_goes (hall : ∀ m ∈ d.trainsWith l, d.laneUp m = true ∨ (d.hl m).ready = true) :
    (d.groupUp l).laneState l = 3 ∧ (d.groupUp l).bitAt Reg.HST_INT_STATUS 0 = true := by
  have hgo : (d.trainsWith l).all (fun m => d.laneUp m || (d.hl m).ready) = true :=
    List.all_eq_true.mpr fun m hm => Bool.or_eq_true_iff.mpr (hall m hm)
  obtain ⟨hup, hint, -⟩ := Dev.foldl_trainUp hl hst
  rw [Dev.groupUp, if_pos hgo]
  exact ⟨hup, hint⟩

end

/-- With one lane of the group neither UP nor ready, the others wait in TRAIN. -/
theorem Dev.groupUp_waits {d : Dev} {l m : Nat} (hm : m ∈ d.trainsWith l) (hup : d.laneUp m = false) (hready : (d.hl m).ready = false) :
    d.groupUp l = d := by
  refine if_neg fun hall => ?_
  have := List.all_eq_true.mp hall m hm
  rw [hup, hready] at this
  exact Bool.false_ne_true this

/-! ### The end of training -/

section
variable {d : Dev} {l : Nat} (hl : l < 48) (hst : d.laneState l = 2) (eq : LaneEq)
include hl hst

/-- All lanes that train with lane l are UP or ready: it comes UP (R265, R268). -/
theorem Dev.trainDone_up (hall : ∀ m ∈ d.trainsWith l, m ≠ l → d.laneUp m = true ∨ (d.hl m).ready = true) :
    (d.trainDone l eq).laneState l = 3 ∧ (d.trainDone l eq).bitAt Reg.HST_INT_STATUS 0 = true := by
  have hgroup : ∀ m ∈ (d.laneTrained l eq).trainsWith l, (d.laneTrained l eq).laneUp m = true ∨ ((d.laneTrained l eq).hl m).ready = true := by
    intro m hm
    rw [(d.laneTrained_config hl eq).trainsWith hl] at hm
    by_cases hml : m = l
    · rw [hml]
      exact .inr (d.laneTrained_ready l eq).1
    · rw [Dev.laneUp, d.laneTrained_laneState, (d.laneTrained_moves l eq).others m hml]
      exact hall m hm hml
  obtain ⟨hup, hint⟩ := Dev.groupUp_goes hl ((d.laneTrained_laneState l l eq).trans hst) hgroup
  rw [Dev.trainDone_eq hst, Dev.hstCheck_laneState _ hl]
  exact ⟨hup, Dev.hstCheck_int _ hint⟩

/-- A lane that trains with lane l is neither UP nor ready: lane l waits for it (R268). -/
theorem Dev.trainDone_waits (hex : ∃ m ∈ d.trainsWith l, m ≠ l ∧ d.laneUp m = false ∧ (d.hl m).ready = false) :
    (d.trainDone l eq).laneState l = 2 ∧ ((d.trainDone l eq).hl l).ready = true := by
  obtain ⟨m, hm, hml, hup, hready⟩ := hex
  have hwait : (d.laneTrained l eq).groupUp l = d.laneTrained l eq := by
    refine Dev.groupUp_waits (m := m) ?_ ?_ ?_
    · rwa [(d.laneTrained_config hl eq).trainsWith hl]
    · rwa [Dev.laneUp, d.laneTrained_laneState]
    · rwa [(d.laneTrained_moves l eq).others m hml]
  rw [Dev.trainDone_eq hst, hwait, Dev.hstCheck_laneState _ hl, Dev.hstCheck_hl]
  exact ⟨(d.laneTrained_laneState l l eq).trans hst, (d.laneTrained_ready l eq).1⟩

/-- The precoding in use after training (R259). -/
theorem Dev.trainDone_precode : (d.trainDone l eq).get (Fld.HST_LANE_STATUS.PRECODE_ACT l) =
    if 2 ≤ d.laneRole l then 3 else if d.trains l then eq.precode.toNat
      else 2 * d.get (Fld.HST_LANE_CTL.RX_PRECODE l) + d.get (Fld.HST_LANE_CTL.TX_PRECODE l) := by
  have hkeep := Dev.groupUp_exchange hl ((d.laneTrained_laneState l l eq).trans hst)
  rw [Dev.trainDone_eq hst, Dev.hstCheck_precode _ hl, hkeep.config.precodeAct hl hkeep.precode, d.laneTrained_precodeAct hl]

/-- The taps of the exchange stand in the FIR registers after training (R262). -/
theorem Dev.trainDone_fir (hlen : eq.fir.length = 6) (hsum : firSum eq.fir ≤ 64) :
    (d.trainDone l eq).firTaps l = eq.fir ∧ (d.trainDone l eq).get (Fld.HST_LANE_STATUS.FIR_SCALED l) = 0 := by
  have hkeep := Dev.groupUp_exchange hl ((d.laneTrained_laneState l l eq).trans hst)
  obtain ⟨htaps, hscaled⟩ := d.setFir_shows l hlen hsum
  have hctle : MovesLane LaneState.lasting [Fld.HST_LANE_RX_EQ.CTLE l] l (d.setFir l eq.fir) ((d.setFir l eq.fir).setCtle l (some eq)) :=
    (MovesLane.refl (fun f hf => exchangeFields_noInts f (List.mem_cons.mpr (.inl (List.mem_singleton.mp hf)))) _).setCtle _
      (List.mem_singleton_self _)
  have hreg : ∀ a, (a = Reg.HST_LANE_TX_FIR0 l ∨ a = Reg.HST_LANE_TX_FIR1 l ∨ a = Reg.HST_LANE_STATUS l) →
      (d.laneTrained l eq).reg a = (d.setFir l eq.fir).reg a := by
    intro a ha
    unfold Reg.HST_LANE_TX_FIR0 Reg.HST_LANE_TX_FIR1 Reg.HST_LANE_STATUS at ha
    refine hctle.writes.reg (by unfold Reg.HST_INT_STATUS; omega) fun f hf haddr => ?_
    rw [List.mem_singleton.mp hf] at haddr
    have : Reg.HST_LANE_RX_EQ l = a := haddr
    unfold Reg.HST_LANE_RX_EQ at this
    omega
  rw [Dev.trainDone_eq hst]
  constructor
  · refine (Dev.firTaps_congr ?_ ?_).trans htaps
    · exact (Dev.hstCheck_keeps _).plain _ (plainKey_lane l (o := 0x10) (by decide) (by decide) hl) |>.trans (hkeep.fir0.trans (hreg _ (.inl rfl)))
    · exact (Dev.hstCheck_keeps _).plain _ (plainKey_lane l (o := 0x14) (by decide) (by decide) hl) |>.trans (hkeep.fir1.trans (hreg _ (.inr (.inl rfl))))
  · rw [Dev.hstCheck_status _ (g := Fld.HST_LANE_STATUS.FIR_SCALED l) hl rfl rfl, hkeep.scaled]
    exact (RegsOut.get (p := (· = Reg.HST_LANE_STATUS l)) (fun a ha => hreg a (.inr (.inr ha))) _ rfl).trans hscaled

end

/-! ### The max-wait timer (R266) -/

/-- A lane of the group in TRAIN aborts. -/
def Dev.trainEnds (d : Dev) (m : Nat) : Dev := if d.laneState m = 2 then d.laneBack m else d

theorem Dev.trainTimeout_eq {d : Dev} {l : Nat} (h : d.laneState l = 2) :
    d.trainTimeout l = ((d.trainsWith l).foldl Dev.trainEnds d).hstCheck := if_pos h

theorem Dev.trainEnds_sameLane (d : Dev) {l m : Nat} (hm : m < 48) (hml : m ≠ l) : SameLane l d (d.trainEnds m) := by
  unfold Dev.trainEnds
  split
  · exact (d.laneBack_moves hm).sameLane (List.Subset.refl _) hm hml fun f hf => ((KeepsStr.refl d).laneBack m).arising f hf
  · exact .refl l d

/-- The timer ends the training of lane l: counted, reported, and a Horug lane waits for its retry interval (R266, R267). -/
theorem Dev.trainTimeout_aborts {d : Dev} {l : Nat} (hl : l < 48) (hst : d.laneState l = 2) :
    Arising 256 (d.trainTimeout l) ∧
      (d.trainTimeout l).get (Fld.HST_LANE_TRAIN_CNT.ABORT l) = min (d.get (Fld.HST_LANE_TRAIN_CNT.ABORT l) + 1) 0xFFFF ∧
      (d.laneRole l = 3 → (d.trainTimeout l).laneState l = 1 ∧ ((d.trainTimeout l).hl l).retry = true) := by
  obtain ⟨e, hbefore, hbehind⟩ := foldl_sameLane (d.trainsWith_nodup l) (d.mem_trainsWith hl)
    (fun e m hm hml => e.trainEnds_sameLane (Dev.lt_of_mem_trainsWith hl hm) hml) d
  have he : e.laneState l = 2 := (hbefore.status hl _ rfl).trans hst
  have hback : e.trainEnds l = e.laneBack l := if_pos he
  rw [hback] at hbehind
  have hcount : ∀ {x y : Dev}, SameLane l x y → y.get (Fld.HST_LANE_TRAIN_CNT.ABORT l) = x.get (Fld.HST_LANE_TRAIN_CNT.ABORT l) :=
    fun h => h.regs.get _ (ownKey_lane hl (.inr (.inr (.inr rfl))))
  obtain ⟨harise, habort⟩ := Dev.laneBack_aborts hl he
  rw [Dev.trainTimeout_eq hst]
  refine ⟨Dev.hstCheck_arising _ (hbehind.arising 256 harise), ?_, fun hrole => ?_⟩
  · rw [(Dev.hstCheck_keeps _).plain.get _ (plainKey_lane l (o := 0x30) (by decide) (by decide) hl), hcount hbehind, habort, hcount hbefore]
  · obtain ⟨hlisten, hretry⟩ := Dev.laneBack_retries hl he ((hbefore.config.laneRole hl).trans hrole)
    rw [Dev.hstCheck_laneState _ hl, Dev.hstCheck_hl, hbehind.hl]
    exact ⟨(hbehind.status hl _ rfl).trans hlisten, hretry⟩

end Sys2Proof.Machine
end

section
/-! Host lanes: octets, signal detect, and writes to lanes and clients (R254, R257, R262 to R268), and the obligation. -/

namespace Sys2Proof.Machine

/-! ### The events and writes of lanes -/

section
variable {s : State} (h : Working 8 s)
include h

theorem exec_octetLock (g : Fin 6) : exec (.octetLock g) s = .next { s with dev := s.dev.octetLock g } :=
  runBlock_runs (f := Dev.octetLock g) h.1 h.2

theorem exec_octetUnlock (g : Fin 6) : exec (.octetUnlock g) s = .next { s with dev := s.dev.octetUnlock g } :=
  runBlock_runs (f := Dev.octetUnlock g) h.1 h.2

theorem exec_signalDetect (l : Fin 48) (q : LaneEq) : exec (.signalDetect l q) s = .next { s with dev := s.dev.signalDetect l q } :=
  runBlock_runs (f := Dev.signalDetect l q) h.1 h.2

theorem exec_signalLoss (l : Fin 48) : exec (.signalLoss l) s = .next { s with dev := s.dev.signalLoss l } :=
  runBlock_runs (f := Dev.signalLoss l) h.1 h.2

theorem exec_trainDone (l : Fin 48) (q : LaneEq) : exec (.trainDone l q) s = .next { s with dev := s.dev.trainDone l q } :=
  runBlock_runs (f := Dev.trainDone l q) h.1 h.2

theorem exec_trainTimeout (l : Fin 48) : exec (.trainTimeout l) s = .next { s with dev := s.dev.trainTimeout l } :=
  runBlock_runs (f := Dev.trainTimeout l) h.1 h.2

theorem exec_retryTimer (l : Fin 48) : exec (.retryTimer l) s = .next { s with dev := s.dev.retryTimer l } :=
  runBlock_runs (f := Dev.retryTimer l) h.1 h.2

end

section
variable {s : State} {req : Requester} (h : Writable req 8 s)
include h

theorem exec_octetRelock (g : Fin 6) (v : Word) : exec (.octetRelock req g v) s = .next { s with dev := s.dev.octetWrite g v } :=
  runWrite_runs (f := Dev.octetWrite g v) h.1 h.2

theorem exec_laneRestart (l : Fin 48) : exec (.laneRestart req l) s = .next { s with dev := s.dev.laneRestart l } :=
  runWrite_runs (f := Dev.laneRestart l) h.1 h.2

theorem exec_laneCtlWrite (w : LaneWrite) : exec (.laneCtlWrite req w) s = .next { s with dev := s.dev.laneCtlWrite w } :=
  runWrite_runs (f := Dev.laneCtlWrite w) h.1 h.2

theorem exec_txFirWrite (l : Fin 48) (r : Fin 2) (v : Word) :
    exec (.txFirWrite req l r v) s = .next { s with dev := s.dev.txFirWrite l r v } := runWrite_runs (f := Dev.txFirWrite l r v) h.1 h.2

end

/-! ### Octets (R254, R257) -/

theorem Dev.laneBack_config (d : Dev) {l : Nat} (hl : l < 48) : SameConfig d (d.laneBack l) :=
  (d.laneBack_moves hl).config (List.Subset.refl _) hl

theorem Dev.laneGo_config (d : Dev) {l : Nat} (hl : l < 48) (eq : Option LaneEq) : SameConfig d (d.laneGo l eq) :=
  (d.laneGo_moves l eq).config (goFields_sub l) hl

/-- Changes of the eight lanes of an octet that leave the configuration. -/
theorem SameConfig.octetLanes {f : Dev → Nat → Dev} {g : Nat} (hg : g < 6) (hf : ∀ (d : Dev) (l : Nat), l < 48 → SameConfig d (f d l))
    (d : Dev) : SameConfig d (Dev.forUpTo 8 (fun d i => f d (8 * g + i)) d) :=
  RegsOut.forUpTo 8 _ (fun e i hi he => RegsOut.trans he (hf e (8 * g + i) (by omega))) (.refl _ d)

theorem octetCtl_ne_status {g : Nat} (hg : g < 6) : Reg.HST_OCTET_CTL g ≠ Reg.HST_OCTET_STATUS := by
  unfold Reg.HST_OCTET_CTL Reg.HST_OCTET_STATUS
  omega

/-- A write of OCTET_CTL stores the word; where RATE or EN changes, the lock is lost. -/
theorem Dev.octetWrite_shows (d : Dev) {g : Nat} (hg : g < 6) (v : Word) :
    (d.octetWrite g v).reg (Reg.HST_OCTET_CTL g) = (d.storeRw (Reg.HST_OCTET_CTL g) v).reg (Reg.HST_OCTET_CTL g) ∧
      ((d.storeRw (Reg.HST_OCTET_CTL g) v).octetEn g ≠ d.octetEn g ∨ (d.storeRw (Reg.HST_OCTET_CTL g) v).octetHalf g ≠ d.octetHalf g →
        (d.octetWrite g v).octetLocked g = false) := by
  have hplain := plainKey_octet (octetCtl_le hg)
  unfold Dev.octetWrite
  extract_lets en half e
  by_cases hsame : e.octetEn g = en ∧ e.octetHalf g = half
  · rw [if_pos hsame]
    refine ⟨e.hstCheck_keeps.plain _ hplain, fun hchange => ?_⟩
    obtain hen | hhalf := hchange
    · exact absurd hsame.1 hen
    · exact absurd hsame.2 hhalf
  · have hlanes := SameConfig.octetLanes hg (fun d l hl => d.laneBack_config hl) (e.clrBit Reg.HST_OCTET_STATUS g)
    rw [if_neg hsame]
    refine ⟨(Dev.hstCheck_keeps _).plain _ hplain |>.trans ?_, fun _ => ?_⟩
    · exact (hlanes _ (.inr (.inr (.inr (.inl ⟨g, hg, rfl⟩))))).trans (Dev.reg_setReg_ne _ _ (octetCtl_ne_status hg))
    · rw [Dev.hstCheck_octetLocked, hlanes.octetLocked]
      exact Dev.bitAt_clrBit_self e _ g

theorem Dev.octetLock_locks {d : Dev} {g : Nat} (hg : g < 6) (hen : d.octetEn g = true) (hun : d.octetLocked g = false) :
    (d.octetLock g).octetLocked g = true := by
  have hgo : (d.octetEn g && !d.octetLocked g) = true := by rw [hen, hun]; rfl
  rw [Dev.octetLock, if_pos hgo, Dev.hstCheck_octetLocked,
    (SameConfig.octetLanes hg (fun d l hl => d.laneGo_config hl none) (d.setBit Reg.HST_OCTET_STATUS g)).octetLocked]
  exact Dev.bitAt_setBit_self d _ g (by omega)

theorem Dev.octetUnlock_unlocks {d : Dev} {g : Nat} (hg : g < 6) (hen : d.octetEn g = true) (hlock : d.octetLocked g = true) :
    (d.octetUnlock g).octetLocked g = false ∧ Present 258 (d.octetUnlock g) := by
  have hgo : (d.octetEn g && d.octetLocked g) = true := by rw [hen, hlock]; rfl
  have hun : (d.clrBit Reg.HST_OCTET_STATUS g).octetLocked g = false := Dev.bitAt_clrBit_self d _ g
  have hen' : (d.clrBit Reg.HST_OCTET_STATUS g).octetEn g = true := by
    have hctl : (d.clrBit Reg.HST_OCTET_STATUS g).reg (Fld.HST_OCTET_CTL.EN g).addr = d.reg (Fld.HST_OCTET_CTL.EN g).addr :=
      Dev.reg_setReg_ne _ _ (octetCtl_ne_status hg)
    rw [Dev.octetEn, Dev.isSet, Dev.get, hctl]
    exact hen
  rw [Dev.octetUnlock, if_pos hgo]
  exact ⟨(Dev.hstCheck_octetLocked _ g).trans hun, Dev.hstCheck_unlocked hg hen' hun⟩

/-! ### Signal detect, and the retry timer (R264 to R267) -/

/-- A lane's status is no part of the configuration. -/
theorem SameConfig.putStatus (d : Dev) (l : Nat) {f : Fld} (hf : f.addr = Reg.HST_LANE_STATUS l) (v : Nat) (hl : l < 48) :
    SameConfig d (d.put f v) := by
  refine (RegsOut.refl _ d).put f v fun a ha => ?_
  have hr := ha.ranges
  rw [hf]
  unfold Reg.HST_LANE_STATUS
  omega

theorem Dev.signalDetect_goes {d : Dev} {l : Nat} (hl : l < 48) (q : LaneEq) (hst : d.laneState l = 1) (hretry : (d.hl l).retry = false)
    (hlock : d.octetLocked (l / 8) = true) :
    (d.signalDetect l q).get (Fld.HST_LANE_STATUS.SD l) = 1 ∧ (d.signalDetect l q).laneState l = if d.trains l then 2 else 3 := by
  have hsame := SameConfig.putStatus d l (f := Fld.HST_LANE_STATUS.SD l) rfl 1 hl
  have hsd : (d.put (Fld.HST_LANE_STATUS.SD l) 1).get (Fld.HST_LANE_STATUS.SD l) = 1 := Dev.get_put_self d _ 1 (Fld.ok_of _ rfl rfl)
  have hlisten : (d.put (Fld.HST_LANE_STATUS.SD l) 1).laneState l = 1 := (Dev.get_put_apart d 1 rfl).trans hst
  rw [Dev.signalDetect, Dev.hstCheck_laneState _ hl, Dev.hstCheck_status _ (g := Fld.HST_LANE_STATUS.SD l) hl rfl rfl]
  refine ⟨(Dev.laneGo_moves _ l _).signal.trans hsd, ?_⟩
  rw [Dev.laneGo_goes hlisten hsd hretry ((hsame.octetLocked _).trans hlock), hsame.trains hl]

/-- A lane that is UP and loses its signal returns to rest (R265). -/
theorem Dev.signalLoss_returns {d : Dev} {l : Nat} (hl : l < 48) (hup : d.laneState l = 3) :
    (d.signalLoss l).get (Fld.HST_LANE_STATUS.SD l) = 0 ∧ (d.signalLoss l).laneState l = d.laneHome l ∧
      (d.signalLoss l).get (Fld.HST_LANE_TRAIN_CNT.LINK_DOWN l) = min (d.get (Fld.HST_LANE_TRAIN_CNT.LINK_DOWN l) + 1) 0xFFFF ∧
      (d.signalLoss l).bitAt Reg.HST_INT_STATUS 1 = true := by
  have hsame := SameConfig.putStatus d l (f := Fld.HST_LANE_STATUS.SD l) rfl 0 hl
  have hsd : (d.put (Fld.HST_LANE_STATUS.SD l) 0).get (Fld.HST_LANE_STATUS.SD l) = 0 := Dev.get_put_self d _ 0 (Fld.ok_of _ rfl rfl)
  have hup' : (d.put (Fld.HST_LANE_STATUS.SD l) 0).laneState l = 3 := (Dev.get_put_apart d 0 rfl).trans hup
  have hcnt : (d.put (Fld.HST_LANE_STATUS.SD l) 0).get (Fld.HST_LANE_TRAIN_CNT.LINK_DOWN l) = d.get (Fld.HST_LANE_TRAIN_CNT.LINK_DOWN l) :=
    Dev.get_put_elsewhere d 0 (by
      show Reg.HST_LANE_TRAIN_CNT l ≠ Reg.HST_LANE_STATUS l
      unfold Reg.HST_LANE_TRAIN_CNT Reg.HST_LANE_STATUS
      omega)
  obtain ⟨hdown, hint⟩ := Dev.laneBack_linkDown hl hsd hup'
  have heq : d.signalLoss l = ((d.put (Fld.HST_LANE_STATUS.SD l) 0).laneBack l).hstCheck := by
    unfold Dev.signalLoss
    dsimp only
    rw [if_pos (.inr hup')]
  rw [heq, Dev.hstCheck_laneState _ hl, Dev.hstCheck_status _ (g := Fld.HST_LANE_STATUS.SD l) hl rfl rfl,
    (Dev.hstCheck_keeps _).plain.get _ (plainKey_lane l (o := 0x30) (by decide) (by decide) hl), hdown, hcnt, Dev.laneState_laneBack hl hsd, hsame.laneHome hl]
  refine ⟨?_, rfl, rfl, Dev.hstCheck_int _ hint⟩
  rw [Dev.laneBack_silent hl hsd, (Dev.laneTo_moves _ l _).signal, Dev.backFrom_status _ l rfl rfl, hsd]

/-- The retry interval of a lane with signal ends: it trains again (R267). -/
theorem Dev.retryTimer_trains {d : Dev} {l : Nat} (hl : l < 48) (hst : d.laneState l = 1) (hsd : d.get (Fld.HST_LANE_STATUS.SD l) = 1)
    (hlock : d.octetLocked (l / 8) = true) (htrain : d.trains l = true) :
    (d.retryTimer l).laneState l = 2 ∧ ((d.retryTimer l).hl l).retry = false := by
  have hover : ((d.setHl l { d.hl l with retry := false }).hl l).retry = false := by rw [Dev.hl_setHl_self]
  have hgo := Dev.laneGo_goes (d := d.setHl l { d.hl l with retry := false }) hst hsd hover hlock none
  have htrain' : (d.setHl l { d.hl l with retry := false }).trains l = true := htrain
  rw [htrain', if_pos rfl] at hgo
  rw [Dev.retryTimer, Dev.hstCheck_laneState _ hl, Dev.hstCheck_hl]
  exact ⟨hgo, (Dev.laneGo_moves _ l none).retry.trans hover⟩

/-! ### Writes to lanes and clients (R263) -/

/-- RESTART of a lane without signal returns it to LISTEN. -/
theorem Dev.laneRestart_listens {d : Dev} {l : Nat} (hl : l < 48) (hst : 1 ≤ d.laneState l ∧ d.laneState l ≤ 3)
    (hsd : d.get (Fld.HST_LANE_STATUS.SD l) = 0) : (d.laneRestart l).laneState l = 1 := by
  have hstay : (d.laneTo l 1).laneGo l = d.laneTo l 1 := by
    refine Dev.laneGo_waits (.inl ?_) none
    rw [Dev.isSet, (d.laneTo_moves l 1).signal, hsd]
    rfl
  rw [Dev.laneRestart, if_pos hst, hstay, Dev.hstCheck_laneState _ hl]
  exact d.laneState_laneTo l (by decide)

/-- A write of LANE_CTL without RESTART: a change returns a lane without signal to rest. -/
theorem Dev.laneCtl_shows {d : Dev} {l : Nat} (hl : l < 48) {v : Word} (hsd : d.get (Fld.HST_LANE_STATUS.SD l) = 0)
    (hv : v.getLsbD 31 = false) :
    (d.laneCtl l v).reg (Reg.HST_LANE_CTL l) = (d.storeRw (Reg.HST_LANE_CTL l) v).reg (Reg.HST_LANE_CTL l) ∧
      (d.laneCtl l v).laneState l =
        if (d.storeRw (Reg.HST_LANE_CTL l) v).reg (Reg.HST_LANE_CTL l) = d.reg (Reg.HST_LANE_CTL l) then d.laneState l
        else (d.storeRw (Reg.HST_LANE_CTL l) v).laneHome l := by
  have hkey : ConfigKey (Reg.HST_LANE_CTL l) := .inr (.inr (.inr (.inr ⟨l, hl, .inl rfl⟩)))
  have hplain : PlainKey (Reg.HST_LANE_CTL l) := plainKey_lane l (o := 0) (by decide) (by decide) hl
  have hstored : ∀ f : Fld, f.addr = Reg.HST_LANE_STATUS l → (d.storeRw (Reg.HST_LANE_CTL l) v).get f = d.get f := by
    refine fun f hf => RegsOut.get (p := (· ≠ Reg.HST_LANE_CTL l)) (fun a ha => Dev.reg_storeRw_ne d v ha) f ?_
    rw [hf]
    unfold Reg.HST_LANE_STATUS Reg.HST_LANE_CTL
    omega
  have hrestart : ¬ v.getLsbD 31 = true := by rw [hv]; exact Bool.false_ne_true
  unfold Dev.laneCtl
  extract_lets old e e'
  rw [if_neg hrestart, Dev.hstCheck_laneState _ hl, (Dev.hstCheck_keeps _).plain _ hplain]
  by_cases hsame : e.reg (Reg.HST_LANE_CTL l) = old
  · have he : e' = e := if_pos hsame
    rw [he, if_pos hsame]
    exact ⟨rfl, hstored _ rfl⟩
  · have he : e' = e.laneBack l := if_neg hsame
    rw [he, if_neg hsame]
    exact ⟨e.laneBack_config hl _ hkey, Dev.laneState_laneBack hl ((hstored _ rfl).trans hsd)⟩

/-- CNT_CLR of a client leaves its control register. -/
theorem Dev.clientCntClr_ctl (d : Dev) (c : Nat) : (d.clientCntClr c).reg (Reg.HST_CLIENT_CTL c) = d.reg (Reg.HST_CLIENT_CTL c) := by
  refine RegsOut.forUpTo (p := (· = Reg.HST_CLIENT_CTL c)) 3 _ (fun e i _ he => he.setReg64 _ _ fun a ha => ?_) (.refl _ d) _ rfl
  rw [ha]
  unfold Reg.HST_CLIENT_CTL Reg.HST_CLIENT_CW_LO
  omega

/-- A write of CLIENT_CTL stores the word. -/
theorem Dev.clientCtl_stores (d : Dev) {c : Nat} (hc : c < 48) (v : Word) :
    (d.clientCtl c v).reg (Reg.HST_CLIENT_CTL c) = (d.storeRw (Reg.HST_CLIENT_CTL c) v).reg (Reg.HST_CLIENT_CTL c) := by
  have hkey : ConfigKey (Reg.HST_CLIENT_CTL c) := .inr (.inr (.inr (.inr ⟨c, hc, .inr (.inr rfl)⟩)))
  have hlanes : ∀ (p : Nat → Bool) (e : Dev), SameConfig e (((List.range 48).filter p).foldl
      (fun d l => if d.laneRole l = 1 then d.laneBack l else d) e) := fun p e =>
    RegsOut.foldl _ _ (fun x l hl hx => by
      split
      · exact RegsOut.trans hx (x.laneBack_config (List.mem_range.mp (List.mem_filter.mp hl).1))
      · exact hx) (.refl _ e)
  unfold Dev.clientCtl
  extract_lets old had e e'
  have he : e'.reg (Reg.HST_CLIENT_CTL c) = e.reg (Reg.HST_CLIENT_CTL c) := by
    unfold e'
    split
    · rfl
    · exact hlanes _ e _ hkey
  refine ((Dev.hstCheck_keeps _).plain _ (plainKey_clientCtl hc)).trans ?_
  split
  · exact (e'.clientCntClr_ctl c).trans he
  · exact he

/-! ### Writes of the TX FIR (R261, R262) -/

/-- With the taps of the registers in use, a write of the TX FIR replaces those of its register. -/
theorem Dev.txFirWrite_own {d : Dev} {l : Nat} (hst : d.laneState l ≠ 2) (hfir : (d.hl l).firAt = none) (v : Word) :
    d.txFirWrite l 0 v = d.setFir l [toSigned 8 v.toNat, toSigned 8 (v.toNat / 256), toSigned 8 (v.toNat / 256 ^ 2),
        toSigned 8 (v.toNat / 256 ^ 3), d.getInt (Fld.HST_LANE_TX_FIR1.CP1 l), d.getInt (Fld.HST_LANE_TX_FIR1.CP2 l)] ∧
      d.txFirWrite l 1 v = d.setFir l ((d.firTaps l).take 4 ++ [toSigned 8 v.toNat, toSigned 8 (v.toNat / 256)]) := by
  have huse : d.firInUse l = d.firTaps l := by rw [Dev.firInUse, if_neg hst, hfir]
  have hfirst : v.toNat / 256 ^ 0 = v.toNat := by rw [Nat.pow_zero, Nat.div_one]
  have hsecond : v.toNat / 256 ^ 1 = v.toNat / 256 := by rw [Nat.pow_one]
  unfold Dev.txFirWrite Dev.txFirStore
  rw [if_neg hst, if_neg hst, huse]
  dsimp only
  rw [hfirst, hsecond, if_pos rfl, if_neg Nat.one_ne_zero]
  exact ⟨rfl, rfl⟩

/-! ### O34 -/

/-- Settles O34: what a lane shows after a change of its own stands through the changes of the lanes beside it, and while the block is
brought up to date. -/
theorem lanesTrainAndComeUp : Obligations.LanesTrainAndComeUp := by
  refine ⟨fun s req g v hwrite => ?relock, fun s g hwork hen => ⟨fun hun => ?locks, fun hlock => ?unlocks⟩,
    fun s l q hwork hst hretry hlock => ?detects, fun s l hwork hup => ?loses,
    fun s l q hwork => ⟨fun hst => ?noTraining, fun hst => ⟨?trained, ?timedOut⟩⟩, fun s l hwork hst hsd hlock htrain => ?retries,
    fun s req l hwrite hlo hhi hsd => ?restarts, fun s req l v hwrite hsd hv => ?laneWrite, fun s req c v hwrite => ?clientWrite,
    fun s req l r v hwrite hst => ?firRefused, fun s req l v hwrite hst hfir => ⟨fun hsum => ?fir0, fun hsum => ?fir1⟩⟩
  case relock => exact ⟨_, exec_octetRelock hwrite g v, ⟨rfl, rfl, rfl⟩, s.dev.octetWrite_shows g.isLt v⟩
  case locks => exact ⟨_, exec_octetLock hwork g, ⟨rfl, rfl, rfl⟩, Dev.octetLock_locks g.isLt hen hun⟩
  case unlocks => exact ⟨_, exec_octetUnlock hwork g, ⟨rfl, rfl, rfl⟩, Dev.octetUnlock_unlocks g.isLt hen hlock⟩
  case detects => exact ⟨_, exec_signalDetect hwork l q, ⟨rfl, rfl, rfl⟩, Dev.signalDetect_goes l.isLt q hst hretry hlock⟩
  case loses => exact ⟨_, exec_signalLoss hwork l, ⟨rfl, rfl, rfl⟩, Dev.signalLoss_returns l.isLt hup⟩
  case noTraining =>
    have hdone : s.dev.trainDone l q = s.dev := if_neg hst
    have htimeout : s.dev.trainTimeout l = s.dev := if_neg hst
    rw [exec_trainDone hwork, exec_trainTimeout hwork, hdone, htimeout]
    exact ⟨rfl, rfl⟩
  case trained =>
    exact ⟨_, exec_trainDone hwork l q, ⟨rfl, rfl, rfl⟩, Dev.trainDone_up l.isLt hst q, Dev.trainDone_waits l.isLt hst q,
      Dev.trainDone_precode l.isLt hst q, Dev.trainDone_fir l.isLt hst q⟩
  case timedOut => exact ⟨_, exec_trainTimeout hwork l, ⟨rfl, rfl, rfl⟩, Dev.trainTimeout_aborts l.isLt hst⟩
  case retries => exact ⟨_, exec_retryTimer hwork l, ⟨rfl, rfl, rfl⟩, Dev.retryTimer_trains l.isLt hst hsd hlock htrain⟩
  case restarts => exact ⟨_, exec_laneRestart hwrite l, ⟨rfl, rfl, rfl⟩, Dev.laneRestart_listens l.isLt ⟨hlo, hhi⟩ hsd⟩
  case laneWrite => exact ⟨_, exec_laneCtlWrite hwrite _, ⟨rfl, rfl, rfl⟩, Dev.laneCtl_shows l.isLt hsd hv⟩
  case clientWrite => exact ⟨_, exec_laneCtlWrite hwrite _, ⟨rfl, rfl, rfl⟩, s.dev.clientCtl_stores c.isLt v⟩
  case firRefused =>
    refine ⟨_, exec_txFirWrite hwrite l r v, ?_⟩
    rw [Dev.txFirWrite, if_pos hst]
    exact ⟨Dev.get_put_self _ _ _ (Fld.ok_of _ rfl rfl), .ofDev ((RegsKept.refl _ _).put _ _ (List.mem_singleton_self _))⟩
  case fir0 =>
    refine ⟨_, exec_txFirWrite hwrite l 0 v, ?_⟩
    rw [show s.dev.txFirWrite l (0 : Fin 2) v = _ from (Dev.txFirWrite_own hst hfir v).1]
    exact ⟨Dev.setFir_word _ l v hsum, (Dev.setFir_shows _ l rfl hsum).2, .ofDev (Dev.setFir_kept _ l _)⟩
  case fir1 =>
    obtain ⟨htaps, hscaled⟩ := s.dev.setFir_shows l (t := (s.dev.firTaps l).take 4 ++ _) rfl hsum
    refine ⟨_, exec_txFirWrite hwrite l 1 v, ?_⟩
    rw [show s.dev.txFirWrite l (1 : Fin 2) v = _ from (Dev.txFirWrite_own hst hfir v).2]
    exact ⟨htaps, hscaled, .ofDev (Dev.setFir_kept _ l _)⟩

end Sys2Proof.Machine
end

section
/-! Refutation: EN of a queue is written while its RMS_Q_DESC0 is listed twice among the pending values (R305, R312). -/

namespace Sys2Proof.Machine

/-- Queue 5 is declared, EN is 0, and its RMS_Q_DESC0 is listed twice among the pending values. -/
def doublyPending : State :=
  { State.reset with dev := { State.reset.dev.put (Fld.RMS_Q_DESC0.TYPE 5) 2 with
    shadow := [(Reg.RMS_Q_DESC0 5, 0), (Reg.RMS_Q_DESC0 5, 0)] } }

/-- The queue may be written, no operation of it waits, and neither a hold nor a commit keeps its fields. -/
theorem writable_doublyPending :
    Writable .trusted 9 doublyPending ∧ doublyPending.dev.qType (5 : Fin 65536) ≠ 0 ∧ doublyPending.dev.qWaiting (5 : Fin 65536) = false ∧
      doublyPending.dev.held? 9 = false ∧ doublyPending.dev.waitsForCommit (Reg.RMS_Q_DESC0 (5 : Fin 65536)) = false := by
  decide +kernel

/-- A write replaces the first of the two values: the second, where EN is 0, is still to be copied after it. -/
theorem shadow_doublyPending : (doublyPending.dev.setShadow (Reg.RMS_Q_DESC0 5) (setBits 0 24 24 1)).shadow =
    [(Reg.RMS_Q_DESC0 5, setBits 0 24 24 1), (Reg.RMS_Q_DESC0 5, 0)] := rfl

/-- The second value undoes what the first one wrote. -/
theorem queueEnable_doublyPending : (State.queueEnable .trusted 5 true doublyPending).dev.get (Fld.RMS_Q_DESC0.EN 5) = 0 := by
  decide +kernel

theorem exec_qEnWrite {s : State} (h : Running s) (req : Requester) (q : Fin 65536) (en : Bool) :
    exec (.qEnWrite req q en) s = .next (State.queueEnable req q en s) := runState_alive h

/-- Refutes O39: of a queue whose RMS_Q_DESC0 is pending twice, the older value is copied last, and EN does not show what was written. -/
theorem not_carouselsArmTriggerAndStop : ¬ Obligations.CarouselsArmTriggerAndStop := by
  rintro ⟨-, henable, -⟩
  obtain ⟨hwrite, htype, hwaiting, hheld, hcommit⟩ := writable_doublyPending
  obtain ⟨-, -, hatOnce⟩ := henable doublyPending .trusted 5 true hwrite
  obtain ⟨t, ht, hen, -⟩ := hatOnce htype hwaiting hheld hcommit
  obtain rfl : State.queueEnable .trusted 5 true doublyPending = t :=
    Host.Outcome.next.inj ((exec_qEnWrite hwrite.1 .trusted 5 true).symm.trans ht)
  exact absurd (queueEnable_doublyPending.symm.trans hen) (by decide)

end Sys2Proof.Machine
end

section
/-! Refutation: a STREAM frame is placed behind a skipped SEQ while the table of queues is out of order (R289, R321). -/

namespace Sys2Proof.Machine

/-- Queue 7 reserves all free pages but one. Queue 5 has one page, full up to its TAIL, waits for SEQ 3, and holds frame 4; the table lists
it behind queue 7. -/
def lastPoolPage : State :=
  let d : Dev := { State.reset.dev with rms := { State.reset.dev.rms with queues := [(7, { region := 3 }),
    (5, { region := 3, pages := [{ lpage := 0, phys := 7 }], rxNext := some 3, rxHeld := [(4, none, [1])] })] } }
  let d := (d.put (Fld.RMS_Q_DESC1.RESERVE 7) (hbmPages - 2)).put (Fld.RMS_Q_DESC1.QUOTA 5) 4
  { State.reset with dev := d.setReg64 (Reg.RMS_Q_TAIL_LO 5) pageGranules }

/-- SEQ 3 is missing, frame 4 alone is held, and it has space: the one page that it needs can be had. -/
theorem working_lastPoolPage :
    Working 9 lastPoolPage ∧ (lastPoolPage.dev.q (5 : Fin 65536)).rxNext = some 3 ∧ (lastPoolPage.dev.q (5 : Fin 65536)).rxHeld ≠ [] ∧
      (lastPoolPage.dev.q (5 : Fin 65536)).rxHeld.find? (fun e => e.1 == (3 + 1) % 2 ^ 32) = some (4, none, [1]) ∧
      (lastPoolPage.dev.q (5 : Fin 65536)).rxHeld.find? (fun e => e.1 == ((3 + 1) % 2 ^ 32 + 1) % 2 ^ 32) = none ∧
      lastPoolPage.dev.qTail (5 : Fin 65536) + ([1#8].length + 63) / 64 ≤
        lastPoolPage.dev.qHead (5 : Fin 65536) + pageGranules * lastPoolPage.dev.qQuota (5 : Fin 65536) ∧
      lastPoolPage.dev.canTake (5 : Fin 65536) (lastPoolPage.dev.missingPages (5 : Fin 65536) (lastPoolPage.dev.qTail (5 : Fin 65536) * 64)
        (lastPoolPage.dev.qTail (5 : Fin 65536) * 64 + 64 * (([1#8].length + 63) / 64))).length = true := by
  decide +kernel

/-- Queue 5 written back as it is stands before queue 7 too: its page counts twice, and the pool has none left. -/
theorem canTake_lastPoolPage :
    lastPoolPage.dev.canTake 5 1 = true ∧ (lastPoolPage.dev.setQ 5 (lastPoolPage.dev.q 5)).canTake 5 1 = false := by
  decide +kernel

/-- So the frame is dropped, and TAIL stays. -/
theorem streamSkip_lastPoolPage : (State.streamSkip 5 lastPoolPage).dev.qTail 5 = pageGranules ∧ lastPoolPage.dev.qTail 5 = pageGranules := by
  decide +kernel

theorem exec_streamSeqTimeout {s : State} (h : Working 9 s) (q : Fin 65536) :
    exec (.streamSeqTimeout q) s = .next (State.streamSkip q s) := runBlockState_runs h.1 h.2

/-- Refutes O41: with a table of queues out of order, the skip of a SEQ lists the queue a second time, and the held frame that had space
is dropped. -/
theorem not_recordsReachQueuesAndLanes : ¬ Obligations.RecordsReachQueuesAndLanes := by
  rintro ⟨-, hskip, -⟩
  obtain ⟨hwork, hnext, hheld, hframe, hlast, hspace, hpages⟩ := working_lastPoolPage
  obtain ⟨-, -, hmissing⟩ := hskip lastPoolPage 5 hwork
  obtain ⟨t, ht, -, -, -, hplaced⟩ := hmissing 3 hnext hheld
  obtain ⟨-, htail, -⟩ := hplaced (4, none, [1]) hframe hlast hspace hpages
  obtain rfl : State.streamSkip 5 lastPoolPage = t := Host.Outcome.next.inj ((exec_streamSeqTimeout hwork 5).symm.trans ht)
  obtain ⟨hafter, hbefore⟩ := streamSkip_lastPoolPage
  change (State.streamSkip 5 lastPoolPage).dev.qTail 5 = (lastPoolPage.dev.qTail 5 + 1) % 2 ^ 64 at htail
  rw [hafter, hbefore] at htail
  exact absurd htail (by decide)

end Sys2Proof.Machine
end

section
/-! Queues of block RMS (10_ringmaster.md): what events, pages, positions and doorbells of a queue show, and what they leave (R288 to R296). -/

namespace Sys2Proof.Machine

/-! ### Runs of changes -/

/-- A run of changes that each leave what is seen of the device. -/
theorem foldl_leaves {α β γ : Type} {f : β → α → β} (view : β → γ) (hf : ∀ b a, view (f b a) = view b) (l : List α) (b : β) :
    view (l.foldl f b) = view b := by
  induction l generalizing b with
  | nil => rfl
  | cons a l ih => exact (ih (f b a)).trans (hf b a)

theorem RegsKept.foldl {α : Type} {l : List Nat} {d e : Dev} (h : RegsKept l d e) {f : Dev → α → Dev} {m : List α}
    (hf : ∀ {e} a, RegsKept l d e → RegsKept l d (f e a)) : RegsKept l d (m.foldl f e) :=
  RegsOut.foldl f m (fun _ a _ he => hf a he) h

/-! ### Events of a queue -/

/-- The registers in which an event of a queue shows. -/
abbrev eventRegs (q : Nat) : List Nat := [Reg.RMS_Q_EVT q, Reg.RMS_INT_STATUS]

/-- The registers in which a queue that loses pages shows it. -/
abbrev pageRegsOf (q : Nat) : List Nat := Reg.RMS_Q_STATE q :: eventRegs q

theorem qEvt_ne_int (q : Nat) : Reg.RMS_Q_EVT q ≠ Reg.RMS_INT_STATUS := by unfold Reg.RMS_Q_EVT Reg.RMS_INT_STATUS; omega

@[simp] theorem Dev.qEvt_rms (d : Dev) (q i : Nat) : (d.qEvt q i).rms = d.rms := by
  have hset : (d.qEvtSet q i).rms = d.rms := by rw [Dev.qEvtSet, Dev.tapEvent_rms, Dev.setInt_rms, Dev.setBit_rms]
  obtain h | h | ⟨v, h⟩ := d.qEvt_cases q i
  · rw [h]
  · rw [h, hset]
  · rw [h, Dev.sendMsix_rms, hset]

/-- The event is set. -/
theorem Dev.bitAt_qEvt_self (d : Dev) (q : Nat) {i : Nat} (hi : i < 32) : (d.qEvt q i).bitAt (Reg.RMS_Q_EVT q) i = true := by
  have hset : (d.qEvtSet q i).bitAt (Reg.RMS_Q_EVT q) i = true :=
    (Dev.bitAt_setInt_ne _ intRMS 0 (qEvt_ne_int q)).trans (Dev.bitAt_setBit_self d _ i hi)
  unfold Dev.qEvt
  split
  case isTrue h => exact h
  case isFalse => dsimp only; split <;> exact hset

section
variable {l : List Nat} {d e : Dev} (h : RegsKept l d e)
include h

theorem RegsKept.qEvt {q : Nat} (i : Nat) (hq : eventRegs q ⊆ l) : RegsKept l d (e.qEvt q i) := by
  have hset : RegsKept l d (e.qEvtSet q i) :=
    ((h.setBit (Reg.RMS_Q_EVT q) i (hq (by simp))).setInt intRMS 0 (hq (by simp [intRMS]))).same
  obtain heq | heq | ⟨v, heq⟩ := e.qEvt_cases q i <;> rw [heq]
  exacts [h, hset, hset.same]

theorem RegsKept.watermarks {q : Nat} (before : Nat) (hq : eventRegs q ⊆ l) : RegsKept l d (e.watermarks q before) := by
  unfold Dev.watermarks
  extract_lets now d1
  have h1 : RegsKept l d d1 := (h.qEvt 1 hq).ite h
  exact (h1.qEvt 2 hq).ite h1

/-! ### Pages (R288, R289, R292) -/

theorem RegsKept.takePage {q : Nat} (k : Nat) (hq : eventRegs q ⊆ l) : RegsKept l d (e.takePage q k) :=
  RegsKept.watermarks (e := e.drawPage.2.setQ q _) h.same _ hq

theorem RegsKept.poolCheck : RegsKept l d e.poolCheck := RegsKept.ite h.same h

theorem RegsKept.releasePage {q : Nat} (k : Nat) (hq : pageRegsOf q ⊆ l) : RegsKept l d (e.releasePage q k) := by
  unfold Dev.releasePage
  extract_lets v gone d1 rms d2 d3
  have h2 : RegsKept l d d2 := h.same
  have h3 : RegsKept l d d3 := (h2.put (Fld.RMS_Q_STATE.EXT_FULL q) 0 (hq (List.mem_cons_self ..))).ite h2
  exact ((h3.foldl fun _ h => h.same).watermarks _ (List.subset_of_cons_subset hq)).poolCheck

end

@[simp] theorem Dev.watermarks_rms (d : Dev) (q before : Nat) : (d.watermarks q before).rms = d.rms := by
  simp only [Dev.watermarks, apply_ite Dev.rms, Dev.qEvt_rms, ite_self]

/-- A queue that takes a page releases none. -/
theorem Dev.takePage_freed (d : Dev) (q k : Nat) : (d.takePage q k).rms.freed = d.rms.freed := by
  show (Dev.watermarks _ _ _).rms.freed = _
  rw [Dev.watermarks_rms]
  rfl

/-! ### Positions (R291, R292, R295) -/

/-- The registers of a queue lie apart from those in which its pages show, but for its state and its events. -/
theorem queueKey_apart (q : Nat) {o : Nat} (ho : o ≠ 0x20 ∧ o ≠ 0x28) : queueBase + 0x100 * q + o ∉ pageRegsOf q := by
  simp only [List.mem_cons, List.not_mem_nil, or_false, Reg.RMS_Q_STATE, Reg.RMS_Q_EVT, Reg.RMS_INT_STATUS, queueBase]
  omega

/-- What only shows pages and events leaves the positions. -/
theorem RegsKept.positions {q : Nat} {d e : Dev} (h : RegsKept (pageRegsOf q) d e) :
    e.qHead q = d.qHead q ∧ e.qCons q = d.qCons q ∧ e.qTail q = d.qTail q :=
  ⟨RegsOut.reg64 h (queueKey_apart q (o := 0x30) (by decide)) (queueKey_apart q (o := 0x34) (by decide)),
    RegsOut.reg64 h (queueKey_apart q (o := 0x38) (by decide)) (queueKey_apart q (o := 0x3C) (by decide)),
    RegsOut.reg64 h (queueKey_apart q (o := 0x40) (by decide)) (queueKey_apart q (o := 0x44) (by decide))⟩

/-- Writing a value over two registers leaves one over two others. -/
theorem Dev.reg64_setReg64_apart (d : Dev) {a b : Nat} (v : Nat) (h : a + 8 ≤ b ∨ b + 8 ≤ a) : (d.setReg64 a v).reg64 b = d.reg64 b :=
  ((RegsOut.refl (fun k => k ≠ a ∧ k ≠ a + 4) d).setReg64 a v fun _ hk => hk).reg64 (by omega) (by omega)

/-- HEAD moves to a position; CONS and TAIL stay. -/
theorem Dev.moveHead_positions (d : Dev) (q pos : Nat) :
    (d.moveHead q pos).qHead q = pos % 2 ^ 64 ∧ (d.moveHead q pos).qCons q = d.qCons q ∧ (d.moveHead q pos).qTail q = d.qTail q := by
  have hreleased : RegsKept (pageRegsOf q) (d.setReg64 (Reg.RMS_Q_HEAD_LO q) pos) (d.moveHead q pos) :=
    (RegsKept.refl _ _).foldl fun k h => h.releasePage k (List.Subset.refl _)
  obtain ⟨hhead, hcons, htail⟩ := hreleased.positions
  exact ⟨hhead.trans (Dev.reg64_setReg64 ..), hcons.trans (Dev.reg64_setReg64_apart _ _ (.inl (Nat.le_refl _))),
    htail.trans (Dev.reg64_setReg64_apart _ _ (.inl (by unfold Reg.RMS_Q_HEAD_LO Reg.RMS_Q_TAIL_LO; omega)))⟩

/-- TAIL takes the producer's position, HEAD stays, and no page is released. -/
theorem Dev.setWb_shows (d : Dev) (q wb : Nat) :
    (d.setWb q wb).qTail q = (wb + 63) / 64 % 2 ^ 64 ∧ (d.setWb q wb).qHead q = d.qHead q ∧ (d.setWb q wb).rms.freed = d.rms.freed := by
  unfold Dev.setWb
  extract_lets v newly d1 tail d2 d3
  have hmoved : d3.qTail q = tail % 2 ^ 64 ∧ d3.qHead q = d.qHead q ∧ d3.rms.freed = d.rms.freed := by
    have htail : d2.qTail q = tail % 2 ^ 64 := Dev.reg64_setReg64 ..
    have hhead : d2.qHead q = d.qHead q :=
      Dev.reg64_setReg64_apart d1 _ (.inr (by unfold Reg.RMS_Q_HEAD_LO Reg.RMS_Q_TAIL_LO; omega))
    obtain heq | heq : d3 = d2 ∨ d3 = d2.setReg64 (Reg.RMS_Q_CONS_LO q) tail := ite_eq_or_eq ..
    · rw [heq]
      exact ⟨htail, hhead, rfl⟩
    · rw [heq]
      exact ⟨(Dev.reg64_setReg64_apart d2 _ (.inl (Nat.le_refl _))).trans htail,
        (Dev.reg64_setReg64_apart d2 _ (.inr (Nat.le_refl _))).trans hhead, rfl⟩
  split
  · exact hmoved
  · obtain ⟨hhead, -, htail⟩ := ((RegsKept.refl _ d3).qEvt 0 (List.subset_cons_self ..) : RegsKept (pageRegsOf q) d3 _).positions
    rw [htail, hhead, Dev.qEvt_rms]
    exact hmoved

/-! ### Doorbells (R296) -/

/-- A doorbell of an absent queue raises RMS.06 alone. -/
theorem Dev.doorbellError_absent {d : Dev} {q : Nat} (h : d.qType q = 0) : d.doorbellError q = d.raise 294 := by
  rw [Dev.doorbellError, if_pos h]

/-- A refused doorbell raises RMS.06, and sets event 8 of a queue that is declared. -/
theorem Dev.doorbellError_declared {d : Dev} {q : Nat} (h : d.qType q ≠ 0) :
    Arising 294 (d.doorbellError q) ∧ (d.doorbellError q).bitAt (Reg.RMS_Q_EVT q) 8 = true ∧
      RegsKept (eventRegs q) d (d.doorbellError q) := by
  rw [Dev.doorbellError, if_neg h]
  refine ⟨Dev.raise_arises _ _, ?_, ((RegsKept.refl _ d).qEvt 8 (List.Subset.refl _)).raise _⟩
  rw [Dev.raise_bitAt]
  exact Dev.bitAt_qEvt_self d q (by decide)

/-- Whether a producer doorbell is refused by the type of its queue or by its quota. -/
def Dev.prodRefused (d : Dev) (q n : Nat) : Prop :=
  d.qType q = 0 ∨ d.qType q = 1 ∨ d.qType q = 4 ∨ d.qType q = 5 ∨ d.qHead q + pageGranules * d.qQuota q < d.qTail q + n

/-- The pages that a producer doorbell of n granules needs. -/
def Dev.prodPages (d : Dev) (q n : Nat) : List Nat := d.missingPages q (d.qTail q * 64) ((d.qTail q + n) * 64)

section
variable {d : Dev} {q n : Nat} (hn : n ≠ 0)
include hn

theorem Dev.dbProd_refused (h : d.prodRefused q n) : d.dbProd q n = d.doorbellError q := by
  have hno : d.qType q = 0 ∨ d.qType q = 1 ∨ d.qType q = 4 ∨ d.qType q = 5 ∨ d.qHead q + pageGranules * d.qQuota q < d.qTail q + n ∨
      (!d.canTake q (d.prodPages q n).length) = true := by
    unfold Dev.prodRefused at h; tauto
  rw [Dev.dbProd, if_neg hn]
  exact if_pos hno

/-- A producer doorbell that is taken has its pages, and TAIL moves. -/
theorem Dev.dbProd_taken (h : ¬ d.prodRefused q n) (hpages : d.canTake q (d.prodPages q n).length = true) :
    d.dbProd q n = ((d.prodPages q n).foldl (fun d k => d.takePage q k) d).setWb q ((d.qTail q + n) * 64) := by
  have hyes : ¬ (d.qType q = 0 ∨ d.qType q = 1 ∨ d.qType q = 4 ∨ d.qType q = 5 ∨
      d.qHead q + pageGranules * d.qQuota q < d.qTail q + n ∨ (!d.canTake q (d.prodPages q n).length) = true) := by
    rw [hpages]
    unfold Dev.prodRefused at h
    simpa using h
  rw [Dev.dbProd, if_neg hn]
  exact if_neg hyes

theorem Dev.dbProd_moves (h : ¬ d.prodRefused q n) (hpages : d.canTake q (d.prodPages q n).length = true) :
    (d.dbProd q n).qTail q = (d.qTail q + n) % 2 ^ 64 ∧ (d.dbProd q n).qHead q = d.qHead q ∧
      (d.dbProd q n).rms.freed = d.rms.freed := by
  rw [Dev.dbProd_taken hn h hpages]
  obtain ⟨htail, hhead, hfreed⟩ :=
    Dev.setWb_shows ((d.prodPages q n).foldl (fun d k => d.takePage q k) d) q ((d.qTail q + n) * 64)
  have hkept : RegsKept (pageRegsOf q) d ((d.prodPages q n).foldl (fun d k => d.takePage q k) d) :=
    (RegsKept.refl _ d).foldl fun k h => h.takePage k (List.subset_cons_self ..)
  rw [htail, hhead, hfreed, show ((d.qTail q + n) * 64 + 63) / 64 = d.qTail q + n by omega]
  exact ⟨rfl, hkept.positions.1, foldl_leaves (fun e => e.rms.freed) (fun e k => e.takePage_freed q k) _ d⟩

theorem Dev.dbCons_refused (h : d.qType q = 0 ∨ d.qCons q < d.qHead q + n) : d.dbCons q n = d.doorbellError q := by
  rw [Dev.dbCons, if_neg hn, if_pos h]

theorem Dev.dbCons_taken (htype : d.qType q ≠ 0) (h : d.qHead q + n ≤ d.qCons q) : d.dbCons q n = d.moveHead q (d.qHead q + n) := by
  rw [Dev.dbCons, if_neg hn, if_neg (not_or.mpr ⟨htype, Nat.not_lt.mpr h⟩)]

end

end Sys2Proof.Machine
end

section
/-! Windows of block RMS (R297, R298): the operations of an access, what a read shows, and what a write stores. -/

namespace Sys2Proof.Machine

/-! ### Runs of bytes -/

/-- Consecutive runs between rising bounds are one run. -/
theorem flatMap_range'_bounds {c : Nat → Nat} {n : Nat} (hc : ∀ i < n, c i ≤ c (i + 1)) :
    (List.range n).flatMap (fun i => List.range' (c i) (c (i + 1) - c i)) = List.range' (c 0) (c n - c 0) := by
  have hrun : c 0 ≤ c n ∧
      (List.range n).flatMap (fun i => List.range' (c i) (c (i + 1) - c i)) = List.range' (c 0) (c n - c 0) := by
    induction n with
    | zero => simp
    | succ n ih =>
      obtain ⟨hle, heq⟩ := ih fun i hi => hc i (by omega)
      have hlast := hc n (by omega)
      refine ⟨by omega, ?_⟩
      rw [List.range_succ, List.flatMap_append, heq, List.flatMap_singleton,
        show c (n + 1) - c 0 = (c n - c 0) + (c (n + 1) - c n) by omega, ← List.range'_append_1,
        show c 0 + (c n - c 0) = c n by omega]
  exact hrun.2

/-- The operations of an access cover its bytes in order, each once (R287, R297). -/
theorem opsOf_covers (a n : Nat) : (opsOf a n).flatMap (fun p => List.range' p.1 p.2) = List.range' a n := by
  unfold opsOf
  split
  case isTrue h => rw [h]; rfl
  case isFalse h =>
    let c (i : Nat) : Nat := min (a + n) (max a (512 * (a / 512 + i)))
    have hbounds := flatMap_range'_bounds (c := c) (n := (a + n + 511) / 512 - a / 512) fun i _ => by dsimp only [c]; omega
    have hfirst : c 0 = a := by dsimp only [c]; omega
    have hlast : c ((a + n + 511) / 512 - a / 512) = a + n := by dsimp only [c]; omega
    rw [hfirst, hlast, Nat.add_sub_cancel_left] at hbounds
    rw [List.flatMap_map, ← hbounds]
    refine List.flatMap_congr fun i hi => ?_
    have hi := List.mem_range.mp hi
    dsimp only [c]
    congr 1 <;> omega

/-- What the operations of an access give is what its bytes give. -/
theorem opsOf_flatMap {α : Type} (f : Nat → α) (a n : Nat) :
    (opsOf a n).flatMap (fun p => (List.range' p.1 p.2).map f) = (List.range n).map (fun i => f (a + i)) := by
  rw [← List.map_flatMap, opsOf_covers, List.range'_eq_map_range, List.map_map]
  rfl

/-! ### What a read shows (R298, R322) -/

/-- The byte of memory at an address that a window shows. -/
def State.winByte (s : State) (mem : Memory) (size : Nat) (ecc : Bool) (a : Nat) : Byte :=
  if size ≤ a then 0 else if ecc && decide (a / 512 ∈ s.dev.rms.bad) then 0xFF else mem.read a

theorem State.winBytes_eq (s : State) (mem : Memory) (size : Nat) (ecc : Bool) (a n : Nat) :
    s.winBytes mem size ecc a n = (List.range' a n).map (s.winByte mem size ecc) := by
  induction n generalizing a with
  | zero => rfl
  | succ n ih => rw [State.winBytes, ih, List.range'_succ, List.map_cons]; rfl

/-- Byte b of a queue that a window shows. -/
def State.winQueueByte (s : State) (q b : Nat) : Byte :=
  match s.dev.winReadable q b, s.dev.qAddr q b with
  | true, some a => if a / 512 ∈ s.dev.rms.bad then 0xFF else s.hbm.read a
  | _, _ => 0

theorem State.winQueue_eq (s : State) (q b n : Nat) : s.winQueue q b n = (List.range' b n).map (s.winQueueByte q) := by
  induction n generalizing b with
  | zero => rfl
  | succ n ih =>
    rw [State.winQueue, ih, List.range'_succ, List.map_cons]
    congr 1
    unfold State.winQueueByte
    cases s.dev.winReadable q b
    · rfl
    · cases s.dev.qAddr q b <;> rfl

section
variable {s : State} {r : Fin 5} (off n : Nat)

theorem State.winRead_sram (h : s.dev.get (Fld.RMS_WIN_CTL.MODE r) = 1) :
    s.winRead r off n = ((List.range n).map (fun i => s.winByte s.sram sramBytes false (s.dev.winBase r + off + i)), false) := by
  rw [State.winRead, h]
  dsimp only
  rw [State.winBytes_eq, List.range'_eq_map_range, List.map_map]
  rfl

theorem State.winRead_queue (h : s.dev.get (Fld.RMS_WIN_CTL.MODE r) = 2) :
    s.winRead r off n =
      ((List.range n).map (fun i => s.winQueueByte (s.dev.get (Fld.RMS_WIN_CTL.QUEUE r)) (64 * s.dev.winBase r + off + i)),
        (List.range n).any (fun i => !s.dev.winReadable (s.dev.get (Fld.RMS_WIN_CTL.QUEUE r)) (64 * s.dev.winBase r + off + i))) := by
  rw [State.winRead, h]
  simp only [State.winQueue_eq, opsOf_flatMap]

theorem State.winRead_hbm (h1 : s.dev.get (Fld.RMS_WIN_CTL.MODE r) ≠ 1) (h2 : s.dev.get (Fld.RMS_WIN_CTL.MODE r) ≠ 2) :
    s.winRead r off n = ((List.range n).map (fun i => s.winByte s.hbm hbmBytes true (s.dev.winBase r + off + i)), false) := by
  unfold State.winRead
  dsimp only
  split
  · contradiction
  · contradiction
  · simp only [State.winBytes_eq, opsOf_flatMap]

end

/-- A window read misses where it is of a queue and comes upon a byte that is not legible. -/
theorem State.winRead_misses (s : State) (r : Fin 5) (off n : Nat) :
    (s.winRead r off n).2 = true ↔ s.dev.get (Fld.RMS_WIN_CTL.MODE r) = 2 ∧ ∃ i, i < n ∧
      s.dev.winReadable (s.dev.get (Fld.RMS_WIN_CTL.QUEUE r)) (64 * s.dev.winBase r + off + i) = false := by
  by_cases h2 : s.dev.get (Fld.RMS_WIN_CTL.MODE r) = 2
  · simp [State.winRead_queue off n h2, h2]
  · by_cases h1 : s.dev.get (Fld.RMS_WIN_CTL.MODE r) = 1
    · simp [State.winRead_sram off n h1, h1]
    · simp [State.winRead_hbm off n h1 h2, h2]

/-- The device that has served a window read: its data stands for the requester, its operations wait. -/
def Dev.winServed (d : Dev) (r : Fin 5) (off n : Nat) (l : List Byte) : Dev :=
  ({ d with rms := { d.rms with winData := Sparse.insert r.val l d.rms.winData } } : Dev).winIssue r false (d.winAddrs r off n)

/-- The device that has answered a window read, which may miss. -/
def Dev.winAnswered (d : Dev) (r : Fin 5) (off n : Nat) (x : List Byte × Bool) : Dev :=
  if x.2 then (d.winServed r off n x.1).winMiss r else d.winServed r off n x.1

theorem State.windowRead_reached {s : State} {r : Fin 5} (h : s.dev.reaches (windowReq r) 9 = true) (off n : Nat) :
    s.windowRead r off n = { s with dev := s.dev.winAnswered r off n (s.winRead r off n) } := by
  rw [State.windowRead, h]
  rfl

/-- What a window read leaves and shows, whatever it reads. -/
theorem State.windowRead_shows {s : State} {r : Fin 5} (h : s.dev.reaches (windowReq r) 9 = true) (off n : Nat) :
    Frame [Reg.RMS_WIN_MISS r] s (s.windowRead r off n) ∧
      (s.windowRead r off n).dev.rms.winOps = s.dev.rms.winOps ++
        (s.dev.winAddrs r off n).map (fun a => { src := .window r, addr := a, write := false }) ∧
      Sparse.get [] (s.windowRead r off n).dev.rms.winData r.val = (s.winRead r off n).1 ∧
      ((s.winRead r off n).2 = true → Arising 298 (s.windowRead r off n).dev ∧
        (s.windowRead r off n).dev.get (Fld.RMS_WIN_MISS.ACCESSES r) =
          min (s.dev.get (Fld.RMS_WIN_MISS.ACCESSES r) + 1) (2 ^ 32 - 1)) ∧
      ((s.winRead r off n).2 = false →
        (s.windowRead r off n).dev.get (Fld.RMS_WIN_MISS.ACCESSES r) = s.dev.get (Fld.RMS_WIN_MISS.ACCESSES r)) := by
  rw [State.windowRead_reached h, Dev.winAnswered]
  dsimp only
  have hserved : RegsKept [Reg.RMS_WIN_MISS r] s.dev (s.dev.winServed r off n (s.winRead r off n).1) := (RegsKept.refl _ _).same
  have hdata : Sparse.get [] (s.dev.winServed r off n (s.winRead r off n).1).rms.winData r.val = (s.winRead r off n).1 :=
    Sparse.get_insert_self _ _ _ _
  split
  case isTrue hmiss =>
    refine ⟨.ofDev ((hserved.incSat _ (List.mem_singleton_self _)).raise _), ?_, ?_, fun _ => ⟨Dev.raise_arises _ _, ?_⟩, ?_⟩
    · rw [Dev.winMiss, Dev.raise_rms]; rfl
    · rw [Dev.winMiss, Dev.raise_rms]; exact hdata
    · rw [Dev.winMiss, Dev.raise_get]
      exact Dev.get_incSat_self _ _ _ (Fld.ok_of _ rfl rfl)
    · rw [hmiss]; nofun
  case isFalse hmiss => exact ⟨.ofDev hserved, rfl, hdata, fun h => absurd h hmiss, fun _ => rfl⟩

/-! ### What a write stores (R298) -/

/-- Any byte after bytes are written. -/
theorem Memory.read_writeBytes (m : Memory) (a : Nat) (l : List Byte) (b : Nat) :
    (m.writeBytes a l).read b = if a ≤ b ∧ b < a + l.length then l.getD (b - a) 0 else m.read b := by
  split
  case isTrue h =>
    have hi : b - a < l.length := by omega
    rw [show b = a + (b - a) by omega, Memory.read_writeBytes_in l m a (b - a) hi, Nat.add_sub_cancel_left]
    simp [hi]
  case isFalse h => exact Memory.read_writeBytes_out l m a b (by omega)

/-- t is s with HBM m, but for what a queue keeps of writes beyond its TAIL. -/
structure StoredAs (m : Memory) (s t : State) : Prop where
  hbm : t.hbm = m
  sram : t.sram = s.sram
  pending : t.pending = s.pending
  regs : t.dev.regs = s.dev.regs
  freed : t.dev.rms.freed = s.dev.rms.freed

section
variable {s : State} {q k o : Nat} {x : QPage} (hx : (s.dev.q q).pages.find? (fun p => p.lpage == k) = some x)
include hx

/-- The queue has the page of the byte. -/
theorem QueueSt.any_of_find? : (s.dev.q q).pages.any (fun p => p.lpage == k) = true :=
  List.any_eq_true.mpr ⟨x, List.mem_of_find?_eq_some hx, List.find?_some (p := fun (p : QPage) => p.lpage == k) hx⟩

variable (ho : o < pageBytes)
include ho

/-- A byte of a resident page stands in it. -/
theorem Dev.qAddr_resident : s.dev.qAddr q (k * pageBytes + o) = some (x.phys * pageBytes + o) := by
  have hpage : (k * pageBytes + o) / pageBytes = k := by unfold pageBytes at *; omega
  have hoff : (k * pageBytes + o) % pageBytes = o := by unfold pageBytes at *; omega
  rw [Dev.qAddr, hpage, hoff]
  simp only [hx]

/-- A write of a byte of a resident page stores it there. -/
theorem State.winQueueStore_cons (v : Byte) (l : List Byte) (miss : Bool) :
    State.winQueueStore q (k * pageBytes + o) (v :: l) (s, miss) =
      State.winQueueStore q (k * pageBytes + o + 1) l ({ s with
        hbm := s.hbm.write (x.phys * pageBytes + o) v, dev := s.dev.markAhead q (k * pageBytes + o) }, miss) := by
  have hpage : (k * pageBytes + o) / pageBytes = k := by unfold pageBytes at *; omega
  have hmem : k ∈ (s.dev.q q).lpages := List.mem_append_right _
    (List.mem_map.mpr ⟨x, List.mem_of_find?_eq_some hx, eq_of_beq (List.find?_some (p := fun (p : QPage) => p.lpage == k) hx)⟩)
  have hnew : s.dev.winMayAlloc q (k * pageBytes + o) = false := by simp [Dev.winMayAlloc, hpage, hmem]
  have hstore : State.qStore q (k * pageBytes + o) [v] s = { s with hbm := s.hbm.write (x.phys * pageBytes + o) v } := by
    rw [State.qStore, Dev.qAddr_resident hx ho]
    rfl
  rw [State.winQueueStore, hnew]
  simp only [Bool.false_eq_true, if_false, hpage, QueueSt.any_of_find? hx, if_true, hstore]

end

theorem Dev.q_setQ_self (d : Dev) (q : Nat) (v : QueueSt) : (d.setQ q v).q q = v := Sparse.get_insert_self _ _ _ _

/-- What a queue keeps of a byte beyond its TAIL changes no page of it, no register, and releases nothing. -/
theorem Dev.markAhead_leaves (d : Dev) (q b : Nat) :
    ((d.markAhead q b).q q).pages = (d.q q).pages ∧ (d.markAhead q b).regs = d.regs ∧ (d.markAhead q b).rms.freed = d.rms.freed := by
  by_cases h : b < 64 * d.qTail q
  · rw [Dev.markAhead, if_pos h]
    exact ⟨rfl, rfl, rfl⟩
  · rw [Dev.markAhead, if_neg h]
    exact ⟨by rw [Dev.q_setQ_self], rfl, rfl⟩

/-- Bytes written through a window within a resident page land in it, and none is discarded. -/
theorem State.winQueueStore_resident {q k : Nat} {x : QPage} (l : List Byte) {o : Nat} {s : State} (miss : Bool)
    (hx : (s.dev.q q).pages.find? (fun p => p.lpage == k) = some x) (ho : o + l.length ≤ pageBytes) :
    ∃ t, State.winQueueStore q (k * pageBytes + o) l (s, miss) = (t, miss) ∧
      StoredAs (s.hbm.writeBytes (x.phys * pageBytes + o) l) s t := by
  induction l generalizing o s with
  | nil => exact ⟨s, rfl, rfl, rfl, rfl, rfl, rfl⟩
  | cons v l ih =>
    rw [List.length_cons] at ho
    rw [State.winQueueStore_cons hx (by omega), Nat.add_assoc]
    obtain ⟨hpages, hregs, hfreed⟩ := s.dev.markAhead_leaves q (k * pageBytes + o)
    obtain ⟨t, heq, ht⟩ := ih (o := o + 1) (s := { s with
        hbm := s.hbm.write (x.phys * pageBytes + o) v, dev := s.dev.markAhead q (k * pageBytes + o) })
      (by rw [hpages]; exact hx) (by omega)
    exact ⟨t, heq, by rw [Memory.writeBytes, Nat.add_assoc]; exact ht.hbm, ht.sram, ht.pending, ht.regs.trans hregs,
      ht.freed.trans hfreed⟩

section
variable {s : State} {r : Fin 5} (hw : s.dev.mayWrite (windowReq r) 9 = true) (off : Nat) (l : List Byte)
include hw

theorem State.windowWrite_sram (h : s.dev.get (Fld.RMS_WIN_CTL.MODE r) = 1) :
    s.windowWrite r off l = { s with sram := winStore s.sram sramBytes (s.dev.winBase r + off) l } := by
  rw [State.windowWrite]
  dsimp only
  rw [hw, h]
  rfl

theorem State.windowWrite_hbm (h1 : s.dev.get (Fld.RMS_WIN_CTL.MODE r) ≠ 1) (h2 : s.dev.get (Fld.RMS_WIN_CTL.MODE r) ≠ 2) :
    s.windowWrite r off l = { s with
      dev := s.dev.winIssue r true (s.dev.winAddrs r off l.length), hbm := winStore s.hbm hbmBytes (s.dev.winBase r + off) l } := by
  rw [State.windowWrite]
  dsimp only
  rw [hw]
  split
  · contradiction
  · split
    · contradiction
    · contradiction
    · rfl

theorem State.windowWrite_queue (h : s.dev.get (Fld.RMS_WIN_CTL.MODE r) = 2) {t : State}
    (hstore : State.winQueueStore (s.dev.get (Fld.RMS_WIN_CTL.QUEUE r)) (64 * s.dev.winBase r + off) l (s, false) = (t, false)) :
    s.windowWrite r off l = t.onDev (fun d => d.winIssue r true (d.winAddrs r off l.length)) := by
  rw [State.windowWrite]
  dsimp only
  rw [hw, h]
  simp only [Bool.not_true, Bool.false_eq_true, if_false, hstore]

end

/-- A change that releases no page leaves HBM. -/
theorem State.onDev_hbm {f : Dev → Dev} {s : State} (h : (f s.dev).rms.freed = []) : (s.onDev f).hbm = s.hbm := by
  show (f s.dev).rms.freed.foldl Memory.forgetPage s.hbm = s.hbm
  rw [h]
  rfl

/-- A write through a queue window within a resident page, of a queue that releases none. -/
theorem State.windowWrite_resident {s : State} {r : Fin 5} (hw : s.dev.mayWrite (windowReq r) 9 = true) (off : Nat) (l : List Byte)
    (hmode : s.dev.get (Fld.RMS_WIN_CTL.MODE r) = 2) {x : QPage}
    (hx : (s.dev.q (s.dev.get (Fld.RMS_WIN_CTL.QUEUE r))).pages.find?
      (fun p => p.lpage == (64 * s.dev.winBase r + off) / pageBytes) = some x)
    (hl : (64 * s.dev.winBase r + off) % pageBytes + l.length ≤ pageBytes) (hfreed : s.dev.rms.freed = []) :
    StoredAs (s.hbm.writeBytes (x.phys * pageBytes + (64 * s.dev.winBase r + off) % pageBytes) l) s (s.windowWrite r off l) := by
  obtain ⟨t, hstore, ht⟩ := State.winQueueStore_resident l false hx hl
  rw [Nat.mul_comm, Nat.div_add_mod] at hstore
  rw [State.windowWrite_queue hw off l hmode hstore]
  exact ⟨(State.onDev_hbm (ht.freed.trans hfreed)).trans ht.hbm, ht.sram, ht.pending, ht.regs, hfreed.symm ▸ rfl⟩

/-! ### The commands, and O36 -/

theorem exec_windowRead {s : State} (h : Running s) (r : Fin 5) (off n : Nat) :
    exec (.windowRead r off n) s = .next (s.windowRead r off n) := runState_alive h

theorem exec_windowWrite {s : State} (h : Running s) (r : Fin 5) (off : Nat) (l : List Byte) :
    exec (.windowWrite r off l) s = .next (s.windowWrite r off l) := runState_alive h

/-- A change that may release pages, made by a requester whose write takes effect. -/
theorem State.onDev_of_mayWrite {s : State} {req : Requester} {b : Nat} (h : s.dev.mayWrite req b = true) (f : Dev → Dev) :
    s.onDev (fun d => if d.mayWrite req b then f d else d) = s.onDev f := by
  unfold State.onDev
  dsimp only
  rw [if_pos h]

section
variable {s : State} {req : Requester} (h : Writable req 9 s) (q : Fin 65536) (n : BitVec 24)
include h

theorem exec_dbProd : exec (.dbProd req q n) s = .next (s.onDev (Dev.dbProd q n.toNat)) :=
  (runState_alive h.1).trans (congrArg _ (State.onDev_of_mayWrite h.2 (Dev.dbProd q n.toNat)))

theorem exec_dbCons : exec (.dbCons req q n) s = .next (s.onDev (Dev.dbCons q n.toNat)) :=
  (runState_alive h.1).trans (congrArg _ (State.onDev_of_mayWrite h.2 (Dev.dbCons q n.toNat)))

end

/-- Settles O36: each doorbell by whether it is taken, each window access by what the window shows. -/
theorem doorbellsAndWindows : Obligations.DoorbellsAndWindows := by
  refine ⟨fun s req q n hw hzero => ?doorbells, fun s r off n hrun => ⟨fun hoff => ?unread, fun hon => ?read⟩,
    fun s r off l hw => ⟨fun hmode => ?sram, fun h1 h2 => ?hbm, fun x _ hmode hx hl _ hfreed => ?queue⟩⟩
  case doorbells =>
    have hn : n.toNat ≠ 0 := fun h => hzero (BitVec.eq_of_toNat_eq h)
    refine ⟨fun habsent => ⟨_, exec_dbProd hw q n, ?_⟩, fun hrefused => ⟨_, exec_dbProd hw q n, ?_⟩,
      fun h0 h1 h4 h5 hquota hpages => ⟨_, exec_dbProd hw q n, ?_⟩, fun htype hcons => ⟨_, exec_dbCons hw q n, ?_⟩,
      fun htype hcons => ⟨_, exec_dbCons hw q n, ?_⟩⟩
    · have heq := (Dev.dbProd_refused hn (.inl habsent)).trans (Dev.doorbellError_absent habsent)
      refine ⟨?_, RegsKept.onDev ?_⟩
      · rw [Arising, State.onDev_arising, heq]; exact Dev.raise_arises _ _
      · rw [heq]; exact (RegsKept.refl _ _).raise _
    · have htype : s.dev.qType q ≠ 0 := by omega
      have heq : s.dev.dbProd q n.toNat = s.dev.doorbellError q := Dev.dbProd_refused hn (by unfold Dev.prodRefused; omega)
      obtain ⟨hcause, hevent, hkept⟩ := Dev.doorbellError_declared htype
      rw [← heq] at hcause hevent hkept
      exact ⟨hcause, hevent, hkept.onDev⟩
    · have htaken : ¬ s.dev.prodRefused q n.toNat := by unfold Dev.prodRefused; omega
      obtain ⟨htail, hhead, hfreed⟩ := Dev.dbProd_moves hn htaken hpages
      exact ⟨htail, hhead, fun h => State.onDev_hbm (hfreed.trans h)⟩
    · have heq := Dev.dbCons_refused hn (.inr hcons)
      obtain ⟨hcause, hevent, hkept⟩ := Dev.doorbellError_declared htype
      rw [← heq] at hcause hevent hkept
      exact ⟨hcause, hevent, hkept.onDev⟩
    · obtain ⟨hhead, hcons', htail⟩ := s.dev.moveHead_positions q (s.dev.qHead q + n.toNat)
      rw [← Dev.dbCons_taken hn htype hcons] at hhead hcons' htail
      exact ⟨hhead, htail, hcons'⟩
  case unread =>
    rw [exec_windowRead hrun, State.windowRead, hoff]
    rfl
  case read =>
    obtain ⟨hframe, hops, hdata, hmiss, hserved⟩ := State.windowRead_shows hon off n
    refine ⟨_, exec_windowRead hrun r off n, hframe, hops, fun h => ?_, fun h => ?_, fun h1 h2 => ?_,
      fun h => hmiss ((s.winRead_misses r off n).mpr h), fun h => hserved (Bool.eq_false_iff.mpr (mt (s.winRead_misses r off n).mp h))⟩
    · rw [hdata, State.winRead_sram off n h]
      simp only [State.winByte, Bool.false_and, Bool.false_eq_true, if_false, ← Nat.not_lt, ite_not]
    · rw [hdata, State.winRead_queue off n h]
      rfl
    · rw [hdata, State.winRead_hbm off n h1 h2]
      simp [State.winByte]
  case sram => exact ⟨_, exec_windowWrite hw.1 r off l, by rw [State.windowWrite_sram hw.2 off l hmode]; exact ⟨rfl, rfl, rfl, rfl⟩⟩
  case hbm =>
    refine ⟨_, exec_windowWrite hw.1 r off l, ?_⟩
    rw [State.windowWrite_hbm hw.2 off l h1 h2]
    exact ⟨rfl, rfl, (RegsKept.refl _ _).same, rfl, rfl⟩
  case queue =>
    have h := State.windowWrite_resident hw.2 off l hmode hx hl hfreed
    refine ⟨_, exec_windowWrite hw.1 r off l, h.sram, h.pending, (RegsKept.refl _ _).same h.regs, fun a => ?_⟩
    rw [h.hbm]
    exact Memory.read_writeBytes _ _ _ _

end Sys2Proof.Machine
end

section
/-! Operations of the HBM (R287, R303, R304, R322): what an operation leaves of the counts of block RMS, and what it shows in them. -/

namespace Sys2Proof.Machine

/-! ### Pending fields that become active (R36) -/

@[simp] theorem Dev.copyShadow_rms (d : Dev) (p : Nat → Bool) : (d.copyShadow p).rms = d.rms := by
  unfold Dev.copyShadow
  exact foldl_leaves Dev.rms (fun d (x : Nat × Word) => Dev.setReg_rms d x.1 _) _ _

/-- Registers whose pending values are not copied stay. -/
theorem RegsOut.copyShadow {P : Nat → Prop} {d e : Dev} (h : RegsOut P d e) {p : Nat → Bool} (hp : ∀ a, P a → p a = false) :
    RegsOut P d (e.copyShadow p) := by
  unfold Dev.copyShadow
  refine RegsOut.foldl _ _ (fun f x hx hf => hf.setReg _ _ fun b hb hbx => ?_) (RegsOut.same h rfl)
  simp only [List.mem_filter, Bool.and_eq_true] at hx
  exact Bool.false_ne_true ((hp b hb).symm.trans (hbx ▸ hx.2.1))

/-! ### What leaves the counts of the HBM -/

/-- e has the registers of d wherever P holds, and its pseudo-channels. -/
structure KeepsPcs (P : Nat → Prop) (d e : Dev) : Prop where
  regs : RegsOut P d e
  pcs : e.rms.pcs = d.rms.pcs

/-- The registers in which the operations of the HBM and their errors are counted. -/
abbrev CountKey (a : Nat) : Prop := a = Reg.RMS_INFLIGHT ∨ a = Reg.RMS_ECC_CNT

theorem CountKey.ne_queueKey {a : Nat} (h : CountKey a) (q o : Nat) : a ≠ queueBase + 0x100 * q + o := by
  unfold CountKey Reg.RMS_INFLIGHT Reg.RMS_ECC_CNT at h
  unfold queueBase; omega

theorem CountKey.ne_int {a : Nat} (h : CountKey a) : a ≠ Reg.RMS_INT_STATUS := by
  obtain rfl | rfl := h <;> decide

namespace KeepsPcs

section
variable {P : Nat → Prop} {d e f : Dev}

theorem refl (P : Nat → Prop) (d : Dev) : KeepsPcs P d d := ⟨.refl _ d, rfl⟩

theorem same (h : KeepsPcs P d e) (hr : f.regs = e.regs := by rfl) (hp : f.rms.pcs = e.rms.pcs := by rfl) : KeepsPcs P d f :=
  ⟨h.regs.same hr, hp.trans h.pcs⟩

theorem ite {c : Prop} {_ : Decidable c} (he : KeepsPcs P d e) (hf : KeepsPcs P d f) : KeepsPcs P d (if c then e else f) := by
  split <;> assumption

theorem put (h : KeepsPcs P d e) (g : Fld) (v : Nat) (hg : ∀ a, P a → a ≠ g.addr) : KeepsPcs P d (e.put g v) :=
  ⟨h.regs.put g v hg, h.pcs⟩

theorem copyShadow (h : KeepsPcs P d e) {p : Nat → Bool} (hp : ∀ a, P a → p a = false) : KeepsPcs P d (e.copyShadow p) :=
  ⟨h.regs.copyShadow hp, by rw [Dev.copyShadow_rms, h.pcs]⟩

end

section
variable {d e : Dev} (h : KeepsPcs CountKey d e)
include h

theorem qEvt (q i : Nat) : KeepsPcs CountKey d (e.qEvt q i) := by
  have hkept : RegsOut CountKey e (e.qEvt q i) := fun a ha => (RegsKept.refl (eventRegs q) e).qEvt i (List.Subset.refl _) a fun hm => by
    simp only [List.mem_cons, List.not_mem_nil, or_false] at hm
    exact hm.elim (ha.ne_queueKey q 0x28) ha.ne_int
  exact ⟨h.regs.trans hkept, by rw [Dev.qEvt_rms, h.pcs]⟩

theorem markTrigger (q pos : Nat) : KeepsPcs CountKey d (e.markTrigger q pos) :=
  ⟨((h.regs.setReg64 _ _ fun _ ha => ⟨ha.ne_queueKey q 0x48, ha.ne_queueKey q 0x4C⟩).put _ _ fun _ ha => ha.ne_queueKey q 0x20).same rfl,
    h.pcs⟩

theorem setQState (q st : Nat) : KeepsPcs CountKey d (e.setQState q st) := by
  have hstate : KeepsPcs CountKey d (e.put (Fld.RMS_Q_STATE.STATE q) st) := h.put _ _ fun _ ha => ha.ne_queueKey q 0x20
  exact h.ite ((((hstate.markTrigger ..).ite hstate).qEvt ..).ite hstate)

/-- Pending fields of a queue become active. -/
theorem rmsQueue (q : Nat) : KeepsPcs CountKey d (e.rmsQueue q) := by
  have hcopied := h.copyShadow (p := fun a => decide (Reg.RMS_Q_DESC0 q ≤ a) && decide (a < Reg.RMS_Q_DESC0 (q + 1))) fun a ha => by
    have hbelow : ¬ Reg.RMS_Q_DESC0 q ≤ a := by
      unfold CountKey Reg.RMS_INFLIGHT Reg.RMS_ECC_CNT at ha
      unfold Reg.RMS_Q_DESC0; omega
    simp [hbelow]
  exact h.ite (hcopied.ite (hcopied.setQState ..))

/-- Pending global fields become active. -/
theorem rmsGlobal : KeepsPcs CountKey d e.rmsGlobal :=
  h.ite (h.copyShadow fun a ha => by obtain rfl | rfl := ha <;> decide)

theorem charge (w : HbmWait) : KeepsPcs CountKey d (e.charge w) := by
  unfold Dev.charge
  split
  · exact h.same
  · exact h

theorem hbmTake (pc : Nat) (l : List HbmWait) (w : Option HbmWait) : KeepsPcs CountKey d (e.hbmTake pc l w) := by
  unfold Dev.hbmTake
  extract_lets left queues rms taken
  have htaken : KeepsPcs CountKey d taken := h.same
  split
  · exact htaken.rmsQueue _
  · exact htaken

end

end KeepsPcs

theorem Dev.rmsGlobal_rms (d : Dev) : d.rmsGlobal.rms = d.rms := by
  rw [Dev.rmsGlobal, apply_ite Dev.rms, Dev.copyShadow_rms, ite_self]

/-! ### Errors (R322) -/

/-- An error is counted in a field of RMS_ECC_CNT, and source f raised. -/
def Dev.errorCounted (d : Dev) (g : Fld) (f : Nat) : Dev := ((d.incSat g).setInt intRMS 3).raise f

section
variable (d : Dev) {g : Fld} (f : Nat) (hg : g.addr = Reg.RMS_ECC_CNT)
include hg

theorem Dev.errorCounted_keeps : KeepsPcs (· = Reg.RMS_INFLIGHT) d (d.errorCounted g f) :=
  ⟨(((RegsOut.refl _ d).incSat _ _ fun _ ha => by rw [ha, hg]; decide).setInt _ _ fun _ ha => by rw [ha]; decide).raise _,
    by simp [Dev.errorCounted]⟩

theorem Dev.errorCounted_shows (hok : g.ok) :
    (d.errorCounted g f).get g = min (d.get g + 1) (2 ^ (g.hi - g.lo + 1) - 1) ∧ Arising f (d.errorCounted g f) := by
  refine ⟨?_, Dev.raise_arises _ _⟩
  rw [Dev.errorCounted, Dev.raise_get, Dev.get_setInt_ne _ _ _ (by rw [hg]; decide)]
  exact Dev.get_incSat_self _ _ _ hok

end

/-- An uncorrectable error is counted; what it does to data beside it changes no register, no cause and no pseudo-channel. -/
theorem Dev.eccOf_uncorrectable (d : Dev) (w : HbmWait) :
    (d.eccOf w .uncorrectable).regs = (d.errorCounted Fld.RMS_ECC_CNT.UE 297).regs ∧
      (d.eccOf w .uncorrectable).arising = (d.errorCounted Fld.RMS_ECC_CNT.UE 297).arising ∧
      (d.eccOf w .uncorrectable).rms.pcs = (d.errorCounted Fld.RMS_ECC_CNT.UE 297).rms.pcs := by
  dsimp only [Dev.eccOf]
  split
  · exact ⟨rfl, rfl, rfl⟩
  split
  · split
    · split <;> exact ⟨rfl, rfl, rfl⟩
    · exact ⟨rfl, rfl, rfl⟩
  · exact ⟨rfl, rfl, rfl⟩

/-- The errors of an operation leave the counts of operations, and the pseudo-channels. -/
theorem Dev.eccOf_keeps (d : Dev) (w : HbmWait) (ecc : EccResult) : KeepsPcs (· = Reg.RMS_INFLIGHT) d (d.eccOf w ecc) := by
  cases ecc with
  | clean => exact (KeepsPcs.refl _ d).same
  | corrected => exact d.errorCounted_keeps _ rfl
  | uncorrectable =>
    obtain ⟨hregs, -, hpcs⟩ := d.eccOf_uncorrectable w
    exact (d.errorCounted_keeps _ rfl).same hregs hpcs

/-- The counts of errors, and the reports. -/
theorem Dev.eccOf_shows (d : Dev) (w : HbmWait) (ecc : EccResult) :
    (ecc = .corrected → (d.eccOf w ecc).get Fld.RMS_ECC_CNT.CE = min (d.get Fld.RMS_ECC_CNT.CE + 1) 0xFFFF ∧
      Arising 296 (d.eccOf w ecc)) ∧
    (ecc = .uncorrectable → (d.eccOf w ecc).get Fld.RMS_ECC_CNT.UE = min (d.get Fld.RMS_ECC_CNT.UE + 1) 0xFFFF ∧
      Arising 297 (d.eccOf w ecc)) := by
  constructor
  · rintro rfl
    exact d.errorCounted_shows 296 rfl (Fld.ok_of _ rfl rfl)
  · rintro rfl
    obtain ⟨hregs, harising, -⟩ := d.eccOf_uncorrectable w
    obtain ⟨hcount, harises⟩ := d.errorCounted_shows (g := Fld.RMS_ECC_CNT.UE) 297 rfl (Fld.ok_of _ rfl rfl)
    exact ⟨(RegsOut.get ((RegsOut.refl (fun _ => True) _).same hregs) _ trivial).trans hcount, by rw [Arising, harising]; exact harises⟩

/-! ### An operation (R303, R304) -/

/-- Pseudo-channel pc takes a state. -/
def Dev.withPc (d : Dev) (pc : Nat) (p : PseudoChannel) : Dev := { d with rms := { d.rms with pcs := Sparse.insert pc p d.rms.pcs } }

/-- RMS_INFLIGHT shows the operations in flight. -/
def Dev.opsShown (d : Dev) : Dev :=
  (d.put Fld.RMS_INFLIGHT.OPS d.opsInFlight).put Fld.RMS_INFLIGHT.PEAK (max d.opsInFlight (d.get Fld.RMS_INFLIGHT.PEAK))

/-- Pseudo-channel pc after n of its operations have completed. -/
def Dev.pcDone (d : Dev) (pc n : Nat) : PseudoChannel :=
  { (Sparse.get {} d.rms.pcs pc : PseudoChannel) with inflight := (Sparse.get {} d.rms.pcs pc : PseudoChannel).inflight - n }

theorem Dev.withPc_shows (d : Dev) (pc : Nat) (p : PseudoChannel) : Sparse.get {} (d.withPc pc p).rms.pcs pc = p :=
  Sparse.get_insert_self _ _ _ _

/-- The error counts and the pseudo-channels stay as the operations in flight are shown. -/
theorem Dev.opsShown_keeps (d : Dev) : KeepsPcs (· = Reg.RMS_ECC_CNT) d d.opsShown :=
  ((KeepsPcs.refl _ d).put _ _ fun _ ha => by rw [ha]; decide).put _ _ fun _ ha => by rw [ha]; decide

/-- OPS and PEAK show the operations in flight. -/
theorem Dev.opsShown_shows (d : Dev) :
    d.opsShown.get Fld.RMS_INFLIGHT.OPS = d.opsInFlight % 2 ^ 13 ∧
      d.opsShown.get Fld.RMS_INFLIGHT.PEAK = max d.opsInFlight (d.get Fld.RMS_INFLIGHT.PEAK) % 2 ^ 13 :=
  ⟨(Dev.get_put_apart _ _ (by decide)).trans (Dev.get_put_self _ _ _ (Fld.ok_of _ rfl rfl)),
    Dev.get_put_self _ _ _ (Fld.ok_of _ rfl rfl)⟩

/-- e shows its operations in flight, and PEAK is the most that d has seen. -/
structure ShowsOps (d e : Dev) : Prop where
  ops : e.get Fld.RMS_INFLIGHT.OPS = e.opsInFlight % 2 ^ 13
  peak : e.get Fld.RMS_INFLIGHT.PEAK = max e.opsInFlight (d.get Fld.RMS_INFLIGHT.PEAK) % 2 ^ 13

/-- A device whose operations were counted and then shown. -/
theorem ShowsOps.shown {d e : Dev} (h : RegsOut CountKey d e) : ShowsOps d e.opsShown := by
  obtain ⟨hops, hpeak⟩ := e.opsShown_shows
  rw [RegsOut.get h Fld.RMS_INFLIGHT.PEAK (.inl rfl)] at hpeak
  exact ⟨hops, hpeak⟩

theorem ShowsOps.keep {d e f : Dev} (h : ShowsOps d e) (k : KeepsPcs (· = Reg.RMS_INFLIGHT) e f) : ShowsOps d f := by
  have hn : f.opsInFlight = e.opsInFlight := by rw [Dev.opsInFlight, k.pcs, Dev.opsInFlight]
  exact ⟨by rw [k.regs.get _ rfl, hn, h.ops], by rw [k.regs.get _ rfl, hn, h.peak]⟩

/-- A device whose operations were counted, whatever its pseudo-channel takes. -/
theorem Dev.taken_regs {d e : Dev} (h : RegsOut CountKey d e) (pc : Nat) (p : PseudoChannel) (l : List HbmWait) (w : Option HbmWait) :
    RegsOut CountKey d ((e.withPc pc p).hbmTake pc l w) :=
  h.trans ((KeepsPcs.refl _ (e.withPc pc p)).hbmTake pc l w).regs

theorem Dev.pcDone_rmsGlobal (d : Dev) (pc n : Nat) : d.rmsGlobal.pcDone pc n = d.pcDone pc n := by
  rw [Dev.pcDone, Dev.rmsGlobal_rms, Dev.pcDone]

section
variable (d : Dev) (pc : Nat) (waiting : List HbmWait) (done : Nat) (ecc : EccResult)

/-- Nothing is taken with 256 operations in flight. -/
theorem Dev.hbmOp_full (h : 256 ≤ (d.pcDone pc done).inflight) :
    d.hbmOp pc waiting done ecc =
      ((d.rmsGlobal.withPc pc (d.pcDone pc done)).hbmTake pc (d.rmsGlobal.hbmWaiting pc waiting) none).opsShown := by
  rw [← Dev.pcDone_rmsGlobal] at h ⊢
  exact if_pos h

/-- With fewer, the pick of the guaranteed tier goes first. -/
theorem Dev.hbmOp_guaranteed (h : (d.pcDone pc done).inflight < 256) {k : Nat} {w : HbmWait}
    (hpick : d.rmsGlobal.guaranteedPick (d.rmsGlobal.hbmWaiting pc waiting) (d.pcDone pc done) = some (k, w)) :
    d.hbmOp pc waiting done ecc =
      ((((d.rmsGlobal.charge w).withPc pc { d.pcDone pc done with
        inflight := (d.pcDone pc done).inflight + 1, last := Sparse.insert k (sourceNum w.src) (d.pcDone pc done).last }).hbmTake pc
          (d.rmsGlobal.hbmWaiting pc waiting) (some w)).opsShown).eccOf w ecc := by
  rw [← Dev.pcDone_rmsGlobal] at h hpick ⊢
  refine (if_neg (Nat.not_le.mpr h)).trans ?_
  dsimp only
  split
  case h_1 heq =>
    obtain ⟨rfl, rfl⟩ := Prod.mk.inj (Option.some.inj (heq.symm.trans hpick))
    rfl
  case h_2 heq => exact absurd (heq.symm.trans hpick) nofun

/-- An operation, or none, is taken; the operations in flight are shown, and the error of the one taken follows. -/
theorem Dev.hbmOp_shows : ShowsOps d (d.hbmOp pc waiting done ecc) := by
  have hglobal : RegsOut CountKey d d.rmsGlobal := (KeepsPcs.refl _ d).rmsGlobal.regs
  unfold Dev.hbmOp
  extract_lets e l p0 p put shown
  have hnone (p : PseudoChannel) : ShowsOps d (shown ((put e p).hbmTake pc l none)) := .shown (Dev.taken_regs hglobal pc p l none)
  have hsome {f : Dev} (hf : RegsOut CountKey d f) (p : PseudoChannel) (w : HbmWait) :
      ShowsOps d ((shown ((put f p).hbmTake pc l (some w))).eccOf w ecc) :=
    (ShowsOps.shown (Dev.taken_regs hf pc p l (some w))).keep (Dev.eccOf_keeps ..)
  split
  · exact hnone p
  split
  · exact hsome (hglobal.trans ((KeepsPcs.refl _ e).charge _).regs) _ _
  split
  · exact hnone p
  split
  · exact hsome hglobal _ _
  · exact hnone _

/-- With 256 operations in flight the pseudo-channel only lets those go that are done. -/
theorem Dev.hbmOp_full_leaves (h : 256 ≤ (d.pcDone pc done).inflight) :
    Sparse.get {} (d.hbmOp pc waiting done ecc).rms.pcs pc = d.pcDone pc done ∧
      (d.hbmOp pc waiting done ecc).rms.winOps = d.rms.winOps ∧
      RegsOut (· = Reg.RMS_ECC_CNT) d (d.hbmOp pc waiting done ecc) := by
  rw [Dev.hbmOp_full d pc waiting done ecc h]
  refine ⟨Dev.withPc_shows .., congrArg (·.winOps) d.rmsGlobal_rms, fun a ha => ?_⟩
  exact ((Dev.opsShown_keeps _).regs a ha).trans ((Dev.taken_regs (KeepsPcs.refl _ d).rmsGlobal.regs _ _ _ _) a (.inr ha))

/-- The pick of the guaranteed tier is in flight, and its error is counted and reported. -/
theorem Dev.hbmOp_guaranteed_shows (h : (d.pcDone pc done).inflight < 256) {k : Nat} {w : HbmWait}
    (hpick : d.rmsGlobal.guaranteedPick (d.rmsGlobal.hbmWaiting pc waiting) (d.pcDone pc done) = some (k, w)) :
    (Sparse.get {} (d.hbmOp pc waiting done ecc).rms.pcs pc : PseudoChannel).inflight = (d.pcDone pc done).inflight + 1 ∧
      ∃ e : Dev, RegsOut (· = Reg.RMS_ECC_CNT) d e ∧ d.hbmOp pc waiting done ecc = e.eccOf w ecc := by
  have heq := Dev.hbmOp_guaranteed d pc waiting done ecc h hpick
  refine ⟨?_, _, fun a ha => ?_, heq⟩
  · rw [heq, (Dev.eccOf_keeps ..).pcs, (Dev.opsShown_keeps _).pcs, ((KeepsPcs.refl _ _).hbmTake ..).pcs, Dev.withPc_shows]
  · exact ((Dev.opsShown_keeps _).regs a ha).trans
      ((Dev.taken_regs ((KeepsPcs.refl _ d).rmsGlobal.charge w).regs _ _ _ _) a (.inr ha))

end

theorem exec_hbmOp {s : State} (h : Working 9 s) (pc : Fin 16) (waiting : List HbmWait) (done : Nat) (ecc : EccResult) :
    exec (.hbmOp pc waiting done ecc) s = .next { s with dev := s.dev.hbmOp pc waiting done ecc } := runBlock_runs h.1 h.2

end Sys2Proof.Machine
end

section
/-! Admission and grants (R306 to R309, R467): the fixed order of the grants, what a regrant shows of them, and O38. -/

namespace Sys2Proof.Machine

/-! ### The fixed order (R308) -/

/-- The kind and class of a claim, as one number. -/
abbrev Claim.key (x : Claim) : Nat := 8 * x.kind + x.cls

/-- The load of the claims of one kind and class. -/
def classLoad (l : List Claim) (n : Nat) : Nat := claimTotal l (n / 8) (n % 8) true + claimTotal l (n / 8) (n % 8) false

/-- What is granted in the fixed order never exceeds the capacity. -/
theorem grantOrder_got_le (l : List Claim) (ks : List Nat) (c : Capacity) : ((grantOrder l ks c).map (·.got)).sum ≤ c.all := by
  induction ks generalizing c with
  | nil => exact Nat.zero_le _
  | cons n r ih =>
    rw [grantOrder, List.map_cons, List.sum_cons]
    refine Nat.add_le_of_le_sub' ?_ (ih _)
    refine (Nat.min_le_right _ _).trans ?_
    split
    · exact Nat.min_le_left ..
    · exact Nat.le_refl _

theorem grantOrder_keys (l : List Claim) (ks : List Nat) (c : Capacity) : (grantOrder l ks c).map (·.key) = ks := by
  induction ks generalizing c with
  | nil => rfl
  | cons n r ih => rw [grantOrder, List.map_cons, ih]

/-- Each kind and class has its load. -/
theorem grantOrder_load {l : List Claim} {ks : List Nat} {c : Capacity} : ∀ e ∈ grantOrder l ks c, e.load = classLoad l e.key := by
  induction ks generalizing c with
  | nil => nofun
  | cons n r ih =>
    intro e he
    rw [grantOrder] at he
    obtain rfl | he := List.mem_cons.mp he
    · rfl
    · exact ih e he

/-! ### The load of all claims -/

/-- The claims of block RMS: their kinds and classes are those of a queue, and none of their traffic is paging. -/
structure PlainClaims (l : List Claim) : Prop where
  kind : ∀ x ∈ l, x.kind < 4
  cls : ∀ x ∈ l, x.cls < 8
  page : ∀ x ∈ l, x.page = false

/-- The load of the claims that satisfy p. -/
abbrev loadOf (l : List Claim) (p : Claim → Bool) : Nat := ((l.filter p).map (·.load)).sum

theorem loadOf_cons (x : Claim) (l : List Claim) (p : Claim → Bool) :
    loadOf (x :: l) p = (if p x then x.load else 0) + loadOf l p := by
  cases hp : p x <;> simp [loadOf, hp]

theorem loadOf_congr {l : List Claim} {p q : Claim → Bool} (h : ∀ x ∈ l, p x = q x) : loadOf l p = loadOf l q := by
  rw [loadOf, List.filter_congr h]

theorem claimTotal_eq_loadOf (l : List Claim) (k c : Nat) (page : Bool) :
    claimTotal l k c page = loadOf l (fun x => x.kind == k && x.cls == c && x.page == page) := by
  rw [claimTotal, loadOf, List.sum_eq_foldl, List.foldl_map]

/-- The claims of some keys, taken key by key. -/
theorem sum_loadOf_key {ks : List Nat} (hks : ks.Nodup) (l : List Claim) :
    (ks.map (fun n => loadOf l (fun x => x.key == n))).sum = loadOf l (fun x => decide (x.key ∈ ks)) := by
  induction ks with
  | nil => simp [loadOf]
  | cons n r ih =>
    obtain ⟨hn, hr⟩ := List.nodup_cons.mp hks
    rw [List.map_cons, List.sum_cons, ih hr]
    clear ih hks
    induction l with
    | nil => rfl
    | cons x l ihl =>
      rw [loadOf_cons, loadOf_cons, loadOf_cons, ← ihl]
      by_cases hx : x.key = n
      · simp [hx, hn, Nat.add_assoc]
      · simp [hx, Nat.add_left_comm]

section
variable {l : List Claim} (h : PlainClaims l)
include h

theorem claimTotal_page (k c : Nat) : claimTotal l k c true = 0 := by
  have hnone : l.filter (fun x => x.kind == k && x.cls == c && x.page == true) = [] :=
    List.filter_eq_nil_iff.mpr fun x hx => by simp [h.page x hx]
  rw [claimTotal, hnone]
  rfl

theorem classLoad_eq (n : Nat) : classLoad l n = loadOf l (fun x => x.key == n) := by
  rw [classLoad, claimTotal_page h, Nat.zero_add, claimTotal_eq_loadOf]
  have hsame : ∀ x ∈ l, (x.kind == n / 8 && x.cls == n % 8 && x.page == false) = (x.key == n) := fun x hx => by
    have hcls := h.cls x hx
    rw [Bool.eq_iff_iff]
    simp only [h.page x hx, BEq.rfl, Bool.and_true, Bool.and_eq_true, beq_iff_eq, Claim.key]
    omega
  exact loadOf_congr hsame

/-- The loads of some kinds and classes are those of the claims that have them. -/
theorem sum_classLoad {ks : List Nat} (hks : ks.Nodup) : (ks.map (classLoad l)).sum = loadOf l (fun x => decide (x.key ∈ ks)) := by
  rw [List.map_congr_left fun n _ => classLoad_eq h n]
  exact sum_loadOf_key hks l

theorem PlainClaims.key_lt {x : Claim} (hx : x ∈ l) : x.key < 32 := by
  have hkind := h.kind x hx
  have hcls := h.cls x hx
  unfold Claim.key; omega

/-- All kinds and classes have the load of all claims. -/
theorem sum_classLoad_all : ((List.range 32).map (classLoad l)).sum = loadOf l (fun _ => true) := by
  rw [sum_classLoad h List.nodup_range]
  exact loadOf_congr fun x hx => by simpa using h.key_lt hx

/-- Those of kind 2 have the load of its claims. -/
theorem sum_classLoad_two : (((List.range 32).filter (fun n => n / 8 == 2)).map (classLoad l)).sum = loadOf l (fun x => x.kind == 2) := by
  rw [sum_classLoad h (List.nodup_range.filter _)]
  refine loadOf_congr fun x hx => ?_
  have hkey := h.key_lt hx
  have hcls := h.cls x hx
  have hkind : x.key / 8 = x.kind := by unfold Claim.key; omega
  rw [Bool.eq_iff_iff]
  simp [hkind, hkey]

/-! ### Grants that fit -/

end

/-- Where the loads that are left fit in the capacity that is left, each kind and class is granted its load, and no queue's share is
scaled. -/
theorem grantOrder_fits {l : List Claim} (h : PlainClaims l) {ks : List Nat} {c : Capacity}
    (hall : (ks.map (classLoad l)).sum ≤ c.all) (hother : (ks.map (classLoad l)).sum ≤ c.other)
    (htwo : ((ks.filter (fun n => n / 8 == 2)).map (classLoad l)).sum ≤ c.kind2) :
    ∀ e ∈ grantOrder l ks c, e.got = e.load ∧ e.other = (e.load * e.load, e.load * e.load) := by
  induction ks generalizing c with
  | nil => nofun
  | cons n r ih =>
    have hpage := claimTotal_page h (n / 8) (n % 8)
    have hload : classLoad l n = claimTotal l (n / 8) (n % 8) false := by rw [classLoad, hpage, Nat.zero_add]
    rw [List.map_cons, List.sum_cons] at hall hother
    have htwo' : n / 8 = 2 → classLoad l n + ((r.filter (fun n => n / 8 == 2)).map (classLoad l)).sum ≤ c.kind2 := fun hn => by
      simpa [List.filter_cons, hn] using htwo
    have hrest : ((r.filter (fun n => n / 8 == 2)).map (classLoad l)).sum ≤ if n / 8 = 2 then c.kind2 - classLoad l n else c.kind2 := by
      split
      case isTrue hn => have := htwo' hn; omega
      case isFalse hn => simpa [List.filter_cons, hn] using htwo
    have hserved : min (classLoad l n) c.other = classLoad l n := by omega
    have hgot : min (min 0 c.page + classLoad l n) (if n / 8 = 2 then min c.all c.kind2 else c.all) = classLoad l n := by
      split
      case isTrue hn => have := htwo' hn; omega
      case isFalse => omega
    intro e he
    rw [grantOrder, hpage, ← hload, hserved, hgot] at he
    obtain rfl | he := List.mem_cons.mp he
    · simp
    · exact ih (Nat.le_sub_of_add_le' hall) (Nat.le_sub_of_add_le' hother) hrest e he

/-- A share that is not scaled. -/
theorem share_whole {n m : Nat} (h : n ≤ m) : share n (m * m, m * m) = n := by
  unfold share
  by_cases hm : m = 0
  · simp [hm]; omega
  · have hpos : m * m ≠ 0 := Nat.mul_ne_zero hm hm
    simp [hpos, Nat.mul_div_cancel _ (Nat.pos_of_ne_zero hpos)]

/-- Whether some kind and class is granted less than its load. -/
def grantShort (l : List Claim) (c : Capacity) : Bool := (grantOrder l (List.range 32) c).any (fun e => decide (e.got < e.load))

/-- Loads beyond the capacity are short of it. -/
theorem grantShort_of_exceeds {l : List Claim} (h : PlainClaims l) {c : Capacity} (hall : c.all < loadOf l (fun _ => true)) :
    grantShort l c = true := by
  by_contra hshort
  have hserved : ∀ e ∈ grantOrder l (List.range 32) c, e.load ≤ e.got := by simpa [grantShort] using hshort
  have hloads : (grantOrder l (List.range 32) c).map (·.load) = (List.range 32).map (classLoad l) := by
    rw [← congrArg (List.map (classLoad l)) (grantOrder_keys l (List.range 32) c), List.map_map]
    exact List.map_congr_left grantOrder_load
  have hsum : ((grantOrder l (List.range 32) c).map (·.load)).sum ≤ ((grantOrder l (List.range 32) c).map (·.got)).sum :=
    List.sum_le_sum hserved
  rw [hloads, sum_classLoad_all h] at hsum
  exact absurd (hsum.trans (grantOrder_got_le l _ c)) (Nat.not_le.mpr hall)

section
variable {l : List Claim} (h : PlainClaims l) {c : Capacity} (hall : loadOf l (fun _ => true) ≤ c.all)
  (hother : loadOf l (fun _ => true) ≤ c.other) (htwo : loadOf l (fun x => x.kind == 2) ≤ c.kind2)
include h hall hother htwo

/-- Loads that fit are granted as they are. -/
theorem grants_fit : ∀ e ∈ grantOrder l (List.range 32) c, e.got = e.load ∧ e.other = (e.load * e.load, e.load * e.load) :=
  grantOrder_fits h (by rw [sum_classLoad_all h]; exact hall) (by rw [sum_classLoad_all h]; exact hother)
    (by rw [sum_classLoad_two h]; exact htwo)

theorem grantShort_of_fits : grantShort l c = false := by
  have hfit := grants_fit h hall hother htwo
  simp only [grantShort, List.any_eq_false, decide_eq_true_eq, Nat.not_lt]
  exact fun e he => Nat.le_of_eq (hfit e he).1.symm

/-- Each queue is granted its load. -/
theorem grantEach_of_fits : grantEach l c = l.map (fun x => (x.q, x.load)) := by
  refine List.map_congr_left fun x hx => ?_
  split
  case h_1 e he =>
    have hkey : e.key = x.key := by simpa using List.find?_some he
    have hmem := List.mem_of_find?_eq_some he
    have hle : x.load ≤ e.load := by
      rw [grantOrder_load e hmem, classLoad_eq h, hkey]
      exact List.single_le_sum (fun _ _ => Nat.zero_le _) _
        (List.mem_map_of_mem (List.mem_filter.mpr ⟨hx, beq_self_eq_true x.key⟩))
    rw [h.page x hx, (grants_fit h hall hother htwo e hmem).2]
    exact congrArg _ (share_whole hle)
  case h_2 hnone =>
    have hmem : x.key ∈ (grantOrder l (List.range 32) c).map (·.key) := by
      rw [grantOrder_keys]
      exact List.mem_range.mpr (h.key_lt hx)
    obtain ⟨e, he, hkey⟩ := List.mem_map.mp hmem
    exact absurd (List.find?_eq_none.mp hnone e he) (by simp [hkey])

end

/-! ### The claims of the declared queues -/

theorem Dev.hbmClaims_plain (d : Dev) : PlainClaims d.hbmClaims := by
  refine ⟨fun x hx => ?_, fun x hx => ?_, fun x hx => ?_⟩
  · obtain ⟨e, -, rfl⟩ := List.mem_map.mp hx
    unfold Dev.qKind
    dsimp only
    repeat' split
    all_goals omega
  · obtain ⟨e, -, rfl⟩ := List.mem_map.mp hx
    exact Dev.get_lt ..
  · obtain ⟨e, -, rfl⟩ := List.mem_map.mp hx
    rfl

/-! ### The rates of merge queues (R306) -/

theorem Dev.mergeRates_rms (d : Dev) : d.mergeRates.rms = d.rms :=
  foldl_leaves Dev.rms (fun d e => by split <;> rfl) _ d

theorem Dev.mergeRates_str (d : Dev) : d.mergeRates.str = d.str :=
  foldl_leaves Dev.str (fun d e => by split <;> rfl) _ d

/-- Only the rates of merge queues are written. -/
theorem Dev.mergeRates_regs (d : Dev) : RegsOut (fun a => ∀ q, d.qType q = 4 → a ≠ Reg.RMS_Q_DESC3 q) d d.mergeRates := by
  refine RegsOut.foldl _ _ (fun e x _ he => ?_) (.refl _ d)
  split
  case isTrue htype =>
    have hsame : e.qType x.1 = d.qType x.1 := he.get _ fun q _ => by
      simp only [Fld.RMS_Q_DESC0.TYPE, Reg.RMS_Q_DESC0, Reg.RMS_Q_DESC3]; omega
    have hmerge : d.qType x.1 = 4 := hsame.symm.trans htype
    exact (he.put _ _ fun _ ha => ha _ hmerge).put _ _ fun _ ha => ha _ hmerge
  case isFalse => exact he

/-- Queues, their types and what else their first word says stay. -/
theorem Dev.mergeRates_desc0 (d : Dev) {f : Fld} (q : Nat) (hf : f.addr = Reg.RMS_Q_DESC0 q) : d.mergeRates.get f = d.get f :=
  d.mergeRates_regs.get f fun p _ => by rw [hf]; unfold Reg.RMS_Q_DESC0 Reg.RMS_Q_DESC3; omega

theorem Dev.mergeRates_mergeFlow (d : Dev) (q : Nat) : d.mergeRates.mergeFlow q = d.mergeFlow q := by
  have hflow (f : Fld) (n : Nat) (hf : f.addr = Reg.MRG_FLOW_QUEUE n) : d.mergeRates.get f = d.get f :=
    d.mergeRates_regs.get f fun p _ => by rw [hf]; unfold Reg.MRG_FLOW_QUEUE Reg.RMS_Q_DESC3; omega
  have hflows : d.mergeRates.flows = d.flows := by rw [Dev.flows, Dev.body, Dev.mergeRates_str, Dev.flows, Dev.body]
  unfold Dev.mergeFlow
  rw [hflows]
  exact List.find?_congr fun w _ => by
    rw [Dev.isSet, hflow (Fld.MRG_FLOW_QUEUE.EN w.flow) _ rfl, hflow (Fld.MRG_FLOW_QUEUE.QUEUE w.flow) _ rfl, Dev.isSet]

theorem Dev.mergeRates_hbmLoad (d : Dev) (q : Nat) : d.mergeRates.hbmLoad q = d.hbmLoad q := by
  have htype : d.mergeRates.qType q = d.qType q := d.mergeRates_desc0 q rfl
  unfold Dev.hbmLoad
  rw [htype, Dev.mergeRates_mergeFlow]
  split
  case h_1 => rfl
  case h_2 => rfl
  case h_3 h4 _ =>
    have hrate (f : Fld) (hf : f.addr = Reg.RMS_Q_DESC3 q ∨ f.addr = Reg.RMS_Q_DESC4 q) : d.mergeRates.get f = d.get f := by
      refine d.mergeRates_regs.get f fun p hp hfp => h4 ?_
      have hpq : p = q := by
        unfold Reg.RMS_Q_DESC3 Reg.RMS_Q_DESC4 at *; omega
      exact hpq ▸ hp
    rw [hrate (Fld.RMS_Q_DESC3.RATE_W q) (.inl rfl), hrate (Fld.RMS_Q_DESC3.RATE_R q) (.inl rfl),
      hrate (Fld.RMS_Q_DESC4.PAGE_RATE q) (.inr rfl)]

/-- The claims on HBM stay. -/
theorem Dev.mergeRates_hbmClaims (d : Dev) : d.mergeRates.hbmClaims = d.hbmClaims := by
  unfold Dev.hbmClaims
  rw [Dev.mergeRates_rms]
  refine List.map_congr_left fun e _ => ?_
  have htype : d.mergeRates.qType e.1 = d.qType e.1 := d.mergeRates_desc0 e.1 rfl
  have hkind : d.mergeRates.qKind e.1 = d.qKind e.1 := by
    rw [Dev.qKind, htype, Dev.isSet, d.mergeRates_desc0 (f := Fld.RMS_Q_DESC0.RT e.1) e.1 rfl, Dev.qKind, Dev.isSet]
  rw [hkind, Dev.mergeRates_hbmLoad, d.mergeRates_desc0 e.1 rfl]

theorem Dev.mergeRates_hbmCapacity (d : Dev) : d.mergeRates.hbmCapacity = d.hbmCapacity := by
  have hglobal (f : Fld) (hf : f.addr ≤ Reg.RMS_TR_CAP) : d.mergeRates.get f = d.get f :=
    d.mergeRates_regs.get f fun p _ => by unfold Reg.RMS_TR_CAP at hf; unfold Reg.RMS_Q_DESC3; omega
  rw [Dev.hbmCapacity, hglobal Fld.RMS_ADM_LIMIT.LIMIT (by decide), hglobal Fld.RMS_TR_CAP.CAP (by decide), Dev.hbmCapacity]

/-! ### Grants of the HBM (R308) -/

/-- The registers of no queue and not of block RMS. -/
abbrev OutsideRms (a : Nat) : Prop := a < 0x900000 ∨ (0xA00000 ≤ a ∧ a < queueBase)

/-- The grants of HBM shown for queues. -/
def Dev.hbmShown (d : Dev) (l : List (Nat × Nat)) : Dev := l.foldl (fun d e => d.put (Fld.RMS_Q_GRANT.GRANT_HBM e.1) e.2) d

/-- The grants and loads shown for each kind. -/
def Dev.kindsShown (d : Dev) (order : List Granted) : Dev :=
  let sum (k : Nat) (f : Granted → Nat) : Nat := (order.filter (fun e => e.key / 8 == k)).foldl (fun n e => n + f e) 0
  Dev.forUpTo 4 (fun d k =>
    let was := d.get (Fld.RMS_ADM_KIND.GRANTED k)
    let d := (d.put (Fld.RMS_ADM_KIND.GRANTED k) (sum k (·.got))).put (Fld.RMS_ADM_KIND.RESERVED k) (min 4095 (sum k (·.load)))
    if was = sum k (·.got) then d else d.setInt intRMS 1) d

theorem Dev.regrantHbm_eq (d : Dev) :
    d.regrantHbm = ((d.settleBuckets.hbmShown (grantEach d.hbmClaims d.hbmCapacity)).kindsShown
      (grantOrder d.hbmClaims (List.range 32) d.hbmCapacity)).causeIs 288 (grantShort d.hbmClaims d.hbmCapacity) := rfl

/-- The grant shown for a queue whose grants agree. -/
theorem Dev.hbmShown_get (d : Dev) {v : Nat → Nat} {l : List (Nat × Nat)} (hl : ∀ e ∈ l, e.2 = v e.1) {q : Nat}
    (hq : q ∈ l.map (·.1) ∨ d.get (Fld.RMS_Q_GRANT.GRANT_HBM q) = v q % 2 ^ 12) :
    (d.hbmShown l).get (Fld.RMS_Q_GRANT.GRANT_HBM q) = v q % 2 ^ 12 := by
  induction l generalizing d with
  | nil => simpa [Dev.hbmShown] using hq
  | cons e l ih =>
    refine ih _ (fun e he => hl e (List.mem_cons_of_mem _ he)) ?_
    by_cases he : e.1 = q
    · right
      dsimp only
      rw [hl e (List.mem_cons_self ..), he]
      exact Dev.get_put_self _ _ _ (Fld.ok_of _ rfl rfl)
    · rw [Dev.get_put_elsewhere _ _ (by simp only [Fld.RMS_Q_GRANT.GRANT_HBM, Reg.RMS_Q_GRANT]; omega)]
      simpa [Ne.symm he] using hq

theorem Dev.hbmShown_regs (d : Dev) (l : List (Nat × Nat)) : RegsOut (· < queueBase) d (d.hbmShown l) :=
  RegsOut.foldl _ _ (fun _ e _ he => he.put _ _ fun a ha => by
    simp only [Fld.RMS_Q_GRANT.GRANT_HBM, Reg.RMS_Q_GRANT]; unfold queueBase at ha; omega) (.refl _ d)

theorem Dev.hbmShown_rms (d : Dev) (l : List (Nat × Nat)) : (d.hbmShown l).rms = d.rms :=
  foldl_leaves Dev.rms (fun d (e : Nat × Nat) => Dev.put_rms d (Fld.RMS_Q_GRANT.GRANT_HBM e.1) e.2) l d

/-- The kinds are shown in global registers of block RMS. -/
theorem Dev.kindsShown_regs (d : Dev) (order : List Granted) :
    RegsOut (fun a => a < 0x900000 ∨ 0xA00000 ≤ a) d (d.kindsShown order) := by
  refine RegsOut.forUpTo 4 _ (fun e k hk he => ?_) (.refl _ d)
  have hkind : ∀ a, a < 0x900000 ∨ 0xA00000 ≤ a → a ≠ Reg.RMS_ADM_KIND k := by unfold Reg.RMS_ADM_KIND; omega
  have hint : ∀ a, a < 0x900000 ∨ 0xA00000 ≤ a → a ≠ Reg.RMS_INT_STATUS := by unfold Reg.RMS_INT_STATUS; omega
  have hput := fun u v => (he.put (Fld.RMS_ADM_KIND.GRANTED k) u hkind).put (Fld.RMS_ADM_KIND.RESERVED k) v hkind
  exact RegsOut.ite (hput _ _) ((hput _ _).setInt _ _ hint)

theorem Dev.kindsShown_rms (d : Dev) (order : List Granted) : (d.kindsShown order).rms = d.rms :=
  foldl_leaves Dev.rms (fun _ _ => by dsimp only; split <;> simp) _ d

theorem Dev.regrantHbm_regs (d : Dev) : RegsOut OutsideRms d d.regrantHbm := by
  rw [Dev.regrantHbm_eq]
  refine RegsOut.causeIs (fun a ha => ?_) _ _
  rw [Dev.kindsShown_regs _ _ a (by omega), Dev.hbmShown_regs _ _ a (by unfold OutsideRms queueBase at *; omega)]
  rfl

theorem Dev.regrantHbm_exits (d : Dev) : d.regrantHbm.rms.exits = d.rms.exits := by
  rw [Dev.regrantHbm_eq, Dev.causeIs_rms, Dev.kindsShown_rms, Dev.hbmShown_rms]
  rfl

theorem Dev.present_regrantHbm (d : Dev) : Present 288 d.regrantHbm ↔ grantShort d.hbmClaims d.hbmCapacity = true := by
  rw [Dev.regrantHbm_eq, Present, Dev.mem_causes_causeIs]
  simp

/-- Where the loads fit, each queue's grant is its load. -/
theorem Dev.regrantHbm_grants {d : Dev} (hall : loadOf d.hbmClaims (fun _ => true) ≤ d.hbmCapacity.all)
    (htwo : loadOf d.hbmClaims (fun x => x.kind == 2) ≤ d.hbmCapacity.kind2) :
    (∀ x ∈ d.hbmClaims, d.regrantHbm.get (Fld.RMS_Q_GRANT.GRANT_HBM x.q) = x.load) ∧ ¬ Present 288 d.regrantHbm := by
  have hplain := d.hbmClaims_plain
  refine ⟨fun x hx => ?_, fun hpresent => ?_⟩
  · have hload : x.load = d.hbmLoad x.q := by
      obtain ⟨e, -, rfl⟩ := List.mem_map.mp hx
      rfl
    have hsmall : x.load < 2 ^ 12 :=
      Nat.lt_of_le_of_lt ((List.le_sum_of_mem (List.mem_map_of_mem (List.mem_filter.mpr ⟨hx, rfl⟩))).trans hall) (Dev.get_lt ..)
    rw [Dev.regrantHbm_eq, Dev.causeIs_get, (Dev.kindsShown_regs _ _).get _ (.inr (by
      simp only [Fld.RMS_Q_GRANT.GRANT_HBM, Reg.RMS_Q_GRANT]; omega)), grantEach_of_fits hplain hall hall htwo]
    refine (Dev.hbmShown_get _ (v := d.hbmLoad) ?_ (.inl ?_)).trans ?_
    · intro e he
      obtain ⟨y, hy, rfl⟩ := List.mem_map.mp he
      obtain ⟨e, -, rfl⟩ := List.mem_map.mp hy
      rfl
    · rw [List.map_map]
      exact List.mem_map_of_mem hx
    · rw [← hload, Nat.mod_eq_of_lt hsmall]
  · rw [Dev.present_regrantHbm, grantShort_of_fits hplain hall hall htwo] at hpresent
    exact Bool.false_ne_true hpresent

/-! ### Capacity of groups (R308, R467) -/

/-- Load, capacity and grants of group g, as d has them, shown in e. -/
def Dev.groupPut (d e : Dev) (g : Nat) : Dev :=
  (grantEach (d.groupClaims g) (d.groupCapacity g)).foldl (fun e x => e.put (Fld.RMS_Q_GRANT.GRANT_GRP x.1) x.2)
    ((e.put (Fld.RMS_GRP.LOAD g) (d.trafficLoad g true + d.trafficLoad g false)).put (Fld.RMS_GRP.CAPACITY g) (d.groupCapacity g).all)

/-- Those of group g, with the interrupt of a capacity that changes. -/
def Dev.groupShown (d e : Dev) (g : Nat) : Dev :=
  if e.get (Fld.RMS_GRP.CAPACITY g) = (d.groupCapacity g).all then d.groupPut e g else (d.groupPut e g).setInt intRMS 2

theorem Dev.regrantGroups_eq (d : Dev) :
    d.regrantGroups = (Dev.forUpTo 16 d.groupShown d).causeIs 289 ((List.range 16).any d.groupShort) := rfl

section
variable (d e : Dev) (g : Nat)

/-- What is seen of a device that neither a field of a group's grants nor an interrupt changes. -/
theorem Dev.groupShown_leaves {α : Type} (view : Dev → α)
    (hput : view (d.groupPut e g) = view e) (hint : ∀ e, view (e.setInt intRMS 2) = view e) : view (d.groupShown e g) = view e := by
  unfold Dev.groupShown
  split
  · exact hput
  · exact (hint _).trans hput

theorem Dev.groupShown_rms : (d.groupShown e g).rms = e.rms :=
  d.groupShown_leaves e g Dev.rms (foldl_leaves Dev.rms (fun e (x : Nat × Nat) => Dev.put_rms e (Fld.RMS_Q_GRANT.GRANT_GRP x.1) x.2) _ _)
    fun _ => Dev.setInt_rms ..

theorem Dev.groupShown_causes : (d.groupShown e g).causes = e.causes :=
  d.groupShown_leaves e g Dev.causes
    (foldl_leaves Dev.causes (fun e (x : Nat × Nat) => Dev.put_causes e (Fld.RMS_Q_GRANT.GRANT_GRP x.1) x.2) _ _)
    fun _ => Dev.setInt_causes ..

variable {g}

theorem Dev.groupShown_grant (hg : g < 16) (q : Nat) :
    (d.groupShown e g).get (Fld.RMS_Q_GRANT.GRANT_HBM q) = e.get (Fld.RMS_Q_GRANT.GRANT_HBM q) := by
  have hgrp : Reg.RMS_Q_GRANT q ≠ Reg.RMS_GRP g := by unfold Reg.RMS_Q_GRANT Reg.RMS_GRP; omega
  have hint : Reg.RMS_Q_GRANT q ≠ Reg.RMS_INT_STATUS := by unfold Reg.RMS_Q_GRANT Reg.RMS_INT_STATUS; omega
  refine d.groupShown_leaves e g (·.get (Fld.RMS_Q_GRANT.GRANT_HBM q)) ?_ fun _ => Dev.get_setInt_ne _ _ _ hint
  refine (foldl_leaves (·.get (Fld.RMS_Q_GRANT.GRANT_HBM q)) (fun e (x : Nat × Nat) =>
    Dev.get_put_apart e (f := Fld.RMS_Q_GRANT.GRANT_GRP x.1) x.2 rfl) _ _).trans ?_
  rw [Dev.get_put_elsewhere _ _ hgrp, Dev.get_put_elsewhere _ _ hgrp]

/-- The capacity of a group is shown; that of any other stays. -/
theorem Dev.groupShown_capacity {j : Nat} (hj : j < 16) :
    (d.groupShown e g).get (Fld.RMS_GRP.CAPACITY j) =
      if j = g then (d.groupCapacity g).all % 2 ^ 14 else e.get (Fld.RMS_GRP.CAPACITY j) := by
  have hint : Reg.RMS_GRP j ≠ Reg.RMS_INT_STATUS := by unfold Reg.RMS_GRP Reg.RMS_INT_STATUS; omega
  have hput : (d.groupPut e g).get (Fld.RMS_GRP.CAPACITY j) =
      if j = g then (d.groupCapacity g).all % 2 ^ 14 else e.get (Fld.RMS_GRP.CAPACITY j) := by
    refine (foldl_leaves (·.get (Fld.RMS_GRP.CAPACITY j)) (fun e (x : Nat × Nat) =>
      Dev.get_put_elsewhere e (f := Fld.RMS_Q_GRANT.GRANT_GRP x.1) x.2 ?_) _ _).trans ?_
    · simp only [Fld.RMS_GRP.CAPACITY, Fld.RMS_Q_GRANT.GRANT_GRP, Reg.RMS_GRP, Reg.RMS_Q_GRANT]; omega
    · split
      case isTrue h =>
        rw [h]
        exact Dev.get_put_self _ _ _ (Fld.ok_of _ rfl rfl)
      case isFalse h =>
        have hne : Reg.RMS_GRP j ≠ Reg.RMS_GRP g := by unfold Reg.RMS_GRP; omega
        rw [Dev.get_put_elsewhere _ _ hne, Dev.get_put_elsewhere _ _ hne]
  unfold Dev.groupShown
  split
  · exact hput
  · rw [Dev.get_setInt_ne _ _ _ hint, hput]

end

/-- Regranting groups shows each its capacity. -/
theorem Dev.regrantGroups_capacity (d : Dev) {g : Nat} (hg : g < 16) :
    d.regrantGroups.get (Fld.RMS_GRP.CAPACITY g) = (d.groupCapacity g).all % 2 ^ 14 := by
  rw [Dev.regrantGroups_eq, Dev.causeIs_get]
  exact Dev.forUpTo_places (view := fun e j => e.get (Fld.RMS_GRP.CAPACITY j)) (g := fun j _ => (d.groupCapacity j).all % 2 ^ 14)
    (fun e i hi => (d.groupShown_capacity e hi).trans (if_pos rfl))
    (fun e i j hi hj hne => (d.groupShown_capacity e hj).trans (if_neg hne)) d hg

/-- Regranting groups leaves the grants of HBM, and what is short of it. -/
theorem Dev.regrantGroups_leaves (d : Dev) :
    (∀ q, d.regrantGroups.get (Fld.RMS_Q_GRANT.GRANT_HBM q) = d.get (Fld.RMS_Q_GRANT.GRANT_HBM q)) ∧
      (Present 288 d.regrantGroups ↔ Present 288 d) ∧ d.regrantGroups.rms = d.rms := by
  rw [Dev.regrantGroups_eq]
  refine ⟨fun q => ?_, ?_, ?_⟩
  · rw [Dev.causeIs_get]
    exact (List.range 16).foldlRecOn _ (motive := fun e => e.get (Fld.RMS_Q_GRANT.GRANT_HBM q) = d.get (Fld.RMS_Q_GRANT.GRANT_HBM q)) rfl
      fun e he g hg => (d.groupShown_grant e (List.mem_range.mp hg) q).trans he
  · rw [Present, Dev.mem_causes_causeIs, Dev.forUpTo, foldl_leaves Dev.causes d.groupShown_causes]
    simp
  · rw [Dev.causeIs_rms]
    exact foldl_leaves Dev.rms d.groupShown_rms _ d

/-! ### Forwarded groups (R467) -/

section
variable {d e : Dev} (h : RegsOut OutsideRms d e)
include h

theorem OutsideRms.config : SameConfig d e := fun a ha => h a <| by
  obtain rfl | rfl | rfl | ⟨g, hg, rfl⟩ | ⟨k, hk, rfl | rfl | rfl⟩ := ha
  · decide
  · decide
  · decide
  · unfold OutsideRms Reg.HST_OCTET_CTL; omega
  · unfold OutsideRms Reg.HST_LANE_CTL; omega
  · unfold OutsideRms Reg.HST_LANE_PRBS_CTL; omega
  · unfold OutsideRms Reg.HST_CLIENT_CTL; omega

theorem OutsideRms.forwardLanes (g : Nat) : e.forwardLanes g = d.forwardLanes g := by
  have hconfig := OutsideRms.config h
  unfold Dev.forwardLanes
  refine List.filter_congr fun l hl => ?_
  have hl48 := List.mem_range.mp hl
  rw [hconfig.claimed, hconfig.octetEn (by omega), hconfig.field hl48 (Fld.HST_LANE_CTL.ROLE l) (.inl rfl), Dev.laneGroup,
    hconfig.field hl48 (Fld.HST_LANE_CTL.GROUP l) (.inl rfl), Dev.laneGroup]

/-- A field of CHAIN, of a link or a group. -/
theorem OutsideRms.isSet (f : Fld) (hlow : 0xA00000 ≤ f.addr) (hhigh : f.addr < queueBase) : e.isSet f = d.isSet f := by
  rw [Dev.isSet, h.get f (.inr ⟨hlow, hhigh⟩), Dev.isSet]

theorem OutsideRms.groupForwarded {g : Nat} (hg : g < 16) : e.groupForwarded g = d.groupForwarded g := by
  have hmap : (Fld.CHN_SPILL_MAP.EN g).addr = 0xE00080 + 4 * g := rfl
  rw [Dev.groupForwarded, OutsideRms.forwardLanes h, OutsideRms.isSet h _ (by omega) (by unfold queueBase; omega), Dev.groupForwarded]

theorem OutsideRms.forwardCapacity (g : Nat) : e.forwardCapacity g = if g ∈ e.rms.exits then
    200 * ((d.forwardLanes g).filter (fun l => d.isSet (Fld.CHN_LINK_STATUS.RUN (l % 8 / 4)))).length else 0 := by
  have hrun (l : Nat) : e.isSet (Fld.CHN_LINK_STATUS.RUN (l % 8 / 4)) = d.isSet (Fld.CHN_LINK_STATUS.RUN (l % 8 / 4)) := by
    have hlink : (Fld.CHN_LINK_STATUS.RUN (l % 8 / 4)).addr = 0xE00008 + 4 * (l % 8 / 4) := rfl
    exact OutsideRms.isSet h _ (by omega) (by unfold queueBase; omega)
  rw [Dev.forwardCapacity, OutsideRms.forwardLanes h]
  simp only [hrun]

end

/-- The capacity of a forwarded group is within its field. -/
theorem Dev.forwardLanes_small (d : Dev) (g : Nat) (p : Nat → Bool) : 200 * ((d.forwardLanes g).filter p).length < 2 ^ 14 := by
  have hle : ((d.forwardLanes g).filter p).length ≤ 48 :=
    (List.length_filter_le ..).trans ((List.length_filter_le ..).trans (Nat.le_of_eq List.length_range))
  omega

/-! ### The commands, and O38 -/

/-- The device before its HBM is regranted: its exits and the rates of its merge queues are set. -/
def Dev.ratesSet (d : Dev) (x : List (Fin 16)) : Dev := ({ d with rms := { d.rms with exits := x.map (·.val) } } : Dev).mergeRates

section
variable (d : Dev) (x : List (Fin 16))

theorem Dev.regrantWith_eq : d.regrantWith x = (d.ratesSet x).regrantHbm.regrantGroups := rfl

theorem Dev.ratesSet_hbmClaims : (d.ratesSet x).hbmClaims = d.hbmClaims := Dev.mergeRates_hbmClaims _

theorem Dev.ratesSet_hbmCapacity : (d.ratesSet x).hbmCapacity = d.hbmCapacity := Dev.mergeRates_hbmCapacity _

theorem Dev.ratesSet_exits : (d.ratesSet x).rms.exits = x.map (·.val) := congrArg (·.exits) (Dev.mergeRates_rms _)

theorem Dev.regranted_regs : RegsOut OutsideRms d (d.ratesSet x).regrantHbm := fun a ha =>
  ((d.ratesSet x).regrantHbm_regs a ha).trans (Dev.mergeRates_regs _ a fun q _ => by
    unfold OutsideRms queueBase at ha; unfold Reg.RMS_Q_DESC3; omega)

theorem Dev.regrantWith_exits : (d.regrantWith x).rms.exits = x.map (·.val) := by
  obtain ⟨-, -, hrms⟩ := (d.ratesSet x).regrantHbm.regrantGroups_leaves
  rw [Dev.regrantWith_eq, hrms, Dev.regrantHbm_exits, Dev.ratesSet_exits]

theorem Dev.regrantWith_fits (hall : loadOf d.hbmClaims (fun _ => true) ≤ d.get Fld.RMS_ADM_LIMIT.LIMIT)
    (htwo : loadOf d.hbmClaims (fun c => c.kind == 2) ≤ d.get Fld.RMS_TR_CAP.CAP) :
    (∀ c ∈ d.hbmClaims, (d.regrantWith x).get (Fld.RMS_Q_GRANT.GRANT_HBM c.q) = c.load) ∧ ¬ Present 288 (d.regrantWith x) := by
  obtain ⟨hgrant, hcause, -⟩ := (d.ratesSet x).regrantHbm.regrantGroups_leaves
  rw [Dev.regrantWith_eq]
  rw [← Dev.ratesSet_hbmClaims d x] at hall htwo ⊢
  have hcapacity := d.ratesSet_hbmCapacity x
  obtain ⟨hgrants, hpresent⟩ := Dev.regrantHbm_grants (d := d.ratesSet x) (by rw [hcapacity]; exact hall)
    (by rw [hcapacity]; exact htwo)
  exact ⟨fun c hc => (hgrant c.q).trans (hgrants c hc), fun h => hpresent (hcause.mp h)⟩

theorem Dev.regrantWith_short (h : d.get Fld.RMS_ADM_LIMIT.LIMIT < loadOf d.hbmClaims (fun _ => true)) : Present 288 (d.regrantWith x) := by
  obtain ⟨-, hcause, -⟩ := (d.ratesSet x).regrantHbm.regrantGroups_leaves
  rw [Dev.regrantWith_eq, hcause, Dev.present_regrantHbm, Dev.ratesSet_hbmClaims, Dev.ratesSet_hbmCapacity]
  exact grantShort_of_exceeds d.hbmClaims_plain h

theorem Dev.regrantWith_forwarded {g : Fin 16} (hg : d.groupForwarded g = true) :
    (d.regrantWith x).get (Fld.RMS_GRP.CAPACITY g) = if g ∈ x then
      200 * ((d.forwardLanes g).filter (fun l => d.isSet (Fld.CHN_LINK_STATUS.RUN (l % 8 / 4)))).length else 0 := by
  have hregs := d.regranted_regs x
  rw [Dev.regrantWith_eq, Dev.regrantGroups_capacity _ g.isLt, Dev.groupCapacity, OutsideRms.groupForwarded hregs g.isLt,
    hg, if_pos rfl, OutsideRms.forwardCapacity hregs, Dev.regrantHbm_exits, Dev.ratesSet_exits]
  have hmem : g.val ∈ x.map (·.val) ↔ g ∈ x := List.mem_map_of_injective Fin.val_injective
  simp only [hmem]
  split
  · exact Nat.mod_eq_of_lt (d.forwardLanes_small ..)
  · rfl

end

/-- A limit is stored clamped. -/
theorem Dev.admLimit_shadow (d : Dev) (v : Nat) :
    (d.admLimit v).shadowReg Reg.RMS_ADM_LIMIT = BitVec.ofNat 32 (max
      ((d.hbmClaims.filter (fun x => decide (x.kind ≤ 1))).foldl (fun n x => n + x.load) 0) (min v 3100)) :=
  Sparse.get_insert_self _ _ _ _

theorem Dev.admLimit_regs (d : Dev) (v : Nat) : (d.admLimit v).regs = d.regs := rfl

theorem exec_admLimitWrite {s : State} {req : Requester} (h : Writable req 9 s) (v : BitVec 12) :
    exec (.admLimitWrite req v) s = .next { s with dev := s.dev.admLimit v.toNat } := runWrite_runs h.1 h.2

theorem exec_grantRecompute {s : State} (h : Running s) (x : List (Fin 16)) :
    exec (.grantRecompute x) s = .next { s with dev := s.dev.regrantWith x } := runDev_alive h

/-- Settles O38: operations by what is taken, the limit by its shadow, grants by the fixed order. -/
theorem operationsAndGrants : Obligations.OperationsAndGrants := by
  refine ⟨fun s pc w n e hw => ?counts, fun s pc w n k e x hw => ⟨fun hfull => ?full, fun hfew hpick => ?taken⟩,
    fun s req v hw => ?limit, fun s x hrun => ?grants, grantOrder_got_le⟩
  case counts =>
    have hshows := s.dev.hbmOp_shows pc w n e
    exact ⟨_, exec_hbmOp hw pc w n e, ⟨rfl, rfl, rfl⟩, hshows.ops, hshows.peak⟩
  case full =>
    obtain ⟨hpc, hops, herrors⟩ := s.dev.hbmOp_full_leaves pc w n e hfull
    exact ⟨_, exec_hbmOp hw pc w n e, congrArg (·.inflight) hpc, hops, herrors.get _ rfl, herrors.get _ rfl⟩
  case taken =>
    obtain ⟨hinflight, f, herrors, heq⟩ := s.dev.hbmOp_guaranteed_shows pc w n e hfew hpick
    obtain ⟨hce, hue⟩ := f.eccOf_shows x e
    rw [← heq, herrors.get Fld.RMS_ECC_CNT.CE rfl] at hce
    rw [← heq, herrors.get Fld.RMS_ECC_CNT.UE rfl] at hue
    exact ⟨_, exec_hbmOp hw pc w n e, hinflight, hce, hue⟩
  case limit =>
    exact ⟨_, exec_admLimitWrite hw v, .ofDev (.ofRegs (s.dev.admLimit_regs v.toNat)), s.dev.admLimit_shadow v.toNat⟩
  case grants =>
    have hmemory : SameMemory s { s with dev := s.dev.regrantWith x } := ⟨rfl, rfl, rfl⟩
    refine ⟨_, exec_grantRecompute hrun x, hmemory, ?_⟩
    dsimp only
    exact ⟨s.dev.regrantWith_exits x, s.dev.regrantWith_fits x, s.dev.regrantWith_short x,
      fun g hg => s.dev.regrantWith_forwarded x hg⟩

end Sys2Proof.Machine
end
